-- ==== Sys2Proof/Word.lean ====
section
/-! DEFINITION. The plainest types of the Tchiyx 4824: words, bytes, the two line ports. -/

namespace Sys2Proof

/-- A 32-bit register word (R466). -/
abbrev Word := BitVec 32

/-- A byte. -/
abbrev Byte := BitVec 8

/-- A line port: East or West. -/
inductive Port where
  | E
  | W
  deriving DecidableEq, Repr

/-- The number by which register tables index a port: 0 East, 1 West. -/
def Port.toNat : Port → Nat
  | .E => 0
  | .W => 1

/-- The other port. -/
def Port.other : Port → Port
  | .E => .W
  | .W => .E

/-- The port a bit names: 0 East, 1 West. -/
def Port.ofBit (n : Nat) : Port := if n % 2 = 0 then .E else .W

/-- One value for each port. -/
structure Pair (α : Type) where
  e : α
  w : α
  deriving DecidableEq, Repr

/-- The value of a port. -/
def Pair.get {α : Type} (x : Pair α) : Port → α
  | .E => x.e
  | .W => x.w

/-- Apply a change to one port's value. -/
def Pair.upd {α : Type} (x : Pair α) (p : Port) (f : α → α) : Pair α :=
  match p with
  | .E => ⟨f x.e, x.w⟩
  | .W => ⟨x.e, f x.w⟩

/-- A requester of arbiter 1, in the order of R397: the masters that access registers. -/
inductive Requester where
  | pcie
  | smbus
  | core0
  | core1
  | dma
  | jtag
  deriving DecidableEq, Repr

/-- The number of a requester in `LOCK_VIOL.MASTER` and `ERR_LOG.MASTER` (R471, R397). -/
def Requester.toNat : Requester → Nat
  | .pcie => 0
  | .smbus => 1
  | .core0 => 2
  | .core1 => 3
  | .dma => 4
  | .jtag => 5

end Sys2Proof
end

