-- ==== Sys2Proof/Syntax.lean ====
section
/-! DEFINITION. The commands: one constructor of `Instr` for each row of the table of operations and events, with the
data the outside world gives the block with it (the value written, the measured result, the received message). -/

namespace Sys2Proof

/-- One access of the register bus or of a table window, for the error log (R469): its requester, the BAR (0 or 2), the
byte offset in it, and whether it writes. -/
structure BusAccess where
  master : Requester
  bar2 : Bool
  offset : BitVec 24
  write : Bool
  deriving DecidableEq, Repr

/-- The blocks with spares and the memory lines (R17, R450): what a failed check names. `d` is a direction (0 add or
encryption side 0, 1 the other), `c` a converter 0 to 3, `t` a calibration task 0 or 1. -/
inductive Block where
  | txCluster (p : Port)
  | toLineBridge (p : Port)
  | txConv (p : Port) (c : Fin 4)
  | rxConv (p : Port) (c : Fin 4)
  | eqCluster (p : Port)
  | coefEngine (p : Port)
  | p1Lane (p : Port)
  | p2Lane (p : Port)
  | decoder (p : Port)
  | matcher (p : Port)
  | bchDecoder (p : Port)
  | fromLineBridge (p : Port)
  | toHubBridge
  | fromHubBridge
  | aes (d : Fin 2)
  | core
  | monConv
  | calDetector (p : Port) (t : Fin 2)
  deriving DecidableEq, Repr

/-- What a failed or completed check tells (R18 to R24): the cycle of its clock at which it completes, the stage or kind
of step (of a cipher pipeline, the word of the unit), the number of the work (hop, codeword, shaping block, lane; of a cipher
pipeline 192 times the channel plus the slot ordinal), the converter positions compared in one check window with their
deviation in 1/16 LSB of RMS (R68), and whether the failing unit is the spare that carries a redo. -/
structure CheckInfo where
  cycle : Nat
  stage : Nat
  num : Nat
  positions : List (Fin 256 × Nat)
  onSpare : Bool
  deriving DecidableEq, Repr

/-- What a calibration step measures of the unit in chrysalis (R71 to R73): its self-test, its offset and gain, and those
of the repeat that an implausible result asks for. -/
structure CalMeas where
  selfTest : Bool
  offset : Int
  gain : Int
  offset2 : Int
  gain2 : Int
  deriving DecidableEq, Repr

/-- The instant of a candidate for an eyespot: the count of TCLK cycles at stamp 0, and the stamps already taken
(R459, R460). -/
structure Instant where
  tclk : Nat
  stamps : List Nat
  deriving DecidableEq, Repr

/-- What stage D7 hands on at a command (R143, R167, R176): while the deframer hunts, how many bits of the stream, and once
it is in frame a frame, and the instant of its first FAW bit. -/
structure RxFrame where
  stretch : Nat
  inst : Instant
  deriving DecidableEq, Repr



/-- A negotiation message as received (R255), without TYPE: TXN, CAUSE, DIR, the `MOD_CFG` image, `RATE_Q` and `ROLLOFF` of
each direction, the frame counters at which they take effect. -/
structure NegMsg where
  txn : Nat
  cause : Nat
  dir : Nat
  modF : Nat
  rateF : Nat
  rollF : Nat
  atF : Nat
  modR : Nat
  rateR : Nat
  rollR : Nat
  atR : Nat
  deriving DecidableEq, Repr

/-- The fields of a `KEY_CMD` write beside its OP (R305). -/
structure KeyArgs where
  kek : Fin 4
  drop : Bool
  slot : BitVec 9
  ch : BitVec 8
  deriving DecidableEq, Repr

/-- An instant as the stamp unit counts it (R347): TCLK since reset and 64ths of a TCLK. An instant synchronous to RCLK is
given by its RCLK phase 0 to 19 instead. -/
structure Stamp where
  tclk : Nat
  phase : Fin 20
  deriving DecidableEq, Repr

/-- The kinds of PTP message (R346). -/
inductive PtpKind where
  | sync
  | followUp
  | delayReq
  | delayResp
  | announce
  | management
  | signalling
  deriving DecidableEq, Repr

/-- A PTP message (R346): its domain, whether a Sync is one-step, the time it carries with its correction field in units
of 2^−16 ns, what an Announce carries, and the port identity, the number and the correction field that the answer to a Delay_Req
takes over (IEEE 1588-2019). -/
structure PtpMsg where
  kind : PtpKind
  domain : Byte
  twoStep : Bool
  time : Int
  gmId : BitVec 64
  gmQual : Word
  gmVar : BitVec 16
  steps : BitVec 16
  utc : BitVec 16
  leap : BitVec 2
  source : BitVec 80
  seq : BitVec 16
  corr : BitVec 64
  deriving DecidableEq, Repr

/-- Where a message crosses (R347 to R350): a host client with its raw stamp, or a line port with the index of the frame
that carries its START cell and the instant t_B. -/
inductive Crossing where
  | host (k : Fin 24) (t : Stamp)
  | line (p : Port) (f : Byte) (tB : Stamp)
  deriving DecidableEq, Repr

/-- How the parts outside the cores that a mailbox command uses serve it: well, with a DMA error code, or with a flash
error at an offset (R372). -/
inductive MbxServed where
  | ok
  | dmaError (code : Nat)
  | flashError (offset : Nat)
  deriving DecidableEq, Repr

/-- A host completion (R391, R392): data, or an error: 1 UR or CA, 3 poisoned, 4 link down. -/
inductive HostCpl where
  | data (bytes : List Byte)
  | error (cause : Fin 5)
  deriving DecidableEq, Repr

/-- Who meets an uncorrectable read (R407); a lookup names its table as `CHK_ERR` codes it: 0 flow, 1 VLAN, 2 slot, 3 channel
(R208). -/
inductive MemReader where
  | fetch
  | load
  | dma (c : Fin 16)
  | host (a : BusAccess)
  | lookup (t : Fin 4)
  | cryptoTable
  | keyStore (slot : Nat)
  | masterKey (m : Nat)
  | kekKey (k : Nat)
  | calStore (entry : Nat)
  | flashSlot (b : Bool)
  | scrub
  deriving DecidableEq, Repr

/-- What comes of a memory line whose CRC fails (R404, R405): the store as `UE_INFO` codes it, the page or line, whether
the refetch or recomputation gives the content, whether the line is LASTING, and otherwise how many bits the page decode
corrects, where the store has one and it succeeds; whether a spare row is left for the line, or remapping in HBM3E; the page of the
block that owns it; and, where it lies in HBM3E, the dual-path channels whose deskew buffer lies in its storage (R248). -/
structure MemFault where
  store : Fin 6
  index : BitVec 24
  refetchOk : Bool
  lasting : Bool
  pageBits : Option Nat
  spareRow : Bool
  owner : Fin 47
  deskew : Option (List (Fin 192))
  deriving DecidableEq, Repr

/-- The codes of an entry's slots (R414, R415), linearised: of the two converters, of the retry slot and of the reference
slot. With one converter left `a` is CH on it and `b` CH2 or the second conversion. -/
structure ConvCodes where
  a : BitVec 16
  b : BitVec 16
  ra : BitVec 16
  rb : BitVec 16
  refA : BitVec 16
  refB : BitVec 16
  deriving DecidableEq, Repr

/-- What a rail answers at a tick (R429): whether it answers within the retry, and the raw READ_VOUT (LINEAR16) with the
exponent of VOUT_MODE, and READ_IOUT (LINEAR11). -/
structure RailRead where
  rail : Fin 16
  ok : Bool
  vout : BitVec 16
  vexp : BitVec 5
  iout : BitVec 16
  deriving DecidableEq, Repr

/-- What the device measures at a management tick (R312): the TCLK count; the HCLK cycles since the last tick in which the
shared pool stood above `OCC_N`, used where it crossed that level (R446); the offset sample of each reference input in
0.01 ppm (R327); phase error and frequency of DPLL0 and DPLL1 and the lock of DPLL1 (R330, R331); the noise floor of X and Y
of each port in 0.01 dBFS/GHz (R86); the in-band power of both polarisations of each port in 0.01 dBFS (R121); the skew estimates of calibration runs by port, converter and
sampling switch (R72); the codes of the
temperature channels 0 to 23 in 1/128 °C as an urgent conversion gives them (R435); the rail readings (R429); the lowest
timing slack in ps (R430). -/
structure TickInputs where
  tclk : Nat
  above : Nat
  refs : List Int
  phase : Int
  freq : Int
  phase1 : Int
  freq1 : Int
  err1 : Int
  noise : Pair (Int × Int)
  power : Pair Int
  skew : List (Port × Fin 4 × Fin 40 × Int)
  temps : List Int
  rails : List RailRead
  slack : Int
  deriving DecidableEq, Repr

/-- The fields that a read clears (R477): `STORE.PEAK` of a port, `URG_RESULT.DONE`. -/
inductive RcField where
  | storePeak (p : Port)
  | urgDone
  deriving DecidableEq, Repr

/-- The kinds of PCIe reset that act alike (R379, R521): a hot reset, link down, a function-level reset, PCIE_PERST_N
asserted. With the link down, and while PCIE_PERST_N is low, the link stays down. -/
inductive PcieReset where
  | hot
  | linkDown
  | functionLevel
  | perst
  deriving DecidableEq, Repr

/-- What the host writes into the configuration space once the endpoint answers (R456, R388): MSI-X enable and function
mask, Max_Payload_Size in bytes. -/
structure HostConfig where
  msixEnable : Bool
  fnMask : Bool
  maxPayload : Nat
  deriving DecidableEq, Repr

/-- The commands of the block: the rows of the table of operations and events. -/
inductive Instr where
  /-- The power-on reset resets the device into chrysalis and retests the quarantined units. (R20) -/
  | powerOnReset
  /-- RESET_N held low for at least 1 µs resets the device into chrysalis and keeps quarantine and the calibration store. (R520) -/
  | resetN (lowNs : Nat)
  /-- The internal reset asserts when VDD_CORE falls below 0.63 V or VDD_IO below 1.55 V, and acts as RESET_N. (R520) -/
  | internalPowerOnReset
  /-- Loss of power zeroes the converters, takes TX_RAMP and BYPASS_HOLD low and leaves the package in CHRYSALIS. (R59) -/
  | lossOfPower
  /-- A supply leaves tolerance; behaviour is unspecified until a reset asserts, and the clamped outputs stay safe. (R521) -/
  | supplyOutOfTolerance
  /-- A PCIe hot reset, link down or function-level reset resets the configuration space and MSI-X table, halts DMA and stops telemetry, and keeps the data path running. (R379) -/
  | pcieHotReset (k : PcieReset)
  /-- An SMBus bus reset ends any mailbox 1 transfer in progress. (R379) -/
  | smbusBusReset
  /-- The retest of quarantined units and the restore of the calibration store end, and the spared blocks rebuild their unit assignments. (R490) -/
  | powerOnRetestDone (passed : List (Block × Nat)) (rows : List (Fin 47 × BitVec 24))
  /-- The 1.000 ms management tick paces the service work done once per tick. (R312) -/
  | managementTick (x : TickInputs)
  /-- A unit's check fails; the work is redone once on a spare, or the fault falls in an R23 window as a second fault. (R19) -/
  | unitCheckFail (b : Block) (u : Nat) (i : CheckInfo)
  /-- The second attempt completes and classifies the fault as TRANSIENT, LASTING or EXHAUSTED. (R20) -/
  | classifyingAttemptDone (b : Block) (u : Nat) (pass : Bool) (i : CheckInfo)
  /-- A spare's self-test in chrysalis completes; the spare ecloses, or is quarantined as LASTING if the test fails. (R25) -/
  | spareSelfTestDone (b : Block) (u : Nat) (pass : Bool)
  /-- The head of the idle queue takes over a failed position within 128 CCLK of the failed check. (R68) -/
  | subconverterTakeover (tx : Bool) (p : Port) (c : Fin 4) (pos : Fin 256)
  /-- A failed replica-current sense comparison drives the sub-converter's positions at mid-scale until a spare takes over. (R53) -/
  | txSubconverterSenseFail (p : Port) (c : Fin 4) (pos : Fin 256) (cycle : Nat)
  /-- When DWELL_MS expires, the tested transmit spare ecloses and the next cluster enters chrysalis. (R52) -/
  | txClusterRotation (p : Port)
  /-- When DWELL_MS expires, the tested equaliser spare ecloses into the next lane at that lane's next hop. (R104) -/
  | eqClusterRotation (p : Port)
  /-- When DWELL_MS expires, a tested spare decoder ecloses into the next slot at that slot's next dispatch. (R151) -/
  | decoderSpareRotation (p : Port)
  /-- Setting TX_ENABLE starts the ramp-up with repeating preambles, or is refused with CFG_REFUSED. (R59) -/
  | txEnableSet (r : Requester) (p : Port)
  /-- Clearing TX_ENABLE starts a ramp-down from the current attenuation. (R59) -/
  | txEnableClear (r : Requester) (p : Port)
  /-- A write of 1 asks for one preamble in the next superframe with room for it. (R56) -/
  | forcePreamble (r : Requester) (p : Port)
  /-- The once-per-frame update moves the attenuation A and splits it between the VOA and the converters. (R57) -/
  | rampStep (p : Port)
  /-- The end marker completes at the superframe boundary, payload starts and TX_ON is raised. (R59) -/
  | preambleEndMarkerDone (p : Port)
  /-- A requested preamble is sent every PRE_INTERVAL superframes while the far or local acquisition condition holds. (R56) -/
  | preambleScheduled (p : Port)
  /-- A write of REGION_RESET resets both regions of one port, ending the port's pending eclosions with RESULT 8. (R118) -/
  | regionResetRequest (r : Requester) (p : Port)
  /-- Both regions have reset, RESET_BUSY clears and the enables read 0. (R118) -/
  | regionResetDone (p : Port)
  /-- A background or run calibration step moves the chrysalis unit and ecloses the head of the idle queue for a 1,024-sample comparison. (R71) -/
  | calStep (tx : Bool) (p : Port) (c : Fin 4) (m : CalMeas)
  /-- The 1,024-sample comparison ends; the new unit takes the position, or the comparison counts as a failed check. (R71) -/
  | calEclosionCompareDone (tx : Bool) (p : Port) (c : Fin 4) (diff : Nat)
  /-- A write of CAL_NOW requests a calibration run, or makes one pending if a run is in progress. (R72) -/
  | calNow (r : Requester) (p : Port)
  /-- Setting CAL_HOLD stops a run in progress after its current step and starts no new run. (R74) -/
  | calHoldSet (r : Requester) (p : Port)
  /-- With no carrier within 1 s of the run start, the skew phase ends with SKEW_SKIPPED set. (R72) -/
  | skewPhaseTimeout (p : Port)
  /-- Both phases of a run end, and the trims and position map are written to the calibration store. (R76) -/
  | calRunEnd (p : Port)
  /-- Setting RX_ENABLE starts a calibration run and moves acquisition to NO_SIGNAL, or is refused. (R88) -/
  | rxEnableSet (r : Requester) (p : Port)
  /-- Clearing RX_ENABLE stops acquisition and returns it to IDLE. (R88) -/
  | rxEnableClear (r : Requester) (p : Port)
  /-- A write of FORCE_REACQ moves acquisition to CD_SCAN. (R88) -/
  | forceReacq (r : Requester) (p : Port)
  /-- At the end of each 1.000 µs frame interval the input power is judged, and loss of signal is declared or cleared. (R85) -/
  | signalPowerInterval (p : Port) (powX powY metric : Nat)
  /-- The dispersion scan ends and goes to TIMING with D̂ loaded, or to NO_CARRIER. (R83) -/
  | cdScanDone (p : Port) (coarse fine : List Nat)
  /-- After 1 ms in NO_CARRIER a noise-floor tick is recorded and the scan restarts. (R88) -/
  | noCarrierRetry (p : Port) (noiseX noiseY : Int)
  /-- A preamble correlation peak above threshold starts the F̂ estimate and enters PRE_TRACK. (R88) -/
  | preamblePeakDetected (p : Port) (quality : Nat)
  /-- The end marker freezes and applies F̂, hands the superframe boundary to the decoder and enters EQ_TRAIN, or discards F̂. (R88) -/
  | endMarkerDetected (p : Port) (fHat : Int) (quality before : Nat)
  /-- An acquisition state timer expires, the cause is recorded and acquisition returns to CD_SCAN. (R89) -/
  | acqStateTimeout (p : Port)
  /-- A complete hop is handed to its lane's cluster, which runs stages E1 to E4. (R97) -/
  | hopHandoff (p : Port) (codes : List (List Byte))
  /-- A hop is released at cycle 1,280, as data or as erasures, into the phase stitch and demapper. (R99) -/
  | hopRelease (p : Port)
  /-- The coefficient engine writes an update into the standby bank, which swaps at the next hop boundary. (R105) -/
  | coefUpdateDone (p : Port)
  /-- A codeword takes a store entry and is dispatched to the decoder of its slot. (R146) -/
  | codewordDispatch (p : Port) (t : Instant)
  /-- A decoder converges, or reaches the effective ceiling and leaves the codeword uncorrectable. (R144) -/
  | decodeDone (p : Port) (num : Nat)
  /-- A codeword is released from the reorder buffer at its fixed cycle, and its outcome is counted. (R157) -/
  | codewordRelease (p : Port) (iters : Nat)
  /-- A BCH block leaves stage D6 flagged corrected or uncorrectable. (R154) -/
  | bchDecodeDone (p : Port)
  /-- At each transmit frame start the frame counter advances and the framer builds the frame's overhead, cells and payload. (R162) -/
  | frameStart (p : Port) (t : Instant) (part : Nat)
  /-- A received frame ends, and the deframer judges it good or not and acts on its overhead fields. (R167) -/
  | receivedFrame (p : Port) (x : RxFrame)
  /-- Each 1.000 µs spent in OOF counts as one errored block. (R179) -/
  | oofMicrosecond (p : Port)
  /-- 3 ms of continuous OOF in ACQUIRED declares LOF and reports loss of frame. (R177) -/
  | lofTimer (p : Port)
  /-- 3 ms of continuous SYNC clears LOF. (R177) -/
  | lofClearTimer (p : Port)
  /-- A complete Dvorrov message passes its CRC and is handed to its class's service. (R175) -/
  | dvorrovMessageReceived (p : Port)
  /-- FAW_ERR = n inverts one FAW bit in each of the next n frames sent. (R184) -/
  | fawErrorInject (r : Requester) (p : Port) (n : Byte)
  /-- FCS_ERR = n inverts one check-sequence bit in each of the next n frames sent. (R184) -/
  | fcsErrorInject (r : Requester) (p : Port) (n : Byte)
  /-- A second boundary classifies the second, runs the availability pipeline and commits the second ten seconds old. (R180) -/
  | pmSecond (p : Port) (t : Nat)
  /-- A write of REQ_E or REQ_W checks the standby banks and schedules a transmit bank swap, or refuses it. (R218) -/
  | swapRequest (r : Requester) (reqE reqW : Bool)
  /-- Setting ENABLE starts the lane's transmit stream, or is refused when headroom would exceed the buffer. (R221) -/
  | laneEnable (r : Requester) (n : Fin 24)
  /-- Clearing ENABLE stops the transmitter at the next block boundary. (R189) -/
  | laneDisable (r : Requester) (n : Fin 24)
  /-- Clock lock is acquired, and with AUTO set the peaking sweep starts. (R188) -/
  | cdrLockAcquired (n : Fin 24)
  /-- After 1 ms of trying all codes, the receiver holds the peaking with the largest eye metric. (R188) -/
  | peakingSweepDone (n : Fin 24) (code : Fin 37)
  /-- Loss of clock lock ends the packet in progress with an error block. (R190) -/
  | cdrLockLost (n : Fin 24) (sig : Bool) (part : List Byte) (ns : Nat) (first : Bool)
  /-- An Ethernet frame is taken in, checked, classified into a flow, policed and queued, or discarded. (R193) -/
  | ingressFrame (k : Fin 24) (bytes : List Byte) (broken : Bool) (ns : Nat) (first : Bool) (corr uncorr : Nat)
  /-- A PFC frame from the host pauses drop egress of its classes. (R222) -/
  | pfcFrameReceived (k : Fin 24) (vec : Byte) (times : List (BitVec 16))
  /-- Every 32,768 bit times above XON the PFC frame is repeated, and at XON quanta 0 is sent. (R222) -/
  | pfcRepeatTimer (k : Fin 24) (c : Fin 8)
  /-- An Ianen lane frame is decoded and drives alignment, lane control and credits. (R198) -/
  | ianenLaneFrame (n : Fin 24) (levels : List (Fin 4))
  /-- A sender starts a held packet once its credit allows. (R200) -/
  | ianenPacketStart (n : Fin 24) (c : Fin 8)
  /-- ERR_INJ = n inverts one bit in each of the next n 64-bit words of the lane generator. (R201) -/
  | lanePrbsErrorInject (r : Requester) (n : Fin 24) (words : Byte)
  /-- A dropped packet is delivered to the flow its DROP_TAG names, or counted as a drop tag miss. (R207) -/
  | dropPacketDelivery (ch : Fin 192)
  /-- A BAR2 table write updates the entry, or is dropped with LOCK_VIOL for a bank or channel in force. (R208) -/
  | tableEntryWrite (r : Requester) (off : Fin 4194304) (data : Word) (be : BitVec 4)
  /-- A write of EMERGE takes the package into IN_RING, or is refused and recorded. (R260) -/
  | emerge (r : Requester)
  /-- A write of ENTER takes the bypass outputs low and the package into CHRYSALIS. (R260) -/
  | enterRing (r : Requester)
  /-- An SF cause present without a break for HOLDOFF moves the local report to SF. (R251) -/
  | holdoffExpiry (p : Port)
  /-- The WTR timer of a local report ends and the report returns to OK. (R251) -/
  | reportWtrExpiry (p : Port)
  /-- Setting or clearing FORCE_E or FORCE_W moves the local report into or out of FORCED. (R251) -/
  | reportForce (r : Requester) (p : Port) (on : Bool)
  /-- A change of the failed-span set loads the matching plan into the standby banks and requests swaps, or raises NO_PLAN. (R253) -/
  | restorationPlanApply
  /-- After 20 ms without the neighbour's PLAN, the transmit swap is requested anyway. (R253) -/
  | planSwapTimeout (p : Port)
  /-- At a source unit's release time the selector judges both copies and releases one, counting changes and losses. (R247) -/
  | dpUnitRelease (ch : Fin 192) (sfc : Nat) (diff : Int)
  /-- A PROPOSE is answered with ACCEPT or REJECT. (R256) -/
  | proposeReceived (p : Port) (m : NegMsg) (atR : Nat)
  /-- An ACCEPT makes the proposer stage TXMOD and RXMOD at AGREED and send CONFIRM. (R256) -/
  | acceptReceived (p : Port) (m : NegMsg)
  /-- A REJECT returns the proposer to IDLE with its cause recorded. (R256) -/
  | rejectReceived (p : Port) (m : NegMsg)
  /-- A CONFIRM makes the responder stage RXMOD at AT_F and TXMOD at AT_R. (R256) -/
  | confirmReceived (p : Port) (m : NegMsg)
  /-- An ABORT withdraws what has not taken effect and may stage a revert. (R256) -/
  | abortReceived (p : Port) (m : NegMsg)
  /-- FC reaching AT_F − 8 superframes in WAIT_ACCEPT counts a timeout and returns the proposer to IDLE. (R256) -/
  | proposerTimeout (p : Port)
  /-- FC_RX reaching AT_F − 2 superframes without a CONFIRM sends ABORT with cause 6. (R256) -/
  | responderConfirmTimeout (p : Port)
  /-- Both boundaries have passed, the glide is counted and the transaction returns to IDLE. (R256) -/
  | glideBoundariesPassed (p : Port)
  /-- After a mutual rejection the service retries its proposal after a random 2 to 32 ms. (R256) -/
  | proposeRetryTimer (p : Port)
  /-- The command unwraps a key set into an EMPTY key slot under the named KEK. (R301) -/
  | unwrapSet (r : Requester) (a : KeyArgs)
  /-- The command unwraps a channel master key. (R301) -/
  | unwrapMaster (r : Requester) (a : KeyArgs)
  /-- The command unwraps a KEK under another KEK. (R300) -/
  | unwrapKek (r : Requester) (a : KeyArgs)
  /-- The command writes a KEK in plaintext while SEALED is 0. (R300) -/
  | plainKek (r : Requester) (a : KeyArgs)
  /-- The command derives a key set with the SP 800-108 KDF under the channel master key. (R302) -/
  | derive (r : Requester) (a : KeyArgs)
  /-- The command binds a LOADED slot as the active key of a direction. (R279) -/
  | setAct (r : Requester) (a : KeyArgs)
  /-- The command binds a LOADED slot of the next epoch as the next key. (R279) -/
  | setNxt (r : Requester) (a : KeyArgs)
  /-- The command requests an add-direction key switch, which is announced ANN_LEAD superframes ahead. (R281) -/
  | switchKey (r : Requester) (a : KeyArgs)
  /-- The command erases a key slot in any state. (R280) -/
  | eraseSlot (r : Requester) (a : KeyArgs)
  /-- The command erases a channel master key. (R300) -/
  | eraseMaster (r : Requester) (a : KeyArgs)
  /-- The command erases a KEK. (R300) -/
  | eraseKek (r : Requester) (a : KeyArgs)
  /-- The command sets SEALED, after which a KEK is written only by UNWRAP_KEK. (R300) -/
  | sealSet (r : Requester)
  /-- A key command completes, BUSY clears and RESULT is set. (R305) -/
  | keyCommandDone
  /-- At SWITCH_SS the next key becomes ACTIVE, the old key is erased and the new EPOCH is sent. (R281) -/
  | addSwitchBoundary (ch : Fin 192)
  /-- At the resolved boundary the drop next key becomes ACTIVE and the old key becomes RETIRING. (R282) -/
  | dropSwitchBoundary (ch : Fin 192)
  /-- 16 source superframes after its switch, a RETIRING key is erased. (R278) -/
  | retiringKeyExpiry (ch : Fin 192)
  /-- At the deadline with no matching tag, the superframe's verdict is FAIL. (R289) -/
  | verdictDeadline (ch : Fin 192) (n : Nat)
  /-- A verdict report is sent to a client at its next packet boundary. (R290) -/
  | verdictReportSend (ch : Fin 192)
  /-- A write of a channel to RESUME clears its INTEG_SQUELCH. (R292) -/
  | resume (r : Requester) (ch : Byte)
  /-- A held unit leaves at the later of its due time and its superframe's PASS. (R293) -/
  | heldUnitRelease (ch : Fin 192)
  /-- When ROT_PERIOD expires, the rotation service requests an add switch. (R303) -/
  | keyRotationTimer (ch : Fin 192)
  /-- The DRBG is reseeded from the health-tested noise source, or ENTROPY_FAIL is raised. (R304) -/
  | drbgReseed (healthy : Bool)
  /-- A FOSC qualification window ends and passes, retrims FOSC or fails it; the control complex leaves reset. (R313) -/
  | foscQualWindow (count : Nat) (gap : Bool)
  /-- RCLK not qualified within 5.0 ms of the reset release is declared an RCLK failure. (R314) -/
  | rclkStartupTimeout
  /-- The analogue PLL reports lock and the monitor starts a fresh window. (R315) -/
  | apllLock
  /-- The analogue PLL reports loss of lock, which is declared an RCLK failure. (R320) -/
  | apllLockLost
  /-- A 1.28 µs monitor window ends, and RCLK and XREF are judged qualified, failed or lost. (R315) -/
  | clockMonitorWindow (rclk xref : Nat) (dieBad : Bool)
  /-- No XREF edge in 64 FOSC cycles declares XREF lost. (R320) -/
  | xrefGap
  /-- After 8 destination periods the control domain runs on its new clock. (R317) -/
  | controlClockSwitchDone
  /-- RCLK qualified for RESTORE_MS returns the control complex to MCLK. (R318) -/
  | restoreTimer
  /-- A write of RETURN_NOW while RCLK is qualified returns the control complex to MCLK. (R318) -/
  | returnNow (r : Requester)
  /-- No hold refresh for 500 ns takes BYPASS_HOLD and TX_RAMP low. (R319) -/
  | holdRefreshTimeout
  /-- A close request stops new accesses to the domain, or is refused when the domain is in use. (R322) -/
  | gateClose (r : Requester) (domain : Fin 32)
  /-- The gate closes when the interface is idle, or by force at 256 cycles. (R322) -/
  | gateCloseComplete (idle : Bool) (stalled : BusAccess)
  /-- An open request restarts the domain's clock on the next coincidence edge. (R323) -/
  | gateOpen (r : Requester) (domain : Fin 32)
  /-- The domain accepts accesses 4 MCLK after its clock restarts. (R323) -/
  | gateOpenComplete
  /-- A PROBE_CFG write selects the CLKPROBE source, or is refused whole above 400 MHz. (R324) -/
  | probeCfgWrite (r : Requester) (value : Word)
  /-- An input becomes present and enters MEASURE, or stops being present and goes to FAILED. (R326) -/
  | referencePresenceChange (i : Fin 12) (edges : Bool)
  /-- 64 ticks of measurement complete, and the input enters WTR or OUT. (R327) -/
  | refMeasureComplete (i : Fin 12)
  /-- An input's WTR timer ends and the input becomes QUALIFIED. (R327) -/
  | refWtrExpiry (i : Fin 12)
  /-- Setting FORCE_EN selects the forced input, or sets FORCE_REFUSED. (R328) -/
  | forceEnSet (r : Requester) (idx : Fin 16)
  /-- A phase error within LOCK_NS for LOCK_S moves DPLL0 to LOCKED. (R331) -/
  | dpllLockAchieved
  /-- After 100 ms of measuring Δφ, DPLL0 enters SWITCHING. (R331) -/
  | dpllMeasureDone (dphi : Int)
  /-- The residual phase offset reaches 0 and DPLL0 returns to LOCKING. (R332) -/
  | dpllSwitchComplete
  /-- A write of STEP adds STEP_S and STEP_NS to the time base, or is refused while TIME_LOCK is 1. (R340) -/
  | stepTime (r : Requester) (x : Fin 4)
  /-- A received PTP message is stamped and updates the servo, which may step or slew. (R341) -/
  | ptpMessageReceived (c : Crossing) (m : PtpMsg)
  /-- A Sync is sent at its message rate with its transmit stamp. (R352) -/
  | ptpSyncSend (x : Fin 4) (shadow : Bool) (c : Crossing)
  /-- The announce receipt timeout enters holdover, freezing ADJ and clearing the locks. (R342) -/
  | announceTimeout (x : Fin 4) (shadow : Bool)
  /-- A switch to the shadow grandmaster exchanges the servo roles and slews out the offset. (R345) -/
  | grandmasterSwitch (r : Requester) (x : Fin 4)
  /-- 2 s without a servo update clears FREQ_LOCK and TIME_LOCK. (R361) -/
  | servoUpdateTimeout (x : Fin 4)
  /-- The selected time base crosses a whole second and PPS_OUT rises. (R353) -/
  | ppsOutEdge (t : Nat)
  /-- A PPS_IN edge is stamped and disciplines the time base that uses it as source. (R354) -/
  | ppsInEdge (t : Nat) (part : Fin 64) (falling : Bool)
  /-- Within 10 ms of a PPS edge a TOD message naming it is sent. (R355) -/
  | todOutSend
  /-- A TOD_IN message is accepted, or discarded for a CRC error or lateness. (R355) -/
  | todInReceived (bytes : List Byte) (t : Nat)
  /-- A write of LATCH latches all four time bases at one TCLK cycle. (R358) -/
  | latchTime (r : Requester) (t : Nat)
  /-- The boot ROM loads the first valid firmware slot into both cores, or enters recovery. (R364) -/
  | bootRomStart
  /-- The ACTIVE core applies the valid configuration copy under its POLICY. (R367) -/
  | configRestore
  /-- With POLICY 2, loop acquisition or the 10 s wait ends, and the core emerges or cancels. (R367) -/
  | restoreEmergeWaitEnd
  /-- The command returns the running version, SVN and ACTIVE core. (R373) -/
  | ping (r : Requester) (x : Fin 2) (tag words : Byte)
  /-- The command returns the slot versions, the boot preference and MIN_SVN. (R373) -/
  | getInfo (r : Requester) (x : Fin 2) (tag words : Byte)
  /-- The command writes a firmware image and its flash parity to a slot. (R373) -/
  | fwWrite (r : Requester) (x : Fin 2) (tag words : Byte) (image : List Byte)
  /-- The command checks a slot and returns its version and SVN. (R373) -/
  | fwVerify (r : Requester) (x : Fin 2) (tag words : Byte)
  /-- The command hands the services over to a new image without affecting the data path. (R368) -/
  | fwMoult (r : Requester) (x : Fin 2) (tag words : Byte)
  /-- At a tick boundary the ACTIVE role, the mailboxes and the watchdog move to the new core. (R368) -/
  | moultHandover
  /-- The old core is loaded with the new image, self-tested and made STANDBY. (R368) -/
  | moultStandbyReady
  /-- The command sets the boot preference to a valid slot. (R373) -/
  | fwSetBoot (r : Requester) (x : Fin 2) (tag words : Byte)
  /-- The command raises the fused MIN_SVN irreversibly. (R373) -/
  | fwCommitSvn (r : Requester) (x : Fin 2) (tag words : Byte)
  /-- In recovery, the command boots the named slot. (R373) -/
  | fwBoot (r : Requester) (x : Fin 2) (tag words : Byte)
  /-- The command writes the configuration to the flash copy with the lower SEQ. (R366) -/
  | cfgSave (r : Requester) (x : Fin 2) (tag words : Byte)
  /-- The command clears the configuration copies. (R373) -/
  | cfgClear (r : Requester) (x : Fin 2) (tag words : Byte)
  /-- The command sets TX_ENABLE and RX_ENABLE and waits for ACQUIRED. (R374) -/
  | linkUp (r : Requester) (x : Fin 2) (tag words : Byte)
  /-- The command disables a port. (R373) -/
  | linkDown (r : Requester) (x : Fin 2) (tag words : Byte)
  /-- The command runs a rate glide as proposer until both boundaries have passed. (R374) -/
  | glide (r : Requester) (x : Fin 2) (tag words : Byte)
  /-- The command loads a restoration plan keyed by a set of spans. (R373) -/
  | planLoad (r : Requester) (x : Fin 2) (tag words : Byte) (data : List Word)
  /-- The command deletes a plan that is not in force. (R373) -/
  | planDelete (r : Requester) (x : Fin 2) (tag words : Byte)
  /-- The command returns the bitmap of loaded plans. (R373) -/
  | planList (r : Requester) (x : Fin 2) (tag words : Byte)
  /-- The command returns the plan in force, NO_PLAN, HOLD and the failed spans. (R373) -/
  | protStatus (r : Requester) (x : Fin 2) (tag words : Byte)
  /-- The command sets or clears HOLD on the protection service. (R373) -/
  | protHold (r : Requester) (x : Fin 2) (tag words : Byte)
  /-- The command configures a PTP port instance of a time base. (R373) -/
  | ptpPortCfg (r : Requester) (x : Fin 2) (tag words : Byte)
  /-- The command sets the clock dataset of a time base. (R373) -/
  | ptpClockCfg (r : Requester) (x : Fin 2) (tag words : Byte)
  /-- The command returns the PTP dataset of a time base instance. (R373) -/
  | ptpDataset (r : Requester) (x : Fin 2) (tag words : Byte)
  /-- The command returns one performance monitoring bin record. (R375) -/
  | pmRead (r : Requester) (x : Fin 2) (tag words : Byte)
  /-- The command writes the current and history bins to host memory. (R373) -/
  | pmReadBulk (r : Requester) (x : Fin 2) (tag words : Byte)
  /-- The command marks the current bins of an entity SUSPECT. (R373) -/
  | pmRestart (r : Requester) (x : Fin 2) (tag words : Byte)
  /-- The command returns the key rotation state of a channel. (R373) -/
  | krStatus (r : Requester) (x : Fin 2) (tag words : Byte)
  /-- The command requests a key switch at once. (R374) -/
  | krRotateNow (r : Requester) (x : Fin 2) (tag words : Byte)
  /-- The command starts calibration runs on the ports named and waits for them. (R373) -/
  | calRun (r : Requester) (x : Fin 2) (tag words : Byte)
  /-- The command returns calibration age, T_REF and the plausibility flag. (R373) -/
  | calStatus (r : Requester) (x : Fin 2) (tag words : Byte)
  /-- The command sets or disables the package power cap. (R433) -/
  | pwrCap (r : Requester) (x : Fin 2) (tag words : Byte)
  /-- The command returns the die and package powers and the CAP of each port. (R373) -/
  | pwrReport (r : Requester) (x : Fin 2) (tag words : Byte)
  /-- The command starts telemetry publication to a host ring. (R376) -/
  | telStart (r : Requester) (x : Fin 2) (tag words : Byte)
  /-- The command stops telemetry publication. (R373) -/
  | telStop (r : Requester) (x : Fin 2) (tag words : Byte)
  /-- A doorbell with an unknown OP ends with status 1. (R372) -/
  | unknownOp (r : Requester) (x : Fin 2) (op : BitVec 16) (tag words : Byte)
  /-- A command completes, writes its response and status, clears BUSY and sets DONE. (R370) -/
  | mailboxCommandDone (x : Fin 2) (o : MbxServed)
  /-- A write of MBX_ABORT ends the abortable command with status 13. (R374) -/
  | mbxAbort (r : Requester) (x : Fin 2)
  /-- Each period a telemetry record is written to the host ring. (R376) -/
  | telemetryRecord (ok : Bool)
  /-- The ACTIVE core not refreshing the watchdog for WDOG_MS triggers an emergency moult. (R369) -/
  | watchdogExpiry
  /-- A write of MOULT_REQ triggers an emergency moult. (R369) -/
  | moultReq (r : Requester)
  /-- The former ACTIVE core's self-test ends, and the core becomes STANDBY or is quarantined. (R369) -/
  | coreSelfTestDone (pass : Bool)
  /-- A W1C write of NMI_CAUSE clears bits and releases NMI_N when none remains. (R378) -/
  | nmiCauseClear (r : Requester) (bits : BitVec 3)
  /-- Setting RUN starts a channel on its ring. (R384) -/
  | dmaChannelRun (r : Requester) (c : Fin 16)
  /-- A TAIL write posts descriptors, or is dropped if it would reach HEAD. (R384) -/
  | dmaDoorbell (r : Requester) (c : Fin 16) (tail : BitVec 15)
  /-- A host read completion arrives, or carries an error that halts the engine. (R391) -/
  | dmaReadCompletion (c : Fin 16) (desc : Bool) (x : HostCpl)
  /-- A descriptor completes, is written back and raises its event, and HEAD advances. (R391) -/
  | dmaDescriptorDone (c : Fin 16)
  /-- A completion not arriving within CPL_TO halts the engine. (R392) -/
  | dmaCompletionTimeout (c : Fin 16) (desc : Bool)
  /-- A write of HALT_CLR clears an engine halt, or is dropped while ACTIVE is not 0. (R395) -/
  | haltClr (r : Requester)
  /-- A write of CH_RESET discards the channel's prefetch and buffer. (R395) -/
  | chReset (r : Requester) (c : Fin 16)
  /-- The arbiter's lottery draw grants one access among the askers and sends turn hints. (R398) -/
  | arbiterDraw (a : Fin 5) (askers : BitVec 6) (len : Nat)
  /-- A write loads the arbiter's LFSR state, and 0 is ignored. (R398) -/
  | arbSeed (r : Requester) (a : Fin 5) (value : Word)
  /-- A write of MODE releases a parked grant and applies from the next draw. (R403) -/
  | arbMode (r : Requester) (a : Fin 5) (mode : Bool)
  /-- Setting FREEZE stops new draws and releases a parked grant. (R401) -/
  | arbFreeze (r : Requester) (a : Fin 5)
  /-- FREEZE clears itself after 65,536 MCLK, and the expiry is counted. (R401) -/
  | arbFreezeExpiry (a : Fin 5)
  /-- A memory line fails its CRC and is refetched or recomputed, or the page decode runs. (R404) -/
  | memoryLineCrcFail (f : MemFault) (who : MemReader)
  /-- A scrub pass reads, decodes and rewrites every protected page. (R406) -/
  | scrubPass (corrected : Nat)
  /-- A sequencer round starts and issues its entries in slots, counting an overrun if late. (R414) -/
  | seqRoundStart (late : Bool)
  /-- An entry's conversion ends and updates its result through the filter chains and the alarm. (R414) -/
  | conversionDone (e : Fin 32) (x : ConvCodes)
  /-- A URG_REQ write with GO starts an urgent conversion, or is dropped while one is pending. (R416) -/
  | urgentConversionRequest (r : Requester) (ch : BitVec 6) (b : Bool)
  /-- The urgent result appears in URG_RESULT with DONE set. (R416) -/
  | urgentConversionDone (code : BitVec 16)
  /-- An FSWAP write starts a 16-round cross-fade, or is held pending or ignored. (R422) -/
  | filterBankSwapRequest (r : Requester) (e : Fin 32) (bank : Bool)
  /-- A transmit-skew or clock-phase run ends, and its results are accepted or judged implausible. (R426) -/
  | calTaskRunEnd (t : Fin 4) (first second : List Int)
  /-- PMB_ALERT_N low makes the controller read STATUS_WORD from every enabled rail. (R428) -/
  | pmbusAlert
  /-- A monitor reporting negative slack makes the hardware raise VOUT_COMMAND by 20 mV. (R430) -/
  | avsNegativeSlack
  /-- A W1C write clears event bits and may set the MSI-X latch if the summary stays at 1. (R452) -/
  | evtStatusClear (r : Requester) (page : Fin 47) (bits : Word)
  /-- A write sets event status bits as the events would, including the non-maskable path. (R454) -/
  | evtForce (r : Requester) (page : Fin 47) (bits : Word)
  /-- A set pending latch sends its MSI-X message once the link, enable and masks allow. (R456) -/
  | msixMessageSend (v : Fin 64)
  /-- A read of a counter's low word latches its upper word into the reader's CNT_HI. (R443) -/
  | counterLowRead (r : Requester) (page : Fin 47) (off : BitVec 12)
  /-- A read of a flow counter's first word latches its second word for the reader. (R445) -/
  | flowCounterRead (r : Requester) (idx : Fin 131072)
  /-- A write of 1 to bit 48 clears the flow counter's WRAPPED bit. (R445) -/
  | flowWrappedClear (r : Requester) (idx : Fin 131072)
  /-- A read of FC_TX_LO latches FC_TX_HI for the reader. (R184) -/
  | fcTxLoRead (r : Requester) (p : Port)
  /-- A read of FC_RX_LO latches FC_RX_HI for the reader. (R184) -/
  | fcRxLoRead (r : Requester) (p : Port)
  /-- A read of TIME_NS latches TIME_FRAC and the seconds registers. (R357) -/
  | timeNsRead (r : Requester) (x : Fin 4) (t : Nat)
  /-- A read of PPS_IN_NS latches PPS_IN_S. (R358) -/
  | ppsInNsRead (r : Requester)
  /-- A read of an RC field such as STORE.PEAK or URG_RESULT.DONE returns it and clears it. (R477) -/
  | rcFieldRead (r : Requester) (f : RcField)
  /-- A write of SNAP_CTRL.GO asks for a snapshot, or is refused while BUSY. (R449) -/
  | snapshotRequest (r : Requester) (atTick flows : Bool)
  /-- At the grant, or at the next tick, every selected counter is captured on one TCLK edge. (R447) -/
  | snapshotCapture (t : Nat)
  /-- The drain ends, BUSY clears and DONE is set with the capture instant. (R449) -/
  | snapshotDrainDone
  /-- An eyespot reaches its last stamp, or ends INCOMPLETE, and its record is buffered. (R459) -/
  | eyespotComplete (src : Fin 6) (stamps : List Nat) (flags work : Nat)
  /-- DMA channel 14 writes a buffered record into the host ring, or drops it when the ring is full. (R462) -/
  | traceRecordDeliver
  /-- A write loads each source's LFSR with TRACE_SEED + s. (R458) -/
  | traceSeed (r : Requester) (value : Word)
  /-- A STAGE_CTRL write with GO checks and accepts or refuses an eclosion of the named groups. (R481) -/
  | eclosionRequest (r : Requester) (page : Fin 47) (groups : BitVec 10) (b : BitVec 3) (at_ : BitVec 16) (cancel : Bool)
  /-- A write of CANCEL ends the pending request with RESULT 7. (R483) -/
  | eclosionCancel (r : Requester) (page : Fin 47)
  /-- At the commit instant every staged field of the named groups becomes active. (R481) -/
  | eclosionCommit (page : Fin 47)
  /-- A write of SOFT_RESET resets the page's fields and ends its pending requests, or is refused. (R472) -/
  | pageSoftReset (r : Requester) (page : Fin 47)
  /-- The block's internal state settles and SR_BUSY clears. (R472) -/
  | softResetSettleDone (page : Fin 47)
  /-- Setting FREEZE holds the readback of the page's RO fields. (R473) -/
  | pageFreeze (r : Requester) (page : Fin 47)
  /-- FREEZE clears itself 1.0 ms after it was set. (R473) -/
  | pageFreezeExpiry (page : Fin 47)
  /-- A BAR0 write with a byte enable at 0 is dropped and sets LOCK_VIOL with cause 5. (R468) -/
  | partialBar0Write (r : Requester) (off : BitVec 24)
  /-- An access meeting a closed domain, stopped RCLK or an uncorrectable read ends with an error response and is logged. (R469) -/
  | errorResponseAccess (a : BusAccess) (uncorrectable : Bool)
  /-- The SMBus READ command returns a status byte and a BAR0 word. (R470) -/
  | smbusRead (off : BitVec 24) (t : Nat)
  /-- The SMBus WRITE command writes a BAR0 word on a permitted page, or is refused. (R470) -/
  | smbusWrite (off : BitVec 24) (data : Word)
  /-- The SMBus STATUS command returns the status of the last WRITE. (R470) -/
  | smbusStatus
  /-- A write to a register without a row of its own takes effect under its access codes and lock rules. (R475) -/
  | registerWrite (r : Requester) (off : BitVec 24) (data : Word)
  /-- The release of RESET_N or of the power-on reset starts FOSC qualification, the analogue PLL and DPLL0 in free-run. (R488) -/
  | resetRelease
  /-- The release of PCIE_PERST_N lets the endpoint bring its link up and start its 100 ms configuration readiness. (R521) -/
  | pciePerstNRelease
  /-- 100 ms after the later release the endpoint stops answering with Configuration Request Retry Status and answers normally. (R489) -/
  | configurationRequestRetryEnd (x : HostConfig)
  /-- 200 µs after a domain is opened its analogue parts are powered and its ANALOG_READY bit is set. (R432) -/
  | analogReady (d : Fin 26)
  /-- A DPLL0 phase error beyond ±2 × LOCK_NS counts a lock loss and moves DPLL0 from LOCKED to LOCKING. (R331) -/
  | dpllLockLoss (phase : Int)
  /-- The pause time of a received PFC frame runs out and drop egress of its classes resumes. (R222) -/
  | pfcPauseExpiry (k : Fin 24) (c : Fin 8)
  /-- An Ethernet client's PCS gains or loses alignment, or local or remote fault changes, and CLIENT_STATUS changes. (R190) -/
  | pcsAlignmentChange (k : Fin 24) (aligned lf rf : Bool)
  /-- A host lane pattern checker locks after 64 correct bits, or loses lock on more than 16 errors in 1,024 bits. (R201) -/
  | lanePrbsLockChange (n : Fin 24) (levels : List (Fin 4))
  /-- A slave or boundary clock port sends a Delay_Req at its message rate. (R346) -/
  | delayReqSend (x : Fin 4) (shadow : Bool) (c : Crossing)
  /-- A master port sends an Announce at its message rate of 8 per second. (R346) -/
  | announceSend (x : Fin 4) (shadow : Bool) (port : Fin 26)
  deriving DecidableEq, Repr

end Sys2Proof
end

