-- ==== Sys2Proof/Decode.lean ====
section
/-! DEFINITION. The commands of the table have no bits: each is an operation at a register, a pin, a timer or a message,
not a word (the table gives no row an encoding). -/

namespace Sys2Proof

/-- The command that a word spells by the table's bits: the table gives no row bits. -/
def decodeTableWord (_nbits _w : Nat) : Option Instr := none

end Sys2Proof
end

