-- ==== Sys2Proof/Machine/Bits.lean ====
section
/-! DEFINITION. Bit fields, sign extension, clamping and rounding: the arithmetic helpers of the model. -/

namespace Sys2Proof.Machine

/-- A Boolean as a bit. -/
def bit (b : Bool) : Nat := if b then 1 else 0

/-- Bits `[lsb + width - 1 : lsb]` of a number. -/
def bits (n lsb width : Nat) : Nat := n / 2 ^ lsb % 2 ^ width

/-- Bit `i` of a number. -/
def bitOf (n i : Nat) : Bool := n / 2 ^ i % 2 = 1

/-- A number with bit `i` set to `b`. -/
def setBit (n i : Nat) (b : Bool) : Nat :=
  n - (n / 2 ^ i % 2) * 2 ^ i + bit b * 2 ^ i

/-- Signed value of the low `w` bits of a number (two's complement). -/
def signed (w n : Nat) : Int :=
  let m := n % 2 ^ w
  if m < 2 ^ (w - 1) then m else (m : Int) - 2 ^ w

/-- The low `w` bits of a signed number. -/
def unsigned (w : Nat) (i : Int) : Nat := (i % (2 ^ w : Int)).toNat

/-- Clamp a signed number into a range. -/
def clampInt (lo hi i : Int) : Int := max lo (min hi i)

end Sys2Proof.Machine
end

