-- ==== Sys2Proof/Machine/Aes.lean ====
section
/-! DEFINITION. The cryptographic primitives of the key engine and the cipher stage: AES-256, XTS, GHASH, CMAC, the
counter-mode KDF and RFC 3394 key wrap (R270, R271, R288, R301, R302). Blocks are lists of byte values. -/

namespace Sys2Proof.Machine

/-! ### AES-256 -/

/-- The AES S-box as one number: byte `b` of it, from the least significant, is the value for `b`. -/
def sbox : Nat :=
  0xC072A49CAFA2D4ADF04759FA7DC982CA76ABD7FE2B670130C56F6BF27B777C63 +
  0x75B227EBE28012079A059618C323C7041531D871F1E5A534CCF73F362693FDB7 * 256 ^ 32 +
  0xCF584C4A39BECB6A5BB1FC20ED00D153842FE329B3D63B52A05A6E1B1A2C8309 * 256 ^ 64 +
  0xD2F3FF1021DAB6BCF5389D928F40A351A89F3C507F02F94585334D43FBAAEFD0 * 256 ^ 96 +
  0xDB0B5EDE14B8EE4688902A22DC4F816073195D643D7EA7C41744975FEC130CCD * 256 ^ 128 +
  0x08AE7A65EAF4566CA94ED58D6D37C8E779E4959162ACD3C25C2406490A3A32E0 * 256 ^ 160 +
  0x9E1DC186B95735610EF6034866B53E708A8BBD4B1F74DDE8C6B4A61C2E2578BA * 256 ^ 192 +
  0x16BB54B00F2D99416842E6BF0D89A18CDF2855CEE9871E9B948ED9691198F8E1 * 256 ^ 224

/-- The inverse of the S-box, in the same form. -/
def invSbox : Nat :=
  0xCBE9DEC444438E3487FF2F9B8239E37CFBD7F3819EA340BF38A53630D56A0952 +
  0x25D18B6D49A25B76B224D92866A12E084EC3FA420B954CEE3D23C2A632947B54 * 256 ^ 32 +
  0x849D8DA75746155EDAB9EDFD5048706C92B6655DCC5CA4D41698688664F6F872 * 256 ^ 64 +
  0x6B8A130103BDAFC1020F3FCA8F1E2CD00645B3B80558E4F70AD3BC8C00ABD890 * 256 ^ 96 +
  0x6EDF751CE837F9E28535ADE72274AC9673E6B4F0CECFF297EADC674F4111913A * 256 ^ 128 +
  0xF45ACD78FEC0DB9A2079D2C64B3E56FC1BBE18AA0E62B76F89C5291D711AF147 * 256 ^ 160 +
  0xEF9CC9939F7AE52D0D4AB519A97F51605FEC8027591012B131C7078833A8DD1F * 256 ^ 192 +
  0x7D0C2155631469E126D677BA7E042B17619953833CBBEBC8B0F52AAE4D3BE0A0 * 256 ^ 224

def subByte (b : Nat) : Nat := sbox >>> (8 * b) % 256
def invSubByte (b : Nat) : Nat := invSbox >>> (8 * b) % 256

/-- Bitwise exclusive or of two byte lists. -/
def xorBytes (a b : List Nat) : List Nat := a.zipWith (· ^^^ ·) b

/-- Multiplication by x in the AES field. -/
def xtime (b : Nat) : Nat := if b < 128 then 2 * b else (2 * b) % 256 ^^^ 0x1B

/-- Multiplication of field elements, the second one of at most 4 bits. -/
def aesMul (a m : Nat) : Nat :=
  (if bitOf m 0 then a else 0) ^^^ (if bitOf m 1 then xtime a else 0) ^^^
    (if bitOf m 2 then xtime (xtime a) else 0) ^^^ (if bitOf m 3 then xtime (xtime (xtime a)) else 0)

/-- One key-schedule word from the words so far, newest first: word `i` of AES-256. -/
def nextWord (i rcon : Nat) (ws : List (List Nat)) : List Nat :=
  let t := ws.getD 0 []
  let t := if i % 8 = 0 then
      xorBytes ((t.drop 1 ++ t.take 1).map subByte) [rcon, 0, 0, 0]
    else if i % 8 = 4 then t.map subByte else t
  xorBytes (ws.getD 7 []) t

/-- Extend the key schedule by `n` words. -/
def expandWords : Nat → Nat → Nat → List (List Nat) → List (List Nat)
  | 0, _, _, ws => ws
  | n + 1, i, rcon, ws => expandWords n (i + 1) (if i % 8 = 0 then xtime rcon else rcon) (nextWord i rcon ws :: ws)

/-- Cut a list into pieces of `n`; the count bounds the pieces. -/
def chunks {α : Type} (n : Nat) : Nat → List α → List (List α)
  | 0, _ => []
  | c + 1, l => l.take n :: chunks n c (l.drop n)

/-- The 15 round keys of a 32-byte key. -/
def roundKeys (key : List Nat) : List (List Nat) :=
  (chunks 4 15 (expandWords 52 8 1 (chunks 4 8 key).reverse).reverse).map List.flatten

def shiftRows (b : List Nat) : List Nat := (List.range 16).map fun i => b.getD ((i + 4 * (i % 4)) % 16) 0
def invShiftRows (b : List Nat) : List Nat := (List.range 16).map fun i => b.getD ((i + 12 * (i % 4)) % 16) 0

/-- MixColumns with a first row of coefficients. -/
def mixWith (c : List Nat) (b : List Nat) : List Nat :=
  (List.range 16).map fun i =>
    (List.range 4).foldl (fun acc j => acc ^^^ aesMul (b.getD (4 * (i / 4) + j) 0) (c.getD ((j + 4 - i % 4) % 4) 0)) 0

def mixColumns : List Nat → List Nat := mixWith [2, 3, 1, 1]
def invMixColumns : List Nat → List Nat := mixWith [14, 11, 13, 9]

/-- AES-256 encryption of one block. -/
def aesEnc (key block : List Nat) : List Nat :=
  let ks := roundKeys key
  let s := xorBytes block (ks.getD 0 [])
  let s := ((ks.drop 1).take 13).foldl (fun s k => xorBytes (mixColumns (shiftRows (s.map subByte))) k) s
  xorBytes (shiftRows (s.map subByte)) (ks.getD 14 [])

/-- AES-256 decryption of one block. -/
def aesDec (key block : List Nat) : List Nat :=
  let ks := (roundKeys key).reverse
  let s := xorBytes block (ks.getD 0 [])
  let s := ((ks.drop 1).take 13).foldl (fun s k => invMixColumns (xorBytes ((invShiftRows s).map invSubByte) k)) s
  xorBytes ((invShiftRows s).map invSubByte) (ks.getD 14 [])

/-! ### Byte strings -/

/-- `n` bytes of a number, most significant first. -/
def bytesOf : Nat → Nat → List Nat
  | 0, _ => []
  | n + 1, v => (v / 256 ^ n % 256) :: bytesOf n v

/-- The number a byte string spells, most significant first. -/
def ofBytes (l : List Nat) : Nat := l.foldl (fun a b => a * 256 + b) 0

/-- The number a byte string spells, least significant first. -/
def ofBytesLe (l : List Nat) : Nat := ofBytes l.reverse

/-! ### XTS (R270, R271) -/

/-- Multiplication of a tweak by α, in the byte order of IEEE 1619. -/
def xtsDouble (t : List Nat) : List Nat :=
  let v := ofBytesLe t
  (bytesOf 16 ((2 * v) % 2 ^ 128 ^^^ (if v < 2 ^ 127 then 0 else 0x87))).reverse

/-- One block of XTS in either direction. -/
def xtsBlock (f : List Nat → List Nat) (t b : List Nat) : List Nat := xorBytes (f (xorBytes b t)) t

/-- The whole blocks of a unit, with the tweak that follows them. -/
def xtsBlocks (f : List Nat → List Nat) : List Nat → List (List Nat) → List Nat × List Nat
  | t, [] => ([], t)
  | t, b :: rest =>
    let r := xtsBlocks f (xtsDouble t) rest
    (xtsBlock f t b ++ r.1, r.2)

/-- Encipher a unit, with ciphertext stealing for a partial block (R270). -/
def xtsEnc (k1 k2 tweak unit : List Nat) : List Nat :=
  let t0 := aesEnc k2 tweak
  let m := unit.length / 16
  let r := unit.length % 16
  if r = 0 then (xtsBlocks (aesEnc k1) t0 (chunks 16 m unit)).1
  else
    let (head, t) := xtsBlocks (aesEnc k1) t0 (chunks 16 (m - 1) unit)
    let last := (unit.drop (16 * (m - 1))).take 16
    let part := unit.drop (16 * m)
    let cc := xtsBlock (aesEnc k1) t last
    head ++ xtsBlock (aesEnc k1) (xtsDouble t) (part ++ cc.drop r) ++ cc.take r

/-- Decipher a unit. -/
def xtsDec (k1 k2 tweak unit : List Nat) : List Nat :=
  let t0 := aesEnc k2 tweak
  let m := unit.length / 16
  let r := unit.length % 16
  if r = 0 then (xtsBlocks (aesDec k1) t0 (chunks 16 m unit)).1
  else
    let (head, t) := xtsBlocks (aesDec k1) t0 (chunks 16 (m - 1) unit)
    let last := (unit.drop (16 * (m - 1))).take 16
    let part := unit.drop (16 * m)
    let pp := xtsBlock (aesDec k1) (xtsDouble t) last
    head ++ xtsBlock (aesDec k1) t (part ++ pp.drop r) ++ pp.take r

/-- The tweak input of a unit (R271). -/
def tweakInput (epoch sfc ordinal : Nat) : List Nat :=
  bytesOf 4 epoch ++ bytesOf 6 sfc ++ [ordinal % 256] ++ List.replicate 5 0

/-! ### GHASH (R288) -/

/-- `n` steps of the multiplication in GF(2^128) in the bit order of GCM: `z` accumulates, `v` runs, `x` is read from its
most significant bit. -/
def ghashMulSteps : Nat → Nat → Nat → Nat → Nat
  | 0, z, _, _ => z
  | n + 1, z, v, x =>
    ghashMulSteps n (if bitOf x n then z ^^^ v else z) (if v % 2 = 1 then v / 2 ^^^ (0xE1 * 2 ^ 120) else v / 2) x

def ghashMul (x y : Nat) : Nat := ghashMulSteps 128 0 y x

/-- Absorb the blocks of a message into a GHASH value. -/
def ghashAbsorb (h : Nat) (acc : Nat) (blocks : List (List Nat)) : Nat :=
  blocks.foldl (fun a b => ghashMul (a ^^^ ofBytes b) h) acc

/-- The block H of an integrity key (R288). -/
def ghashKey (ki : List Nat) : Nat := ofBytes (aesEnc ki (List.replicate 16 0))

/-- Absorb one unit, zero-padded to a multiple of 16 bytes (R288). -/
def ghashUnit (h acc : Nat) (unit : List Nat) : Nat :=
  let n := (unit.length + 15) / 16
  ghashAbsorb h acc ((chunks 16 n unit).map fun b => b ++ List.replicate (16 - b.length) 0)

/-- AES_KI(J) of source superframe `n` (R288). -/
def tagPad (ki : List Nat) (epoch n : Nat) : Nat := ofBytes (aesEnc ki (bytesOf 4 epoch ++ bytesOf 5 n ++ List.replicate 6 0 ++ [1]))

/-- The tag out of H, AES_KI(J) and the accumulated value (R288). -/
def tagOf (h pad acc units bytes : Nat) : Nat := ghashAbsorb h acc [bytesOf 8 units ++ bytesOf 8 bytes] ^^^ pad

/-- The tag of source superframe `n` under an integrity key (R288). -/
def integrityTag (ki : List Nat) (epoch n acc units bytes : Nat) : Nat := tagOf (ghashKey ki) (tagPad ki epoch n) acc units bytes

/-! ### CMAC and the KDF (R302) -/

/-- Doubling in the field of CMAC. -/
def cmacDouble (v : Nat) : Nat := (2 * v) % 2 ^ 128 ^^^ (if v < 2 ^ 127 then 0 else 0x87)

/-- CMAC with AES-256. -/
def cmac (key msg : List Nat) : List Nat :=
  let l := ofBytes (aesEnc key (List.replicate 16 0))
  let k1 := cmacDouble l
  let n := max 1 ((msg.length + 15) / 16)
  let last := msg.drop (16 * (n - 1))
  let last := if last.length = 16 then xorBytes last (bytesOf 16 k1)
    else xorBytes (last ++ [128] ++ List.replicate (15 - last.length) 0) (bytesOf 16 (cmacDouble k1))
  let acc := (chunks 16 (n - 1) msg).foldl (fun a b => aesEnc key (xorBytes a b)) (List.replicate 16 0)
  aesEnc key (xorBytes acc last)

/-- The label TCHIYX-EPOCH (R302). -/
def kdfLabel : List Nat := [84, 67, 72, 73, 89, 88, 45, 69, 80, 79, 67, 72]

/-- The 96 bytes of a derived key set: K1, K2 and KI (R302). -/
def deriveSet (master : List Nat) (epoch dir : Nat) : List Nat :=
  (List.range 6).flatMap fun i =>
    cmac master (bytesOf 4 (i + 1) ++ kdfLabel ++ [0] ++ bytesOf 4 epoch ++ [dir] ++ bytesOf 4 768)

/-! ### Key wrap (R301) -/

/-- One inverse step of RFC 3394: step number `t`, the register A and the blocks, of which the `i`-th is worked on. -/
def unwrapStep (kek : List Nat) (t i : Nat) (st : List Nat × List (List Nat)) : List Nat × List (List Nat) :=
  let a := xorBytes st.1 (bytesOf 8 t)
  let b := aesDec kek (a ++ st.2.getD i [])
  (b.take 8, st.2.set i (b.drop 8))

/-- Unwrap a blob: its plaintext, or none where the integrity check fails. -/
def unwrap (kek blob : List Nat) : Option (List Nat) :=
  let n := blob.length / 8 - 1
  let steps := (List.range (6 * n)).reverse
  let r := steps.foldl (fun st k => unwrapStep kek (k + 1) (k % n) st) (blob.take 8, chunks 8 n (blob.drop 8))
  if r.1 = List.replicate 8 0xA6 then some r.2.flatten else none

end Sys2Proof.Machine
end

