-- ==== Sys2Proof/Config.lean ====
section
/-! DEFINITION. The free values: what the specification leaves open. None has a body, so a claim about a state that
holds one is a claim about every value of it. -/

namespace Sys2Proof.Config

/-- The n-th free value the machine meets (log entry 1). -/
opaque free : Nat → Nat

/-- The taps of the filter ahead of the decimation, in 1/65,536 (R78, log entry 88). -/
opaque decimTap : Nat → Int

/-- The value of the two SMBus address strap balls of the board (R470, log entry 21). -/
opaque smbStraps : Fin 4

/-- The number fused into the die (`MG_ID.UID`, log entry 21). -/
opaque uid : BitVec 64

end Sys2Proof.Config
end

