-- ==== Sys2Proof/Machine/Events.lean ====
section
/-! DEFINITION. Every event of the device: its page, its `EVT_STATUS` bit, its counter (R440, R444, R452), one
definition per row of the owning chapter's event table. -/

namespace Sys2Proof.Machine

/-- An event: the page index (R487), the bit of `EVT_STATUS`, the page offset of its counter, and whether the owning
chapter marks it non-maskable (R453). -/
structure Evt where
  page : Nat
  bit : Nat
  off : Nat
  nmi : Bool
  deriving DecidableEq, Repr

namespace Ev

/-! `TX` (R64) -/

def TX.on (p : Port) : Evt := ⟨31 + 8 * p.toNat, 0, 0x400, false⟩
def TX.dark (p : Port) : Evt := ⟨31 + 8 * p.toNat, 1, 0x404, false⟩
def TX.preambleSent (p : Port) : Evt := ⟨31 + 8 * p.toNat, 2, 0x408, false⟩
def TX.cfgRefused (p : Port) : Evt := ⟨31 + 8 * p.toNat, 3, 0x40C, false⟩
def TX.codingRedo (p : Port) : Evt := ⟨31 + 8 * p.toNat, 4, 0x410, false⟩
def TX.shapingRedo (p : Port) : Evt := ⟨31 + 8 * p.toNat, 5, 0x414, false⟩
def TX.doubleFault (p : Port) : Evt := ⟨31 + 8 * p.toNat, 6, 0x418, false⟩
def TX.zeroAmplitude (p : Port) : Evt := ⟨31 + 8 * p.toNat, 7, 0x41C, false⟩
def TX.farAcqReqChanged (p : Port) : Evt := ⟨31 + 8 * p.toNat, 8, 0x420, false⟩
def TX.lasting (p : Port) : Evt := ⟨31 + 8 * p.toNat, 9, 0x424, false⟩
def TX.exhausted (p : Port) : Evt := ⟨31 + 8 * p.toNat, 10, 0x428, true⟩

/-! `TXCONV` (R64) -/

def TXCONV.takeover (p : Port) (c : Nat) : Evt := ⟨32 + 8 * p.toNat, 4 * c + 0, 0x400 + 0 + 0x10 * c, false⟩
def TXCONV.clipped (p : Port) (c : Nat) : Evt := ⟨32 + 8 * p.toNat, 4 * c + 1, 0x400 + 4 + 0x10 * c, false⟩
def TXCONV.lasting (p : Port) (c : Nat) : Evt := ⟨32 + 8 * p.toNat, 4 * c + 2, 0x400 + 8 + 0x10 * c, false⟩
def TXCONV.exhausted (p : Port) (c : Nat) : Evt := ⟨32 + 8 * p.toNat, 4 * c + 3, 0x400 + 12 + 0x10 * c, true⟩

/-! `RXFE` (R95) -/

def RXFE.acquired (p : Port) : Evt := ⟨33 + 8 * p.toNat, 0, 0x400, false⟩
def RXFE.acqLost (p : Port) : Evt := ⟨33 + 8 * p.toNat, 1, 0x404, false⟩
def RXFE.losDeclared (p : Port) : Evt := ⟨33 + 8 * p.toNat, 2, 0x408, false⟩
def RXFE.losCleared (p : Port) : Evt := ⟨33 + 8 * p.toNat, 3, 0x40C, false⟩
def RXFE.noCarrier (p : Port) : Evt := ⟨33 + 8 * p.toNat, 4, 0x410, false⟩
def RXFE.acqFailure (p : Port) : Evt := ⟨33 + 8 * p.toNat, 5, 0x414, false⟩
def RXFE.cfgRefused (p : Port) : Evt := ⟨33 + 8 * p.toNat, 6, 0x418, false⟩
def RXFE.fHatRange (p : Port) : Evt := ⟨33 + 8 * p.toNat, 7, 0x41C, false⟩
def RXFE.noiseFloor (p : Port) : Evt := ⟨33 + 8 * p.toNat, 8, 0x420, false⟩

/-! `RXCONV` (R95) -/

def RXCONV.takeover (p : Port) (c : Nat) : Evt := ⟨34 + 8 * p.toNat, 4 * c + 0, 0x400 + 0 + 0x10 * c, false⟩
def RXCONV.erasures (p : Port) (c : Nat) : Evt := ⟨34 + 8 * p.toNat, 4 * c + 1, 0x400 + 4 + 0x10 * c, false⟩
def RXCONV.lasting (p : Port) (c : Nat) : Evt := ⟨34 + 8 * p.toNat, 4 * c + 2, 0x400 + 8 + 0x10 * c, false⟩
def RXCONV.exhausted (p : Port) (c : Nat) : Evt := ⟨34 + 8 * p.toNat, 4 * c + 3, 0x400 + 12 + 0x10 * c, true⟩
def RXCONV.calCompleted (p : Port) : Evt := ⟨34 + 8 * p.toNat, 16, 0x440, false⟩
def RXCONV.implausible (p : Port) : Evt := ⟨34 + 8 * p.toNat, 17, 0x444, false⟩
def RXCONV.compareFailed (p : Port) : Evt := ⟨34 + 8 * p.toNat, 18, 0x448, false⟩
def RXCONV.frontLost (p : Port) : Evt := ⟨34 + 8 * p.toNat, 19, 0x44C, false⟩
def RXCONV.railClipped (p : Port) (c : Nat) : Evt := ⟨34 + 8 * p.toNat, 20 + c, 0x400 + 0x50 + 4 * c, false⟩
def RXCONV.doubleFault (p : Port) : Evt := ⟨34 + 8 * p.toNat, 24, 0x460, false⟩

/-! `RXEQ` (R127) -/

def RXEQ.stageRedo (p : Port) : Evt := ⟨35 + 8 * p.toNat, 0, 0x400, false⟩
def RXEQ.doubleFault (p : Port) : Evt := ⟨35 + 8 * p.toNat, 1, 0x404, false⟩
def RXEQ.hopErased (p : Port) : Evt := ⟨35 + 8 * p.toNat, 2, 0x408, false⟩
def RXEQ.hopLate (p : Port) : Evt := ⟨35 + 8 * p.toNat, 3, 0x40C, false⟩
def RXEQ.lasting (p : Port) : Evt := ⟨35 + 8 * p.toNat, 4, 0x410, false⟩
def RXEQ.exhausted (p : Port) : Evt := ⟨35 + 8 * p.toNat, 5, 0x414, true⟩
def RXEQ.trLockSet (p : Port) : Evt := ⟨35 + 8 * p.toNat, 6, 0x418, false⟩
def RXEQ.trLockCleared (p : Port) : Evt := ⟨35 + 8 * p.toNat, 7, 0x41C, false⟩
def RXEQ.converged (p : Port) : Evt := ⟨35 + 8 * p.toNat, 8, 0x420, false⟩
def RXEQ.reqFrequency (p : Port) : Evt := ⟨35 + 8 * p.toNat, 9, 0x424, false⟩
def RXEQ.reqSlip (p : Port) : Evt := ⟨35 + 8 * p.toNat, 10, 0x428, false⟩
def RXEQ.reqDivergence (p : Port) : Evt := ⟨35 + 8 * p.toNat, 11, 0x42C, false⟩
def RXEQ.coefRedo (p : Port) : Evt := ⟨35 + 8 * p.toNat, 12, 0x430, false⟩
def RXEQ.regionReset (p : Port) : Evt := ⟨35 + 8 * p.toNat, 13, 0x434, false⟩
def RXEQ.spareEclosion (p : Port) : Evt := ⟨35 + 8 * p.toNat, 14, 0x438, false⟩
def RXEQ.coefDropped (p : Port) : Evt := ⟨35 + 8 * p.toNat, 15, 0x43C, false⟩

/-! `DEMAP` (R127) -/

def DEMAP.p1Redo (p : Port) : Evt := ⟨36 + 8 * p.toNat, 0, 0x400, false⟩
def DEMAP.saturated (p : Port) : Evt := ⟨36 + 8 * p.toNat, 1, 0x404, false⟩
def DEMAP.zeroLlr (p : Port) : Evt := ⟨36 + 8 * p.toNat, 2, 0x408, false⟩
def DEMAP.lasting (p : Port) : Evt := ⟨36 + 8 * p.toNat, 3, 0x40C, false⟩
def DEMAP.exhausted (p : Port) : Evt := ⟨36 + 8 * p.toNat, 4, 0x410, true⟩
def DEMAP.hypothesis (p : Port) : Evt := ⟨36 + 8 * p.toNat, 5, 0x414, false⟩
def DEMAP.p2Redo (p : Port) : Evt := ⟨36 + 8 * p.toNat, 6, 0x418, false⟩

/-! `SPAN` (R127) -/

def SPAN.latched (p : Port) : Evt := ⟨37 + 8 * p.toNat, 0, 0x400, false⟩
def SPAN.sopHigh (p : Port) : Evt := ⟨37 + 8 * p.toNat, 1, 0x404, false⟩
def SPAN.osnrInvalid (p : Port) : Evt := ⟨37 + 8 * p.toNat, 2, 0x408, false⟩
def SPAN.ngmiLow (p : Port) : Evt := ⟨37 + 8 * p.toNat, 3, 0x40C, false⟩

/-! `FEC` (R157) -/

def FEC.decoderRedo (p : Port) : Evt := ⟨38 + 8 * p.toNat, 0, 0x400, false⟩
def FEC.doubleFault (p : Port) : Evt := ⟨38 + 8 * p.toNat, 1, 0x404, false⟩
def FEC.lasting (p : Port) : Evt := ⟨38 + 8 * p.toNat, 2, 0x408, false⟩
def FEC.exhausted (p : Port) : Evt := ⟨38 + 8 * p.toNat, 3, 0x40C, true⟩
def FEC.decoded (p : Port) : Evt := ⟨38 + 8 * p.toNat, 4, 0x410, false⟩
def FEC.uncorrectable (p : Port) : Evt := ⟨38 + 8 * p.toNat, 5, 0x414, false⟩
def FEC.undecoded (p : Port) : Evt := ⟨38 + 8 * p.toNat, 6, 0x418, false⟩
def FEC.ldpcBits (p : Port) : Evt := ⟨38 + 8 * p.toNat, 7, 0x41C, false⟩
def FEC.bchBits (p : Port) : Evt := ⟨38 + 8 * p.toNat, 8, 0x420, false⟩
def FEC.bchUncorrectable (p : Port) : Evt := ⟨38 + 8 * p.toNat, 9, 0x424, false⟩
def FEC.invalidComposition (p : Port) : Evt := ⟨38 + 8 * p.toNat, 10, 0x428, false⟩
def FEC.matcherRedo (p : Port) : Evt := ⟨38 + 8 * p.toNat, 11, 0x42C, false⟩
def FEC.spareEclosion (p : Port) : Evt := ⟨38 + 8 * p.toNat, 12, 0x430, false⟩
def FEC.capChanged (p : Port) : Evt := ⟨38 + 8 * p.toNat, 13, 0x434, false⟩
def FEC.boundaryTaken (p : Port) : Evt := ⟨38 + 8 * p.toNat, 14, 0x438, false⟩
def FEC.unfinished (p : Port) : Evt := ⟨38 + 8 * p.toNat, 15, 0x43C, false⟩
def FEC.bchRedo (p : Port) : Evt := ⟨38 + 8 * p.toNat, 16, 0x440, false⟩

/-! `HB_FRAME` (R185) -/

def HB_FRAME.inFrame (p : Port) : Evt := ⟨19 + p.toNat, 0, 0x400, false⟩
def HB_FRAME.oof (p : Port) : Evt := ⟨19 + p.toNat, 1, 0x404, false⟩
def HB_FRAME.lofDeclared (p : Port) : Evt := ⟨19 + p.toNat, 2, 0x408, false⟩
def HB_FRAME.lofCleared (p : Port) : Evt := ⟨19 + p.toNat, 3, 0x40C, false⟩
def HB_FRAME.fawMiss (p : Port) : Evt := ⟨19 + p.toNat, 4, 0x410, false⟩
def HB_FRAME.fcsFail (p : Port) : Evt := ⟨19 + p.toNat, 5, 0x414, false⟩
def HB_FRAME.erroredBlock (p : Port) : Evt := ⟨19 + p.toNat, 6, 0x418, false⟩
def HB_FRAME.jcUncorrectable (p : Port) : Evt := ⟨19 + p.toNat, 7, 0x41C, false⟩
def HB_FRAME.justPosRx (p : Port) : Evt := ⟨19 + p.toNat, 8, 0x420, false⟩
def HB_FRAME.justNegRx (p : Port) : Evt := ⟨19 + p.toNat, 9, 0x424, false⟩
def HB_FRAME.justPosTx (p : Port) : Evt := ⟨19 + p.toNat, 10, 0x428, false⟩
def HB_FRAME.justNegTx (p : Port) : Evt := ⟨19 + p.toNat, 11, 0x42C, false⟩
def HB_FRAME.fcDiscontinuity (p : Port) : Evt := ⟨19 + p.toNat, 12, 0x430, false⟩
def HB_FRAME.fcWrap (p : Port) : Evt := ⟨19 + p.toNat, 13, 0x434, false⟩
def HB_FRAME.farAcqReqChanged (p : Port) : Evt := ⟨19 + p.toNat, 14, 0x438, false⟩
def HB_FRAME.rdiChanged (p : Port) : Evt := ⟨19 + p.toNat, 15, 0x43C, false⟩
def HB_FRAME.rei (p : Port) : Evt := ⟨19 + p.toNat, 16, 0x440, false⟩
def HB_FRAME.smmDeclared (p : Port) : Evt := ⟨19 + p.toNat, 17, 0x444, false⟩
def HB_FRAME.smmCleared (p : Port) : Evt := ⟨19 + p.toNat, 18, 0x448, false⟩
def HB_FRAME.swapSent (p : Port) : Evt := ⟨19 + p.toNat, 19, 0x44C, false⟩
def HB_FRAME.swapReceived (p : Port) : Evt := ⟨19 + p.toNat, 20, 0x450, false⟩
def HB_FRAME.resync (p : Port) : Evt := ⟨19 + p.toNat, 21, 0x454, false⟩
def HB_FRAME.dvSent (p : Port) : Evt := ⟨19 + p.toNat, 22, 0x458, false⟩
def HB_FRAME.dvReceived (p : Port) : Evt := ⟨19 + p.toNat, 23, 0x45C, false⟩
def HB_FRAME.dvDiscarded (p : Port) : Evt := ⟨19 + p.toNat, 24, 0x460, false⟩
def HB_FRAME.es (p : Port) : Evt := ⟨19 + p.toNat, 25, 0x464, false⟩
def HB_FRAME.ses (p : Port) : Evt := ⟨19 + p.toNat, 26, 0x468, false⟩
def HB_FRAME.uas (p : Port) : Evt := ⟨19 + p.toNat, 27, 0x46C, false⟩
def HB_FRAME.feEs (p : Port) : Evt := ⟨19 + p.toNat, 28, 0x470, false⟩
def HB_FRAME.feSes (p : Port) : Evt := ⟨19 + p.toNat, 29, 0x474, false⟩
def HB_FRAME.feUas (p : Port) : Evt := ⟨19 + p.toNat, 30, 0x478, false⟩
def HB_FRAME.tca (p : Port) : Evt := ⟨19 + p.toNat, 31, 0x47C, false⟩

/-! `HB_CHPM` (R186) -/

def HB_CHPM.tca : Evt := ⟨21, 0, 0x300, false⟩
def HB_CHPM.entered : Evt := ⟨21, 1, 0x304, false⟩
def HB_CHPM.left : Evt := ⟨21, 2, 0x308, false⟩

/-! `HL_LANE` (R231) -/

def HL_LANE.statusChange (n : Nat) : Evt := ⟨27, n, 0x400 + 0x300 + 4 * n, false⟩

/-! `HL_CLIENT` (R231) -/

def HL_CLIENT.statusChange (k : Nat) : Evt := ⟨28, k, 0x400 + 0x300 + 4 * k, false⟩

/-! `HB_FLOW` (R231) -/

def HB_FLOW.vlanMiss : Evt := ⟨22, 0, 0x400, false⟩
def HB_FLOW.dropTagMiss : Evt := ⟨22, 1, 0x404, false⟩
def HB_FLOW.tableCheck : Evt := ⟨22, 2, 0x408, false⟩
def HB_FLOW.flowWrapped : Evt := ⟨22, 3, 0x40C, false⟩

/-! `HB_SLOT` (R231) -/

def HB_SLOT.swapRefused : Evt := ⟨23, 0, 0x400, false⟩
def HB_SLOT.concatSkew : Evt := ⟨23, 1, 0x404, false⟩
def HB_SLOT.concatSkewCleared : Evt := ⟨23, 2, 0x408, false⟩
def HB_SLOT.jcMismatch : Evt := ⟨23, 3, 0x40C, false⟩
def HB_SLOT.patternErrors (p : Port) : Evt := ⟨23, 4 + p.toNat, 0x400 + 0x10 + 4 * p.toNat, false⟩
def HB_SLOT.patternChecked (p : Port) : Evt := ⟨23, 6 + p.toNat, 0x400 + 0x18 + 4 * p.toNat, false⟩
def HB_SLOT.patternLost (p : Port) : Evt := ⟨23, 8 + p.toNat, 0x400 + 0x20 + 4 * p.toNat, false⟩

/-! `HB_BUF` (R231) -/

def HB_BUF.addDropped : Evt := ⟨24, 0, 0x400, false⟩
def HB_BUF.dropDropped : Evt := ⟨24, 1, 0x404, false⟩
def HB_BUF.headroomOverrun : Evt := ⟨24, 2, 0x408, false⟩
def HB_BUF.occupancy : Evt := ⟨24, 3, 0x40C, false⟩
def HB_BUF.xoffSent : Evt := ⟨24, 4, 0x410, false⟩
def HB_BUF.enableRefused : Evt := ⟨24, 5, 0x414, false⟩

/-! `HB_RING` (R267) -/

def HB_RING.inRing : Evt := ⟨25, 0, 0x400, false⟩
def HB_RING.chrysalis : Evt := ⟨25, 1, 0x404, false⟩
def HB_RING.emergeRefused : Evt := ⟨25, 2, 0x408, false⟩
def HB_RING.reqEChanged : Evt := ⟨25, 3, 0x40C, false⟩
def HB_RING.reqWChanged : Evt := ⟨25, 4, 0x410, false⟩
def HB_RING.vectorChanged : Evt := ⟨25, 5, 0x414, false⟩
def HB_RING.neighbourChanged : Evt := ⟨25, 6, 0x418, false⟩
def HB_RING.agedOut : Evt := ⟨25, 7, 0x41C, false⟩
def HB_RING.transitMapError : Evt := ⟨25, 8, 0x420, false⟩
def HB_RING.transitZeroed : Evt := ⟨25, 9, 0x424, false⟩
def HB_RING.slotLimit : Evt := ⟨25, 10, 0x428, false⟩
def HB_RING.negSent : Evt := ⟨25, 11, 0x42C, false⟩
def HB_RING.rejectSent : Evt := ⟨25, 12, 0x430, false⟩
def HB_RING.proposerTimeout : Evt := ⟨25, 13, 0x434, false⟩
def HB_RING.glide : Evt := ⟨25, 14, 0x438, false⟩
def HB_RING.revert : Evt := ⟨25, 15, 0x43C, false⟩
def HB_RING.transitOutsideRing : Evt := ⟨25, 16, 0x440, false⟩
def HB_RING.rejectReceived : Evt := ⟨25, 17, 0x444, false⟩
def HB_RING.abortSent : Evt := ⟨25, 18, 0x448, false⟩
def HB_RING.abortReceived : Evt := ⟨25, 19, 0x44C, false⟩

/-! `HB_PROT` (R267) -/

def HB_PROT.selection : Evt := ⟨26, 0, 0x800, false⟩
def HB_PROT.lostUnit : Evt := ⟨26, 1, 0x804, false⟩
def HB_PROT.dpSkew : Evt := ⟨26, 2, 0x808, false⟩
def HB_PROT.dpSkewCleared : Evt := ⟨26, 3, 0x80C, false⟩
def HB_PROT.originLost : Evt := ⟨26, 4, 0x810, false⟩
def HB_PROT.originGained : Evt := ⟨26, 5, 0x814, false⟩
def HB_PROT.single : Evt := ⟨26, 6, 0x818, false⟩
def HB_PROT.zeroRun : Evt := ⟨26, 7, 0x81C, false⟩

/-! `CY_KEY` (R308) -/

def CY_KEY.completed : Evt := ⟨29, 0, 0x400, false⟩
def CY_KEY.refused : Evt := ⟨29, 1, 0x404, false⟩
def CY_KEY.checkFailed : Evt := ⟨29, 2, 0x408, false⟩
def CY_KEY.announced : Evt := ⟨29, 3, 0x40C, false⟩
def CY_KEY.addTaken : Evt := ⟨29, 4, 0x410, false⟩
def CY_KEY.dropTaken : Evt := ⟨29, 5, 0x414, false⟩
def CY_KEY.lateSwitch : Evt := ⟨29, 6, 0x418, false⟩
def CY_KEY.ceilAlarm : Evt := ⟨29, 7, 0x41C, false⟩
def CY_KEY.unitsSquelched : Evt := ⟨29, 8, 0x420, false⟩
def CY_KEY.keyMissing : Evt := ⟨29, 9, 0x424, false⟩
def CY_KEY.activeErased : Evt := ⟨29, 10, 0x428, false⟩
def CY_KEY.entropyFail : Evt := ⟨29, 11, 0x42C, false⟩
def CY_KEY.derived : Evt := ⟨29, 12, 0x430, false⟩
def CY_KEY.rotationRefused : Evt := ⟨29, 13, 0x434, false⟩
def CY_KEY.cmdDropped : Evt := ⟨29, 14, 0x438, false⟩

/-! `CY_PIPE` (R308) -/

def CY_PIPE.redo (d : Nat) : Evt := ⟨30, d, 0x400 + 4 * d, false⟩
def CY_PIPE.doubleFault (d : Nat) : Evt := ⟨30, 2 + d, 0x400 + 0x08 + 4 * d, false⟩
def CY_PIPE.lasting : Evt := ⟨30, 4, 0x410, false⟩
def CY_PIPE.exhausted : Evt := ⟨30, 5, 0x414, true⟩
def CY_PIPE.squelchedExhausted : Evt := ⟨30, 6, 0x418, false⟩
def CY_PIPE.pass : Evt := ⟨30, 7, 0x41C, false⟩
def CY_PIPE.fail : Evt := ⟨30, 8, 0x420, false⟩
def CY_PIPE.tagsLost : Evt := ⟨30, 9, 0x424, false⟩
def CY_PIPE.squelchSet : Evt := ⟨30, 10, 0x428, false⟩
def CY_PIPE.squelchCleared : Evt := ⟨30, 11, 0x42C, false⟩
def CY_PIPE.reports : Evt := ⟨30, 12, 0x430, false⟩
def CY_PIPE.marked : Evt := ⟨30, 13, 0x434, false⟩
def CY_PIPE.heldDiscarded : Evt := ⟨30, 14, 0x438, false⟩
def CY_PIPE.holdOverflow : Evt := ⟨30, 15, 0x43C, false⟩
def CY_PIPE.encMismatch : Evt := ⟨30, 16, 0x440, false⟩
def CY_PIPE.refusedLength : Evt := ⟨30, 17, 0x444, false⟩
def CY_PIPE.squelchedUpstream : Evt := ⟨30, 18, 0x448, false⟩
def CY_PIPE.tableCheck : Evt := ⟨30, 19, 0x44C, false⟩

/-! `CK_SYN` (R338) -/

def CK_SYN.foscFailed : Evt := ⟨7, 0, 0x400, false⟩
def CK_SYN.foscLasting : Evt := ⟨7, 1, 0x404, false⟩
def CK_SYN.rclkFailure : Evt := ⟨7, 2, 0x408, true⟩
def CK_SYN.rclkQualified : Evt := ⟨7, 3, 0x40C, false⟩
def CK_SYN.switched : Evt := ⟨7, 4, 0x410, false⟩
def CK_SYN.xrefLost : Evt := ⟨7, 5, 0x414, false⟩
def CK_SYN.gateForced : Evt := ⟨7, 6, 0x418, false⟩
def CK_SYN.closedAccess : Evt := ⟨7, 7, 0x41C, false⟩
def CK_SYN.probeRefused : Evt := ⟨7, 8, 0x420, false⟩
def CK_SYN.apllLost : Evt := ⟨7, 9, 0x424, false⟩
def CK_SYN.gateRefused : Evt := ⟨7, 10, 0x428, false⟩
def CK_SYN.gateDropped : Evt := ⟨7, 11, 0x42C, false⟩

/-! `CK_REF` (R338) -/

def CK_REF.stateChange (i : Nat) : Evt := ⟨8, i, 0x400 + 4 * i, false⟩
def CK_REF.selection : Evt := ⟨8, 12, 0x430, false⟩
def CK_REF.peerDisagree : Evt := ⟨8, 13, 0x434, false⟩
def CK_REF.forceRefused : Evt := ⟨8, 14, 0x438, false⟩

/-! `CK_DPLL` (R338) -/

def CK_DPLL.locked (x : Nat) : Evt := ⟨9 + x, 0, 0x400, false⟩
def CK_DPLL.lockLost (x : Nat) : Evt := ⟨9 + x, 1, 0x404, false⟩
def CK_DPLL.switchStarted (x : Nat) : Evt := ⟨9 + x, 2, 0x408, false⟩
def CK_DPLL.switchCompleted (x : Nat) : Evt := ⟨9 + x, 3, 0x40C, false⟩
def CK_DPLL.retarget (x : Nat) : Evt := ⟨9 + x, 4, 0x410, false⟩
def CK_DPLL.roost (x : Nat) : Evt := ⟨9 + x, 5, 0x414, false⟩
def CK_DPLL.freeRun (x : Nat) : Evt := ⟨9 + x, 6, 0x418, false⟩
def CK_DPLL.roostInvalid (x : Nat) : Evt := ⟨9 + x, 7, 0x41C, false⟩

/-! `TS_TB` (R359) -/

def TS_TB.freqLockSet (x : Nat) : Evt := ⟨11 + x, 0, 0x400, false⟩
def TS_TB.freqLockCleared (x : Nat) : Evt := ⟨11 + x, 1, 0x404, false⟩
def TS_TB.timeLockSet (x : Nat) : Evt := ⟨11 + x, 2, 0x408, false⟩
def TS_TB.timeLockCleared (x : Nat) : Evt := ⟨11 + x, 3, 0x40C, false⟩
def TS_TB.stepApplied (x : Nat) : Evt := ⟨11 + x, 4, 0x410, false⟩
def TS_TB.stepRefused (x : Nat) : Evt := ⟨11 + x, 5, 0x414, false⟩
def TS_TB.holdover (x : Nat) : Evt := ⟨11 + x, 6, 0x418, false⟩
def TS_TB.gmSwitch (x : Nat) : Evt := ⟨11 + x, 7, 0x41C, false⟩
def TS_TB.switchRefused (x : Nat) : Evt := ⟨11 + x, 8, 0x420, false⟩
def TS_TB.stopped (x : Nat) : Evt := ⟨11 + x, 9, 0x424, false⟩

/-! `TS_STAMP` (R359) -/

def TS_STAMP.ppsIn : Evt := ⟨15, 0, 0x400, false⟩
def TS_STAMP.todAccepted : Evt := ⟨15, 1, 0x404, false⟩
def TS_STAMP.todDiscarded : Evt := ⟨15, 2, 0x408, false⟩
def TS_STAMP.todSent : Evt := ⟨15, 3, 0x40C, false⟩
def TS_STAMP.lineStamped (p : Port) : Evt := ⟨15, 4 + p.toNat, 0x400 + 0x10 + 4 * p.toNat, false⟩
def TS_STAMP.hostStamped : Evt := ⟨15, 6, 0x418, false⟩

/-! `MG_CTL` (R382) -/

def MG_CTL.moult : Evt := ⟨1, 0, 0x400, false⟩
def MG_CTL.emergency : Evt := ⟨1, 1, 0x404, false⟩
def MG_CTL.watchdog : Evt := ⟨1, 2, 0x408, false⟩
def MG_CTL.ueFetch : Evt := ⟨1, 3, 0x40C, false⟩
def MG_CTL.lasting : Evt := ⟨1, 4, 0x410, false⟩
def MG_CTL.exhausted : Evt := ⟨1, 5, 0x414, true⟩
def MG_CTL.bootFallback : Evt := ⟨1, 6, 0x418, false⟩
def MG_CTL.configRestored : Evt := ⟨1, 7, 0x41C, false⟩
def MG_CTL.telPublished : Evt := ⟨1, 8, 0x420, false⟩
def MG_CTL.telStopped : Evt := ⟨1, 9, 0x424, false⟩

/-! `MG_MBX` (R382) -/

def MG_MBX.done (x : Nat) : Evt := ⟨2 + x, 0, 0x200, false⟩
def MG_MBX.failed (x : Nat) : Evt := ⟨2 + x, 1, 0x204, false⟩
def MG_MBX.dropped (x : Nat) : Evt := ⟨2 + x, 2, 0x208, false⟩
def MG_MBX.abortedMoult (x : Nat) : Evt := ⟨2 + x, 3, 0x20C, false⟩
def MG_MBX.aborted (x : Nat) : Evt := ⟨2 + x, 4, 0x210, false⟩

/-! `DMA_ENG` (R411) -/

def DMA_ENG.engineHalt : Evt := ⟨6, 0, 0x800, false⟩
def DMA_ENG.finalBeat : Evt := ⟨6, 1, 0x804, false⟩
def DMA_ENG.channelHalt : Evt := ⟨6, 2, 0x808, false⟩
def DMA_ENG.doorbellDropped : Evt := ⟨6, 3, 0x80C, false⟩
def DMA_ENG.completion (c : Nat) : Evt := ⟨6, 16 + c, 0x800 + 0x40 + 4 * c, false⟩

/-! `MG_MEM` (R411) -/

def MG_MEM.freezeExpired (a : Nat) : Evt := ⟨4, a, 0x400 + 4 * a, false⟩
def MG_MEM.lineTransient : Evt := ⟨4, 5, 0x414, false⟩
def MG_MEM.lineLasting : Evt := ⟨4, 6, 0x418, false⟩
def MG_MEM.uncorrectable : Evt := ⟨4, 7, 0x41C, false⟩
def MG_MEM.pageCorrected : Evt := ⟨4, 8, 0x420, false⟩
def MG_MEM.unwritten : Evt := ⟨4, 9, 0x424, false⟩
def MG_MEM.scrubDone : Evt := ⟨4, 10, 0x428, false⟩

/-! `MON_SEQ` (R439) -/

def MON_SEQ.overrun : Evt := ⟨17, 0, 0x400, false⟩
def MON_SEQ.retry : Evt := ⟨17, 1, 0x404, false⟩
def MON_SEQ.disagreement : Evt := ⟨17, 2, 0x408, false⟩
def MON_SEQ.lasting : Evt := ⟨17, 3, 0x40C, false⟩
def MON_SEQ.exhausted : Evt := ⟨17, 4, 0x410, true⟩
def MON_SEQ.urgentDone : Evt := ⟨17, 5, 0x414, false⟩
def MON_SEQ.urgentDropped : Evt := ⟨17, 6, 0x418, false⟩

/-! `MON_FILT` (R439) -/

def MON_FILT.alarm : Evt := ⟨18, 0, 0x400, false⟩
def MON_FILT.fadeDone : Evt := ⟨18, 1, 0x404, false⟩
def MON_FILT.swapReplaced : Evt := ⟨18, 2, 0x408, false⟩

/-! `PWR_MGR` (R439) -/

def PWR_MGR.capLowered : Evt := ⟨16, 0, 0x400, false⟩
def PWR_MGR.capRaised : Evt := ⟨16, 1, 0x404, false⟩
def PWR_MGR.capUnmet : Evt := ⟨16, 2, 0x408, false⟩
def PWR_MGR.avsRaise : Evt := ⟨16, 3, 0x40C, false⟩
def PWR_MGR.railStale : Evt := ⟨16, 4, 0x410, false⟩
def PWR_MGR.railLost : Evt := ⟨16, 5, 0x414, false⟩
def PWR_MGR.pmbAlert : Evt := ⟨16, 6, 0x418, false⟩
def PWR_MGR.high : Evt := ⟨16, 7, 0x41C, false⟩
def PWR_MGR.crit : Evt := ⟨16, 8, 0x420, false⟩
def PWR_MGR.calCompleted : Evt := ⟨16, 9, 0x424, false⟩
def PWR_MGR.calImplausible : Evt := ⟨16, 10, 0x428, false⟩
def PWR_MGR.detLasting : Evt := ⟨16, 11, 0x42C, false⟩
def PWR_MGR.detExhausted : Evt := ⟨16, 12, 0x430, true⟩

/-! `MG_OBS` (R464) -/

def MG_OBS.snapDone : Evt := ⟨5, 0, 0x400, false⟩
def MG_OBS.snapRefused : Evt := ⟨5, 1, 0x404, false⟩
def MG_OBS.recordDelivered : Evt := ⟨5, 2, 0x408, false⟩
def MG_OBS.ringFull : Evt := ⟨5, 3, 0x40C, false⟩
def MG_OBS.bufferFull : Evt := ⟨5, 4, 0x410, false⟩
def MG_OBS.incomplete : Evt := ⟨5, 5, 0x414, false⟩
def MG_OBS.latchByClear : Evt := ⟨5, 6, 0x418, false⟩
def MG_OBS.intN : Evt := ⟨5, 7, 0x41C, false⟩

/-! `MG_ID` (R486) -/

def MG_ID.committed : Evt := ⟨0, 0, 0x400, false⟩
def MG_ID.refused : Evt := ⟨0, 1, 0x404, false⟩
def MG_ID.errorResponse : Evt := ⟨0, 2, 0x408, false⟩
def MG_ID.partialWrite : Evt := ⟨0, 3, 0x40C, false⟩
def MG_ID.smbusRefused : Evt := ⟨0, 4, 0x410, false⟩

/-- The event bits that the owning chapter of a page defines; the others of `EVT_STATUS` always read 0 (R454). -/
def defined (page : Nat) : Nat :=
  match page with
  | 0 => 0x1F
  | 1 => 0x3FF
  | 2 | 3 => 0x1F
  | 4 => 0x7FF
  | 5 => 0xFF
  | 6 => 0xFFFF000F
  | 7 => 0xFFF
  | 8 => 0x7FFF
  | 9 | 10 => 0xFF
  | 11 | 12 | 13 | 14 => 0x3FF
  | 15 => 0x7F
  | 16 => 0x1FFF
  | 17 => 0x7F
  | 18 => 0x7
  | 19 | 20 => 0xFFFFFFFF
  | 21 => 0x7
  | 22 => 0xF
  | 23 => 0x3FF
  | 24 => 0x3F
  | 25 => 0xFFFFF
  | 26 => 0xFF
  | 27 => 0xFFFFFF
  | 28 => 0xFFFFFF
  | 29 => 0x7FFF
  | 30 => 0xFFFFF
  | 31 | 39 => 0x7FF
  | 32 | 40 => 0xFFFF
  | 33 | 41 => 0x1FF
  | 34 | 42 => 0x1FFFFFF
  | 35 | 43 => 0xFFFF
  | 36 | 44 => 0x7F
  | 37 | 45 => 0xF
  | 38 | 46 => 0x1FFFF
  | _ => 0

/-- The event bits of a page that are non-maskable (R453). -/
def nonMaskable (page : Nat) : Nat :=
  match page with
  | 1 => 0x20
  | 7 => 0x4
  | 16 => 0x1000
  | 17 => 0x10
  | 30 => 0x20
  | 31 | 39 => 0x400
  | 32 | 40 => 0x8888
  | 34 | 42 => 0x8888
  | 35 | 43 => 0x20
  | 36 | 44 => 0x10
  | 38 | 46 => 0x8
  | _ => 0

end Ev

end Sys2Proof.Machine
end

