-- ==== Sys2Proof/Machine/Regs.lean ====
section
/-! DEFINITION. The register directory: every field of every register page (R471, R487 and each owning chapter's page
table), as page index, page offset, lowest bit, width, access code (R3 to R9) and reset value. -/

namespace Sys2Proof.Machine

/-- The access codes of a register field (R3 to R9). -/
inductive Access where
  | ro
  | rwLv
  | rwSh
  | rwLk
  | w1c
  | wo
  | rc
  deriving DecidableEq, Repr

/-- One field of a register page. -/
structure Field where
  page : Nat
  off : Nat
  lsb : Nat
  width : Nat
  acc : Access
  reset : Nat
  deriving DecidableEq, Repr

/-- The key under which the register file holds a field. -/
def Field.key (f : Field) : Nat := (f.page * 4096 + f.off) * 32 + f.lsb

namespace F

/-! ### `HDR` (R471) -/

def HDR.PAGE_ID_TYPE (x : Nat)  : Field := ⟨x, 0x000, 0, 12, .ro, 0⟩
def HDR.PAGE_ID_INSTANCE (x : Nat)  : Field := ⟨x, 0x000, 12, 4, .ro, 0⟩
def HDR.PAGE_ID_VERSION (x : Nat)  : Field := ⟨x, 0x000, 16, 8, .ro, 16⟩
def HDR.PAGE_ID_DIE (x : Nat)  : Field := ⟨x, 0x000, 24, 3, .ro, 0⟩
def HDR.PAGE_CAPS_SHADOW (x : Nat)  : Field := ⟨x, 0x004, 0, 1, .ro, 0⟩
def HDR.PAGE_CAPS_LOCKABLE (x : Nat)  : Field := ⟨x, 0x004, 1, 1, .ro, 0⟩
def HDR.PAGE_CAPS_SOFT_RESET_OK (x : Nat)  : Field := ⟨x, 0x004, 2, 1, .ro, 0⟩
def HDR.PAGE_CAPS_SPARED (x : Nat)  : Field := ⟨x, 0x004, 3, 1, .ro, 0⟩
def HDR.PAGE_CAPS_EVT_BITS (x : Nat)  : Field := ⟨x, 0x004, 8, 6, .ro, 0⟩
def HDR.CTRL_ENABLED (x : Nat)  : Field := ⟨x, 0x008, 0, 1, .ro, 0⟩
def HDR.CTRL_SOFT_RESET (x : Nat)  : Field := ⟨x, 0x008, 1, 1, .wo, 0⟩
def HDR.CTRL_FREEZE (x : Nat)  : Field := ⟨x, 0x008, 2, 1, .rwLv, 0⟩
def HDR.CTRL_VIEW_ACTIVE (x : Nat)  : Field := ⟨x, 0x008, 3, 1, .rwLv, 0⟩
def HDR.STATUS_SR_BUSY (x : Nat)  : Field := ⟨x, 0x00C, 0, 1, .ro, 0⟩
def HDR.STATUS_FROZEN (x : Nat)  : Field := ⟨x, 0x00C, 1, 1, .ro, 0⟩
def HDR.STATUS_GROUP_PENDING (x : Nat)  : Field := ⟨x, 0x00C, 2, 1, .ro, 0⟩
def HDR.STATUS_STAGED_DIFF (x : Nat)  : Field := ⟨x, 0x00C, 3, 1, .ro, 0⟩
def HDR.EVT_STATUS_EVENTS (x : Nat)  : Field := ⟨x, 0x010, 0, 32, .w1c, 0⟩
def HDR.EVT_MASK_MASK (x : Nat)  : Field := ⟨x, 0x014, 0, 32, .rwLv, 4294967295⟩
def HDR.EVT_FORCE_FORCE (x : Nat)  : Field := ⟨x, 0x018, 0, 32, .wo, 0⟩
def HDR.EVT_NMI_SEL_NMI_SEL (x : Nat)  : Field := ⟨x, 0x01C, 0, 32, .rwLv, 0⟩
def HDR.STAGE_CTRL_GROUPS (x : Nat)  : Field := ⟨x, 0x020, 0, 10, .rwLv, 0⟩
def HDR.STAGE_CTRL_BOUNDARY (x : Nat)  : Field := ⟨x, 0x020, 10, 3, .rwLv, 0⟩
def HDR.STAGE_CTRL_GO (x : Nat)  : Field := ⟨x, 0x020, 13, 1, .wo, 0⟩
def HDR.STAGE_CTRL_CANCEL (x : Nat)  : Field := ⟨x, 0x020, 14, 1, .wo, 0⟩
def HDR.STAGE_CTRL_AT (x : Nat)  : Field := ⟨x, 0x020, 16, 16, .rwLv, 0⟩
def HDR.STAGE_STATUS_PENDING (x : Nat)  : Field := ⟨x, 0x024, 0, 1, .ro, 0⟩
def HDR.STAGE_STATUS_DONE (x : Nat)  : Field := ⟨x, 0x024, 1, 1, .ro, 0⟩
def HDR.STAGE_STATUS_EARLY (x : Nat)  : Field := ⟨x, 0x024, 2, 1, .ro, 0⟩
def HDR.STAGE_STATUS_RESULT (x : Nat)  : Field := ⟨x, 0x024, 4, 4, .ro, 0⟩
def HDR.STAGE_STATUS_AT_PENDING (x : Nat)  : Field := ⟨x, 0x024, 16, 16, .ro, 0⟩
def HDR.LOCK_VIOL_VIOL (x : Nat)  : Field := ⟨x, 0x028, 0, 1, .w1c, 0⟩
def HDR.LOCK_VIOL_CAUSE (x : Nat)  : Field := ⟨x, 0x028, 1, 3, .ro, 0⟩
def HDR.LOCK_VIOL_MASTER (x : Nat)  : Field := ⟨x, 0x028, 4, 3, .ro, 0⟩
def HDR.LOCK_VIOL_LOCATION (x : Nat)  : Field := ⟨x, 0x028, 8, 20, .ro, 0⟩
def HDR.FAULT_CLASS_TRANSIENT (x : Nat)  : Field := ⟨x, 0x02C, 0, 16, .ro, 0⟩
def HDR.FAULT_CLASS_LASTING (x : Nat)  : Field := ⟨x, 0x02C, 16, 8, .ro, 0⟩
def HDR.FAULT_CLASS_EXHAUSTED (x : Nat)  : Field := ⟨x, 0x02C, 24, 4, .ro, 0⟩
def HDR.FAULT_CLASS_SPARES_MIN (x : Nat)  : Field := ⟨x, 0x02C, 28, 4, .ro, 0⟩
def HDR.CNT_BASE_BASE (x : Nat)  : Field := ⟨x, 0x030, 0, 12, .ro, 0⟩

/-- Every field of a `HDR` page that its table names. -/
def HDR.all (x : Nat) : List Field :=
    [HDR.PAGE_ID_TYPE x, HDR.PAGE_ID_INSTANCE x, HDR.PAGE_ID_VERSION x, HDR.PAGE_ID_DIE x, HDR.PAGE_CAPS_SHADOW x, HDR.PAGE_CAPS_LOCKABLE x,
      HDR.PAGE_CAPS_SOFT_RESET_OK x, HDR.PAGE_CAPS_SPARED x, HDR.PAGE_CAPS_EVT_BITS x, HDR.CTRL_ENABLED x, HDR.CTRL_SOFT_RESET x, HDR.CTRL_FREEZE x,
      HDR.CTRL_VIEW_ACTIVE x, HDR.STATUS_SR_BUSY x, HDR.STATUS_FROZEN x, HDR.STATUS_GROUP_PENDING x, HDR.STATUS_STAGED_DIFF x,
      HDR.EVT_STATUS_EVENTS x, HDR.EVT_MASK_MASK x, HDR.EVT_FORCE_FORCE x, HDR.EVT_NMI_SEL_NMI_SEL x, HDR.STAGE_CTRL_GROUPS x,
      HDR.STAGE_CTRL_BOUNDARY x, HDR.STAGE_CTRL_GO x, HDR.STAGE_CTRL_CANCEL x, HDR.STAGE_CTRL_AT x, HDR.STAGE_STATUS_PENDING x,
      HDR.STAGE_STATUS_DONE x, HDR.STAGE_STATUS_EARLY x, HDR.STAGE_STATUS_RESULT x, HDR.STAGE_STATUS_AT_PENDING x, HDR.LOCK_VIOL_VIOL x,
      HDR.LOCK_VIOL_CAUSE x, HDR.LOCK_VIOL_MASTER x, HDR.LOCK_VIOL_LOCATION x, HDR.FAULT_CLASS_TRANSIENT x, HDR.FAULT_CLASS_LASTING x,
      HDR.FAULT_CLASS_EXHAUSTED x, HDR.FAULT_CLASS_SPARES_MIN x, HDR.CNT_BASE_BASE x]

/-! ### `MG_ID` (R485) -/

def MG_ID.ID_PART   : Field := ⟨0, 0x040, 0, 16, .ro, 18468⟩
def MG_ID.ID_REV   : Field := ⟨0, 0x040, 16, 8, .ro, 176⟩
def MG_ID.DIR_INFO_BLOCK_PAGES   : Field := ⟨0, 0x044, 0, 6, .ro, 46⟩
def MG_ID.UID_LO_UID   : Field := ⟨0, 0x048, 0, 32, .ro, 0⟩
def MG_ID.UID_HI_UID   : Field := ⟨0, 0x04C, 0, 32, .ro, 0⟩
def MG_ID.SMB_ADDR_ADDR   : Field := ⟨0, 0x050, 0, 7, .ro, 0⟩
def MG_ID.ERR_LOG_OFFSET   : Field := ⟨0, 0x054, 0, 24, .ro, 0⟩
def MG_ID.ERR_LOG_BAR   : Field := ⟨0, 0x054, 24, 1, .ro, 0⟩
def MG_ID.ERR_LOG_CAUSE   : Field := ⟨0, 0x054, 25, 3, .ro, 0⟩
def MG_ID.ERR_LOG_MASTER   : Field := ⟨0, 0x054, 28, 3, .ro, 0⟩
def MG_ID.ERR_LOG_WRITE   : Field := ⟨0, 0x054, 31, 1, .ro, 0⟩

/-- Every field of a `MG_ID` page that its table names. -/
def MG_ID.all  : List Field :=
    [MG_ID.ID_PART, MG_ID.ID_REV, MG_ID.DIR_INFO_BLOCK_PAGES, MG_ID.UID_LO_UID, MG_ID.UID_HI_UID, MG_ID.SMB_ADDR_ADDR, MG_ID.ERR_LOG_OFFSET,
      MG_ID.ERR_LOG_BAR, MG_ID.ERR_LOG_CAUSE, MG_ID.ERR_LOG_MASTER, MG_ID.ERR_LOG_WRITE]

/-! ### `TX` (R62) -/

def TX.MOD_CFG_BASE (p : Port)  : Field := ⟨(31 + 8 * p.toNat), 0x040, 0, 2, .rwSh, 2⟩
def TX.MOD_CFG_SHAPED (p : Port)  : Field := ⟨(31 + 8 * p.toNat), 0x040, 2, 1, .rwSh, 1⟩
def TX.MOD_CFG_ENTROPY_E (p : Port)  : Field := ⟨(31 + 8 * p.toNat), 0x040, 4, 9, .rwSh, 346⟩
def TX.MOD_CFG_CODE_RATE (p : Port)  : Field := ⟨(31 + 8 * p.toNat), 0x040, 16, 2, .rwSh, 2⟩
def TX.SYM_RATE_RATE_Q (p : Port)  : Field := ⟨(31 + 8 * p.toNat), 0x044, 0, 11, .rwSh, 1088⟩
def TX.SHAPE_CFG_ROLLOFF (p : Port)  : Field := ⟨(31 + 8 * p.toNat), 0x048, 0, 6, .rwSh, 10⟩
def TX.DERIVED_SLOTS (p : Port)  : Field := ⟨(31 + 8 * p.toNat), 0x04C, 0, 7, .ro, 96⟩
def TX.DERIVED_STAGED_VALID (p : Port)  : Field := ⟨(31 + 8 * p.toNat), 0x04C, 7, 1, .ro, 1⟩
def TX.DERIVED_DM_K (p : Port)  : Field := ⟨(31 + 8 * p.toNat), 0x04C, 8, 8, .ro, 218⟩
def TX.DERIVED_KNOWN_SIGNS (p : Port)  : Field := ⟨(31 + 8 * p.toNat), 0x04C, 16, 6, .ro, 0⟩
def TX.DERIVED_CFG_VALID (p : Port)  : Field := ⟨(31 + 8 * p.toNat), 0x04C, 22, 1, .ro, 1⟩
def TX.DM_COMP_N1 (p : Port)  : Field := ⟨(31 + 8 * p.toNat), 0x050, 0, 8, .ro, 0⟩
def TX.DM_COMP_N3 (p : Port)  : Field := ⟨(31 + 8 * p.toNat), 0x050, 8, 8, .ro, 0⟩
def TX.DM_COMP_N5 (p : Port)  : Field := ⟨(31 + 8 * p.toNat), 0x050, 16, 8, .ro, 0⟩
def TX.DM_COMP_N7 (p : Port)  : Field := ⟨(31 + 8 * p.toNat), 0x050, 24, 8, .ro, 0⟩
def TX.DM_COMP_STAGED_N1 (p : Port)  : Field := ⟨(31 + 8 * p.toNat), 0x054, 0, 8, .ro, 0⟩
def TX.DM_COMP_STAGED_N3 (p : Port)  : Field := ⟨(31 + 8 * p.toNat), 0x054, 8, 8, .ro, 0⟩
def TX.DM_COMP_STAGED_N5 (p : Port)  : Field := ⟨(31 + 8 * p.toNat), 0x054, 16, 8, .ro, 0⟩
def TX.DM_COMP_STAGED_N7 (p : Port)  : Field := ⟨(31 + 8 * p.toNat), 0x054, 24, 8, .ro, 0⟩
def TX.TX_CTRL_TX_ENABLE (p : Port)  : Field := ⟨(31 + 8 * p.toNat), 0x058, 0, 1, .rwLv, 0⟩
def TX.TX_CTRL_FORCE_PREAMBLE (p : Port)  : Field := ⟨(31 + 8 * p.toNat), 0x058, 1, 1, .wo, 0⟩
def TX.TX_CTRL_PRE_INTERVAL (p : Port)  : Field := ⟨(31 + 8 * p.toNat), 0x058, 4, 4, .rwLv, 4⟩
def TX.TX_STATUS_TX_STATE (p : Port)  : Field := ⟨(31 + 8 * p.toNat), 0x05C, 0, 3, .ro, 0⟩
def TX.TX_STATUS_FAR_ACQ_REQ (p : Port)  : Field := ⟨(31 + 8 * p.toNat), 0x05C, 3, 1, .ro, 0⟩
def TX.TX_STATUS_LOCAL_RX_ACQ (p : Port)  : Field := ⟨(31 + 8 * p.toNat), 0x05C, 4, 1, .ro, 0⟩
def TX.TX_STATUS_ATTEN_CDB (p : Port)  : Field := ⟨(31 + 8 * p.toNat), 0x05C, 16, 16, .ro, 4000⟩
def TX.RAMP_TIME_RAMP_MS (p : Port)  : Field := ⟨(31 + 8 * p.toNat), 0x060, 0, 7, .rwLv, 10⟩
def TX.RAMP_DEPTH_TOTAL_DB (p : Port)  : Field := ⟨(31 + 8 * p.toNat), 0x064, 0, 6, .rwLk, 40⟩
def TX.RAMP_DEPTH_CONV_DB (p : Port)  : Field := ⟨(31 + 8 * p.toNat), 0x064, 8, 4, .rwLk, 6⟩
def TX.RAMP_OUT_CODE (p : Port)  : Field := ⟨(31 + 8 * p.toNat), 0x068, 0, 12, .ro, 0⟩
def TX.VOA_TABLE_CODE (p : Port) (i : Nat) : Field := ⟨(31 + 8 * p.toNat), 0x080 + 4 * i, 0, 12, .rwLv, (4095 - 273 * i)⟩
def TX.CLU_MAP_IN_SERVICE (p : Port)  : Field := ⟨(31 + 8 * p.toNat), 0x0C0, 0, 9, .ro, 255⟩
def TX.CLU_MAP_QUARANTINED (p : Port)  : Field := ⟨(31 + 8 * p.toNat), 0x0C0, 16, 9, .ro, 0⟩
def TX.CLU_ROT_CHRYS_CLU (p : Port)  : Field := ⟨(31 + 8 * p.toNat), 0x0C4, 0, 4, .ro, 8⟩
def TX.CLU_ROT_SPARES (p : Port)  : Field := ⟨(31 + 8 * p.toNat), 0x0C4, 4, 4, .ro, 1⟩
def TX.CLU_ROT_DWELL_MS (p : Port)  : Field := ⟨(31 + 8 * p.toNat), 0x0C4, 16, 10, .rwLv, 100⟩

/-- Every field of a `TX` page that its table names. -/
def TX.all (p : Port) : List Field :=
    [TX.MOD_CFG_BASE p, TX.MOD_CFG_SHAPED p, TX.MOD_CFG_ENTROPY_E p, TX.MOD_CFG_CODE_RATE p, TX.SYM_RATE_RATE_Q p, TX.SHAPE_CFG_ROLLOFF p,
      TX.DERIVED_SLOTS p, TX.DERIVED_STAGED_VALID p, TX.DERIVED_DM_K p, TX.DERIVED_KNOWN_SIGNS p, TX.DERIVED_CFG_VALID p, TX.DM_COMP_N1 p,
      TX.DM_COMP_N3 p, TX.DM_COMP_N5 p, TX.DM_COMP_N7 p, TX.DM_COMP_STAGED_N1 p, TX.DM_COMP_STAGED_N3 p, TX.DM_COMP_STAGED_N5 p,
      TX.DM_COMP_STAGED_N7 p, TX.TX_CTRL_TX_ENABLE p, TX.TX_CTRL_FORCE_PREAMBLE p, TX.TX_CTRL_PRE_INTERVAL p, TX.TX_STATUS_TX_STATE p,
      TX.TX_STATUS_FAR_ACQ_REQ p, TX.TX_STATUS_LOCAL_RX_ACQ p, TX.TX_STATUS_ATTEN_CDB p, TX.RAMP_TIME_RAMP_MS p, TX.RAMP_DEPTH_TOTAL_DB p,
      TX.RAMP_DEPTH_CONV_DB p, TX.RAMP_OUT_CODE p, TX.CLU_MAP_IN_SERVICE p, TX.CLU_MAP_QUARANTINED p, TX.CLU_ROT_CHRYS_CLU p, TX.CLU_ROT_SPARES p,
      TX.CLU_ROT_DWELL_MS p] ++
    ((List.range 16).flatMap fun i => [TX.VOA_TABLE_CODE p i])

/-! ### `TXCONV` (R63) -/

def TXCONV.CONV_CFG_AMPLITUDE (p : Port) (c : Nat) : Field := ⟨(32 + 8 * p.toNat), 0x040 + 0x40 * c, 0, 8, .rwSh, 64⟩
def TXCONV.SKEW_DELAY (p : Port) (c : Nat) : Field := ⟨(32 + 8 * p.toNat), 0x044 + 0x40 * c, 0, 13, .rwSh, 0⟩
def TXCONV.PRE_EMPH_GAIN0 (p : Port) (c : Nat) (j : Nat) : Field := ⟨(32 + 8 * p.toNat), 0x048 + 0x40 * c + 4 * j, 0, 7, .rwSh, 0⟩
def TXCONV.PRE_EMPH_GAIN1 (p : Port) (c : Nat) (j : Nat) : Field := ⟨(32 + 8 * p.toNat), 0x048 + 0x40 * c + 4 * j, 8, 7, .rwSh, 0⟩
def TXCONV.PRE_EMPH_GAIN2 (p : Port) (c : Nat) (j : Nat) : Field := ⟨(32 + 8 * p.toNat), 0x048 + 0x40 * c + 4 * j, 16, 7, .rwSh, 0⟩
def TXCONV.PRE_EMPH_GAIN3 (p : Port) (c : Nat) (j : Nat) : Field := ⟨(32 + 8 * p.toNat), 0x048 + 0x40 * c + 4 * j, 24, 7, .rwSh, 0⟩
def TXCONV.SUB_STATUS_SPARES (p : Port) (c : Nat) : Field := ⟨(32 + 8 * p.toNat), 0x068 + 0x40 * c, 0, 4, .ro, 8⟩
def TXCONV.SUB_STATUS_CHRYS_SUB (p : Port) (c : Nat) : Field := ⟨(32 + 8 * p.toNat), 0x068 + 0x40 * c, 8, 9, .ro, 256⟩
def TXCONV.SUB_QUAR_COUNT (p : Port) (c : Nat) : Field := ⟨(32 + 8 * p.toNat), 0x06C + 0x40 * c, 0, 4, .ro, 0⟩

/-- Every field of a `TXCONV` page that its table names. -/
def TXCONV.all (p : Port) : List Field :=
    ((List.range 4).flatMap fun c => [TXCONV.CONV_CFG_AMPLITUDE p c, TXCONV.SKEW_DELAY p c, TXCONV.SUB_STATUS_SPARES p c,
      TXCONV.SUB_STATUS_CHRYS_SUB p c, TXCONV.SUB_QUAR_COUNT p c]) ++
    ((List.range 4).flatMap fun c => (List.range 8).flatMap fun j => [TXCONV.PRE_EMPH_GAIN0 p c j, TXCONV.PRE_EMPH_GAIN1 p c j,
      TXCONV.PRE_EMPH_GAIN2 p c j, TXCONV.PRE_EMPH_GAIN3 p c j])

/-! ### `RXFE` (R93) -/

def RXFE.RX_CTRL_RX_ENABLE (p : Port)  : Field := ⟨(33 + 8 * p.toNat), 0x040, 0, 1, .rwLv, 0⟩
def RXFE.RX_CTRL_FORCE_REACQ (p : Port)  : Field := ⟨(33 + 8 * p.toNat), 0x040, 1, 1, .wo, 0⟩
def RXFE.RX_CTRL_CAL_NOW (p : Port)  : Field := ⟨(33 + 8 * p.toNat), 0x040, 2, 1, .wo, 0⟩
def RXFE.SYM_RATE_RATE_Q (p : Port)  : Field := ⟨(33 + 8 * p.toNat), 0x044, 0, 11, .rwSh, 1088⟩
def RXFE.SHAPE_CFG_ROLLOFF (p : Port)  : Field := ⟨(33 + 8 * p.toNat), 0x048, 0, 6, .rwSh, 10⟩
def RXFE.CARRIER_FREQ_GHZ (p : Port)  : Field := ⟨(33 + 8 * p.toNat), 0x04C, 0, 18, .rwLk, 193400⟩
def RXFE.CD_WINDOW_W (p : Port)  : Field := ⟨(33 + 8 * p.toNat), 0x050, 0, 10, .rwLk, 200⟩
def RXFE.CD_SCAN_CENTRE (p : Port)  : Field := ⟨(33 + 8 * p.toNat), 0x054, 0, 11, .rwLk, 0⟩
def RXFE.CD_SCAN_HALF (p : Port)  : Field := ⟨(33 + 8 * p.toNat), 0x054, 16, 10, .rwLk, 200⟩
def RXFE.ACQ_CFG_PRE_WAIT (p : Port)  : Field := ⟨(33 + 8 * p.toNat), 0x058, 0, 4, .rwLv, 5⟩
def RXFE.ACQ_CFG_CARRIER_THRESH (p : Port)  : Field := ⟨(33 + 8 * p.toNat), 0x058, 8, 8, .rwLv, 64⟩
def RXFE.ACQ_CFG_SIG_THRESH (p : Port)  : Field := ⟨(33 + 8 * p.toNat), 0x058, 16, 8, .rwLv, 60⟩
def RXFE.ACQ_STATUS_ACQ_STATE (p : Port)  : Field := ⟨(33 + 8 * p.toNat), 0x05C, 0, 4, .ro, 0⟩
def RXFE.ACQ_STATUS_LOS (p : Port)  : Field := ⟨(33 + 8 * p.toNat), 0x05C, 4, 1, .ro, 1⟩
def RXFE.ACQ_STATUS_CARRIER (p : Port)  : Field := ⟨(33 + 8 * p.toNat), 0x05C, 5, 1, .ro, 0⟩
def RXFE.ACQ_STATUS_FAIL_CAUSE (p : Port)  : Field := ⟨(33 + 8 * p.toNat), 0x05C, 8, 4, .ro, 0⟩
def RXFE.ACQ_STATUS_ACQ_TIME (p : Port)  : Field := ⟨(33 + 8 * p.toNat), 0x05C, 16, 16, .ro, 0⟩
def RXFE.CD_EST_D_HAT (p : Port)  : Field := ⟨(33 + 8 * p.toNat), 0x060, 0, 16, .ro, 0⟩
def RXFE.CD_EST_METRIC (p : Port)  : Field := ⟨(33 + 8 * p.toNat), 0x060, 16, 16, .ro, 0⟩
def RXFE.CFC_F_HAT (p : Port)  : Field := ⟨(33 + 8 * p.toNat), 0x064, 0, 16, .ro, 0⟩
def RXFE.CFC_QUALITY (p : Port)  : Field := ⟨(33 + 8 * p.toNat), 0x064, 16, 16, .ro, 0⟩
def RXFE.RX_DERIVED_CFG_VALID (p : Port)  : Field := ⟨(33 + 8 * p.toNat), 0x068, 0, 1, .ro, 1⟩
def RXFE.RX_DERIVED_STAGED_VALID (p : Port)  : Field := ⟨(33 + 8 * p.toNat), 0x068, 1, 1, .ro, 1⟩
def RXFE.RX_DERIVED_HALF_RATE (p : Port)  : Field := ⟨(33 + 8 * p.toNat), 0x068, 2, 1, .ro, 0⟩
def RXFE.RX_DERIVED_WIN_DELAY (p : Port)  : Field := ⟨(33 + 8 * p.toNat), 0x068, 8, 8, .ro, 40⟩
def RXFE.RX_DERIVED_W_MAX (p : Port)  : Field := ⟨(33 + 8 * p.toNat), 0x068, 16, 10, .ro, 210⟩
def RXFE.FE_LAT_LATENCY (p : Port)  : Field := ⟨(33 + 8 * p.toNat), 0x06C, 0, 9, .ro, 126⟩
def RXFE.NOISE_X_PSD (p : Port)  : Field := ⟨(33 + 8 * p.toNat), 0x070, 0, 16, .ro, 0⟩
def RXFE.NOISE_X_VALID (p : Port)  : Field := ⟨(33 + 8 * p.toNat), 0x070, 16, 1, .ro, 0⟩
def RXFE.NOISE_X_AGE (p : Port)  : Field := ⟨(33 + 8 * p.toNat), 0x070, 24, 8, .ro, 0⟩
def RXFE.NOISE_Y_PSD (p : Port)  : Field := ⟨(33 + 8 * p.toNat), 0x074, 0, 16, .ro, 0⟩
def RXFE.NOISE_Y_VALID (p : Port)  : Field := ⟨(33 + 8 * p.toNat), 0x074, 16, 1, .ro, 0⟩
def RXFE.NOISE_Y_AGE (p : Port)  : Field := ⟨(33 + 8 * p.toNat), 0x074, 24, 8, .ro, 0⟩
def RXFE.NOISE_CFG_NOISE_EN (p : Port)  : Field := ⟨(33 + 8 * p.toNat), 0x078, 0, 1, .rwLv, 1⟩
def RXFE.QUAD_EST_RHO_X (p : Port)  : Field := ⟨(33 + 8 * p.toNat), 0x07C, 0, 16, .ro, 0⟩
def RXFE.QUAD_EST_RHO_Y (p : Port)  : Field := ⟨(33 + 8 * p.toNat), 0x07C, 16, 16, .ro, 0⟩
def RXFE.RX_SKEW_DELAY (p : Port) (i : Nat) : Field := ⟨(33 + 8 * p.toNat), 0x080 + 4 * i, 0, 13, .rwSh, 0⟩
def RXFE.FE_CORR_CTL_FREEZE_CORR (p : Port)  : Field := ⟨(33 + 8 * p.toNat), 0x090, 0, 1, .rwLv, 0⟩
def RXFE.FE_CORR_CTL_AVG_LOG2 (p : Port)  : Field := ⟨(33 + 8 * p.toNat), 0x090, 8, 4, .rwLv, 10⟩
def RXFE.FE_CORR_CTL_TARGET (p : Port)  : Field := ⟨(33 + 8 * p.toNat), 0x090, 16, 8, .rwLv, 64⟩

/-- Every field of a `RXFE` page that its table names. -/
def RXFE.all (p : Port) : List Field :=
    [RXFE.RX_CTRL_RX_ENABLE p, RXFE.RX_CTRL_FORCE_REACQ p, RXFE.RX_CTRL_CAL_NOW p, RXFE.SYM_RATE_RATE_Q p, RXFE.SHAPE_CFG_ROLLOFF p,
      RXFE.CARRIER_FREQ_GHZ p, RXFE.CD_WINDOW_W p, RXFE.CD_SCAN_CENTRE p, RXFE.CD_SCAN_HALF p, RXFE.ACQ_CFG_PRE_WAIT p,
      RXFE.ACQ_CFG_CARRIER_THRESH p, RXFE.ACQ_CFG_SIG_THRESH p, RXFE.ACQ_STATUS_ACQ_STATE p, RXFE.ACQ_STATUS_LOS p, RXFE.ACQ_STATUS_CARRIER p,
      RXFE.ACQ_STATUS_FAIL_CAUSE p, RXFE.ACQ_STATUS_ACQ_TIME p, RXFE.CD_EST_D_HAT p, RXFE.CD_EST_METRIC p, RXFE.CFC_F_HAT p, RXFE.CFC_QUALITY p,
      RXFE.RX_DERIVED_CFG_VALID p, RXFE.RX_DERIVED_STAGED_VALID p, RXFE.RX_DERIVED_HALF_RATE p, RXFE.RX_DERIVED_WIN_DELAY p, RXFE.RX_DERIVED_W_MAX p,
      RXFE.FE_LAT_LATENCY p, RXFE.NOISE_X_PSD p, RXFE.NOISE_X_VALID p, RXFE.NOISE_X_AGE p, RXFE.NOISE_Y_PSD p, RXFE.NOISE_Y_VALID p,
      RXFE.NOISE_Y_AGE p, RXFE.NOISE_CFG_NOISE_EN p, RXFE.QUAD_EST_RHO_X p, RXFE.QUAD_EST_RHO_Y p, RXFE.FE_CORR_CTL_FREEZE_CORR p,
      RXFE.FE_CORR_CTL_AVG_LOG2 p, RXFE.FE_CORR_CTL_TARGET p] ++
    ((List.range 4).flatMap fun i => [RXFE.RX_SKEW_DELAY p i])

/-! ### `RXCONV` (R94) -/

def RXCONV.CAL_CFG_TEMP_DELTA (p : Port)  : Field := ⟨(34 + 8 * p.toNat), 0x040, 0, 7, .rwLv, 20⟩
def RXCONV.CAL_CFG_CAL_HOLD (p : Port)  : Field := ⟨(34 + 8 * p.toNat), 0x040, 7, 1, .rwLv, 0⟩
def RXCONV.CAL_CFG_BG_STEP_MS (p : Port)  : Field := ⟨(34 + 8 * p.toNat), 0x040, 8, 8, .rwLv, 10⟩
def RXCONV.CAL_CFG_RUN_STEP (p : Port)  : Field := ⟨(34 + 8 * p.toNat), 0x040, 16, 8, .rwLv, 25⟩
def RXCONV.CAL_LIMITS_OFFSET_PLAUS (p : Port)  : Field := ⟨(34 + 8 * p.toNat), 0x044, 0, 8, .rwLv, 16⟩
def RXCONV.CAL_LIMITS_GAIN_PLAUS (p : Port)  : Field := ⟨(34 + 8 * p.toNat), 0x044, 8, 8, .rwLv, 10⟩
def RXCONV.CAL_LIMITS_SKEW_PLAUS (p : Port)  : Field := ⟨(34 + 8 * p.toNat), 0x044, 16, 8, .rwLv, 32⟩
def RXCONV.CAL_LIMITS_ECL_LIMIT (p : Port)  : Field := ⟨(34 + 8 * p.toNat), 0x044, 24, 8, .rwLv, 24⟩
def RXCONV.CAL_STATUS_RUN_ACTIVE (p : Port)  : Field := ⟨(34 + 8 * p.toNat), 0x048, 0, 1, .ro, 0⟩
def RXCONV.CAL_STATUS_RUN_PENDING (p : Port)  : Field := ⟨(34 + 8 * p.toNat), 0x048, 1, 1, .ro, 0⟩
def RXCONV.CAL_STATUS_SKEW_SKIPPED (p : Port)  : Field := ⟨(34 + 8 * p.toNat), 0x048, 2, 1, .ro, 0⟩
def RXCONV.CAL_STATUS_T_REF (p : Port)  : Field := ⟨(34 + 8 * p.toNat), 0x048, 16, 16, .ro, 0⟩
def RXCONV.CAL_TEMP_T_NOW (p : Port)  : Field := ⟨(34 + 8 * p.toNat), 0x04C, 0, 16, .ro, 0⟩
def RXCONV.CHECK_CFG_STAT_LIMIT (p : Port)  : Field := ⟨(34 + 8 * p.toNat), 0x050, 0, 8, .rwLv, 32⟩
def RXCONV.SUB_STATUS_SPARES (p : Port) (c : Nat) : Field := ⟨(34 + 8 * p.toNat), 0x080 + 0x20 * c, 0, 4, .ro, 8⟩
def RXCONV.SUB_STATUS_CHRYS_SUB (p : Port) (c : Nat) : Field := ⟨(34 + 8 * p.toNat), 0x080 + 0x20 * c, 8, 9, .ro, 256⟩
def RXCONV.SUB_QUAR_COUNT (p : Port) (c : Nat) : Field := ⟨(34 + 8 * p.toNat), 0x084 + 0x20 * c, 0, 4, .ro, 0⟩
def RXCONV.SUB_QUAR_LOST_FRONT (p : Port) (c : Nat) : Field := ⟨(34 + 8 * p.toNat), 0x084 + 0x20 * c, 8, 6, .ro, 63⟩
def RXCONV.ROT_POS_NEXT_POS (p : Port) (c : Nat) : Field := ⟨(34 + 8 * p.toNat), 0x088 + 0x20 * c, 0, 8, .ro, 0⟩
def RXCONV.TRIM_SEL_CONV (p : Port)  : Field := ⟨(34 + 8 * p.toNat), 0x100, 0, 2, .rwLv, 0⟩
def RXCONV.TRIM_SEL_KIND (p : Port)  : Field := ⟨(34 + 8 * p.toNat), 0x100, 2, 2, .rwLv, 0⟩
def RXCONV.TRIM_SEL_INDEX (p : Port)  : Field := ⟨(34 + 8 * p.toNat), 0x100, 8, 9, .rwLv, 0⟩
def RXCONV.TRIM_DATA_VALUE (p : Port)  : Field := ⟨(34 + 8 * p.toNat), 0x104, 0, 9, .ro, 0⟩

/-- Every field of a `RXCONV` page that its table names. -/
def RXCONV.all (p : Port) : List Field :=
    [RXCONV.CAL_CFG_TEMP_DELTA p, RXCONV.CAL_CFG_CAL_HOLD p, RXCONV.CAL_CFG_BG_STEP_MS p, RXCONV.CAL_CFG_RUN_STEP p, RXCONV.CAL_LIMITS_OFFSET_PLAUS p,
      RXCONV.CAL_LIMITS_GAIN_PLAUS p, RXCONV.CAL_LIMITS_SKEW_PLAUS p, RXCONV.CAL_LIMITS_ECL_LIMIT p, RXCONV.CAL_STATUS_RUN_ACTIVE p,
      RXCONV.CAL_STATUS_RUN_PENDING p, RXCONV.CAL_STATUS_SKEW_SKIPPED p, RXCONV.CAL_STATUS_T_REF p, RXCONV.CAL_TEMP_T_NOW p,
      RXCONV.CHECK_CFG_STAT_LIMIT p, RXCONV.TRIM_SEL_CONV p, RXCONV.TRIM_SEL_KIND p, RXCONV.TRIM_SEL_INDEX p, RXCONV.TRIM_DATA_VALUE p] ++
    ((List.range 4).flatMap fun c => [RXCONV.SUB_STATUS_SPARES p c, RXCONV.SUB_STATUS_CHRYS_SUB p c, RXCONV.SUB_QUAR_COUNT p c,
      RXCONV.SUB_QUAR_LOST_FRONT p c, RXCONV.ROT_POS_NEXT_POS p c])

/-! ### `RXEQ` (R124) -/

def RXEQ.REGION_CTRL_REGION_RESET (p : Port)  : Field := ⟨(35 + 8 * p.toNat), 0x040, 0, 1, .wo, 0⟩
def RXEQ.REGION_CTRL_RESET_BUSY (p : Port)  : Field := ⟨(35 + 8 * p.toNat), 0x040, 1, 1, .ro, 0⟩
def RXEQ.EQ_CFG_MU_CMA (p : Port)  : Field := ⟨(35 + 8 * p.toNat), 0x044, 0, 4, .rwLv, 10⟩
def RXEQ.EQ_CFG_MU_DD (p : Port)  : Field := ⟨(35 + 8 * p.toNat), 0x044, 4, 4, .rwLv, 12⟩
def RXEQ.EQ_CFG_FREEZE_EQ (p : Port)  : Field := ⟨(35 + 8 * p.toNat), 0x044, 8, 1, .rwLv, 0⟩
def RXEQ.EQ_CFG_SPEC_INV (p : Port)  : Field := ⟨(35 + 8 * p.toNat), 0x044, 9, 1, .rwLk, 0⟩
def RXEQ.EQ_CFG_CONV_THRESH (p : Port)  : Field := ⟨(35 + 8 * p.toNat), 0x044, 16, 8, .rwLv, 40⟩
def RXEQ.EQ_CFG_DIVERGE_THRESH (p : Port)  : Field := ⟨(35 + 8 * p.toNat), 0x044, 24, 8, .rwLv, 20⟩
def RXEQ.TR_CFG_TR_BW (p : Port)  : Field := ⟨(35 + 8 * p.toNat), 0x048, 0, 3, .rwLv, 3⟩
def RXEQ.TR_CFG_TR_LOCK_THRESH (p : Port)  : Field := ⟨(35 + 8 * p.toNat), 0x048, 8, 8, .rwLv, 32⟩
def RXEQ.CR_CFG_FT_BW (p : Port)  : Field := ⟨(35 + 8 * p.toNat), 0x04C, 0, 3, .rwLv, 2⟩
def RXEQ.CR_CFG_BPS_WIN (p : Port)  : Field := ⟨(35 + 8 * p.toNat), 0x04C, 8, 7, .rwLv, 32⟩
def RXEQ.CR_CFG_SLIP_CW (p : Port)  : Field := ⟨(35 + 8 * p.toNat), 0x04C, 16, 8, .rwLv, 16⟩
def RXEQ.EQ_STATUS_TR_LOCK (p : Port)  : Field := ⟨(35 + 8 * p.toNat), 0x050, 0, 1, .ro, 0⟩
def RXEQ.EQ_STATUS_EQ_CONV (p : Port)  : Field := ⟨(35 + 8 * p.toNat), 0x050, 1, 1, .ro, 0⟩
def RXEQ.EQ_STATUS_DD_MODE (p : Port)  : Field := ⟨(35 + 8 * p.toNat), 0x050, 2, 1, .ro, 0⟩
def RXEQ.EQ_STATUS_POL_SWAP (p : Port)  : Field := ⟨(35 + 8 * p.toNat), 0x050, 3, 1, .ro, 0⟩
def RXEQ.EQ_STATUS_ROT_X (p : Port)  : Field := ⟨(35 + 8 * p.toNat), 0x050, 4, 2, .ro, 0⟩
def RXEQ.EQ_STATUS_ROT_Y (p : Port)  : Field := ⟨(35 + 8 * p.toNat), 0x050, 6, 2, .ro, 0⟩
def RXEQ.EQ_STATUS_REACQ_CAUSE (p : Port)  : Field := ⟨(35 + 8 * p.toNat), 0x050, 8, 2, .ro, 0⟩
def RXEQ.TR_EST_RATE_OFS (p : Port)  : Field := ⟨(35 + 8 * p.toNat), 0x054, 0, 16, .ro, 0⟩
def RXEQ.TR_EST_RMS_ERR (p : Port)  : Field := ⟨(35 + 8 * p.toNat), 0x054, 16, 16, .ro, 0⟩
def RXEQ.CR_EST_DELTA_F (p : Port)  : Field := ⟨(35 + 8 * p.toNat), 0x058, 0, 16, .ro, 0⟩
def RXEQ.CLU_MAP_IN_SERVICE (p : Port)  : Field := ⟨(35 + 8 * p.toNat), 0x05C, 0, 17, .ro, 65535⟩
def RXEQ.CLU_QUAR_QUARANTINED (p : Port)  : Field := ⟨(35 + 8 * p.toNat), 0x060, 0, 17, .ro, 0⟩
def RXEQ.CLU_ROT_CHRYS_CLU (p : Port)  : Field := ⟨(35 + 8 * p.toNat), 0x064, 0, 5, .ro, 16⟩
def RXEQ.CLU_ROT_SPARE_BUSY (p : Port)  : Field := ⟨(35 + 8 * p.toNat), 0x064, 5, 1, .ro, 0⟩
def RXEQ.CLU_ROT_SPARES (p : Port)  : Field := ⟨(35 + 8 * p.toNat), 0x064, 6, 1, .ro, 1⟩
def RXEQ.CLU_ROT_LANE_LATE (p : Port)  : Field := ⟨(35 + 8 * p.toNat), 0x064, 7, 1, .ro, 0⟩
def RXEQ.CLU_ROT_DWELL_MS (p : Port)  : Field := ⟨(35 + 8 * p.toNat), 0x064, 16, 10, .rwLv, 100⟩
def RXEQ.EQ_LAT_LATENCY (p : Port)  : Field := ⟨(35 + 8 * p.toNat), 0x068, 0, 11, .ro, 1304⟩
def RXEQ.COEF_ENG_SPARE_LEFT (p : Port)  : Field := ⟨(35 + 8 * p.toNat), 0x06C, 0, 1, .ro, 1⟩

/-- Every field of a `RXEQ` page that its table names. -/
def RXEQ.all (p : Port) : List Field :=
    [RXEQ.REGION_CTRL_REGION_RESET p, RXEQ.REGION_CTRL_RESET_BUSY p, RXEQ.EQ_CFG_MU_CMA p, RXEQ.EQ_CFG_MU_DD p, RXEQ.EQ_CFG_FREEZE_EQ p,
      RXEQ.EQ_CFG_SPEC_INV p, RXEQ.EQ_CFG_CONV_THRESH p, RXEQ.EQ_CFG_DIVERGE_THRESH p, RXEQ.TR_CFG_TR_BW p, RXEQ.TR_CFG_TR_LOCK_THRESH p,
      RXEQ.CR_CFG_FT_BW p, RXEQ.CR_CFG_BPS_WIN p, RXEQ.CR_CFG_SLIP_CW p, RXEQ.EQ_STATUS_TR_LOCK p, RXEQ.EQ_STATUS_EQ_CONV p,
      RXEQ.EQ_STATUS_DD_MODE p, RXEQ.EQ_STATUS_POL_SWAP p, RXEQ.EQ_STATUS_ROT_X p, RXEQ.EQ_STATUS_ROT_Y p, RXEQ.EQ_STATUS_REACQ_CAUSE p,
      RXEQ.TR_EST_RATE_OFS p, RXEQ.TR_EST_RMS_ERR p, RXEQ.CR_EST_DELTA_F p, RXEQ.CLU_MAP_IN_SERVICE p, RXEQ.CLU_QUAR_QUARANTINED p,
      RXEQ.CLU_ROT_CHRYS_CLU p, RXEQ.CLU_ROT_SPARE_BUSY p, RXEQ.CLU_ROT_SPARES p, RXEQ.CLU_ROT_LANE_LATE p, RXEQ.CLU_ROT_DWELL_MS p,
      RXEQ.EQ_LAT_LATENCY p, RXEQ.COEF_ENG_SPARE_LEFT p]

/-! ### `DEMAP` (R125) -/

def DEMAP.MOD_CFG_BASE (p : Port)  : Field := ⟨(36 + 8 * p.toNat), 0x040, 0, 2, .rwSh, 2⟩
def DEMAP.MOD_CFG_SHAPED (p : Port)  : Field := ⟨(36 + 8 * p.toNat), 0x040, 2, 1, .rwSh, 1⟩
def DEMAP.MOD_CFG_ENTROPY_E (p : Port)  : Field := ⟨(36 + 8 * p.toNat), 0x040, 4, 9, .rwSh, 346⟩
def DEMAP.MOD_CFG_CODE_RATE (p : Port)  : Field := ⟨(36 + 8 * p.toNat), 0x040, 16, 2, .rwSh, 2⟩
def DEMAP.DEMAP_CFG_SCALE (p : Port)  : Field := ⟨(36 + 8 * p.toNat), 0x044, 0, 6, .rwLv, 32⟩
def DEMAP.DEMAP_CFG_PRIOR_EN (p : Port)  : Field := ⟨(36 + 8 * p.toNat), 0x044, 8, 1, .rwLv, 1⟩
def DEMAP.DERIVED_CFG_VALID (p : Port)  : Field := ⟨(36 + 8 * p.toNat), 0x048, 0, 1, .ro, 1⟩
def DEMAP.DERIVED_STAGED_VALID (p : Port)  : Field := ⟨(36 + 8 * p.toNat), 0x048, 1, 1, .ro, 1⟩
def DEMAP.DERIVED_KNOWN_SIGNS (p : Port)  : Field := ⟨(36 + 8 * p.toNat), 0x048, 2, 6, .ro, 0⟩
def DEMAP.DM_COMP_N1 (p : Port)  : Field := ⟨(36 + 8 * p.toNat), 0x04C, 0, 8, .ro, 0⟩
def DEMAP.DM_COMP_N3 (p : Port)  : Field := ⟨(36 + 8 * p.toNat), 0x04C, 8, 8, .ro, 0⟩
def DEMAP.DM_COMP_N5 (p : Port)  : Field := ⟨(36 + 8 * p.toNat), 0x04C, 16, 8, .ro, 0⟩
def DEMAP.DM_COMP_N7 (p : Port)  : Field := ⟨(36 + 8 * p.toNat), 0x04C, 24, 8, .ro, 0⟩
def DEMAP.NOISE_VAR_VAR_X (p : Port)  : Field := ⟨(36 + 8 * p.toNat), 0x050, 0, 16, .ro, 0⟩
def DEMAP.NOISE_VAR_VAR_Y (p : Port)  : Field := ⟨(36 + 8 * p.toNat), 0x050, 16, 16, .ro, 0⟩
def DEMAP.ERASE_FRAC_MAX_FRAC (p : Port)  : Field := ⟨(36 + 8 * p.toNat), 0x054, 0, 16, .ro, 0⟩
def DEMAP.LANE_STATUS_P1_SPARES (p : Port)  : Field := ⟨(36 + 8 * p.toNat), 0x058, 0, 4, .ro, 1⟩
def DEMAP.LANE_STATUS_P2_SPARES (p : Port)  : Field := ⟨(36 + 8 * p.toNat), 0x058, 4, 4, .ro, 1⟩

/-- Every field of a `DEMAP` page that its table names. -/
def DEMAP.all (p : Port) : List Field :=
    [DEMAP.MOD_CFG_BASE p, DEMAP.MOD_CFG_SHAPED p, DEMAP.MOD_CFG_ENTROPY_E p, DEMAP.MOD_CFG_CODE_RATE p, DEMAP.DEMAP_CFG_SCALE p,
      DEMAP.DEMAP_CFG_PRIOR_EN p, DEMAP.DERIVED_CFG_VALID p, DEMAP.DERIVED_STAGED_VALID p, DEMAP.DERIVED_KNOWN_SIGNS p, DEMAP.DM_COMP_N1 p,
      DEMAP.DM_COMP_N3 p, DEMAP.DM_COMP_N5 p, DEMAP.DM_COMP_N7 p, DEMAP.NOISE_VAR_VAR_X p, DEMAP.NOISE_VAR_VAR_Y p, DEMAP.ERASE_FRAC_MAX_FRAC p,
      DEMAP.LANE_STATUS_P1_SPARES p, DEMAP.LANE_STATUS_P2_SPARES p]

/-! ### `SPAN` (R126) -/

def SPAN.TEL_CFG_OSNR_AGE_MAX (p : Port)  : Field := ⟨(37 + 8 * p.toNat), 0x040, 0, 8, .rwLv, 60⟩
def SPAN.TEL_CFG_SOP_ALARM (p : Port)  : Field := ⟨(37 + 8 * p.toNat), 0x040, 16, 16, .rwLv, 10000⟩
def SPAN.NGMI_ALARM_LIMIT (p : Port)  : Field := ⟨(37 + 8 * p.toNat), 0x044, 0, 17, .rwLv, 59638⟩
def SPAN.TEL_SEQ_SEQ (p : Port)  : Field := ⟨(37 + 8 * p.toNat), 0x048, 0, 31, .ro, 0⟩
def SPAN.TEL_SEQ_NOT_ACQ (p : Port)  : Field := ⟨(37 + 8 * p.toNat), 0x048, 31, 1, .ro, 1⟩
def SPAN.CD_CD (p : Port)  : Field := ⟨(37 + 8 * p.toNat), 0x04C, 0, 18, .ro, 0⟩
def SPAN.PMD_DGD (p : Port)  : Field := ⟨(37 + 8 * p.toNat), 0x050, 0, 16, .ro, 0⟩
def SPAN.PMD_PDL (p : Port)  : Field := ⟨(37 + 8 * p.toNat), 0x050, 16, 16, .ro, 0⟩
def SPAN.SNR_OSNR (p : Port)  : Field := ⟨(37 + 8 * p.toNat), 0x054, 0, 16, .ro, 0⟩
def SPAN.SNR_OSNR_VALID (p : Port)  : Field := ⟨(37 + 8 * p.toNat), 0x054, 16, 1, .ro, 0⟩
def SPAN.ESNR_ESNR (p : Port)  : Field := ⟨(37 + 8 * p.toNat), 0x058, 0, 16, .ro, 0⟩
def SPAN.SOP_SOP_MAX (p : Port)  : Field := ⟨(37 + 8 * p.toNat), 0x05C, 0, 16, .ro, 0⟩
def SPAN.SOP_SOP_MEAN (p : Port)  : Field := ⟨(37 + 8 * p.toNat), 0x05C, 16, 16, .ro, 0⟩
def SPAN.LASER_OFFSET (p : Port)  : Field := ⟨(37 + 8 * p.toNat), 0x060, 0, 17, .ro, 0⟩
def SPAN.NGMI_NGMI (p : Port)  : Field := ⟨(37 + 8 * p.toNat), 0x064, 0, 17, .ro, 0⟩
def SPAN.BER_ERR_ERRORS (p : Port)  : Field := ⟨(37 + 8 * p.toNat), 0x068, 0, 32, .ro, 0⟩
def SPAN.BER_BITS_BITS (p : Port)  : Field := ⟨(37 + 8 * p.toNat), 0x06C, 0, 32, .ro, 0⟩

/-- Every field of a `SPAN` page that its table names. -/
def SPAN.all (p : Port) : List Field :=
    [SPAN.TEL_CFG_OSNR_AGE_MAX p, SPAN.TEL_CFG_SOP_ALARM p, SPAN.NGMI_ALARM_LIMIT p, SPAN.TEL_SEQ_SEQ p, SPAN.TEL_SEQ_NOT_ACQ p, SPAN.CD_CD p,
      SPAN.PMD_DGD p, SPAN.PMD_PDL p, SPAN.SNR_OSNR p, SPAN.SNR_OSNR_VALID p, SPAN.ESNR_ESNR p, SPAN.SOP_SOP_MAX p, SPAN.SOP_SOP_MEAN p,
      SPAN.LASER_OFFSET p, SPAN.NGMI_NGMI p, SPAN.BER_ERR_ERRORS p, SPAN.BER_BITS_BITS p]

/-! ### `FEC` (R156) -/

def FEC.ITER_CTL_MAX_ITER (p : Port)  : Field := ⟨(38 + 8 * p.toNat), 0x040, 0, 5, .rwLk, 12⟩
def FEC.ITER_CTL_CAP (p : Port)  : Field := ⟨(38 + 8 * p.toNat), 0x040, 8, 5, .ro, 16⟩
def FEC.ITER_CTL_CAP_FLOOR (p : Port)  : Field := ⟨(38 + 8 * p.toNat), 0x040, 16, 5, .rwLv, 6⟩
def FEC.ITER_CTL_EFFECTIVE (p : Port)  : Field := ⟨(38 + 8 * p.toNat), 0x040, 24, 5, .ro, 12⟩
def FEC.MS_CFG_OFFSET (p : Port)  : Field := ⟨(38 + 8 * p.toNat), 0x044, 0, 2, .rwLv, 1⟩
def FEC.POOL_STATUS_SPARES (p : Port)  : Field := ⟨(38 + 8 * p.toNat), 0x048, 0, 4, .ro, 8⟩
def FEC.POOL_STATUS_IN_SLOTS (p : Port)  : Field := ⟨(38 + 8 * p.toNat), 0x048, 8, 7, .ro, 96⟩
def FEC.POOL_STATUS_IM_SPARE (p : Port)  : Field := ⟨(38 + 8 * p.toNat), 0x048, 16, 1, .ro, 1⟩
def FEC.POOL_STATUS_BCH_SPARE (p : Port)  : Field := ⟨(38 + 8 * p.toNat), 0x048, 17, 1, .ro, 1⟩
def FEC.POOL_ROT_DWELL_MS (p : Port)  : Field := ⟨(38 + 8 * p.toNat), 0x04C, 0, 10, .rwLv, 100⟩
def FEC.STORE_OCCUPANCY (p : Port)  : Field := ⟨(38 + 8 * p.toNat), 0x050, 0, 12, .ro, 0⟩
def FEC.STORE_PEAK (p : Port)  : Field := ⟨(38 + 8 * p.toNat), 0x050, 16, 12, .rc, 0⟩
def FEC.DEC_LAT_LATENCY (p : Port)  : Field := ⟨(38 + 8 * p.toNat), 0x054, 0, 11, .ro, 964⟩
def FEC.BLK_INFO_N_BLOCKS (p : Port)  : Field := ⟨(38 + 8 * p.toNat), 0x058, 0, 15, .ro, 17000⟩
def FEC.BLK_INFO_PAD (p : Port)  : Field := ⟨(38 + 8 * p.toNat), 0x058, 16, 12, .ro, 0⟩
def FEC.BLK_INFO_C (p : Port)  : Field := ⟨(38 + 8 * p.toNat), 0x058, 28, 2, .ro, 3⟩
def FEC.BLK_DATA_D_BLOCK (p : Port)  : Field := ⟨(38 + 8 * p.toNat), 0x05C, 0, 16, .ro, 37898⟩
def FEC.SF_INFO_BCH_BLOCKS (p : Port)  : Field := ⟨(38 + 8 * p.toNat), 0x060, 0, 17, .ro, 68945⟩
def FEC.SF_BITS_INFO_BITS (p : Port)  : Field := ⟨(38 + 8 * p.toNat), 0x064, 0, 30, .ro, 636500240⟩
def FEC.SF_STATUS_SF_LOCK (p : Port)  : Field := ⟨(38 + 8 * p.toNat), 0x068, 0, 1, .ro, 0⟩
def FEC.DEC_QUAR_QUARANTINED (p : Port) (i : Nat) : Field := ⟨(38 + 8 * p.toNat), 0x070 + 4 * i, 0, 32, .ro, 0⟩
def FEC.TEL_SEQ_SEQ (p : Port)  : Field := ⟨(38 + 8 * p.toNat), 0x080, 0, 31, .ro, 0⟩
def FEC.TEL_SEQ_NOT_ACQ (p : Port)  : Field := ⟨(38 + 8 * p.toNat), 0x080, 31, 1, .ro, 1⟩
def FEC.TICK_CW_COUNT (p : Port)  : Field := ⟨(38 + 8 * p.toNat), 0x084, 0, 32, .ro, 0⟩
def FEC.TICK_UNCORR_COUNT (p : Port)  : Field := ⟨(38 + 8 * p.toNat), 0x088, 0, 32, .ro, 0⟩
def FEC.TICK_LDPC_CORR_COUNT (p : Port)  : Field := ⟨(38 + 8 * p.toNat), 0x08C, 0, 32, .ro, 0⟩
def FEC.TICK_BCH_CORR_COUNT (p : Port)  : Field := ⟨(38 + 8 * p.toNat), 0x090, 0, 32, .ro, 0⟩
def FEC.TICK_BCH_UNCORR_COUNT (p : Port)  : Field := ⟨(38 + 8 * p.toNat), 0x094, 0, 32, .ro, 0⟩
def FEC.ITER_HIST_COUNT (p : Port) (i : Nat) : Field := ⟨(38 + 8 * p.toNat), 0x0C0 + 4 * i, 0, 32, .ro, 0⟩

/-- Every field of a `FEC` page that its table names. -/
def FEC.all (p : Port) : List Field :=
    [FEC.ITER_CTL_MAX_ITER p, FEC.ITER_CTL_CAP p, FEC.ITER_CTL_CAP_FLOOR p, FEC.ITER_CTL_EFFECTIVE p, FEC.MS_CFG_OFFSET p, FEC.POOL_STATUS_SPARES p,
      FEC.POOL_STATUS_IN_SLOTS p, FEC.POOL_STATUS_IM_SPARE p, FEC.POOL_STATUS_BCH_SPARE p, FEC.POOL_ROT_DWELL_MS p, FEC.STORE_OCCUPANCY p,
      FEC.STORE_PEAK p, FEC.DEC_LAT_LATENCY p, FEC.BLK_INFO_N_BLOCKS p, FEC.BLK_INFO_PAD p, FEC.BLK_INFO_C p, FEC.BLK_DATA_D_BLOCK p,
      FEC.SF_INFO_BCH_BLOCKS p, FEC.SF_BITS_INFO_BITS p, FEC.SF_STATUS_SF_LOCK p, FEC.TEL_SEQ_SEQ p, FEC.TEL_SEQ_NOT_ACQ p, FEC.TICK_CW_COUNT p,
      FEC.TICK_UNCORR_COUNT p, FEC.TICK_LDPC_CORR_COUNT p, FEC.TICK_BCH_CORR_COUNT p, FEC.TICK_BCH_UNCORR_COUNT p] ++
    ((List.range 4).flatMap fun i => [FEC.DEC_QUAR_QUARANTINED p i]) ++
    ((List.range 17).flatMap fun i => [FEC.ITER_HIST_COUNT p i])

/-! ### `HB_FRAME` (R184) -/

def HB_FRAME.FRM_CFG_FAW_TOL (p : Port)  : Field := ⟨(19 + p.toNat), 0x040, 0, 3, .rwLv, 2⟩
def HB_FRAME.FRM_CFG_FORCE_RDI (p : Port)  : Field := ⟨(19 + p.toNat), 0x040, 4, 1, .rwLv, 0⟩
def HB_FRAME.FRM_CFG_SMC_PERSIST (p : Port)  : Field := ⟨(19 + p.toNat), 0x040, 8, 8, .rwLv, 3⟩
def HB_FRAME.FRM_INJ_FAW_ERR (p : Port)  : Field := ⟨(19 + p.toNat), 0x044, 0, 8, .wo, 0⟩
def HB_FRAME.FRM_INJ_FCS_ERR (p : Port)  : Field := ⟨(19 + p.toNat), 0x044, 8, 8, .wo, 0⟩
def HB_FRAME.FRM_STATUS_SYNC (p : Port)  : Field := ⟨(19 + p.toNat), 0x048, 0, 1, .ro, 0⟩
def HB_FRAME.FRM_STATUS_OOF (p : Port)  : Field := ⟨(19 + p.toNat), 0x048, 1, 1, .ro, 1⟩
def HB_FRAME.FRM_STATUS_LOF (p : Port)  : Field := ⟨(19 + p.toNat), 0x048, 2, 1, .ro, 0⟩
def HB_FRAME.FRM_STATUS_MISSES (p : Port)  : Field := ⟨(19 + p.toNat), 0x048, 3, 2, .ro, 0⟩
def HB_FRAME.FRM_STATUS_FAR_ACQ_REQ (p : Port)  : Field := ⟨(19 + p.toNat), 0x048, 5, 1, .ro, 0⟩
def HB_FRAME.FRM_STATUS_RDI_RX (p : Port)  : Field := ⟨(19 + p.toNat), 0x048, 6, 1, .ro, 0⟩
def HB_FRAME.FRM_STATUS_RDI_CAUSE_RX (p : Port)  : Field := ⟨(19 + p.toNat), 0x048, 7, 3, .ro, 0⟩
def HB_FRAME.FRM_STATUS_RDI_CAUSE_TX (p : Port)  : Field := ⟨(19 + p.toNat), 0x048, 10, 3, .ro, 0⟩
def HB_FRAME.FRM_STATUS_SMC_MISMATCH (p : Port)  : Field := ⟨(19 + p.toNat), 0x048, 13, 1, .ro, 0⟩
def HB_FRAME.FRM_STATUS_TX_BANK (p : Port)  : Field := ⟨(19 + p.toNat), 0x048, 14, 1, .ro, 0⟩
def HB_FRAME.FRM_STATUS_RX_BANK (p : Port)  : Field := ⟨(19 + p.toNat), 0x048, 15, 1, .ro, 0⟩
def HB_FRAME.FRM_STATUS_SWAP_ANN_TX (p : Port)  : Field := ⟨(19 + p.toNat), 0x048, 16, 1, .ro, 0⟩
def HB_FRAME.FRM_DERIVED_SLOTS (p : Port)  : Field := ⟨(19 + p.toNat), 0x04C, 0, 7, .ro, 96⟩
def HB_FRAME.FRM_DERIVED_RX_SLOTS (p : Port)  : Field := ⟨(19 + p.toNat), 0x04C, 8, 7, .ro, 96⟩
def HB_FRAME.FRAME_LEN_L_F (p : Port)  : Field := ⟨(19 + p.toNat), 0x050, 0, 22, .ro, 2486329⟩
def HB_FRAME.FILL_LEN_FILL (p : Port)  : Field := ⟨(19 + p.toNat), 0x054, 0, 22, .ro, 84249⟩
def HB_FRAME.SF_TAIL_TAIL (p : Port)  : Field := ⟨(19 + p.toNat), 0x058, 0, 8, .ro, 16⟩
def HB_FRAME.FC_TX_LO_FC (p : Port)  : Field := ⟨(19 + p.toNat), 0x05C, 0, 32, .ro, 0⟩
def HB_FRAME.FC_TX_HI_FC (p : Port)  : Field := ⟨(19 + p.toNat), 0x060, 0, 16, .ro, 0⟩
def HB_FRAME.FC_RX_LO_FC (p : Port)  : Field := ⟨(19 + p.toNat), 0x064, 0, 32, .ro, 0⟩
def HB_FRAME.FC_RX_HI_FC (p : Port)  : Field := ⟨(19 + p.toNat), 0x068, 0, 16, .ro, 0⟩
def HB_FRAME.SMC_SMC_RX (p : Port)  : Field := ⟨(19 + p.toNat), 0x06C, 0, 16, .ro, 0⟩
def HB_FRAME.SMC_SMC_EXP (p : Port)  : Field := ⟨(19 + p.toNat), 0x06C, 16, 16, .ro, 0⟩
def HB_FRAME.PM_CFG_PM_EN (p : Port)  : Field := ⟨(19 + p.toNat), 0x070, 0, 1, .rwLv, 1⟩
def HB_FRAME.PM_CFG_TB_SEL (p : Port)  : Field := ⟨(19 + p.toNat), 0x070, 1, 2, .rwLv, 0⟩
def HB_FRAME.PM_CFG_DAY_OFS (p : Port)  : Field := ⟨(19 + p.toNat), 0x070, 8, 7, .rwLv, 0⟩
def HB_FRAME.PM_STATUS_UNAVAIL (p : Port)  : Field := ⟨(19 + p.toNat), 0x074, 0, 1, .ro, 0⟩
def HB_FRAME.PM_STATUS_FE_UNAVAIL (p : Port)  : Field := ⟨(19 + p.toNat), 0x074, 1, 1, .ro, 0⟩
def HB_FRAME.PM_STATUS_TB_ALIGNED (p : Port)  : Field := ⟨(19 + p.toNat), 0x074, 2, 1, .ro, 0⟩
def HB_FRAME.PM_LAST_EB (p : Port)  : Field := ⟨(19 + p.toNat), 0x078, 0, 20, .ro, 0⟩
def HB_FRAME.PM_LAST_DEFECT (p : Port)  : Field := ⟨(19 + p.toNat), 0x078, 20, 1, .ro, 0⟩
def HB_FRAME.PM_LAST_SES (p : Port)  : Field := ⟨(19 + p.toNat), 0x078, 21, 1, .ro, 0⟩
def HB_FRAME.DVR_STATUS_UP (p : Port)  : Field := ⟨(19 + p.toNat), 0x07C, 0, 1, .ro, 0⟩
def HB_FRAME.TCA_15M_THRESH (p : Port) (i : Nat) : Field := ⟨(19 + p.toNat), 0x080 + 4 * i, 0, 32, .rwLv, 0⟩
def HB_FRAME.TCA_24H_THRESH (p : Port) (i : Nat) : Field := ⟨(19 + p.toNat), 0x0A4 + 4 * i, 0, 32, .rwLv, 0⟩
def HB_FRAME.RX_FRAME_LEN_L_F (p : Port)  : Field := ⟨(19 + p.toNat), 0x0C8, 0, 22, .ro, 2486329⟩
def HB_FRAME.RX_FILL_LEN_FILL (p : Port)  : Field := ⟨(19 + p.toNat), 0x0CC, 0, 22, .ro, 84249⟩
def HB_FRAME.RX_SF_TAIL_TAIL (p : Port)  : Field := ⟨(19 + p.toNat), 0x0D0, 0, 8, .ro, 16⟩

/-- Every field of a `HB_FRAME` page that its table names. -/
def HB_FRAME.all (p : Port) : List Field :=
    [HB_FRAME.FRM_CFG_FAW_TOL p, HB_FRAME.FRM_CFG_FORCE_RDI p, HB_FRAME.FRM_CFG_SMC_PERSIST p, HB_FRAME.FRM_INJ_FAW_ERR p, HB_FRAME.FRM_INJ_FCS_ERR p,
      HB_FRAME.FRM_STATUS_SYNC p, HB_FRAME.FRM_STATUS_OOF p, HB_FRAME.FRM_STATUS_LOF p, HB_FRAME.FRM_STATUS_MISSES p,
      HB_FRAME.FRM_STATUS_FAR_ACQ_REQ p, HB_FRAME.FRM_STATUS_RDI_RX p, HB_FRAME.FRM_STATUS_RDI_CAUSE_RX p, HB_FRAME.FRM_STATUS_RDI_CAUSE_TX p,
      HB_FRAME.FRM_STATUS_SMC_MISMATCH p, HB_FRAME.FRM_STATUS_TX_BANK p, HB_FRAME.FRM_STATUS_RX_BANK p, HB_FRAME.FRM_STATUS_SWAP_ANN_TX p,
      HB_FRAME.FRM_DERIVED_SLOTS p, HB_FRAME.FRM_DERIVED_RX_SLOTS p, HB_FRAME.FRAME_LEN_L_F p, HB_FRAME.FILL_LEN_FILL p, HB_FRAME.SF_TAIL_TAIL p,
      HB_FRAME.FC_TX_LO_FC p, HB_FRAME.FC_TX_HI_FC p, HB_FRAME.FC_RX_LO_FC p, HB_FRAME.FC_RX_HI_FC p, HB_FRAME.SMC_SMC_RX p, HB_FRAME.SMC_SMC_EXP p,
      HB_FRAME.PM_CFG_PM_EN p, HB_FRAME.PM_CFG_TB_SEL p, HB_FRAME.PM_CFG_DAY_OFS p, HB_FRAME.PM_STATUS_UNAVAIL p, HB_FRAME.PM_STATUS_FE_UNAVAIL p,
      HB_FRAME.PM_STATUS_TB_ALIGNED p, HB_FRAME.PM_LAST_EB p, HB_FRAME.PM_LAST_DEFECT p, HB_FRAME.PM_LAST_SES p, HB_FRAME.DVR_STATUS_UP p,
      HB_FRAME.RX_FRAME_LEN_L_F p, HB_FRAME.RX_FILL_LEN_FILL p, HB_FRAME.RX_SF_TAIL_TAIL p] ++
    ((List.range 9).flatMap fun i => [HB_FRAME.TCA_15M_THRESH p i, HB_FRAME.TCA_24H_THRESH p i])

/-! ### `HB_CHPM` (R186) -/

def HB_CHPM.TCA_15M_THRESH  (i : Nat) : Field := ⟨21, 0x040 + 4 * i, 0, 32, .rwLv, 0⟩
def HB_CHPM.TCA_24H_THRESH  (i : Nat) : Field := ⟨21, 0x060 + 4 * i, 0, 32, .rwLv, 0⟩
def HB_CHPM.CH_UNAVAIL_UNAVAIL  (i : Nat) : Field := ⟨21, 0x080 + 4 * i, 0, 32, .ro, 0⟩

/-- Every field of a `HB_CHPM` page that its table names. -/
def HB_CHPM.all  : List Field :=
    ((List.range 5).flatMap fun i => [HB_CHPM.TCA_15M_THRESH i, HB_CHPM.TCA_24H_THRESH i]) ++
    ((List.range 6).flatMap fun i => [HB_CHPM.CH_UNAVAIL_UNAVAIL i])

/-! ### `HL_LANE` (R226) -/

def HL_LANE.LANE_CFG_ENABLE  (c : Nat) : Field := ⟨27, 0x040 + 0x20 * c, 0, 1, .rwLv, 0⟩
def HL_LANE.LANE_CFG_MODE  (c : Nat) : Field := ⟨27, 0x040 + 0x20 * c, 1, 2, .rwLk, 0⟩
def HL_LANE.LANE_CFG_TX_INV  (c : Nat) : Field := ⟨27, 0x040 + 0x20 * c, 3, 1, .rwLk, 0⟩
def HL_LANE.LANE_CFG_RX_INV  (c : Nat) : Field := ⟨27, 0x040 + 0x20 * c, 4, 1, .rwLk, 0⟩
def HL_LANE.TX_EQ_PRE  (c : Nat) : Field := ⟨27, 0x044 + 0x20 * c, 0, 4, .rwLv, 0⟩
def HL_LANE.TX_EQ_POST  (c : Nat) : Field := ⟨27, 0x044 + 0x20 * c, 8, 4, .rwLv, 0⟩
def HL_LANE.TX_EQ_SWING  (c : Nat) : Field := ⟨27, 0x044 + 0x20 * c, 16, 4, .rwLv, 12⟩
def HL_LANE.RX_EQ_PEAK  (c : Nat) : Field := ⟨27, 0x048 + 0x20 * c, 0, 6, .rwLv, 16⟩
def HL_LANE.RX_EQ_AUTO  (c : Nat) : Field := ⟨27, 0x048 + 0x20 * c, 6, 1, .rwLv, 1⟩
def HL_LANE.RX_EQ_PEAK_USED  (c : Nat) : Field := ⟨27, 0x048 + 0x20 * c, 8, 6, .ro, 16⟩
def HL_LANE.LANE_STATUS_SIG  (c : Nat) : Field := ⟨27, 0x04C + 0x20 * c, 0, 1, .ro, 0⟩
def HL_LANE.LANE_STATUS_CDR_LOCK  (c : Nat) : Field := ⟨27, 0x04C + 0x20 * c, 1, 1, .ro, 0⟩
def HL_LANE.LANE_STATUS_BLOCK_LOCK  (c : Nat) : Field := ⟨27, 0x04C + 0x20 * c, 2, 1, .ro, 0⟩
def HL_LANE.LANE_STATUS_FRAME_LOCK  (c : Nat) : Field := ⟨27, 0x04C + 0x20 * c, 3, 1, .ro, 0⟩
def HL_LANE.LANE_STATUS_FAR_RX_OK  (c : Nat) : Field := ⟨27, 0x04C + 0x20 * c, 4, 1, .ro, 0⟩
def HL_LANE.LANE_STATUS_PRBS_LOCK  (c : Nat) : Field := ⟨27, 0x04C + 0x20 * c, 5, 1, .ro, 0⟩
def HL_LANE.PRBS_CFG_GEN_PAT  (c : Nat) : Field := ⟨27, 0x050 + 0x20 * c, 0, 2, .rwLv, 2⟩
def HL_LANE.PRBS_CFG_GEN_EN  (c : Nat) : Field := ⟨27, 0x050 + 0x20 * c, 2, 1, .rwLv, 0⟩
def HL_LANE.PRBS_CFG_CHK_PAT  (c : Nat) : Field := ⟨27, 0x050 + 0x20 * c, 4, 2, .rwLv, 2⟩
def HL_LANE.PRBS_CFG_CHK_EN  (c : Nat) : Field := ⟨27, 0x050 + 0x20 * c, 6, 1, .rwLv, 0⟩
def HL_LANE.PRBS_CFG_ERR_INJ  (c : Nat) : Field := ⟨27, 0x050 + 0x20 * c, 8, 8, .wo, 0⟩
def HL_LANE.USER_LO_PATTERN  (c : Nat) : Field := ⟨27, 0x054 + 0x20 * c, 0, 32, .rwLv, 0⟩
def HL_LANE.USER_HI_PATTERN  (c : Nat) : Field := ⟨27, 0x058 + 0x20 * c, 0, 32, .rwLv, 0⟩

/-- Every field of a `HL_LANE` page that its table names. -/
def HL_LANE.all  : List Field :=
    ((List.range 24).flatMap fun c => [HL_LANE.LANE_CFG_ENABLE c, HL_LANE.LANE_CFG_MODE c, HL_LANE.LANE_CFG_TX_INV c, HL_LANE.LANE_CFG_RX_INV c,
      HL_LANE.TX_EQ_PRE c, HL_LANE.TX_EQ_POST c, HL_LANE.TX_EQ_SWING c, HL_LANE.RX_EQ_PEAK c, HL_LANE.RX_EQ_AUTO c, HL_LANE.RX_EQ_PEAK_USED c,
      HL_LANE.LANE_STATUS_SIG c, HL_LANE.LANE_STATUS_CDR_LOCK c, HL_LANE.LANE_STATUS_BLOCK_LOCK c, HL_LANE.LANE_STATUS_FRAME_LOCK c,
      HL_LANE.LANE_STATUS_FAR_RX_OK c, HL_LANE.LANE_STATUS_PRBS_LOCK c, HL_LANE.PRBS_CFG_GEN_PAT c, HL_LANE.PRBS_CFG_GEN_EN c,
      HL_LANE.PRBS_CFG_CHK_PAT c, HL_LANE.PRBS_CFG_CHK_EN c, HL_LANE.PRBS_CFG_ERR_INJ c, HL_LANE.USER_LO_PATTERN c, HL_LANE.USER_HI_PATTERN c])

/-! ### `HL_CLIENT` (R227) -/

def HL_CLIENT.CLIENT_CFG_RATE  (c : Nat) : Field := ⟨28, 0x040 + 0x10 * c, 0, 3, .rwLk, 0⟩
def HL_CLIENT.CLIENT_CFG_TPID_SEL  (c : Nat) : Field := ⟨28, 0x040 + 0x10 * c, 3, 1, .rwLk, 0⟩
def HL_CLIENT.CLIENT_CFG_DEF_PCP  (c : Nat) : Field := ⟨28, 0x040 + 0x10 * c, 4, 3, .rwLv, 0⟩
def HL_CLIENT.CLIENT_CFG_MAX_FRAME  (c : Nat) : Field := ⟨28, 0x040 + 0x10 * c, 8, 14, .rwLk, 9600⟩
def HL_CLIENT.FC_CFG_FC_EN  (c : Nat) : Field := ⟨28, 0x044 + 0x10 * c, 0, 8, .rwLk, 0⟩
def HL_CLIENT.FC_CFG_RTT  (c : Nat) : Field := ⟨28, 0x044 + 0x10 * c, 16, 9, .rwLk, 100⟩
def HL_CLIENT.FC_CRED_CRED_CELLS  (c : Nat) : Field := ⟨28, 0x048 + 0x10 * c, 0, 14, .rwLk, 96⟩
def HL_CLIENT.CLIENT_STATUS_UP  (c : Nat) : Field := ⟨28, 0x04C + 0x10 * c, 0, 1, .ro, 0⟩
def HL_CLIENT.CLIENT_STATUS_LF  (c : Nat) : Field := ⟨28, 0x04C + 0x10 * c, 1, 1, .ro, 0⟩
def HL_CLIENT.CLIENT_STATUS_RF  (c : Nat) : Field := ⟨28, 0x04C + 0x10 * c, 2, 1, .ro, 0⟩
def HL_CLIENT.CLIENT_STATUS_PAUSED  (c : Nat) : Field := ⟨28, 0x04C + 0x10 * c, 8, 8, .ro, 0⟩
def HL_CLIENT.CLIENT_STATUS_XOFF_SENT  (c : Nat) : Field := ⟨28, 0x04C + 0x10 * c, 16, 8, .ro, 0⟩

/-- Every field of a `HL_CLIENT` page that its table names. -/
def HL_CLIENT.all  : List Field :=
    ((List.range 24).flatMap fun c => [HL_CLIENT.CLIENT_CFG_RATE c, HL_CLIENT.CLIENT_CFG_TPID_SEL c, HL_CLIENT.CLIENT_CFG_DEF_PCP c,
      HL_CLIENT.CLIENT_CFG_MAX_FRAME c, HL_CLIENT.FC_CFG_FC_EN c, HL_CLIENT.FC_CFG_RTT c, HL_CLIENT.FC_CRED_CRED_CELLS c,
      HL_CLIENT.CLIENT_STATUS_UP c, HL_CLIENT.CLIENT_STATUS_LF c, HL_CLIENT.CLIENT_STATUS_RF c, HL_CLIENT.CLIENT_STATUS_PAUSED c,
      HL_CLIENT.CLIENT_STATUS_XOFF_SENT c])

/-! ### `HB_FLOW` (R228) -/

def HB_FLOW.FLOW_CTRL_ADD_EN   : Field := ⟨22, 0x040, 0, 1, .rwLv, 0⟩
def HB_FLOW.FLOW_CTRL_DROP_EN   : Field := ⟨22, 0x040, 1, 1, .rwLv, 0⟩
def HB_FLOW.CHK_ERR_INDEX   : Field := ⟨22, 0x044, 0, 20, .ro, 0⟩
def HB_FLOW.CHK_ERR_TABLE   : Field := ⟨22, 0x044, 20, 2, .ro, 0⟩

/-- Every field of a `HB_FLOW` page that its table names. -/
def HB_FLOW.all  : List Field :=
    [HB_FLOW.FLOW_CTRL_ADD_EN, HB_FLOW.FLOW_CTRL_DROP_EN, HB_FLOW.CHK_ERR_INDEX, HB_FLOW.CHK_ERR_TABLE]

/-! ### `HB_SLOT` (R228) -/

def HB_SLOT.SWAP_CTRL_REQ_E   : Field := ⟨23, 0x040, 0, 1, .wo, 0⟩
def HB_SLOT.SWAP_CTRL_REQ_W   : Field := ⟨23, 0x040, 1, 1, .wo, 0⟩
def HB_SLOT.SWAP_STATUS_STATE_E   : Field := ⟨23, 0x044, 0, 2, .ro, 0⟩
def HB_SLOT.SWAP_STATUS_STATE_W   : Field := ⟨23, 0x044, 2, 2, .ro, 0⟩
def HB_SLOT.SWAP_STATUS_REFUSE_E   : Field := ⟨23, 0x044, 8, 4, .ro, 0⟩
def HB_SLOT.SWAP_STATUS_REFUSE_W   : Field := ⟨23, 0x044, 12, 4, .ro, 0⟩
def HB_SLOT.SKEW_SEL_CH   : Field := ⟨23, 0x048, 0, 8, .rwLv, 0⟩
def HB_SLOT.SKEW_VAL_SKEW   : Field := ⟨23, 0x04C, 0, 23, .ro, 0⟩
def HB_SLOT.SKEW_VAL_VALID   : Field := ⟨23, 0x04C, 23, 1, .ro, 0⟩
def HB_SLOT.CONCAT_SKEW_DEFECT  (i : Nat) : Field := ⟨23, 0x050 + 4 * i, 0, 32, .ro, 0⟩
def HB_SLOT.CHTEST_GEN_CH  (p : Port) : Field := ⟨23, 0x070 + 4 * p.toNat, 0, 8, .rwLv, 0⟩
def HB_SLOT.CHTEST_GEN_PAT  (p : Port) : Field := ⟨23, 0x070 + 4 * p.toNat, 8, 2, .rwLv, 2⟩
def HB_SLOT.CHTEST_GEN_EN  (p : Port) : Field := ⟨23, 0x070 + 4 * p.toNat, 10, 1, .rwLv, 0⟩
def HB_SLOT.CHTEST_CHK_CH  (p : Port) : Field := ⟨23, 0x070 + 4 * p.toNat, 16, 8, .rwLv, 0⟩
def HB_SLOT.CHTEST_CHK_PAT  (p : Port) : Field := ⟨23, 0x070 + 4 * p.toNat, 24, 2, .rwLv, 2⟩
def HB_SLOT.CHTEST_CHK_EN  (p : Port) : Field := ⟨23, 0x070 + 4 * p.toNat, 26, 1, .rwLv, 0⟩
def HB_SLOT.CHTEST_CHK_LOCK  (p : Port) : Field := ⟨23, 0x070 + 4 * p.toNat, 27, 1, .ro, 0⟩
def HB_SLOT.CH_USER_LO_PATTERN   : Field := ⟨23, 0x078, 0, 32, .rwLv, 0⟩
def HB_SLOT.CH_USER_HI_PATTERN   : Field := ⟨23, 0x07C, 0, 32, .rwLv, 0⟩

/-- Every field of a `HB_SLOT` page that its table names. -/
def HB_SLOT.all  : List Field :=
    [HB_SLOT.SWAP_CTRL_REQ_E, HB_SLOT.SWAP_CTRL_REQ_W, HB_SLOT.SWAP_STATUS_STATE_E, HB_SLOT.SWAP_STATUS_STATE_W, HB_SLOT.SWAP_STATUS_REFUSE_E,
      HB_SLOT.SWAP_STATUS_REFUSE_W, HB_SLOT.SKEW_SEL_CH, HB_SLOT.SKEW_VAL_SKEW, HB_SLOT.SKEW_VAL_VALID, HB_SLOT.CH_USER_LO_PATTERN,
      HB_SLOT.CH_USER_HI_PATTERN] ++
    ((List.range 6).flatMap fun i => [HB_SLOT.CONCAT_SKEW_DEFECT i]) ++
    ([.E, .W].flatMap fun p => [HB_SLOT.CHTEST_GEN_CH p, HB_SLOT.CHTEST_GEN_PAT p, HB_SLOT.CHTEST_GEN_EN p, HB_SLOT.CHTEST_CHK_CH p,
      HB_SLOT.CHTEST_CHK_PAT p, HB_SLOT.CHTEST_CHK_EN p, HB_SLOT.CHTEST_CHK_LOCK p])

/-! ### `HB_BUF` (R229) -/

def HB_BUF.BUF_CFG_DROP_RESERVE   : Field := ⟨24, 0x040, 0, 14, .rwLk, 1024⟩
def HB_BUF.PFC_THR_XOFF   : Field := ⟨24, 0x044, 0, 14, .rwLv, 64⟩
def HB_BUF.PFC_THR_XON   : Field := ⟨24, 0x044, 16, 14, .rwLv, 32⟩
def HB_BUF.DROPQ_MAX_CELLS   : Field := ⟨24, 0x048, 0, 14, .rwLv, 256⟩
def HB_BUF.BUF_STATUS_FREE   : Field := ⟨24, 0x04C, 0, 14, .ro, 12288⟩
def HB_BUF.BUF_STATUS_SHARED   : Field := ⟨24, 0x04C, 16, 14, .ro, 11264⟩
def HB_BUF.BUF_STATUS_HR_REFUSED   : Field := ⟨24, 0x04C, 30, 1, .ro, 0⟩
def HB_BUF.HR_SEL_CLIENT   : Field := ⟨24, 0x050, 0, 5, .rwLv, 0⟩
def HB_BUF.HR_VAL_CELLS   : Field := ⟨24, 0x054, 0, 14, .ro, 0⟩
def HB_BUF.OCC_N_N   : Field := ⟨24, 0x058, 0, 14, .rwLv, 8192⟩

/-- Every field of a `HB_BUF` page that its table names. -/
def HB_BUF.all  : List Field :=
    [HB_BUF.BUF_CFG_DROP_RESERVE, HB_BUF.PFC_THR_XOFF, HB_BUF.PFC_THR_XON, HB_BUF.DROPQ_MAX_CELLS, HB_BUF.BUF_STATUS_FREE, HB_BUF.BUF_STATUS_SHARED,
      HB_BUF.BUF_STATUS_HR_REFUSED, HB_BUF.HR_SEL_CLIENT, HB_BUF.HR_VAL_CELLS, HB_BUF.OCC_N_N]

/-! ### `HB_RING` (R265) -/

def HB_RING.RING_CFG_MODE   : Field := ⟨25, 0x040, 0, 2, .rwLk, 1⟩
def HB_RING.RING_CFG_NODE_ID   : Field := ⟨25, 0x040, 8, 5, .rwLk, 0⟩
def HB_RING.RING_CTRL_EMERGE   : Field := ⟨25, 0x044, 0, 1, .wo, 0⟩
def HB_RING.RING_CTRL_ENTER   : Field := ⟨25, 0x044, 1, 1, .wo, 0⟩
def HB_RING.RING_STATUS_IN_RING   : Field := ⟨25, 0x048, 0, 1, .ro, 0⟩
def HB_RING.RING_STATUS_BYPASS_HOLD   : Field := ⟨25, 0x048, 1, 1, .ro, 0⟩
def HB_RING.RING_STATUS_ENTRY_CAUSE   : Field := ⟨25, 0x048, 2, 2, .ro, 0⟩
def HB_RING.RING_STATUS_EMERGE_REFUSE   : Field := ⟨25, 0x048, 4, 4, .ro, 0⟩
def HB_RING.RPT_CFG_HOLDOFF   : Field := ⟨25, 0x04C, 0, 8, .rwLv, 0⟩
def HB_RING.RPT_CFG_WTR   : Field := ⟨25, 0x04C, 8, 10, .rwLv, 300⟩
def HB_RING.RPT_CFG_SD_TICKS   : Field := ⟨25, 0x04C, 18, 8, .rwLv, 10⟩
def HB_RING.RPT_CFG_SD_EN   : Field := ⟨25, 0x04C, 26, 1, .rwLv, 1⟩
def HB_RING.RPT_LOCAL_REQ_E   : Field := ⟨25, 0x050, 0, 3, .ro, 3⟩
def HB_RING.RPT_LOCAL_REQ_W   : Field := ⟨25, 0x050, 3, 3, .ro, 3⟩
def HB_RING.RPT_LOCAL_FORCE_E   : Field := ⟨25, 0x050, 6, 1, .rwLv, 0⟩
def HB_RING.RPT_LOCAL_FORCE_W   : Field := ⟨25, 0x050, 7, 1, .rwLv, 0⟩
def HB_RING.RPT_LOCAL_SEQ   : Field := ⟨25, 0x050, 8, 8, .ro, 0⟩
def HB_RING.RPT_LOCAL_PLAN   : Field := ⟨25, 0x050, 16, 8, .rwLv, 0⟩
def HB_RING.RPT_TIMER_WTR_LEFT_E   : Field := ⟨25, 0x054, 0, 10, .ro, 0⟩
def HB_RING.RPT_TIMER_WTR_LEFT_W   : Field := ⟨25, 0x054, 16, 10, .ro, 0⟩
def HB_RING.NEG_STATUS_STATE  (p : Port) : Field := ⟨25, 0x058 + 4 * p.toNat, 0, 3, .ro, 0⟩
def HB_RING.NEG_STATUS_TXN  (p : Port) : Field := ⟨25, 0x058 + 4 * p.toNat, 8, 8, .ro, 0⟩
def HB_RING.NEG_STATUS_LAST_CAUSE  (p : Port) : Field := ⟨25, 0x058 + 4 * p.toNat, 16, 4, .ro, 0⟩
def HB_RING.NEG_STATUS_ALLOW_SR  (p : Port) : Field := ⟨25, 0x058 + 4 * p.toNat, 20, 1, .rwLv, 0⟩
def HB_RING.BRIDGE_STATUS_LANES_E   : Field := ⟨25, 0x060, 0, 8, .ro, 128⟩
def HB_RING.BRIDGE_STATUS_LANES_W   : Field := ⟨25, 0x060, 8, 8, .ro, 128⟩
def HB_RING.BRIDGE_STATUS_LIMIT_E   : Field := ⟨25, 0x060, 16, 7, .ro, 96⟩
def HB_RING.BRIDGE_STATUS_LIMIT_W   : Field := ⟨25, 0x060, 24, 7, .ro, 96⟩
def HB_RING.TRANSIT_ERR_LCH   : Field := ⟨25, 0x064, 0, 8, .ro, 0⟩
def HB_RING.TRANSIT_ERR_PORT   : Field := ⟨25, 0x064, 8, 1, .ro, 0⟩
def HB_RING.VEC_HI_ENTRY  (i : Nat) : Field := ⟨25, 0x100 + 8 * i, 0, 32, .ro, 0⟩
def HB_RING.VEC_LO_ENTRY  (i : Nat) : Field := ⟨25, 0x104 + 8 * i, 0, 32, .ro, 0⟩

/-- Every field of a `HB_RING` page that its table names. -/
def HB_RING.all  : List Field :=
    [HB_RING.RING_CFG_MODE, HB_RING.RING_CFG_NODE_ID, HB_RING.RING_CTRL_EMERGE, HB_RING.RING_CTRL_ENTER, HB_RING.RING_STATUS_IN_RING,
      HB_RING.RING_STATUS_BYPASS_HOLD, HB_RING.RING_STATUS_ENTRY_CAUSE, HB_RING.RING_STATUS_EMERGE_REFUSE, HB_RING.RPT_CFG_HOLDOFF,
      HB_RING.RPT_CFG_WTR, HB_RING.RPT_CFG_SD_TICKS, HB_RING.RPT_CFG_SD_EN, HB_RING.RPT_LOCAL_REQ_E, HB_RING.RPT_LOCAL_REQ_W,
      HB_RING.RPT_LOCAL_FORCE_E, HB_RING.RPT_LOCAL_FORCE_W, HB_RING.RPT_LOCAL_SEQ, HB_RING.RPT_LOCAL_PLAN, HB_RING.RPT_TIMER_WTR_LEFT_E,
      HB_RING.RPT_TIMER_WTR_LEFT_W, HB_RING.BRIDGE_STATUS_LANES_E, HB_RING.BRIDGE_STATUS_LANES_W, HB_RING.BRIDGE_STATUS_LIMIT_E,
      HB_RING.BRIDGE_STATUS_LIMIT_W, HB_RING.TRANSIT_ERR_LCH, HB_RING.TRANSIT_ERR_PORT] ++
    ([.E, .W].flatMap fun p => [HB_RING.NEG_STATUS_STATE p, HB_RING.NEG_STATUS_TXN p, HB_RING.NEG_STATUS_LAST_CAUSE p, HB_RING.NEG_STATUS_ALLOW_SR p]) ++
    ((List.range 32).flatMap fun i => [HB_RING.VEC_HI_ENTRY i, HB_RING.VEC_LO_ENTRY i])

/-! ### `HB_PROT` (R266) -/

def HB_PROT.DP_CFG_DP_EN  (i : Nat) : Field := ⟨26, 0x040 + 4 * i, 0, 1, .rwLk, 0⟩
def HB_PROT.DP_CFG_PARTNER  (i : Nat) : Field := ⟨26, 0x040 + 4 * i, 1, 8, .rwLk, 0⟩
def HB_PROT.DP_CFG_FORCE_SEL  (i : Nat) : Field := ⟨26, 0x040 + 4 * i, 16, 1, .rwLv, 0⟩
def HB_PROT.DP_CFG_FORCE_COPY  (i : Nat) : Field := ⟨26, 0x040 + 4 * i, 17, 1, .rwLv, 0⟩
def HB_PROT.DP_STATUS_DIFF  (i : Nat) : Field := ⟨26, 0x340 + 4 * i, 0, 16, .ro, 0⟩
def HB_PROT.DP_STATUS_SEL  (i : Nat) : Field := ⟨26, 0x340 + 4 * i, 16, 1, .ro, 0⟩
def HB_PROT.DP_STATUS_PRI_UP  (i : Nat) : Field := ⟨26, 0x340 + 4 * i, 17, 1, .ro, 0⟩
def HB_PROT.DP_STATUS_PAR_UP  (i : Nat) : Field := ⟨26, 0x340 + 4 * i, 18, 1, .ro, 0⟩
def HB_PROT.DP_STATUS_DP_SKEW  (i : Nat) : Field := ⟨26, 0x340 + 4 * i, 19, 1, .ro, 0⟩
def HB_PROT.DP_STATUS_SINGLE  (i : Nat) : Field := ⟨26, 0x340 + 4 * i, 20, 1, .ro, 0⟩
def HB_PROT.ORIGIN_LOCK_LOCK  (i : Nat) : Field := ⟨26, 0x640 + 4 * i, 0, 32, .ro, 0⟩

/-- Every field of a `HB_PROT` page that its table names. -/
def HB_PROT.all  : List Field :=
    ((List.range 192).flatMap fun i => [HB_PROT.DP_CFG_DP_EN i, HB_PROT.DP_CFG_PARTNER i, HB_PROT.DP_CFG_FORCE_SEL i, HB_PROT.DP_CFG_FORCE_COPY i,
      HB_PROT.DP_STATUS_DIFF i, HB_PROT.DP_STATUS_SEL i, HB_PROT.DP_STATUS_PRI_UP i, HB_PROT.DP_STATUS_PAR_UP i, HB_PROT.DP_STATUS_DP_SKEW i,
      HB_PROT.DP_STATUS_SINGLE i]) ++
    ((List.range 6).flatMap fun i => [HB_PROT.ORIGIN_LOCK_LOCK i])

/-! ### `CY_KEY` (R305) -/

def CY_KEY.KEY_CMD_OP   : Field := ⟨29, 0x040, 0, 4, .wo, 0⟩
def CY_KEY.KEY_CMD_KEK   : Field := ⟨29, 0x040, 4, 2, .wo, 0⟩
def CY_KEY.KEY_CMD_DIR   : Field := ⟨29, 0x040, 6, 1, .wo, 0⟩
def CY_KEY.KEY_CMD_SLOT   : Field := ⟨29, 0x040, 8, 9, .wo, 0⟩
def CY_KEY.KEY_CMD_CH   : Field := ⟨29, 0x040, 17, 8, .wo, 0⟩
def CY_KEY.KEY_STATUS_BUSY   : Field := ⟨29, 0x044, 0, 1, .ro, 0⟩
def CY_KEY.KEY_STATUS_RESULT   : Field := ⟨29, 0x044, 4, 4, .ro, 0⟩
def CY_KEY.KEY_STATUS_SLOTS_FREE   : Field := ⟨29, 0x044, 16, 10, .ro, 512⟩
def CY_KEY.KEK_CTRL_SEAL_SET   : Field := ⟨29, 0x048, 0, 1, .wo, 0⟩
def CY_KEY.KEK_CTRL_SEALED   : Field := ⟨29, 0x048, 1, 1, .ro, 0⟩
def CY_KEY.KEK_CTRL_KEK_VALID   : Field := ⟨29, 0x048, 4, 4, .ro, 0⟩
def CY_KEY.EPOCH_IN_EPOCH   : Field := ⟨29, 0x04C, 0, 32, .rwLv, 0⟩
def CY_KEY.WRAP_DATA_BYTES  (i : Nat) : Field := ⟨29, 0x050 + 4 * i, 0, 32, .wo, 0⟩
def CY_KEY.SLOT_SEL_SLOT   : Field := ⟨29, 0x0C0, 0, 9, .rwLv, 0⟩
def CY_KEY.SLOT_INFO_STATE   : Field := ⟨29, 0x0C4, 0, 3, .ro, 0⟩
def CY_KEY.SLOT_INFO_DIR   : Field := ⟨29, 0x0C4, 3, 1, .ro, 0⟩
def CY_KEY.SLOT_INFO_CH   : Field := ⟨29, 0x0C4, 4, 8, .ro, 0⟩
def CY_KEY.SLOT_INFO_DERIVED   : Field := ⟨29, 0x0C4, 12, 1, .ro, 0⟩
def CY_KEY.SLOT_INFO_FULL   : Field := ⟨29, 0x0C4, 13, 1, .ro, 0⟩
def CY_KEY.SLOT_EPOCH_EPOCH   : Field := ⟨29, 0x0C8, 0, 32, .ro, 0⟩
def CY_KEY.SLOT_USED_USED   : Field := ⟨29, 0x0CC, 0, 32, .ro, 0⟩
def CY_KEY.SLOT_FIRST_FIRST_SS   : Field := ⟨29, 0x0D0, 0, 32, .ro, 0⟩
def CY_KEY.SLOT_FIRST_HI_FIRST_SS   : Field := ⟨29, 0x0D4, 0, 8, .ro, 0⟩
def CY_KEY.ROT_CFG_ROT_PERIOD   : Field := ⟨29, 0x0D8, 0, 16, .rwLv, 1440⟩
def CY_KEY.CEIL_CFG_MARGIN   : Field := ⟨29, 0x0DC, 0, 12, .rwLv, 1024⟩
def CY_KEY.ANN_CFG_ANN_LEAD   : Field := ⟨29, 0x0E0, 0, 8, .rwLv, 64⟩
def CY_KEY.RNG_STATUS_HEALTH_OK   : Field := ⟨29, 0x0E4, 0, 1, .ro, 1⟩
def CY_KEY.RNG_STATUS_DRBG_READY   : Field := ⟨29, 0x0E4, 1, 1, .ro, 0⟩

/-- Every field of a `CY_KEY` page that its table names. -/
def CY_KEY.all  : List Field :=
    [CY_KEY.KEY_CMD_OP, CY_KEY.KEY_CMD_KEK, CY_KEY.KEY_CMD_DIR, CY_KEY.KEY_CMD_SLOT, CY_KEY.KEY_CMD_CH, CY_KEY.KEY_STATUS_BUSY, CY_KEY.KEY_STATUS_RESULT,
      CY_KEY.KEY_STATUS_SLOTS_FREE, CY_KEY.KEK_CTRL_SEAL_SET, CY_KEY.KEK_CTRL_SEALED, CY_KEY.KEK_CTRL_KEK_VALID, CY_KEY.EPOCH_IN_EPOCH,
      CY_KEY.SLOT_SEL_SLOT, CY_KEY.SLOT_INFO_STATE, CY_KEY.SLOT_INFO_DIR, CY_KEY.SLOT_INFO_CH, CY_KEY.SLOT_INFO_DERIVED, CY_KEY.SLOT_INFO_FULL,
      CY_KEY.SLOT_EPOCH_EPOCH, CY_KEY.SLOT_USED_USED, CY_KEY.SLOT_FIRST_FIRST_SS, CY_KEY.SLOT_FIRST_HI_FIRST_SS, CY_KEY.ROT_CFG_ROT_PERIOD,
      CY_KEY.CEIL_CFG_MARGIN, CY_KEY.ANN_CFG_ANN_LEAD, CY_KEY.RNG_STATUS_HEALTH_OK, CY_KEY.RNG_STATUS_DRBG_READY] ++
    ((List.range 26).flatMap fun i => [CY_KEY.WRAP_DATA_BYTES i])

/-! ### `CY_PIPE` (R306) -/

def CY_PIPE.PIPE_STATUS_SPARES  (i : Nat) : Field := ⟨30, 0x040 + 4 * i, 0, 3, .ro, 4⟩
def CY_PIPE.PIPE_STATUS_LOST_POS  (i : Nat) : Field := ⟨30, 0x040 + 4 * i, 8, 6, .ro, 63⟩
def CY_PIPE.PIPE_STATUS_QUAR  (i : Nat) : Field := ⟨30, 0x040 + 4 * i, 16, 6, .ro, 0⟩
def CY_PIPE.VERD_ETYPE_ETYPE   : Field := ⟨30, 0x050, 0, 16, .rwLv, 34997⟩
def CY_PIPE.VERD_DA_LO_DA   : Field := ⟨30, 0x054, 0, 32, .rwLv, 0⟩
def CY_PIPE.VERD_DA_HI_DA   : Field := ⟨30, 0x058, 0, 16, .rwLv, 0⟩
def CY_PIPE.VERD_SA_LO_SA   : Field := ⟨30, 0x05C, 0, 32, .rwLv, 0⟩
def CY_PIPE.VERD_SA_HI_SA   : Field := ⟨30, 0x060, 0, 16, .rwLv, 0⟩
def CY_PIPE.INTEG_CFG_FAIL_LIMIT   : Field := ⟨30, 0x064, 0, 4, .rwLv, 3⟩
def CY_PIPE.INTEG_CFG_RESUME_PASS   : Field := ⟨30, 0x064, 4, 4, .rwLv, 4⟩
def CY_PIPE.INTEG_CFG_VERDICT_WAIT   : Field := ⟨30, 0x064, 8, 8, .rwLv, 64⟩
def CY_PIPE.HOLD_STATUS_HELD_SLOTS   : Field := ⟨30, 0x068, 0, 7, .ro, 0⟩
def CY_PIPE.RESUME_CH   : Field := ⟨30, 0x06C, 0, 8, .wo, 0⟩
def CY_PIPE.VERD_CLIENT_LO_VERD_MODE   : Field := ⟨30, 0x070, 0, 32, .rwLv, 0⟩
def CY_PIPE.VERD_CLIENT_HI_VERD_MODE   : Field := ⟨30, 0x074, 0, 16, .rwLv, 0⟩

/-- Every field of a `CY_PIPE` page that its table names. -/
def CY_PIPE.all  : List Field :=
    ((List.range 2).flatMap fun i => [CY_PIPE.PIPE_STATUS_SPARES i, CY_PIPE.PIPE_STATUS_LOST_POS i, CY_PIPE.PIPE_STATUS_QUAR i]) ++
    [CY_PIPE.VERD_ETYPE_ETYPE, CY_PIPE.VERD_DA_LO_DA, CY_PIPE.VERD_DA_HI_DA, CY_PIPE.VERD_SA_LO_SA, CY_PIPE.VERD_SA_HI_SA, CY_PIPE.INTEG_CFG_FAIL_LIMIT,
      CY_PIPE.INTEG_CFG_RESUME_PASS, CY_PIPE.INTEG_CFG_VERDICT_WAIT, CY_PIPE.HOLD_STATUS_HELD_SLOTS, CY_PIPE.RESUME_CH,
      CY_PIPE.VERD_CLIENT_LO_VERD_MODE, CY_PIPE.VERD_CLIENT_HI_VERD_MODE]

/-! ### `CK_SYN` (R335) -/

def CK_SYN.SYN_STATUS_XREF_OK   : Field := ⟨7, 0x040, 0, 1, .ro, 0⟩
def CK_SYN.SYN_STATUS_FOSC_QUAL   : Field := ⟨7, 0x040, 1, 1, .ro, 0⟩
def CK_SYN.SYN_STATUS_FOSC_FAILED   : Field := ⟨7, 0x040, 2, 1, .ro, 0⟩
def CK_SYN.SYN_STATUS_APLL_LOCK   : Field := ⟨7, 0x040, 3, 1, .ro, 0⟩
def CK_SYN.SYN_STATUS_RCLK_OK   : Field := ⟨7, 0x040, 4, 1, .ro, 0⟩
def CK_SYN.SYN_STATUS_MON_ARMED   : Field := ⟨7, 0x040, 5, 1, .ro, 0⟩
def CK_SYN.SYN_STATUS_CTRL_CLK   : Field := ⟨7, 0x040, 6, 2, .ro, 0⟩
def CK_SYN.SYN_STATUS_PRE_ARM_FAIL   : Field := ⟨7, 0x040, 8, 1, .ro, 0⟩
def CK_SYN.FOSC_QUAL_COUNT   : Field := ⟨7, 0x044, 0, 17, .ro, 0⟩
def CK_SYN.FOSC_QUAL_ATTEMPTS   : Field := ⟨7, 0x044, 17, 2, .ro, 0⟩
def CK_SYN.FOSC_QUAL_TRIM   : Field := ⟨7, 0x044, 24, 8, .ro, 128⟩
def CK_SYN.MON_CFG_RESTORE_MS   : Field := ⟨7, 0x048, 0, 8, .rwLv, 100⟩
def CK_SYN.MON_CFG_RETURN_NOW   : Field := ⟨7, 0x048, 8, 1, .wo, 0⟩
def CK_SYN.MON_COUNT_RCLK   : Field := ⟨7, 0x04C, 0, 16, .ro, 0⟩
def CK_SYN.MON_COUNT_XREF   : Field := ⟨7, 0x04C, 16, 16, .ro, 0⟩
def CK_SYN.GATE_REQ_DOMAIN   : Field := ⟨7, 0x050, 0, 5, .wo, 0⟩
def CK_SYN.GATE_REQ_CLOSE   : Field := ⟨7, 0x050, 5, 1, .wo, 0⟩
def CK_SYN.GATE_STATUS_BUSY   : Field := ⟨7, 0x054, 0, 1, .ro, 0⟩
def CK_SYN.GATE_STATUS_RESULT   : Field := ⟨7, 0x054, 1, 3, .ro, 0⟩
def CK_SYN.GATE_STATUS_LAST_FORCED   : Field := ⟨7, 0x054, 8, 5, .ro, 31⟩
def CK_SYN.GATE_STATE_CLOSED   : Field := ⟨7, 0x058, 0, 28, .ro, 0⟩
def CK_SYN.PROBE_CFG_SRC   : Field := ⟨7, 0x05C, 0, 4, .rwLv, 0⟩
def CK_SYN.PROBE_CFG_DIV   : Field := ⟨7, 0x05C, 4, 4, .rwLv, 15⟩
def CK_SYN.PROBE_CFG_EN   : Field := ⟨7, 0x05C, 8, 1, .rwLv, 0⟩
def CK_SYN.PROBE_CFG_REFUSED   : Field := ⟨7, 0x05C, 16, 1, .ro, 0⟩

/-- Every field of a `CK_SYN` page that its table names. -/
def CK_SYN.all  : List Field :=
    [CK_SYN.SYN_STATUS_XREF_OK, CK_SYN.SYN_STATUS_FOSC_QUAL, CK_SYN.SYN_STATUS_FOSC_FAILED, CK_SYN.SYN_STATUS_APLL_LOCK, CK_SYN.SYN_STATUS_RCLK_OK,
      CK_SYN.SYN_STATUS_MON_ARMED, CK_SYN.SYN_STATUS_CTRL_CLK, CK_SYN.SYN_STATUS_PRE_ARM_FAIL, CK_SYN.FOSC_QUAL_COUNT, CK_SYN.FOSC_QUAL_ATTEMPTS,
      CK_SYN.FOSC_QUAL_TRIM, CK_SYN.MON_CFG_RESTORE_MS, CK_SYN.MON_CFG_RETURN_NOW, CK_SYN.MON_COUNT_RCLK, CK_SYN.MON_COUNT_XREF,
      CK_SYN.GATE_REQ_DOMAIN, CK_SYN.GATE_REQ_CLOSE, CK_SYN.GATE_STATUS_BUSY, CK_SYN.GATE_STATUS_RESULT, CK_SYN.GATE_STATUS_LAST_FORCED,
      CK_SYN.GATE_STATE_CLOSED, CK_SYN.PROBE_CFG_SRC, CK_SYN.PROBE_CFG_DIV, CK_SYN.PROBE_CFG_EN, CK_SYN.PROBE_CFG_REFUSED]

/-! ### `CK_REF` (R336) -/

def CK_REF.REF_CFG_PRIO  (c : Nat) : Field := ⟨8, 0x040 + 0x10 * c, 0, 4, .rwLv, 0⟩
def CK_REF.REF_CFG_LANE  (c : Nat) : Field := ⟨8, 0x040 + 0x10 * c, 4, 5, .rwLk, 0⟩
def CK_REF.REF_CFG_WTR  (c : Nat) : Field := ⟨8, 0x040 + 0x10 * c, 10, 10, .rwLv, 300⟩
def CK_REF.REF_FREQ_FREQ_KHZ  (c : Nat) : Field := ⟨8, 0x044 + 0x10 * c, 0, 20, .rwLk, 10000⟩
def CK_REF.REF_QUAL_QUAL_PPM  (c : Nat) : Field := ⟨8, 0x048 + 0x10 * c, 0, 16, .rwLv, 1200⟩
def CK_REF.REF_STATUS_STATE  (c : Nat) : Field := ⟨8, 0x04C + 0x10 * c, 0, 3, .ro, 0⟩
def CK_REF.REF_STATUS_EVER_QUAL  (c : Nat) : Field := ⟨8, 0x04C + 0x10 * c, 3, 1, .ro, 0⟩
def CK_REF.REF_STATUS_WTR_LEFT  (c : Nat) : Field := ⟨8, 0x04C + 0x10 * c, 4, 10, .ro, 0⟩
def CK_REF.REF_STATUS_OFFSET  (c : Nat) : Field := ⟨8, 0x04C + 0x10 * c, 16, 16, .ro, 0⟩
def CK_REF.SEL_CFG_ROOST_EN   : Field := ⟨8, 0x100, 0, 1, .rwLv, 0⟩
def CK_REF.SEL_CFG_FORCE_EN   : Field := ⟨8, 0x100, 1, 1, .rwLv, 0⟩
def CK_REF.SEL_CFG_FORCE_IDX   : Field := ⟨8, 0x100, 4, 4, .rwLv, 0⟩
def CK_REF.SEL_CFG_PEER_LIMIT   : Field := ⟨8, 0x100, 16, 16, .rwLv, 200⟩
def CK_REF.SEL_STATUS_SELECTED   : Field := ⟨8, 0x104, 0, 4, .ro, 15⟩
def CK_REF.SEL_STATUS_STANDBY   : Field := ⟨8, 0x104, 4, 4, .ro, 15⟩
def CK_REF.SEL_STATUS_PEER_DISAGREE   : Field := ⟨8, 0x104, 8, 1, .ro, 0⟩
def CK_REF.SEL_STATUS_FORCE_REFUSED   : Field := ⟨8, 0x104, 9, 1, .ro, 0⟩
def CK_REF.SEL_STATUS_PEER_IDX   : Field := ⟨8, 0x104, 12, 4, .ro, 15⟩
def CK_REF.TYPE_BW_BW_MHZ  (i : Nat) : Field := ⟨8, 0x108 + 4 * i, 0, 16, .rwLv, (if i = 1 then 10000 else if i = 3 then 100 else 3000)⟩
def CK_REF.ROOST_CFG_AVG_LOG2   : Field := ⟨8, 0x118, 0, 4, .rwLv, 6⟩

/-- Every field of a `CK_REF` page that its table names: LANE on the SYNCE inputs and FREQ_KHZ on the REFIN inputs only. -/
def CK_REF.all  : List Field :=
    ((List.range 12).flatMap fun c => [CK_REF.REF_CFG_PRIO c, CK_REF.REF_CFG_WTR c, CK_REF.REF_QUAL_QUAL_PPM c, CK_REF.REF_STATUS_STATE c,
      CK_REF.REF_STATUS_EVER_QUAL c, CK_REF.REF_STATUS_WTR_LEFT c, CK_REF.REF_STATUS_OFFSET c]) ++
    [CK_REF.REF_CFG_LANE 6, CK_REF.REF_CFG_LANE 7] ++ ((List.range 4).map CK_REF.REF_FREQ_FREQ_KHZ) ++
    [CK_REF.SEL_CFG_ROOST_EN, CK_REF.SEL_CFG_FORCE_EN, CK_REF.SEL_CFG_FORCE_IDX, CK_REF.SEL_CFG_PEER_LIMIT, CK_REF.SEL_STATUS_SELECTED,
      CK_REF.SEL_STATUS_STANDBY, CK_REF.SEL_STATUS_PEER_DISAGREE, CK_REF.SEL_STATUS_FORCE_REFUSED, CK_REF.SEL_STATUS_PEER_IDX,
      CK_REF.ROOST_CFG_AVG_LOG2] ++
    ((List.range 4).flatMap fun i => [CK_REF.TYPE_BW_BW_MHZ i])

/-! ### `CK_DPLL` (R337) -/

def CK_DPLL.DPLL_CFG_SLOPE (x : Nat)  : Field := ⟨(9 + x), 0x040, 0, 7, .rwLv, 50⟩
def CK_DPLL.DPLL_CFG_LOCK_NS (x : Nat)  : Field := ⟨(9 + x), 0x040, 8, 8, .rwLv, 50⟩
def CK_DPLL.DPLL_CFG_LOCK_S (x : Nat)  : Field := ⟨(9 + x), 0x040, 16, 4, .rwLv, 5⟩
def CK_DPLL.DPLL_STATUS_STATE (x : Nat)  : Field := ⟨(9 + x), 0x044, 0, 3, .ro, 0⟩
def CK_DPLL.DPLL_STATUS_INPUT (x : Nat)  : Field := ⟨(9 + x), 0x044, 4, 4, .ro, 15⟩
def CK_DPLL.DPLL_STATUS_EVER_LOCKED (x : Nat)  : Field := ⟨(9 + x), 0x044, 8, 1, .ro, 0⟩
def CK_DPLL.PHASE_ERR_ERR (x : Nat)  : Field := ⟨(9 + x), 0x048, 0, 32, .ro, 0⟩
def CK_DPLL.FREQ_OFS_OFS (x : Nat)  : Field := ⟨(9 + x), 0x04C, 0, 32, .ro, 0⟩
def CK_DPLL.PULL_LEFT_RESIDUAL (x : Nat)  : Field := ⟨(9 + x), 0x050, 0, 32, .ro, 0⟩
def CK_DPLL.ROOST_FREQ_AVG (x : Nat)  : Field := ⟨(9 + x), 0x054, 0, 32, .ro, 0⟩
def CK_DPLL.ROOST_STATUS_VALID (x : Nat)  : Field := ⟨(9 + x), 0x058, 0, 1, .ro, 0⟩
def CK_DPLL.ROOST_STATUS_HISTORY (x : Nat)  : Field := ⟨(9 + x), 0x058, 16, 16, .ro, 0⟩

/-- Every field of a `CK_DPLL` page that its table names: what belongs to DPLL0 only is reserved on the other. -/
def CK_DPLL.all (x : Nat) : List Field :=
    [CK_DPLL.DPLL_CFG_LOCK_NS x, CK_DPLL.DPLL_CFG_LOCK_S x, CK_DPLL.DPLL_STATUS_STATE x, CK_DPLL.DPLL_STATUS_INPUT x,
      CK_DPLL.DPLL_STATUS_EVER_LOCKED x, CK_DPLL.PHASE_ERR_ERR x, CK_DPLL.FREQ_OFS_OFS x] ++
    (if x = 0 then [CK_DPLL.DPLL_CFG_SLOPE x, CK_DPLL.PULL_LEFT_RESIDUAL x, CK_DPLL.ROOST_FREQ_AVG x, CK_DPLL.ROOST_STATUS_VALID x,
      CK_DPLL.ROOST_STATUS_HISTORY x] else [])

/-! ### `TS_TB` (R357) -/

def TS_TB.TB_CTRL_EN (x : Nat)  : Field := ⟨(11 + x), 0x040, 0, 1, .rwLv, 0⟩
def TS_TB.TB_CTRL_STEP (x : Nat)  : Field := ⟨(11 + x), 0x040, 1, 1, .wo, 0⟩
def TS_TB.TB_CTRL_SHADOW_EN (x : Nat)  : Field := ⟨(11 + x), 0x040, 2, 1, .rwLv, 0⟩
def TS_TB.TB_CTRL_SWITCH (x : Nat)  : Field := ⟨(11 + x), 0x040, 3, 1, .wo, 0⟩
def TS_TB.TB_SRC_PORT (x : Nat)  : Field := ⟨(11 + x), 0x044, 0, 5, .rwLk, 31⟩
def TS_TB.TB_SRC_SHADOW_PORT (x : Nat)  : Field := ⟨(11 + x), 0x044, 8, 5, .rwLk, 31⟩
def TS_TB.TB_SRC_DOMAIN (x : Nat)  : Field := ⟨(11 + x), 0x044, 16, 8, .rwLk, 24⟩
def TS_TB.TB_SERVO_BW_MHZ (x : Nat)  : Field := ⟨(11 + x), 0x048, 0, 16, .rwLv, 100⟩
def TS_TB.TB_SERVO_STEP_THRESH (x : Nat)  : Field := ⟨(11 + x), 0x048, 16, 16, .rwLv, 100⟩
def TS_TB.TB_LOCK_TIME_LOCK_NS (x : Nat)  : Field := ⟨(11 + x), 0x04C, 0, 16, .rwLv, 100⟩
def TS_TB.TB_LOCK_FREQ_LOCK_PPB (x : Nat)  : Field := ⟨(11 + x), 0x04C, 16, 8, .rwLv, 5⟩
def TS_TB.TB_SLOPE_SLOPE (x : Nat)  : Field := ⟨(11 + x), 0x050, 0, 16, .rwLv, 50⟩
def TS_TB.TB_STATUS_VALID (x : Nat)  : Field := ⟨(11 + x), 0x054, 0, 1, .ro, 0⟩
def TS_TB.TB_STATUS_FREQ_LOCK (x : Nat)  : Field := ⟨(11 + x), 0x054, 1, 1, .ro, 0⟩
def TS_TB.TB_STATUS_TIME_LOCK (x : Nat)  : Field := ⟨(11 + x), 0x054, 2, 1, .ro, 0⟩
def TS_TB.TB_STATUS_HOLDOVER (x : Nat)  : Field := ⟨(11 + x), 0x054, 3, 1, .ro, 0⟩
def TS_TB.TB_STATUS_SHADOW_LOCK (x : Nat)  : Field := ⟨(11 + x), 0x054, 4, 1, .ro, 0⟩
def TS_TB.TB_STATUS_ACTIVE_GM (x : Nat)  : Field := ⟨(11 + x), 0x054, 5, 1, .ro, 0⟩
def TS_TB.TB_STATUS_STEERED (x : Nat)  : Field := ⟨(11 + x), 0x054, 6, 1, .ro, 0⟩
def TS_TB.TB_RATE_ADJ (x : Nat)  : Field := ⟨(11 + x), 0x058, 0, 32, .rwLv, 0⟩
def TS_TB.TB_OFFSET_OFS (x : Nat)  : Field := ⟨(11 + x), 0x05C, 0, 32, .ro, 0⟩
def TS_TB.SHADOW_OFS_OFS (x : Nat)  : Field := ⟨(11 + x), 0x060, 0, 32, .ro, 0⟩
def TS_TB.SLEW_LEFT_RESIDUAL (x : Nat)  : Field := ⟨(11 + x), 0x064, 0, 32, .ro, 0⟩
def TS_TB.STEP_NS_NS (x : Nat)  : Field := ⟨(11 + x), 0x068, 0, 32, .rwLv, 0⟩
def TS_TB.STEP_S_S (x : Nat)  : Field := ⟨(11 + x), 0x06C, 0, 32, .rwLv, 0⟩
def TS_TB.TIME_NS_NS (x : Nat)  : Field := ⟨(11 + x), 0x070, 0, 30, .ro, 0⟩
def TS_TB.TIME_FRAC_FRAC (x : Nat)  : Field := ⟨(11 + x), 0x074, 0, 32, .ro, 0⟩
def TS_TB.TIME_S_LO_S (x : Nat)  : Field := ⟨(11 + x), 0x078, 0, 32, .ro, 0⟩
def TS_TB.TIME_S_HI_S (x : Nat)  : Field := ⟨(11 + x), 0x07C, 0, 16, .ro, 0⟩

/-- Every field of a `TS_TB` page that its table names. -/
def TS_TB.all (x : Nat) : List Field :=
    [TS_TB.TB_CTRL_EN x, TS_TB.TB_CTRL_STEP x, TS_TB.TB_CTRL_SHADOW_EN x, TS_TB.TB_CTRL_SWITCH x, TS_TB.TB_SRC_PORT x, TS_TB.TB_SRC_SHADOW_PORT x,
      TS_TB.TB_SRC_DOMAIN x, TS_TB.TB_SERVO_BW_MHZ x, TS_TB.TB_SERVO_STEP_THRESH x, TS_TB.TB_LOCK_TIME_LOCK_NS x, TS_TB.TB_LOCK_FREQ_LOCK_PPB x,
      TS_TB.TB_SLOPE_SLOPE x, TS_TB.TB_STATUS_VALID x, TS_TB.TB_STATUS_FREQ_LOCK x, TS_TB.TB_STATUS_TIME_LOCK x, TS_TB.TB_STATUS_HOLDOVER x,
      TS_TB.TB_STATUS_SHADOW_LOCK x, TS_TB.TB_STATUS_ACTIVE_GM x, TS_TB.TB_STATUS_STEERED x, TS_TB.TB_RATE_ADJ x, TS_TB.TB_OFFSET_OFS x,
      TS_TB.SHADOW_OFS_OFS x, TS_TB.SLEW_LEFT_RESIDUAL x, TS_TB.STEP_NS_NS x, TS_TB.STEP_S_S x, TS_TB.TIME_NS_NS x, TS_TB.TIME_FRAC_FRAC x,
      TS_TB.TIME_S_LO_S x, TS_TB.TIME_S_HI_S x]

/-! ### `TS_STAMP` (R358) -/

def TS_STAMP.PPS_CFG_TB_SEL   : Field := ⟨15, 0x040, 0, 2, .rwLv, 0⟩
def TS_STAMP.PPS_CFG_OUT_EN   : Field := ⟨15, 0x040, 2, 1, .rwLv, 0⟩
def TS_STAMP.PPS_CFG_WIDTH   : Field := ⟨15, 0x040, 8, 8, .rwLv, 100⟩
def TS_STAMP.PPS_CFG_PPS_OUT_COMP   : Field := ⟨15, 0x040, 16, 16, .rwLv, 0⟩
def TS_STAMP.PPS_IN_CFG_TB_SEL   : Field := ⟨15, 0x044, 0, 2, .rwLv, 0⟩
def TS_STAMP.PPS_IN_CFG_EN   : Field := ⟨15, 0x044, 2, 1, .rwLv, 0⟩
def TS_STAMP.PPS_IN_CFG_EDGE   : Field := ⟨15, 0x044, 3, 1, .rwLv, 0⟩
def TS_STAMP.PPS_IN_CFG_PPS_IN_COMP   : Field := ⟨15, 0x044, 16, 16, .rwLv, 0⟩
def TS_STAMP.PPS_IN_NS_NS   : Field := ⟨15, 0x048, 0, 30, .ro, 0⟩
def TS_STAMP.PPS_IN_S_S   : Field := ⟨15, 0x04C, 0, 32, .ro, 0⟩
def TS_STAMP.TOD_CFG_OUT_TB   : Field := ⟨15, 0x050, 0, 2, .rwLv, 0⟩
def TS_STAMP.TOD_CFG_OUT_EN   : Field := ⟨15, 0x050, 2, 1, .rwLv, 0⟩
def TS_STAMP.TOD_CFG_IN_EN   : Field := ⟨15, 0x050, 3, 1, .rwLv, 0⟩
def TS_STAMP.TOD_CFG_CLOCK_CLASS   : Field := ⟨15, 0x050, 16, 8, .rwLv, 248⟩
def TS_STAMP.LATCH_LATCH   : Field := ⟨15, 0x054, 0, 1, .wo, 0⟩
def TS_STAMP.LINE_ASYM_ASYM  (p : Port) : Field := ⟨15, 0x060 + 4 * p.toNat, 0, 32, .rwLv, 0⟩
def TS_STAMP.LINE_POS_S_F  (p : Port) : Field := ⟨15, 0x068 + 4 * p.toNat, 0, 27, .ro, 0⟩

/-- Every field of a `TS_STAMP` page that its table names. -/
def TS_STAMP.all  : List Field :=
    [TS_STAMP.PPS_CFG_TB_SEL, TS_STAMP.PPS_CFG_OUT_EN, TS_STAMP.PPS_CFG_WIDTH, TS_STAMP.PPS_CFG_PPS_OUT_COMP, TS_STAMP.PPS_IN_CFG_TB_SEL,
      TS_STAMP.PPS_IN_CFG_EN, TS_STAMP.PPS_IN_CFG_EDGE, TS_STAMP.PPS_IN_CFG_PPS_IN_COMP, TS_STAMP.PPS_IN_NS_NS, TS_STAMP.PPS_IN_S_S,
      TS_STAMP.TOD_CFG_OUT_TB, TS_STAMP.TOD_CFG_OUT_EN, TS_STAMP.TOD_CFG_IN_EN, TS_STAMP.TOD_CFG_CLOCK_CLASS, TS_STAMP.LATCH_LATCH] ++
    ([.E, .W].flatMap fun p => [TS_STAMP.LINE_ASYM_ASYM p, TS_STAMP.LINE_POS_S_F p])

/-! ### `MG_CTL` (R380) -/

def MG_CTL.CORE_STATUS_ACTIVE   : Field := ⟨1, 0x040, 0, 1, .ro, 0⟩
def MG_CTL.CORE_STATUS_CORE0   : Field := ⟨1, 0x040, 1, 2, .ro, 0⟩
def MG_CTL.CORE_STATUS_CORE1   : Field := ⟨1, 0x040, 3, 2, .ro, 0⟩
def MG_CTL.CORE_STATUS_MOULT_BUSY   : Field := ⟨1, 0x040, 5, 1, .ro, 0⟩
def MG_CTL.CORE_STATUS_FATAL   : Field := ⟨1, 0x040, 6, 1, .ro, 0⟩
def MG_CTL.CORE_STATUS_RUN_SLOT   : Field := ⟨1, 0x040, 7, 2, .ro, 0⟩
def MG_CTL.CORE_STATUS_LAST_FALLBACK   : Field := ⟨1, 0x040, 9, 1, .ro, 0⟩
def MG_CTL.FW_VERSION_VERSION   : Field := ⟨1, 0x044, 0, 32, .ro, 0⟩
def MG_CTL.FW_SVN_SVN   : Field := ⟨1, 0x048, 0, 6, .ro, 0⟩
def MG_CTL.FW_SVN_MIN_SVN   : Field := ⟨1, 0x048, 8, 6, .ro, 0⟩
def MG_CTL.WDOG_CFG_WDOG_MS   : Field := ⟨1, 0x04C, 0, 8, .rwLv, 50⟩
def MG_CTL.MOULT_CTRL_MOULT_REQ   : Field := ⟨1, 0x050, 0, 1, .wo, 0⟩
def MG_CTL.NMI_CAUSE_EXHAUSTED   : Field := ⟨1, 0x054, 0, 1, .w1c, 0⟩
def MG_CTL.NMI_CAUSE_RCLK_FAIL   : Field := ⟨1, 0x054, 1, 1, .w1c, 0⟩
def MG_CTL.NMI_CAUSE_FATAL   : Field := ⟨1, 0x054, 2, 1, .w1c, 0⟩
def MG_CTL.NMI_PAGE_PAGE   : Field := ⟨1, 0x058, 0, 6, .ro, 63⟩
def MG_CTL.TICK_COUNT_TICKS   : Field := ⟨1, 0x05C, 0, 32, .ro, 0⟩
def MG_CTL.RESTORE_STATUS_POLICY   : Field := ⟨1, 0x060, 0, 2, .ro, 0⟩
def MG_CTL.RESTORE_STATUS_RESTORE_RESULT   : Field := ⟨1, 0x060, 2, 2, .ro, 0⟩
def MG_CTL.RESTORE_STATUS_RECORDS   : Field := ⟨1, 0x060, 16, 16, .ro, 0⟩

/-- Every field of a `MG_CTL` page that its table names. -/
def MG_CTL.all  : List Field :=
    [MG_CTL.CORE_STATUS_ACTIVE, MG_CTL.CORE_STATUS_CORE0, MG_CTL.CORE_STATUS_CORE1, MG_CTL.CORE_STATUS_MOULT_BUSY, MG_CTL.CORE_STATUS_FATAL,
      MG_CTL.CORE_STATUS_RUN_SLOT, MG_CTL.CORE_STATUS_LAST_FALLBACK, MG_CTL.FW_VERSION_VERSION, MG_CTL.FW_SVN_SVN, MG_CTL.FW_SVN_MIN_SVN,
      MG_CTL.WDOG_CFG_WDOG_MS, MG_CTL.MOULT_CTRL_MOULT_REQ, MG_CTL.NMI_CAUSE_EXHAUSTED, MG_CTL.NMI_CAUSE_RCLK_FAIL, MG_CTL.NMI_CAUSE_FATAL,
      MG_CTL.NMI_PAGE_PAGE, MG_CTL.TICK_COUNT_TICKS, MG_CTL.RESTORE_STATUS_POLICY, MG_CTL.RESTORE_STATUS_RESTORE_RESULT,
      MG_CTL.RESTORE_STATUS_RECORDS]

/-! ### `MG_MBX` (R381) -/

def MG_MBX.MBX_CMD_OP (x : Nat)  : Field := ⟨(2 + x), 0x040, 0, 16, .wo, 0⟩
def MG_MBX.MBX_CMD_TAG (x : Nat)  : Field := ⟨(2 + x), 0x040, 16, 8, .wo, 0⟩
def MG_MBX.MBX_CMD_REQ_WORDS (x : Nat)  : Field := ⟨(2 + x), 0x040, 24, 8, .wo, 0⟩
def MG_MBX.MBX_STATUS_BUSY (x : Nat)  : Field := ⟨(2 + x), 0x044, 0, 1, .ro, 0⟩
def MG_MBX.MBX_STATUS_DONE (x : Nat)  : Field := ⟨(2 + x), 0x044, 1, 1, .w1c, 0⟩
def MG_MBX.MBX_STATUS_STATUS (x : Nat)  : Field := ⟨(2 + x), 0x044, 8, 8, .ro, 0⟩
def MG_MBX.MBX_STATUS_TAG (x : Nat)  : Field := ⟨(2 + x), 0x044, 16, 8, .ro, 0⟩
def MG_MBX.MBX_RSP_RSP_WORDS (x : Nat)  : Field := ⟨(2 + x), 0x048, 0, 10, .ro, 0⟩
def MG_MBX.MBX_DETAIL_DETAIL (x : Nat)  : Field := ⟨(2 + x), 0x04C, 0, 32, .ro, 0⟩
def MG_MBX.MBX_PROGRESS_PERCENT (x : Nat)  : Field := ⟨(2 + x), 0x050, 0, 7, .ro, 0⟩
def MG_MBX.MBX_ABORT_ABORT (x : Nat)  : Field := ⟨(2 + x), 0x054, 0, 1, .wo, 0⟩
def MG_MBX.REQ_WORD (x : Nat) (i : Nat) : Field := ⟨(2 + x), 0x400 + 4 * i, 0, 32, .rwLv, 0⟩
def MG_MBX.RSP_WORD (x : Nat) (i : Nat) : Field := ⟨(2 + x), 0x800 + 4 * i, 0, 32, .ro, 0⟩

/-- Every field of a `MG_MBX` page that its table names. -/
def MG_MBX.all (x : Nat) : List Field :=
    [MG_MBX.MBX_CMD_OP x, MG_MBX.MBX_CMD_TAG x, MG_MBX.MBX_CMD_REQ_WORDS x, MG_MBX.MBX_STATUS_BUSY x, MG_MBX.MBX_STATUS_DONE x,
      MG_MBX.MBX_STATUS_STATUS x, MG_MBX.MBX_STATUS_TAG x, MG_MBX.MBX_RSP_RSP_WORDS x, MG_MBX.MBX_DETAIL_DETAIL x, MG_MBX.MBX_PROGRESS_PERCENT x,
      MG_MBX.MBX_ABORT_ABORT x] ++
    ((List.range 256).flatMap fun i => [MG_MBX.REQ_WORD x i]) ++
    ((List.range 512).flatMap fun i => [MG_MBX.RSP_WORD x i])

/-! ### `DMA_ENG` (R409) -/

def DMA_ENG.ENG_CTRL_ENABLE   : Field := ⟨6, 0x040, 0, 1, .rwLv, 0⟩
def DMA_ENG.ENG_CTRL_HALT_CLR   : Field := ⟨6, 0x040, 1, 1, .wo, 0⟩
def DMA_ENG.ENG_STATUS_HALTED   : Field := ⟨6, 0x044, 0, 1, .ro, 0⟩
def DMA_ENG.ENG_STATUS_HALT_CAUSE   : Field := ⟨6, 0x044, 1, 3, .ro, 0⟩
def DMA_ENG.ENG_STATUS_FINAL_BEAT   : Field := ⟨6, 0x044, 4, 1, .ro, 0⟩
def DMA_ENG.ENG_STATUS_ACTIVE   : Field := ⟨6, 0x044, 16, 16, .ro, 0⟩
def DMA_ENG.ENG_CFG_PREFETCH   : Field := ⟨6, 0x048, 0, 3, .rwLv, 4⟩
def DMA_ENG.ENG_CFG_CPL_TO   : Field := ⟨6, 0x048, 8, 16, .rwLv, 1000⟩
def DMA_ENG.HALT_ADDR_LO_ADDR   : Field := ⟨6, 0x04C, 0, 32, .ro, 0⟩
def DMA_ENG.HALT_ADDR_HI_ADDR   : Field := ⟨6, 0x050, 0, 32, .ro, 0⟩
def DMA_ENG.CH_CTRL_RUN  (c : Nat) : Field := ⟨6, 0x100 + 0x40 * c, 0, 1, .rwLv, 0⟩
def DMA_ENG.CH_CTRL_CH_RESET  (c : Nat) : Field := ⟨6, 0x100 + 0x40 * c, 1, 1, .wo, 0⟩
def DMA_ENG.CH_CTRL_PRIO  (c : Nat) : Field := ⟨6, 0x100 + 0x40 * c, 2, 1, .rwLk, (if c = 15 then 1 else 0)⟩
def DMA_ENG.CH_CTRL_LOC  (c : Nat) : Field := ⟨6, 0x100 + 0x40 * c, 3, 1, .rwLk, (if c = 15 then 1 else 0)⟩
def DMA_ENG.CH_CTRL_TICKETS  (c : Nat) : Field := ⟨6, 0x100 + 0x40 * c, 8, 8, .rwLv, 16⟩
def DMA_ENG.CH_CTRL_MSIX  (c : Nat) : Field := ⟨6, 0x100 + 0x40 * c, 16, 6, .rwLv, (1 + c)⟩
def DMA_ENG.RING_LO_BASE  (c : Nat) : Field := ⟨6, 0x104 + 0x40 * c, 5, 27, .rwLk, 0⟩
def DMA_ENG.RING_HI_BASE  (c : Nat) : Field := ⟨6, 0x108 + 0x40 * c, 0, 32, .rwLk, 0⟩
def DMA_ENG.RING_SIZE_LOG2  (c : Nat) : Field := ⟨6, 0x10C + 0x40 * c, 0, 4, .rwLk, 2⟩
def DMA_ENG.TAIL_TAIL  (c : Nat) : Field := ⟨6, 0x110 + 0x40 * c, 0, 15, .rwLv, 0⟩
def DMA_ENG.HEAD_HEAD  (c : Nat) : Field := ⟨6, 0x114 + 0x40 * c, 0, 15, .ro, 0⟩
def DMA_ENG.CH_STATUS_STATE  (c : Nat) : Field := ⟨6, 0x118 + 0x40 * c, 0, 3, .ro, 0⟩
def DMA_ENG.CH_STATUS_ERR  (c : Nat) : Field := ⟨6, 0x118 + 0x40 * c, 4, 4, .ro, 0⟩
def DMA_ENG.CH_STATUS_FAILED  (c : Nat) : Field := ⟨6, 0x118 + 0x40 * c, 8, 1, .ro, 0⟩
def DMA_ENG.CH_STATUS_FAILED_IDX  (c : Nat) : Field := ⟨6, 0x118 + 0x40 * c, 16, 15, .ro, 0⟩
def DMA_ENG.REMAIN_BYTES  (c : Nat) : Field := ⟨6, 0x11C + 0x40 * c, 0, 24, .ro, 0⟩

/-- Every field of a `DMA_ENG` page that its table names. -/
def DMA_ENG.all  : List Field :=
    [DMA_ENG.ENG_CTRL_ENABLE, DMA_ENG.ENG_CTRL_HALT_CLR, DMA_ENG.ENG_STATUS_HALTED, DMA_ENG.ENG_STATUS_HALT_CAUSE, DMA_ENG.ENG_STATUS_FINAL_BEAT,
      DMA_ENG.ENG_STATUS_ACTIVE, DMA_ENG.ENG_CFG_PREFETCH, DMA_ENG.ENG_CFG_CPL_TO, DMA_ENG.HALT_ADDR_LO_ADDR, DMA_ENG.HALT_ADDR_HI_ADDR] ++
    ((List.range 16).flatMap fun c => [DMA_ENG.CH_CTRL_RUN c, DMA_ENG.CH_CTRL_CH_RESET c, DMA_ENG.CH_CTRL_PRIO c, DMA_ENG.CH_CTRL_LOC c,
      DMA_ENG.CH_CTRL_TICKETS c, DMA_ENG.CH_CTRL_MSIX c, DMA_ENG.RING_LO_BASE c, DMA_ENG.RING_HI_BASE c, DMA_ENG.RING_SIZE_LOG2 c,
      DMA_ENG.TAIL_TAIL c, DMA_ENG.HEAD_HEAD c, DMA_ENG.CH_STATUS_STATE c, DMA_ENG.CH_STATUS_ERR c, DMA_ENG.CH_STATUS_FAILED c,
      DMA_ENG.CH_STATUS_FAILED_IDX c, DMA_ENG.REMAIN_BYTES c])

/-! ### `MG_MEM` (R410) -/

def MG_MEM.ARB_CFG_MODE  (c : Nat) : Field := ⟨4, 0x040 + 0x10 * c, 0, 1, .rwLv, 0⟩
def MG_MEM.ARB_CFG_FREEZE  (c : Nat) : Field := ⟨4, 0x040 + 0x10 * c, 1, 1, .rwLv, 0⟩
def MG_MEM.ARB_CFG_DRAINED  (c : Nat) : Field := ⟨4, 0x040 + 0x10 * c, 2, 1, .ro, 1⟩
def MG_MEM.ARB_CFG_PARKED  (c : Nat) : Field := ⟨4, 0x040 + 0x10 * c, 3, 1, .ro, 0⟩
def MG_MEM.ARB_CFG_OWNER  (c : Nat) : Field := ⟨4, 0x040 + 0x10 * c, 8, 5, .ro, 31⟩
def MG_MEM.ARB_SEED_STATE  (c : Nat) : Field := ⟨4, 0x044 + 0x10 * c, 0, 32, .rwLv, (0xACE10001 + c)⟩
def MG_MEM.TICKETS_LO_T0  (c : Nat) : Field := ⟨4, 0x048 + 0x10 * c, 0, 8, .rwLv, 16⟩
def MG_MEM.TICKETS_LO_T1  (c : Nat) : Field := ⟨4, 0x048 + 0x10 * c, 8, 8, .rwLv, 16⟩
def MG_MEM.TICKETS_LO_T2  (c : Nat) : Field := ⟨4, 0x048 + 0x10 * c, 16, 8, .rwLv, 16⟩
def MG_MEM.TICKETS_LO_T3  (c : Nat) : Field := ⟨4, 0x048 + 0x10 * c, 24, 8, .rwLv, 16⟩
def MG_MEM.TICKETS_HI_T0  (c : Nat) : Field := ⟨4, 0x04C + 0x10 * c, 0, 8, .rwLv, 16⟩
def MG_MEM.TICKETS_HI_T1  (c : Nat) : Field := ⟨4, 0x04C + 0x10 * c, 8, 8, .rwLv, 16⟩
def MG_MEM.PBCH_CFG_T_SRAM   : Field := ⟨4, 0x0A0, 0, 6, .rwSh, 16⟩
def MG_MEM.PBCH_CFG_T_KEY   : Field := ⟨4, 0x0A0, 8, 6, .rwSh, 16⟩
def MG_MEM.PBCH_CFG_T_CAL   : Field := ⟨4, 0x0A0, 16, 6, .rwSh, 16⟩
def MG_MEM.PBCH_CFG_T_FLASH   : Field := ⟨4, 0x0A0, 24, 6, .rwSh, 16⟩
def MG_MEM.SCRUB_CFG_SCRUB_S   : Field := ⟨4, 0x0A4, 0, 12, .rwLv, 60⟩
def MG_MEM.SCRUB_STATUS_PASSES   : Field := ⟨4, 0x0A8, 0, 16, .ro, 0⟩
def MG_MEM.UE_INFO_STORE   : Field := ⟨4, 0x0AC, 0, 3, .ro, 7⟩
def MG_MEM.UE_INFO_INDEX   : Field := ⟨4, 0x0AC, 8, 24, .ro, 0⟩

/-- Every field of a `MG_MEM` page that its table names. -/
def MG_MEM.all  : List Field :=
    ((List.range 5).flatMap fun c => [MG_MEM.ARB_CFG_MODE c, MG_MEM.ARB_CFG_FREEZE c, MG_MEM.ARB_CFG_DRAINED c, MG_MEM.ARB_CFG_PARKED c,
      MG_MEM.ARB_CFG_OWNER c, MG_MEM.ARB_SEED_STATE c, MG_MEM.TICKETS_LO_T0 c, MG_MEM.TICKETS_LO_T1 c, MG_MEM.TICKETS_LO_T2 c,
      MG_MEM.TICKETS_LO_T3 c, MG_MEM.TICKETS_HI_T0 c, MG_MEM.TICKETS_HI_T1 c]) ++
    [MG_MEM.PBCH_CFG_T_SRAM, MG_MEM.PBCH_CFG_T_KEY, MG_MEM.PBCH_CFG_T_CAL, MG_MEM.PBCH_CFG_T_FLASH, MG_MEM.SCRUB_CFG_SCRUB_S, MG_MEM.SCRUB_STATUS_PASSES,
      MG_MEM.UE_INFO_STORE, MG_MEM.UE_INFO_INDEX]

/-! ### `MON_SEQ` (R436) -/

def MON_SEQ.SEQ_CTRL_RUN   : Field := ⟨17, 0x040, 0, 1, .rwLv, 1⟩
def MON_SEQ.SEQ_CTRL_LAST   : Field := ⟨17, 0x040, 8, 5, .rwLk, 31⟩
def MON_SEQ.SEQ_PERIOD_PERIOD_US   : Field := ⟨17, 0x044, 0, 12, .rwLk, 32⟩
def MON_SEQ.SEQ_STATUS_CONV_OK   : Field := ⟨17, 0x048, 0, 2, .ro, 3⟩
def MON_SEQ.SEQ_STATUS_ROUNDS   : Field := ⟨17, 0x048, 16, 16, .ro, 0⟩
def MON_SEQ.CHECK_CFG_CHK_WIN   : Field := ⟨17, 0x04C, 0, 12, .rwLv, 64⟩
def MON_SEQ.CHECK_CFG_REF_TOL   : Field := ⟨17, 0x04C, 16, 12, .rwLv, 100⟩
def MON_SEQ.URG_REQ_CH   : Field := ⟨17, 0x050, 0, 6, .wo, 0⟩
def MON_SEQ.URG_REQ_CONV   : Field := ⟨17, 0x050, 6, 1, .wo, 0⟩
def MON_SEQ.URG_REQ_GO   : Field := ⟨17, 0x050, 7, 1, .wo, 0⟩
def MON_SEQ.URG_RESULT_VALUE   : Field := ⟨17, 0x054, 0, 16, .ro, 0⟩
def MON_SEQ.URG_RESULT_DONE   : Field := ⟨17, 0x054, 16, 1, .rc, 0⟩
def MON_SEQ.URG_RESULT_PENDING   : Field := ⟨17, 0x054, 17, 1, .ro, 0⟩
def MON_SEQ.RES_VALID_VALID   : Field := ⟨17, 0x058, 0, 32, .ro, 0⟩
def MON_SEQ.ENTRY_CH  (i : Nat) : Field := ⟨17, 0x080 + 4 * i, 0, 6, .rwSh, i⟩
def MON_SEQ.ENTRY_MODE  (i : Nat) : Field := ⟨17, 0x080 + 4 * i, 6, 2, .rwSh, (if i = 31 then 3 else i % 2)⟩
def MON_SEQ.ENTRY_CH2  (i : Nat) : Field := ⟨17, 0x080 + 4 * i, 8, 6, .rwSh, 0⟩
def MON_SEQ.RESULT_VALUE_A  (i : Nat) : Field := ⟨17, 0x100 + 4 * i, 0, 16, .ro, 0⟩
def MON_SEQ.RESULT_VALUE_B  (i : Nat) : Field := ⟨17, 0x100 + 4 * i, 16, 16, .ro, 0⟩

/-- Every field of a `MON_SEQ` page that its table names. -/
def MON_SEQ.all  : List Field :=
    [MON_SEQ.SEQ_CTRL_RUN, MON_SEQ.SEQ_CTRL_LAST, MON_SEQ.SEQ_PERIOD_PERIOD_US, MON_SEQ.SEQ_STATUS_CONV_OK, MON_SEQ.SEQ_STATUS_ROUNDS,
      MON_SEQ.CHECK_CFG_CHK_WIN, MON_SEQ.CHECK_CFG_REF_TOL, MON_SEQ.URG_REQ_CH, MON_SEQ.URG_REQ_CONV, MON_SEQ.URG_REQ_GO, MON_SEQ.URG_RESULT_VALUE,
      MON_SEQ.URG_RESULT_DONE, MON_SEQ.URG_RESULT_PENDING, MON_SEQ.RES_VALID_VALID] ++
    ((List.range 32).flatMap fun i => [MON_SEQ.ENTRY_CH i, MON_SEQ.ENTRY_MODE i, MON_SEQ.ENTRY_CH2 i, MON_SEQ.RESULT_VALUE_A i, MON_SEQ.RESULT_VALUE_B i])

/-! ### `MON_FILT` (R437) -/

def MON_FILT.FCFG_BANK0  (c : Nat) : Field := ⟨18, 0x040 + 0x10 * c, 0, 9, .rwLv, 1⟩
def MON_FILT.FCFG_BANK1  (c : Nat) : Field := ⟨18, 0x040 + 0x10 * c, 16, 9, .rwLv, 1⟩
def MON_FILT.FSWAP_BANK  (c : Nat) : Field := ⟨18, 0x044 + 0x10 * c, 0, 1, .wo, 0⟩
def MON_FILT.FSWAP_GO  (c : Nat) : Field := ⟨18, 0x044 + 0x10 * c, 1, 1, .wo, 0⟩
def MON_FILT.FSTAT_ACTIVE  (c : Nat) : Field := ⟨18, 0x048 + 0x10 * c, 0, 1, .ro, 0⟩
def MON_FILT.FSTAT_FADING  (c : Nat) : Field := ⟨18, 0x048 + 0x10 * c, 1, 1, .ro, 0⟩
def MON_FILT.FSTAT_PENDING  (c : Nat) : Field := ⟨18, 0x048 + 0x10 * c, 2, 1, .ro, 0⟩
def MON_FILT.FSTAT_PEND_BANK  (c : Nat) : Field := ⟨18, 0x048 + 0x10 * c, 3, 1, .ro, 0⟩
def MON_FILT.FSTAT_FADE_STEP  (c : Nat) : Field := ⟨18, 0x048 + 0x10 * c, 4, 5, .ro, 0⟩
def MON_FILT.FSTAT_ALM_LO  (c : Nat) : Field := ⟨18, 0x048 + 0x10 * c, 9, 1, .ro, 0⟩
def MON_FILT.FSTAT_ALM_HI  (c : Nat) : Field := ⟨18, 0x048 + 0x10 * c, 10, 1, .ro, 0⟩
def MON_FILT.ALARM_LO  (c : Nat) : Field := ⟨18, 0x04C + 0x10 * c, 0, 16, .rwLv, 0⟩
def MON_FILT.ALARM_HI  (c : Nat) : Field := ⟨18, 0x04C + 0x10 * c, 16, 16, .rwLv, 0⟩

/-- Every field of a `MON_FILT` page that its table names. -/
def MON_FILT.all  : List Field :=
    ((List.range 32).flatMap fun c => [MON_FILT.FCFG_BANK0 c, MON_FILT.FCFG_BANK1 c, MON_FILT.FSWAP_BANK c, MON_FILT.FSWAP_GO c, MON_FILT.FSTAT_ACTIVE c,
      MON_FILT.FSTAT_FADING c, MON_FILT.FSTAT_PENDING c, MON_FILT.FSTAT_PEND_BANK c, MON_FILT.FSTAT_FADE_STEP c, MON_FILT.FSTAT_ALM_LO c,
      MON_FILT.FSTAT_ALM_HI c, MON_FILT.ALARM_LO c, MON_FILT.ALARM_HI c])

/-! ### `PWR_MGR` (R438) -/

def PWR_MGR.PWR_CFG_GATE_SPARES   : Field := ⟨16, 0x040, 0, 1, .rwLv, 1⟩
def PWR_MGR.PWR_CFG_GATE_UNUSED   : Field := ⟨16, 0x040, 1, 1, .rwLv, 1⟩
def PWR_MGR.PWR_CFG_CHRYS_MV   : Field := ⟨16, 0x040, 8, 6, .rwLv, 25⟩
def PWR_MGR.CAP_CFG_CAP_W   : Field := ⟨16, 0x044, 0, 12, .ro, 0⟩
def PWR_MGR.CAP_CFG_CAP_AVG   : Field := ⟨16, 0x044, 16, 7, .rwLv, 16⟩
def PWR_MGR.CAP_CFG_CAP_HYST   : Field := ⟨16, 0x044, 24, 8, .rwLv, 20⟩
def PWR_MGR.CAP_STATUS_STAGE   : Field := ⟨16, 0x048, 0, 2, .ro, 0⟩
def PWR_MGR.CAP_STATUS_CAP_UNMET   : Field := ⟨16, 0x048, 2, 1, .ro, 0⟩
def PWR_MGR.PKG_POWER_POWER   : Field := ⟨16, 0x04C, 0, 16, .ro, 0⟩
def PWR_MGR.PKG_POWER_INCOMPLETE   : Field := ⟨16, 0x04C, 16, 1, .ro, 0⟩
def PWR_MGR.DIE_POWER_POWER  (i : Nat) : Field := ⟨16, 0x050 + 4 * i, 0, 16, .ro, 0⟩
def PWR_MGR.DIE_POWER_INCOMPLETE  (i : Nat) : Field := ⟨16, 0x050 + 4 * i, 16, 1, .ro, 0⟩
def PWR_MGR.AVS_CFG_AVS_MIN   : Field := ⟨16, 0x064, 0, 10, .rwLk, 700⟩
def PWR_MGR.AVS_CFG_AVS_MAX   : Field := ⟨16, 0x064, 16, 10, .rwLk, 800⟩
def PWR_MGR.AVS_CFG_AVS_EN   : Field := ⟨16, 0x064, 26, 1, .rwLv, 1⟩
def PWR_MGR.AVS_MARGIN_AVS_LO   : Field := ⟨16, 0x068, 0, 8, .rwLv, 20⟩
def PWR_MGR.AVS_MARGIN_AVS_HI   : Field := ⟨16, 0x068, 8, 8, .rwLv, 40⟩
def PWR_MGR.AVS_STATUS_VOUT_MV   : Field := ⟨16, 0x06C, 0, 10, .ro, 0⟩
def PWR_MGR.AVS_STATUS_MIN_SLACK   : Field := ⟨16, 0x06C, 16, 8, .ro, 0⟩
def PWR_MGR.THERM_CFG_T_HIGH   : Field := ⟨16, 0x070, 0, 8, .rwLv, 105⟩
def PWR_MGR.THERM_CFG_T_CRIT   : Field := ⟨16, 0x070, 8, 8, .rwLv, 120⟩
def PWR_MGR.THERM_CFG_THERM_ACT   : Field := ⟨16, 0x070, 16, 1, .rwLv, 0⟩
def PWR_MGR.THERM_STATUS_T_MAX   : Field := ⟨16, 0x074, 0, 8, .ro, 0⟩
def PWR_MGR.THERM_STATUS_HOT_DIE   : Field := ⟨16, 0x074, 8, 3, .ro, 0⟩
def PWR_MGR.THERM_STATUS_HIGH   : Field := ⟨16, 0x074, 11, 1, .ro, 0⟩
def PWR_MGR.THERM_STATUS_CRIT   : Field := ⟨16, 0x074, 12, 1, .ro, 0⟩
def PWR_MGR.CAL_SCHED_CAL_DELTA   : Field := ⟨16, 0x078, 0, 7, .rwLv, 20⟩
def PWR_MGR.CAL_SCHED_HOLD_TXS   : Field := ⟨16, 0x078, 7, 1, .rwLv, 0⟩
def PWR_MGR.CAL_SCHED_HOLD_CLKPH   : Field := ⟨16, 0x078, 8, 1, .rwLv, 0⟩
def PWR_MGR.CAL_SCHED_TXS_PLAUS   : Field := ⟨16, 0x078, 16, 8, .rwLv, 16⟩
def PWR_MGR.CAL_SCHED_CLKPH_PLAUS   : Field := ⟨16, 0x078, 24, 8, .rwLv, 32⟩
def PWR_MGR.CAL_STATE_ACTIVE   : Field := ⟨16, 0x07C, 0, 4, .ro, 0⟩
def PWR_MGR.CAL_STATE_PENDING   : Field := ⟨16, 0x07C, 4, 4, .ro, 0⟩
def PWR_MGR.CAL_STATE_SPARE_LEFT   : Field := ⟨16, 0x07C, 8, 4, .ro, 15⟩
def PWR_MGR.CAL_STATE_DEFERRED   : Field := ⟨16, 0x07C, 12, 4, .ro, 0⟩
def PWR_MGR.PMB_CFG_ENABLE   : Field := ⟨16, 0x080, 0, 1, .rwLv, 0⟩
def PWR_MGR.PMB_CFG_SPEED   : Field := ⟨16, 0x080, 1, 1, .rwLk, 1⟩
def PWR_MGR.ANALOG_READY_READY   : Field := ⟨16, 0x084, 0, 26, .ro, 67108863⟩
def PWR_MGR.RAIL_CFG_ADDR  (c : Nat) : Field := ⟨16, 0x0C0 + 0x08 * c, 0, 7, .rwLk, 0⟩
def PWR_MGR.RAIL_CFG_PEC  (c : Nat) : Field := ⟨16, 0x0C0 + 0x08 * c, 7, 1, .rwLk, 0⟩
def PWR_MGR.RAIL_CFG_PAGE  (c : Nat) : Field := ⟨16, 0x0C0 + 0x08 * c, 8, 8, .rwLk, 0⟩
def PWR_MGR.RAIL_CFG_DIE  (c : Nat) : Field := ⟨16, 0x0C0 + 0x08 * c, 16, 3, .rwLk, 7⟩
def PWR_MGR.RAIL_CFG_EN  (c : Nat) : Field := ⟨16, 0x0C0 + 0x08 * c, 19, 1, .rwLv, 0⟩
def PWR_MGR.RAIL_CFG_AVS  (c : Nat) : Field := ⟨16, 0x0C0 + 0x08 * c, 20, 1, .rwLk, 0⟩
def PWR_MGR.RAIL_CFG_V_SRC  (c : Nat) : Field := ⟨16, 0x0C0 + 0x08 * c, 21, 1, .rwLk, 0⟩
def PWR_MGR.RAIL_CFG_I_SRC  (c : Nat) : Field := ⟨16, 0x0C0 + 0x08 * c, 22, 1, .rwLk, 0⟩
def PWR_MGR.RAIL_CFG_ENTRY  (c : Nat) : Field := ⟨16, 0x0C0 + 0x08 * c, 23, 5, .rwLk, 0⟩
def PWR_MGR.RAIL_SCALE_I_GAIN  (c : Nat) : Field := ⟨16, 0x0C4 + 0x08 * c, 0, 16, .rwLk, 0⟩
def PWR_MGR.RAIL_SCALE_V_MUL  (c : Nat) : Field := ⟨16, 0x0C4 + 0x08 * c, 16, 4, .rwLk, 1⟩
def PWR_MGR.RAIL_SCALE_STALE  (c : Nat) : Field := ⟨16, 0x0C4 + 0x08 * c, 20, 1, .ro, 0⟩
def PWR_MGR.RAIL_SCALE_LOST  (c : Nat) : Field := ⟨16, 0x0C4 + 0x08 * c, 21, 1, .ro, 0⟩
def PWR_MGR.RAIL_RD_VOUT  (i : Nat) : Field := ⟨16, 0x140 + 4 * i, 0, 16, .ro, 0⟩
def PWR_MGR.RAIL_RD_IOUT  (i : Nat) : Field := ⟨16, 0x140 + 4 * i, 16, 16, .ro, 0⟩

/-- Every field of a `PWR_MGR` page that its table names. -/
def PWR_MGR.all  : List Field :=
    [PWR_MGR.PWR_CFG_GATE_SPARES, PWR_MGR.PWR_CFG_GATE_UNUSED, PWR_MGR.PWR_CFG_CHRYS_MV, PWR_MGR.CAP_CFG_CAP_W, PWR_MGR.CAP_CFG_CAP_AVG,
      PWR_MGR.CAP_CFG_CAP_HYST, PWR_MGR.CAP_STATUS_STAGE, PWR_MGR.CAP_STATUS_CAP_UNMET, PWR_MGR.PKG_POWER_POWER, PWR_MGR.PKG_POWER_INCOMPLETE,
      PWR_MGR.AVS_CFG_AVS_MIN, PWR_MGR.AVS_CFG_AVS_MAX, PWR_MGR.AVS_CFG_AVS_EN, PWR_MGR.AVS_MARGIN_AVS_LO, PWR_MGR.AVS_MARGIN_AVS_HI,
      PWR_MGR.AVS_STATUS_VOUT_MV, PWR_MGR.AVS_STATUS_MIN_SLACK, PWR_MGR.THERM_CFG_T_HIGH, PWR_MGR.THERM_CFG_T_CRIT, PWR_MGR.THERM_CFG_THERM_ACT,
      PWR_MGR.THERM_STATUS_T_MAX, PWR_MGR.THERM_STATUS_HOT_DIE, PWR_MGR.THERM_STATUS_HIGH, PWR_MGR.THERM_STATUS_CRIT, PWR_MGR.CAL_SCHED_CAL_DELTA,
      PWR_MGR.CAL_SCHED_HOLD_TXS, PWR_MGR.CAL_SCHED_HOLD_CLKPH, PWR_MGR.CAL_SCHED_TXS_PLAUS, PWR_MGR.CAL_SCHED_CLKPH_PLAUS, PWR_MGR.CAL_STATE_ACTIVE,
      PWR_MGR.CAL_STATE_PENDING, PWR_MGR.CAL_STATE_SPARE_LEFT, PWR_MGR.CAL_STATE_DEFERRED, PWR_MGR.PMB_CFG_ENABLE, PWR_MGR.PMB_CFG_SPEED,
      PWR_MGR.ANALOG_READY_READY] ++
    ((List.range 5).flatMap fun i => [PWR_MGR.DIE_POWER_POWER i, PWR_MGR.DIE_POWER_INCOMPLETE i]) ++
    ((List.range 16).flatMap fun c => [PWR_MGR.RAIL_CFG_ADDR c, PWR_MGR.RAIL_CFG_PEC c, PWR_MGR.RAIL_CFG_PAGE c, PWR_MGR.RAIL_CFG_DIE c,
      PWR_MGR.RAIL_CFG_EN c, PWR_MGR.RAIL_CFG_AVS c, PWR_MGR.RAIL_CFG_V_SRC c, PWR_MGR.RAIL_CFG_I_SRC c, PWR_MGR.RAIL_CFG_ENTRY c,
      PWR_MGR.RAIL_SCALE_I_GAIN c, PWR_MGR.RAIL_SCALE_V_MUL c, PWR_MGR.RAIL_SCALE_STALE c, PWR_MGR.RAIL_SCALE_LOST c]) ++
    ((List.range 16).flatMap fun i => [PWR_MGR.RAIL_RD_VOUT i, PWR_MGR.RAIL_RD_IOUT i])

/-! ### `MG_OBS` (R463) -/

def MG_OBS.SNAP_CTRL_GO   : Field := ⟨5, 0x040, 0, 1, .wo, 0⟩
def MG_OBS.SNAP_CTRL_AT_TICK   : Field := ⟨5, 0x040, 1, 1, .wo, 0⟩
def MG_OBS.SNAP_CTRL_FLOWS   : Field := ⟨5, 0x040, 2, 1, .wo, 0⟩
def MG_OBS.SNAP_STATUS_BUSY   : Field := ⟨5, 0x044, 0, 1, .ro, 0⟩
def MG_OBS.SNAP_STATUS_DONE   : Field := ⟨5, 0x044, 1, 1, .ro, 0⟩
def MG_OBS.SNAP_STATUS_RESULT   : Field := ⟨5, 0x044, 2, 2, .ro, 0⟩
def MG_OBS.SNAP_STATUS_SEQ   : Field := ⟨5, 0x044, 16, 16, .ro, 0⟩
def MG_OBS.SNAP_PAGES_LO_PAGES   : Field := ⟨5, 0x048, 0, 32, .rwLv, 4294967295⟩
def MG_OBS.SNAP_PAGES_HI_PAGES   : Field := ⟨5, 0x04C, 0, 31, .rwLv, 2147483647⟩
def MG_OBS.SNAP_TCLK_LO_TCLK   : Field := ⟨5, 0x050, 0, 32, .ro, 0⟩
def MG_OBS.SNAP_TCLK_HI_TCLK   : Field := ⟨5, 0x054, 0, 32, .ro, 0⟩
def MG_OBS.SNAP_TICK_TICKS   : Field := ⟨5, 0x058, 0, 32, .ro, 0⟩
def MG_OBS.SNAP_TB_TB_SEL   : Field := ⟨5, 0x05C, 0, 2, .rwLv, 0⟩
def MG_OBS.SNAP_TIME_NS_NS   : Field := ⟨5, 0x060, 0, 30, .ro, 0⟩
def MG_OBS.SNAP_TIME_S_S   : Field := ⟨5, 0x064, 0, 32, .ro, 0⟩
def MG_OBS.TRACE_CFG_EN  (i : Nat) : Field := ⟨5, 0x070 + 4 * i, 0, 1, .rwLv, 0⟩
def MG_OBS.TRACE_CFG_K  (i : Nat) : Field := ⟨5, 0x070 + 4 * i, 8, 5, .rwLv, 20⟩
def MG_OBS.TRACE_SEED_SEED   : Field := ⟨5, 0x088, 0, 32, .rwLv, 324478056⟩
def MG_OBS.TRACE_STATUS_HELD   : Field := ⟨5, 0x08C, 0, 9, .ro, 0⟩
def MG_OBS.TRACE_STATUS_IN_FLIGHT   : Field := ⟨5, 0x08C, 16, 6, .ro, 0⟩
def MG_OBS.TRACE_RING_LO_BASE   : Field := ⟨5, 0x090, 7, 25, .rwLk, 0⟩
def MG_OBS.TRACE_RING_HI_BASE   : Field := ⟨5, 0x094, 0, 32, .rwLk, 0⟩
def MG_OBS.TRACE_RING_CFG_LOG2   : Field := ⟨5, 0x098, 0, 5, .rwLk, 10⟩
def MG_OBS.TRACE_RING_CFG_RING_EN   : Field := ⟨5, 0x098, 8, 1, .rwLv, 0⟩
def MG_OBS.TRACE_WR_WR   : Field := ⟨5, 0x09C, 0, 20, .ro, 0⟩
def MG_OBS.TRACE_RD_RD   : Field := ⟨5, 0x0A0, 0, 20, .rwLv, 0⟩
def MG_OBS.PAGE_ROUTE_VEC  (i : Nat) : Field := ⟨5, 0x0C0 + 4 * i, 0, 6, .rwLv, 17⟩
def MG_OBS.PAGE_ROUTE_MSIX_EN  (i : Nat) : Field := ⟨5, 0x0C0 + 4 * i, 8, 1, .rwLv, 1⟩
def MG_OBS.PAGE_ROUTE_INT_EN  (i : Nat) : Field := ⟨5, 0x0C0 + 4 * i, 9, 1, .rwLv, 0⟩
def MG_OBS.EVT_SUMMARY_LO_PAGES   : Field := ⟨5, 0x1C0, 0, 32, .ro, 0⟩
def MG_OBS.EVT_SUMMARY_HI_PAGES   : Field := ⟨5, 0x1C4, 0, 31, .ro, 0⟩
def MG_OBS.NMI_SUMMARY_LO_PAGES   : Field := ⟨5, 0x1C8, 0, 32, .ro, 0⟩
def MG_OBS.NMI_SUMMARY_HI_PAGES   : Field := ⟨5, 0x1CC, 0, 31, .ro, 0⟩

/-- Every field of a `MG_OBS` page that its table names. -/
def MG_OBS.all  : List Field :=
    [MG_OBS.SNAP_CTRL_GO, MG_OBS.SNAP_CTRL_AT_TICK, MG_OBS.SNAP_CTRL_FLOWS, MG_OBS.SNAP_STATUS_BUSY, MG_OBS.SNAP_STATUS_DONE, MG_OBS.SNAP_STATUS_RESULT,
      MG_OBS.SNAP_STATUS_SEQ, MG_OBS.SNAP_PAGES_LO_PAGES, MG_OBS.SNAP_PAGES_HI_PAGES, MG_OBS.SNAP_TCLK_LO_TCLK, MG_OBS.SNAP_TCLK_HI_TCLK,
      MG_OBS.SNAP_TICK_TICKS, MG_OBS.SNAP_TB_TB_SEL, MG_OBS.SNAP_TIME_NS_NS, MG_OBS.SNAP_TIME_S_S, MG_OBS.TRACE_SEED_SEED, MG_OBS.TRACE_STATUS_HELD,
      MG_OBS.TRACE_STATUS_IN_FLIGHT, MG_OBS.TRACE_RING_LO_BASE, MG_OBS.TRACE_RING_HI_BASE, MG_OBS.TRACE_RING_CFG_LOG2, MG_OBS.TRACE_RING_CFG_RING_EN,
      MG_OBS.TRACE_WR_WR, MG_OBS.TRACE_RD_RD, MG_OBS.EVT_SUMMARY_LO_PAGES, MG_OBS.EVT_SUMMARY_HI_PAGES, MG_OBS.NMI_SUMMARY_LO_PAGES,
      MG_OBS.NMI_SUMMARY_HI_PAGES] ++
    ((List.range 6).flatMap fun i => [MG_OBS.TRACE_CFG_EN i, MG_OBS.TRACE_CFG_K i]) ++
    ((List.range 63).flatMap fun i => [MG_OBS.PAGE_ROUTE_VEC i, MG_OBS.PAGE_ROUTE_MSIX_EN i, MG_OBS.PAGE_ROUTE_INT_EN i])

/-- The fields of the block registers of a page, from offset 0x040 (R471). -/
def blockFields (page : Nat) : List Field :=
  match page with
  | 0 => MG_ID.all
  | 1 => MG_CTL.all
  | 2 => MG_MBX.all 0
  | 3 => MG_MBX.all 1
  | 4 => MG_MEM.all
  | 5 => MG_OBS.all
  | 6 => DMA_ENG.all
  | 7 => CK_SYN.all
  | 8 => CK_REF.all
  | 9 => CK_DPLL.all 0
  | 10 => CK_DPLL.all 1
  | 11 => TS_TB.all 0
  | 12 => TS_TB.all 1
  | 13 => TS_TB.all 2
  | 14 => TS_TB.all 3
  | 15 => TS_STAMP.all
  | 16 => PWR_MGR.all
  | 17 => MON_SEQ.all
  | 18 => MON_FILT.all
  | 19 => HB_FRAME.all .E
  | 20 => HB_FRAME.all .W
  | 21 => HB_CHPM.all
  | 22 => HB_FLOW.all
  | 23 => HB_SLOT.all
  | 24 => HB_BUF.all
  | 25 => HB_RING.all
  | 26 => HB_PROT.all
  | 27 => HL_LANE.all
  | 28 => HL_CLIENT.all
  | 29 => CY_KEY.all
  | 30 => CY_PIPE.all
  | 31 => TX.all .E
  | 32 => TXCONV.all .E
  | 33 => RXFE.all .E
  | 34 => RXCONV.all .E
  | 35 => RXEQ.all .E
  | 36 => DEMAP.all .E
  | 37 => SPAN.all .E
  | 38 => FEC.all .E
  | 39 => TX.all .W
  | 40 => TXCONV.all .W
  | 41 => RXFE.all .W
  | 42 => RXCONV.all .W
  | 43 => RXEQ.all .W
  | 44 => DEMAP.all .W
  | 45 => SPAN.all .W
  | 46 => FEC.all .W
  | _ => []

/-- Every field of a page: the common header (R471) and the block registers. -/
def pageFields (page : Nat) : List Field :=
  if page < 47 then HDR.all page ++ blockFields page else []

end F

end Sys2Proof.Machine
end

