-- ==== Sys2Proof/Machine/State.lean ====
section
/-! DEFINITION. The state of the block: every register, table, counter, timer, queue and pin the specification gives it,
as plain data, and its value at reset. Register fields live in ONE register file (`regs`, `act`); what the chapters give
the block beside its registers lives in the structures below, one per chapter. -/

namespace Sys2Proof.Machine

/-- Why the block stops. No command of this block ends in a fault: the specification gives each an effect. -/
inductive Fault where
  /-- Raised by nothing: the specification gives every command an effect (log entry 23). Safe: no run ends in it. -/
  | none
  deriving DecidableEq, Repr

/-- Why a command has no meaning. -/
inductive Refusal where
  /-- The command is not modelled yet; raised by the arm of `exec` that rejects it by name. Safe. -/
  | notModelled (mnemonic : String)
  deriving DecidableEq, Repr

/-! ### Registers, tables, counters (R440 to R449, R465 to R487) -/

/-- A stretch of symbols: their rate and roll-off, the place of the first one in its superframe, 64 times their mean power
per polarisation, and per symbol XI, XQ, YI, YQ on the grid of odd integers, each of which the mapper divides by the square
root of the mean power (R46, R47, R54). -/
structure Segment where
  rateQ : Nat
  rolloff : Nat
  first : Int
  power64 : Nat
  syms : List (List Int)
  deriving DecidableEq, Repr

/-- Where a PMBus transaction goes, and how (R428, R438): the rail's address and PAGE, with PEC, at 400 kHz. -/
structure PmbusTo where
  addr : Nat
  page : Nat
  pec : Bool
  fast : Bool
  deriving DecidableEq, Repr

/-- What an Ethernet client's transmitter sends between packets (R189, R192, R202): nothing, the idle of its PCS, remote fault, or
the pattern of a generator in place of everything. -/
inductive EthStream where
  | off
  | idle
  | remoteFault
  | pattern
  deriving DecidableEq, Repr

/-- What the block puts out at its interfaces, recorded in order. The words are those of the owning rules. -/
inductive Out where
  /-- The response of an SMBus transaction (R470). -/
  | smbus (bytes : List Nat)
  /-- The value a register or table read returns to its requester, or an error response (R469). -/
  | read (r : Requester) (value : Nat) (error : Bool)
  /-- An MSI-X message (R456). -/
  | msix (vector : Nat)
  /-- A posted write into host memory: address and bytes (R386, R462). -/
  | host (addr : Nat) (bytes : List Nat)
  /-- A read request to host memory: address and length (R386). -/
  | hostRead (addr len : Nat)
  /-- A Dvorrov message handed to the framer: port, class, content (R174). -/
  | dvorrov (p : Port) (cls : Nat) (body : List Nat)
  /-- A frame sent on a line: port, frame counter, overhead bytes (R161). -/
  | frame (p : Port) (fc : Nat) (overhead : List Nat)
  /-- A packet sent toward a client (R194, R207): the client, the least gap before it in bytes, its bytes, of an Ethernet
  client with preamble and SFD, and whether it is marked in error. -/
  | packet (client gap : Nat) (bytes : List Nat) (error : Bool)
  /-- The PAM4 levels sent on a host lane (R187, R195, R202). -/
  | lane (n : Nat) (levels : List Nat)
  /-- The stream that an Ethernet client's transmitter sends from now on (R189, R192, R202). -/
  | ethernet (client : Nat) (stream : EthStream)
  /-- A PFC frame: client, class mask, quanta (R222). -/
  | pfc (client cls quanta : Nat)
  /-- A PTP message sent (R346, R352): time base, kind, device port (24 and 25 the line ports), destination address on an Ethernet
  port (0 for 01-1B-19-00-00-00, 1 for 01-80-C2-00-00-0E), domain, the time it carries in units of 2^−16 ns, and the content of an
  Announce or what a Delay_Resp takes over from its request. -/
  | ptp (tb : Nat) (kind : PtpKind) (port dest domain : Nat) (time : Int) (content : List Nat)
  /-- A pulse on PPS_OUT: the second it marks and its width in µs (R353). -/
  | pps (sec width : Nat)
  /-- A message on TOD_OUT (R355). -/
  | tod (bytes : List Nat)
  /-- A unit of a channel released to the drop side: channel, unit number, squelched (R247, R293). -/
  | unit (ch num : Nat) (squelched : Bool)
  /-- The symbols of a superframe sent on a line (R54, R128 to R141). -/
  | symbols (p : Port) (segs : List Segment)
  /-- The 8-bit codes that one converter puts out over a superframe (R47, R53). -/
  | samples (p : Port) (conv : Nat) (codes : List Nat)
  /-- A verdict report sent to a client (R290). -/
  | verdict (client : Nat) (bytes : List Nat)
  /-- A PMBus write: rail, command, value (R428, R430). -/
  | pmbus (rail : PmbusTo) (cmd value : Nat)
  /-- A PMBus read: rail, command (R428). -/
  | pmbusRead (rail : PmbusTo) (cmd : Nat)
  deriving DecidableEq, Repr

/-- An accepted eclosion request (R481): the page it came from, its groups, its boundary, and the superframe it names. -/
structure EclReq where
  groups : Nat
  boundary : Nat
  at_ : Nat
  late : Bool
  /-- A later request of the page has been accepted since. -/
  older : Bool
  deriving DecidableEq, Repr

/-- One spared block (R17, R20): places whose unit is not their reset unit, quarantined units, spares taken out of the
rotation for a self-test (R24), and units whose second fault awaits its next check (R23). -/
structure Spared where
  map : Tab Nat
  quarantine : List Nat
  testing : List Nat
  unclassified : List Nat
  /-- Spares that have passed their self-test since they entered chrysalis (R52, R104, R151). -/
  passed : List Nat
  deriving DecidableEq, Repr

/-- A spared block as built: every place held by its reset unit, nothing quarantined. -/
def Spared.init : Spared := ⟨[], [], [], [], []⟩

/-- A window of R23: open or not, and the cycle of the check that opened it. -/
structure FaultWindow where
  opened : Bool
  at_ : Nat
  deriving DecidableEq, Repr

/-- No window open. -/
def FaultWindow.none : FaultWindow := ⟨false, 0⟩

/-! ### Line regions (R38 to R127) -/

/-- A line mode: TXMOD or RXMOD values (R60, R91). -/
structure Mode where
  base : Nat
  shaped : Bool
  entropy : Nat
  rateCode : Nat
  rateQ : Nat
  rolloff : Nat
  deriving DecidableEq, Repr

/-- What a transmitter sends (R59). -/
inductive TxContent where
  | dark
  | preamble
  | payload
  deriving DecidableEq, Repr

/-- What a transmit converter is set to (R48, R63): skew in 1/256 sample, amplitude, the 32 pre-emphasis gains in 0.1 dB. -/
structure ConvSet where
  skew : Int
  amplitude : Nat
  gains : List Nat
  deriving DecidableEq, Repr

/-- What a frame is sent with (R47 to R60): the line mode, the attenuation that the converters supply in 0.01 dB, and per
converter its settings and the positions at mid-scale. -/
structure TxFrame where
  mode : Mode
  atten : Nat
  sets : List ConvSet
  flagged : List (List Nat)
  deriving DecidableEq, Repr

/-- A frame of which nothing is recorded: 64QAM at the reset rate and roll-off, no output. -/
def TxFrame.init : TxFrame := ⟨⟨2, true, 346, 2, 1088, 10⟩, 0, [], []⟩

/-- One port's transmitter beside the registers of its transmit pages. -/
structure TxState where
  /-- The attenuation A in units of 1/(1,000 × `rampMs`) dB (R57). -/
  atten : Nat
  /-- `RAMP_MS` as sampled when the last ramp started (R57). -/
  rampMs : Nat
  /-- The converter outputs are zeroed (R59). -/
  zeroed : Bool
  /-- The preamble is sent repeatedly (R59). -/
  repeating : Bool
  /-- The end marker is scheduled at a coming superframe boundary (R59). -/
  endMarker : Bool
  /-- A forced preamble waits for the next superframe with room (R56). -/
  forced : Bool
  /-- Superframes since the last requested preamble (R56). -/
  preCount : Nat
  /-- The chrysalis of the spare cluster was abandoned for a redo and restarts (R52). -/
  abandoned : Bool
  /-- Shaping blocks and codewords to release at zero amplitude, and places of the coming seam's parity region that carry a
  bit of such a codeword (R51, R130). -/
  zeroBlocks : List Nat
  zeroCws : List Nat
  zeroSeam : List Nat
  /-- The number of the first codeword of the superframe in progress; the last redo: coding or shaping station, and the
  number of the codeword or block (R49, R50). -/
  cwBase : Nat
  redo : Option (Bool × Nat)
  /-- What the transmitter sends in the superframe in progress: from a frame of it on, nothing, the preamble or payload
  (R59). -/
  sent : List (Nat × TxContent)
  /-- Symbols of the repeating preamble already sent at the start of the superframe (R54). -/
  prePhase : Nat
  /-- The frames of the superframe so far, by their place in it (R57, R60). -/
  frames : Tab TxFrame
  /-- The symbols of the last 512 sample periods of the superframe before, which the first shaping block retains (R47). -/
  tail : List Segment
  /-- The frame of the superframe in progress from which on the state has been ALIGN (R59). -/
  alignAt : Nat
  deriving DecidableEq, Repr

/-- Reset value of a transmitter: dark, 40 dB, ramp time 10 ms. -/
def TxState.init : TxState := ⟨400000, 10, true, false, false, false, 15, false, [], [], [], 0, none, [(0, .dark)], 0, [], [], 0⟩

/-- One converter, receive or transmit: its sub-converters and fronts (R65 to R73). -/
structure ConvState where
  /-- The unit that serves each position, where not the unit of the same number (R66). -/
  map : Tab Nat
  /-- The idle queue, head first (R66). -/
  idle : List Nat
  /-- The unit in chrysalis classifies a failed check (R68, R71). -/
  classing : Bool
  /-- Positions whose samples carry the erasure flag (receive) or that are driven at mid-scale (transmit) until a
  takeover (R68, R53). -/
  flagged : List Nat
  /-- Positions whose failed check was a second fault, classified at their next check window (R69). -/
  deferred : List Nat
  /-- The eclosion comparison in progress: incoming unit and position (R71). -/
  compare : Option (Nat × Nat)
  /-- Accepted trims: offset and gain by unit, skew by sampling switch (R67). -/
  offset : Tab Int
  gain : Tab Int
  skew : Tab Int
  /-- Trims the unit in chrysalis held before its chrysalis began (R68). -/
  oldOffset : Int
  oldGain : Int
  /-- The calibration store of the converter: trims and position map (R76). -/
  storeMap : Tab Nat
  storeOffset : Tab Int
  storeGain : Tab Int
  storeSkew : Tab Int
  /-- Steps left of the rotation phase of a run (R72). -/
  passLeft : Nat
  /-- Fronts that failed and await their self-test, each marked where its loss has been counted as EXHAUSTED; quarantined
  fronts; the positions that return to a front that passed (R70). -/
  fronts : List (Nat × Bool)
  lostFronts : List Nat
  returning : List Nat
  /-- Switches whose last skew estimate was implausible (R73). -/
  skewBad : List Nat
  /-- The next position of the rotation (R71). -/
  nextPos : Nat
  /-- Units whose failed check awaits its classifying self-test beside the unit that `CHRYS_SUB` names (R68). -/
  suspects : List Nat
  /-- Of a transmit converter: the positions that were flagged since the last frame began (R53). -/
  drove : List Nat
  deriving DecidableEq, Repr

/-- Reset value of a converter: unit 256 in chrysalis, units 257 to 263 idle (R66, log entry 30). -/
def ConvState.init : ConvState :=
  ⟨[], [257, 258, 259, 260, 261, 262, 263], false, [], [], none, [], [], [], 0, 0, [], [], [], [], 0, [], [], [], [], 0, [], []⟩

/-- A calibration run of a port (R72, R74). -/
structure CalRun where
  rotating : Bool
  skewing : Bool
  suspended : Bool
  /-- Switches of the receive converters whose skew estimate has been accepted in this run, as 40 × converter + switch
  (R72). -/
  skewDone : List Nat
  /-- A run was stopped by `CAL_HOLD` and its trims are still to be stored (R74, R76). -/
  stopping : Bool
  /-- No run has begun since power-on reset; the run in progress is the first one, whose limits are four times the programmed
  ones (R73; log entry 87). -/
  unrun : Bool
  first : Bool
  /-- The last run held an implausible result (R373). -/
  implausible : Bool
  /-- Milliseconds since the last completed run (R373). -/
  sinceMs : Nat
  deriving DecidableEq, Repr

def CalRun.init : CalRun := ⟨false, false, false, [], false, true, false, false, 0⟩

/-- The impulse responses of the 2×2 equaliser (R105), X and Y out of X and Y: complex taps in 2^−30 by their number 0 to
1,023; tap m delays by m − 512 samples, and one that is not listed is 0. -/
structure Mimo where
  xx : Tab (Int × Int)
  xy : Tab (Int × Int)
  yx : Tab (Int × Int)
  yy : Tab (Int × Int)
  deriving DecidableEq, Repr

/-- The identity (R112, R117). -/
def Mimo.identity : Mimo := ⟨[(512, (2 ^ 30, 0))], [], [], [(512, (2 ^ 30, 0))]⟩

/-- What the front end keeps of the hops before, XI, XQ, YI, YQ in 1/65,536 of the amplitude of unit power (R79, R80, R84): the
newest 64 samples ahead of the skew delay, the newest 64 ahead of the decimation, the last hop, the phase of the frequency
shift in 2^−32 turns, and the samples still to come before the shift starts. -/
structure FrontTail where
  pre : List (List Int)
  mid : List (List Int)
  last : List (List Int)
  phase : Nat
  shiftIn : Nat
  deriving DecidableEq, Repr

def FrontTail.none : FrontTail := ⟨[], [], [], 0, 0⟩

/-- The running estimates of stage F3 (R79): the sums over the hops of the average in progress, and the hops summed. -/
structure FrontSums where
  mean : List Int
  power : List Int
  rho : List Int
  hops : Nat
  deriving DecidableEq, Repr

def FrontSums.none : FrontSums := ⟨[0, 0, 0, 0], [0, 0, 0, 0], [0, 0], 0⟩

/-- The sums of the telemetry set in progress (R120, R122): decision-error and symbol energy of X and Y, the sum over the
label bits of the GMI in 2^−64, corrected codewords, label bits compared and those that disagree; hops handed off with the
residual dispersion in 1/256 ps/nm, DGD in 0.01 ps, PDL in 0.01 dB and SOP rate in krad/s that their coefficients show, and
the largest SOP rate. -/
structure TelSums where
  errX : Nat
  errY : Nat
  powX : Nat
  powY : Nat
  gmi : Nat
  words : Nat
  bits : Nat
  wrong : Nat
  hops : Nat
  residual : Int
  dgd : Nat
  pdl : Nat
  sop : Nat
  sopMax : Nat
  deriving DecidableEq, Repr

def TelSums.none : TelSums := ⟨0, 0, 0, 0, 0, 0, 0, 0, 0, 0, 0, 0, 0, 0⟩

/-- The LLR of a label bit (R114): before scaling and clamping, as leaves the demapper, and whether it is that of a known
sign (R115). -/
structure Llr where
  raw : Rat
  out : Int
  known : Bool
  deriving DecidableEq, Repr

/-- A hop between hand-off and release (R97, R99). -/
structure Hop where
  num : Nat
  cluster : Nat
  /-- It started 256 CCLK late (R100). -/
  late : Bool
  /-- It is released as erasures (R102, R103). -/
  erased : Bool
  /-- The spare redoes one of its stages (R99), or this acting spare does (R101). -/
  redo : Bool
  acted : Option Nat
  /-- The erased samples of its block (R113). -/
  erasedSamples : Nat
  /-- Its block: the hop before and its own samples as they enter stage E1 (R80). -/
  block : List (List Int)
  /-- The mode, carrier frequency in GHz and D̂ in 10 ps/nm that it is worked on with (R81). -/
  mode : Mode
  carrier : Nat
  dHat : Int
  /-- Its first symbol, counted since the timing loop started, how many it has, and the hop the count started at (R96, R108). -/
  first : Nat
  count : Nat
  base : Nat
  /-- The stages it has come to: 0 handed off, 1 in E2, 2 timing error measured, 3 in E4, 4 its update is made or dropped. -/
  stage : Nat
  /-- From its E2 on, the coefficients it uses (R105). -/
  mimo : Mimo
  /-- From its E4 on, the timing phase in 1/65,536 symbol period and rate in 1/65,536 of 0.01 ppm, and the phase that Δf
  takes off per symbol in 2^−32 turns (R108, R109). -/
  theta : Int
  rate : Int
  step : Int
  deriving DecidableEq, Repr

/-- One port's receive region beside the registers of its receive pages. -/
structure RxState where
  /-- Consecutive 1.000 µs intervals below and at or above the signal threshold (R85). -/
  lowRun : Nat
  highRun : Nat
  /-- Microseconds spent acquiring since the last ACQUIRED or the enable (R93, ACQ_TIME). -/
  acqUs : Nat
  /-- The running estimates of R79 in force, means in 1/65,536 LSB and mean squares in 1/65,536 of its square, and the average in
  progress. -/
  estMean : List Int
  estPower : List Int
  sums : FrontSums
  /-- Erased samples of the last hop, the overlap of the next block (R80, R113). -/
  lastErased : Nat
  /-- The frozen coarse offset is applied (R84). -/
  fHatOn : Bool
  /-- A preamble estimate of F̂ is being formed (R88). -/
  fHatEst : Bool
  /-- The best metric of the last scan (R85), and whether a scan has ended since the region was enabled. -/
  scanMetric : Nat
  scanned : Bool
  /-- The carrier metric reached its threshold in the tick in progress (R86). -/
  metricHigh : Bool
  /-- Seconds' fraction for `AGE`, in ms (R86). -/
  noiseMs : Nat
  /-- The port has spent time outside ACQUIRED in the second in progress (R90). -/
  acqDefect : Bool
  /-- The demapper releases zero LLRs (R112, R117). -/
  zeroLlr : Bool
  /-- The front end's samples of the hops before (R79, R80, R84). -/
  front : FrontTail
  /-- The coefficient memory: the bank in use, the standby bank, whether an update waits there; adaptation held (R105, R117). -/
  mimo : Mimo
  mimoNext : Mimo
  mimoStandby : Bool
  mimoFrozen : Bool
  /-- The timing loop runs; its rate is held (R117). -/
  timingOn : Bool
  timingHeld : Bool
  /-- The timing phase in 1/65,536 symbol period of the hop whose error is measured next, and the rate in 1/65,536 of 0.01 ppm
  (R108); that hop, the hop that the count of symbols started at, and the next symbol of the count. -/
  trPhase : Int
  trRate : Int
  trHop : Nat
  trBase : Nat
  nextSym : Nat
  /-- Δf in 1/65,536 of 0.1 MHz (R110), and the phase that removes it, in 2^−32 turns, at the next symbol (R109). -/
  deltaF : Int
  nco : Nat
  /-- The unwrapped phase of X and Y at the last symbol, in 1/256 turn (R109). -/
  phaseX : Int
  phaseY : Int
  /-- The equaliser outputs of the preamble's last 8,192 symbols: XI, XQ, YI, YQ in 1/256 of the grid (R112). -/
  retained : List (List Int)
  /-- Since the end marker: the equaliser's samples, from the oldest hop in flight on, that still come before the superframe
  boundary (R112). -/
  marker : Option Nat
  /-- Decision-error energy of X and Y of the hop before, over its symbol energy: σ² as numerator and denominator
  (R114). -/
  varX : Nat × Nat
  varY : Nat × Nat
  /-- The symbol of the symbol superframe that comes next (R142). -/
  symPos : Nat
  /-- The configuration of an RXMOD eclosion that the demapper has reached at its superframe boundary, while the deframer has
  not reached it yet (R117, R258). -/
  newMode : Option Mode
  /-- Symbols still to pass over before the data block that comes next (R128, R142). -/
  skip : Nat
  /-- LLRs of the symbol periods received since the start of the data block in dispatch, oldest first (R143). -/
  labels : List (List Llr)
  /-- Lanes whose symbols of the next hop have zero LLRs (R116). -/
  zeroOnce : List Nat
  tel : TelSums
  /-- Runs of consecutive hops for the judgements of R108, R110, R111, R112. -/
  lockRun : Nat
  unlockRun : Nat
  freqRun : Nat
  convRun : Nat
  divergeRun : Nat
  /-- Consecutive uncorrectable codewords reported by the decoder pool (R111). -/
  slipRun : Nat
  /-- Hops handed off and not yet released, oldest first (R97). -/
  hops : List Hop
  /-- The number of the next hop (R97). -/
  nextHop : Nat
  /-- Lanes that run 256 CCLK late (R100), and lanes whose next hop starts late. -/
  lateLanes : List Nat
  lateNext : List Nat
  /-- Clusters classified TRANSIENT in stage 4 that become the spare when the hop of this number is released: hop,
  cluster (R100). -/
  leaving : List (Nat × Nat)
  /-- A rotation fell due while the spare carried a hop (R104). -/
  rotateDue : Bool
  /-- The next lane of the rotation (R104). -/
  nextLane : Nat
  /-- The hops at whose start the spare takes the lane after a stage 4 TRANSIENT (R100). -/
  exchange : List Nat
  /-- Acting spares: clusters classified TRANSIENT before their lane's next hop (R101). -/
  acting : List Nat
  /-- The largest erased-sample count of a hop since the last tick (R113, ERASE_FRAC). -/
  eraseMax : Nat
  deriving DecidableEq, Repr

def RxState.init : RxState where
  lowRun := 0
  highRun := 0
  acqUs := 0
  estMean := [0, 0, 0, 0]
  estPower := [0, 0, 0, 0]
  sums := FrontSums.none
  lastErased := 0
  fHatOn := false
  fHatEst := false
  scanMetric := 0
  scanned := false
  metricHigh := false
  noiseMs := 0
  acqDefect := false
  zeroLlr := true
  front := FrontTail.none
  mimo := Mimo.identity
  mimoNext := Mimo.identity
  mimoStandby := false
  mimoFrozen := false
  timingOn := false
  timingHeld := false
  trPhase := 0
  trRate := 0
  trHop := 0
  trBase := 0
  nextSym := 0
  deltaF := 0
  nco := 0
  phaseX := 0
  phaseY := 0
  retained := []
  marker := none
  varX := (0, 1)
  varY := (0, 1)
  symPos := 0
  newMode := none
  skip := 0
  labels := []
  zeroOnce := []
  tel := TelSums.none
  lockRun := 0
  unlockRun := 0
  freqRun := 0
  convRun := 0
  divergeRun := 0
  slipRun := 0
  hops := []
  nextHop := 0
  lateLanes := []
  lateNext := []
  leaving := []
  rotateDue := false
  nextLane := 0
  exchange := []
  acting := []
  eraseMax := 0

/-! ### The decoder pools (R142 to R157) -/

/-- How far a codeword in the store has come (R144, R147 to R150). -/
inductive CwStatus where
  /-- No decoder was free; it waits for one (R150). -/
  | waiting
  | decoding
  | converged
  | uncorrectable
  /-- It leaves with the hard decisions of its input LLRs (R148, R149). -/
  | undecoded
  deriving DecidableEq, Repr

/-- A codeword in the store (R152). -/
structure Codeword where
  num : Nat
  slot : Nat
  decoder : Nat
  /-- The effective ceiling at its dispatch (R145). -/
  ceiling : Nat
  status : CwStatus
  iters : Nat
  corrected : Nat
  redo : Bool
  /-- A double fault struck it (R149). -/
  double : Bool
  /-- It belongs to the last 33 data blocks of its superframe (R154). -/
  tail : Bool
  /-- It carries the eyespot of its source (R457). -/
  traced : Bool
  /-- Its input LLRs, in the order of its sent bits, and its decoded bits; the data block it belongs to and its index
  there (R152). -/
  llrs : List Llr
  decoded : List Bool
  block : Nat
  index : Nat
  mode : Mode
  deriving DecidableEq, Repr

/-- A bit that stage D6 hands on: its BCH block is uncorrectable (R154); it is the first of a line superframe (R135). -/
structure LineBit where
  bit : Bool
  bad : Bool
  first : Bool
  deriving DecidableEq, Repr

/-- One port's decoder pool beside the registers of its page. -/
structure FecState where
  /-- The number of the next codeword in decode order (R146). -/
  nextCw : Nat
  /-- The data block and the codeword of it that come next, and the configuration of their superframe (R142). -/
  block : Nat
  index : Nat
  mode : Mode
  /-- Decoders that were replaced in their slot and still hold a codeword (R151). -/
  leavingDec : List Nat
  /-- The decoded codewords of the data block in release (R143, stage D5). -/
  gather : List (List Bool)
  /-- Data bits that await the BCH decoder, descrambled, each marked where it is not valid (R153); the data bits of the
  superframe that stage D5 is in so far, its PRBS31 generator (R135) and its configuration. -/
  data : List (Bool × Bool)
  dataPos : Nat
  scr : Nat
  dataMode : Mode
  /-- The next BCH block of the superframe that stage D6 is in, and its configuration (R135). -/
  bchNo : Nat
  lineMode : Mode
  /-- The stream of stage D6 with the superframe tails removed, which the deframer takes (R176). -/
  line : List LineBit
  /-- The unit of the inverse matcher or BCH decoder lost its work: its next block is marked uncorrectable (R153). -/
  matcherBad : Bool
  bchBad : Bool
  /-- The codeword store, in codeword order (R152). -/
  store : List Codeword
  /-- Decoders that repeat a codeword to classify a fault (R147). -/
  repeating : List Nat
  /-- The slot the next rotation goes to, and the spare that waits for that slot's next dispatch (R151). -/
  nextSlot : Nat
  rotateDue : Bool
  /-- The counts of the tick in progress (R155). -/
  tickCw : Nat
  tickUncorr : Nat
  tickLdpc : Nat
  tickBch : Nat
  tickBchUncorr : Nat
  tickHist : Tab Nat
  deriving DecidableEq, Repr

def FecState.init : FecState where
  nextCw := 0
  block := 1
  index := 0
  mode := ⟨2, true, 346, 2, 1088, 10⟩
  leavingDec := []
  gather := []
  data := []
  dataPos := 0
  scr := 2147483647
  dataMode := ⟨2, true, 346, 2, 1088, 10⟩
  bchNo := 0
  lineMode := ⟨2, true, 346, 2, 1088, 10⟩
  line := []
  matcherBad := false
  bchBad := false
  store := []
  repeating := []
  nextSlot := 0
  rotateDue := false
  tickCw := 0
  tickUncorr := 0
  tickLdpc := 0
  tickBch := 0
  tickBchUncorr := 0
  tickHist := []

/-! ### The framers and deframers (R158 to R186) -/

/-- A count of a run of good frames that agree with one value. -/
structure Run where
  value : Nat
  len : Nat
  deriving DecidableEq, Repr

def Run.init : Run := ⟨0, 0⟩

/-- A class of the Dvorrov channel on one port (R174, R175). -/
structure DvClass where
  /-- Messages that wait, each with its CRC, oldest first; what is left of the first one, and whether it has started. -/
  queue : List (List Nat)
  started : Bool
  /-- The next SEQ sent. -/
  seqTx : Nat
  /-- The partial message received, if any, and the last SEQ received, if any. -/
  part : Option (List Nat)
  seqRx : Option Nat
  deriving DecidableEq, Repr

def DvClass.init : DvClass := ⟨[], false, 0, none, none⟩

/-- A tag position of a received superframe (R170): its line channel, and by the banks in force during the superframe before it the
channel it was dropped to and the transit line channels of the other port that took its slots. -/
structure TagPos where
  lch : Nat
  drop : Option Nat
  outs : List Nat
  deriving DecidableEq, Repr

/-- One port's framer and deframer beside the registers of its page. -/
structure FrameState where
  /-- The transmit frame counter FC, and whether a frame has started since the reset (R162). -/
  fcTx : Nat
  started : Bool
  /-- The next frame start follows an RCLK failure (R162). -/
  restart : Bool
  /-- Frames still to send with an inverted bit (R184). -/
  injFaw : Nat
  injFcs : Nat
  /-- Errored blocks counted since the previous frame was sent (R172). -/
  reiCount : Nat
  /-- FC at the accepted swap request, and the superframe of the last transmit swap (R168, R218). -/
  swapReq : Nat
  swapSf : Option Nat
  /-- The frames of the symbol superframe in progress, and the parity the last one left to the seam (R130, R135). -/
  sfBits : List Bool
  seam : Option (List Bool)
  /-- A preamble takes the end of the superframe in progress (R55). -/
  preamble : Bool
  /-- The validated frame counter FC_RX; its load on entry to SYNC is due (R173). -/
  fcRx : Nat
  loadFc : Bool
  /-- The FC of the last good frame that differed from FC_RX (R173). -/
  fcOther : Option Nat
  /-- The hunt: absolute bit position, the candidates (R176); L_F of the frames expected in SYNC. -/
  huntPos : Nat
  lenRx : Nat
  cands : List Nat
  /-- Good frames of the received superframe with SWAP_ANN (R168), and the run of frames whose BANK disagrees. -/
  annCount : Nat
  bankRun : Nat
  /-- Runs of good frames for SMC and ACQ_REQ (R169, R171). -/
  smcRun : Run
  acqRun : Run
  /-- The Dvorrov classes 1 to 3. -/
  dv : Tab DvClass
  /-- The second half of the tag, path word and key word sent in frame 2q + 1 (R170, R240, R274). -/
  lowTag : Nat
  lowWord : Nat
  lowKey : Nat
  /-- The first half of the tag, path word and key word being received, with its position. -/
  itagHi : Option (Nat × Nat)
  protHi : Option (Nat × Nat)
  keyHi : Option (Nat × Nat)
  /-- The tag positions of the superframe in progress, sent and received: those of the banks in force during the superframe
  before it (R170). -/
  posTx : List Nat
  posRx : List TagPos
  deriving DecidableEq, Repr

def FrameState.init : FrameState where
  fcTx := 0
  started := false
  restart := false
  injFaw := 0
  injFcs := 0
  reiCount := 0
  swapReq := 0
  swapSf := none
  sfBits := []
  seam := none
  preamble := false
  fcRx := 0
  loadFc := false
  fcOther := none
  huntPos := 0
  lenRx := 0
  cands := []
  annCount := 0
  bankRun := 0
  smcRun := Run.init
  acqRun := Run.init
  dv := []
  lowTag := 0
  lowWord := 0
  lowKey := 0
  itagHi := none
  protHi := none
  keyHi := none
  posTx := []
  posRx := []

/-! ### Performance monitoring (R179 to R183) -/

/-- A second of the pipeline: what it held and how it was marked (R181). -/
structure PipeSecond where
  sec : Nat
  eb : Nat
  ses : Bool
  unavail : Bool
  suspect : Bool
  deriving DecidableEq, Repr

/-- The availability state of a port, channel or far end (R181). -/
structure Avail where
  pipe : List PipeSecond
  unavail : Bool
  /-- The length of the current run of SES (available) or of non-SES (unavailable). -/
  run : Nat
  /-- The committed state. -/
  committed : Bool
  deriving DecidableEq, Repr

def Avail.init : Avail := ⟨[], false, 0, false⟩

/-- A bin: counts 0 EB, 1 BBE, 2 ES, 3 SES, 4 UAS, 5 FEB, 6 FES, 7 FSES, 8 FUAS (R182). -/
structure Bin where
  counts : Tab Nat
  start : Nat
  seconds : Nat
  suspect : Bool
  /-- The counters that have raised their alert in this bin (R183). -/
  alerted : List Nat
  deriving DecidableEq, Repr

def Bin.init : Bin := ⟨[], 0, 0, false, []⟩

/-- A bin kind of an entity: the current bin and its history, newest first (R182). -/
structure Bins where
  cur : Bin
  hist : List Bin
  deriving DecidableEq, Repr

def Bins.init : Bins := ⟨Bin.init, []⟩

/-- A monitored entity: ports 0 and 1, channel ch as 2 + ch (R180 to R183). -/
structure PmEntity where
  /-- The second in progress. -/
  eb : Nat
  defect : Bool
  /-- The far end's second in progress (ports). -/
  feb : Nat
  fdefect : Bool
  /-- SLOT_MAP_MISMATCH was present in the second in progress (ports). -/
  smm : Bool
  near : Avail
  far : Avail
  quarter : Bins
  day : Bins
  deriving DecidableEq, Repr

def PmEntity.init : PmEntity := ⟨0, false, 0, false, false, Avail.init, Avail.init, Bins.init, Bins.init⟩

/-- How a port marks its seconds (R180): the number of the second in progress, the management ticks since its start, whether
its time base has become locked within it, and the TCLK count at its start. -/
structure PmClock where
  sec : Nat
  ticks : Nat
  join : Bool
  at_ : Nat
  /-- The last second was a defect second of the port; SLOT_MAP_MISMATCH was present in it (R180). -/
  lastDefect : Bool
  lastSmm : Bool
  deriving DecidableEq, Repr

def PmClock.init : PmClock := ⟨0, 0, false, 0, false, false⟩

/-! ### Host lanes, flows and channels (R187 to R231) -/

/-- A packet of a flow: flow index, DROP_TAG, its bytes from the destination address to the FCS, whether it ends with an
error block (R193, R211). -/
structure Packet where
  flow : Nat
  tag : Nat
  bytes : List Nat
  error : Bool
  /-- Cells of the shared pool that it holds, and of headroom (an add packet) or of the drop reserve (a drop packet)
  (R222 to R224). -/
  shared : Nat
  head : Nat
  client : Nat
  tclass : Nat
  /-- The entry into FRAME_LOCK after which an Ianen packet came (R200). -/
  era : Nat
  deriving DecidableEq, Repr

/-- A 66-bit block before scrambling: control or data, and its eight octets (R211). -/
structure Block66 where
  ctrl : Bool
  octets : List Nat
  deriving DecidableEq, Repr

/-- A pattern generator and checker (R201 to R203): the state of the generator; of the checker the bits last received, the
run of correct bits, bits and errors of its window of 1,024, and bits toward the next count of 65,536. -/
structure ChTest where
  gen : Nat
  hist : Nat
  run : Nat
  bits : Nat
  errs : Nat
  counted : Nat
  deriving DecidableEq, Repr

def ChTest.init : ChTest := ⟨0x7FFFFFFF, 0, 0, 0, 0, 0⟩

/-- One host lane beside the registers of its block. -/
structure LaneState where
  /-- Words still to send with an inverted bit (R201). -/
  inject : Nat
  /-- The generator and the checker of the lane, and the bit of its 64-bit word that the generator sends next (R201,
  R202). -/
  test : ChTest
  genAt : Nat
  /-- The Ianen receiver (R198): 0 BLOCK_HUNT, 1 FRAME_HUNT, 2 FRAME_CONFIRM, 3 FRAME_LOCK; the candidate block k, the
  FSEQ recorded, and the run of uncorrectable codewords. -/
  align : Nat
  cand : Nat
  fseq : Nat
  uncorr : Nat
  /-- Sync headers (R198): the run of valid ones, the blocks and the invalid ones of the window of 256. -/
  validRun : Nat
  window : Nat
  invalid : Nat
  /-- Bits received that make no whole block yet, blocks to pass over before the candidate, the blocks of the lane frame in
  progress, the descrambler (R195, R198). -/
  rxBits : List Bool
  skip : Nat
  rxBlocks : List (List Bool)
  descr : Nat
  /-- The packet being received, with whether it holds an error, and the packets received that the hub has not yet taken in, each
  with the entry into FRAME_LOCK after which it came (R193, R198, R200). -/
  packet : Option (List Nat × Bool)
  due : List (List Nat × Bool × Nat)
  /-- The Ianen transmitter: what is left of the packet in progress, a block that ends a packet of an enabled class with that class
  and its cells; the scrambler, the number of the next lane frame, the class whose credit update is next in turn (R195, R197,
  R200). -/
  txq : List (Block66 × Option (Nat × Nat))
  scr : Nat
  fseqTx : Nat
  crNext : Nat
  /-- Credits of R200: CR_COUNT received by class, coded 65,536 + count where known; cells sent by class; cells freed by
  class since the last entry into FRAME_LOCK; the number of that entry. -/
  granted : Tab Nat
  sent : Tab Nat
  credit : Tab Nat
  era : Nat
  /-- A peaking sweep is in progress (R188). -/
  sweeping : Bool
  deriving DecidableEq, Repr

def LaneState.init : LaneState where
  inject := 0
  test := ChTest.init
  genAt := 0
  align := 0
  cand := 0
  fseq := 0
  uncorr := 0
  validRun := 0
  window := 0
  invalid := 0
  rxBits := []
  skip := 0
  rxBlocks := []
  descr := 0
  packet := none
  due := []
  txq := []
  scr := 0
  fseqTx := 0
  crNext := 0
  granted := []
  sent := []
  credit := []
  era := 0
  sweeping := false

/-- One client beside the registers of its block: cells held by class in the shared pool and in headroom, and the
packets that the far Ianen end must grant (R200, R222). -/
structure ClientState where
  shared : Tab Nat
  head : Tab Nat
  /-- Packets of drop traffic queued for delivery by class (R207, R224). -/
  egress : List Packet
  /-- Classes whose first queued packet has been counted as held for want of credit (R200, R231). -/
  stalled : List Nat
  deriving DecidableEq, Repr

def ClientState.init : ClientState := ⟨[], [], [], []⟩

/-- The add side of a channel (R210 to R212). -/
structure AddChan where
  /-- Queues by traffic class. -/
  queues : Tab (List Packet)
  /-- Bits of blocks made and not yet sent, and the scrambler state. -/
  bits : List Bool
  scr : Nat
  /-- The frame counter of the units made last, and the units by slot ordinal, as sent. -/
  unitFc : Option Nat
  units : List (List Nat)
  /-- The GHASH of the source superframe in progress: value, units, bytes, and whether its tag is sent inverted (R288,
  R280). -/
  ghash : Nat
  gUnits : Nat
  gBytes : Nat
  invert : Bool
  /-- What its key gives the tag, H and AES_KI(J), taken with the first unit that had a key; without one the tag is open (R280,
  R288; log entry 100). -/
  tagKey : Option (Nat × Nat)
  /-- The tag of the last source superframe (R170). -/
  tag : Option Nat
  deriving DecidableEq, Repr

def AddChan.init : AddChan := ⟨[], [], 0, none, [], 0, 0, 0, false, none, none⟩

/-- A receive line channel: its origin (R243), and the byte columns it has received and not passed on. A byte carries 256
in addition when the selector must not take it (R245), and 512 when transit writes 0x00 in its place (R237). -/
structure LineChan where
  /-- The linear position SFC × 3,125 + OFS of the next byte on the lowest slot, once words gave it. -/
  pos : Nat
  known : Bool
  /-- The last word's SFC[39:0], NIB values by HALF. -/
  nib0 : Option Nat
  nib1 : Option Nat
  matchRun : Nat
  missRun : Nat
  locked : Bool
  valid : Bool
  tagd : Nat
  /-- The key word last received from good frames (R276). -/
  key : Nat
  /-- The position of the reference byte of the current pair of frames (R240), and the source superframe that the last path word
  named. -/
  refPos : Nat
  ss : Nat
  /-- Bytes by slot ordinal, not yet made into units. -/
  cols : List (List Nat)
  deriving DecidableEq, Repr

def LineChan.init : LineChan := ⟨0, false, none, none, 0, 0, false, false, 0, 0, 0, 0, []⟩

/-- A transit line channel (R235 to R242): the bytes its elastic buffer holds, by slot ordinal; the entries they came under (its
slots, the receive slots and the receive LCH they name); whether it gives bytes; what it held as it started; the fill F measured at
the start of the last outgoing frame; and the last tag received and not yet sent, with its source superframe. -/
structure TransitChan where
  cols : List (List Nat)
  entries : List Nat
  running : Bool
  base : Nat
  level : Int
  tag : Option (Nat × Nat)
  deriving DecidableEq, Repr

def TransitChan.init : TransitChan := ⟨[], [], false, 0, 0, none⟩

/-- A source unit of a channel as taken from the line: its SFC and its parts by slot ordinal, bytes marked as in
`LineChan`. -/
structure SourceUnit where
  sfc : Nat
  parts : List (List Nat)
  deriving DecidableEq, Repr

/-- A verdict report to a client (R290): the verdict code, the source superframe with its epoch, the packets of it delivered to the
client, the consecutive FAIL count. -/
structure VerdictReport where
  client : Nat
  code : Nat
  ss : Nat
  epoch : Nat
  packets : Nat
  run : Nat
  deriving DecidableEq, Repr

/-- The drop side of a channel: stream delineation (R213) and verdicts (R288 to R293). -/
structure DropChan where
  /-- Block lock, the run of valid headers, headers and invalid headers of the 256-block window (R213). -/
  lock : Bool
  validRun : Nat
  window : Nat
  invalid : Nat
  /-- Bits not yet taken as blocks (a bit of an errored byte carries 2 in addition, one of a discarded byte 4), and the descrambler
  state. -/
  bits : List Nat
  descr : Nat
  /-- The packet in progress: tag, bytes received, whether it holds an errored byte, source superframe of its first byte. -/
  packet : Option (Nat × List Nat × Bool × Nat)
  /-- Packets whose delivery is due (R207), oldest first: tag, bytes, error, source superframe of the first byte. -/
  due : List (Nat × List Nat × Bool × Nat)
  /-- The source superframe in progress, its GHASH, units and bytes, and whether units were missing or without a key. -/
  ss : Option Nat
  ghash : Nat
  gUnits : Nat
  gBytes : Nat
  keyMissing : Bool
  /-- Source superframes computed and not judged: number, tag computed, key missing. -/
  awaiting : List (Nat × Nat × Bool)
  /-- Tags received and not used: source superframe and tag (R289). -/
  tags : List (Nat × Nat)
  /-- The newest source superframe that has come, or that has been missed (R289). -/
  newest : Option Nat
  /-- Source superframes that passed, and that failed, newest first (R291, R293). -/
  passed : List Nat
  failed : List Nat
  /-- Units held until verified, oldest first: plaintext parts, and how many of them are held (R293, R294). Those of a
  superframe that failed are void. -/
  held : List (SourceUnit × Nat)
  /-- The verdict log: flow and source superframe of the packets delivered (R291). -/
  log : List (Nat × Nat)
  /-- Verdict reports that wait (R290). -/
  reports : List VerdictReport
  /-- The newest source superframe of which a tag has come, on the primary or only copy and on the partner (R289). -/
  tagPri : Option Nat
  tagPar : Option Nat
  failRun : Nat
  passRun : Nat
  deriving DecidableEq, Repr

def DropChan.init : DropChan where
  lock := false
  validRun := 0
  window := 0
  invalid := 0
  bits := []
  descr := 0
  packet := none
  due := []
  ss := none
  ghash := 0
  gUnits := 0
  gBytes := 0
  keyMissing := false
  awaiting := []
  tags := []
  newest := none
  passed := []
  failed := []
  held := []
  log := []
  reports := []
  tagPri := none
  tagPar := none
  failRun := 0
  passRun := 0

/-- A channel that both ports carry in parts (R215): frames of each port by FC_RX that wait for the other part, the
consecutive frames within 2.0 ms. -/
structure Concat where
  east : List SourceUnit
  west : List SourceUnit
  within : Nat
  /-- The frames of each port whose counterpart has not come: FC_RX and the TCLK count of the first bit. -/
  eastAt : List (Nat × Nat)
  westAt : List (Nat × Nat)
  /-- The last differential delay in ns, positive when LINE-W is later; both parts of a frame have come. -/
  skew : Int
  both : Bool
  deriving DecidableEq, Repr

def Concat.init : Concat := ⟨[], [], 0, [], [], 0, false⟩

/-! ### The ring (R232 to R267) -/

/-- A port's local report beside `RPT_LOCAL` (R251). -/
structure Report where
  /-- Milliseconds of the WTR timer left. -/
  wtrMs : Nat
  /-- The run of latched NGMI samples on one side of the limit, its side, and the SD condition (R251). -/
  sdRun : Nat
  sdBelow : Bool
  sd : Bool
  deriving DecidableEq, Repr

def Report.init : Report := ⟨0, 0, false, false⟩

/-- A candidate entry of the ring vector as received on a port in the superframe in progress. -/
structure RingState where
  /-- The vector as sent, by node (64-bit entries). -/
  sent : Tab Nat
  /-- Entries received in the superframe in progress and in the last complete one, by port × 32 + node. -/
  recv : Tab Nat
  recvLast : Tab Nat
  /-- Superframes without a candidate, by node, and without a SELF entry, by port. -/
  missing : Tab Nat
  noSelf : Tab Nat
  /-- Neighbour of each port: 32 + ID where valid. -/
  nbr : Tab Nat
  /-- The neighbour that each port of each node last named as valid, by 2 × node + port: 32 + ID (R252). -/
  named : Tab Nat
  deriving DecidableEq, Repr

def RingState.init : RingState := ⟨[], [], [], [], [], [], []⟩

/-- A negotiation transaction of a port (R255, R256): the modes proposed for both directions and their boundaries, as FC
values; the transmit mode held before it. -/
structure Negotiation where
  dir : Nat
  modF : Nat
  rateF : Nat
  rollF : Nat
  atF : Nat
  modR : Nat
  rateR : Nat
  rollR : Nat
  atR : Nat
  /-- The active transmit values before the change: `MOD_CFG` image, RATE_Q, ROLLOFF. -/
  oldMod : Nat
  oldRate : Nat
  oldRoll : Nat
  /-- CONFIRM messages still to send, one in each superframe (R256). -/
  confirms : Nat
  /-- The lead of the glide requested, in superframes (R374). -/
  lead : Nat
  /-- While waiting, the port has itself rejected a PROPOSE: a rejection of its own then is mutual, and a retry is due
  (R256). -/
  crossed : Bool
  retry : Bool
  /-- How the last transaction ended as proposer: none yet, done, rejected, timed out, reverted (R374). -/
  ended : Nat
  deriving DecidableEq, Repr

def Negotiation.init : Negotiation := ⟨0, 0, 0, 0, 0, 0, 0, 0, 0, 0, 0, 0, 0, 0, false, false, 0⟩

/-- The selector of a dual-path channel (R245 to R247). -/
structure Selector where
  /-- Units that wait on the primary and on the partner, oldest first. -/
  pri : List SourceUnit
  par : List SourceUnit
  /-- Consecutive units beyond and within 2.0 ms (R246), and the copy declared DP_SKEW. -/
  beyond : Nat
  within : Nat
  skewPar : Bool
  /-- The filtered D in 0.1 ns has been taken from a measurement. -/
  d : Int
  deriving DecidableEq, Repr

def Selector.init : Selector := ⟨[], [], 0, 0, false, 0⟩

/-- A restoration plan (R252): its key, a set of spans (node + 256 × port of the end with the lower node, ascending), and its
banks: words of the transmit and receive slot tables by port × 96 + slot. -/
structure Plan where
  spans : List Nat
  tx : Tab Nat
  rx : Tab Nat
  deriving DecidableEq, Repr

def Plan.init : Plan := ⟨[], [], []⟩

/-- The protection service (R253). -/
structure ProtState where
  /-- The plans by number; 0 keeps the banks in normal use while another plan is in force. -/
  plans : Tab Plan
  inForce : Nat
  noPlan : Bool
  hold : Bool
  /-- The set of failed spans last acted on, ascending. -/
  failed : List Nat
  /-- Ports whose swap waits for the neighbour's PLAN (R253). -/
  waiting : List Nat
  /-- Ports whose restoration swap has been requested and has not taken effect. -/
  swaps : List Nat
  /-- Sides, 2 × port + (1 for receive), whose bank in force may still be that of a plan although plan 0 has been taken. -/
  away : List Nat
  deriving DecidableEq, Repr

def ProtState.init : ProtState := ⟨[], 0, false, false, [], [], [], []⟩

/-! ### Keys (R278 to R304) -/

/-- The state of a key slot (R278). -/
inductive KeyState where
  | empty
  | loaded
  | locked
  | active
  | retiring
  deriving DecidableEq, Repr

/-- One key slot (R278). -/
structure KeySlot where
  state : KeyState
  k1 : List Nat
  k2 : List Nat
  ki : List Nat
  epoch : Nat
  ch : Nat
  drop : Bool
  derived : Bool
  /-- Source superframes served, the first of them, and the last one counted. -/
  used : Nat
  firstSs : Nat
  lastSs : Option Nat
  /-- CEIL_ALARM has been raised (R285). -/
  alarmed : Bool
  deriving DecidableEq, Repr

def KeySlot.init : KeySlot := ⟨.empty, [], [], [], 0, 0, false, false, 0, 0, none, false⟩

/-- The keys of a channel beside its table entry (R279 to R283, R307). -/
structure ChanKeys where
  /-- Slot pointers; 0x1FF is none. -/
  txAct : Nat
  txNxt : Nat
  rxAct : Nat
  rxNxt : Nat
  /-- The announced add switch: the source superframe at which it takes effect, and the first that announces it (R281). -/
  annSs : Option Nat
  annFrom : Nat
  /-- The pending and the last drop switch boundary (R277), and the slot of the retiring key. -/
  rxAnnSs : Option Nat
  rxLastSs : Option Nat
  rxRetiring : Nat
  /-- The run of key words whose ENC or INTEG differ or agree (R277). -/
  encRun : Nat
  encMismatch : Bool
  integSquelch : Bool
  pass : Nat
  fail : Nat
  /-- The rotation service has a switch to request (R303). -/
  rotDue : Bool
  /-- The epochs in use, `TX_EPOCH` and `RX_EPOCH`, and whether the add direction is squelched (R307). -/
  txEpoch : Nat
  rxEpoch : Nat
  txSquelch : Bool
  /-- `TICK_COUNT` when `ROT_PERIOD` last passed, and the rotation refusals of the channel (R303, R373). -/
  rotTick : Nat
  refusals : Nat
  deriving DecidableEq, Repr

def ChanKeys.init : ChanKeys :=
  ⟨0x1FF, 0x1FF, 0x1FF, 0x1FF, none, 0, none, none, 0x1FF, 0, false, false, 0, 0, false, 0, 0, false, 0, 0⟩

/-- A command that the key engine runs (R304, R305): its fields at the write of `KEY_CMD`. -/
structure KeyCmd where
  op : Nat
  kek : Nat
  drop : Bool
  slot : Nat
  ch : Nat
  /-- `EPOCH_IN` and the blob at the write. -/
  epoch : Nat
  blob : List Nat
  /-- The requester of the write. -/
  by_ : Requester
  deriving DecidableEq, Repr

/-! ### Time bases and PTP (R339 to R356, R373) -/

/-- One servo instance of a time base, primary or shadow, with its PTP port as PTP_PORT_CFG sets it (R341, R344, R373).
Times are in units of 2^−32 ns. -/
structure Servo where
  /-- 0 off, 1 T-GM, 2 T-BC, 3 T-TSC. -/
  kind : Nat
  twoStep : Bool
  dest : Nat
  notSlave : Bool
  localPriority : Nat
  /-- Announced by the master, as the last Announce gave it (R373). -/
  gmId : Nat
  gmQual : Nat
  gmVar : Nat
  steps : Nat
  /-- A master is heard: an Announce came since the last announce timeout (R342). -/
  heard : Bool
  /-- A two-step Sync that awaits its Follow_Up: its origin time with its correction, and its stamp (R346). -/
  sync : Option (Int × Int)
  /-- The master-to-slave delay of the last Sync. -/
  ms : Int
  /-- The stamp of a Delay_Req that awaits its response. -/
  req : Option Int
  /-- The mean path delay. -/
  delay : Int
  /-- The last offset from the master. -/
  offset : Int
  /-- The greatest and the smallest size of the offset since the last second (R342). -/
  hi : Nat
  lo : Nat
  /-- The frequency estimate in 10^−12, now and at the last second (R342). -/
  est : Int
  estSec : Int
  /-- Consecutive seconds with the change of the estimate below and above its limit, and with the offset within and
  beyond its limit (R342). -/
  freqRun : Nat
  freqOut : Nat
  timeRun : Nat
  timeOut : Nat
  /-- The frequency lock of this instance. -/
  freqLock : Bool
  deriving DecidableEq, Repr

/-- Reset value of a servo instance. -/
def Servo.init : Servo := ⟨0, false, 0, false, 0, 0, 0, 0, 0, false, none, 0, none, 0, 0, 0, 0, 0, 0, 0, 0, 0, 0, false⟩

/-- What a time base read, and at which rate it went on, before its rate or phase was changed (R350): a stamp may lie before that
change. -/
structure TimeMark where
  sec : Nat
  sub : Nat
  rem : Nat
  at_ : Nat
  adj : Int
  deriving DecidableEq, Repr

/-- One time base (R339). -/
structure TimeBase where
  /-- Seconds, and the nanoseconds with their 32-bit fraction as one number of units of 2^−32 ns. -/
  sec : Nat
  sub : Nat
  /-- What the last advance left below 2^−32 ns, in parts of 17·10^12 of it (log entry 41). -/
  rem : Nat
  /-- The TCLK count at which the time base reads so, what it read before, newest first, and the TCLK count of its last step
  (R350, R353). -/
  at_ : Nat
  past : List TimeMark
  stepAt : Nat
  /-- Stopped by an RCLK failure (R356). -/
  stopped : Bool
  primary : Servo
  shadow : Servo
  /-- Milliseconds since the last servo update (R361). -/
  idleMs : Nat
  /-- A grandmaster switch has been accepted and waits for the next servo update (R345). -/
  switching : Bool
  /-- What is left of the offset of a grandmaster switch, in units of 0.0001 ns, and whether it is built out for good (R345). -/
  slew : Int
  built : Bool
  /-- The share of `TB_RATE.ADJ` that removes it (R340, R345). -/
  slewRate : Int
  /-- priority1, priority2, clockClass and clockAccuracy as PTP_CLOCK_CFG packs them; offsetScaledLogVariance (R373). -/
  clockQual : Nat
  clockVar : Nat
  /-- currentUtcOffset and the leap flags ([0] leap61, [1] leap59) of the source in use (R355). -/
  utc : Nat
  leap : Nat
  /-- The stamp of a PPS_IN edge whose second awaits TOD_IN (R354). -/
  edge : Option Int
  deriving DecidableEq, Repr

/-- Reset value of a time base: 0 s (R339). -/
def TimeBase.init : TimeBase := ⟨0, 0, 0, 0, [], 0, false, Servo.init, Servo.init, 0, false, 0, false, 0, 0, 0, 0, 0, none⟩

/-! ### The control complex (R360 to R379) -/

/-- Telemetry publication (R376): mask, period in ticks, host address, ring length, sequence number of the last record,
ticks left to the next. -/
structure Telemetry where
  mask : Nat
  period : Nat
  addr : Nat
  len : Nat
  seq : Nat
  left : Nat
  deriving DecidableEq, Repr

/-- A record of a configuration copy (R365): a register write, a block of a BAR2 window by its offset, an eclosion request at
IMMEDIATE, a restoration plan, the PTP and telemetry service settings. -/
inductive CfgRecord where
  | register (page offset value : Nat)
  | table (offset : Nat) (data : List Byte)
  | eclosion (page group : Nat)
  | plan (number : Nat) (plan : Plan)
  | service (tb : Tab TimeBase) (tel : Option Telemetry)
  deriving DecidableEq, Repr

/-- A configuration copy in flash (R365): its header, whether its CMAC under the configuration key checks, and its records. -/
structure CfgCopy where
  magic : Nat
  seq : Nat
  policy : Nat
  bodyLength : Nat
  cmacOk : Bool
  records : List CfgRecord
  deriving DecidableEq, Repr

/-- A firmware slot of the flash (R362, R363): its bytes from its start on, the rest being erased, and whether a read of it
has been uncorrectable since it was written (R407). -/
structure FlashSlot where
  bytes : List Nat
  bad : Bool
  deriving DecidableEq, Repr

/-- A slot of erased flash. -/
def FlashSlot.erased : FlashSlot := ⟨[], false⟩

/-- The boot flash (R362): the bytes of the directory (none where it is erased), the two firmware slots, the two
configuration copies, the bytes of the area for fault records. -/
structure Flash where
  dir : List Nat
  slotA : FlashSlot
  slotB : FlashSlot
  copy0 : Option CfgCopy
  copy1 : Option CfgCopy
  faults : List Nat
  deriving DecidableEq, Repr

/-- The flash of a device that nothing has been written to: no firmware, no configuration (log entry 46). -/
def Flash.init : Flash := ⟨[], FlashSlot.erased, FlashSlot.erased, none, none, []⟩

/-- A firmware image (R363): what its header says of it and its bytes. -/
structure FwImage where
  version : Word
  svn : Byte
  stateMin : Byte
  stateVer : Byte
  code : List Nat
  deriving DecidableEq, Repr

/-- The mirror of the service state that the ACTIVE core writes to the shared SRAM and the STANDBY core keeps a copy of (R360,
R368, R369): its version, the tick it was written at, and the state of the services of protection, PTP, performance
monitoring, telemetry and key rotation, of the last each channel's tick of its last switch. -/
structure Mirror where
  version : Nat
  tick : Nat
  prot : ProtState
  tb : Tab TimeBase
  pm : Tab PmEntity
  tel : Option Telemetry
  rotation : Tab Nat
  deriving DecidableEq, Repr

/-- The cores beside `CORE_STATUS` (R360, R368, R369). -/
structure CoreState where
  /-- The image in each core's SRAM (R360). -/
  img0 : Option FwImage
  img1 : Option FwImage
  /-- The flash slot that each core's image came from. -/
  slot0 : Nat
  slot1 : Nat
  /-- The core whose self-test is due, and whether it is step 8 of a moult (R368, R369). -/
  selfTest : Option Nat
  reload : Bool
  /-- A moult in progress: the slot whose image the other core holds, and the mailbox whose command it is (R368). -/
  moult : Option (Nat × Nat)
  /-- The power-on retest and the restore of the calibration store have ended (R490). -/
  retested : Bool
  /-- The reset was a power-on reset: quarantined units are retested (R20). -/
  retestDue : Bool
  /-- The configuration restore has run; it waits for emergence with POLICY 2 (R367). -/
  restored : Bool
  emergeWait : Bool
  /-- The mirror of the service state as last written (R368). -/
  mirror : Option Mirror
  deriving DecidableEq, Repr

def CoreState.init : CoreState := ⟨none, none, 0, 0, none, false, none, false, true, false, false, none⟩

/-- A mailbox command in progress (R370): its code, tag and request words, its place in the doorbell order, the bytes or words
that the host's memory holds for it, whether its service has begun it, and its end where that is already decided: status,
detail, response. -/
structure MbxCmd where
  op : Nat
  tag : Nat
  words : List Nat
  order : Nat
  data : List Nat
  started : Bool
  ended : Option (Nat × Nat × List Nat)
  deriving DecidableEq, Repr

/-! ### DMA, arbiters, memories (R383 to R408) -/

/-- A descriptor as fetched (R385). -/
structure Descr where
  idx : Nat
  host : Nat
  dev : Nat
  len : Nat
  ctrl : Nat
  /-- Reserved bits of the descriptor that are not 0, or a STATUS that is not. -/
  junk : Bool
  deriving DecidableEq, Repr

/-- A DMA channel beside its registers (R384 to R396). -/
structure DmaChan where
  /-- The descriptor in progress, and bytes of it moved to or from the device. -/
  cur : Option Descr
  moved : Nat
  /-- Descriptors fetched ahead, and the indices of fetches outstanding, oldest first (R389). -/
  ahead : List Descr
  fetching : List Nat
  /-- Bytes outstanding of its data request to the host, and that request's address (R393). -/
  outstanding : Nat
  request : Nat
  /-- Data of the burst in progress that its buffer holds: taken in from the host while pre-empted, or read from the device and
  not yet written to the host (R396). -/
  held : List Nat
  /-- Bytes not yet counted in the channel's byte counter, which counts 4,096 at a time. -/
  bytes : Nat
  deriving DecidableEq, Repr

def DmaChan.init : DmaChan := ⟨none, 0, [], [], 0, 0, [], 0⟩

/-- The arbiters beside `ARB_CFG` (R398): the last zero-ticket winner, by arbiter, as 1 + requester. -/
structure MemState where
  lastZero : Tab Nat
  /-- The strength with which the pages of a store were last encoded: 0 SRAM, 1 key store, 2 calibration store, 3 and 4 the
  flash slots (R406). -/
  strength : Tab Nat
  /-- Entries of the calibration store marked invalid (R407). -/
  calInvalid : List Nat
  /-- Memory rows retired or remapped, ascending: page of the owner × 2^24 + line (R20, R404). -/
  retired : List Nat
  deriving DecidableEq, Repr

def MemState.init : MemState := ⟨[], [], [], []⟩

/-! ### Monitor converters, filters and power (R412 to R435) -/

/-- One chain of an entry: the last input samples and the last kept median outputs, newest first, the block in progress,
its latest output (R418 to R421). -/
structure Chain where
  med : List Int
  fir : List Int
  sum : Int
  count : Nat
  out : Int
  deriving DecidableEq, Repr

def Chain.init : Chain := ⟨[], [], 0, 0, 0⟩

/-- An entry of the sequencer: what is in force for it, as `CH`, `MODE` and `CH2` (R414), and its chains by half and bank:
2 × half + bank. -/
structure MonEntry where
  ch : Nat
  mode : Nat
  ch2 : Nat
  chains : Tab Chain
  deriving DecidableEq, Repr

/-- The sequencer and the temperatures last taken (R414, R416, R435). -/
structure MonState where
  entries : Tab MonEntry
  /-- Rounds since `RUN` was set (R418). -/
  round : Nat
  /-- The urgent conversion in progress: channel and converter. -/
  urgent : Option (Nat × Nat)
  /-- Temperatures of channels 0 to 23 as last taken, in 1/128 °C (R435). -/
  temps : List Int
  /-- `RUN` was cleared in a round, whose current slot has yet to end (R417). -/
  lastSlot : Bool
  deriving DecidableEq, Repr

def MonState.init : MonState := ⟨[], 0, none, [], false⟩

/-- A calibration task of the service (R424 to R426): the corrections in force and where they move to, the temperature
latched at the last start, whether it has yet to run since its condition was last broken, and whether it is frozen. -/
structure CalTask where
  corr : List Int
  target : List Int
  tRef : Int
  fresh : Bool
  frozen : Bool
  deriving DecidableEq, Repr

def CalTask.init : CalTask := ⟨[], [], 0, true, false⟩

/-- The power manager beside its registers (R428 to R435). -/
structure PowerState where
  /-- Package powers of the last ticks, newest first, at most 64 (R433). -/
  window : List Nat
  /-- Consecutive ticks below the cap less its hysteresis; the cap was disabled with measures in force. -/
  lowRun : Nat
  /-- VOUT_COMMAND in units of 0.5 mV, and consecutive ticks of slack above `AVS_HI` (R430). -/
  vout : Nat
  slackRun : Nat
  /-- Consecutive ticks above `T_HIGH` and `T_CRIT`, by die (R435). -/
  hot : Tab Nat
  crit : Tab Nat
  /-- Consecutive stale ticks, by rail; the rail's last voltage in µV and current in µA (R429). -/
  stale : Tab Nat
  volts : Tab Nat
  amps : Tab Nat
  /-- The exponent of VOUT_MODE, 5 bits, read since the rail was enabled, by rail (R428). -/
  vexp : Tab Nat
  /-- The calibration tasks: 0 skew E, 1 skew W, 2 clock E, 3 clock W. -/
  task : Tab CalTask
  deriving DecidableEq, Repr

def PowerState.init : PowerState := ⟨[], 0, 0, 0, [], [], [], [], [], [], []⟩

/-! ### Clocks and references (R309 to R338) -/

/-- A gate request in progress (R321): its domain, whether it closes. -/
structure GateOp where
  domain : Nat
  close : Bool
  deriving DecidableEq, Repr

/-- The clock machinery beside the registers of `CK_SYN`. -/
structure ClockState where
  /-- The device has been released from reset (R488). -/
  released : Bool
  /-- The control complex is out of reset (R314). -/
  ctrlRun : Bool
  /-- The control clock has stopped: only a reset resumes the device (R319, R320). -/
  stopped : Bool
  /-- The analogue PLL has reported lock since reset or since the last failure (R315, log entry 20). -/
  watched : Bool
  /-- Consecutive monitor windows in and out of limits (R314, R315). -/
  goodRun : Nat
  badRun : Nat
  /-- Consecutive windows with XREF in and out of limits (R319). -/
  xrefGood : Nat
  xrefBad : Nat
  /-- RCLK failed and the control complex has not yet returned to MCLK (R318). -/
  failed : Bool
  /-- Milliseconds for which RCLK has stayed qualified since a failure (R318). -/
  qualifiedMs : Nat
  /-- Management ticks since the failure that stopped the time bases (R356). -/
  stopTicks : Nat
  /-- The start-up limit of 5.0 ms has been judged (R314). -/
  startupJudged : Bool
  /-- The control clock that a switch in progress goes to, and the one queued behind it (R317). -/
  switchTo : Option Nat
  switchNext : Option Nat
  /-- The gate request in progress (R321). -/
  gate : Option GateOp
  /-- The domains opened while RCLK was stopped, one bit each: their clock restarts once RCLK qualifies again (R323). -/
  restarting : Nat
  deriving DecidableEq, Repr

/-- Reset value of the clock machinery. -/
def ClockState.init : ClockState :=
  ⟨false, false, false, false, 0, 0, 0, 0, false, 0, 0, false, none, none, none, 0⟩

/-- One reference input beside its block of `CK_REF` (R326, R327). -/
structure RefInput where
  /-- Edges are present, as judged for a REFIN input (R326). -/
  edges : Bool
  /-- The last offset samples, newest first, at most 64 (R327). -/
  samples : List Int
  /-- Their mean once there are 64, in 0.01 ppm (R327). -/
  mean : Int
  /-- Milliseconds left of the WTR timer (R327). -/
  wtrMs : Nat
  deriving DecidableEq, Repr

/-- Reset value of a reference input. -/
def RefInput.init : RefInput := ⟨false, [], 0, 0⟩

/-- The system DPLL beside the registers of `CK_DPLL0` (R330 to R334). -/
structure DpllState where
  /-- Residual phase offset in units of 0.0001 ns (R332). -/
  residual : Int
  /-- The frequency at each tick of LOCKED operation, newest first (R334), and how many such ticks there were. -/
  history : List Int
  lockedMs : Nat
  /-- Ticks in LOCKING with the phase error within ±`LOCK_NS`, of DPLL0 and of DPLL1 (R331). -/
  lockTicks : Nat
  lockTicks1 : Nat
  deriving DecidableEq, Repr

/-- Reset value of the system DPLL. -/
def DpllState.init : DpllState := ⟨0, [], 0, 0, 0⟩

/-- The pins that the ring's safety rests on (R319, R524). What CLKPROBE carries follows from its registers (R324):
`State.clkProbe`. -/
structure Pins where
  /-- BYPASS_HOLD of each port is high (R260). -/
  bypassHold : Pair Bool
  /-- TX_RAMP of each port is held at 0 V: under reset, after an RCLK failure, by its hold circuit (R58, R316, R320). -/
  txZero : Pair Bool
  deriving DecidableEq, Repr

/-- Reset value of the pins: all low. -/
def Pins.init : Pins := ⟨⟨false, false⟩, ⟨true, true⟩⟩

/-! ### Eyespot tracing (R457 to R462) -/

/-- An eyespot in flight, or its record in the buffer (R459). -/
structure Eyespot where
  source : Nat
  seq : Nat
  tagTclk : Nat
  ss : Nat
  index : Nat
  block : Nat
  flags : Nat
  work : Nat
  depth : Nat
  /-- Stamps 0 to 8; 0xFFFF_FFFF for a stage not reached. -/
  stamps : List Nat
  deriving DecidableEq, Repr

/-- The eyespot sources and the record buffer. -/
structure TraceState where
  /-- The LFSR of each source (R458). -/
  lfsr : Tab Nat
  /-- The tag count of each source (R459). -/
  seq : Tab Nat
  /-- The eyespots in flight, by source. -/
  flight : Tab Eyespot
  /-- The record buffer, oldest first, at most 256 (R462). -/
  buffer : List Eyespot
  deriving DecidableEq, Repr

def TraceState.init : TraceState := ⟨[], [], [], []⟩

/-- The state of the block. -/
structure State where
  /-- The queue of the commands that are waiting, first in first out (the model's own). -/
  pending : List Instr
  /-- How many free values have been taken (the model's own; log entry 1). -/
  freeCount : Nat
  /-- What the block has put out, newest first (the model's own record; log entry 3). -/
  out : List Out
  /-- The register file: each register field by `Field.key`, listed where it differs from its reset value. RW-SH fields hold
  their staged value here (R471 to R487). -/
  regs : Tab Nat
  /-- The active values of the RW-SH fields, listed where they differ from their reset value (R4, R479). -/
  act : Tab Nat
  /-- The values of RO fields that `FREEZE` holds for readback (R473). -/
  held : Tab Nat
  /-- The 64-bit counters by page index × 4096 + page offset of the low word (R442). -/
  cnt : Tab Nat
  /-- The latches that reads fill, per requester: requester number × 2^20 + number of the latch (R443, R477). -/
  latch : Tab Nat
  /-- The BAR2 table windows: the bytes written since power-on reset (R208, R467, R468). -/
  bar2 : List Host.Cell
  /-- The flow counters: 48-bit count and `WRAPPED` at bit 48, by entry index (R445). -/
  flowCnt : Tab Nat
  /-- The page snapshot window: captured counters by window offset (R448). -/
  snapPage : Tab Nat
  /-- The flow snapshot window: captured flow counters by entry index (R448). -/
  snapFlow : Tab Nat
  /-- Page counters captured and not yet drained (R449). -/
  snapCap : Tab Nat
  /-- Flow counters captured and not yet drained (R447). -/
  snapCapFlow : Tab Nat
  /-- The snapshot request in progress: bit 0 AT_TICK, bit 1 FLOWS, bit 2 captured, bit 3 a tick since (R449). -/
  snapReq : Nat
  /-- The pending eclosion requests, by requesting page, plus 64 where the request names RXSKEW (R481). -/
  ecl : Tab EclReq
  /-- Pages whose soft reset settles (R472). -/
  settling : List Nat
  /-- The MSI-X vectors whose pending latch is set (R456). -/
  msixLatch : List Nat
  /-- The MSI-X table words by word offset: address, data and vector control (R466). -/
  msixTable : Tab Nat
  /-- MSI-X enabled in the configuration space (R456). -/
  msixEnable : Bool
  /-- The MSI-X function mask (R456). -/
  msixFnMask : Bool
  /-- The PCIe link is up (R456, R521). -/
  linkUp : Bool
  /-- The endpoint answers configuration requests with Configuration Request Retry Status (R489). -/
  crs : Bool
  /-- PCIE_PERST_N is asserted (R521). -/
  perstLow : Bool
  /-- The status byte of the last SMBus WRITE (R470). -/
  smbLast : Nat
  /-- The device ID in the PCIe configuration space (R2). -/
  pcieDevice : BitVec 16
  /-- Where an error response stands reported, by requester number: the AER status of PCIe writes, a core's bus error trap, the
  JTAG status bit (R469). -/
  reported : Nat
  /-- The spared blocks, by block number (R17). -/
  spared : Tab Spared
  /-- The check windows, by region number (R23). -/
  window : Tab FaultWindow
  /-- INT_N is low (R455). -/
  intLow : Bool
  /-- The transmitters (R38 to R64). -/
  tx : Pair TxState
  /-- The receive regions (R78 to R127). -/
  rx : Pair RxState
  /-- The receive converters, by 4 × port + converter (R65 to R76). -/
  rxConv : Tab ConvState
  /-- The transmit converters, by 4 × port + converter (R53, R77). -/
  txConv : Tab ConvState
  /-- The calibration runs (R72 to R74). -/
  calRun : Pair CalRun
  /-- The decoder pools (R142 to R157). -/
  fec : Pair FecState
  /-- The framers and deframers (R158 to R178). -/
  frame : Pair FrameState
  /-- Performance monitoring: ports 0 and 1, channel ch as 2 + ch (R179 to R183). -/
  pm : Tab PmEntity
  /-- How each port marks its seconds (R180). -/
  pmClock : Pair PmClock
  /-- Dvorrov messages handed to the services: port, class, body without CRC, oldest first (R174, R175). -/
  dvInbox : List (Port × Nat × List Nat)
  /-- The host lanes (R187 to R203). -/
  lane : Tab LaneState
  /-- The clients (R191 to R194, R222 to R224). -/
  client : Tab ClientState
  /-- The add side of the channels (R210 to R212). -/
  add : Tab AddChan
  /-- The receive line channels, by port × 256 + LCH (R235 to R243). -/
  line : Tab LineChan
  /-- The transit line channels, by outgoing port × 256 + LCH (R235 to R242). -/
  transit : Tab TransitChan
  /-- The drop side of the channels (R213, R288 to R293). -/
  drop : Tab DropChan
  /-- The concatenated channels (R215). -/
  concat : Tab Concat
  /-- The channel generators and checkers (R203). -/
  chtest : Pair ChTest
  /-- The policers' tokens in 1/100 bit, by flow (R206); an unlisted bucket is full. -/
  bucket : Tab Int
  /-- Cells of the shared pool in use (R221, R224). -/
  shared : Nat
  /-- The shared pool has stood above `OCC_N` since the last tick (R446). -/
  poolOver : Bool
  /-- The shared pool has not stood above `OCC_N` throughout since the last tick (R446). -/
  poolUnder : Bool
  /-- Cells of headroom in use (R221). -/
  headUsed : Nat
  /-- Cells of the drop reserve in use (R224). -/
  dropUsed : Nat
  /-- The local reports (R251). -/
  report : Pair Report
  /-- The ring vector (R249, R250). -/
  ring : RingState
  /-- The negotiations (R255 to R258). -/
  neg : Pair Negotiation
  /-- The dual-path selectors, by primary channel (R245 to R247). -/
  selector : Tab Selector
  /-- HBM3E storage withdrawn, ascending: page of the owner × 2^24 + line (R26, R248). -/
  hbmOut : List Nat
  /-- The protection service (R252, R253). -/
  prot : ProtState
  /-- The 512 key slots (R278). -/
  keySlots : Tab KeySlot
  /-- The keys of the channels (R279). -/
  chanKeys : Tab ChanKeys
  /-- The key-encryption keys (R300). -/
  keks : Tab (List Nat)
  /-- The channel master keys (R300). -/
  masters : Tab (List Nat)
  /-- The words of `WRAP_DATA` (R305). -/
  wrapData : Tab Nat
  /-- The command in the key engine (R304). -/
  keyCmd : Option KeyCmd
  /-- The entropy source has failed a health test (R299). -/
  entropyFail : Bool
  /-- Double faults of the cipher stage not yet applied: drop direction, channel, slot ordinal, word (R296). -/
  aesBad : List (Bool × Nat × Nat × Nat)
  /-- The four time bases, by number (R339 to R345). -/
  tb : Tab TimeBase
  /-- The TCLK count of the last PPS_IN edge (R355). -/
  ppsInAt : Option Nat
  /-- The second that the next TOD_OUT message names (R355). -/
  todDue : Option Nat
  /-- The fused firmware key of the control die, 32 bytes (R363). -/
  fuses : List Nat
  /-- The boot flash (R362 to R366). -/
  flash : Flash
  /-- The control cores (R360 to R369). -/
  core : CoreState
  /-- The mailbox commands in progress, by mailbox (R370). -/
  mbx : Tab MbxCmd
  /-- How many doorbells have been taken: the order of R371. -/
  mbxOrder : Nat
  /-- Telemetry publication (R376). -/
  tel : Option Telemetry
  /-- The DMA channels (R383 to R396). -/
  dma : Tab DmaChan
  /-- The shared SRAM of the control complex: the bytes written since power-on reset (R386, R408). -/
  sram : List Host.Cell
  /-- Arbiters and memory protection (R397 to R408). -/
  mem : MemState
  /-- Max_Payload_Size as the host has configured it, in bytes (R388). -/
  maxPayload : Nat
  /-- The monitor converters and sequencer (R412 to R423). -/
  mon : MonState
  /-- The power manager and the calibration service (R424 to R435). -/
  power : PowerState
  /-- The clock tree and monitor (R309 to R324). -/
  clock : ClockState
  /-- The reference inputs, by index 0 to 11 (R325 to R327). -/
  ref : Tab RefInput
  /-- The system DPLL (R330 to R334). -/
  dpll : DpllState
  /-- The safety outputs (R524). -/
  pins : Pins
  /-- Eyespot tracing (R457 to R462). -/
  trace : TraceState
  /-- The TCLK count of the last management tick (R446). -/
  tickAt : Nat
  /-- The count of TCLK cycles since reset, as last given by a command that carries an instant (R459, R463; log entry 4). -/
  tclk : Nat
  deriving DecidableEq, Repr

/-- The machine right after reset (R484, R16): every field at its reset value. -/
def State.reset : State where
  pending := []
  freeCount := 0
  out := []
  regs := []
  act := []
  held := []
  cnt := []
  latch := []
  bar2 := []
  flowCnt := []
  snapPage := []
  snapFlow := []
  snapCap := []
  snapCapFlow := []
  snapReq := 0
  ecl := []
  settling := []
  msixLatch := []
  msixTable := []
  msixEnable := false
  msixFnMask := false
  linkUp := false
  crs := true
  perstLow := true
  smbLast := 0
  pcieDevice := 0x4824
  reported := 0
  spared := []
  window := []
  intLow := false
  tx := ⟨TxState.init, TxState.init⟩
  rx := ⟨RxState.init, RxState.init⟩
  rxConv := []
  txConv := []
  calRun := ⟨CalRun.init, CalRun.init⟩
  fec := ⟨FecState.init, FecState.init⟩
  frame := ⟨FrameState.init, FrameState.init⟩
  pm := []
  pmClock := ⟨PmClock.init, PmClock.init⟩
  dvInbox := []
  lane := []
  client := []
  add := []
  line := []
  transit := []
  drop := []
  concat := []
  chtest := ⟨ChTest.init, ChTest.init⟩
  bucket := []
  shared := 0
  poolOver := false
  poolUnder := true
  headUsed := 0
  dropUsed := 0
  report := ⟨Report.init, Report.init⟩
  ring := RingState.init
  neg := ⟨Negotiation.init, Negotiation.init⟩
  selector := []
  hbmOut := []
  prot := ProtState.init
  keySlots := []
  chanKeys := []
  keks := []
  masters := []
  wrapData := []
  keyCmd := none
  entropyFail := false
  aesBad := []
  tb := []
  ppsInAt := none
  todDue := none
  fuses := (List.replicate 32 0)
  flash := Flash.init
  core := CoreState.init
  mbx := []
  mbxOrder := 0
  tel := none
  dma := []
  sram := []
  mem := MemState.init
  maxPayload := 128
  mon := MonState.init
  power := PowerState.init
  clock := ClockState.init
  ref := []
  dpll := DpllState.init
  pins := Pins.init
  trace := TraceState.init
  tickAt := 0
  tclk := 0

end Sys2Proof.Machine
end

