-- ==== Sys2Proof/Machine/Ops.lean ====
section
/-! DEFINITION. The named operations over registers, counters, latches, tables and the output record: the only places
that touch their storage. -/

namespace Sys2Proof.Machine

open F

/-- The value of a field: staged for an RW-SH field, live for every other (R3 to R9). -/
def State.rd (s : State) (f : Field) : Nat := Tab.get f.reset s.regs f.key % 2 ^ f.width

/-- The active value of an RW-SH field (R4). -/
def State.rdA (s : State) (f : Field) : Nat := Tab.get f.reset s.act f.key % 2 ^ f.width

/-- A one-bit field as a Boolean. -/
def State.on (s : State) (f : Field) : Bool := s.rd f = 1

/-- The signed value of a field. -/
def State.rdI (s : State) (f : Field) : Int := signed f.width (s.rd f)

/-- Give a field a value; bits beyond its width are dropped. -/
def State.wr (s : State) (f : Field) (v : Nat) : State :=
  { s with regs := Tab.set f.reset s.regs f.key (v % 2 ^ f.width) }

/-- Give a signed field a value. -/
def State.wrI (s : State) (f : Field) (v : Int) : State := s.wr f (unsigned f.width v)

/-- Give a one-bit field a Boolean. -/
def State.wrB (s : State) (f : Field) (b : Bool) : State := s.wr f (bit b)

/-- Give an RW-SH field an active value. -/
def State.wrA (s : State) (f : Field) (v : Nat) : State :=
  { s with act := Tab.set f.reset s.act f.key (v % 2 ^ f.width) }

/-- A field that saturates at its width, advanced by `n`. -/
def State.bumpSat (s : State) (f : Field) (n : Nat) : State :=
  s.wr f (min (2 ^ f.width - 1) (s.rd f + n))

/-- A field that wraps, advanced by 1. -/
def State.bump (s : State) (f : Field) : State := s.wr f (s.rd f + 1)

/-- Change the state only where a condition holds. -/
def State.cond (s : State) (b : Bool) (f : State → State) : State := if b then f s else s

/-- Apply a change for each element of a list, in order. -/
def State.forEach {α : Type} (s : State) (l : List α) (f : α → State → State) : State :=
  l.foldl (fun s a => f a s) s

/-- Record what the block puts out. -/
def State.emit (s : State) (o : Out) : State := { s with out := o :: s.out }

/-- The next free value of `w` bits (log entry 1). -/
def State.freeVal (s : State) (w : Nat) : Nat := Config.free s.freeCount % 2 ^ w

/-- Go on to the next free value. -/
def State.useFree (s : State) : State := { s with freeCount := s.freeCount + 1 }

/-- A quotient where the specification states no rounding: exact where it divides, otherwise one of the two integers
beside it (log entry 31). -/
def State.divOpen (s : State) (n d : Int) : State × Int :=
  if n % d = 0 then (s, n / d) else (s.useFree, n / d + (s.freeVal 1 : Int))

/-- RCLK is stopped, or has not yet qualified (R316, R489). -/
def State.rclkStopped (s : State) : Bool := !s.on CK_SYN.SYN_STATUS_RCLK_OK

/-- A page of the line dies or of the hub (R487). -/
def otherDie (page : Nat) : Bool := decide (19 ≤ page)

/-! ### Counters (R440 to R445) -/

/-- `CNT_BASE` of a page (R487, and the index of R464's chapter). -/
def cntBase (page : Nat) : Nat :=
  match page with
  | 2 | 3 => 0x200
  | 6 | 26 => 0x800
  | 21 => 0x300
  | _ => 0x400

/-- The 64-bit count of the counter whose low word is at a page offset. -/
def State.counter (s : State) (page off : Nat) : Nat := Tab.get 0 s.cnt (page * 4096 + off)

/-- Add a quantity to a counter, modulo 2^64 (R443). Counters outside the control die hold while RCLK is stopped (R440). -/
def State.count (s : State) (page off n : Nat) : State :=
  if otherDie page && s.rclkStopped then s
  else { s with cnt := Tab.set 0 s.cnt (page * 4096 + off) ((s.counter page off + n) % 2 ^ 64) }

/-- The TRANSIENT, LASTING and EXHAUSTED counters of a page (R442). -/
def transientOff (page : Nat) : Nat := cntBase page - 0x10
def lastingOff (page : Nat) : Nat := cntBase page - 0x0C
def exhaustedOff (page : Nat) : Nat := cntBase page - 0x08
def cntHiOff (page : Nat) : Nat := cntBase page - 0x04

/-- Add to a 48-bit flow counter; a wrap sets `WRAPPED` (R445). The second part tells whether it wrapped. -/
def State.flowAdd (s : State) (idx n : Nat) : State × Bool :=
  let v := Tab.get 0 s.flowCnt idx
  let c := v % 2 ^ 48 + n
  let w := decide (2 ^ 48 ≤ c)
  ({ s with flowCnt := Tab.set 0 s.flowCnt idx (c % 2 ^ 48 + (if w || bitOf v 48 then 2 ^ 48 else 0)) }, w)

/-! ### Latches filled by reads (R443, R477) -/

/-- Number of the latch `n` of a requester. -/
def latchKey (r : Requester) (n : Nat) : Nat := r.toNat * 2 ^ 20 + n % 2 ^ 20

def State.getLatch (s : State) (r : Requester) (n : Nat) : Nat := Tab.get 0 s.latch (latchKey r n)

def State.setLatch (s : State) (r : Requester) (n v : Nat) : State :=
  { s with latch := Tab.set 0 s.latch (latchKey r n) v }

/-! ### The table windows of BAR2 (R208, R467, R468) -/

/-- The bytes of the BAR2 windows that have been written. -/
abbrev Memory := List Host.Cell

/-- The canonical form: addresses strictly rising. An unlisted address holds no value, so no entry can equal it. -/
def Memory.wf (m : Memory) : Bool := Tab.sorted m

/-- The byte at an address; none where it has not been written since power-on reset (R408). -/
def Memory.read : Memory → Nat → Option Byte
  | [], _ => none
  | (k, v) :: t, a => if k = a then some v else Memory.read t a

/-- Write one byte. -/
def Memory.write (m : Memory) (a : Nat) (v : Byte) : Memory := Tab.insert m a v

/-- Write the low `n` bytes of a value, least significant first. -/
def Memory.writeN (m : Memory) (a : Nat) : Nat → Nat → Memory
  | 0, _ => m
  | n + 1, v => Memory.writeN (Memory.write m a (BitVec.ofNat 8 v)) (a + 1) n (v / 256)

/-- Read `n` bytes, least significant first; none where one of them has not been written. -/
def Memory.readN (m : Memory) (a : Nat) : Nat → Option Nat
  | 0 => some 0
  | n + 1 =>
    match Memory.read m a, Memory.readN m (a + 1) n with
    | some b, some r => some (b.toNat + 256 * r)
    | _, _ => none

/-- A table word of 32 bits; none where it does not count as written (R408). -/
def State.tabWord (s : State) (off : Nat) : Option Nat := Memory.readN s.bar2 off 4

/-- Write a table word. -/
def State.setTabWord (s : State) (off v : Nat) : State := { s with bar2 := Memory.writeN s.bar2 off 4 v }

/-- Bases of the BAR2 windows (R467). -/
def flowWin : Nat := 0x00000
def vlanWin : Nat := 0x40000
def chanWin : Nat := 0xA0000
def txSlotWin : Nat := 0xA1000
def rxSlotWin : Nat := 0xA2000
def cryptoWin : Nat := 0xA4000
def descWin : Nat := 0xA8000
def flowCntWin : Nat := 0x100000
def snapPageWin : Nat := 0x200000
def snapFlowWin : Nat := 0x300000

end Sys2Proof.Machine
end

