-- ==== Sys2Proof/Machine/LineFormat.lean ====
section
/-! DEFINITION. What a line mode fixes: capacity and slots (R33 to R36), the distribution matcher (R40 to R44), labels
(R46), the preamble (R54), the validity of a mode (R61, R92, R123) and the dispersion window (R78, R81, R82). -/

namespace Sys2Proof.Machine

open F

/-- Bits per symbol per polarisation of the base constellation, m (R33). -/
def Mode.m (x : Mode) : Nat := match x.base with | 0 => 2 | 1 => 4 | _ => 6

/-- The code rate in hundredths (R62). -/
def Mode.rate (x : Mode) : Nat := match x.rateCode with | 0 => 80 | 1 => 84 | _ => 87

/-- The entropy in 1/64 bit; in the uniform modes H equals m (R33, R34, R45). -/
def Mode.h64 (x : Mode) : Nat := if x.shaped then x.entropy else 64 * x.m

/-- Payload bits per symbol pair per polarisation in 1/6,400 (R33). -/
def Mode.payload (x : Mode) : Nat := 100 * x.h64 - 64 * (100 - x.rate) * x.m

/-- The capacity of R33 in Gb/s, times 4 × 6,400 × 100: a whole number, as `RATE_Q` is in quarters of a GBd. -/
def Mode.capNum (x : Mode) : Nat := x.rateQ * x.payload * 192

/-- The slot count (R33): capacity over 25 Gb/s, at most 96. -/
def Mode.slots (x : Mode) : Nat := min 96 (x.capNum / (4 * 6400 * 100 * 25))

/-- Matcher input bits per block, k, and known sign positions, s (R40); both 0 in the uniform modes (R62). -/
def Mode.k (x : Mode) : Nat := if x.shaped then x.entropy - 128 else 0
def Mode.s (x : Mode) : Nat := if x.shaped then 128 - x.entropy else 0

/-- Half-rate mode (R78). -/
def Mode.half (x : Mode) : Bool := decide (x.rateQ ≤ 544)

/-- The entropy range of a shaped base (R44). -/
def Mode.entropyOk (x : Mode) : Bool :=
  match x.base with
  | 1 => decide (96 ≤ x.entropy ∧ x.entropy ≤ 252)
  | 2 => decide (128 ≤ x.entropy ∧ x.entropy ≤ 358)
  | _ => false

/-- The modulation part of R61 and R123. -/
def Mode.modOk (x : Mode) : Bool :=
  decide (x.base ≠ 3) && decide (x.rateCode ≠ 3) && (!x.shaped || x.entropyOk) && decide (x.slots ≠ 0)

/-- The rate and roll-off part of R61 and R92. -/
def Mode.rateOk (x : Mode) : Bool :=
  decide (240 ≤ x.rateQ ∧ x.rateQ ≤ 1088) && decide (1 ≤ x.rolloff ∧ x.rolloff ≤ 50)

/-! ### Distribution matcher -/

/-- The counts of amplitudes 1, 3, 5 and 7 of a block (R41). -/
structure Composition where
  n1 : Nat
  n3 : Nat
  n5 : Nat
  n7 : Nat
  deriving DecidableEq, Repr

def Composition.none : Composition := ⟨0, 0, 0, 0⟩

def fact : Nat → Nat
  | 0 => 1
  | n + 1 => (n + 1) * fact n

/-- The number of sequences of a composition (R41). -/
def Composition.count (c : Composition) : Nat :=
  fact (c.n1 + c.n3 + c.n5 + c.n7) / (fact c.n1 * fact c.n3 * fact c.n5 * fact c.n7)

/-- The energy of a composition (R41). -/
def Composition.energy (c : Composition) : Nat := c.n1 + 9 * c.n3 + 25 * c.n5 + 49 * c.n7

/-- Whether `a` comes before `b`: less energy, then larger n1, n3, n5 (R41). -/
def Composition.before (a b : Composition) : Bool :=
  decide (a.energy < b.energy) || (decide (a.energy = b.energy) &&
    (decide (b.n1 < a.n1) || (decide (a.n1 = b.n1) &&
      (decide (b.n3 < a.n3) || (decide (a.n3 = b.n3) && decide (b.n5 < a.n5))))))

/-- All compositions of 128 over the amplitudes of a base: two on 16QAM, four on 64QAM (R41). -/
def compositions (base : Nat) : List Composition :=
  if base = 1 then (List.range 129).map fun n3 => ⟨128 - n3, n3, 0, 0⟩
  else (List.range 129).flatMap fun n3 => (List.range (129 - n3)).flatMap fun n5 =>
    (List.range (129 - n3 - n5)).map fun n7 => ⟨128 - n3 - n5 - n7, n3, n5, n7⟩

/-- The composition of a block (R41); all counts 0 in the uniform modes (R45). -/
def Mode.composition (x : Mode) : Composition :=
  if x.shaped then
    (compositions x.base).foldl
      (fun b c => if (b = .none || c.before b) && decide (2 ^ x.k ≤ c.count) then c else b) .none
  else .none

/-- One step of R42: the amplitude of the first position and what remains. -/
def unrankStep (r : Nat) (c : Composition) : Nat × Nat × Composition :=
  let c1 : Composition := ⟨c.n1 - 1, c.n3, c.n5, c.n7⟩
  let c3 : Composition := ⟨c.n1, c.n3 - 1, c.n5, c.n7⟩
  let c5 : Composition := ⟨c.n1, c.n3, c.n5 - 1, c.n7⟩
  let c7 : Composition := ⟨c.n1, c.n3, c.n5, c.n7 - 1⟩
  let m1 := if c.n1 = 0 then 0 else c1.count
  let m3 := if c.n3 = 0 then 0 else c3.count
  let m5 := if c.n5 = 0 then 0 else c5.count
  if r < m1 then (1, r, c1)
  else if r < m1 + m3 then (3, r - m1, c3)
  else if r < m1 + m3 + m5 then (5, r - m1 - m3, c5)
  else (7, r - m1 - m3 - m5, c7)

/-- The sequence of rank `r` of a composition, `len` positions (R42). -/
def unrank : Nat → Nat → Composition → List Nat
  | 0, _, _ => []
  | len + 1, r, c =>
    match unrankStep r c with
    | (a, r', c') => a :: unrank len r' c'

/-- The rank of a sequence among those of its composition: the inverse matcher (R42). -/
def rank : List Nat → Composition → Nat
  | [], _ => 0
  | a :: t, c =>
    let c1 : Composition := ⟨c.n1 - 1, c.n3, c.n5, c.n7⟩
    let c3 : Composition := ⟨c.n1, c.n3 - 1, c.n5, c.n7⟩
    let c5 : Composition := ⟨c.n1, c.n3, c.n5 - 1, c.n7⟩
    let c7 : Composition := ⟨c.n1, c.n3, c.n5, c.n7 - 1⟩
    let m1 := if c.n1 = 0 then 0 else c1.count
    let m3 := if c.n3 = 0 then 0 else c3.count
    let m5 := if c.n5 = 0 then 0 else c5.count
    match a with
    | 1 => rank t c1
    | 3 => m1 + rank t c3
    | 5 => m1 + m3 + rank t c5
    | _ => m1 + m3 + m5 + rank t c7

/-- Known sign positions of a block with their values (R43). -/
def knownSigns (s : Nat) : List (Nat × Nat) := (List.range s).map fun i => (i * 128 / s, i % 2)

/-- The amplitude bits of a label, a1 above a0 (R46). -/
def amplitudeLabel (amp : Nat) : Nat := match amp with | 1 => 0 | 3 => 1 | 5 => 3 | _ => 2

/-- The signed value of a dimension: sign bit 0 is positive (R46). -/
def dimension (sign amp : Nat) : Int := if sign = 0 then amp else -(amp : Int)

/-! ### Preamble (R54) -/

/-- One step of the PRBS23 generator: the output bit and the next state. -/
def prbs23 (st : Nat) : Nat × Nat :=
  let b := (st / 2 ^ 22 + st / 2 ^ 17) % 2
  (b, (st * 2 + b) % 2 ^ 23)

/-- The first `n` output bits from a state. -/
def prbs23Bits : Nat → Nat → List Nat
  | 0, _ => []
  | n + 1, st => (prbs23 st).1 :: prbs23Bits n (prbs23 st).2

def preambleSeedX : Nat := 0x7FFFFF
def preambleSeedY : Nat := 0x555555
def preambleSymbols : Nat := 131072
def endMarkerSymbols : Nat := 2048

/-- Symbols per superframe of each polarisation (R39). -/
def Mode.superframeSymbols (x : Mode) : Nat := 64000 * x.rateQ

/-! ### What a superframe carries (R128, R129, R132, R135, R139, R143) -/

/-- Code blocks per superframe, N_B, and the pad P in symbol periods (R128). -/
def Mode.blocks (x : Mode) : Nat := x.superframeSymbols / 4096
def Mode.pad (x : Mode) : Nat := x.superframeSymbols % 4096

/-- Codewords per data block, C (R129). -/
def Mode.codewords (x : Mode) : Nat := match x.base with | 0 => 1 | 1 => 2 | _ => 3

/-- Sent parity bits of a codeword, p, and sent information bits, k (R132). -/
def Mode.parityBits (x : Mode) : Nat := match x.rateCode with | 0 => 3277 | 1 => 2621 | _ => 2130
def Mode.infoBits (x : Mode) : Nat := 16384 - x.parityBits

/-- Data bits per data block, D_B (R139). -/
def Mode.dataBits (x : Mode) : Nat :=
  if x.shaped then 128 * x.k + 16384 - 128 * x.s - x.codewords * x.parityBits else x.codewords * x.infoBits

/-- BCH blocks per superframe, B_SF, and their information bits, I_SF (R135). -/
def Mode.bchBlocks (x : Mode) : Nat := (x.blocks - 1) * x.dataBits / 9344
def Mode.infoSf (x : Mode) : Nat := 9232 * x.bchBlocks

/-! ### Modes of the ports -/

/-- A transmit mode out of a reading of the fields: staged (`State.rd`) or active (`State.rdA`). -/
def txModeOf (rd : Field → Nat) (p : Port) : Mode :=
  ⟨rd (TX.MOD_CFG_BASE p), decide (rd (TX.MOD_CFG_SHAPED p) = 1), rd (TX.MOD_CFG_ENTROPY_E p),
    rd (TX.MOD_CFG_CODE_RATE p), rd (TX.SYM_RATE_RATE_Q p), rd (TX.SHAPE_CFG_ROLLOFF p)⟩

/-- A receive mode out of a reading of the fields. -/
def rxModeOf (rd : Field → Nat) (p : Port) : Mode :=
  ⟨rd (DEMAP.MOD_CFG_BASE p), decide (rd (DEMAP.MOD_CFG_SHAPED p) = 1), rd (DEMAP.MOD_CFG_ENTROPY_E p),
    rd (DEMAP.MOD_CFG_CODE_RATE p), rd (RXFE.SYM_RATE_RATE_Q p), rd (RXFE.SHAPE_CFG_ROLLOFF p)⟩

def State.txMode (s : State) (p : Port) : Mode := txModeOf s.rdA p
def State.rxMode (s : State) (p : Port) : Mode := rxModeOf s.rdA p
def State.txModeStaged (s : State) (p : Port) : Mode := txModeOf s.rd p
def State.rxModeStaged (s : State) (p : Port) : Mode := rxModeOf s.rd p

/-- R61: TXMOD values are valid. -/
def Mode.txOk (x : Mode) : Bool := x.modOk && x.rateOk

/-- W_max in units of 100 ps/nm for a rate, a roll-off and a carrier frequency in GHz (R81). -/
def wMax (x : Mode) (fc : Nat) : Nat :=
  let ov := if x.half then 96376 else 48188
  let den := 100 * 299792458 * x.rateQ * (200 + x.rolloff)
  if den = 0 then 600 else min 600 (ov * fc ^ 2 * 800 / den)

/-- R92 for receive values: rate, roll-off, window, carrier and scan. -/
def State.rxfeOk (s : State) (p : Port) (x : Mode) : Bool :=
  let w := s.rd (RXFE.CD_WINDOW_W p)
  let fc := s.rd (RXFE.CARRIER_FREQ_GHZ p)
  x.rateOk && decide (w ≤ wMax x fc) && decide (186000 ≤ fc ∧ fc ≤ 197000) &&
    decide ((s.rdI (RXFE.CD_SCAN_CENTRE p)).natAbs + s.rd (RXFE.CD_SCAN_HALF p) ≤ w)

/-- R123 for the demapper: the modulation values at the symbol rate. -/
def Mode.demapOk (x : Mode) : Bool := x.modOk

/-- `LE_TX.DERIVED.CFG_VALID` and `STAGED_VALID` (R61, R62). -/
def State.txValid (s : State) (p : Port) : Bool := (s.txMode p).txOk
def State.txStagedValid (s : State) (p : Port) : Bool := (s.txModeStaged p).txOk

/-- `RX_DERIVED.CFG_VALID` and `STAGED_VALID` (R92, R93). -/
def State.rxValid (s : State) (p : Port) : Bool := s.rxfeOk p (s.rxMode p)
def State.rxStagedValid (s : State) (p : Port) : Bool := s.rxfeOk p (s.rxModeStaged p)

/-- `LE_DEMAP.DERIVED.STAGED_VALID` (R123). -/
def State.demapStagedValid (s : State) (p : Port) : Bool := (s.rxModeStaged p).demapOk
def State.demapValid (s : State) (p : Port) : Bool := (s.rxMode p).demapOk

/-- The window delay of stage F6, ceil(W / 500) CCLK with W in ps/nm (R82). -/
def State.winDelay (s : State) (p : Port) : Nat := (s.rd (RXFE.CD_WINDOW_W p) + 4) / 5

/-- The front-end latency in CCLK (R78). -/
def State.feLatency (s : State) (p : Port) : Nat :=
  22 + s.winDelay p + (if (s.rxMode p).half then 128 else 64)

end Sys2Proof.Machine
end

