-- ==== Sys2Proof/Machine/Coding.lean ====
section
/-! DEFINITION. What the line carries, bit by bit: the check sequences of the frame, the outer and inner codes, the
scrambler and fill, the placement of codeword bits, the symbols of a superframe and the preamble (R40 to R46, R54, R55,
R128 to R138, R163, R169). -/

namespace Sys2Proof.Machine

/-! ### Check sequences -/

/-- One step of CRC-32 with generator 0x04C1_1DB7, most significant bit first. -/
def crc32Step (c : Nat) (b : Bool) : Nat :=
  if bitOf c 31 ^^ b then (c * 2) % 2 ^ 32 ^^^ 0x04C11DB7 else (c * 2) % 2 ^ 32

/-- The CRC-32 of R163 and R174: all ones at the start, complemented at the end. -/
def crc32 (l : List Bool) : Nat := l.foldl crc32Step 0xFFFFFFFF ^^^ 0xFFFFFFFF

/-- One step of CRC-16 with generator 0x1021. -/
def crc16Step (c : Nat) (b : Bool) : Nat :=
  if bitOf c 15 ^^ b then (c * 2) % 2 ^ 16 ^^^ 0x1021 else (c * 2) % 2 ^ 16

/-- The CRC-16 of R169: all ones at the start, no final complement. -/
def crc16 (l : List Bool) : Nat := l.foldl crc16Step 0xFFFF

/-- `n` bits of a number, most significant first. -/
def bitsOf : Nat → Nat → List Bool
  | 0, _ => []
  | n + 1, v => bitOf v n :: bitsOf n v

/-- The number that bits spell, most significant first. -/
def ofBits (l : List Bool) : Nat := l.foldl (fun a b => 2 * a + bit b) 0

/-- Bytes in transmission order: the most significant bit first (R160). -/
def byteBits (l : List Nat) : List Bool := l.flatMap (bitsOf 8)

/-- Bits `[from, from + n)` of a bit string as a number; missing bits read as 0. -/
def fieldAt (l : List Bool) (start n : Nat) : Nat :=
  (List.range n).foldl (fun a i => 2 * a + bit (l.getD (start + i) false)) 0

/-! ### Scrambler (R135, R136) -/

/-- One step of a PRBS31 generator: the output bit and the next state. -/
def prbs31 (st : Nat) : Bool × Nat :=
  let b := bitOf st 30 ^^ bitOf st 27
  (b, (st * 2 + bit b) % 2 ^ 31)

/-- Add the generator's output to bits; the second part is the state left. -/
def prbsAdd : Nat → List Bool → List Bool × Nat
  | st, [] => ([], st)
  | st, x :: t =>
    let r := prbsAdd (prbs31 st).2 t
    ((x ^^ (prbs31 st).1) :: r.1, r.2)

def scrambleSeed : Nat := 0x7FFFFFFF
def fillSeed : Nat := 0x55555555

/-! ### Outer code (R134) -/

/-- Multiplication in GF(2^14) with field polynomial x^14 + x^5 + x^3 + x + 1. -/
def gf14Mul (a b : Nat) : Nat :=
  (List.range 14).reverse.foldl (fun acc i =>
    let d := if acc * 2 < 2 ^ 14 then acc * 2 else (acc * 2) ^^^ 0x402B
    if bitOf b i then d ^^^ a else d) 0

/-- α^n. -/
def gf14Pow : Nat → Nat
  | 0 => 1
  | n + 1 => gf14Mul (gf14Pow n) 2

/-- Multiply a polynomial over GF(2^14), lowest coefficient first, by (x + r). -/
def polyTimes (p : List Nat) (r : Nat) : List Nat :=
  (0 :: p).zipWith (· ^^^ ·) ((p.map fun c => gf14Mul c r) ++ [0])

/-- The 14 conjugates of an element. -/
def conjugates : Nat → Nat → List Nat
  | 0, _ => []
  | n + 1, r => r :: conjugates n (gf14Mul r r)

/-- The minimal polynomial of α^i as a binary polynomial; each α^i of R134 has 14 conjugates. -/
def minPoly (i : Nat) : Nat :=
  ofBits (((conjugates 14 (gf14Pow i)).foldl polyTimes [1]).reverse.map fun c => decide (c = 1))

/-- Product of binary polynomials. -/
def polyMul2 (a b : Nat) : Nat :=
  (List.range 128).foldl (fun acc i => if bitOf b i then acc ^^^ (a * 2 ^ i) else acc) 0

/-- The generator polynomial, of degree 112. -/
def bchGenerator : Nat := ([1, 3, 5, 7, 9, 11, 13, 15].map minPoly).foldl polyMul2 1

/-- The 112 parity bits of information bits, the highest degree first. -/
def bchParity (info : List Bool) : List Bool :=
  let g := bchGenerator % 2 ^ 112
  bitsOf 112 (info.foldl (fun r b => if bitOf r 111 ^^ b then (r * 2) % 2 ^ 112 ^^^ g else (r * 2) % 2 ^ 112) 0)

/-- A BCH block. -/
def bchBlock (info : List Bool) : List Bool := info ++ bchParity info

/-! ### Inner code (R131 to R133) -/

/-- Block rows M, shortened bits S and sent parity bits of a rate (R132). -/
def ldpcRows (rateCode : Nat) : Nat := match rateCode with | 0 => 52 | 1 => 41 | _ => 34
def ldpcShort (rateCode : Nat) : Nat := match rateCode with | 0 => 77 | 1 => 125 | _ => 82

/-- The non-zero entries of an information column: row and shift (R131). -/
def ldpcColumn (m j : Nat) : List (Nat × Nat) :=
  let u := m / 3
  let v := j / m % u
  [(j % m, 0), ((j + u) % m, 1), ((j + 2 * u + v) % m, 2)].map fun r => (r.1, (19 * j + 37 * r.2 + 5 * r.1) % 64)

/-- The product of a circulant with a block column: bit r is bit (r + e) mod 64 (R131). -/
def circulant (e col : Nat) : Nat := col / 2 ^ e + (col % 2 ^ e) * 2 ^ (64 - e)

/-- The block column a list of 64 bits makes: bit x of the list is bit x. -/
def blockColumn (l : List Bool) : Nat := ofBits l.reverse

/-- The sums s_i of the information columns (R133). -/
def ldpcSums (m : Nat) (cols : List Nat) : List Nat :=
  (cols.zipIdx).foldl (fun s c => (ldpcColumn m c.2).foldl (fun s e => s.set e.1 (s.getD e.1 0 ^^^ circulant e.2 c.1)) s)
    (List.replicate m 0)

/-- The parity blocks: the running sums (R133). -/
def ldpcParityBlocks : Nat → List Nat → List Nat
  | _, [] => []
  | p, s :: t => (p ^^^ s) :: ldpcParityBlocks (p ^^^ s) t

/-- The sent parity bits of a codeword's sent information bits (R132, R133). -/
def ldpcParity (rateCode p : Nat) (info : List Bool) : List Bool :=
  let m := ldpcRows rateCode
  let mother := List.replicate (ldpcShort rateCode) false ++ info
  let cols := (chunks 64 (258 - m) mother).map blockColumn
  ((ldpcParityBlocks 0 (ldpcSums m cols)).flatMap fun b => (bitsOf 64 b).reverse).take p

/-! ### Placement (R137, R138) -/

/-- Reverse the order of 14 bits. -/
def rev14 (w : Nat) : Nat := ofBits (bitsOf 14 w).reverse

/-- The known signs of one block or pad of `groups` groups: sign position and value (R43, R137). -/
def knownOf (x : Mode) (groups : Nat) : List (Nat × Nat) :=
  (List.range groups).flatMap fun m => [0, 2].flatMap fun c0 => (knownSigns x.s).map fun kv =>
    (4 * (64 * m + kv.1 / 2) + c0 + kv.1 % 2, kv.2)

/-- What a sign position holds: 0 data or fill, 1 a known 0, 2 a known 1, 3 parity. -/
def signKinds (x : Mode) (groups parityLen : Nat) : Array Nat :=
  let a := (knownOf x groups).foldl (fun a kv => a.setIfInBounds kv.1 (1 + kv.2)) (Array.replicate (256 * groups) 0)
  if parityLen = 0 then a
  else
    (((List.range 16384).map rev14).filter fun v => a.getD v 0 = 0).take parityLen |>.foldl
      (fun a v => a.setIfInBounds v 3) a

/-- The parity region of a code block in its order. -/
def parityRegion (kinds : Array Nat) : List Nat := ((List.range 16384).map rev14).filter fun v => kinds.getD v 0 = 3

/-- Labels of a stretch of symbol periods: the amplitude of dimension 4t + c, and its sign bit. -/
structure Labels where
  amp : Array Nat
  sign : Array Bool

/-- Amplitude bits per dimension, a (R129). -/
def Mode.ampBits (x : Mode) : Nat := x.base

/-- The amplitude a label of `a` bits stands for (R46). -/
def ampOfLabel (n : Nat) : Nat := match n with | 0 => 1 | 1 => 3 | 3 => 5 | _ => 7

/-- The dimensions of a symbol period in amplitude-list order (R137). -/
def dimOrder (t : Nat) : List Nat := (List.range 4).map fun j => 4 * t + (j + t) % 4

/-- Fill the amplitudes of group `m` from bits (R138, step 1). -/
def fillAmps (x : Mode) (comp : Composition) (m : Nat) (st : Labels × List Bool) : Labels × List Bool :=
  if x.shaped then
    [0, 2].foldl (fun st c0 =>
      let seq := unrank 128 (ofBits (st.2.take x.k)) comp
      let amp := (seq.zipIdx).foldl (fun a d => a.setIfInBounds (4 * (64 * m + d.2 / 2) + c0 + d.2 % 2) d.1) st.1.amp
      ({ st.1 with amp := amp }, st.2.drop x.k)) st
  else
    ((List.range 64).flatMap fun t => dimOrder (64 * m + t)).foldl (fun st d =>
      let a := x.ampBits
      ({ st.1 with amp := st.1.amp.setIfInBounds d (if a = 0 then 1 else ampOfLabel (ofBits (st.2.take a))) },
        st.2.drop a)) st

/-- Fill the signs of group `m` that are neither known nor parity (R138, step 2). -/
def fillSigns (kinds : Array Nat) (fillParity : Bool) (m : Nat) (st : Labels × List Bool) : Labels × List Bool :=
  ((List.range 256).map (256 * m + ·)).foldl (fun st v =>
    match kinds.getD v 0 with
    | 1 => ({ st.1 with sign := st.1.sign.setIfInBounds v false }, st.2)
    | 2 => ({ st.1 with sign := st.1.sign.setIfInBounds v true }, st.2)
    | 3 => if fillParity then
        ({ st.1 with sign := st.1.sign.setIfInBounds v (st.2.headD false) }, st.2.drop 1) else st
    | _ => ({ st.1 with sign := st.1.sign.setIfInBounds v (st.2.headD false) }, st.2.drop 1)) st

/-- The labels of `groups` groups out of bits, and the bits left. -/
def fillBlock (x : Mode) (comp : Composition) (kinds : Array Nat) (groups : Nat) (fillParity : Bool) (src : List Bool) :
    Labels × List Bool :=
  (List.range groups).foldl (fun st m => fillSigns kinds fillParity m (fillAmps x comp m st))
    (⟨Array.replicate (256 * groups) 1, Array.replicate (256 * groups) false⟩, src)

/-- Bits that `fillBlock` takes. -/
def blockDemand (x : Mode) (kinds : Array Nat) (groups : Nat) (fillParity : Bool) : Nat :=
  groups * (if x.shaped then 2 * x.k else 256 * x.ampBits) +
    (kinds.toList.filter fun k => k = 0 ∨ (fillParity ∧ k = 3)).length

/-- The label bits that an information list names, in its order: dimension 4t + c and bit of the label, 0 the sign, 1 on the
amplitude bits (R137). -/
def infoPlaces (x : Mode) (kinds : Array Nat) : List (Nat × Nat) :=
  let amps := ((List.range 4096).flatMap dimOrder).flatMap fun d => (List.range x.ampBits).map fun k => (d, k + 1)
  let known := ((List.range 16384).filter fun v => kinds.getD v 0 = 1 ∨ kinds.getD v 0 = 2).map fun v => (v, 0)
  let rest := (((List.range 16384).map rev14).filter fun v => kinds.getD v 0 = 0).map fun v => (v, 0)
  amps ++ known ++ rest

/-- A label bit of labels: the sign, or an amplitude bit, a1 before a0 (R46). -/
def labelBit (x : Mode) (l : Labels) (e : Nat × Nat) : Bool :=
  if e.2 = 0 then l.sign.getD e.1 false else bitOf (amplitudeLabel (l.amp.getD e.1 1)) (x.ampBits - e.2)

/-- The information list of a data block (R137). -/
def infoList (x : Mode) (kinds : Array Nat) (l : Labels) : List Bool := (infoPlaces x kinds).map (labelBit x l)

/-- Every `c`-th element of a list, from the `i`-th on. -/
def deal (c i : Nat) (l : List Bool) : List Bool := (l.zipIdx.filter fun e => e.2 % c = i).map (·.1)

/-- The parity a data block leaves for the next block, in parity-region order (R138). -/
def blockParity (x : Mode) (info : List Bool) : List Bool :=
  let c := x.codewords
  let ps := (List.range c).map fun i => ldpcParity x.rateCode x.parityBits (deal c i info)
  (List.range (c * x.parityBits)).map fun g => (ps.getD (g % c) []).getD (g / c) false

/-- Put parity bits into a block's parity region. -/
def placeParity (kinds : Array Nat) (parity : List Bool) (l : Labels) : Labels :=
  { l with sign := ((parityRegion kinds).zip parity).foldl (fun a e => a.setIfInBounds e.1 e.2) l.sign }

/-- The symbols of labels: for each symbol period the values of XI, XQ, YI and YQ (R46). -/
def labelSymbols (l : Labels) : List (List Int) :=
  (List.range (l.amp.size / 4)).map fun t => (List.range 4).map fun c =>
    dimension (bit (l.sign.getD (4 * t + c) false)) (l.amp.getD (4 * t + c) 1)

/-! ### The symbol superframe (R128, R130, R135) -/

/-- The parity that the last data block of a superframe leaves to the next seam, with its configuration's parity bits per
code block; none where a preamble took its place (R130, R137). -/
abbrev SeamParity := Option (List Bool)

/-- The scrambled data bits of a superframe out of its information bits (R135). -/
def superframeData (x : Mode) (info : List Bool) : List Bool :=
  let n := x.bchBlocks
  let info := info ++ List.replicate (x.infoSf - info.length) false
  let blocks := (chunks 9232 n info).flatMap bchBlock
  let total := (x.blocks - 1) * x.dataBits
  (prbsAdd scrambleSeed (blocks ++ List.replicate (total - blocks.length) false)).1

/-- The data blocks of a superframe in order: symbols, and the parity left by the last one (R130, R138). -/
def dataBlocks (x : Mode) (comp : Composition) (kinds : Array Nat) :
    Nat → Bool → List Bool → List Bool → List Bool → List (List Int) × List Bool
  | 0, _, parity, _, _ => ([], parity)
  | n + 1, first, parity, data, fill =>
    let (l, rest) := fillBlock x comp kinds 64 false data
    let l := placeParity kinds (if first then fill else parity) l
    let next := blockParity x (infoList x kinds l)
    let r := dataBlocks x comp kinds n false next rest []
    (labelSymbols l ++ r.1, r.2)

/-- The symbols of a superframe: the seam, the pad, the data blocks; with the parity left for the next seam. The parity
region of data block 1 carries fill, in ascending order of its positions. -/
def superframeOf (x : Mode) (seam : SeamParity) (info : List Bool) : List (List Int) × List Bool :=
  let comp := x.composition
  let own := x.codewords * x.parityBits
  let seamKinds := signKinds x 64 (match seam with | some p => p.length | none => own)
  let need := blockDemand x seamKinds 64 seam.isNone
  let padGroups := x.pad / 64
  let padKinds := signKinds x padGroups 0
  let kinds := signKinds x 64 own
  let fill := (prbsAdd fillSeed (List.replicate (need + blockDemand x padKinds padGroups false + own) false)).1
  let (sl, fill) := fillBlock x comp seamKinds 64 seam.isNone fill
  let sl := match seam with | some p => placeParity seamKinds p sl | none => sl
  let (pl, fill) := fillBlock x comp padKinds padGroups false fill
  -- the fill of data block 1 comes in ascending order of positions; the region lists them in sign order
  let asc := (List.range 16384).filter fun v => kinds.getD v 0 = 3
  let fillAt := (asc.zip fill).foldl (fun a e => a.setIfInBounds e.1 e.2) (Array.replicate 16384 false)
  let first := (parityRegion kinds).map fun v => fillAt.getD v false
  let r := dataBlocks x comp kinds (x.blocks - 1) true [] (superframeData x info) first
  (labelSymbols sl ++ labelSymbols pl ++ r.1, r.2)

/-! ### Ethernet frame check sequence (IEEE 802.3, R193, R290) -/

/-- One bit of the reflected CRC-32. -/
def ethCrcStep (c : Nat) : Nat := if c % 2 = 1 then c / 2 ^^^ 0xEDB88320 else c / 2

/-- One byte into the register. -/
def ethCrcByte (c b : Nat) : Nat := (List.range 8).foldl (fun a _ => ethCrcStep a) (c ^^^ b)

/-- The four bytes of the frame check sequence in the order they are sent. -/
def ethFcs (l : List Nat) : List Nat := (bytesOf 4 (l.foldl ethCrcByte 0xFFFFFFFF ^^^ 0xFFFFFFFF)).reverse

/-! ### Preamble (R54, R55) -/

/-- Generator bits from a seed as a list, `n` of them. -/
def prbs23List (n seed : Nat) : List Nat := prbs23Bits n seed

/-- The preamble: per symbol XI, XQ, YI, YQ as signs ±1 (to be scaled by 1/√2), the end marker inverted (R54). -/
def preamble : List (List Int) :=
  let bx := prbs23List (2 * preambleSymbols) preambleSeedX
  let by_ := prbs23List (2 * preambleSymbols) preambleSeedY
  let sgn := fun (b i : Nat) => if (b = 0) ≠ (preambleSymbols ≤ i + endMarkerSymbols) then (1 : Int) else -1
  ((((chunks 2 preambleSymbols bx).zip (chunks 2 preambleSymbols by_)).zipIdx).map fun e =>
    (e.1.1 ++ e.1.2).map fun b => sgn b e.2)

end Sys2Proof.Machine
end

