-- ==== Sys2Proof/Machine/Num.lean ====
section
/-! DEFINITION. Real-valued functions that formulas of the specification use (logarithm, exponential, cosine and sine), with
64 or more binary fraction bits; how a real value is rounded is the model's (log entry 82). -/

namespace Sys2Proof.Machine

/-- The number of binary fraction bits of the values below. -/
def fracBits : Nat := 64

/-- The number of binary fraction bits carried inside. -/
def guardBits : Nat := 96

/-- The largest r with r² ≤ n, from bit `k` down. -/
def isqrtFrom (n : Nat) : Nat → Nat → Nat
  | 0, r => r
  | k + 1, r => isqrtFrom n k (if (r + 2 ^ k) ^ 2 ≤ n then r + 2 ^ k else r)

/-- The square root, rounded down. -/
def isqrt (n : Nat) : Nat := isqrtFrom n (Nat.log2 n / 2 + 1) 0

/-- π × 2^96, rounded down. -/
def piFix : Nat := 248902613312231085230521944622

/-- 2 × artanh(n / d) × 2^96 for 0 ≤ n / d ≤ 1/3: `k` terms from the term of degree `2 i + 1` on, `t` the power reached. -/
def artanhTerms : Nat → Nat → Nat → Nat → Nat → Nat
  | 0, _, _, _, _ => 0
  | k + 1, i, t, n, d => 2 * t / (2 * i + 1) + artanhTerms k (i + 1) (t * n * n / (d * d)) n d

/-- ln 2 × 2^96. -/
def ln2Fix : Nat := artanhTerms 40 0 (2 ^ 96 / 3) 1 3

/-- ln(n / d) × 2^96 for positive numbers. -/
def lnGuard (n d : Nat) : Int :=
  let k : Int := (Nat.log2 n : Int) - Nat.log2 d
  -- n / d = 2^k × a / b with a / b between 1/2 and 2
  let a := n * 2 ^ (-k).toNat
  let b := d * 2 ^ k.toNat
  k * ln2Fix +
    (if b ≤ a then (artanhTerms 40 0 (2 ^ 96 * (a - b) / (a + b)) (a - b) (a + b) : Int)
     else -(artanhTerms 40 0 (2 ^ 96 * (b - a) / (a + b)) (b - a) (a + b) : Int))

/-- ln(n / d) in 2^−64; 0 where one of them is 0. -/
def lnFix (n d : Nat) : Int := if n = 0 ∨ d = 0 then 0 else (lnGuard n d).ediv (2 ^ 32)

/-- The terms of e^(r / 2^96) from degree `i` on, `t` the term reached. -/
def expTerms : Nat → Nat → Nat → Nat → Nat
  | 0, _, _, _ => 0
  | k + 1, i, t, r => t + expTerms k (i + 1) (t * r / ((i + 1) * 2 ^ 96)) r

/-- e^(x / 2^64) in 2^−64. -/
def expFix (x : Int) : Nat :=
  let y := x * 2 ^ 32
  let k := y.ediv ln2Fix
  let r := (y.emod ln2Fix).toNat
  let e := expTerms 32 0 (2 ^ 96) r
  if 0 ≤ k then e * 2 ^ k.toNat / 2 ^ 32 else e / 2 ^ (32 + (-k).toNat)

/-- 10^(k / 1000) in 2^−64. -/
def pow10Fix (k : Int) : Nat := expFix ((k * lnFix 10 1).ediv 1000)

/-- 1,000 × log10(n / d), as numerator and denominator: 10 × log10 in units of 0.01 dB (R120, R121). -/
def dbRatio (n d : Nat) : Int × Int := (1000 * lnFix n d, lnFix 10 1)

/-- ln(1 + e^(−x)) / ln 2 in 2^−64, x in 2^−64 (R122). -/
def softPlus (x : Int) : Nat :=
  ((lnFix (2 ^ 64 + expFix (-x)) (2 ^ 64) * 2 ^ 64).ediv (lnFix 2 1)).toNat

/-- Whether a power ratio n / d is at least `q` quarters of a dB: (n / d)^40 ≥ 10^q. -/
def ratioAtLeast (n d q : Nat) : Bool := decide (10 ^ q * d ^ 40 ≤ n ^ 40)

/-- Cosine and sine terms of an angle r / 2^96 in radians: alternating powers from degree `i` on. -/
def circleTerms : Nat → Nat → Nat → Nat → Int
  | 0, _, _, _ => 0
  | k + 1, i, t, r => (t : Int) - circleTerms k (i + 2) (t * r / ((i + 1) * 2 ^ 96) * r / ((i + 2) * 2 ^ 96)) r

/-- Cosine and sine, in 2^−30, of an angle below a quarter turn in 2^−32 turns. -/
def cisQuarter (a : Nat) : Int × Int :=
  let r := 2 * piFix * a / 2 ^ 32
  ((circleTerms 16 0 (2 ^ 96) r).ediv (2 ^ 66), (circleTerms 16 1 r r).ediv (2 ^ 66))

/-- Cosine and sine, in 2^−30, of an angle in 2^−32 turns. -/
def cis (a : Int) : Int × Int :=
  let n := unsigned 32 a
  let c := cisQuarter (n % 2 ^ 30)
  match n / 2 ^ 30 with
  | 0 => c
  | 1 => (-c.2, c.1)
  | 2 => (-c.1, -c.2)
  | _ => (c.2, -c.1)

/-- A complex number turned by an angle in 2^−32 turns. -/
def turn (z : Int × Int) (a : Int) : Int × Int :=
  let c := cis a
  ((z.1 * c.1 - z.2 * c.2).ediv (2 ^ 30), (z.1 * c.2 + z.2 * c.1).ediv (2 ^ 30))

/-- The angle of a complex number in 2^−32 turns, from 0 on, from bit `k` down; the number lies in the first quadrant. -/
def argFrom (z : Int × Int) : Nat → Nat → Nat
  | 0, a => a
  | k + 1, a =>
    let c := cisQuarter (a + 2 ^ k)
    argFrom z k (if 0 ≤ z.2 * c.1 - z.1 * c.2 then a + 2 ^ k else a)

/-- The angle of a complex number in 2^−32 turns, from 0 on; 0 for 0. -/
def argOf (z : Int × Int) : Nat :=
  if 0 < z.1 ∧ 0 ≤ z.2 then argFrom z 30 0
  else if z.1 ≤ 0 ∧ 0 < z.2 then 2 ^ 30 + argFrom (z.2, -z.1) 30 0
  else if z.1 < 0 ∧ z.2 ≤ 0 then 2 ^ 31 + argFrom (-z.1, -z.2) 30 0
  else if 0 ≤ z.1 ∧ z.2 < 0 then 3 * 2 ^ 30 + argFrom (-z.2, z.1) 30 0
  else 0

/-! ### Rational complex numbers -/

abbrev CRat := Rat × Rat

def cadd (a b : CRat) : CRat := (a.1 + b.1, a.2 + b.2)
def csub (a b : CRat) : CRat := (a.1 - b.1, a.2 - b.2)
def cmul (a b : CRat) : CRat := (a.1 * b.1 - a.2 * b.2, a.1 * b.2 + a.2 * b.1)
def cconj (a : CRat) : CRat := (a.1, -a.2)
def cscale (r : Rat) (a : CRat) : CRat := (r * a.1, r * a.2)
def cnorm (a : CRat) : Rat := a.1 * a.1 + a.2 * a.2
def csum (l : List CRat) : CRat := l.foldl cadd (0, 0)

/-- An angle of some turns, in 2^−32 turns. -/
def turns (r : Rat) : Int := (r * 2 ^ 32).floor

/-- Cosine and sine of an angle of some turns. -/
def cisTurns (r : Rat) : CRat := let c := cis (turns r); ((c.1 : Rat) / 2 ^ 30, (c.2 : Rat) / 2 ^ 30)

/-- The angle of a complex number in turns, from −1/2 on. -/
def cargTurns (a : CRat) : Rat :=
  (signed 32 (argOf ((a.1 * 2 ^ 40).floor, (a.2 * 2 ^ 40).floor)) : Rat) / 2 ^ 32

/-- The square root of a rational number, to 32 binary places. -/
def sqrtRat (r : Rat) : Rat := (isqrt (r * 2 ^ 64).floor.toNat : Rat) / 2 ^ 32

/-- π. -/
def piRat : Rat := (piFix : Rat) / 2 ^ 96

/-- The arc cosine, in turns, of the square root of `c2` between 0 and 1. -/
def acosTurns (c2 : Rat) : Rat := if 1 ≤ c2 then 0 else cargTurns (sqrtRat c2, sqrtRat (1 - c2))

/-- A series between its values: the cubic through the four about `t` (R108; log entry 89). -/
def cubic (x : Int → Rat) (t : Rat) : Rat :=
  let n := t.floor
  let m := t - n
  (m + 1) * (m - 1) * (m - 2) / 2 * x n - m * (m - 1) * (m - 2) / 6 * x (n - 1) - (m + 1) * m * (m - 2) / 2 * x (n + 1) +
    (m + 1) * m * (m - 1) / 6 * x (n + 2)

/-- The same of a complex series. -/
def ccubic (x : Int → CRat) (t : Rat) : CRat := (cubic (fun n => (x n).1) t, cubic (fun n => (x n).2) t)

end Sys2Proof.Machine
end

