-- ==== Sys2Proof/Machine/Operands.lean ====
section
/-! DEFINITION. The effective values of configuration fields: where a field is "read as" a limit, the value the hardware
uses (the page tables of the owning chapters). -/

namespace Sys2Proof.Machine

open F

/-- A value of 0 is read as 1. -/
def atLeast1 (n : Nat) : Nat := max 1 n

/-- A value outside a range is read as the nearer limit. -/
def clampNat (lo hi n : Nat) : Nat := max lo (min hi n)

/-- `RAMP_TIME.RAMP_MS`, 1 to 100 (R62). -/
def State.rampMs (s : State) (p : Port) : Nat := clampNat 1 100 (s.rd (TX.RAMP_TIME_RAMP_MS p))

/-- `TX_CTRL.PRE_INTERVAL`, 1 to 15 (R62). -/
def State.preInterval (s : State) (p : Port) : Nat := atLeast1 (s.rd (TX.TX_CTRL_PRE_INTERVAL p))

/-- `REF_CFG.WTR` in s, at most 720 (R336). -/
def State.refWtr (s : State) (i : Nat) : Nat := min 720 (s.rd (CK_REF.REF_CFG_WTR i))

/-- `DPLL_CFG.SLOPE`, at most 100 (R337). -/
def State.slope (s : State) : Nat := min 100 (s.rd (CK_DPLL.DPLL_CFG_SLOPE 0))

/-- `ROOST_CFG.AVG_LOG2`, at most 10 (R336). -/
def State.roostLog2 (s : State) : Nat := min 10 (s.rd CK_REF.ROOST_CFG_AVG_LOG2)

/-- `PROBE_CFG.DIV` as the hardware reads it: 0 is read as 1 (R324). -/
def probeDiv (n : Nat) : Nat := atLeast1 n

/-- `TRACE_CFG.K`, 8 to 30 (R463). -/
def State.traceK (s : State) (i : Nat) : Nat := clampNat 8 30 (s.rd (MG_OBS.TRACE_CFG_K i))

/-- `TRACE_RING_CFG.LOG2`, 4 to 20 (R463). -/
def State.traceLog2 (s : State) : Nat := clampNat 4 20 (s.rd MG_OBS.TRACE_RING_CFG_LOG2)

/-! ### States that several blocks read -/

/-- `ACQ_STATE` (R93). -/
def acqIdle : Nat := 0
def acqNoSignal : Nat := 1
def acqCdScan : Nat := 2
def acqNoCarrier : Nat := 3
def acqTiming : Nat := 4
def acqPreHunt : Nat := 5
def acqPreTrack : Nat := 6
def acqEqTrain : Nat := 7
def acqFrameWait : Nat := 8
def acqAcquired : Nat := 9

def State.acqSt (s : State) (p : Port) : Nat := s.rd (RXFE.ACQ_STATUS_ACQ_STATE p)
def State.inRing (s : State) : Bool := s.on HB_RING.RING_STATUS_IN_RING
def State.laneMode (s : State) (n : Nat) : Nat := s.rd (HL_LANE.LANE_CFG_MODE n)
def State.laneOn (s : State) (n : Nat) : Bool := s.on (HL_LANE.LANE_CFG_ENABLE n)

end Sys2Proof.Machine
end

