-- ==== Sys2Proof/Machine/CalTask.lean ====
section
/-! DEFINITION. The tasks of the calibration service (R424 to R427): 0 transmit skew E, 1 transmit skew W, 2 clock phase E,
3 clock phase W. -/

namespace Sys2Proof.Machine

open F

def State.taskOf (s : State) (t : Nat) : CalTask := Tab.get CalTask.init s.power.task t

def State.onTask (s : State) (t : Nat) (f : CalTask → CalTask) : State :=
  { s with power := { s.power with task := Tab.upd CalTask.init s.power.task t f } }

/-- Set or clear a task's bit in a field of `CAL_STATE`. -/
def State.taskBit (s : State) (f : Field) (t : Nat) (v : Bool) : State := s.wr f (setBit (s.rd f) t v)

/-- A run is abandoned, and the task restarts when its condition next holds (R425, R427). -/
def State.abandonTask (s : State) (t : Nat) : State :=
  let s := (s.taskBit PWR_MGR.CAL_STATE_ACTIVE t false).taskBit PWR_MGR.CAL_STATE_PENDING t false
  s.onTask t fun c => { c with fresh := true }

/-- The tasks of a port (R424). -/
def portTasks (p : Port) : List Nat := [p.toNat, 2 + p.toNat]

/-- The sum and the number of the sensors of a task's temperature, in 1/128 °C (R413, R424). -/
def State.taskTemp (s : State) (t : Nat) : Int × Int :=
  let d := 8 * (t % 2)
  let at_ := fun k => s.mon.temps.getD (d + k) 0
  if t < 2 then (at_ 0 + at_ 1, 2) else (((List.range 8).map at_).foldl (· + ·) 0, 8)

/-- The condition under which a task runs (R424). -/
def State.taskRuns (s : State) (t : Nat) : Bool :=
  s.on CK_SYN.SYN_STATUS_RCLK_OK && (decide (2 ≤ t) || s.on (TX.TX_CTRL_TX_ENABLE (Port.ofBit t)))

/-- The HOLD bit of a task (R425). -/
def State.taskHeld (s : State) (t : Nat) : Bool :=
  if t < 2 then s.on PWR_MGR.CAL_SCHED_HOLD_TXS else s.on PWR_MGR.CAL_SCHED_HOLD_CLKPH

/-- A run starts and latches T_REF (R425). -/
def State.taskStart (s : State) (t : Nat) : State :=
  let s := (s.taskBit PWR_MGR.CAL_STATE_ACTIVE t true).taskBit PWR_MGR.CAL_STATE_DEFERRED t false
  s.onTask t fun c => { c with tRef := (s.taskTemp t).1, fresh := false }

/-- A trigger of a task (R425, R427): it starts a run, makes one pending, or is deferred by power-cap stage 2. A held task
and one whose correction is frozen start none. -/
def State.taskTrigger (s : State) (t : Nat) : State :=
  if s.taskHeld t || (s.taskOf t).frozen then s
  else if bitOf (s.rd PWR_MGR.CAL_STATE_ACTIVE) t then s.taskBit PWR_MGR.CAL_STATE_PENDING t true
  else if decide (2 ≤ s.rd PWR_MGR.CAP_STATUS_STAGE) then s.taskBit PWR_MGR.CAL_STATE_DEFERRED t true
  else s.taskStart t

/-- The HOLD bit of a task is set: a run in progress stops after its current step (R425). -/
def State.taskHold (s : State) (t : Nat) : State :=
  (s.taskBit PWR_MGR.CAL_STATE_ACTIVE t false).taskBit PWR_MGR.CAL_STATE_PENDING t false

end Sys2Proof.Machine
end

