-- ==== Sys2Proof/Machine/Flags.lean ====
section
/-! DEFINITION. Events: status bits, counters, the page summaries, the non-maskable path, INT_N and the MSI-X latches
(R440, R444, R452 to R456, R378). -/

namespace Sys2Proof.Machine

open F

/-- The maskable pending events of a page, as bits (R453). -/
def State.pendingBits (s : State) (page : Nat) : Nat :=
  (s.rd (HDR.EVT_STATUS_EVENTS page)) &&& (0xFFFFFFFF ^^^ s.rd (HDR.EVT_MASK_MASK page)) &&&
    (0xFFFFFFFF ^^^ Ev.nonMaskable page)

/-- The summary of a page: a pending event not selected to NMI_N; the completion bits of `DMA_ENG` have paths of their
own (R453, R455). -/
def State.summary (s : State) (page : Nat) : Bool :=
  let b := s.pendingBits page &&& (0xFFFFFFFF ^^^ s.rd (HDR.EVT_NMI_SEL_NMI_SEL page))
  decide ((if page = 6 then b &&& 0xFFFF else b) ≠ 0)

/-- A completion bit of DMA channel `c` is pending (R455). -/
def State.dmaSummary (s : State) (c : Nat) : Bool :=
  bitOf (s.pendingBits 6 &&& (0xFFFFFFFF ^^^ s.rd (HDR.EVT_NMI_SEL_NMI_SEL 6))) (16 + c)

/-- A page holds a pending event selected to NMI_N (R453). -/
def State.nmiSelected (s : State) (page : Nat) : Bool :=
  decide (s.pendingBits page &&& s.rd (HDR.EVT_NMI_SEL_NMI_SEL page) ≠ 0)

/-- Some bit of `NMI_CAUSE` is set. -/
def State.nmiCause (s : State) : Bool :=
  s.on MG_CTL.NMI_CAUSE_EXHAUSTED || s.on MG_CTL.NMI_CAUSE_RCLK_FAIL || s.on MG_CTL.NMI_CAUSE_FATAL

/-- NMI_N is low (R453, R378). -/
def State.nmiLow (s : State) : Bool := s.nmiCause || (List.range 47).any s.nmiSelected

/-- The vector a page is routed to; 0 is read as 17 (R463). -/
def State.routeVec (s : State) (page : Nat) : Nat :=
  let v := s.rd (MG_OBS.PAGE_ROUTE_VEC page)
  if v = 0 then 17 else v

/-- Set the pending latch of a vector (R456). -/
def State.latchVec (s : State) (v : Nat) : State := { s with msixLatch := addSorted s.msixLatch (v % 64) }

/-- Set the latches of the sources of a page that changed from 0 to 1 since `before` (R456). -/
def State.edges (before s : State) (page : Nat) : State :=
  let s := s.cond (s.summary page && !before.summary page && s.on (MG_OBS.PAGE_ROUTE_MSIX_EN page))
    (fun s => s.latchVec (s.routeVec page))
  if page = 6 then
    s.forEach (List.range 16) fun c s =>
      s.cond (s.dmaSummary c && !before.dmaSummary c) fun s => s.latchVec (max 1 (s.rd (DMA_ENG.CH_CTRL_MSIX c)))
  else s

/-- The level INT_N should have (R455). -/
def State.intLevel (s : State) : Bool :=
  (List.range 47).any (fun p => s.on (MG_OBS.PAGE_ROUTE_INT_EN p) && s.summary p) ||
    (s.on (MG_OBS.PAGE_ROUTE_INT_EN 6) && (List.range 16).any s.dmaSummary)

/-- The non-maskable path of an event bit (R378): cause, page, latch of vector 0. -/
def State.nonMaskable (s : State) (page bitNo : Nat) : State :=
  if bitOf (Ev.nonMaskable page) bitNo then
    (if page = 7 then s.wr MG_CTL.NMI_CAUSE_RCLK_FAIL 1
      else (s.wr MG_CTL.NMI_CAUSE_EXHAUSTED 1).wr MG_CTL.NMI_PAGE_PAGE page).latchVec 0
  else s

/-- Set an event bit of a page, with what follows from the setting (R452 to R456). -/
def State.setStatus (s : State) (page bitNo : Nat) : State :=
  let s' := (s.wr (HDR.EVT_STATUS_EVENTS page)
    (setBit (s.rd (HDR.EVT_STATUS_EVENTS page)) bitNo true)).nonMaskable page bitNo
  s.edges s' page

/-- An event: it counts and sets its status bit; a quantity of 0 does neither (R444). Events outside the control die cannot
occur while RCLK is stopped (R440). INT_N is settled apart. -/
def State.raiseRaw (s : State) (e : Evt) (n : Nat) : State :=
  if n = 0 ∨ (otherDie e.page && s.rclkStopped) then s else (s.count e.page e.off n).setStatus e.page e.bit

/-- Bring INT_N to its level; its assertion is an event of `MG_OBS` (R455, R464). -/
def State.settleInt (s : State) : State :=
  if s.intLevel then
    if s.intLow then s else { s with intLow := true }.raiseRaw Ev.MG_OBS.intN 1
  else { s with intLow := false }

/-- An event that counts a quantity (R444). -/
def State.raiseN (s : State) (e : Evt) (n : Nat) : State := (s.raiseRaw e n).settleInt

/-- An event (R444, R452). -/
def State.raise (s : State) (e : Evt) : State := s.raiseN e 1

/-- An event where a condition holds. -/
def State.raiseIf (s : State) (b : Bool) (e : Evt) : State := if b then s.raise e else s

/-- The FATAL cause of the non-maskable path (R369, R378). -/
def State.fatal (s : State) : State :=
  ((s.wr MG_CTL.CORE_STATUS_FATAL 1).wr MG_CTL.NMI_CAUSE_FATAL 1).latchVec 0

/-- Pages that show in `NMI_SUMMARY`: a pending NMI-selected or non-maskable event, or the page that `NMI_PAGE` names
while the EXHAUSTED cause is set (R450, R463). -/
def State.nmiSummary (s : State) (page : Nat) : Bool :=
  s.nmiSelected page || decide (s.rd (HDR.EVT_STATUS_EVENTS page) &&& Ev.nonMaskable page ≠ 0) ||
    (s.on MG_CTL.NMI_CAUSE_EXHAUSTED && decide (s.rd MG_CTL.NMI_PAGE_PAGE = page))

/-- The fields that an event may change are `EVT_STATUS` of a page and the causes of the non-maskable path; a field that is
none of them is quiet. -/
def Field.quiet (f : Field) : Bool :=
  decide (f.key / 32 % 4096 ≠ 0x010) && decide (f.key ≠ MG_CTL.NMI_CAUSE_EXHAUSTED.key) &&
    decide (f.key ≠ MG_CTL.NMI_CAUSE_RCLK_FAIL.key) && decide (f.key ≠ MG_CTL.NMI_PAGE_PAGE.key)

/-- States that differ at most in register fields, counters, MSI-X latches and the level of INT_N. -/
def State.EventFrame (s t : State) : Prop :=
  t = { s with regs := t.regs, cnt := t.cnt, msixLatch := t.msixLatch, intLow := t.intLow }

/-- The answer of a command that ends in a next state. -/
abbrev Result := Host.Outcome State Fault Refusal

end Sys2Proof.Machine
end

