-- ==== Sys2Proof/Machine/Access.lean ====
section
/-! DEFINITION. Whether an access reaches its page, and the error response where it does not (R323, R469, R470). -/

namespace Sys2Proof.Machine

open F

/-- The gating domain an access to a page offset falls in (R321, R487). -/
def gateDomain (page off : Nat) : Option Nat :=
  if page = 27 ∧ 0x40 ≤ off ∧ off < 0x340 then some ((off - 0x40) / 0x20)
  else if page = 28 ∧ 0x40 ≤ off ∧ off < 0x1C0 then some ((off - 0x40) / 0x10)
  else if 31 ≤ page ∧ page ≤ 38 then some 24
  else if 39 ≤ page ∧ page ≤ 46 then some 25
  else if page = 17 ∨ page = 18 then some 26
  else if page = 6 then some 27
  else none

/-- A gating domain is closed, or is about to close: its accesses wait and then meet the closed gate (R322). -/
def State.closed (s : State) (d : Nat) : Bool :=
  bitOf (s.rd CK_SYN.GATE_STATE_CLOSED) d || decide (s.clock.gate = some ⟨d, true⟩)

/-- A gating domain was opened while RCLK was stopped, and its clock has not restarted (R323). -/
def State.restarting (s : State) (d : Nat) : Bool := bitOf s.clock.restarting d

/-- The page's block clock is divided from RCLK (R475, R487). -/
def rclkPage (page : Nat) : Bool := decide (page = 11 ∨ page = 12 ∨ page = 13 ∨ page = 14 ∨ page = 15 ∨ 19 ≤ page)

/-- What a block clocked from RCLK does: nothing while RCLK is stopped (R316). -/
def State.clocked (s : State) (r : Result) : Result := if s.rclkStopped then .next s else r

/-- The first cause that turns a BAR0 access into an error response; 0 where there is none (R469). A write over SMBus
outside R470 is the last cause. -/
def State.accessCause (s : State) (r : Requester) (page off : Nat) (write : Bool) : Nat :=
  if (gateDomain page off).any s.closed then 1
  else if (rclkPage page && s.rclkStopped) || (gateDomain page off).any s.restarting then 2
  else if decide (r = .smbus) && write && !decide (page = 3 ∨ page = 1 ∨ page = 16) then 4
  else 0

/-- An error response: recorded in `ERR_LOG` and counted; on a closed domain counted on `CK_SYN` too (R469, R323). -/
def State.errorResponse (s : State) (a : BusAccess) (cause : Nat) : State :=
  let s := s.wr MG_ID.ERR_LOG_OFFSET a.offset.toNat
  let s := s.wrB MG_ID.ERR_LOG_BAR a.bar2
  let s := s.wr MG_ID.ERR_LOG_CAUSE cause
  let s := s.wr MG_ID.ERR_LOG_MASTER a.master.toNat
  let s := s.wrB MG_ID.ERR_LOG_WRITE a.write
  let s := s.cond (decide (a.master ≠ .smbus ∧ a.master ≠ .dma) && (a.write || decide (a.master ≠ .pcie))) fun s =>
    { s with reported := setBit s.reported a.master.toNat true }
  let s := s.raise Ev.MG_ID.errorResponse
  let s := s.raiseIf (cause = 1) Ev.CK_SYN.closedAccess
  s.raiseIf (cause = 4) Ev.MG_ID.smbusRefused

/-- A control core runs the services (R361, R490): an ACTIVE core on an image, not the boot ROM in recovery, once the
retest has ended, with a running clock. -/
def State.coreUp (s : State) : Bool :=
  (decide (s.rd MG_CTL.CORE_STATUS_CORE0 = 1) || decide (s.rd MG_CTL.CORE_STATUS_CORE1 = 1)) &&
    decide (s.rd MG_CTL.CORE_STATUS_RUN_SLOT ≠ 2) && !s.on MG_CTL.CORE_STATUS_FATAL && s.core.retested &&
      !s.clock.stopped

/-- What a service of the control complex does: nothing without a running core (R361). -/
def State.served (s : State) (r : Result) : Result := if s.coreUp then r else .next s

/-- The access record of a BAR0 page offset. -/
def bar0Access (r : Requester) (page off : Nat) (write : Bool) : BusAccess :=
  ⟨r, false, BitVec.ofNat 24 (page * 4096 + off), write⟩

/-- Carry out a write to a page where the access reaches it; otherwise the error response (R469). A control clock that has
stopped answers nothing (R319). -/
def State.guarded (s : State) (r : Requester) (page off : Nat) (f : State → State) : State :=
  let c := s.accessCause r page off true
  if s.clock.stopped then s
  else if c = 0 then f s else s.errorResponse (bar0Access r page off true) c

/-- A lock violation (R478): the sticky bit, the cause, the requester and the location. -/
def State.lockViol (s : State) (r : Requester) (page cause loc : Nat) : State :=
  (((s.wr (HDR.LOCK_VIOL_VIOL page) 1).wr (HDR.LOCK_VIOL_CAUSE page) cause).wr (HDR.LOCK_VIOL_MASTER page)
    r.toNat).wr (HDR.LOCK_VIOL_LOCATION page) loc

end Sys2Proof.Machine
end

