-- ==== Sys2Proof/Machine/Eclosion.lean ====
section
/-! DEFINITION. Commit groups and the raw commit of an eclosion (R479 to R483). -/

namespace Sys2Proof.Machine

open F

/-- The RW-SH fields of a commit group (R479). -/
def groupFields (g : Nat) : List Field :=
  let p := Port.ofBit g
  match g / 2 with
  | 0 => [TX.MOD_CFG_BASE p, TX.MOD_CFG_SHAPED p, TX.MOD_CFG_ENTROPY_E p, TX.MOD_CFG_CODE_RATE p, TX.SYM_RATE_RATE_Q p,
      TX.SHAPE_CFG_ROLLOFF p]
  | 1 => (TXCONV.all p).filter fun f => f.acc = .rwSh
  | 2 => [RXFE.SYM_RATE_RATE_Q p, RXFE.SHAPE_CFG_ROLLOFF p, DEMAP.MOD_CFG_BASE p, DEMAP.MOD_CFG_SHAPED p,
      DEMAP.MOD_CFG_ENTROPY_E p, DEMAP.MOD_CFG_CODE_RATE p]
  | 3 => (List.range 4).map (RXFE.RX_SKEW_DELAY p)
  | 4 => if g = 8 then MG_MEM.all.filter fun f => f.acc = .rwSh else MON_SEQ.all.filter fun f => f.acc = .rwSh
  | _ => []

/-- The groups with fields on a page, as bits (R479). -/
def pageGroups (page : Nat) : Nat :=
  match page with
  | 31 => 1
  | 39 => 2
  | 32 => 4
  | 40 => 8
  | 33 => 0x50
  | 41 => 0xA0
  | 36 => 0x10
  | 44 => 0x20
  | 4 => 0x100
  | 17 => 0x200
  | _ => 0

/-- The groups that belong to a port, as bits (R118). -/
def portGroups (p : Port) : Nat := match p with | .E => 0x55 | .W => 0xAA

/-- The groups of a request as numbers. -/
def groupList (groups : Nat) : List Nat := (List.range 10).filter fun g => bitOf groups g

/-- Make every staged field of the named groups active (R481). -/
def State.commitFields (s : State) (groups : Nat) : State :=
  s.forEach (groupList groups) fun g s => s.forEach (groupFields g) fun f s => s.wrA f (s.rd f)

/-- Where a pending request is kept. A page holds two at most: an RXFE page's RXMOD request and its RXSKEW request, which no
boundary serves together (R479, R480). -/
def eclKey (page groups : Nat) : Nat := page + 64 * bit (decide (groups &&& 0xC0 ≠ 0))

/-- The requesting page of a kept request. -/
def eclPage (key : Nat) : Nat := key % 64

/-- The page has a pending request. -/
def State.pagePending (s : State) (page : Nat) : Bool := s.ecl.any fun e => decide (eclPage e.1 = page)

/-- A request is no longer pending. -/
def State.dropRequest (s : State) (key : Nat) : State :=
  let s := { s with ecl := Tab.erase s.ecl key }
  s.wrB (HDR.STAGE_STATUS_PENDING (eclPage key)) (s.pagePending (eclPage key))

/-- A group has a pending request. -/
def State.groupPending (s : State) (g : Nat) : Bool := s.ecl.any fun e => bitOf e.2.groups g

/-- The commit of a pending request, without what its groups' blocks do at it; DONE and EARLY tell of the page's last
accepted request (R471, R481, R483). -/
def State.commitRaw (s : State) (key : Nat) (req : EclReq) (early : Bool) : State :=
  let s := (s.commitFields req.groups).dropRequest key
  let s := s.cond (!req.older) fun s =>
    (s.wr (HDR.STAGE_STATUS_DONE (eclPage key)) 1).wrB (HDR.STAGE_STATUS_EARLY (eclPage key)) early
  s.raise Ev.MG_ID.committed

/-- The end of a pending request without a commit: RESULT 7 or 8 (R483). -/
def State.endRequest (s : State) (key result : Nat) : State :=
  s.cond (Tab.has s.ecl key) fun s => (s.dropRequest key).wr (HDR.STAGE_STATUS_RESULT (eclPage key)) result

/-- End every pending request that names one of some groups (R118, R472). -/
def State.endRequests (s : State) (groups result : Nat) : State :=
  s.forEach (s.ecl.filter fun e => decide (e.2.groups &&& groups ≠ 0)) fun e s => s.endRequest e.1 result

/-- Mark the pending AGREED requests of a group that pass a test: they commit early when they can (R483). -/
def State.markLate (s : State) (g : Nat) (test : EclReq → Bool) : State :=
  s.forEach (s.ecl.filter fun e => bitOf e.2.groups g && decide (e.2.boundary = 3) && test e.2) fun e s =>
    { s with ecl := Tab.insert s.ecl e.1 { e.2 with late := true } }

/-- The state that permitted AGREED for a group has ended: its pending AGREED request commits at once with EARLY set, or,
while RCLK is stopped, as RCLK qualifies again (R483). -/
def State.commitEarly (s : State) (g : Nat) : State :=
  if s.rclkStopped then s.markLate g fun _ => true
  else
    s.forEach (s.ecl.filter fun e => bitOf e.2.groups g && decide (e.2.boundary = 3)) fun e s =>
      s.commitRaw e.1 e.2 true

/-- The deframer of a port has returned to SYNC: a pending RXMOD request whose superframe has already begun, judged from
the new FC_RX by serial arithmetic modulo 2^16, commits early (R483). -/
def State.judgeAgreed (s : State) (p : Port) (fcRx : Nat) : State :=
  s.markLate (4 + p.toNat) fun e => decide ((fcRx / 256 + 65536 - e.at_) % 65536 < 32768)

end Sys2Proof.Machine
end

