-- ==== Sys2Proof/Machine/Ref.lean ====
section
/-! DEFINITION. Reference inputs, selection and the DPLLs (R325 to R334). -/

namespace Sys2Proof.Machine

open F

def refFailed : Nat := 0
def refMeasure : Nat := 1
def refOut : Nat := 2
def refWtrSt : Nat := 3
def refQualified : Nat := 4

def State.refSt (s : State) (i : Nat) : Nat := s.rd (CK_REF.REF_STATUS_STATE i)
def State.refOf (s : State) (i : Nat) : RefInput := Tab.get RefInput.init s.ref i
def State.onRef (s : State) (i : Nat) (f : RefInput → RefInput) : State := { s with ref := Tab.upd RefInput.init s.ref i f }

/-- An input is present (R326). -/
def State.refPresent (s : State) (i : Nat) : Bool :=
  if i < 4 then (s.refOf i).edges
  else if i < 6 then
    let p := Port.ofBit (i - 4)
    decide (s.acqSt p = acqAcquired) && s.on (RXEQ.EQ_STATUS_TR_LOCK p) && s.inRing
  else if i < 8 then
    let n := s.rd (CK_REF.REF_CFG_LANE i)
    decide (n < 24 ∧ (s.laneMode n = 1 ∨ s.laneMode n = 2)) && s.laneOn n && s.on (HL_LANE.LANE_STATUS_CDR_LOCK n)
  else s.on (TS_TB.TB_STATUS_FREQ_LOCK (i - 8))

/-! ### Selection and the DPLLs (R328 to R334) -/

def dpFree : Nat := 0
def dpLocking : Nat := 1
def dpLocked : Nat := 2
def dpSwitching : Nat := 3
def dpRoost : Nat := 4
def dpMeasure : Nat := 5

def State.dpSt (s : State) : Nat := s.rd (CK_DPLL.DPLL_STATUS_STATE 0)
def State.toDp (s : State) (st : Nat) : State := s.wr (CK_DPLL.DPLL_STATUS_STATE 0) st
def State.onDpll (s : State) (f : DpllState → DpllState) : State := { s with dpll := f s.dpll }

/-- The residual phase offset, in units of 0.0001 ns, with what `PULL_LEFT` shows of it (R332). -/
def State.setResidual (s : State) (r : Int) : State :=
  (s.onDpll fun d => { d with residual := r }).wrI (CK_DPLL.PULL_LEFT_RESIDUAL 0) (r.tdiv 100)

/-- A candidate (R328). -/
def State.refCand (s : State) (i : Nat) : Bool :=
  decide (s.refSt i = refQualified) && decide (s.rd (CK_REF.REF_CFG_PRIO i) ≠ 0)

/-- How far an input's offset lies from the output frequency, in 10^−12. -/
def State.refDistance (s : State) (i : Nat) : Nat :=
  ((s.refOf i).mean * 10000 - s.rdI (CK_DPLL.FREQ_OFS_OFS 0)).natAbs

/-- The best of a list of candidates: the best rank, then the nearest frequency, then the lowest index (R328, step 3). -/
def State.refBest (s : State) : List Nat → Option Nat
  | [] => none
  | i :: t =>
    match s.refBest t with
    | none => some i
    | some j =>
      let a := s.rd (CK_REF.REF_CFG_PRIO i)
      let b := s.rd (CK_REF.REF_CFG_PRIO j)
      if a < b ∨ (a = b ∧ s.refDistance i ≤ s.refDistance j) then some i else some j

/-- The selection among a list of inputs, with `cur` selected before (R328). -/
def State.refSelect (s : State) (inputs : List Nat) (cur : Nat) : Nat :=
  let c := inputs.filter s.refCand
  let f := s.rd CK_REF.SEL_CFG_FORCE_IDX
  if s.on CK_REF.SEL_CFG_FORCE_EN && c.contains f then f
  else
    match s.refBest c with
    | none => 15
    | some b => if c.contains cur && decide (s.rd (CK_REF.REF_CFG_PRIO cur) = s.rd (CK_REF.REF_CFG_PRIO b)) then cur else b

/-- With `SLOPE` = 0 a DPLL0 in SWITCHING builds its residual out: it keeps it, and LOCKING follows at once (R332). -/
def State.buildOut (s : State) : State :=
  if s.dpSt = dpSwitching ∧ s.slope = 0 then (s.toDp dpLocking).raise (Ev.CK_DPLL.switchCompleted 0) else s

/-- Start to pull: SWITCHING with a residual (R332). -/
def State.startPull (s : State) (residual : Int) : State := ((s.setResidual residual).toDp dpSwitching).buildOut

/-- A switch to the input just selected: the phase from DPLL1 where it holds it, otherwise a measurement (R331). -/
def State.startSwitch (s : State) (held : Bool) : State :=
  if held then s.startPull (100 * s.rdI (CK_DPLL.PHASE_ERR_ERR 1)) else s.toDp dpMeasure

/-- `EVER_LOCKED` of DPLL0. -/
def State.everLocked (s : State) : Bool := s.on (CK_DPLL.DPLL_STATUS_EVER_LOCKED 0)

/-- Holdover (R334). -/
def State.holdover (s : State) : State :=
  let st := s.dpSt
  if st = dpFree ∨ st = dpRoost then s
  else
    let valid := s.on (CK_DPLL.ROOST_STATUS_VALID 0)
    let s := (s.setResidual 0).raiseIf (!valid) (Ev.CK_DPLL.roostInvalid 0)
    if s.on CK_REF.SEL_CFG_ROOST_EN && valid then (s.toDp dpRoost).raise (Ev.CK_DPLL.roost 0)
    else (s.toDp dpFree).raise (Ev.CK_DPLL.freeRun 0)

/-- DPLL0 meets a new selection (R331, R333). -/
def State.newSelection (s : State) (held : Bool) : State :=
  let st := s.dpSt
  if st = dpFree ∧ s.everLocked = false then s.toDp dpLocking
  else if st = dpSwitching ∨ st = dpMeasure then (s.raise (Ev.CK_DPLL.retarget 0)).startSwitch held
  else (s.raise (Ev.CK_DPLL.switchStarted 0)).startSwitch held

/-- DPLL1 follows the standby (R330). -/
def State.setStandby (s : State) (i : Nat) : State :=
  if s.rd CK_REF.SEL_STATUS_STANDBY = i then s
  else
    let s := (s.wr CK_REF.SEL_STATUS_STANDBY i).wr (CK_DPLL.DPLL_STATUS_INPUT 1) i
    let s := s.onDpll fun d => { d with lockTicks1 := 0 }
    s.wr (CK_DPLL.DPLL_STATUS_STATE 1) (if i = 15 then 0 else 1)

/-- `PEER_DISAGREE` (R329): the lower index of the first pair of QUALIFIED inputs of one rank that lie too far apart. -/
def State.peerCheck (s : State) : State :=
  let bad i j := s.refCand i && s.refCand j && decide (s.rd (CK_REF.REF_CFG_PRIO i) = s.rd (CK_REF.REF_CFG_PRIO j)) &&
    decide ((s.rd CK_REF.SEL_CFG_PEER_LIMIT : Nat) <
      ((s.refOf i).mean - (s.refOf j).mean).natAbs)
  match (List.range 12).find? fun i => (List.range 12).any fun j => decide (i < j) && bad i j with
  | some i =>
    let s := s.wr CK_REF.SEL_STATUS_PEER_IDX i
    if s.on CK_REF.SEL_STATUS_PEER_DISAGREE then s
    else (s.wr CK_REF.SEL_STATUS_PEER_DISAGREE 1).raise Ev.CK_REF.peerDisagree
  | none => (s.wr CK_REF.SEL_STATUS_PEER_DISAGREE 0).wr CK_REF.SEL_STATUS_PEER_IDX 15

/-- The selection is evaluated (R328, R329). -/
def State.evaluate (s : State) : State :=
  let cur := s.rd CK_REF.SEL_STATUS_SELECTED
  let sel := s.refSelect (List.range 12) cur
  let held := decide (s.rd (CK_DPLL.DPLL_STATUS_INPUT 1) = sel)
  let s := s.cond (decide (sel ≠ cur)) fun s =>
    let s := (s.wr CK_REF.SEL_STATUS_SELECTED sel).wr (CK_DPLL.DPLL_STATUS_INPUT 0) sel
    let s := s.raise Ev.CK_REF.selection
    if sel = 15 then s.holdover else s.newSelection held
  (s.setStandby (s.refSelect ((List.range 12).filter (· ≠ sel)) 15)).peerCheck

/-! ### Qualification (R327) -/

/-- An input's state changes, and the selection is evaluated. -/
def State.refMove (s : State) (i st : Nat) : State :=
  if s.refSt i = st then s
  else ((s.wr (CK_REF.REF_STATUS_STATE i) st).raise (Ev.CK_REF.stateChange i)).evaluate

/-- The WTR timer of an input shows what it has left, in whole seconds begun. -/
def State.setRefWtr (s : State) (i ms : Nat) : State :=
  (s.onRef i fun x => { x with wtrMs := ms }).wr (CK_REF.REF_STATUS_WTR_LEFT i) ((ms + 999) / 1000)

/-- The WTR timer of an input ends (R327). -/
def State.refQualify (s : State) (i : Nat) : State :=
  ((s.setRefWtr i 0).wr (CK_REF.REF_STATUS_EVER_QUAL i) 1).refMove i refQualified

/-- WTR starts: with the seconds given; with 0 it ends at once. -/
def State.refStartWtr (s : State) (i secs : Nat) : State :=
  let s := (s.setRefWtr i (1000 * secs)).refMove i refWtrSt
  if secs = 0 then s.refQualify i else s

/-- The mean offset of an input, in 0.01 ppm, and what `OFFSET` shows of it (R327): a mean that its 16 bits do not hold leaves an
open value there (log entry 127). -/
def State.setOffset (s : State) (i : Nat) (m : Int) : State :=
  let s := s.onRef i fun x => { x with mean := m }
  let f := CK_REF.REF_STATUS_OFFSET i
  if -(2 ^ 15) ≤ m ∧ m < 2 ^ 15 then s.wrI f m else (s.wr f (s.freeVal 16)).useFree

/-- An input's offset is in window. -/
def State.refInWindow (s : State) (i : Nat) : Bool :=
  decide ((s.refOf i).mean.natAbs ≤ s.rd (CK_REF.REF_QUAL_QUAL_PPM i))

/-- The presence of an input is judged (R326, R327). -/
def State.refJudge (s : State) (i : Nat) : State :=
  if s.refPresent i then
    if s.refSt i = refFailed then (s.onRef i fun x => { x with samples := [] }).refMove i refMeasure else s
  else if s.refSt i = refFailed then s
  else (s.setRefWtr i 0).refMove i refFailed

/-- What a port, a lane or a time base that an input rests on has come to is judged at once (R326). -/
def State.refPort (s : State) (p : Port) : State := s.refJudge (4 + p.toNat)
def State.refPorts (s : State) : State := (s.refPort .E).refPort .W
def State.refTb (s : State) (x : Nat) : State := s.refJudge (8 + x)
def State.refLane (s : State) (n : Nat) : State :=
  s.forEach [6, 7] fun i s => s.cond (decide (s.rd (CK_REF.REF_CFG_LANE i) = n)) fun s => s.refJudge i

/-- REFERENCE_PRESENCE_CHANGE (R326): `edges` is what the edge detector of a REFIN input judges; the other types are judged
from the state they name. -/
def execReferencePresenceChange (i : Fin 12) (edges : Bool) (s : State) : Result :=
  .next ((s.onRef i.val fun x => { x with edges := edges }).refJudge i.val)

/-- REF_MEASURE_COMPLETE (R327). The first qualification since reset has a WTR of 0 s. -/
def execRefMeasureComplete (i : Fin 12) (s : State) : Result :=
  .next (
    if s.refSt i.val = refMeasure ∧ (s.refOf i.val).samples.length = 64 then
      if s.refInWindow i.val then
        s.refStartWtr i.val (if s.on (CK_REF.REF_STATUS_EVER_QUAL i.val) then s.refWtr i.val else 0)
      else s.refMove i.val refOut
    else s)

/-- REF_WTR_EXPIRY (R327). -/
def execRefWtrExpiry (i : Fin 12) (s : State) : Result :=
  .next (if s.refSt i.val = refWtrSt then s.refQualify i.val else s)

/-- The offset sample of a tick, in 0.01 ppm, joins the mean over the last 64 (R327). -/
def State.refSample (s : State) (i : Nat) (sample : Int) : State :=
  let s := s.onRef i fun x => { x with samples := (sample :: x.samples).take 64 }
  let l := (s.refOf i).samples
  s.cond (decide (l.length = 64)) fun s => s.setOffset i (l.foldl (· + ·) 0 / 64)

/-- One tick at an input (R327): it is measured against XREF where there is XREF, and the window is judged. -/
def State.refTick (s : State) (i : Nat) (sample : Int) : State :=
  let s := s.refJudge i
  if s.refSt i = refFailed then s
  else
    let s := s.cond (s.on CK_SYN.SYN_STATUS_XREF_OK) fun s => s.refSample i sample
    let s := s.cond (decide (s.refSt i = refWtrSt)) fun s => s.setRefWtr i ((s.refOf i).wtrMs - 1)
    if s.refSt i = refOut then (if s.refInWindow i then s.refStartWtr i (s.refWtr i) else s)
    else if s.refSt i = refWtrSt ∨ s.refSt i = refQualified then
      (if s.refInWindow i then s else (s.setRefWtr i 0).refMove i refOut)
    else s

/-- A write that sets `FORCE_EN` (R328). -/
def State.forceRef (s : State) (idx : Nat) : State :=
  let s := (s.wr CK_REF.SEL_CFG_FORCE_EN 1).wr CK_REF.SEL_CFG_FORCE_IDX idx
  let ok := decide (idx < 12) && s.refCand idx
  let s := (s.wrB CK_REF.SEL_STATUS_FORCE_REFUSED (!ok)).raiseIf (!ok) Ev.CK_REF.forceRefused
  s.evaluate

/-- FORCE_EN_SET (R328). -/
def execForceEnSet (r : Requester) (idx : Fin 16) (s : State) : Result :=
  .next (s.guarded r 8 0x100 fun s => s.forceRef idx.val)

/-! ### DPLL0's own events (R331 to R334) -/

/-- `LOCK_NS` in 0.01 ns, at least 1 ns, and `LOCK_S` in ticks, at least 1 s, of a DPLL (R337). -/
def State.lockWindow (s : State) (x : Nat) : Nat := 100 * max 1 (s.rd (CK_DPLL.DPLL_CFG_LOCK_NS x))
def State.lockTime (s : State) (x : Nat) : Nat := 1000 * max 1 (s.rd (CK_DPLL.DPLL_CFG_LOCK_S x))

/-- The phase error has been within ±`LOCK_NS` for `LOCK_S`: the time lies within the tick that follows the last one counted
(R331). -/
def State.lockDue (s : State) : Bool := decide (s.lockTime 0 ≤ s.dpll.lockTicks + 1)

/-- The phase error at a tick in LOCKING (R331). -/
def State.lockTick (s : State) (phase : Int) : State :=
  let near := decide (s.dpSt = dpLocking ∧ phase.natAbs ≤ s.lockWindow 0)
  let top := s.lockTime 0
  s.onDpll fun d => { d with lockTicks := if near then min top (d.lockTicks + 1) else 0 }

/-- DPLL_LOCK_ACHIEVED (R331). -/
def execDpllLockAchieved (s : State) : Result :=
  .next (
    if s.dpSt = dpLocking ∧ s.lockDue then
      ((s.toDp dpLocked).wr (CK_DPLL.DPLL_STATUS_EVER_LOCKED 0) 1).raise (Ev.CK_DPLL.locked 0)
    else s)

/-- DPLL_LOCK_LOSS (R331): the phase error, in 0.01 ns, lies beyond ±2 × `LOCK_NS`. -/
def execDpllLockLoss (phase : Int) (s : State) : Result :=
  .next (
    if s.dpSt = dpLocked ∧ 2 * s.lockWindow 0 < phase.natAbs then
      ((s.toDp dpLocking).wrI (CK_DPLL.PHASE_ERR_ERR 0) phase).raise (Ev.CK_DPLL.lockLost 0)
    else s)

/-- DPLL_MEASURE_DONE (R331, R333): Δφ in 0.01 ns against the output phase of the moment. -/
def execDpllMeasureDone (dphi : Int) (s : State) : Result :=
  .next (if s.dpSt = dpMeasure then s.startPull (100 * dphi) else s)

/-- DPLL_SWITCH_COMPLETE (R332). -/
def execDpllSwitchComplete (s : State) : Result :=
  .next (
    if s.dpSt = dpSwitching ∧ s.dpll.residual = 0 then
      (s.toDp dpLocking).raise (Ev.CK_DPLL.switchCompleted 0)
    else s)

/-- A value brought towards a target by at most a step. -/
def towards (step v target : Int) : Int := v + clampInt (-step) step (target - v)

/-- The ticks of LOCKED operation that are kept: the longest average and the second before the loss (R334). -/
def historyTicks : Nat := 1000 * 1025

/-- The roost average and what `CK_DPLL0` shows of it (R334): the last second is left out. -/
def State.roostUpdate (s : State) : State :=
  let n := 1000 * 2 ^ s.roostLog2
  let l := (s.dpll.history.drop 1000).take n
  let ok := decide (l.length = n)
  let s := s.wrB (CK_DPLL.ROOST_STATUS_VALID 0) ok
  s.cond ok fun s => s.wrI (CK_DPLL.ROOST_FREQ_AVG 0) (l.foldl (· + ·) 0 / (n : Int))

/-- A tick of LOCKED operation joins the history, of which `HISTORY` shows the whole seconds (R334, R337). -/
def State.roostSample (s : State) (ofs : Int) : State :=
  let s := s.onDpll fun d => { d with history := (ofs :: d.history).take historyTicks, lockedMs := d.lockedMs + 1 }
  s.wr (CK_DPLL.ROOST_STATUS_HISTORY 0) (min 65535 (s.dpll.lockedMs / 1000))

/-- One tick at DPLL0: its phase error and frequency while it follows an input, its slew in holdover, its pull (R331 to R334). -/
def State.dpllTick0 (s : State) (phase freq : Int) : State :=
  let st := s.dpSt
  let f0 := s.rdI (CK_DPLL.FREQ_OFS_OFS 0)
  let s :=
    if st = dpRoost then s.wrI (CK_DPLL.FREQ_OFS_OFS 0) (towards 10 f0 (s.rdI (CK_DPLL.ROOST_FREQ_AVG 0)))
    else if st = dpFree then s.wrI (CK_DPLL.FREQ_OFS_OFS 0) (towards 10 f0 0)
    else if st = dpMeasure then s
    else (s.wrI (CK_DPLL.PHASE_ERR_ERR 0) phase).wrI (CK_DPLL.FREQ_OFS_OFS 0) freq
  let s := s.cond (decide (st = dpSwitching)) fun s => s.setResidual (towards s.slope s.dpll.residual 0)
  ((s.lockTick phase).cond (decide (st = dpLocked)) fun s => s.roostSample freq).roostUpdate

/-- One tick at DPLL1, which has the structure of DPLL0 and no output (R330, R331): the standby's phase against the output of
DPLL0 and its frequency are reported, and its own phase error `err` tells its lock. -/
def State.dpllTick1 (s : State) (phase freq err : Int) : State :=
  if s.rd (CK_DPLL.DPLL_STATUS_INPUT 1) = 15 then s
  else
    let s := (s.wrI (CK_DPLL.PHASE_ERR_ERR 1) phase).wrI (CK_DPLL.FREQ_OFS_OFS 1) freq
    let was := s.rd (CK_DPLL.DPLL_STATUS_STATE 1)
    let near := decide (was = 1 ∧ err.natAbs ≤ s.lockWindow 1)
    let s := s.onDpll fun d => { d with lockTicks1 := if near then d.lockTicks1 + 1 else 0 }
    if was = 1 ∧ s.lockTime 1 ≤ s.dpll.lockTicks1 then
      ((s.wr (CK_DPLL.DPLL_STATUS_STATE 1) 2).wr (CK_DPLL.DPLL_STATUS_EVER_LOCKED 1) 1).raise (Ev.CK_DPLL.locked 1)
    else if was = 2 ∧ 2 * s.lockWindow 1 < err.natAbs then (s.wr (CK_DPLL.DPLL_STATUS_STATE 1) 1).raise (Ev.CK_DPLL.lockLost 1)
    else s

end Sys2Proof.Machine
end

