-- ==== Sys2Proof/Machine/Report.lean ====
section
/-! DEFINITION. The local report of a port (R251): its causes, its states, its timers. -/

namespace Sys2Proof.Machine

open F

/-- `REQ_E` or `REQ_W`, coded as in R249. -/
def reqField (p : Port) : Field := match p with | .E => HB_RING.RPT_LOCAL_REQ_E | .W => HB_RING.RPT_LOCAL_REQ_W
def forceField (p : Port) : Field := match p with | .E => HB_RING.RPT_LOCAL_FORCE_E | .W => HB_RING.RPT_LOCAL_FORCE_W
def wtrLeftField (p : Port) : Field := match p with | .E => HB_RING.RPT_TIMER_WTR_LEFT_E | .W => HB_RING.RPT_TIMER_WTR_LEFT_W
def reqEvt (p : Port) : Evt := match p with | .E => Ev.HB_RING.reqEChanged | .W => Ev.HB_RING.reqWChanged

def rptOk : Nat := 0
def rptWtr : Nat := 1
def rptSd : Nat := 2
def rptSf : Nat := 3
def rptForced : Nat := 4

def State.report? (s : State) (p : Port) : Nat := s.rd (reqField p)

/-- Change the report's machinery of a port. -/
def State.onReport (s : State) (p : Port) (f : Report → Report) : State := { s with report := s.report.upd p f }

/-- The SF cause is present; 9 is ACQUIRED (R93, R251). -/
def State.sfCause (s : State) (p : Port) : Bool :=
  !s.on (RXFE.RX_CTRL_RX_ENABLE p) || s.on (RXFE.ACQ_STATUS_LOS p) || decide (s.rd (RXFE.ACQ_STATUS_ACQ_STATE p) ≠ 9) ||
    s.on (HB_FRAME.FRM_STATUS_LOF p)

/-- The SD condition of a port (R251). -/
def State.sdCond (s : State) (p : Port) : Bool := (s.report.get p).sd && s.on HB_RING.RPT_CFG_SD_EN

/-- `RPT_CFG.WTR` in ms, at most 720 s. -/
def State.wtrMs (s : State) : Nat := 1000 * min 720 (s.rd HB_RING.RPT_CFG_WTR)

/-- The report of a port changes: SEQ advances (R249, R251). -/
def State.setReport (s : State) (p : Port) (r : Nat) : State :=
  if s.report? p = r then s
  else ((s.wr (reqField p) r).bump HB_RING.RPT_LOCAL_SEQ).raise (reqEvt p)

/-- The WTR timer shows what it has left, in whole seconds begun. -/
def State.setWtr (s : State) (p : Port) (ms : Nat) : State :=
  (s.onReport p fun r => { r with wtrMs := ms }).wr (wtrLeftField p) ((ms + 999) / 1000)

/-- Going to WTR: the timer starts, and a WTR of 0 passes at once (R251). -/
def State.toWtr (s : State) (p : Port) : State :=
  let s := (s.setReport p rptWtr).setWtr p s.wtrMs
  if s.wtrMs = 0 then s.setReport p rptOk else s

/-- The rules of R251 that need no timer: SF at once while `RX_ENABLE` is 0 or `HOLDOFF` is 0, SD and SF as their causes
come and go. -/
def State.settleReport (s : State) (p : Port) : State :=
  let r := s.report? p
  let sf := s.sfCause p
  if r = rptForced then s
  else if r = rptSf then
    if sf then s else if s.sdCond p then s.setReport p rptSd else s.toWtr p
  else if sf && (!s.on (RXFE.RX_CTRL_RX_ENABLE p) || decide (s.rd HB_RING.RPT_CFG_HOLDOFF = 0)) then
    (s.setWtr p 0).setReport p rptSf
  else if r = rptSd then (if s.sdCond p then s else s.toWtr p)
  else if s.sdCond p then (s.setWtr p 0).setReport p rptSd
  else s

/-- HOLDOFF_EXPIRY (R251): the SF cause has been present without a break for `HOLDOFF`. -/
def execHoldoffExpiry (p : Port) (s : State) : Result :=
  s.clocked <|
  .next (
    if s.sfCause p ∧ (s.report? p = rptOk ∨ s.report? p = rptSd ∨ s.report? p = rptWtr) then (s.setWtr p 0).setReport p rptSf
    else s)

/-- REPORT_WTR_EXPIRY (R251). -/
def execReportWtrExpiry (p : Port) (s : State) : Result :=
  s.clocked <|
  .next (if s.report? p = rptWtr then (s.setWtr p 0).setReport p rptOk else s)

/-- `FORCE_E` or `FORCE_W` takes a value (R251). -/
def State.reportForce (s : State) (p : Port) (on : Bool) : State :=
  let s := s.wrB (forceField p) on
  if on then (s.setWtr p 0).setReport p rptForced
  else if s.report? p = rptForced then
    s.setReport p (if s.sfCause p then rptSf else if s.sdCond p then rptSd else rptOk)
  else s

/-- The page of the ring's registers. -/
def ringPage : Nat := 25

/-- A sample joins a run; the SD condition is absent while `SD_EN` is 0 (R251). -/
def Report.sample (r : Report) (on below : Bool) (ticks : Nat) : Report :=
  if on then
    let run := if r.sdBelow == below then r.sdRun + 1 else 1
    { r with sdRun := min 256 run, sdBelow := below, sd := if max 1 ticks ≤ run then below else r.sd }
  else { r with sdRun := 0, sd := false }

/-- A management tick at a report (R119, R251): the WTR timer counts down, and the NGMI sample latched at the tick, below
the limit or not, joins a run. -/
def State.reportTick (s : State) (p : Port) (below : Bool) : State :=
  let s := s.setWtr p ((s.report.get p).wtrMs - 1)
  let on := s.on HB_RING.RPT_CFG_SD_EN
  let ticks := s.rd HB_RING.RPT_CFG_SD_TICKS
  (s.onReport p fun r => r.sample on below ticks).settleReport p

/-- A write that changes `SD_TICKS` or sets `SD_EN` restarts the run from the next sample (R251). -/
def State.restartSd (s : State) : State :=
  (s.onReport .E fun r => { r with sdRun := 0 }).onReport .W fun r => { r with sdRun := 0 }

/-- `RPT_CFG` written (R251): a new `SD_TICKS` or an `SD_EN` set restarts the runs, `SD_EN` cleared ends the condition, and a
`HOLDOFF` of 0 is met at once. -/
def State.rptCfgWritten (s : State) (oldEn : Bool) (oldTicks : Nat) : State :=
  let on := s.on HB_RING.RPT_CFG_SD_EN
  let s := s.cond (decide (s.rd HB_RING.RPT_CFG_SD_TICKS ≠ oldTicks) || (on && !oldEn)) State.restartSd
  let s := s.cond (on != oldEn) fun s =>
    (s.onReport .E fun r => { r with sd := false }).onReport .W fun r => { r with sd := false }
  (s.settleReport .E).settleReport .W

end Sys2Proof.Machine
end

