-- ==== Sys2Proof/Machine/Check.lean ====
section
/-! DEFINITION. Check and retry: the spared blocks, the R23 windows, quarantine and classification (R17 to R26, R450). -/

namespace Sys2Proof

open Machine
open Machine.F

/-- The number of a block, under which its state is kept. -/
def Block.key : Block → Nat
  | .txCluster p => p.toNat
  | .toLineBridge p => 2 + p.toNat
  | .eqCluster p => 4 + p.toNat
  | .coefEngine p => 6 + p.toNat
  | .p1Lane p => 8 + p.toNat
  | .p2Lane p => 10 + p.toNat
  | .decoder p => 12 + p.toNat
  | .matcher p => 14 + p.toNat
  | .bchDecoder p => 16 + p.toNat
  | .fromLineBridge p => 18 + p.toNat
  | .toHubBridge => 20
  | .fromHubBridge => 21
  | .aes d => 22 + d.val
  | .core => 24
  | .monConv => 25
  | .calDetector p t => 26 + 2 * p.toNat + t.val
  | .txConv p c => 32 + 4 * p.toNat + c.val
  | .rxConv p c => 40 + 4 * p.toNat + c.val

/-- Places that do work, and units in all (R17). -/
def Block.places : Block → Nat
  | .txCluster _ => 8
  | .toLineBridge _ | .fromLineBridge _ => 128
  | .toHubBridge | .fromHubBridge => 8
  | .eqCluster _ => 16
  | .p1Lane _ | .p2Lane _ => 8
  | .decoder _ => 96
  | .aes _ => 36
  | .txConv _ _ | .rxConv _ _ => 256
  | .coefEngine _ | .matcher _ | .bchDecoder _ | .core | .monConv | .calDetector _ _ => 1

def Block.units : Block → Nat
  | .txCluster _ => 9
  | .toLineBridge _ | .fromLineBridge _ => 136
  | .toHubBridge | .fromHubBridge => 9
  | .eqCluster _ => 17
  | .p1Lane _ | .p2Lane _ => 9
  | .decoder _ => 104
  | .aes _ => 40
  | .txConv _ _ | .rxConv _ _ => 264
  | .coefEngine _ | .matcher _ | .bchDecoder _ | .core | .monConv | .calDetector _ _ => 2

/-- The page on which a block's faults count (R450). -/
def Block.page : Block → Nat
  | .txCluster p | .toLineBridge p => 31 + 8 * p.toNat
  | .txConv p _ => 32 + 8 * p.toNat
  | .rxConv p _ => 34 + 8 * p.toNat
  | .eqCluster p | .coefEngine p => 35 + 8 * p.toNat
  | .p1Lane p | .p2Lane p => 36 + 8 * p.toNat
  | .decoder p | .matcher p | .bchDecoder p => 38 + 8 * p.toNat
  | .fromLineBridge p => 19 + p.toNat
  | .toHubBridge => 22
  | .fromHubBridge => 4
  | .aes _ => 30
  | .core => 1
  | .monConv => 17
  | .calDetector _ _ => 16

/-- The page's LASTING event, where it defines one (R450). -/
def Block.lastingEvt : Block → Option Evt
  | .txCluster p | .toLineBridge p => some (Ev.TX.lasting p)
  | .txConv p c => some (Ev.TXCONV.lasting p c.val)
  | .rxConv p c => some (Ev.RXCONV.lasting p c.val)
  | .eqCluster p | .coefEngine p => some (Ev.RXEQ.lasting p)
  | .p1Lane p | .p2Lane p => some (Ev.DEMAP.lasting p)
  | .decoder p | .matcher p | .bchDecoder p => some (Ev.FEC.lasting p)
  | .aes _ => some Ev.CY_PIPE.lasting
  | .core => some Ev.MG_CTL.lasting
  | .monConv => some Ev.MON_SEQ.lasting
  | .calDetector _ _ => some Ev.PWR_MGR.detLasting
  | .fromLineBridge _ | .toHubBridge | .fromHubBridge => none

/-- The page's EXHAUSTED event, where it defines one (R450). -/
def Block.exhaustedEvt : Block → Option Evt
  | .txCluster p | .toLineBridge p => some (Ev.TX.exhausted p)
  | .txConv p c => some (Ev.TXCONV.exhausted p c.val)
  | .rxConv p c => some (Ev.RXCONV.exhausted p c.val)
  | .eqCluster p | .coefEngine p => some (Ev.RXEQ.exhausted p)
  | .p1Lane p | .p2Lane p => some (Ev.DEMAP.exhausted p)
  | .decoder p | .matcher p | .bchDecoder p => some (Ev.FEC.exhausted p)
  | .aes _ => some Ev.CY_PIPE.exhausted
  | .core => some Ev.MG_CTL.exhausted
  | .monConv => some Ev.MON_SEQ.exhausted
  | .calDetector _ _ => some Ev.PWR_MGR.detExhausted
  | .fromLineBridge _ | .toHubBridge | .fromHubBridge => none

/-- The blocks of the device, without the converters. -/
def Block.all : List Block :=
  ([Port.E, Port.W].flatMap fun p => [.txCluster p, .toLineBridge p, .eqCluster p, .coefEngine p, .p1Lane p, .p2Lane p,
    .decoder p, .matcher p, .bchDecoder p, .fromLineBridge p, .calDetector p 0, .calDetector p 1]) ++
  [.toHubBridge, .fromHubBridge, .aes 0, .aes 1, .core, .monConv]

/-- The region number whose window a block's checks share: a port's receive region (converters, equaliser, demapper and
decoder pool), its transmit region, each direction of the AES pipelines (R23, R69, R102, R149, R296). -/
def Block.region : Block → Option Nat
  | .rxConv p _ | .eqCluster p | .p1Lane p | .p2Lane p | .coefEngine p => some p.toNat
  | .decoder p | .matcher p | .bchDecoder p => some p.toNat
  | .txCluster p | .txConv p _ => some (2 + p.toNat)
  | .aes d => some (6 + d.val)
  | _ => none

end Sys2Proof

namespace Sys2Proof.Machine

open F

/-- A spared block's state. -/
def State.block (s : State) (b : Block) : Spared := Tab.get Spared.init s.spared b.key

def State.setBlock (s : State) (b : Block) (x : Spared) : State :=
  { s with spared := Tab.set Spared.init s.spared b.key x }

/-- The unit that holds a place. -/
def Spared.unitAt (x : Spared) (place : Nat) : Nat := Tab.get place x.map place

/-- Put a unit into a place. -/
def Spared.assign (x : Spared) (place unit : Nat) : Spared :=
  { x with map := if place = unit then Tab.erase x.map place else Tab.insert x.map place unit }

/-- The units that hold places. -/
def Spared.serving (x : Spared) (b : Block) : List Nat := (List.range b.places).map x.unitAt

/-- The place a unit holds, if any. -/
def Spared.placeOf (x : Spared) (b : Block) (u : Nat) : Option Nat :=
  (List.range b.places).find? fun pl => x.unitAt pl == u

/-- Spares left: units beyond the places, less the quarantined ones (R25). -/
def Spared.spares (x : Spared) (b : Block) : Nat := b.units - b.places - x.quarantine.length

/-- The lowest-numbered unit that holds no place and is not quarantined; one that is out for a self-test only where no other
is left (log entry 83). -/
def Spared.freeUnit (x : Spared) (b : Block) : Option Nat :=
  let free := (List.range b.units).filter fun u => !(x.serving b).contains u && !x.quarantine.contains u
  ((free.filter fun u => !x.testing.contains u) ++ free).head?

/-- A unit other than the failing one is free to redo its work: it is neither quarantined nor out for its self-test (R24). -/
def Spared.canRedo (x : Spared) (b : Block) : Bool := (x.freeUnit b).any fun v => !x.testing.contains v

/-- Put a unit into quarantine (R20). -/
def Spared.quarantined (x : Spared) (u : Nat) : Spared :=
  { x with quarantine := addSorted x.quarantine u, testing := x.testing.filter (· != u),
           unclassified := x.unclassified.filter (· != u), passed := x.passed.filter (· != u) }

/-- A spare's chrysalis begins, or begins again (R52, R99, R104): it has passed no self-test yet. -/
def Spared.entersChrysalis (x : Spared) (u : Nat) : Spared := { x with passed := x.passed.filter (· != u) }

/-- A spare may eclose: it has passed its self-test and is not out for another (R24, R52, R104, R151). -/
def Spared.mayEclose (x : Spared) (u : Nat) : Bool := x.passed.contains u && !x.testing.contains u

/-- A TRANSIENT classification: the page's count, nothing else (R20, R450). -/
def State.transient (s : State) (b : Block) : State :=
  s.count b.page (transientOff b.page) 1

/-- Raise an event that a page may not define. -/
def State.raiseOpt (s : State) (e : Option Evt) : State :=
  match e with | some e => s.raise e | none => s

/-- The EXHAUSTED event: on a page without an EXHAUSTED bit it goes through the non-maskable path alone (R450). -/
def State.raiseExhausted (s : State) (b : Block) : State :=
  match b.exhaustedEvt with
  | some e => s.raise e
  | none => ((s.wr MG_CTL.NMI_CAUSE_EXHAUSTED 1).wr MG_CTL.NMI_PAGE_PAGE b.page).latchVec 0

/-- A LASTING classification's counts, event and quarantine (R20, R450). -/
def State.lastingOnly (s : State) (b : Block) (u : Nat) : State :=
  let s := s.count b.page (lastingOff b.page) 1
  let s := s.setBlock b ((s.block b).quarantined u)
  s.raiseOpt b.lastingEvt

/-- The EXHAUSTED part of a classification (R20, R21, R450). -/
def State.exhausted (s : State) (b : Block) : State :=
  (s.count b.page (exhaustedOff b.page) 1).raiseExhausted b

/-- A LASTING fault of a unit: with a free spare the spare takes its place permanently, without one it is EXHAUSTED and
the place keeps its unit (R20, R26). -/
def State.lasting (s : State) (b : Block) (u : Nat) : State :=
  let x := s.block b
  let s1 := s.lastingOnly b u
  match x.placeOf b u with
  | none => s1
  | some pl =>
    match (s1.block b).freeUnit b with
    | some v => s1.setBlock b ((s1.block b).assign pl v)
    | none => s1.exhausted b

/-- Classify a fault by its second attempt (R20). -/
def State.classify (s : State) (b : Block) (u : Nat) (pass : Bool) : State :=
  if pass then s.transient b else s.lasting b u

/-- Each quarantined unit's reset place is taken by the lowest-numbered unit that is neither quarantined nor placed, in
ascending order of places (R20). -/
def Spared.rebuild (x : Spared) (b : Block) : Spared :=
  (List.range b.places).foldl (fun y pl =>
    if y.quarantine.contains pl then
      match (List.range b.units).find? fun u =>
        decide (b.places ≤ u) && !y.quarantine.contains u && !(y.map.any fun e => e.2 == u) with
      | some u => y.assign pl u
      | none => y
    else y) { x with map := [], testing := [], unclassified := [], passed := [] }

/-- Rebuild the assignment of every block but the converters (R20). -/
def State.rebuildAll (s : State) : State :=
  s.forEach Block.all fun b s => s.setBlock b ((s.block b).rebuild b)

/-! ### Windows (R23) -/

/-- Whether a failed check at a cycle falls in the open window of its region: a second fault (R23). -/
def State.inWindow (s : State) (b : Block) (at_ : Nat) : Bool :=
  match b.region with
  | none => false
  | some r =>
    let w := Tab.get FaultWindow.none s.window r
    w.opened && decide (w.at_ ≤ at_ ∧ at_ < w.at_ + 256)

/-- Open a window at a first failed check (R23). -/
def State.openWindow (s : State) (b : Block) (at_ : Nat) : State :=
  match b.region with
  | none => s
  | some r => { s with window := Tab.set FaultWindow.none s.window r ⟨true, at_⟩ }

/-- Leave a unit to be classified by its next check (R23, R102). -/
def State.deferClass (s : State) (b : Block) (u : Nat) : State :=
  s.setBlock b { s.block b with unclassified := addSorted (s.block b).unclassified u }

/-- Whether a unit's earlier second fault awaits its next check. -/
def State.deferred (s : State) (b : Block) (u : Nat) : Bool := (s.block b).unclassified.contains u

/-- Take a unit off the list of those that await their next check. -/
def State.undefer (s : State) (b : Block) (u : Nat) : State :=
  s.setBlock b { s.block b with unclassified := (s.block b).unclassified.filter (· != u) }

/-- A failed check that is not redone classifies a unit whose earlier one awaited it as LASTING; of a quarantined unit there
is nothing left to classify; any other is left to its next check (R23, R102, R103, R148). -/
def State.deferOrLast (s : State) (b : Block) (u : Nat) : State :=
  if s.deferred b u then (s.undefer b u).lasting b u
  else if (s.block b).quarantine.contains u then s
  else s.deferClass b u

/-- Take a spare that failed during a redo out of the rotation for its self-test (R24). -/
def State.toTest (s : State) (b : Block) (u : Nat) : State :=
  s.setBlock b { (s.block b).entersChrysalis u with testing := addSorted (s.block b).testing u }

/-- A self-test that passes: the unit is back in the rotation and may eclose (R52, R104, R151). -/
def State.testPassed (s : State) (b : Block) (u : Nat) : State :=
  s.setBlock b { s.block b with testing := (s.block b).testing.filter (· != u), passed := addSorted (s.block b).passed u }

/-! ### Spare counts of a page (R451) -/

/-- The spared blocks that a page counts. -/
def pageBlocks (page : Nat) : List Block :=
  match page with
  | 1 => [.core]
  | 4 => [.fromHubBridge]
  | 16 => [.calDetector .E 0, .calDetector .E 1, .calDetector .W 0, .calDetector .W 1]
  | 17 => [.monConv]
  | 19 => [.fromLineBridge .E]
  | 20 => [.fromLineBridge .W]
  | 22 => [.toHubBridge]
  | 30 => [.aes 0, .aes 1]
  | 31 => [.txCluster .E, .toLineBridge .E]
  | 32 => [.txConv .E 0, .txConv .E 1, .txConv .E 2, .txConv .E 3]
  | 34 => [.rxConv .E 0, .rxConv .E 1, .rxConv .E 2, .rxConv .E 3]
  | 35 => [.eqCluster .E, .coefEngine .E]
  | 36 => [.p1Lane .E, .p2Lane .E]
  | 38 => [.decoder .E, .matcher .E, .bchDecoder .E]
  | 39 => [.txCluster .W, .toLineBridge .W]
  | 40 => [.txConv .W 0, .txConv .W 1, .txConv .W 2, .txConv .W 3]
  | 42 => [.rxConv .W 0, .rxConv .W 1, .rxConv .W 2, .rxConv .W 3]
  | 43 => [.eqCluster .W, .coefEngine .W]
  | 44 => [.p1Lane .W, .p2Lane .W]
  | 46 => [.decoder .W, .matcher .W, .bchDecoder .W]
  | _ => []

end Sys2Proof.Machine
end

