-- ==== Sys2Proof/Machine/SlotMap.lean ====
section
/-! DEFINITION. What the tables of the hub say: entries of the slot tables, the banks in force, live slots, line channels and their
channels, dual-path pairs (R169, R208, R217, R219, R230, R234, R235, R244, R264, R307). -/

namespace Sys2Proof.Machine

open F

/-! ### Entries -/

/-- A table word as a lookup meets it; none is a check error (R208). -/
def State.flowWord (s : State) (flow w : Nat) : Option Nat := s.tabWord (flowWin + 16 * flow + 4 * w)
def State.vlanWord (s : State) (i : Nat) : Option Nat := s.tabWord (vlanWin + 4 * i)
def State.chanWord (s : State) (ch : Nat) : Option Nat := s.tabWord (chanWin + 4 * ch)
def slotIndex (bank : Nat) (p : Port) (slot : Nat) : Nat := bank * 192 + p.toNat * 96 + slot
def State.txSlotWord (s : State) (bank : Nat) (p : Port) (slot : Nat) : Option Nat :=
  s.tabWord (txSlotWin + 4 * slotIndex bank p slot)
def State.rxSlotWord (s : State) (bank : Nat) (p : Port) (slot : Nat) : Option Nat :=
  s.tabWord (rxSlotWin + 4 * slotIndex bank p slot)

/-- A slot-table entry (R217, R230). -/
structure SlotEntry where
  kind : Nat
  lch : Nat
  ch : Nat
  src : Nat
  deriving DecidableEq, Repr

/-- An unused entry. -/
def SlotEntry.none : SlotEntry := ⟨0, 0, 0, 0⟩

/-- The entry a word spells; KIND 3 is treated as 0 (R217). -/
def slotEntry (w : Nat) : SlotEntry :=
  let k := bits w 0 2
  if k = 3 then SlotEntry.none else ⟨k, bits w 2 8, bits w 10 8, bits w 18 7⟩

/-- RING mode (R232). -/
def State.ringMode (s : State) : Nat := s.rd HB_RING.RING_CFG_MODE
def State.isRing (s : State) : Bool := decide (s.ringMode = 0)

/-- Outside RING mode entries of kind transit are unused (R234). -/
def State.effEntry (s : State) (e : SlotEntry) : SlotEntry := if e.kind = 2 ∧ ¬ s.isRing then SlotEntry.none else e

/-- An entry that was never written carries nothing. -/
def State.txEntry (s : State) (bank : Nat) (p : Port) (i : Nat) : SlotEntry :=
  match s.txSlotWord bank p i with | some w => s.effEntry (slotEntry w) | none => SlotEntry.none
def State.rxEntry (s : State) (bank : Nat) (p : Port) (i : Nat) : SlotEntry :=
  match s.rxSlotWord bank p i with | some w => s.effEntry (slotEntry w) | none => SlotEntry.none

/-- The banks in force (R217). -/
def State.txBank (s : State) (p : Port) : Nat := s.rd (HB_FRAME.FRM_STATUS_TX_BANK p)
def State.rxBank (s : State) (p : Port) : Nat := s.rd (HB_FRAME.FRM_STATUS_RX_BANK p)

/-- Active lanes of a bridge direction (R264). -/
def State.activeLanes (s : State) (b : Block) : Nat :=
  let x := s.block b
  128 - ((x.serving b).filter fun u => x.quarantine.contains u).length

/-- Lanes of a port's bridge in the direction with fewer, and the slot limit (R264). -/
def State.bridgeLanes (s : State) (p : Port) : Nat := min (s.activeLanes (.toLineBridge p)) (s.activeLanes (.fromLineBridge p))
def State.slotLimit (s : State) (p : Port) : Nat := min 96 (3 * s.bridgeLanes p / 4)

/-- The slots of a port that carry traffic: those below N and below the limit (R36, R264). -/
def State.txSlots (s : State) (p : Port) : Nat := min (s.txMode p).slots (s.slotLimit p)
def State.rxSlots (s : State) (p : Port) : Nat := min (s.rxMode p).slots (s.slotLimit p)

/-- The channel entry is valid, and concatenated (R230). -/
def State.chanValid (s : State) (ch : Nat) : Bool := match s.chanWord ch with | some w => bitOf w 0 | none => false
def State.chanConcat (s : State) (ch : Nat) : Bool := match s.chanWord ch with | some w => bitOf w 0 && bitOf w 1 | none => false

/-- A channel concatenated over both ports has its slots in TERMINAL mode only: in any other they act as unused (R14, R215). -/
def State.permitted (s : State) (e : SlotEntry) : SlotEntry :=
  if e.kind = 1 ∧ s.chanConcat e.ch ∧ s.ringMode ≠ 1 then SlotEntry.none else e

/-- The entry of slot `i` as the framer or deframer meets it. -/
def State.txLive (s : State) (p : Port) (i : Nat) : SlotEntry :=
  if i < s.txSlots p then s.permitted (s.txEntry (s.txBank p) p i) else SlotEntry.none
def State.rxLive (s : State) (p : Port) (i : Nat) : SlotEntry :=
  if i < s.rxSlots p then s.permitted (s.rxEntry (s.rxBank p) p i) else SlotEntry.none

/-- The slot map word of an entry (R169). -/
def slotMapWord (e : SlotEntry) : Nat := if e.kind = 0 then 0 else 0x8000 + e.lch

/-- The words of the active slots of each side (R169). -/
def State.txMap (s : State) (p : Port) : List Nat := (List.range (s.txMode p).slots).map fun i => slotMapWord (s.txLive p i)
def State.rxMap (s : State) (p : Port) : List Nat := (List.range (s.rxMode p).slots).map fun i => slotMapWord (s.rxLive p i)

/-- The slots of a port that add to, drop to, or carry a transit line channel, ascending. -/
def State.addSlots (s : State) (p : Port) (ch : Nat) : List Nat :=
  (List.range 96).filter fun i => let e := s.txLive p i; decide (e.kind = 1 ∧ e.ch = ch)
def State.dropSlots (s : State) (p : Port) (ch : Nat) : List Nat :=
  (List.range 96).filter fun i => let e := s.rxLive p i; decide (e.kind = 1 ∧ e.ch = ch)
def State.transitSlots (s : State) (p : Port) (lch : Nat) : List Nat :=
  (List.range 96).filter fun i => let e := s.txLive p i; decide (e.kind = 2 ∧ e.lch = lch)
/-- The receive slots of a line channel, of kind drop or transit. -/
def State.lchSlots (s : State) (p : Port) (lch : Nat) : List Nat :=
  (List.range 96).filter fun i => let e := s.rxLive p i; decide (e.kind ≠ 0 ∧ e.lch = lch)

/-- Elements in order of first occurrence. -/
def distinct (l : List Nat) : List Nat := l.foldl (fun acc a => if acc.contains a then acc else acc ++ [a]) []

/-- The channels with a slot on a port's transmit side in tag-position order: a channel as its number, a transit line
channel as 256 + LCH (R170, R238). -/
def State.txPositions (s : State) (p : Port) : List Nat :=
  distinct ((List.range 96).filterMap fun i =>
    let e := s.txLive p i
    if e.kind = 1 then some e.ch else if e.kind = 2 then some (256 + e.lch) else none)

/-- The line channels of a port's receive side in tag-position order (R170, R238). -/
def State.rxPositions (s : State) (p : Port) : List Nat :=
  distinct ((List.range 96).filterMap fun i => let e := s.rxLive p i; if e.kind = 0 then none else some e.lch)

/-- The drop channel of a receive line channel, if it is dropped. -/
def State.lchDrop (s : State) (p : Port) (lch : Nat) : Option Nat :=
  ((List.range 96).find? fun i => let e := s.rxLive p i; decide (e.kind = 1 ∧ e.lch = lch)).map fun i => (s.rxLive p i).ch

/-- The transit line channels of the other port that name receive slots of a line channel (R235). -/
def State.transitOuts (s : State) (p : Port) (lch : Nat) : List Nat :=
  let slots := s.lchSlots p lch
  distinct ((List.range 96).filterMap fun i =>
    let e := s.txLive p.other i
    if e.kind = 2 ∧ slots.contains e.src then some e.lch else none)

/-- Channels with slots on a port's receive side. -/
def State.portChannels (s : State) (p : Port) : List Nat :=
  distinct ((List.range 96).filterMap fun i => let e := s.rxLive p i; if e.kind = 1 then some e.ch else none)

/-- The tag positions that the banks in force give the superframe that follows (R170). -/
def State.tagPositions (s : State) (p : Port) : List TagPos :=
  (s.rxPositions p).map fun lch => ⟨lch, s.lchDrop p lch, s.transitOuts p lch⟩

/-! ### Crypto channel table (R307) -/

def State.cryptoWord (s : State) (ch : Nat) : Option Nat := s.tabWord (cryptoWin + 32 * ch)

/-- Bit of word 0 of a channel's crypto entry; 0 where the entry does not count as written. -/
def State.cryptoBit (s : State) (ch b : Nat) : Bool := match s.cryptoWord ch with | some w => bitOf w b | none => false
def State.txEnc (s : State) (ch : Nat) : Bool := s.cryptoBit ch 0
def State.txInteg (s : State) (ch : Nat) : Bool := s.cryptoBit ch 1
def State.rxEnc (s : State) (ch : Nat) : Bool := s.cryptoBit ch 2
def State.rxInteg (s : State) (ch : Nat) : Bool := s.cryptoBit ch 3
def State.holdRelease (s : State) (ch : Nat) : Bool := s.cryptoBit ch 4
def State.kdfEn (s : State) (ch : Nat) : Bool := s.cryptoBit ch 5
def State.role (s : State) (ch : Nat) : Bool := s.cryptoBit ch 6

/-- The dual-path setting of a channel (R244); DP_EN has no effect in DUAL-TERMINAL mode (R234). -/
def State.dpEn (s : State) (ch : Nat) : Bool := s.on (HB_PROT.DP_CFG_DP_EN ch) && decide (s.ringMode ≠ 2)
def State.dpPartner (s : State) (ch : Nat) : Nat := s.rd (HB_PROT.DP_CFG_PARTNER ch)
/-- The primary whose partner a channel is. -/
def State.dpPrimary (s : State) (ch : Nat) : Option Nat :=
  (List.range 192).find? fun c => s.dpEn c && decide (s.dpPartner c = ch) && decide (c ≠ ch)

/-! ### Line channels and the drop side as data -/

def State.lineOf (s : State) (p : Port) (lch : Nat) : LineChan := Tab.get LineChan.init s.line (256 * p.toNat + lch)
def State.onLine (s : State) (p : Port) (lch : Nat) (f : LineChan → LineChan) : State :=
  { s with line := Tab.upd LineChan.init s.line (256 * p.toNat + lch) f }
def State.dropOf (s : State) (ch : Nat) : DropChan := Tab.get DropChan.init s.drop ch
def State.onDrop (s : State) (ch : Nat) (f : DropChan → DropChan) : State := { s with drop := Tab.upd DropChan.init s.drop ch f }

/-- End the packet in progress: its delivery is due, in error or not (R211). -/
def DropChan.endPacket (d : DropChan) (error : Bool) : DropChan :=
  match d.packet with
  | none => d
  | some (tag, bytes, bad, ss) => { d with packet := none, due := d.due ++ [(tag, bytes, bad || error, ss)] }

/-- The copy that a channel is of a dual-path pair: its primary, and whether it is the partner (R244). -/
def State.dpCopy (s : State) (ch : Nat) : Option (Nat × Bool) :=
  if s.dpEn ch then some (ch, false) else (s.dpPrimary ch).map fun c => (c, true)

/-- A port leaves SYNC (R243, R245, R263): no word can be predicted over bytes that were not received, so its line channels lose
their origin lock (log entry 124), which takes down the copies there; the packets in progress of its other channels end with an
error block. -/
def State.originsLost (s : State) (p : Port) : State :=
  let keys := (s.line.map (·.1)).filter fun k => k / 256 == p.toNat
  let n := (keys.filter fun k => (s.lineOf p (k % 256)).locked).length
  let s := s.forEach keys fun k s => s.onLine p (k % 256) fun l =>
    { l with known := false, valid := false, locked := false, matchRun := 0, missRun := 0, cols := [] }
  let s := s.raiseN Ev.HB_PROT.originLost n
  s.forEach ((s.portChannels p).filter fun ch => (s.dpCopy ch).isNone) fun ch s => s.onDrop ch fun d => d.endPacket true

end Sys2Proof.Machine
end

