-- ==== Sys2Proof/Machine/Trace.lean ====
section
/-! DEFINITION. Eyespot tracing: the LFSR, tagging, what joins a record, how an eyespot ends (R398, R457 to R462). -/

namespace Sys2Proof.Machine

open F

/-- One step of the 32-bit LFSR of R398. -/
def lfsrStep (v : Nat) : Nat :=
  (v * 2 + bit (bitOf v 31 ^^ bitOf v 21 ^^ bitOf v 1 ^^ bitOf v 0)) % 2 ^ 32

/-- `n` steps of the LFSR. -/
def lfsrSteps : Nat → Nat → Nat
  | 0, v => v
  | n + 1, v => lfsrSteps n (lfsrStep v)

/-- The state that `TRACE_SEED` gives a source: 0 is loaded as 1 (R458). -/
def traceSeed (seed src : Nat) : Nat :=
  let v := (seed + src) % 2 ^ 32
  if v = 0 then 1 else v

/-- The LFSR of a source; until it first advances it holds what the reset value of `TRACE_SEED` loads (log entry 36). -/
def State.traceLfsr (s : State) (src : Nat) : Nat := Tab.get (traceSeed MG_OBS.TRACE_SEED_SEED.reset src) s.trace.lfsr src

/-- The eyespot in flight of a source. -/
def State.flightOf (s : State) (src : Nat) : Option Eyespot := (s.trace.flight.find? fun e => e.1 == src).map (·.2)

def State.onTrace (s : State) (f : TraceState → TraceState) : State := { s with trace := f s.trace }

/-- Put a record into the buffer, or drop it where the buffer is full (R462). -/
def State.bufferRecord (s : State) (e : Eyespot) : State :=
  if s.trace.buffer.length < 256 then s.onTrace fun t => { t with buffer := t.buffer ++ [e] }
  else s.raise Ev.MG_OBS.bufferFull

/-- Nine stamps: those taken, then `0xFFFF_FFFF` (R459). -/
def nineStamps (l : List Nat) : List Nat := (l ++ List.replicate 9 0xFFFFFFFF).take 9

/-- The LFSR value with which the next candidate of a source is judged (R458). -/
def State.candidate (s : State) (src : Nat) : Nat := lfsrSteps 32 (s.traceLfsr src)

/-- The next candidate of a source is tagged (R458). -/
def State.tagged (s : State) (src : Nat) : Bool :=
  decide (s.candidate src % 2 ^ s.traceK src = 0) && (s.flightOf src).isNone &&
    s.on (MG_OBS.TRACE_CFG_EN src) && s.on MG_OBS.TRACE_RING_CFG_RING_EN

/-- A candidate passes a source: its LFSR advances 32 steps, and it may be tagged (R458, R459). -/
def State.tag (s : State) (src : Nat) (i : Instant) (ss index blockNo depth : Nat) : State :=
  let t := s.tagged src
  let v := s.candidate src
  let s := { s with tclk := max s.tclk i.tclk }.onTrace fun t => { t with lfsr := Tab.insert t.lfsr src v }
  s.cond t fun s =>
    let n := Tab.get 0 s.trace.seq src
    let e : Eyespot := ⟨src, n, i.tclk, ss, index, blockNo, 0, 0, depth, nineStamps i.stamps⟩
    (s.onTrace fun t => { t with seq := Tab.set 0 t.seq src ((n + 1) % 65536), flight := Tab.insert t.flight src e }).count
      5 (0x440 + 4 * src) 1

/-- Change the record of the eyespot in flight of a source. -/
def State.onFlight (s : State) (src : Nat) (f : Eyespot → Eyespot) : State :=
  match s.flightOf src with
  | none => s
  | some e => s.onTrace fun t => { t with flight := Tab.insert t.flight src (f e) }

/-- End the eyespot of a source whose object is destroyed: marked INCOMPLETE and delivered (R461). -/
def State.endEyespot (s : State) (src : Nat) : State :=
  match s.flightOf src with
  | none => s
  | some e =>
    let s := s.onTrace fun t => { t with flight := Tab.erase t.flight src }
    (s.bufferRecord { e with flags := setBit e.flags 19 true }).raise Ev.MG_OBS.incomplete

/-- Load every LFSR from `TRACE_SEED` (R458). -/
def State.seedTrace (s : State) (v : Nat) : State :=
  (s.wr MG_OBS.TRACE_SEED_SEED v).onTrace fun t =>
    { t with lfsr := (List.range 6).map fun src => (src, traceSeed v src) }

end Sys2Proof.Machine
end

