-- ==== Sys2Proof/Machine/Line.lean ====
section
/-! DEFINITION. The operations on a line port that several families share: the transmitter's ramp and state, the receive
acquisition state with what each change keeps, early commits, eyespots that end (R57 to R59, R88, R117, R461, R483). -/

namespace Sys2Proof.Machine

open F

/-! ### State codes -/

/-- `TX_STATE` (R62). -/
def txDark : Nat := 0
def txRampUp : Nat := 1
def txAlign : Nat := 2
def txOn : Nat := 3
def txRampDown : Nat := 4
def txResetWait : Nat := 5

def State.txSt (s : State) (p : Port) : Nat := s.rd (TX.TX_STATUS_TX_STATE p)

/-- Change one port's transmitter. -/
def State.onTx (s : State) (p : Port) (f : TxState → TxState) : State := { s with tx := s.tx.upd p f }

/-- Change one port's decoder pool. -/
def State.onFec (s : State) (p : Port) (f : FecState → FecState) : State := { s with fec := s.fec.upd p f }

/-- Change one port's receive region. -/
def State.onRx (s : State) (p : Port) (f : RxState → RxState) : State := { s with rx := s.rx.upd p f }

/-- Change a port's calibration run. -/
def State.onCal (s : State) (p : Port) (f : CalRun → CalRun) : State := { s with calRun := s.calRun.upd p f }

/-- The skew phase of a run is suspended while there is no signal or no carrier (R74). -/
def State.skewSuspend (s : State) (p : Port) : State :=
  let ok := s.on (RXFE.ACQ_STATUS_CARRIER p) && !s.on (RXFE.ACQ_STATUS_LOS p)
  s.onCal p fun r => { r with suspended := r.skewing && !ok }

/-- The carrier indication changes (R85). -/
def State.setCarrier (s : State) (p : Port) (b : Bool) : State := (s.wrB (RXFE.ACQ_STATUS_CARRIER p) b).skewSuspend p

/-! ### Transmitter (R57 to R59) -/

/-- The attenuation A in units of 1/(1,000 × `rampMs`) dB: TOTAL_DB in DARK (R57). -/
def State.attenRaw (s : State) (p : Port) : Nat :=
  let t := s.tx.get p
  if s.txSt p = txDark then s.rd (TX.RAMP_DEPTH_TOTAL_DB p) * 1000 * t.rampMs else t.atten

/-- The current attenuation in 0.01 dB, rounded down, which the model chooses (R62, ATTEN_CDB; log entry 82). -/
def State.attenCdb (s : State) (p : Port) : Nat := s.attenRaw p / (10 * (s.tx.get p).rampMs)

/-- The converters' share of A, and the VOA's, in the units of `attenRaw` (R57). -/
def State.convShare (s : State) (p : Port) : Nat :=
  min (s.attenRaw p) (s.rd (TX.RAMP_DEPTH_CONV_DB p) * 1000 * (s.tx.get p).rampMs)
def State.voaShare (s : State) (p : Port) : Nat := s.attenRaw p - s.convShare p

/-- The code on TX_RAMP: interpolated in `VOA_TABLE`, entry 15 when dark, 0 V while forced (R58). An interpolated code is
rounded down, which the model chooses (log entry 82). -/
def State.rampCode (s : State) (p : Port) : Nat :=
  if s.pins.txZero.get p then 0
  else if s.txSt p = txDark then s.rd (TX.VOA_TABLE_CODE p 15)
  else
    let den := (s.rd (TX.RAMP_DEPTH_TOTAL_DB p) - s.rd (TX.RAMP_DEPTH_CONV_DB p)) * 1000 * (s.tx.get p).rampMs
    if den = 0 then s.rd (TX.VOA_TABLE_CODE p 0)
    else
      let pos := s.voaShare p * 15
      let i := pos / den
      if 15 ≤ i then s.rd (TX.VOA_TABLE_CODE p 15)
      else
        let a : Int := s.rd (TX.VOA_TABLE_CODE p i)
        let b : Int := s.rd (TX.VOA_TABLE_CODE p (i + 1))
        (a + ((b - a) * (pos % den : Nat)).ediv den).toNat

/-- Release or force TX_RAMP of a port. -/
def State.forceRampLow (s : State) (p : Port) (low : Bool) : State :=
  { s with pins := { s.pins with txZero := s.pins.txZero.upd p fun _ => low } }

/-- Change one port's framer. -/
def State.onFrame (s : State) (p : Port) (f : FrameState → FrameState) : State := { s with frame := s.frame.upd p f }

/-- The place in its superframe of the frame that a port sends next: what a transmitter sends changes with a frame (log
entry 84). -/
def State.nextFrame (s : State) (p : Port) : Nat :=
  let f := s.frame.get p
  if f.started then (f.fcTx + 1) % 256 else 0

/-- From the next frame on the transmitter sends `c`; a preamble that begins there begins with its first symbol (R54,
R59). -/
def State.txSend (s : State) (p : Port) (c : TxContent) : State :=
  let i := s.nextFrame p
  s.onTx p fun t => { t with sent := (t.sent.filter fun e => decide (e.1 < i)) ++ [(i, c)],
                             prePhase := if i = 0 then 0 else t.prePhase }

/-- The same, where it does not send it already. -/
def State.txSendNew (s : State) (p : Port) (c : TxContent) : State :=
  if ((s.tx.get p).sent.getLast?.map (·.2)) = some c then s else s.txSend p c

/-- The transmitter reaches DARK: converters zeroed, no preamble; a pending AGREED TXMOD request commits early
(R59, R483). -/
def State.txGoDark (s : State) (p : Port) : State :=
  let s := s.onTx p fun t => { t with zeroed := true, repeating := false, endMarker := false, forced := false }
  let s := (s.txSend p .dark).wr (TX.TX_STATUS_TX_STATE p) txDark
  s.commitEarly p.toNat

/-- Start a ramp-up from TOTAL_DB out of DARK: the preamble repeats, free-running (R59). -/
def State.txStart (s : State) (p : Port) : State :=
  let ms := s.rampMs p
  let a := s.rd (TX.RAMP_DEPTH_TOTAL_DB p) * 1000 * ms
  let s := s.onTx p fun t => { t with atten := a, rampMs := ms, zeroed := false, repeating := true, endMarker := false }
  let s := (s.txSend p .preamble).wr (TX.TX_CTRL_TX_ENABLE p) 1
  let s := s.wr (TX.TX_STATUS_TX_STATE p) txRampUp
  s.forceRampLow p false

/-- Enter or restart ALIGN: the end marker is scheduled at the first superframe boundary that the preamble can end at
(R59). -/
def State.txToAlign (s : State) (p : Port) : State :=
  let i := s.nextFrame p
  (s.onTx p fun t => { t with endMarker := true, repeating := true, alignAt := i }).wr (TX.TX_STATUS_TX_STATE p) txAlign

/-- Start to ramp down from ALIGN or ON: a new ramp from 0 dB, with `RAMP_MS` sampled; what is sent goes on (R57, R59). -/
def State.txRampFromTop (s : State) (p : Port) (next : Nat) : State :=
  let ms := s.rampMs p
  let s := s.onTx p fun t => { t with atten := 0, rampMs := ms, endMarker := false }
  s.wr (TX.TX_STATUS_TX_STATE p) next

/-- `TX_ENABLE` set (R59). -/
def State.txEnableSet (s : State) (p : Port) : State :=
  if s.txSt p = txDark then
    if s.txValid p then s.txStart p else (s.wr (TX.TX_CTRL_TX_ENABLE p) 0).raise (Ev.TX.cfgRefused p)
  else if s.txSt p = txRampDown then
    let s := (s.onTx p fun t => { t with repeating := true }).txSendNew p .preamble
    (s.wr (TX.TX_CTRL_TX_ENABLE p) 1).wr (TX.TX_STATUS_TX_STATE p) txRampUp
  else s

/-- `TX_ENABLE` cleared (R59). -/
def State.txEnableClear (s : State) (p : Port) : State :=
  if s.txSt p = txResetWait then s
  else
    -- the transmit skew task runs only while `TX_ENABLE` is 1 (R424)
    let s := (s.wr (TX.TX_CTRL_TX_ENABLE p) 0).cond (bitOf (s.rd PWR_MGR.CAL_STATE_ACTIVE) p.toNat) fun s => s.abandonTask p.toNat
    if s.txSt p = txRampUp then s.wr (TX.TX_STATUS_TX_STATE p) txRampDown
    else if s.txSt p = txAlign ∨ s.txSt p = txOn then s.txRampFromTop p txRampDown
    else s

/-- Loss of power, reset or an RCLK failure: converters zeroed and TX_RAMP at 0 V at once (R59, R316). -/
def State.txCut (s : State) (p : Port) : State :=
  ((s.wr (TX.TX_CTRL_TX_ENABLE p) 0).txGoDark p).forceRampLow p true

/-- A TXMOD eclosion that changes `SYM_RATE` takes effect: the preamble from the boundary on, to its end in ON and ALIGN
(R59). -/
def State.txRateChange (s : State) (p : Port) : State :=
  if s.txSt p = txOn ∨ s.txSt p = txAlign then (s.txSend p .preamble).txToAlign p
  else if s.txSt p = txRampUp ∨ s.txSt p = txRampDown then
    (s.txSend p .preamble).onTx p fun t => { t with repeating := true }
  else s

/-! ### Receive acquisition (R88, R117) -/

/-- The ring entries received on a port are no longer those of a complete superframe. -/
def State.dropRingEntries (s : State) (p : Port) : State :=
  { s with ring := { s.ring with recv := Tab.drop s.ring.recv fun k => k / 32 == p.toNat,
                                 recvLast := Tab.drop s.ring.recvLast fun k => k / 32 == p.toNat } }

/-- OOF is declared: the deframer hunts from the bits that follow, and the eyespot it carries ends (R176, R461). -/
def State.declareOof (s : State) (p : Port) : State :=
  let s := (s.wr (HB_FRAME.FRM_STATUS_SYNC p) 0).wr (HB_FRAME.FRM_STATUS_OOF p) 1
  let s := (s.wr (HB_FRAME.FRM_STATUS_MISSES p) 0).wr (HB_FRAME.DVR_STATUS_UP p) 0
  let s := s.onFrame p fun f => { f with huntPos := 0, cands := [] }
  (((s.dropRingEntries p).originsLost p).endEyespot (4 + p.toNat)).raise (Ev.HB_FRAME.oof p)

/-- What the decoder pool starts from at a superframe boundary: nothing held, data block 1 next (R142). -/
def FecState.cleared (f : FecState) : FecState :=
  { f with store := [], repeating := [], nextCw := 0, block := 1, index := 0, gather := [], data := [], dataPos := 0,
           bchNo := 0, line := [], leavingDec := [], matcherBad := false, bchBad := false }

/-- `SF_LOCK` clears: the decoder has no superframe boundary, decodes nothing, and the codeword eyespot of the port ends
(R142, R461; log entry 37); the deframer clears its candidates and leaves SYNC (R176). -/
def State.loseBoundary (s : State) (p : Port) : State :=
  let s := ((s.wr (FEC.SF_STATUS_SF_LOCK p) 0).onFec p FecState.cleared).endEyespot p.toNat
  let s := s.onRx p fun r => { r with labels := [], skip := 0, symPos := 0 }
  if s.on (HB_FRAME.FRM_STATUS_SYNC p) then s.declareOof p
  else s.onFrame p fun f => { f with huntPos := 0, cands := [] }

/-- Clear `TR_LOCK`, counted where it was set (R108). -/
def State.clearTrLock (s : State) (p : Port) : State :=
  if s.on (RXEQ.EQ_STATUS_TR_LOCK p) then
    ((s.wr (RXEQ.EQ_STATUS_TR_LOCK p) 0).raise (Ev.RXEQ.trLockCleared p)).refPort p
  else s

/-- Cleared by every event of R117: Δf and phase, convergence, and the demapper's output goes to zero LLRs. -/
def State.eqQuiet (s : State) (p : Port) : State :=
  let s := s.wr (RXEQ.CR_EST_DELTA_F p) 0
  let s := s.wr (RXEQ.EQ_STATUS_EQ_CONV p) 0
  let s := s.wr (RXEQ.EQ_STATUS_DD_MODE p) 0
  s.onRx p fun r => { r with zeroLlr := true, freqRun := 0, convRun := 0, divergeRun := 0, slipRun := 0, deltaF := 0, nco := 0,
                             phaseX := 0, phaseY := 0, retained := [], marker := none }

/-- Clear the hypothesis (R117). -/
def State.eqNoHypothesis (s : State) (p : Port) : State :=
  ((s.wr (RXEQ.EQ_STATUS_POL_SWAP p) 0).wr (RXEQ.EQ_STATUS_ROT_X p) 0).wr (RXEQ.EQ_STATUS_ROT_Y p) 0

/-- Coefficients to identity, timing loop to nominal, hypothesis cleared (R117). -/
def State.eqReset (s : State) (p : Port) (run : Bool) : State :=
  let s := (s.eqQuiet p).eqNoHypothesis p
  let s := s.clearTrLock p
  let s := s.wr (RXEQ.TR_EST_RATE_OFS p) 0
  s.onRx p fun r => { r with mimo := Mimo.identity, mimoNext := Mimo.identity, mimoStandby := false, mimoFrozen := false,
                             timingOn := run, timingHeld := false, lockRun := 0, unlockRun := 0, trPhase := 0, trRate := 0,
                             trHop := r.nextHop, trBase := r.nextHop, nextSym := 0 }

/-- The acquisition state changes; leaving ACQUIRED commits a pending AGREED RXMOD request early (R483; log
entry 32). -/
def State.acqMove (s : State) (p : Port) (next : Nat) : State :=
  let was := s.acqSt p
  let s := ((s.wr (RXFE.ACQ_STATUS_ACQ_STATE p) next).settleReport p).cond (decide ((was = acqAcquired) ≠ (next = acqAcquired)))
    fun s => s.refPort p
  if was = acqAcquired ∧ next ≠ acqAcquired then
    let s := s.onRx p fun r => { r with acqUs := 0, acqDefect := true }
    let s' := s.commitEarly (4 + p.toNat)
    s'.cond (decide ((s.rxMode p).rateQ ≠ (s'.rxMode p).rateQ)) fun s => s.eqReset p false
  else s

/-- ACQ_LOST where the state was ACQUIRED (R88). -/
def State.acqLost (s : State) (p : Port) : State :=
  if s.acqSt p = acqAcquired then s.raise (Ev.RXFE.acqLost p) else s

/-- Entry to CD_SCAN (R88, R117, R142). -/
def State.toCdScan (s : State) (p : Port) : State :=
  (((s.acqMove p acqCdScan).eqReset p false).loseBoundary p).onRx p fun r => { r with fHatEst := false }

/-- Entry to TIMING: the constant-modulus adaptation and the timing loop start (R112, R117). -/
def State.toTiming (s : State) (p : Port) : State := (s.acqMove p acqTiming).eqReset p true

/-- Loss of signal: the coefficients and the rate are held (R88, R117). -/
def State.toNoSignal (s : State) (p : Port) : State :=
  let s := (s.acqMove p acqNoSignal).eqQuiet p
  s.onRx p fun r => { r with mimoFrozen := true, timingHeld := true }

/-- The hops in flight are gone: the spare carries nothing, and a cluster that was to become the spare is it (R97, R100,
R104). -/
def State.dropHops (s : State) (p : Port) : State :=
  let s := (s.wr (RXEQ.CLU_ROT_SPARE_BUSY p) 0).cond (!(s.rx.get p).leaving.isEmpty) fun s =>
    s.wr (RXEQ.CLU_ROT_CHRYS_CLU p) (((s.rx.get p).leaving.head?.map (·.2)).getD 31)
  s.onRx p fun r => { r with hops := [], leaving := [], exchange := [], acting := [], lateNext := [], lateLanes := [],
                             zeroOnce := [], lastErased := 0, front := FrontTail.none }

/-- `RX_ENABLE` cleared or region reset: stop, keep trims and quarantine (R88, R117). -/
def State.toIdle (s : State) (p : Port) : State :=
  let s := (((s.acqMove p acqIdle).eqReset p false).loseBoundary p).setCarrier p false
  -- LOF clears as the acquisition state goes to IDLE (R177)
  let s := s.cond (s.on (HB_FRAME.FRM_STATUS_LOF p)) fun s =>
    (s.wr (HB_FRAME.FRM_STATUS_LOF p) 0).raise (Ev.HB_FRAME.lofCleared p)
  (s.dropHops p).onRx p fun r => { r with fHatOn := false, fHatEst := false }

/-- An RXMOD eclosion that changes `SYM_RATE` takes effect, in any state but IDLE (R88, R117). -/
def State.rxRateChange (s : State) (p : Port) : State :=
  if s.acqSt p = acqIdle then s
  else
    let keep := decide ((s.rdI (RXFE.CD_EST_D_HAT p)).natAbs ≤ 10 * wMax (s.rxMode p) (s.rd (RXFE.CARRIER_FREQ_GHZ p)))
    if keep then (((s.acqMove p acqPreHunt).eqReset p true).loseBoundary p) else s.toCdScan p

/-- Entry to PRE_HUNT: from ACQUIRED the coefficients and the timing loop are kept, unless the early commit that leaving ACQUIRED
brings changes the symbol rate (R88, R117, R142, R483). -/
def State.toPreHunt (s : State) (p : Port) : State :=
  let s' := s.acqMove p acqPreHunt
  if (s'.rxMode p).rateQ ≠ (s.rxMode p).rateQ then s'.rxRateChange p else (s'.eqQuiet p).loseBoundary p

/-! ### Commits with what the blocks do at them -/

/-- A commit of a request, followed by what a changed symbol rate does at the ports (R59, R88, R481). -/
def State.commit (s : State) (key : Nat) (req : EclReq) (early : Bool) : State :=
  let s' := s.commitRaw key req early
  s'.forEach [Port.E, Port.W] fun p t =>
    let t := t.cond (bitOf req.groups (4 + p.toNat)) fun t => t.onRx p fun r => { r with newMode := none }
    let t := t.cond (bitOf req.groups p.toNat && decide ((s.txMode p).rateQ ≠ (s'.txMode p).rateQ)) fun t => t.txRateChange p
    t.cond (bitOf req.groups (4 + p.toNat) && decide ((s.rxMode p).rateQ ≠ (s'.rxMode p).rateQ)) fun t => t.rxRateChange p

end Sys2Proof.Machine
end

