-- ==== Sys2Proof/Machine/Shape.lean ====
section
/-! DEFINITION. The shaping station and what a transmitter sends over a superframe: payload, preambles, zero-amplitude
releases, scale, pre-emphasis, skew and the converter codes (R46 to R59). -/

namespace Sys2Proof.Machine

open F

/-! ### Scale (R46, R54) -/

/-- 64 times the mean power of a polarisation's symbol on the grid of odd integers: over the composition of a shaped base,
over all symbols of a uniform one (R46). -/
def Mode.power64 (x : Mode) : Nat :=
  if x.shaped then x.composition.energy else match x.base with | 0 => 128 | 1 => 640 | _ => 2688

/-- The preamble's, whose symbols are ±1 in each dimension (R54). -/
def preamblePower64 : Nat := 128

/-! ### Zero-amplitude release of a codeword (R51) -/

/-- Symbols of a block, as 2t for X and 2t + 1 for Y of symbol period t, that carry a sent information bit of the codeword
`q` of the block (R138). -/
def infoSymbols (x : Mode) (kinds : Array Nat) (q : Nat) : List Nat :=
  ((infoPlaces x kinds).zipIdx.filter fun e => e.2 % x.codewords = q).map fun e => e.1.1 / 2

/-- Places of a parity region that carry a parity bit of the codeword `q` of `c` (R138). -/
def parityPlaces (c q len : Nat) : List Nat := (List.range len).filter fun g => g % c = q

/-- Symbols that places of a parity region belong to. -/
def regionSymbols (kinds : Array Nat) (places : List Nat) : List Nat :=
  let region := (parityRegion kinds).toArray
  places.map fun g => region.getD g 0 / 2

/-- The sign kinds of the data blocks and of the seam of a superframe (R137). -/
def dataKinds (x : Mode) : Array Nat := signKinds x 64 (x.codewords * x.parityBits)
def seamKinds (x : Mode) (seam : SeamParity) : Array Nat :=
  signKinds x 64 (match seam with | some p => p.length | none => x.codewords * x.parityBits)

/-- The first symbol period of block `j` of a superframe: block 0 is the seam, the pad follows it (R128). -/
def Mode.blockStart (x : Mode) (j : Nat) : Nat := if j = 0 then 0 else x.pad + 4096 * j

/-- Symbols of a superframe to send at zero amplitude: those of its failed codewords `cws`, and those of the seam that carry
parity of failed codewords of the superframe before (R51, R130). -/
def zeroSymbols (x : Mode) (seam : SeamParity) (cws seamPlaces : List Nat) : List Nat :=
  let c := x.codewords
  let kinds := dataKinds x
  regionSymbols (seamKinds x seam) seamPlaces ++
    cws.flatMap fun n =>
      let j := n / c + 1
      ((infoSymbols x kinds (n % c)).map (2 * x.blockStart j + ·)) ++
        (if j + 1 < x.blocks then
          (regionSymbols kinds (parityPlaces c (n % c) (c * x.parityBits))).map (2 * x.blockStart (j + 1) + ·)
        else [])

/-- The places of the next seam's parity region that carry parity of failed codewords of the last data block (R130). -/
def seamPlaces (x : Mode) (cws : List Nat) : List Nat :=
  (cws.filter fun n => decide (n / x.codewords + 2 = x.blocks)).flatMap fun n =>
    parityPlaces x.codewords (n % x.codewords) (x.codewords * x.parityBits)

/-- Symbols with some of them at zero amplitude. -/
def zeroThem (zeros : List Nat) (l : List (List Int)) : List (List Int) :=
  let mark := zeros.foldl (fun (a : Array Bool) n => a.setIfInBounds n true) (Array.replicate (2 * l.length) false)
  l.zipIdx.map fun e =>
    let off := fun n (v : List Int) => if mark.getD n false then v.map fun _ => 0 else v
    off (2 * e.2) (e.1.take 2) ++ off (2 * e.2 + 1) (e.1.drop 2)

/-! ### What is sent over a superframe (R54, R55, R59) -/

/-- Symbols `[a, b)` of a superframe as preambles in repetition, `phase` the place in the preamble of symbol `a`; with
`align`, the last preamble ends with the superframe whole (R54, R59; log entry 84). -/
def preambleRun (x : Mode) (a b phase : Nat) (align : Bool) : List (List Int) :=
  let pre := preamble.toArray
  let last := x.superframeSymbols - preambleSymbols
  (List.range (b - a)).map fun k =>
    let i := a + k
    if align ∧ last ≤ i then pre.getD (i - last) [] else pre.getD ((phase + k) % preambleSymbols) []

/-- The stretches of a superframe by what is sent: first and last frame, content. -/
def stretches : List (Nat × TxContent) → List (Nat × Nat × TxContent)
  | [] => []
  | [e] => [(e.1, 256, e.2)]
  | e :: f :: t => (e.1, f.1, e.2) :: stretches (f :: t)

/-- The frame of a superframe by its place in it; one of which nothing is recorded is the last one before it. -/
def TxState.frameAt (t : TxState) (j : Nat) : TxFrame :=
  ((t.frames.filter fun e => decide (e.1 ≤ j)).getLast?.map (·.2)).getD TxFrame.init

/-- The mode of a stretch is that of its first frame: no mode changes inside one (R60). -/
def TxState.modeAt (t : TxState) (e : Nat × Nat × TxContent) : Mode := (t.frameAt e.1).mode

/-- The preamble at the end of a superframe can be whole: ALIGN began early enough (R59). -/
def TxState.aligns (t : TxState) (x : Mode) : Bool :=
  t.endMarker && decide (preambleSymbols ≤ (256 - t.alignAt) * (250 * x.rateQ))

/-- What a stretch sends, with the phase of its first preamble symbol (R54). -/
def TxState.stretchPhase (t : TxState) (e : Nat × Nat × TxContent) : Nat := if e.1 = 0 then t.prePhase else 0

/-- Symbols of a mode from a place of the superframe on. -/
def segment (x : Mode) (first power64 : Nat) (syms : List (List Int)) : Segment := ⟨x.rateQ, x.rolloff, first, power64, syms⟩

/-- The segments of a superframe: nothing, preambles in repetition, or payload, whose end a preamble may replace (R55, R59);
each stretch in the mode it began with. -/
def TxState.segments (t : TxState) (pre : Bool) (payload : List (List Int)) : List Segment :=
  (stretches t.sent).flatMap fun e =>
    let x := t.modeAt e
    let n := 250 * x.rateQ
    let last := x.superframeSymbols - preambleSymbols
    let a := n * e.1
    let b := n * e.2.1
    match e.2.2 with
    | .dark => [segment x a preamblePower64 (List.replicate (b - a) [0, 0, 0, 0])]
    | .preamble =>
      [segment x a preamblePower64 (preambleRun x a b (t.stretchPhase e) (t.aligns x && decide (e.2.1 = 256)))]
    | .payload =>
      if pre ∧ e.2.1 = 256 then [segment x a x.power64 ((payload.take last).drop a), segment x last preamblePower64 preamble]
      else [segment x a x.power64 ((payload.take b).drop a)]

/-- Preambles that free-running repetition completes in a superframe (R64); the aligned one is counted with its end
marker. -/
def TxState.preamblesDone (t : TxState) : Nat :=
  ((stretches t.sent).map fun e =>
    let x := t.modeAt e
    if e.2.2 = .preamble then
      let stop := if t.aligns x ∧ e.2.1 = 256 then x.superframeSymbols - preambleSymbols else 250 * x.rateQ * e.2.1
      (t.stretchPhase e + (stop - 250 * x.rateQ * e.1)) / preambleSymbols
    else 0).sum

/-- The place in the preamble at which the next superframe goes on (R54). -/
def TxState.nextPhase (t : TxState) : Nat :=
  match (stretches t.sent).getLast? with
  | some e =>
    let x := t.modeAt e
    if t.aligns x then 0 else (t.stretchPhase e + 250 * x.rateQ * (256 - e.1)) % preambleSymbols
  | none => 0

/-! ### The settings of a frame (R48, R57, R60, R63) -/

/-- The signed skew of a transmit converter in 1/256 sample, a value beyond ±2,048 read as the nearer limit (R48, R63), with the
correction in force of the transmit skew task added (R424). -/
def State.txSkew (s : State) (p : Port) (c : Nat) : Int :=
  clampInt (-2048) 2048 (signed 13 (s.rdA (TXCONV.SKEW_DELAY p c))) + (s.taskOf p.toNat).corr.getD c 0

/-- The `PRE_EMPH` gain at point `i` in 0.1 dB. -/
def State.preEmph (s : State) (p : Port) (c i : Nat) : Nat :=
  s.rdA ((match i % 4 with
    | 0 => TXCONV.PRE_EMPH_GAIN0
    | 1 => TXCONV.PRE_EMPH_GAIN1
    | 2 => TXCONV.PRE_EMPH_GAIN2
    | _ => TXCONV.PRE_EMPH_GAIN3) p c (i / 4))

/-- What a transmit converter is set to. -/
def State.convSet (s : State) (p : Port) (c : Nat) : ConvSet :=
  ⟨s.txSkew p c, s.rdA (TXCONV.CONV_CFG_AMPLITUDE p c), (List.range 32).map (s.preEmph p c)⟩

/-- The share of the attenuation that the converter amplitude supplies, in 0.01 dB (R57). -/
def State.convAtten (s : State) (p : Port) (a : Nat) : Nat := min a (100 * s.rd (TX.RAMP_DEPTH_CONV_DB p))

/-- The positions of a transmit converter that were at mid-scale since the last frame began (R53). -/
def State.drove (s : State) (p : Port) (c : Nat) : List Nat := (Tab.get ConvState.init s.txConv (4 * p.toNat + c)).drove

/-- A new frame is sent with what is in force as it begins (R57, R60; log entry 84); the record of the superframe before goes
with its first frame. -/
def State.recordFrame (s : State) (p : Port) (j : Nat) : State :=
  let r : TxFrame :=
    ⟨s.txMode p, s.convAtten p (s.attenCdb p), (List.range 4).map (s.convSet p), (List.range 4).map (s.drove p)⟩
  let s := s.onTx p fun t => { t with frames := Tab.set TxFrame.init (if j = 0 then [] else t.frames) j r }
  { s with txConv := (List.range 4).foldl (fun l c =>
      Tab.upd ConvState.init l (4 * p.toNat + c) fun x => { x with drove := x.flagged }) s.txConv }

/-! ### The shaping station (R47, R48) -/

/-- Samples of a converter in a superframe, in a frame, in a shaping block; points of the transform (R47). -/
def sfSamples : Nat := 87040000
def frameSamples : Nat := 340000
def blockSamples : Nat := 512
def sfShapingBlocks : Nat := 170000
def shapingPoints : Nat := 1024

/-- The root-raised-cosine spectrum at bin `b` of the 1,024-point transform, whose bins lie 340/1,024 GHz apart, for a symbol
rate and a roll-off β of `rolloff` × 0.005 (R47). -/
def rrc (rateQ rolloff b : Nat) : Rat :=
  let f : Rat := (b * 1360 : Nat) / (shapingPoints * rateQ : Nat)
  let lo : Rat := ((200 - rolloff : Nat) : Rat) / 400
  let hi : Rat := ((200 + rolloff : Nat) : Rat) / 400
  if f ≤ lo then 1 else if hi ≤ f then 0 else (cisTurns (50 * (f - lo) / rolloff)).1

/-- The pre-emphasis in bin `b` in 1/2,560 dB: linear in decibels between the points, which lie 5 GHz apart; point 31 holds
above 155 GHz (R48). -/
def ConvSet.emphasis (x : ConvSet) (b : Nat) : Int :=
  let i := b * 17 / 256
  let g : Nat → Int := fun i => x.gains.getD (min 31 i) 0
  g i * 256 + (g (i + 1) - g i) * (b * 17 % 256 : Nat)

/-- An amplitude ratio of `k` / `d` dB. -/
def gainOf (k : Int) (d : Nat) : Rat := (expFix ((k * lnFix 10 1).ediv (20 * d)) : Rat) / 2 ^ 64

/-- The instant of a segment's symbol `k` in sample periods from the start of its superframe (R47). -/
def Segment.instant (g : Segment) (k : Nat) : Rat := ((g.first + k) * 1360 : Int) / (g.rateQ : Rat)

/-- The level of a symbol's grid value 1 in codes for an amplitude, which is the output RMS in 1/256 of half full scale: the
mapper's scale, and the symbol periods per sample (R46, R47, R63). -/
def Segment.level (g : Segment) (amplitude : Nat) : Rat :=
  if g.power64 = 0 then 0
  else (amplitude : Rat) / 2 * ((isqrt (128 * 2 ^ 64 / g.power64) : Nat) / 2 ^ 32) * (1360 / g.rateQ)

/-- The symbols of a converter in the 1,024 sample periods from `w` on: instant within them, level and spectrum (R47). -/
def windowSymbols (segs : List Segment) (amplitude c : Nat) (w : Int) : List (Rat × Rat × (Nat → Rat)) :=
  segs.flatMap fun g => g.syms.zipIdx.filterMap fun e =>
    let t := g.instant e.2 - w
    if 0 ≤ t ∧ t < shapingPoints then some (t, g.level amplitude * (e.1.getD c 0 : Int), rrc g.rateQ g.rolloff) else none

/-- The transform of a window in bin `b`, through the root-raised-cosine spectrum (R47). -/
def windowBin (l : List (Rat × Rat × (Nat → Rat))) (b : Nat) : Rat × Rat :=
  l.foldl (fun a e =>
    let z := cisTurns (-(b * e.1) / shapingPoints)
    (a.1 + e.2.1 * e.2.2 b * z.1, a.2 + e.2.1 * e.2.2 b * z.2)) (0, 0)

/-- Half the transform: the delay of the station's filters, whose tails lie in the samples that overlap-save drops (R47; log
entry 85). -/
def filterDelay : Nat := 256

/-- Sample `n` of a converter in the superframe, in codes above mid-scale, before it clips: the last 512 samples of each
transform are kept; pre-emphasis, skew, where a positive value delays, and amplitude act on the spectrum (R47, R48). -/
def shapeSample (segs : List Segment) (set : ConvSet) (atten c n : Nat) : Int :=
  let w : Int := (n / blockSamples * blockSamples : Nat) - blockSamples
  let l := windowSymbols segs set.amplitude c w
  let at_ : Rat := (n : Int) - w - filterDelay - (set.skew : Rat) / 256
  let sum := (List.range (shapingPoints / 2 + 1)).foldl (fun a b =>
    let x := windowBin l b
    let z := cisTurns (b * at_ / shapingPoints)
    -- the bins of negative frequency are the conjugates
    let k : Rat := if b = 0 ∨ b = shapingPoints / 2 then 1 else 2
    a + k * gainOf (set.emphasis b) 2560 * (x.1 * z.1 - x.2 * z.2)) 0
  ((sum / shapingPoints) * gainOf (-atten) 100 + 1 / 2).floor

/-- The frames of a superframe in which the converters have zero amplitude (R59). -/
def TxState.darkAt (t : TxState) (j : Nat) : Bool :=
  (stretches t.sent).any fun e => decide (e.1 ≤ j ∧ j < e.2.1 ∧ e.2.2 = .dark)

/-- The samples of a converter over a superframe before they clip (R47): zero where the transmitter is dark (R59), and in a
shaping block released at zero amplitude (R51); a block keeps the settings of the frame it begins in. -/
def TxState.waveform (t : TxState) (c : Nat) (segs : List Segment) (zeros : List Nat) : List Int :=
  (List.range sfSamples).map fun n =>
    let k := n / blockSamples
    if zeros.contains k || t.darkAt (n / frameSamples) then 0
    else
      let f := t.frameAt (k * blockSamples / frameSamples)
      shapeSample (t.tail ++ segs) (f.sets.getD c ⟨0, 0, []⟩) (t.frameAt (n / frameSamples)).atten c n

/-- The symbols that the first shaping block of the next superframe retains: those of the last 512 sample periods (R47). -/
def nextTail (segs : List Segment) : List Segment :=
  segs.map fun g =>
    let l := g.syms.zipIdx.filter fun e => decide ((sfSamples - blockSamples : Nat) ≤ g.instant e.2)
    { g with first := g.first + (g.syms.length - l.length : Nat) - 64000 * g.rateQ, syms := l.map (·.1) }

/-! ### Converter codes (R47, R53) -/

/-- A sample as an 8-bit code, and whether it clips (R47). -/
def clipCode (v : Int) : Nat := (clampInt 0 255 (v + 128)).toNat
def clips (v : Int) : Bool := decide (v < -128 ∨ 127 < v)

/-- Sample `n` of a converter falls on a position at mid-scale in its frame (R53). -/
def TxState.midScale (t : TxState) (c n : Nat) : Bool :=
  ((t.frameAt (n / frameSamples)).flagged.getD c []).contains (n % 256)

/-- The codes of a converter: a flagged position is driven at mid-scale (R53). -/
def TxState.convCodes (t : TxState) (c : Nat) (l : List Int) : List Nat :=
  l.zipIdx.map fun e => if t.midScale c e.2 then 0x80 else clipCode e.1

/-- One converter's codes of a superframe leave, with its clipped samples counted (R47, R64). -/
def State.emitConverter (s : State) (p : Port) (segs : List Segment) (zeros : List Nat) (c : Fin 4) : State :=
  let t := s.tx.get p
  let v := t.waveform c.val segs zeros
  let s := s.emit (.samples p c.val (t.convCodes c.val v))
  s.raiseN (Ev.TXCONV.clipped p c.val) ((v.zipIdx.filter fun e => clips e.1 && !t.midScale c.val e.2).length)

/-- The last frame of a superframe: what the port sends over it (R46 to R59, R128 to R141). -/
def State.endSuperframe (s : State) (p : Port) : State :=
  let f := s.frame.get p
  let t := s.tx.get p
  let x := (t.frameAt 0).mode
  let ss := f.fcTx / 256
  let last := (t.sent.getLast?.map (·.2)).getD .dark
  let r := superframeOf x f.seam f.sfBits
  let count := (x.blocks - 1) * x.codewords
  let cws := (t.zeroCws.filter fun n => decide (t.cwBase ≤ n)).map (· - t.cwBase)
  let blocks := (t.zeroBlocks.filter fun n => decide (ss * sfShapingBlocks ≤ n)).map (· - ss * sfShapingBlocks)
  let segs := t.segments f.preamble (zeroThem (zeroSymbols x f.seam cws t.zeroSeam) r.1)
  let sends := decide (t.sent.any fun e => e.2 ≠ .dark)
  let s' := s.onFrame p fun f =>
    { f with sfBits := [], seam := if last = .payload ∧ ¬ f.preamble then some r.2 else none, preamble := false }
  let s' := s'.cond sends fun s => (s.emit (.symbols p segs)).raiseN (Ev.TX.preambleSent p) t.preamblesDone
  let s' := s'.cond sends fun s => s.forEach [0, 1, 2, 3] fun c s => s.emitConverter p segs blocks c
  s'.onTx p fun t =>
    { t with sent := [(0, last)], prePhase := t.nextPhase, alignAt := 0, cwBase := t.cwBase + count, tail := nextTail segs,
             zeroCws := t.zeroCws.filter fun n => decide (t.cwBase + count ≤ n),
             zeroBlocks := t.zeroBlocks.filter fun n => decide ((ss + 1) * sfShapingBlocks ≤ n),
             zeroSeam := seamPlaces x cws }

end Sys2Proof.Machine
end

