-- ==== Sys2Proof/Machine/Demap.lean ====
section
/-! DEFINITION. From equalised symbols to LLRs: derotation, blind phase search, unwrapping, the rotation hypothesis,
decisions, soft demapping (R46, R109 to R115). A symbol value is a pair (I, Q) in 1/256 of the grid on which the
constellation has its odd integers. -/

namespace Sys2Proof.Machine

open F

/-- A symbol of one polarisation. -/
abbrev Cplx := Int × Int

/-- The product of complex numbers, `c` in 2^−30. -/
def rotate (z c : Cplx) : Cplx :=
  ((z.1 * c.1 - z.2 * c.2).ediv (2 ^ 30), (z.1 * c.2 + z.2 * c.1).ediv (2 ^ 30))

/-- Turned by quarter turns. -/
def quarters (z : Cplx) (k : Nat) : Cplx :=
  match k % 4 with
  | 0 => z
  | 1 => (-z.2, z.1)
  | 2 => (-z.1, -z.2)
  | _ => (z.2, -z.1)

/-! ### Decisions (R46) -/

/-- The largest amplitude of a base. -/
def maxAmp (base : Nat) : Nat := match base with | 0 => 1 | 1 => 3 | _ => 7

/-- The nearest value of the constellation to a dimension, on the grid of odd integers. -/
def nearest (base : Nat) (v : Int) : Int :=
  let m : Int := maxAmp base
  clampInt (-m) m (2 * v.ediv 512 + 1)

/-- Squared distance of a symbol to its nearest constellation point, in 1/65,536 of the grid squared. -/
def errorEnergy (base : Nat) (z : Cplx) : Nat :=
  (z.1 - 256 * nearest base z.1).natAbs ^ 2 + (z.2 - 256 * nearest base z.2).natAbs ^ 2

/-! ### Blind phase search (R109) -/

/-- The test phases: multiples of 1/256 turn over a quarter turn. -/
def testPhases : List Cplx := (List.range 64).map fun b => cis (-(b * 2 ^ 24 : Int))

/-- The running sums of a list, from 0 on. -/
def runningSums (l : List Nat) : Array Nat := (l.foldl (fun (a : Array Nat × Nat) x => (a.1.push (a.2 + x), a.2 + x)) (#[0], 0)).1

/-- `BPS_WIN` as used, 8 to 64 (R124). -/
def State.bpsWin (s : State) (p : Port) : Nat := clampNat 8 64 (s.rd (RXEQ.CR_CFG_BPS_WIN p))

/-- The test phase of each symbol: the least sum of distances over the window around it, one-sided at the ends; the lowest of
several (log entry 89). -/
def phaseSearch (baseAt : Nat → Nat) (win : Nat) (l : List Cplx) : List Nat :=
  let sums := testPhases.map fun c => runningSums (l.zipIdx.map fun e => errorEnergy (baseAt e.2) (rotate e.1 c))
  let n := l.length
  (List.range n).map fun k =>
    let lo := k - win
    let hi := min n (k + win + 1)
    let cost := sums.map fun a => a.getD hi 0 - a.getD lo 0
    let best := cost.foldl min (cost.headD 0)
    (cost.findIdx? (· == best)).getD 0

/-- The phase that continues `prev`, in 1/256 turn, out of a search result: the quarter turns are chosen for the least step
(R109). -/
def continuePhase (prev : Int) (b : Nat) : Int :=
  let d := (b : Int) - prev
  -- the step modulo a quarter turn, from −32 to 31
  prev + ((d + 32).emod 64 - 32)

/-- Unwrapped phases of the symbols of a hop. -/
def unwrapPhases : Int → List Nat → List Int
  | _, [] => []
  | prev, b :: t => let x := continuePhase prev b; x :: unwrapPhases x t

/-- A symbol with its phase removed. -/
def unphase (z : Cplx) (phase : Int) : Cplx := turn z (-(phase * 2 ^ 24))

/-- Derotation by a frequency: `step` per symbol from phase `start`, in 2^−32 turns (R109). -/
def derotate (start step : Int) (l : List Cplx) : List Cplx :=
  l.zipIdx.map fun e => turn e.1 (-(start + step * e.2))

/-- The phase step per symbol of a frequency in 0.1 MHz, in 2^−32 turns, at a symbol rate of `rateQ` / 4 GBd. -/
def phaseStep (freq : Int) (rateQ : Nat) : Int := (freq * 2 ^ 34).ediv (rateQ * 10000)

/-! ### The rotation hypothesis (R112) -/

/-- What a symbol of the preamble adds to the correlation with a received one. -/
def correlate (z : Cplx) (pi pq : Int) : Int := z.1 * pi + z.2 * pq

/-- The correlation of two received outputs with the preamble under a hypothesis: which output carries X, the quarter turns of
each. -/
def hypothesisScore (x y : List Cplx) (pattern : List (List Int)) (h : Nat) : Int :=
  let a := if h / 16 % 2 = 1 then y else x
  let b := if h / 16 % 2 = 1 then x else y
  ((a.zip (b.zip pattern)).map fun e =>
    correlate (quarters e.1 (h / 4)) (e.2.2.getD 0 0) (e.2.2.getD 1 0) +
      correlate (quarters e.2.1 h) (e.2.2.getD 2 0) (e.2.2.getD 3 0)).sum

/-- The best of the 32 hypotheses, 16 × swap + 4 × turns of X + turns of Y; the lowest of several (log entry 89). -/
def bestHypothesis (x y : List Cplx) (pattern : List (List Int)) : Nat :=
  let scores := (List.range 32).map (hypothesisScore x y pattern)
  let best := scores.foldl max (scores.headD 0)
  (scores.findIdx? (· == best)).getD 0

/-- Both outputs under a hypothesis (R112). -/
def applyHypothesis (swap : Bool) (rotX rotY : Nat) (x y : Cplx) : Cplx × Cplx :=
  (quarters (if swap then y else x) rotX, quarters (if swap then x else y) rotY)

/-! ### Soft demapping (R113 to R115) -/

/-- ln of a ratio as a rational number. -/
def lnRat (n d : Nat) : Rat := (lnFix n d : Rat) / 2 ^ 64

/-- The prior metric of an amplitude: −ln(n_a / 128) (R114). -/
def priorMetric (comp : Composition) (amp : Nat) : Rat :=
  lnRat 128 (match amp with | 1 => comp.n1 | 3 => comp.n3 | 5 => comp.n5 | _ => comp.n7)

/-- The amplitudes a dimension can have: those of the base, and under a prior only those of the composition. -/
def amplitudes (x : Mode) (comp : Composition) (prior : Bool) : List Nat :=
  (match x.base with | 0 => [1] | 1 => [1, 3] | _ => [1, 3, 5, 7]).filter fun a =>
    !prior || decide (0 < match a with | 1 => comp.n1 | 3 => comp.n3 | 5 => comp.n5 | _ => comp.n7)

/-- What soft demapping is set to: the mode with its composition, the prior, `SCALE`. -/
structure DemapSet where
  mode : Mode
  comp : Composition
  prior : Bool
  scale : Nat

/-- The max-log metric of a dimension's value for sign bit and amplitude: the squared distance over the noise variance of the
polarisation (complex, in units of symbol power), and the prior (R114). -/
def metric (d : DemapSet) (var : Rat) (v : Int) (sign amp : Nat) : Rat :=
  let e := v - 256 * dimension sign amp
  ((e * e : Int) : Rat) * 64 / (65536 * (d.mode.power64 : Rat) * var) + (if d.prior then priorMetric d.comp amp else 0)

/-- The least of some metrics, if any. -/
def leastMetric (l : List Rat) : Option Rat :=
  l.foldl (fun b x => match b with | none => some x | some y => some (if x < y then x else y)) none

/-- The LLR of a label bit: bit 0 the sign, 1 on the amplitude bits; ±`far` where only one value of the bit is possible. -/
def rawLlr (d : DemapSet) (var : Rat) (v : Int) (k : Nat) : Rat :=
  let pts := (amplitudes d.mode d.comp d.prior).flatMap fun a => [0, 1].map fun sg => (sg, a)
  let val := fun (e : Nat × Nat) => if k = 0 then e.1 = 1 else bitOf (amplitudeLabel e.2) (d.mode.ampBits - k)
  let at_ := fun (b : Bool) => leastMetric ((pts.filter fun e => val e == b).map fun e => metric d var v e.1 e.2)
  match at_ false, at_ true with
  | some m0, some m1 => m1 - m0
  | some _, none => 1000000
  | none, some _ => -1000000
  | none, none => 0

/-- A rational number rounded to the nearest integer, halves upwards (log entry 82). -/
def roundRat (r : Rat) : Int := (r + 1 / 2).floor

/-- The LLR of a label bit as the demapper puts it out, with whether it clamps (R114). -/
def softBit (d : DemapSet) (var : Rat) (v : Int) (k : Nat) : Llr × Bool :=
  let raw := rawLlr d var v k
  let n := roundRat (raw * d.scale / 16)
  (⟨raw, clampInt (-31) 31 n, false⟩, decide (n < -31 ∨ 31 < n))

/-- The LLR of a known sign (R115). -/
def knownLlr (value : Nat) : Llr := ⟨0, if value = 0 then 31 else -31, true⟩

/-- A zero LLR. -/
def zeroLlr : Llr := ⟨0, 0, false⟩

/-- The known sign of a dimension of polarisation `pol` at symbol period `pos` of its superframe, if it has one: every
block of 64 symbols has those of R43, pad and seam too (R43, R136). -/
def knownAt (x : Mode) (pos q : Nat) : Option Nat :=
  ((knownSigns x.s).find? fun e => e.1 == 2 * (pos % 64) + q).map (·.2)

/-- The label bits of a symbol period in their order: sign, a1, a0 of each dimension, X before Y, I before Q (R114). Where the LLRs
are zero, those of known signs are too, which the model chooses: R113 sets every LLR of an erased hop to 0, and R112 and R116
release zero LLRs, where R115 gives known signs ±31 whatever was received (log entry 112). -/
def periodLlrs (d : DemapSet) (varX varY : Rat) (pos : Nat) (zero : Bool) (x y : Cplx) : List (Llr × Bool) :=
  [(varX, x.1, 0), (varX, x.2, 1), (varY, y.1, 0), (varY, y.2, 1)].flatMap fun e =>
    (List.range (d.mode.ampBits + 1)).map fun k =>
      if zero then (zeroLlr, false)
      else
        match (if k = 0 then knownAt d.mode pos e.2.2 else none) with
        | some v => (knownLlr v, false)
        | none => softBit d e.1 e.2.1 k

end Sys2Proof.Machine
end

