-- ==== Sys2Proof/Machine/Conv.lean ====
section
/-! DEFINITION. The sub-converters of a line converter: roles, fronts, spares, and the restore from the calibration store
(R65, R66, R70, R76). -/

namespace Sys2Proof.Machine

open F

/-- A converter's state, receive or transmit. -/
def State.conv (s : State) (tx : Bool) (p : Port) (c : Fin 4) : ConvState :=
  Tab.get ConvState.init (if tx then s.txConv else s.rxConv) (4 * p.toNat + c.val)

/-- Set a converter's state; a transmit converter notes the positions that are flagged meanwhile (R53). -/
def State.setConv (s : State) (tx : Bool) (p : Port) (c : Fin 4) (x : ConvState) : State :=
  if tx then
    { s with txConv := Tab.set ConvState.init s.txConv (4 * p.toNat + c.val) { x with drove := x.flagged.foldl addSorted x.drove } }
  else { s with rxConv := Tab.set ConvState.init s.rxConv (4 * p.toNat + c.val) x }

def convBlock (tx : Bool) (p : Port) (c : Fin 4) : Block := if tx then .txConv p c else .rxConv p c

/-- `SUB_STATUS.CHRYS_SUB` of a converter (R63, R94); 511 where no unit is in chrysalis. -/
def chrysField (tx : Bool) (p : Port) (c : Fin 4) : Field :=
  if tx then TXCONV.SUB_STATUS_CHRYS_SUB p c.val else RXCONV.SUB_STATUS_CHRYS_SUB p c.val

def noUnit : Nat := 511

/-- The eight converters of a port, receive ones first. -/
def portConvs : List (Bool × Fin 4) :=
  [(false, 0), (false, 1), (false, 2), (false, 3), (true, 0), (true, 1), (true, 2), (true, 3)]

/-- The unit that serves a position (R66). -/
def ConvState.unitAt (x : ConvState) (pos : Nat) : Nat := Tab.get pos x.map pos

/-- Let a unit serve a position. -/
def ConvState.serve (x : ConvState) (pos u : Nat) : ConvState :=
  { x with map := if pos = u then Tab.erase x.map pos else Tab.insert x.map pos u }

/-- The front behind a position (R65). -/
def frontOf (pos : Nat) : Nat := pos % 32

/-- The units with a sampling switch of their own (R66). -/
def ownSwitch (u : Nat) : Bool := decide (256 ≤ u)

/-- The front behind a position is out of service: it awaits its self-test or is quarantined (R70). -/
def ConvState.frontOut (x : ConvState) (pos : Nat) : Bool :=
  x.fronts.any (fun e => e.1 == frontOf pos) || x.lostFronts.contains (frontOf pos)

/-- A unit can serve a position: one without its own switch needs the position's front (R66, R70; log entry 86). -/
def ConvState.canServe (x : ConvState) (pos u : Nat) : Bool := ownSwitch u || !x.frontOut pos

/-- The spare count: units in chrysalis or in the idle queue (R66). -/
def State.convSpares (s : State) (tx : Bool) (p : Port) (c : Fin 4) : Nat :=
  let x := s.conv tx p c
  x.idle.length + x.suspects.length + (if s.rd (chrysField tx p c) = noUnit then 0 else 1)

/-- Show the lowest-numbered quarantined front; a converter that lost several shows no other (R94; log entry 86). -/
def State.showFront (s : State) (tx : Bool) (p : Port) (c : Fin 4) : State :=
  if tx then s else s.wr (RXCONV.SUB_QUAR_LOST_FRONT p c.val) (((s.conv tx p c).lostFronts.head?).getD 63)

/-- A position of the stored map moves off a unit that is quarantined or cannot serve it to the lowest unit left that can
(R20, R70); with none left it stays. -/
def ConvState.remap (x : ConvState) (quar : List Nat) (a : Tab Nat × List Nat) (pos : Nat) : Tab Nat × List Nat :=
  let u := Tab.get pos a.1 pos
  if quar.contains u || !x.canServe pos u then
    match a.2.find? fun v => x.canServe pos v with
    | some v => (if v = pos then Tab.erase a.1 pos else Tab.insert a.1 pos v,
      a.2.filter (· != v) ++ (if quar.contains u then [] else [u]))
    | none => a
  else a

/-- Restore a converter's trims and position map from the calibration store (R76); the chrysalis and the idle queue are
built anew from the units that serve no position, and a position that no unit left can serve is flagged. -/
def State.convRestore (s : State) (tx : Bool) (p : Port) (c : Fin 4) : State :=
  let x := s.conv tx p c
  let quar := (s.block (convBlock tx p c)).quarantine
  let serving := (List.range 256).map fun pos => Tab.get pos x.storeMap pos
  let left := (List.range 264).filter fun u => !serving.contains u && !quar.contains u
  let r := (List.range 256).foldl (x.remap quar) (x.storeMap, left)
  let held := (List.range 256).map fun pos => Tab.get pos r.1 pos
  let free := (List.range 264).filter fun u => !held.contains u && !quar.contains u
  let chrys := (free.head?).getD noUnit
  let bad := (List.range 256).filter fun pos =>
    let u := Tab.get pos r.1 pos
    quar.contains u || !x.canServe pos u
  let y := { x with map := r.1, offset := x.storeOffset, gain := x.storeGain, skew := x.storeSkew, idle := free.drop 1,
                    classing := false, compare := none, deferred := [], flagged := bad, passLeft := 0, suspects := [],
                    oldOffset := Tab.get 0 x.storeOffset chrys, oldGain := Tab.get 0 x.storeGain chrys, skewBad := [] }
  (s.setConv tx p c y).wr (chrysField tx p c) chrys

end Sys2Proof.Machine
end

