-- ==== Sys2Proof/Machine/Flash.lean ====
section
/-! DEFINITION. The boot flash byte by byte: the directory and the firmware slots (R362, R363). -/

namespace Sys2Proof.Machine

open F

/-- A number as bytes, least significant first. -/
def le (n v : Nat) : List Nat := (bytesOf n v).reverse

/-- The 32-bit words that a byte string spells, least significant byte first. -/
def wordsOf : List Nat → List Nat
  | a :: b :: c :: d :: t => (a + 256 * b + 65536 * c + 16777216 * d) :: wordsOf t
  | _ => []

/-! ### The directory -/

/-- The CRC-32 of a byte string (R163, R362). -/
def crcBytes (l : List Nat) : Nat := crc32 (l.flatMap (bitsOf 8))

/-- The bytes of a directory with a boot preference (R362). -/
def dirImage (pref : Nat) : List Nat :=
  let body := pref :: List.replicate 4091 0xFF
  body ++ le 4 (crcBytes body)

/-- The directory's CRC checks (R362, R364); that of an erased one does not. -/
def Flash.dirOk (f : Flash) : Bool :=
  decide (f.dir.length = 4096 ∧ ofBytesLe (f.dir.drop 4092) = crcBytes (f.dir.take 4092))

/-- The directory's boot preference: 0 slot A, 1 slot B. -/
def Flash.pref (f : Flash) : Nat := f.dir.getD 0 0xFF % 2

/-! ### The firmware slots -/

/-- `n` bytes of a slot from an offset on: those behind the ones written are erased. -/
def FlashSlot.range (x : FlashSlot) (off n : Nat) : List Nat :=
  let l := (x.bytes.drop off).take n
  l ++ List.replicate (n - l.length) 0xFF

/-- A little-endian field of a slot. -/
def FlashSlot.field (x : FlashSlot) (off n : Nat) : Nat := ofBytesLe (x.range off n)

/-- The image that a slot holds under a firmware key: none where MAGIC, LENGTH or CMAC does not check, or a read of the slot
has been uncorrectable (R363, R407). -/
def FlashSlot.image (key : List Nat) (x : FlashSlot) : Option FwImage :=
  let len := x.field 12 4
  if x.bad || decide (x.field 0 4 ≠ 0x51584D49) || decide (786432 < len) then none
  else
    let code := x.range 0x100 len
    if cmac key (x.range 0 16 ++ code) = x.range 16 16 then
      some ⟨BitVec.ofNat 32 (x.field 4 4), BitVec.ofNat 8 (x.field 8 1), BitVec.ofNat 8 (x.field 9 1), BitVec.ofNat 8 (x.field 10 1),
        code⟩
    else none

/-- A firmware slot: 0 A, 1 B. -/
def State.flashSlot (s : State) (b : Nat) : FlashSlot := if b = 0 then s.flash.slotA else s.flash.slotB

/-- Put content into a firmware slot. -/
def State.setFlashSlot (s : State) (b : Nat) (x : FlashSlot) : State :=
  { s with flash := if b = 0 then { s.flash with slotA := x } else { s.flash with slotB := x } }

/-- The security version of an image permits it to run: 0 to 63, and at least `MIN_SVN` (R363). -/
def State.imageValid (s : State) (i : FwImage) : Bool :=
  decide (i.svn.toNat ≤ 63 ∧ s.rd MG_CTL.FW_SVN_MIN_SVN ≤ i.svn.toNat)

/-- The image of a valid slot (R363). -/
def State.validSlot (s : State) (b : Nat) : Option FwImage := ((s.flashSlot b).image s.fuses).filter s.imageValid

end Sys2Proof.Machine
end

