-- ==== Sys2Proof/Machine/MbxBase.lean ====
section
/-! DEFINITION. The mailbox commands in progress, and what ends one from outside (R370, R377). -/

namespace Sys2Proof.Machine

open F

/-- Codes of the commands that drive or need a port (R373). -/
def opLinkUp : Nat := 0x0301
def opLinkDown : Nat := 0x0302
def opGlide : Nat := 0x0303
def opCalRun : Nat := 0x0801

/-- The command in progress on a mailbox. -/
def State.mbxOf (s : State) (x : Nat) : Option MbxCmd := (s.mbx.find? fun e => e.1 = x).map (·.2)

/-- Change the command in progress on a mailbox. -/
def State.onMbx (s : State) (x : Nat) (f : MbxCmd → MbxCmd) : State :=
  match s.mbxOf x with
  | some c => { s with mbx := Tab.insert s.mbx x (f c) }
  | none => s

/-- Request word `n` of a command. -/
def MbxCmd.w (c : MbxCmd) (n : Nat) : Nat := c.words.getD n 0

/-- Decide the end of the commands in progress that satisfy a test, where it is not yet decided. -/
def State.mbxDecide (s : State) (test : MbxCmd → Bool) (status detail : Nat) : State :=
  s.forEach [0, 1] fun x s => s.onMbx x fun c =>
    if test c && c.ended.isNone then { c with ended := some (status, detail, []) } else c

/-- A requester other than the control cores. -/
def fromHost (r : Requester) : Bool := decide (r ≠ .core0 ∧ r ≠ .core1)

/-- The host writes `RX_ENABLE` or `TX_ENABLE` of a port: a running command that drives it ends with status 4 (R377). -/
def State.mbxEnableWrite (s : State) (r : Requester) (p : Port) : State :=
  if fromHost r then
    s.mbxDecide (fun c => c.started && decide (c.op = opLinkUp ∨ c.op = opLinkDown) && decide (c.w 0 = p.toNat)) 4 0
  else s

/-- The host writes a staged modulation field of a port: a running GLIDE of the port ends with status 4 (R377). -/
def State.mbxGlideWrite (s : State) (r : Requester) (p : Port) : State :=
  if fromHost r then s.mbxDecide (fun c => c.started && decide (c.op = opGlide) && decide (c.w 0 % 2 = p.toNat)) 4 0 else s

/-- A write to `STAGE_CTRL` of a page: a running GLIDE of the page's port, which requests the eclosions of the port, ends with
status 4 (R256, R377). -/
def State.mbxStageWrite (s : State) (r : Requester) (page : Nat) : State :=
  if 31 ≤ page then s.mbxGlideWrite r (if page ≤ 38 then .E else .W) else s

/-- RCLK fails: the commands that need a port end with status 4 (R377). -/
def State.mbxNoRclk (s : State) : State :=
  s.mbxDecide (fun c => decide (c.op = opLinkUp ∨ c.op = opLinkDown ∨ c.op = opGlide ∨ c.op = opCalRun)) 4 0

/-! ### The DMA channels of the services (R370, R383, R462) -/

/-- A DMA channel beside its registers. -/
def State.dmaOf (s : State) (c : Nat) : DmaChan := Tab.get DmaChan.init s.dma c

/-- Change a channel beside its registers. -/
def State.onDma (s : State) (c : Nat) (f : DmaChan → DmaChan) : State := { s with dma := Tab.upd DmaChan.init s.dma c f }

/-- The engine has halted (R393). -/
def State.dmaHalted (s : State) : Bool := s.on DMA_ENG.ENG_STATUS_HALTED

/-- Bytes that a channel has moved join its counter, in units of 4,096 (R411). -/
def State.countBytes (s : State) (c n : Nat) : State :=
  let b := (s.dmaOf c).bytes + n
  (s.onDma c fun x => { x with bytes := b % 4096 }).count 6 (0x90C + 0x10 * c) (b / 4096)

/-- The error that keeps a service's channel from moving data: ERR 1 with the engine halted or the link down, the channel's own
where it has halted (R392, R393). -/
def State.serviceError (s : State) (c : Nat) : Option Nat :=
  if s.dmaHalted || !s.linkUp then some 1
  else if s.rd (DMA_ENG.CH_STATUS_STATE c) = 4 then some (s.rd (DMA_ENG.CH_STATUS_ERR c))
  else none

/-- A service's channel moves data: the engine is enabled and the channel runs; else its data waits (R384, R409). -/
def State.serviceRuns (s : State) (c : Nat) : Bool := s.on DMA_ENG.ENG_CTRL_ENABLE && s.on (DMA_ENG.CH_CTRL_RUN c)

/-- The lengths of the requests that a transfer is cut into: at most `most` bytes each, none across a 4 KiB boundary (R388,
log entry 55). `k` bounds their number. -/
def requestCuts (most : Nat) : Nat → Nat → Nat → List (Nat × Nat)
  | 0, _, _ => []
  | k + 1, addr, n =>
    if n = 0 then []
    else
      let m := min n (min most (4096 - addr % 4096))
      (addr, m) :: requestCuts most k (addr + m) (n - m)

/-- `Max_Payload_Size` as the host has set it: 128 bytes at least. -/
def State.payload (s : State) : Nat := max 128 s.maxPayload

/-- Data that a service's channel writes to the host, as one descriptor (R388, log entry 135). -/
def State.serviceWrite (s : State) (c addr : Nat) (data : List Nat) : State :=
  let cuts := requestCuts s.payload data.length addr data.length
  let s := s.forEach cuts fun e s => s.emit (.host e.1 ((data.drop (e.1 - addr)).take e.2))
  (s.countBytes c data.length).count 6 (0x900 + 0x10 * c) 1

/-- The requests for data that a service's channel reads from the host, as one descriptor (R388, log entry 135). -/
def State.serviceRead (s : State) (c addr n : Nat) : State :=
  let s := s.forEach (requestCuts 512 n addr n) fun e s => s.emit (.hostRead e.1 e.2)
  (s.countBytes c n).count 6 (0x900 + 0x10 * c) 1

/-- Firmware sets `RUN` of the channels of trace and services as it starts and after a PCIe reset (R383, R395). -/
def State.armServices (s : State) : State :=
  s.forEach [14, 15] fun c s => (s.wr (DMA_ENG.CH_CTRL_RUN c) 1).wr (DMA_ENG.CH_STATUS_STATE c) 0

end Sys2Proof.Machine
end

