-- ==== Sys2Proof/Machine/Tx.lean ====
section
/-! DEFINITION. The transmit commands: enable, ramp, preambles, clusters, region reset (R49 to R59, R118). -/

namespace Sys2Proof.Machine

open F

/-- TX_ENABLE_SET (R59, R377): the write that sets `TX_ENABLE`. -/
def execTxEnableSet (r : Requester) (p : Port) (s : State) : Result :=
  .next (s.guarded r (31 + 8 * p.toNat) 0x058 fun s => (s.mbxEnableWrite r p).txEnableSet p)

/-- TX_ENABLE_CLEAR (R59, R377). -/
def execTxEnableClear (r : Requester) (p : Port) (s : State) : Result :=
  .next (s.guarded r (31 + 8 * p.toNat) 0x058 fun s => (s.mbxEnableWrite r p).txEnableClear p)

/-- A write of 1 to `FORCE_PREAMBLE` (R56): acts in ON. Two writes before a superframe with room comes fall due in the same one and
are sent as one preamble, which is the model's choice: the specification merges only a forced one with a scheduled one (log
entry 110). -/
def State.forcePreamble (s : State) (p : Port) : State :=
  if s.txSt p = txOn then s.onTx p fun t => { t with forced := true } else s

/-- FORCE_PREAMBLE (R56). -/
def execForcePreamble (r : Requester) (p : Port) (s : State) : Result :=
  .next (s.guarded r (31 + 8 * p.toNat) 0x058 fun s => s.forcePreamble p)

/-- A run in progress is abandoned (R74). -/
def State.calAbandon (s : State) (p : Port) : State :=
  let s := (s.wr (RXCONV.CAL_STATUS_RUN_ACTIVE p) 0).wr (RXCONV.CAL_STATUS_RUN_PENDING p) 0
  { s with calRun := s.calRun.upd p fun c =>
      { c with rotating := false, skewing := false, suspended := false, stopping := false, skewDone := [], first := false } }

/-- The receive region resets at once when the region reset is requested (R118, R117). -/
def State.rxRegionReset (s : State) (p : Port) : State :=
  ((s.toIdle p).calAbandon p).onRx p fun r => { r with rotateDue := false }

/-- The transmit region is reset: DARK with `TX_ENABLE` read as 0 (R59, R118). -/
def State.txRegionReset (s : State) (p : Port) : State :=
  ((s.txGoDark p).wr (TX.TX_CTRL_TX_ENABLE p) 0).onTx p fun t =>
    { t with preCount := 15, zeroBlocks := [], zeroCws := [], zeroSeam := [], redo := none }

/-- A write of 1 to `REGION_RESET` (R118, R59, R461, R483): ignored while `RESET_BUSY` is 1. -/
def State.regionReset (s : State) (p : Port) : State :=
  if s.on (RXEQ.REGION_CTRL_RESET_BUSY p) then s
  else
    let s := s.wr (RXEQ.REGION_CTRL_RESET_BUSY p) 1
    let s := s.endRequests (portGroups p) 8
    let s := s.forEach (portTasks p) fun t s => s.abandonTask t
    let s := s.rxRegionReset p
    let s := (s.endEyespot (2 + p.toNat)).endEyespot (4 + p.toNat)
    if s.txSt p = txDark then s.txRegionReset p
    else if s.txSt p = txAlign ∨ s.txSt p = txOn then s.txRampFromTop p txResetWait
    else s.wr (TX.TX_STATUS_TX_STATE p) txResetWait

/-- REGION_RESET_REQUEST (R118). -/
def execRegionResetRequest (r : Requester) (p : Port) (s : State) : Result :=
  .next (s.guarded r (35 + 8 * p.toNat) 0x040 fun s => s.regionReset p)

/-- REGION_RESET_DONE (R118, R76): both regions have reset, which they have once the transmitter is dark. -/
def execRegionResetDone (p : Port) (s : State) : Result :=
  s.clocked <|
  .next (
    if s.on (RXEQ.REGION_CTRL_RESET_BUSY p) ∧ s.txSt p = txDark then
      let s := s.wr (RXEQ.REGION_CTRL_RESET_BUSY p) 0
      let s := (s.wr (RXFE.RX_CTRL_RX_ENABLE p) 0).wr (TX.TX_CTRL_TX_ENABLE p) 0
      let s := s.forEach [0, 1, 2, 3] fun c s => (s.convRestore false p c).convRestore true p c
      (s.raise (Ev.RXEQ.regionReset p)).settleReport p
    else s)

/-- A reaches TOTAL_DB (R59): DARK, or the region reset that waited for it. -/
def State.rampBottom (s : State) (p : Port) : State :=
  if s.txSt p = txResetWait then s.txRegionReset p
  else (s.txGoDark p).raise (Ev.TX.dark p)

/-- RAMP_STEP (R57, R59): one frame of a ramp. -/
def execRampStep (p : Port) (s : State) : Result :=
  s.clocked <|
  let t := s.tx.get p
  let step := s.rd (TX.RAMP_DEPTH_TOTAL_DB p)
  let top := step * 1000 * t.rampMs
  .next (
    if s.txSt p = txRampUp then
      let a := t.atten - step
      let s := s.onTx p fun t => { t with atten := a }
      if a = 0 then s.txToAlign p else s
    else if s.txSt p = txRampDown ∨ s.txSt p = txResetWait then
      let a := min top (t.atten + step)
      let s := s.onTx p fun t => { t with atten := a }
      if a = top then s.rampBottom p else s
    else s)

/-- PREAMBLE_END_MARKER_DONE (R59): payload starts and TX_ON is raised. -/
def execPreambleEndMarkerDone (p : Port) (s : State) : Result :=
  s.clocked <|
  .next (
    if s.txSt p = txAlign then
      let s := (s.onTx p fun t => { t with endMarker := false, repeating := false }).txSend p .payload
      let s := s.wr (TX.TX_STATUS_TX_STATE p) txOn
      (s.raise (Ev.TX.preambleSent p)).raise (Ev.TX.on p)
    else s)

/-- Conditions 1 and 2 of R56: the far end asks, or the port's own receive region is not acquired. -/
def State.preambleAsked (s : State) (p : Port) : Bool :=
  s.on (HB_FRAME.FRM_STATUS_FAR_ACQ_REQ p) || decide (s.acqSt p ≠ acqAcquired)

/-- PREAMBLE_SCHEDULED (R56): a superframe with room for a preamble; one preamble is sent where one is due, forced and
requested together as one. -/
def execPreambleScheduled (p : Port) (s : State) : Result :=
  s.clocked <|
  let t := s.tx.get p
  let due := s.preambleAsked p && decide (s.preInterval p ≤ t.preCount)
  .next (
    if s.txSt p = txOn ∧ (due ∨ t.forced) then
      let s := s.onTx p fun t => { t with forced := false, preCount := if due then 0 else t.preCount }
      let s := { s with frame := s.frame.upd p fun f => { f with preamble := true } }
      s.raise (Ev.TX.preambleSent p)
    else s)

/-! ### Clusters (R49 to R52) -/

/-- The cluster that works on shaping block or codeword `n`: blocks and codewords go round the clusters in service; during a
redo of block n the spare takes n and n + 8 (R49, R50). -/
def State.txWorker (s : State) (p : Port) (shaping : Bool) (n : Nat) : Nat :=
  let own := (s.block (.txCluster p)).unitAt (n % 8)
  match (s.tx.get p).redo with
  | some (k, m) => if k = shaping ∧ n = m + 8 ∧ s.rd (TX.CLU_ROT_CHRYS_CLU p) ≠ 15 then s.rd (TX.CLU_ROT_CHRYS_CLU p) else own
  | none => own

/-- Work released at zero amplitude, counted (R51). -/
def State.txZero (s : State) (p : Port) (shaping : Bool) (n : Nat) : State :=
  (s.raise (Ev.TX.zeroAmplitude p)).onTx p fun t =>
    if shaping then { t with zeroBlocks := t.zeroBlocks ++ [n] } else { t with zeroCws := t.zeroCws ++ [n] }

/-- No cluster is in chrysalis once the spare holds a place (R52). -/
def State.txSpareShown (s : State) (p : Port) : State :=
  let c := s.rd (TX.CLU_ROT_CHRYS_CLU p)
  s.cond ((s.block (.txCluster p)).placeOf (.txCluster p) c).isSome fun s => s.wr (TX.CLU_ROT_CHRYS_CLU p) 15

/-- A failed check on a transmit cluster at work on block or codeword `i.num`; stage 0 is shaping, any other a coding-station
step (R23, R24, R50, R51). A first fault that finds no spare before EXHAUSTED is released at zero amplitude and left to the
cluster's next check, which the model chooses (log entry 83). -/
def State.txClusterFail (s : State) (p : Port) (u : Nat) (i : CheckInfo) : State :=
  let b := Block.txCluster p
  let c := s.rd (TX.CLU_ROT_CHRYS_CLU p)
  let shaping := decide (i.stage = 0)
  if i.onSpare then
    if u = c ∧ (s.tx.get p).redo.isSome then
      (((s.txZero p shaping i.num).raise (Ev.TX.doubleFault p)).toTest b u).onTx p fun t => { t with redo := none }
    else s
  else if s.txWorker p shaping i.num ≠ u then s
  else if s.inWindow b i.cycle then
    (((s.txZero p shaping i.num).raise (Ev.TX.doubleFault p)).deferOrLast b u).txSpareShown p
  else
    let s := s.openWindow b i.cycle
    if (s.block b).spares b = 0 ∨ c = 15 ∨ (s.block b).testing.contains c then
      ((s.txZero p shaping i.num).deferOrLast b u).txSpareShown p
    else
      let late := s.deferred b u
      let s := s.raise (if shaping then Ev.TX.shapingRedo p else Ev.TX.codingRedo p)
      let s := s.setBlock b ((s.block b).entersChrysalis c)
      let s := s.onTx p fun t => { t with abandoned := !late, redo := some (shaping, i.num) }
      if late then (s.deferOrLast b u).txSpareShown p else s

/-- The classifying attempt of a transmit cluster (R20, R50): the chrysalis the redo abandoned restarts. -/
def State.txClusterClassify (s : State) (p : Port) (u : Nat) (pass : Bool) : State :=
  let b := Block.txCluster p
  (((s.undefer b u).classify b u pass).onTx p fun t => { t with abandoned := false }).txSpareShown p

/-- The next cluster of a rotation in ascending order after `c`, among `n`, that is not quarantined and serves (R52). -/
def nextCluster (x : Spared) (b : Block) (c n : Nat) : Option Nat :=
  (((List.range n).map fun i => (c + 1 + i) % n)).find? fun u =>
    !x.quarantine.contains u && (x.placeOf b u).isSome

/-- TX_CLUSTER_ROTATION (R52): a spare that has passed its self-test ecloses into the place of the next cluster, which enters
chrysalis. A redo in progress pre-empts it; with no spare left there is no rotation (R25). -/
def execTxClusterRotation (p : Port) (s : State) : Result :=
  s.clocked <|
  let b := Block.txCluster p
  let x := s.block b
  let c := s.rd (TX.CLU_ROT_CHRYS_CLU p)
  .next (
    if (s.tx.get p).abandoned ∨ x.spares b = 0 ∨ ¬ x.mayEclose c then s
    else
      match nextCluster x b c 9 with
      | none => s
      | some u =>
        match x.placeOf b u with
        | none => s
        | some pl => (s.setBlock b ((x.assign pl c).entersChrysalis c)).wr (TX.CLU_ROT_CHRYS_CLU p) u)

end Sys2Proof.Machine
end

