-- ==== Sys2Proof/Machine/Cal.lean ====
section
/-! DEFINITION. Sub-converters: checks, takeover, lost fronts, live calibration (R53, R68 to R77). -/

namespace Sys2Proof.Machine

open F

def takeoverEvt (tx : Bool) (p : Port) (c : Fin 4) : Evt :=
  if tx then Ev.TXCONV.takeover p c.val else Ev.RXCONV.takeover p c.val

/-- A second fault of R23 in the port's region, counted. -/
def State.convDouble (s : State) (tx : Bool) (p : Port) : State :=
  if tx then s.raise (Ev.TX.doubleFault p) else s.raise (Ev.RXCONV.doubleFault p)

/-- The unit in chrysalis makes room for another: it joins the tail of the idle queue (log entry 33), or awaits its
classifying self-test on. -/
def ConvState.vacate (x : ConvState) (chrys : Nat) : ConvState :=
  if chrys = noUnit then x
  else if x.classing then { x with suspects := x.suspects ++ [chrys], classing := false }
  else { x with idle := x.idle ++ [chrys] }

/-- A unit enters chrysalis: the trims it holds are those it had before (R68). -/
def State.toChrysalis (s : State) (tx : Bool) (p : Port) (c : Fin 4) (x : ConvState) (u : Nat) (classing : Bool) : State :=
  (s.setConv tx p c
    { x with classing := classing, oldOffset := Tab.get 0 x.offset u, oldGain := Tab.get 0 x.gain u }).wr (chrysField tx p c) u

/-- One position's failed check (R53, R68, R69): it is flagged; a second fault of its window is not taken over until
its next check window. A unit in quarantine that keeps its position is classified already. -/
def State.positionFail (s : State) (tx : Bool) (p : Port) (c : Fin 4) (pos cycle : Nat) : State :=
  let b := convBlock tx p c
  let x := s.conv tx p c
  let flagged := addSorted x.flagged pos
  if (s.block b).quarantine.contains (x.unitAt pos) then s.setConv tx p c { x with flagged := flagged }
  else if s.inWindow b cycle then
    (s.setConv tx p c { x with flagged := flagged, deferred := addSorted x.deferred pos }).convDouble tx p
  else
    (s.openWindow b cycle).setConv tx p c
      { x with flagged := flagged, deferred := x.deferred.filter (· != pos) }

/-- The fronts with four or more of their positions in a list (R70). -/
def lostFronts (positions : List Nat) : List Nat :=
  (List.range 32).filter fun t => decide (4 ≤ (positions.filter fun q => frontOf q == t).length)

/-- What the search for own-switch units has come to: the converter, the idle units that may replace one of them elsewhere,
the own-switch units that are available. -/
abbrev OwnSearch := ConvState × List Nat × List Nat

/-- One unit of 256 to 263 in the search for those that can take the positions of a lost front `t` (R70): a unit that serves
elsewhere is first replaced from the idle queue, which it cannot be behind another front that is out of service. -/
def ownUnit (t : Nat) (a : OwnSearch) (u : Nat) : OwnSearch :=
  match (List.range 256).find? fun q => a.1.unitAt q == u with
  | none => (a.1, a.2.1, a.2.2 ++ [u])
  | some q =>
    if frontOf q = t then (a.1, a.2.1, a.2.2 ++ [u])
    else
      match a.2.1, a.1.frontOut q with
      | r :: rest, false => (a.1.serve q r, rest, a.2.2 ++ [u])
      | _, _ => a

/-- A lost front (R70): its eight positions move to the units 256 to 263 on their own switches; a unit that awaits its
classifying self-test is not available. With fewer than eight of them the loss is EXHAUSTED and the positions left over stay
with their units, flagged. -/
def State.frontLoss (s : State) (p : Port) (c : Fin 4) (t : Nat) : State :=
  let b := convBlock false p c
  let x := s.conv false p c
  let quar := (s.block b).quarantine
  let chrys := s.rd (chrysField false p c)
  let out := fun u => quar.contains u || x.suspects.contains u || (x.classing && decide (u = chrys))
  let own := [256, 257, 258, 259, 260, 261, 262, 263].filter fun u => !out u
  let front := (List.range 8).map fun k => t + 32 * k
  let r := own.foldl (ownUnit t) (x, x.idle.filter (!ownSwitch ·), [])
  let pairs := front.zip r.2.2
  let served := pairs.map (·.1)
  let used := pairs.map (·.2)
  let olds := (served.map r.1.unitAt).filter fun u => !used.contains u && !quar.contains u
  let y := pairs.foldl (fun y e => y.serve e.1 e.2) r.1
  let replaced := x.idle.filter fun u => !ownSwitch u && !r.2.1.contains u
  let full := decide (r.2.2.length < 8)
  let z := { y with
    idle := (x.idle.filter fun u => !used.contains u && !replaced.contains u) ++ olds, compare := none,
    fronts := x.fronts ++ [(t, full)], returning := x.returning.filter fun q => !front.contains q,
    flagged := ((x.flagged ++ front).filter fun q => !served.contains q).eraseDups,
    deferred := x.deferred.filter fun q => !front.contains q }
  let s := s.setConv false p c z
  let s := s.cond (used.contains chrys) fun s => s.wr (chrysField false p c) noUnit
  let s := s.raise (Ev.RXCONV.frontLost p)
  s.cond full fun s => ((s.count b.page (lastingOff b.page) 1).raiseOpt b.lastingEvt).exhausted b

/-- The positions of a check window of a receive converter that deviate by more than `STAT_LIMIT` (R68). -/
def State.deviating (s : State) (p : Port) (i : CheckInfo) : List Nat :=
  (i.positions.filter fun e => decide (s.rd (RXCONV.CHECK_CFG_STAT_LIMIT p) < e.2)).map (·.1.val)

/-- The failed checks of one check window of a receive converter (R68 to R70): fronts in service that fail are lost, which counts
a double fault in an open window (log entry 86); every other position fails on its own. -/
def State.convFail (s : State) (p : Port) (c : Fin 4) (i : CheckInfo) : State :=
  let ps := s.deviating p i
  -- a front that is out already is not lost again
  let ts := (lostFronts ps).filter fun t => !(s.conv false p c).frontOut t
  let s := s.forEach ts fun t s =>
    let b := convBlock false p c
    (if s.inWindow b i.cycle then s.convDouble false p else s.openWindow b i.cycle).frontLoss p c t
  s.forEach (ps.filter fun q => !ts.contains (frontOf q)) fun pos s => s.positionFail false p c pos i.cycle

/-- A takeover (R68, R53): the head of the idle queue that can serve the position, or the unit in chrysalis with its earlier
trims, takes it; the failed unit enters chrysalis for its classifying self-test unless it is quarantined already. A
comparison in progress loses its unit. -/
def State.takeover (s : State) (tx : Bool) (p : Port) (c : Fin 4) (pos : Nat) : State :=
  let x := s.conv tx p c
  if x.flagged.contains pos ∧ ¬ x.deferred.contains pos then
    let v := x.unitAt pos
    let chrys := s.rd (chrysField tx p c)
    let quarantined := (s.block (convBlock tx p c)).quarantine.contains v
    let done := fun (y : ConvState) (left : Nat) =>
      let z := { y with flagged := y.flagged.filter (· != pos), compare := none }
      (if quarantined then (s.setConv tx p c z).wr (chrysField tx p c) left
        else s.toChrysalis tx p c (z.vacate left) v true).raise (takeoverEvt tx p c)
    match x.idle.find? fun u => x.canServe pos u with
    | some u => done ({ x with idle := x.idle.filter (· != u) }.serve pos u) chrys
    | none =>
      if chrys = noUnit ∨ ¬ x.canServe pos chrys then s
      else
        let y := { x with offset := Tab.set 0 x.offset chrys x.oldOffset, gain := Tab.set 0 x.gain chrys x.oldGain,
                          classing := false }
        done (y.serve pos chrys) noUnit
  else s

/-- SUBCONVERTER_TAKEOVER (R68). -/
def execSubconverterTakeover (tx : Bool) (p : Port) (c : Fin 4) (pos : Fin 256) (s : State) : Result :=
  s.clocked <|
  .next (s.takeover tx p c pos.val)

/-- TX_SUBCONVERTER_SENSE_FAIL (R53): the position is driven at mid-scale until a takeover. -/
def execTxSubconverterSenseFail (p : Port) (c : Fin 4) (pos : Fin 256) (cycle : Nat) (s : State) : Result :=
  s.clocked <|
  .next (s.positionFail true p c pos.val cycle)

/-- The self-test of a unit in chrysalis ends (R68, R25): a classifying self-test that passes is TRANSIENT and the unit
joins the tail of the idle queue; one that fails is LASTING. A position that no spare could take stays with its unit, and
a LASTING fault of it is EXHAUSTED (R26). -/
def State.convSelfTest (s : State) (tx : Bool) (p : Port) (c : Fin 4) (u : Nat) (pass : Bool) : State :=
  let b := convBlock tx p c
  let x := s.conv tx p c
  if s.rd (chrysField tx p c) = u then
    let s' := s.wr (chrysField tx p c) noUnit
    if pass then
      let s' := s'.setConv tx p c { x with idle := x.idle ++ [u], classing := false }
      if x.classing then s'.transient b else s'
    else (s'.setConv tx p c { x with classing := false }).lastingOnly b u
  else if (s.block b).quarantine.contains u then s
  else if x.suspects.contains u then
    let y := { x with suspects := x.suspects.filter (· != u) }
    if pass then (s.setConv tx p c { y with idle := y.idle ++ [u] }).transient b
    else (s.setConv tx p c y).lastingOnly b u
  else
    match x.flagged.find? fun q => x.unitAt q == u with
    | none => s
    | some q =>
      if pass then
        (s.setConv tx p c { x with flagged := x.flagged.filter (· != q), deferred := x.deferred.filter (· != q) }).transient b
      else (s.lastingOnly b u).exhausted b

/-- The self-test of a lost front ends (R70): TRANSIENT and its positions return to it, or LASTING and it is quarantined; the
count of an EXHAUSTED loss has been made. -/
def State.frontClassify (s : State) (tx : Bool) (p : Port) (c : Fin 4) (t : Nat) (counted pass : Bool) : State :=
  let b := convBlock tx p c
  let x := s.conv tx p c
  let y := { x with fronts := x.fronts.filter fun e => e.1 != t }
  if pass then
    (s.setConv tx p c { y with returning := y.returning ++ (List.range 8).map fun k => t + 32 * k }).transient b
  else
    let s := (s.setConv tx p c { y with lostFronts := addSorted y.lostFronts t }).showFront tx p c
    s.cond (!counted) fun s => (s.count b.page (lastingOff b.page) 1).raiseOpt b.lastingEvt

/-- The classifying result of a converter (R69, R70): of front t for unit 264 + t, otherwise of a sub-converter. -/
def State.convClassify (s : State) (tx : Bool) (p : Port) (c : Fin 4) (u : Nat) (pass : Bool) : State :=
  match (s.conv tx p c).fronts.find? fun e => e.1 + 264 == u with
  | some e => s.frontClassify tx p c e.1 e.2 pass
  | none => s.convSelfTest tx p c u pass

/-! ### Live calibration -/

/-- The plausibility limits of a run: four times the programmed ones for the first run after power-on reset (R73). -/
def State.plaus (s : State) (p : Port) (f : Field) : Nat :=
  s.rd f * (if (s.calRun.get p).first then 4 else 1)

/-- A measured trim lies within its range and its limit of the accepted one (R67, R73). -/
def plausible (limit : Nat) (old new : Int) : Bool :=
  decide (-128 ≤ new ∧ new ≤ 127 ∧ (new - old).natAbs ≤ limit)

/-- Start a calibration run (R72): T_REF is latched and both phases begin. The first run after power-on reset is the first that
starts, be it stopped or abandoned later (R73; log entry 87). -/
def State.calBegin (s : State) (p : Port) : State :=
  let s := s.wr (RXCONV.CAL_STATUS_RUN_ACTIVE p) 1
  let s := s.wr (RXCONV.CAL_STATUS_SKEW_SKIPPED p) 0
  let s := s.wr (RXCONV.CAL_STATUS_T_REF p) (s.rd (RXCONV.CAL_TEMP_T_NOW p))
  let s := s.forEach portConvs fun e s => s.setConv e.1 p e.2 { s.conv e.1 p e.2 with passLeft := 256 }
  (s.onCal p fun r => { r with rotating := true, skewing := true, implausible := false, skewDone := [], stopping := false,
                               first := r.unrun, unrun := false }).skewSuspend p

/-- A reason for a calibration run (R72, R74): it starts one, or makes one pending. A reason that comes while `CAL_HOLD` is set
is forgotten, which the model chooses: the specification says only that no run starts (log entry 87). -/
def State.calRequest (s : State) (p : Port) : State :=
  if s.on (RXCONV.CAL_CFG_CAL_HOLD p) then s
  else if s.on (RXCONV.CAL_STATUS_RUN_ACTIVE p) then s.wr (RXCONV.CAL_STATUS_RUN_PENDING p) 1
  else s.calBegin p

/-- CAL_NOW (R72, R74). -/
def execCalNow (r : Requester) (p : Port) (s : State) : Result :=
  .next (s.guarded r (33 + 8 * p.toNat) 0x040 fun s => s.calRequest p)

/-- Put a run's accepted trims and position maps into the calibration store (R76). -/
def State.calStore (s : State) (p : Port) : State :=
  s.forEach portConvs fun e s =>
    let x := s.conv e.1 p e.2
    s.setConv e.1 p e.2 { x with storeMap := x.map, storeOffset := x.offset, storeGain := x.gain, storeSkew := x.skew }

/-- A comparison of a rotation step is in progress on a converter of the port. -/
def State.comparing (s : State) (p : Port) : Bool := portConvs.any fun e => (s.conv e.1 p e.2).compare.isSome

/-- A run that `CAL_HOLD` stops has finished its current step: its trims stay in force and are stored (R74, R76). -/
def State.calStopped (s : State) (p : Port) : State :=
  ((s.calStore p).wr (RXCONV.CAL_STATUS_RUN_ACTIVE p) 0).onCal p fun r => { r with stopping := false, first := false }

/-- `CAL_HOLD` set (R74): a run in progress stops after its current step; the trims measured so far stay. A pending run is
dropped, which the model chooses (log entry 87). -/
def State.calHold (s : State) (p : Port) : State :=
  let s := (s.wr (RXCONV.CAL_CFG_CAL_HOLD p) 1).wr (RXCONV.CAL_STATUS_RUN_PENDING p) 0
  if s.on (RXCONV.CAL_STATUS_RUN_ACTIVE p) then
    let s := s.onCal p fun r => { r with rotating := false, skewing := false, suspended := false, stopping := true }
    if s.comparing p then s else s.calStopped p
  else s

/-- CAL_HOLD_SET (R74). -/
def execCalHoldSet (r : Requester) (p : Port) (s : State) : Result :=
  .next (s.guarded r (34 + 8 * p.toNat) 0x040 fun s => s.calHold p)

/-- SKEW_PHASE_TIMEOUT (R72): no carrier within 1 s of the run's start. -/
def execSkewPhaseTimeout (p : Port) (s : State) : Result :=
  s.clocked <|
  .next (
    if s.on (RXCONV.CAL_STATUS_RUN_ACTIVE p) ∧ (s.calRun.get p).skewing ∧ ¬ s.on (RXFE.ACQ_STATUS_CARRIER p) then
      (s.onCal p fun r => { r with skewing := false }).wr (RXCONV.CAL_STATUS_SKEW_SKIPPED p) 1
    else s)

/-- The rotation phase is over: every converter of the port that has a spare has made its pass (R72, R75). -/
def State.rotationOver (s : State) (p : Port) : Bool :=
  portConvs.all fun e => (s.conv e.1 p e.2).passLeft == 0 || s.convSpares e.1 p e.2 == 0

/-- CAL_RUN_END (R72, R76): both phases have ended; a pending run starts. -/
def execCalRunEnd (p : Port) (s : State) : Result :=
  s.clocked <|
  let r := s.calRun.get p
  .next (
    if s.on (RXCONV.CAL_STATUS_RUN_ACTIVE p) ∧ (¬ r.rotating ∨ s.rotationOver p) ∧ ¬ r.skewing ∧ ¬ r.stopping then
      let s := s.calStore p
      -- the run rewrites the entries of the calibration store that an uncorrectable read marked (R407)
      let s := { s with mem := { s.mem with calInvalid := [] } }
      let s := s.onCal p fun r => { r with first := false, sinceMs := 0, rotating := false }
      let s := s.wr (RXCONV.CAL_STATUS_RUN_ACTIVE p) 0
      let s := s.raise (Ev.RXCONV.calCompleted p)
      if s.on (RXCONV.CAL_STATUS_RUN_PENDING p) then (s.wr (RXCONV.CAL_STATUS_RUN_PENDING p) 0).calRequest p else s
    else s)

/-- The unit in chrysalis is measured and joins the tail of the idle queue (R71 step 1, R72, R73). New trims are applied in
the rotation phase of a run alone; in the background a difference beyond the limits is a failed check of the unit. -/
def State.calMeasure (s : State) (tx : Bool) (p : Port) (c : Fin 4) (m : CalMeas) : State :=
  let x := s.conv tx p c
  let u := s.rd (chrysField tx p c)
  if u = noUnit then s
  else if !m.selfTest then s.convSelfTest tx p c u false
  else
    let oo := Tab.get 0 x.offset u
    let og := Tab.get 0 x.gain u
    let limit := fun f => if (s.calRun.get p).rotating then s.plaus p f else s.rd f
    let lo := limit (RXCONV.CAL_LIMITS_OFFSET_PLAUS p)
    let lg := limit (RXCONV.CAL_LIMITS_GAIN_PLAUS p)
    let ok1 := plausible lo oo m.offset && plausible lg og m.gain
    let ok2 := plausible lo oo m.offset2 && plausible lg og m.gain2
    let leave := fun (y : ConvState) (s : State) =>
      let s := (s.setConv tx p c { y with idle := y.idle ++ [u], classing := false }).wr (chrysField tx p c) noUnit
      if x.classing then s.transient (convBlock tx p c) else s
    if (s.calRun.get p).rotating then
      if ok1 then leave { x with offset := Tab.set 0 x.offset u m.offset, gain := Tab.set 0 x.gain u m.gain } s
      else
        let s := (s.raise (Ev.RXCONV.implausible p)).onCal p fun r => { r with implausible := true }
        if ok2 then leave { x with offset := Tab.set 0 x.offset u m.offset2, gain := Tab.set 0 x.gain u m.gain2 } s
        else s.convSelfTest tx p c u false
    else if ok1 then leave x s
    else s.setConv tx p c { x with classing := true }

/-- A position returns to a front that passed its self-test, one per rotation step: the head of the idle queue takes it on
the front's switch, and the unit it replaces is idle unless it is in quarantine (R20, R70). -/
def State.calReturn (s : State) (tx : Bool) (p : Port) (c : Fin 4) : State :=
  let x := s.conv tx p c
  match x.returning, x.idle with
  | pos :: more, u :: rest =>
    let old := x.unitAt pos
    let back := if (s.block (convBlock tx p c)).quarantine.contains old then [] else [old]
    s.setConv tx p c ({ x with returning := more, idle := rest ++ back, flagged := x.flagged.filter (· != pos) }.serve pos u)
  | _, _ => s

/-- The position a rotation step goes to: `NEXT_POS`, or the next one whose front is in service (log entry 86). -/
def ConvState.stepPos (x : ConvState) : Nat :=
  (((List.range 256).map fun k => (x.nextPos + k) % 256).find? fun q => !x.frontOut q).getD x.nextPos

/-- CAL_STEP (R71, R75): one rotation step, up to the start of the eclosion comparison, which begins once chrysalis is free.
The head of the idle queue stays there until the comparison ends. With a spare count of 0 the converter runs no
rotation. -/
def execCalStep (tx : Bool) (p : Port) (c : Fin 4) (m : CalMeas) (s : State) : Result :=
  s.clocked <|
  .next (
    if s.convSpares tx p c = 0 ∨ (s.conv tx p c).compare.isSome then s
    else
      let s := (s.calMeasure tx p c m).calReturn tx p c
      let x := s.conv tx p c
      match x.idle with
      | [] => s
      | u :: _ => if s.rd (chrysField tx p c) = noUnit then s.setConv tx p c { x with compare := some (u, x.stepPos) } else s)

/-- A comparison within the limit (R71): the new unit takes the position and the old one enters chrysalis. A position whose unit
has failed a check meanwhile is left to its takeover (R68; log entry 86). -/
def State.compareGood (s : State) (tx : Bool) (p : Port) (c : Fin 4) (u pos : Nat) : State :=
  let x := s.conv tx p c
  if x.flagged.contains pos then (s.setConv tx p c { x with compare := none }).takeover tx p c pos
  else
    let y := { x with compare := none, idle := x.idle.filter (· != u) }.vacate (s.rd (chrysField tx p c))
    -- positions passed over count as made in this pass
    let made := (pos + 256 - x.nextPos) % 256 + 1
    let s := s.toChrysalis tx p c ({ y with passLeft := x.passLeft - made, nextPos := (pos + 1) % 256 }.serve pos u)
      (x.unitAt pos) false
    s.cond (s.rotationOver p) fun s => s.onCal p fun r => { r with rotating := false }

/-- A comparison beyond the limit is a failed check of the incoming unit, which returns to chrysalis for its classifying self-test
(R71). -/
def State.compareBad (s : State) (tx : Bool) (p : Port) (c : Fin 4) (u : Nat) : State :=
  let x := s.conv tx p c
  let y := { x with compare := none, idle := x.idle.filter (· != u) }.vacate (s.rd (chrysField tx p c))
  (s.toChrysalis tx p c y u true).raise (Ev.RXCONV.compareFailed p)

/-- CAL_ECLOSION_COMPARE_DONE (R71): the mean absolute difference in 1/16 LSB is judged; a run that `CAL_HOLD` stops ends with
its last comparison (R74). -/
def execCalEclosionCompareDone (tx : Bool) (p : Port) (c : Fin 4) (diff : Nat) (s : State) : Result :=
  s.clocked <|
  .next (
    match (s.conv tx p c).compare with
    | none => s
    | some (u, pos) =>
      let s :=
        if diff ≤ s.rd (RXCONV.CAL_LIMITS_ECL_LIMIT p) then s.compareGood tx p c u pos else s.compareBad tx p c u
      s.cond ((s.calRun.get p).stopping && !s.comparing p) fun s => s.calStopped p)

/-- The sampling switches in service of a receive converter: fronts, and the own switches of units that serve (R72). -/
def ConvState.switches (x : ConvState) : List Nat :=
  ((List.range 32).filter fun t => !x.frontOut t) ++
    ((List.range 8).filter fun k => (List.range 256).any fun q => x.unitAt q == 256 + k).map (32 + ·)

/-- Every in-service switch of the port has an accepted estimate that its trim has reached: the skew phase ends, which the
model chooses (R72, log entry 87). -/
def State.skewOver (s : State) (p : Port) : Bool :=
  (List.finRange 4).all fun c => (s.conv false p c).switches.all fun sw =>
    (s.calRun.get p).skewDone.contains (40 * c.val + sw)

/-- A unit whose own switch is LASTING (R73) leaves its role; a position it serves is flagged until a takeover, and without a
unit that can take it over the fault is EXHAUSTED (R20, R26). -/
def State.ownSwitchFails (s : State) (p : Port) (c : Fin 4) (u : Nat) : State :=
  let b := convBlock false p c
  let x := s.conv false p c
  let held := (List.range 256).filter fun q => x.unitAt q == u
  let idle := x.idle.filter (· != u)
  let chrys := s.rd (chrysField false p c)
  let left := idle ++ (if chrys = noUnit ∨ chrys = u then [] else [chrys])
  let s := s.setConv false p c { x with
    idle := idle, suspects := x.suspects.filter (· != u),
    compare := match x.compare with | some (v, q) => if v = u then none else some (v, q) | none => none,
    flagged := held.foldl addSorted x.flagged }
  let s := s.cond (decide (chrys = u)) fun s => s.wr (chrysField false p c) noUnit
  let s := s.lastingOnly b u
  s.cond (held.any fun q => !left.any fun v => x.canServe q v) fun s => s.exhausted b

/-- A skew estimate of a switch in service (R72, R73): the trim moves towards it by at most 4 codes; an implausible estimate is
repeated once, and one that stays implausible is a LASTING fault of the front, or of the unit whose own switch it is. -/
def State.skewStep (s : State) (p : Port) (c : Fin 4) (sw : Nat) (est : Int) : State :=
  let x := s.conv false p c
  let old := Tab.get 0 x.storeSkew sw
  if !x.switches.contains sw then s
  else if plausible (s.plaus p (RXCONV.CAL_LIMITS_SKEW_PLAUS p)) old est then
    let cur := Tab.get 0 x.skew sw
    let new := cur + clampInt (-4) 4 (est - cur)
    let s := s.setConv false p c { x with skew := Tab.set 0 x.skew sw new, skewBad := x.skewBad.filter (· != sw) }
    s.cond (decide (new = est)) fun s => s.onCal p fun r => { r with skewDone := addSorted r.skewDone (40 * c.val + sw) }
  else
    let s := (s.raise (Ev.RXCONV.implausible p)).onCal p fun r => { r with implausible := true }
    if x.skewBad.contains sw then
      let s := s.setConv false p c { x with skewBad := x.skewBad.filter (· != sw) }
      if sw < 32 then
        let s := s.frontLoss p c sw
        s.frontClassify false p c sw ((s.conv false p c).fronts.any fun e => e.1 == sw && e.2) false
      else s.ownSwitchFails p c (224 + sw)
    else s.setConv false p c { x with skewBad := addSorted x.skewBad sw }

/-- The skew phase at a tick (R72, R74): it runs while the region reports a carrier. -/
def State.skewTick (s : State) (p : Port) (ests : List (Port × Fin 4 × Fin 40 × Int)) : State :=
  let r := s.calRun.get p
  if r.skewing ∧ ¬ r.suspended then
    let s := s.forEach (ests.filter fun e => decide (e.1 = p)) fun e s => s.skewStep p e.2.1 e.2.2.1.val e.2.2.2
    s.cond (s.skewOver p) fun s => s.onCal p fun r => { r with skewing := false }
  else s

end Sys2Proof.Machine
end

