-- ==== Sys2Proof/Machine/Front.lean ====
section
/-! DEFINITION. The receive front end on a hop: erasures, rail clips, the running estimates, and stages F3 to F6 from converter
codes to the block that enters the equaliser (R68, R78 to R84, R95, R112, R113). -/

namespace Sys2Proof.Machine

open F

/-- A converter code in LSB about mid-scale. -/
def sampleValue (b : Byte) : Int := (b.toNat : Int) - 128

/-- The four converters' codes of a hop. -/
def hopCodes (codes : List (List Byte)) (c : Nat) : List Byte := codes.getD c []

/-- Codes at the rails (R95). -/
def railClips (l : List Byte) : Nat := (l.filter fun b => b == 0x00 || b == 0xFF).length

/-- The positions of a converter whose samples carry the erasure flag (R68). -/
def State.erasedPos (s : State) (p : Port) (c : Nat) : List Nat := (Tab.get ConvState.init s.rxConv (4 * p.toNat + c)).flagged

/-- Samples of a converter that carry the erasure flag: sample n comes from position n mod 256 (R65, R68). -/
def erasedSamples (flagged : List Nat) (n : Nat) : Nat :=
  (flagged.map fun q => if q % 256 < n then (n - 1 - q % 256) / 256 + 1 else 0).sum

/-- Sampling instants of a hop at which a converter's sample is erased, counted once however many are (R113; log entry 88). In
half-rate mode two instants make one sample of the block. -/
def State.erasedInstants (s : State) (p : Port) (n : Nat) : Nat :=
  let all := ((List.range 4).flatMap (s.erasedPos p)).eraseDups
  let e := erasedSamples all n
  if (s.rxMode p).half then (e + 1) / 2 else e

/-! ### Running estimates (R79) -/

/-- `AVG_LOG2`, at least 4 (R93). -/
def State.avgLog2 (s : State) (p : Port) : Nat := max 4 (s.rd (RXFE.FE_CORR_CTL_AVG_LOG2 p))

/-- The estimates are held (R79): while there is no signal or no carrier, or by `FREEZE_CORR`. -/
def State.corrHeld (s : State) (p : Port) : Bool :=
  s.on (RXFE.ACQ_STATUS_LOS p) || !s.on (RXFE.ACQ_STATUS_CARRIER p) || s.on (RXFE.FE_CORR_CTL_FREEZE_CORR p)

/-- The mean of some values in 1/65,536; 0 of none. -/
def meanOf (l : List Int) : Int := if l.length = 0 then 0 else (l.sum * 65536).ediv l.length

/-- The square of a standard deviation in 1/65,536 of an LSB squared, out of mean and mean square. -/
def varianceOf (mean power : Int) : Nat := (power - (mean * mean).ediv 65536).toNat

/-- A correlation coefficient in 1/32,768 out of the means of two converters, of their squares, and of their product, in
1/65,536 of an LSB and of its square. -/
def correlation (mi mq pi pq iq : Int) : Int :=
  let d := isqrt (varianceOf mi pi * varianceOf mq pq)
  if d = 0 then 0 else clampInt (-32768) 32767 (((iq - (mi * mq).ediv 65536) * 32768).ediv d)

/-- Add a hop to the average in progress (R79): means, mean squares and mean products. -/
def FrontSums.add (a : FrontSums) (codes : List (List Byte)) : FrontSums :=
  let v := (List.range 4).map fun c => (hopCodes codes c).map sampleValue
  let prod := fun i j => (v.getD i []).zipWith (· * ·) (v.getD j [])
  ⟨a.mean.zipWith (· + ·) (v.map meanOf), a.power.zipWith (· + ·) ((List.range 4).map fun c => meanOf (prod c c)),
    a.rho.zipWith (· + ·) [meanOf (prod 0 1), meanOf (prod 2 3)], a.hops + 1⟩

/-- A hop's codes enter the running estimates, which change once the average is over 2^`AVG_LOG2` hops (R79; log entry 88). -/
def State.estimate (s : State) (p : Port) (codes : List (List Byte)) : State :=
  if s.corrHeld p then s
  else
    let a := (s.rx.get p).sums.add codes
    if a.hops < 2 ^ s.avgLog2 p then s.onRx p fun r => { r with sums := a }
    else
      let avg := fun (l : List Int) => l.map fun v => v.ediv a.hops
      let m := avg a.mean
      let w := avg a.power
      let q := avg a.rho
      let s := s.onRx p fun r => { r with sums := FrontSums.none, estMean := m, estPower := w }
      (s.wrI (RXFE.QUAD_EST_RHO_X p) (correlation (m.getD 0 0) (m.getD 1 0) (w.getD 0 0) (w.getD 1 0) (q.getD 0 0))).wrI
        (RXFE.QUAD_EST_RHO_Y p) (correlation (m.getD 2 0) (m.getD 3 0) (w.getD 2 0) (w.getD 3 0) (q.getD 1 0))

/-! ### Stage F3: correction (R79). A sample is in 1/65,536 of the amplitude of unit power, which both converters of a pair at an
RMS of 64/256 of full scale make (log entry 88). -/

/-- `RX_SKEW` of a converter in 1/256 sample, a value beyond ±2,048 read as the nearer limit (R79, R93). -/
def State.rxSkew (s : State) (p : Port) (c : Nat) : Int :=
  clampInt (-2048) 2048 (signed 13 (s.rdA (RXFE.RX_SKEW_DELAY p c)))

/-- Steps 1 and 2: the mean is taken off and the RMS made `TARGET` / 256 of full scale; without an estimate of the RMS the sample
keeps its scale. -/
def State.frontScale (s : State) (p : Port) (c : Nat) (b : Byte) : Int :=
  let r := s.rx.get p
  let m := r.estMean.getD c 0
  let v := 65536 * sampleValue b - m
  let sd := isqrt (65536 * varianceOf m (r.estPower.getD c 0))
  -- 46,341 is 65,536 / √2
  if sd = 0 then (v * 46341).ediv (32 * 65536) else (v * s.rd (RXFE.FE_CORR_CTL_TARGET p) * 46341).ediv (64 * sd)

/-- Steps 1 to 3 on one sampling instant, `n` of its hop: a sample that carries the erasure flag is replaced with zero (R113). -/
def State.frontSample (s : State) (p : Port) (codes : List (List Byte)) (n : Nat) : List Int :=
  let erased := fun c => (s.erasedPos p c).contains (n % 256)
  let v := fun c => if erased c then 0 else s.frontScale p c ((hopCodes codes c).getD n 0x80)
  let q := fun c (rho : Int) => if erased c then 0 else v c - (rho * v (c - 1)).ediv 32768
  [v 0, q 1 (s.rdI (RXFE.QUAD_EST_RHO_X p)), v 2, q 3 (s.rdI (RXFE.QUAD_EST_RHO_Y p))]

/-- Whole samples by which stage F3 delays every converter beside its skew, so that a negative skew needs no later sample (log
entry 88). -/
def skewBase : Nat := 16

/-- Step 4: sample `n` of a series, whose first `past` samples are of the hop before, each converter delayed by its skew. -/
def State.frontSkew (s : State) (p : Port) (series : Array (List Int)) (past n : Nat) : List Int :=
  (List.range 4).map fun c =>
    (cubic (fun i => if i < 0 then 0 else (((series.getD i.toNat []).getD c 0 : Int) : Rat))
      ((past + n : Nat) - (skewBase : Nat) - (s.rxSkew p c : Rat) / 256)).floor

/-! ### Stages F4 to F6 -/

/-- Stage F4: −F̂, from the first sample after the end marker on (R84). The angle of sample `n` in 2^−32 turns, F̂ in MHz. -/
def FrontTail.shift (t : FrontTail) (on : Bool) (fHat : Int) (n : Nat) : Int :=
  if on && decide (t.shiftIn ≤ n) then t.phase + (fHat * 2 ^ 32 * (n - t.shiftIn : Nat)).ediv 340000 else 0

/-- X and Y of a sample turned by an angle in 2^−32 turns. -/
def turnBoth (a : Int) (v : List Int) : List Int :=
  let x := turn (v.getD 0 0, v.getD 1 0) a
  let y := turn (v.getD 2 0, v.getD 3 0) a
  [x.1, x.2, y.1, y.2]

/-- Stage F5 in half-rate mode: filter and decimate by 2 (R78); the filter is not given (log entry 88). Sample `n` out of a
series whose first `past` samples are of the hop before. -/
def decimated (series : Array (List Int)) (past n : Nat) : List Int :=
  (List.range 4).map fun c =>
    (((List.range 64).map fun k =>
      Config.decimTap k * (if k ≤ past + 2 * n then (series.getD (past + 2 * n - k) []).getD c 0 else 0)).sum).ediv 65536

/-- X and Y conjugated (R112). -/
def conjBoth (v : List Int) : List Int := [v.getD 0 0, -v.getD 1 0, v.getD 2 0, -v.getD 3 0]

/-- The newest `n` of a list. -/
def newest {α : Type} (n : Nat) (l : List α) : List α := l.drop (l.length - n)

/-- A hop's codes through stages F3 to F5 and `SPEC_INV`: what the front end keeps, its `last` the hop's samples as they enter
stage E1 (R78, R79, R84, R112, R113). -/
def State.frontStages (s : State) (p : Port) (codes : List (List Byte)) : FrontTail :=
  let r := s.rx.get p
  let t := r.front
  let n := (hopCodes codes 0).length
  let pre := t.pre ++ (List.range n).map (s.frontSample p codes)
  let skewed := (List.range n).map (s.frontSkew p pre.toArray t.pre.length)
  let fHat := s.rdI (RXFE.CFC_F_HAT p)
  let mid := t.mid ++ skewed.zipIdx.map fun e => turnBoth (-t.shift r.fHatOn fHat e.2) e.1
  let out := if (s.rxMode p).half then (List.range (n / 2)).map (decimated mid.toArray t.mid.length) else mid.drop t.mid.length
  ⟨newest 64 pre, newest 64 mid, if s.on (RXEQ.EQ_CFG_SPEC_INV p) then out.map conjBoth else out,
    unsigned 32 (t.shift r.fHatOn fHat n), t.shiftIn - n⟩

/-- Samples of a hop and of its block (R80). -/
def hopLen : Nat := 16384
def blockLen : Nat := 32768

/-- The block of a hop: the hop before and its own samples; before the first hop there is nothing (R80). -/
def blockOf (before now : List (List Int)) : List (List Int) :=
  List.replicate (hopLen - before.length) [0, 0, 0, 0] ++ before ++ now

/-- The front end on a hop: rail-clipped and erased samples are counted and the estimates go on (R79, R95). -/
def State.frontHop (s : State) (p : Port) (codes : List (List Byte)) : State :=
  let s := s.forEach [0, 1, 2, 3] fun (c : Fin 4) s =>
    (s.raiseN (Ev.RXCONV.railClipped p c.val) (railClips (hopCodes codes c.val))).raiseN (Ev.RXCONV.erasures p c.val)
      (erasedSamples (s.erasedPos p c.val) (hopCodes codes c.val).length)
  s.estimate p codes

end Sys2Proof.Machine
end

