-- ==== Sys2Proof/Machine/Stages.lean ====
section
/-! DEFINITION. Stages E1 to E4 on a hop: forward transform, dispersion and MIMO multiply, timing error, inverse transform,
interpolation, decision errors and the coefficients they give; what the coefficients show of the fibre (R81, R96, R105, R108, R109,
R120). How the hardware rounds inside the stages is left out (log entry 89). -/

namespace Sys2Proof.Machine

open F

/-! ### E1 to E3 -/

/-- The sample rate of a hop's block in GHz (R80). -/
def Mode.sampleRate (x : Mode) : Nat := if x.half then 170 else 340

/-- The samples of its block to a symbol. -/
def Mode.period (x : Mode) : Rat := (4 * x.sampleRate : Nat) / (x.rateQ : Rat)

/-- X and Y of sample `n` of a block. -/
def Hop.input (h : Hop) (n : Nat) : CRat × CRat :=
  let v := h.block.getD n []
  let at_ := fun i => ((v.getD i 0 : Int) : Rat) / 65536
  ((at_ 0, at_ 1), (at_ 2, at_ 3))

/-- Stage E1: the spectrum of X and of Y at `f` cycles a sample. -/
def Hop.spectrum (h : Hop) (f : Rat) : CRat × CRat :=
  (List.range blockLen).foldl (fun (a : CRat × CRat) (n : Nat) =>
    let z := cisTurns (-(f * n))
    let v := h.input n
    (cadd a.1 (cmul v.1 z), cadd a.2 (cmul v.2 z))) ((0, 0), (0, 0))

/-- k in nm/GHz (R81). -/
def nmPerGHz (carrier : Nat) : Rat := 299792458 / ((carrier * carrier : Nat) : Rat)

/-- Half the overlap: the compensating response is delayed by it, so that all of it lies in the samples the block overlaps (R80 to
R82; log entry 89). -/
def centreDelay : Nat := 8192

/-- The compensating response, whose group delay at `f` is D̂ × k × f (R81). -/
def Hop.dispersion (h : Hop) (f : Rat) : CRat :=
  let ghz := f * h.mode.sampleRate
  cisTurns (-(10 * h.dHat * nmPerGHz h.carrier * ghz * ghz / 2000) - f * centreDelay)

/-- The response of an impulse response at `f` cycles a sample (R105). -/
def tapResponse (t : Tab (Int × Int)) (f : Rat) : CRat :=
  csum (t.map fun e => cmul ((e.2.1 : Rat) / 2 ^ 30, (e.2.2 : Rat) / 2 ^ 30) (cisTurns (-(f * ((e.1 : Int) - 512)))))

/-- A 2×2 matrix of complex numbers, by rows. -/
structure Jones where
  xx : CRat
  xy : CRat
  yx : CRat
  yy : CRat

def Mimo.response (m : Mimo) (f : Rat) : Jones :=
  ⟨tapResponse m.xx f, tapResponse m.xy f, tapResponse m.yx f, tapResponse m.yy f⟩

/-- Stage E2: the compensating response and the 2×2 matrix (R81, R105). -/
def Hop.product (h : Hop) (m : Mimo) (f : Rat) : CRat × CRat :=
  let x := h.spectrum f
  let c := h.dispersion f
  let j := m.response f
  (cmul c (cadd (cmul j.xx x.1) (cmul j.xy x.2)), cmul c (cadd (cmul j.yx x.1) (cmul j.yy x.2)))

/-- Stage E3: sample `n` of the equalised block. -/
def Hop.equalised (h : Hop) (m : Mimo) (n : Int) : CRat × CRat :=
  let v := (List.range blockLen).foldl (fun (a : CRat × CRat) b =>
    let f : Rat := ((b : Int) - hopLen : Int) / (blockLen : Rat)
    let z := cisTurns (f * n)
    let w := h.product m f
    (cadd a.1 (cmul w.1 z), cadd a.2 (cmul w.2 z))) ((0, 0), (0, 0))
  (cscale (1 / blockLen) v.1, cscale (1 / blockLen) v.2)

/-! ### Timing error (R108) -/

/-- The symbol-clock tone of X and of Y, from the bins at ±SR/2 as far as the roll-off reaches. -/
def Hop.tones (h : Hop) : CRat × CRat :=
  let half : Rat := 1 / (2 * h.mode.period)
  let reach := (half * h.mode.rolloff / 200 * blockLen).floor.toNat
  (List.range (2 * reach + 1)).foldl (fun a i =>
    let d : Rat := ((i : Int) - reach : Int) / (blockLen : Rat)
    let u := h.product h.mimo (half + d)
    let l := h.product h.mimo (d - half)
    (cadd a.1 (cmul u.1 (cconj l.1)), cadd a.2 (cmul u.2 (cconj l.2)))) ((0, 0), (0, 0))

/-- The sample of the block at which stage E4 takes what it interpolates for the start of the hop: the second half, less the
reach of the interpolator. -/
def hopStart : Nat := hopLen - 2

/-- The symbol periods from the count's start to the start of the block. -/
def Hop.elapsed (h : Hop) : Rat := (((h.num - h.base : Nat) * hopLen : Nat) - (hopStart : Nat) : Rat) / h.mode.period

/-- The step of an angle of some turns to the nearest of another, from −1/2 on. -/
def nearTurn (r : Rat) : Rat := r + 1 / 2 - ((r + 1 / 2).floor : Rat) - 1 / 2

/-- The error of a tone against the timing phase `theta`, in 1/65,536 symbol period (R108). -/
def Hop.toneError (h : Hop) (theta : Int) (z : CRat) : Int :=
  (nearTurn (h.elapsed - cargTurns z - theta / 65536) * 65536).floor

/-- The error of both tones together, and the RMS of their errors in 1/1,024 symbol period. -/
def Hop.timingError (h : Hop) (theta : Int) : Int × Nat :=
  let t := h.tones
  let x := h.toneError theta t.1
  let y := h.toneError theta t.2
  (h.toneError theta (cadd t.1 t.2), isqrt ((x * x + y * y).toNat / 2) / 64)

/-! ### E4 -/

/-- The instant of a symbol of the count, in samples from the start of the hop (R108). -/
def Hop.instant (h : Hop) (k : Nat) : Rat :=
  (k + (h.theta : Rat) / 65536 + (h.rate : Rat) / (65536 * 100000000) * ((k : Int) - h.first : Int)) * h.mode.period -
    ((h.num - h.base) * hopLen : Nat)

/-- A symbol of the count, interpolated, in units of symbol power (R108). -/
def Hop.symbol (h : Hop) (m : Mimo) (lag : Int) (k : Nat) : CRat × CRat :=
  let t := h.instant k + hopStart - lag
  (ccubic (fun n => (h.equalised m n).1) t, ccubic (fun n => (h.equalised m n).2) t)

/-- The symbols of a hop, XI, XQ, YI, YQ in 1/65,536 of the amplitude of unit power (R96). -/
def Hop.symbols (h : Hop) : List (List Int) :=
  (List.range h.count).map fun j =>
    let v := h.symbol h.mimo 0 (h.first + j)
    [v.1.1, v.1.2, v.2.1, v.2.2].map fun r => (r * 65536).floor

/-- A symbol on the grid of odd integers, in 1/256 of it, of a constellation with 64 times this mean power (R46). -/
def onGrid (power64 : Nat) (v : List Int) : List Int :=
  let k : Int := isqrt (power64 * 2 ^ 32)
  v.map fun x => (x * k).ediv (2 ^ 27)

/-! ### Adaptation (R105) -/

/-- The error of a symbol by the constant-modulus criterion (R105). -/
def modulusError (z : CRat) : CRat := cscale (1 - cnorm z) z

/-- The decision errors of one output, in 1/256 of the grid: derotated, its phase found, decided, and turned back (R105, R109). -/
def decisionErrors (base win : Nat) (step : Int) (l : List Cplx) : List Cplx :=
  let d := derotate 0 step l
  ((d.zip (phaseSearch (fun _ => base) win d)).zipIdx).map fun e =>
    let z := unphase e.1.1 e.1.2
    turn (256 * nearest base z.1 - z.1, 256 * nearest base z.2 - z.2) (e.1.2 * 2 ^ 24 + step * e.2)

/-- The error terms of a hop, of X and Y, in units of symbol amplitude: constant-modulus, or decision-directed with the active
constellation (R105). -/
def Hop.errors (h : Hop) (dd : Bool) (win : Nat) : List (CRat × CRat) :=
  if dd then
    let g := h.symbols.map (onGrid h.mode.power64)
    let unit : Rat := 2048 * 65536 / (isqrt (h.mode.power64 * 2 ^ 32) : Nat)
    let out := fun i => (decisionErrors h.mode.base win h.step (g.map fun v => (v.getD i 0, v.getD (i + 1) 0))).map fun z =>
      cscale unit (((z.1 : Rat)) / 65536 , (z.2 : Rat) / 65536)
    (out 0).zip (out 2)
  else
    h.symbols.map fun v =>
      let at_ := fun i => ((v.getD i 0 : Int) : Rat) / 65536
      (modulusError (at_ 0, at_ 1), modulusError (at_ 2, at_ 3))

/-- Taps moved against a mean gradient by the step 2^−`mu` (R105). -/
def moveTaps (mu : Nat) (grad : Nat → CRat) (t : Tab (Int × Int)) : Tab (Int × Int) :=
  (List.range 1024).foldl (fun t m => Tab.upd (0, 0) t m fun c =>
    let g := cscale (2 ^ 30 / 2 ^ mu) (grad m)
    (c.1 + g.1.floor, c.2 + g.2.floor)) t

/-- The update that the error terms of a hop give (R105): each tap moves along the mean product of an output's errors and what
its input was. -/
def Hop.update (h : Hop) (mu : Nat) (errors : List (CRat × CRat)) (m : Mimo) : Mimo :=
  let grad := fun (err inp : CRat × CRat → CRat) (tap : Nat) =>
    cscale (1 / (errors.length : Rat))
      (csum (errors.zipIdx.map fun e => cmul (err e.1) (cconj (inp (h.symbol Mimo.identity ((tap : Int) - 512) (h.first + e.2))))))
  ⟨moveTaps mu (grad (·.1) (·.1)) m.xx, moveTaps mu (grad (·.1) (·.2)) m.xy, moveTaps mu (grad (·.2) (·.1)) m.yx,
    moveTaps mu (grad (·.2) (·.2)) m.yy⟩

/-! ### What the coefficients show (R120) -/

def Jones.det (j : Jones) : CRat := csub (cmul j.xx j.yy) (cmul j.xy j.yx)

/-- The squared magnitudes of all elements. -/
def Jones.energy (j : Jones) : Rat := cnorm j.xx + cnorm j.xy + cnorm j.yx + cnorm j.yy

/-- The trace of `a` times the adjugate of `b`. -/
def Jones.over (a b : Jones) : CRat :=
  csub (cadd (cmul a.xx b.yy) (cmul a.yy b.xx)) (cadd (cmul a.xy b.yx) (cmul a.yx b.xy))

/-- The trace of the conjugate transpose of `a` times `b`. -/
def Jones.inner (a b : Jones) : CRat :=
  cadd (cadd (cmul (cconj a.xx) b.xx) (cmul (cconj a.yx) b.yx)) (cadd (cmul (cconj a.xy) b.xy) (cmul (cconj a.yy) b.yy))

/-- Twice the angle between the principal states of two matrices, in turns. -/
def Jones.turnTo (a b : Jones) : Rat :=
  let d := sqrtRat (cnorm a.det) * sqrtRat (cnorm b.det)
  if d = 0 then 0 else 2 * acosTurns (cnorm (b.over a) / (4 * d))

/-- The bins of the 1,024-tap response inside the signal band, in cycles a sample (R105). -/
def signalBins (x : Mode) : List Rat :=
  let reach := (1024 * (200 + x.rolloff) / (400 * x.period)).floor.toNat
  (List.range (2 * reach + 1)).map fun i => (((i : Int) - reach : Int) : Rat) / 1024

def meanRat (l : List Rat) : Rat := if l.length = 0 then 0 else l.sum / l.length

/-- DGD in ps: the mean over the bins of the differential delay of the principal states (R120). -/
def Mimo.dgd (m : Mimo) (x : Mode) : Rat :=
  meanRat ((signalBins x).map fun f => (m.response f).turnTo (m.response (f + 1 / 1024)) * 1024 * 1000 / x.sampleRate)

/-- The ratio of the singular values of a matrix, squared, as twice the larger and twice the smaller; its inverse has the same. -/
def Jones.singular (j : Jones) : Rat × Rat :=
  let r := sqrtRat (j.energy * j.energy - 4 * cnorm j.det)
  (j.energy + r, j.energy - r)

/-- PDL in 0.01 dB: the mean over the bins; one whose matrix is singular has no ratio and is left out (R120; log entry 89). -/
def Mimo.pdl (m : Mimo) (x : Mode) : Rat :=
  meanRat ((signalBins x).filterMap fun f =>
    let e := (m.response f).singular
    if 0 < e.2 then
      let d := dbRatio (e.1 * 2 ^ 32).floor.toNat (e.2 * 2 ^ 32).floor.toNat
      some ((d.1 : Rat) / d.2)
    else none)

/-- The residual dispersion in ps/nm: the slope of the group delay over the bins, by least squares, over k (R120). -/
def Mimo.residual (m : Mimo) (x : Mode) (carrier : Nat) : Rat :=
  let pts := (signalBins x).map fun (f : Rat) =>
    (f * x.sampleRate,
      -(cargTurns (cmul (m.response (f + 1 / 1024)).det (cconj (m.response f).det))) / 2 * 1024 * 1000 / x.sampleRate)
  let mean := meanRat (pts.map (·.1))
  let den := (pts.map fun e => (e.1 - mean) * (e.1 - mean)).sum
  if den = 0 then 0 else (pts.map fun e => (e.1 - mean) * e.2).sum / den / nmPerGHz carrier

/-- The SOP rate in krad/s between the coefficients of two successive hops: the angle between their matrices at the carrier
(R120). -/
def sopRate (x : Mode) (a b : Mimo) : Rat :=
  let j := a.response 0
  let k := b.response 0
  let d := j.energy * k.energy
  if d = 0 then 0 else 2 * piRat * acosTurns (cnorm (j.inner k) / d) * x.sampleRate * 1000000 / hopLen

/-- A hop's share of the telemetry set: what its coefficients show beside those of the hop before (R120). -/
def TelSums.takeHop (t : TelSums) (x : Mode) (carrier : Nat) (before now : Mimo) : TelSums :=
  let nat := fun (r : Rat) => (r + 1 / 2).floor.toNat
  let sop := nat (sopRate x before now)
  { t with hops := t.hops + 1, residual := t.residual + (256 * now.residual x carrier).floor, dgd := t.dgd + nat (100 * now.dgd x),
           pdl := t.pdl + nat (now.pdl x), sop := t.sop + sop, sopMax := max t.sopMax sop }

end Sys2Proof.Machine
end

