-- ==== Sys2Proof/Machine/Eq.lean ====
section
/-! DEFINITION. The equaliser region: hops, clusters and lanes, redo and classification, the lanes of the demapper, the
coefficient engine, re-acquisition requests (R97 to R106, R111, R116). -/

namespace Sys2Proof.Machine

open F

/-! ### Equaliser clusters (R97 to R104) -/

/-- The CCLK between hop hand-offs (R80, R97). -/
def State.hopPeriod (s : State) (p : Port) : Nat := if (s.rxMode p).half then 128 else 64

/-- The lane a cluster owns. -/
def State.laneOf (s : State) (p : Port) (c : Nat) : Option Nat := (s.block (.eqCluster p)).placeOf (.eqCluster p) c

/-- The number of a lane's next hop still to be handed off (R97). -/
def nextHopOf (n lane : Nat) : Nat := n + (lane + 16 - n % 16) % 16

/-- An acting spare that can redo a stage of hop `n` for cluster `u` whose check fails at stage `j` (R101): a cluster classified
TRANSIENT that waits for its lane's next hop, or in half-rate mode a lane owner that is idle, whose own next hop begins no
earlier than the release of hop `n`. Times count from the hand-off of hop `n`. -/
def State.actingSpare (s : State) (p : Port) (u n j : Nat) : Option Nat :=
  let h := s.hopPeriod p
  let r := s.rx.get p
  let x := s.block (.eqCluster p)
  let begins := fun lane => (nextHopOf r.nextHop lane - n) * h
  let idle := fun c => decide (c ≠ u) && !r.hops.any (fun e => e.acted == some c) && !x.quarantine.contains c
  match r.acting.find? fun c =>
    idle c && match s.laneOf p c with
    | some l => decide (1280 ≤ begins l)
    | none => false with
  | some c => some c
  | none =>
    if (s.rxMode p).half then
      ((List.range 16).find? fun l =>
        -- the lane's last hop started 2,048 CCLK before its next one and took 1,024
        idle (x.unitAt l) && decide (1280 ≤ begins l) && decide (begins l ≤ 256 * j + 1024)).map x.unitAt
    else none

/-- The CCLK that the stages of a hop have had at the last hand-off: since its own, less 256 where it started late or has had a
stage redone (R99, R100). -/
def State.hopAge (s : State) (p : Port) (h : Hop) : Nat :=
  ((s.rx.get p).nextHop - 1 - h.num) * s.hopPeriod p - (if h.late || h.redo || h.acted.isSome then 256 else 0)

/-- Mark a hop in flight. -/
def State.markHop (s : State) (p : Port) (n : Nat) (f : Hop → Hop) : State :=
  s.onRx p fun r => { r with hops := r.hops.map fun h => if h.num = n then f h else h }

/-- A hop that is to be released as erasures (R102, R103). -/
def State.eraseHop (s : State) (p : Port) (n : Nat) : State := s.markHop p n fun h => { h with erased := true }

/-- The spare still carries a hop when the lane's hop after hop `n` is due, which only happens in full-rate mode (R100). -/
def State.spareLate (s : State) (p : Port) (n : Nat) : Bool :=
  !(s.rxMode p).half && (s.rx.get p).hops.any fun h => h.redo && decide (16 * 64 + 64 * n < 1280 + 64 * h.num)

/-- A lane's hop starts 256 CCLK late (R100): one that has been handed off already is marked and counted, one still to come will
be. -/
def State.lateHop (s : State) (p : Port) (n : Nat) : State :=
  let r := s.rx.get p
  if r.hops.any fun h => h.num == n then
    (s.markHop p n fun h => { h with late := true }).raiseIf (r.hops.any fun h => h.num == n && !h.late) (Ev.RXEQ.hopLate p)
  else s.onRx p fun r => { r with lateNext := addSorted r.lateNext (n % 16) }

/-- A LASTING fault of a cluster in hop `n` (R100, R103): the spare takes its lane from hop n + 16 on, and the lane runs late from
then on where the spare still carries a hop. With no spare it is EXHAUSTED and the cluster stays. -/
def State.eqLasting (s : State) (p : Port) (u n : Nat) : State :=
  let b := Block.eqCluster p
  let late := s.spareLate p n
  match s.laneOf p u with
  | none => s.lasting b u
  | some lane =>
    let s := (s.undefer b u).lasting b u
    let v := (s.block b).unitAt lane
    if v = u then s
    else
      let s := (s.wr (RXEQ.CLU_ROT_CHRYS_CLU p) 31).onRx p fun r =>
        { r with leaving := r.leaving.filter fun e => e.2 != v, exchange := r.exchange.filter fun n => n % 16 != lane }
      let s := s.markHop p (n + 16) fun h => { h with cluster := v }
      s.cond late fun s => (s.lateHop p (n + 16)).onRx p fun r => { r with lateLanes := addSorted r.lateLanes lane }

/-- A failed check that is not redone (R102, R103): it classifies a cluster whose earlier one awaited it as LASTING; of a
quarantined cluster there is nothing left to classify; any other is left to its next check. -/
def State.eqDefer (s : State) (p : Port) (u n : Nat) : State :=
  let b := Block.eqCluster p
  if s.deferred b u then s.eqLasting p u n
  else if (s.block b).quarantine.contains u then s
  else s.deferClass b u

/-- A second fault in stages E1 to E4: the hop is released as erasures, and the cluster's next check classifies it
(R102). -/
def State.eqDouble (s : State) (p : Port) (u n : Nat) : State :=
  ((s.eraseHop p n).raise (Ev.RXEQ.doubleFault p)).eqDefer p u n

/-- A cluster whose earlier second fault awaited this check is LASTING (R102). -/
def State.eqJudge (s : State) (p : Port) (u n : Nat) : State :=
  s.cond (s.deferred (.eqCluster p) u) fun s => s.eqLasting p u n

/-- A failed check of a redo: a second fault (R24, R99). The spare goes to its self-test; an acting spare is classified by
its next check. -/
def State.eqRedoFail (s : State) (p : Port) (u : Nat) (h : Hop) : State :=
  if h.acted.isSome then s.eqDouble p u h.num
  else ((s.eraseHop p h.num).raise (Ev.RXEQ.doubleFault p)).toTest (.eqCluster p) u

/-- A first fault that a cluster redoes: the spare, or an acting spare while the spare carries a hop (R99, R101). A cluster that
repeats stage 4 starts its lane's next hop late in full-rate mode (R100). -/
def State.eqRedo (s : State) (p : Port) (u : Nat) (i : CheckInfo) (acting : Option Nat) : State :=
  let n := i.num
  let s := (s.openWindow (.eqCluster p) i.cycle).raise (Ev.RXEQ.stageRedo p)
  let s :=
    match acting with
    | none => (s.wr (RXEQ.CLU_ROT_SPARE_BUSY p) 1).markHop p n fun h => { h with redo := true }
    | some c => (s.markHop p n fun h => { h with acted := some c }).onRx p fun r => { r with acting := r.acting.filter (· != c) }
  let s := s.cond (decide (i.stage = 4) && !(s.rxMode p).half) fun s => s.lateHop p (n + 16)
  s.eqJudge p u n

/-- A failed check of stage `i.stage` of hop `i.num` on a cluster (R99 to R103): a second fault of an open window, one of a hop
that started late and one while the spare carries a hop and no cluster is an acting spare are not redone and open no window; a
first fault opens a window and is redone by the spare, by an acting spare while the spare carries a hop, or by none where there
is no spare or it is out for its self-test (log entry 83). -/
def State.eqFail (s : State) (p : Port) (u : Nat) (i : CheckInfo) : State :=
  let b := Block.eqCluster p
  let chrys := s.rd (RXEQ.CLU_ROT_CHRYS_CLU p)
  match (s.rx.get p).hops.find? fun h => h.num == i.num with
  | none => s
  | some h =>
    if h.redo || h.acted.isSome then (if i.onSpare then s.eqRedoFail p u h else s)
    else if h.cluster ≠ u then s
    else if s.inWindow b i.cycle || h.late then s.eqDouble p u i.num
    else if (s.block b).spares b = 0 ∨ (chrys ≠ 31 ∧ (s.block b).testing.contains chrys) then
      ((s.openWindow b i.cycle).eraseHop p i.num).eqDefer p u i.num
    else if s.on (RXEQ.CLU_ROT_SPARE_BUSY p) ∨ chrys = 31 then
      match s.actingSpare p u i.num i.stage with
      | none => s.eqDouble p u i.num
      | some c => s.eqRedo p u i (some c)
    else s.eqRedo p u i none

/-- The classifying attempt of a cluster (R100), or the check that classifies an earlier second fault (R102). A TRANSIENT
fault in stage 4 in full-rate mode exchanges the cluster with the spare at the lane's hop n + 32. -/
def State.eqClassify (s : State) (p : Port) (u : Nat) (pass : Bool) (i : CheckInfo) : State :=
  let b := Block.eqCluster p
  if ¬ pass then s.eqLasting p u i.num
  else if s.deferred b u then (s.undefer b u).transient b
  else
    let s := s.transient b
    if (s.laneOf p u).isNone then s
    else if i.stage = 4 ∧ ¬ (s.rxMode p).half then s.onRx p fun r => { r with exchange := addSorted r.exchange (i.num + 32) }
    else s.onRx p fun r => { r with acting := addSorted r.acting u }

/-! ### Stitch, demapper and coefficient engine (R106, R116) -/

/-- A lane's symbols of the hop in the stage leave with zero LLRs (R116). -/
def State.zeroLane (s : State) (p : Port) (lane : Nat) : State :=
  s.onRx p fun r => { r with zeroOnce := addSorted r.zeroOnce lane }

/-- A failed check on a P1 or P2 lane (R116): redone on the spare lane, or the lane's symbols have zero LLRs. A second fault, on a
lane or on the spare, counts in the equaliser page's double-fault counter, the region's: the demapper page has none (R23, R24;
log entry 111). On the spare lane `i.num` is the lane whose work it redoes. -/
def State.laneFail (s : State) (b : Block) (p : Port) (redo : Evt) (u : Nat) (i : CheckInfo) : State :=
  let x := s.block b
  if i.onSpare then ((s.toTest b u).zeroLane p i.num).raise (Ev.RXEQ.doubleFault p)
  else
    match x.placeOf b u with
    | none => s
    | some lane =>
      if s.inWindow b i.cycle then ((s.zeroLane p lane).raise (Ev.RXEQ.doubleFault p)).deferOrLast b u
      else
        let s := s.openWindow b i.cycle
        if !x.canRedo b then (s.zeroLane p lane).deferOrLast b u
        else
          let s := s.raise redo
          s.cond (s.deferred b u) fun s => (s.undefer b u).lasting b u

/-- The hops' error terms of stage E4, oldest first, that no update has been made from (R105). -/
def State.coefHop (s : State) (p : Port) : Option Hop :=
  (s.rx.get p).hops.find? fun h => decide (h.stage = 3) && !h.erased && decide (1024 ≤ s.hopAge p h)

/-- An update from the oldest such hop is made or given up. -/
def State.coefTaken (s : State) (p : Port) : State :=
  match s.coefHop p with
  | some h => s.markHop p h.num fun h => { h with stage := 4 }
  | none => s

/-- A failed check on the coefficient engine (R106): redone on the spare, or the update is not written, which with no spare
is counted as dropped. -/
def State.coefFail (s : State) (p : Port) (u : Nat) (i : CheckInfo) : State :=
  let b := Block.coefEngine p
  let x := s.block b
  if i.onSpare then ((s.coefTaken p).raise (Ev.RXEQ.doubleFault p)).toTest b u
  else if s.inWindow b i.cycle then ((s.coefTaken p).raise (Ev.RXEQ.doubleFault p)).deferOrLast b u
  else
    let s := s.openWindow b i.cycle
    if !x.canRedo b then ((s.coefTaken p).raise (Ev.RXEQ.coefDropped p)).deferOrLast b u
    else
      let s := s.raise (Ev.RXEQ.coefRedo p)
      s.cond (s.deferred b u) fun s => (s.undefer b u).lasting b u

/-! ### Rotation (R104) -/

/-- The spare ecloses into the next lane in the order 0 to 15; the cluster it replaces enters chrysalis. -/
def State.eqRotate (s : State) (p : Port) : State :=
  let b := Block.eqCluster p
  let x := s.block b
  let c := s.rd (RXEQ.CLU_ROT_CHRYS_CLU p)
  let lane := (s.rx.get p).nextLane
  let old := x.unitAt lane
  let s := s.onRx p fun r => { r with rotateDue := false, nextLane := (lane + 1) % 16, acting := r.acting.filter (· != old) }
  ((s.setBlock b ((x.assign lane c).entersChrysalis old)).wr (RXEQ.CLU_ROT_CHRYS_CLU p) old).raise (Ev.RXEQ.spareEclosion p)

/-- A rotation can be made: there is a spare, and it has passed its self-test and is not out for another (R24, R104). -/
def State.eqMayRotate (s : State) (p : Port) : Bool :=
  let x := s.block (.eqCluster p)
  let c := s.rd (RXEQ.CLU_ROT_CHRYS_CLU p)
  decide (c ≠ 31) && decide (x.spares (.eqCluster p) ≠ 0) && x.mayEclose c

/-- A rotation has to wait (R104): the spare carries a hop, or the next lane is about to exchange its cluster (R100). -/
def State.eqRotateWaits (s : State) (p : Port) : Bool :=
  let r := s.rx.get p
  s.on (RXEQ.CLU_ROT_SPARE_BUSY p) || r.exchange.any fun n => n % 16 == r.nextLane

/-- EQ_CLUSTER_ROTATION (R104): the dwell expires, and a spare that has passed its self-test is to eclose into the next lane at
that lane's next hop. -/
def execEqClusterRotation (p : Port) (s : State) : Result :=
  s.clocked <|
  .next (if s.eqMayRotate p then s.onRx p fun r => { r with rotateDue := true } else s)

/-- The rotation that is due is made as the next lane's hop `n` starts, once nothing stands in its way; without a spare it lapses
(R104). -/
def State.eqRotateAt (s : State) (p : Port) (n : Nat) : State :=
  if ¬ (s.rx.get p).rotateDue then s
  else if (s.block (.eqCluster p)).spares (.eqCluster p) = 0 then s.onRx p fun r => { r with rotateDue := false }
  else if n % 16 = (s.rx.get p).nextLane ∧ s.eqMayRotate p ∧ ¬ s.eqRotateWaits p then s.eqRotate p
  else s

/-- A hop is released (R99, R100, R104): the spare that carried it is free and starts its chrysalis from the beginning, unless a
rotation waited for it; the cluster that a stage 4 TRANSIENT exchanged becomes the spare. -/
def State.freeHop (s : State) (p : Port) (h : Hop) : State :=
  let b := Block.eqCluster p
  let s := s.cond h.redo fun s =>
    (s.wr (RXEQ.CLU_ROT_SPARE_BUSY p) 0).cond (!(s.rx.get p).rotateDue) fun s =>
      s.setBlock b ((s.block b).entersChrysalis (s.rd (RXEQ.CLU_ROT_CHRYS_CLU p)))
  s.forEach ((s.rx.get p).leaving.filter fun e => e.1 == h.num) fun e s =>
    ((s.setBlock b ((s.block b).entersChrysalis e.2)).wr (RXEQ.CLU_ROT_CHRYS_CLU p) e.2).onRx p fun r =>
      { r with leaving := r.leaving.filter (· != e) }

/-! ### Hops -/

/-- The cluster that takes a lane's hop, and the lane's and the spare's roles as they then are (R100): after a stage 4
TRANSIENT the spare takes the lane, or does 16 hops later if it carries a hop then; with no spare left the lane runs late. -/
def State.takeHop (s : State) (p : Port) (n : Nat) : State × Nat :=
  let b := Block.eqCluster p
  let lane := n % 16
  let x := s.block b
  let c := x.unitAt lane
  let spare := s.rd (RXEQ.CLU_ROT_CHRYS_CLU p)
  if ¬ (s.rx.get p).exchange.contains n then (s, c)
  else
    let s := s.onRx p fun r => { r with exchange := r.exchange.filter (· != n) }
    if spare = 31 ∧ (s.rx.get p).leaving = [] then
      (s.onRx p fun r => { r with lateLanes := addSorted r.lateLanes lane }, c)
    else if spare = 31 ∨ s.on (RXEQ.CLU_ROT_SPARE_BUSY p) ∨ x.testing.contains spare then
      (s.onRx p fun r => { r with lateNext := addSorted r.lateNext lane, exchange := addSorted r.exchange (n + 16) }, c)
    else
      (((s.setBlock b (x.assign lane spare)).wr (RXEQ.CLU_ROT_CHRYS_CLU p) 31).onRx p fun r =>
        { r with leaving := r.leaving ++ [(n - 16, c)] }, spare)

/-! ### Re-acquisition (R111) -/

/-- A re-acquisition request in ACQUIRED (R111, R88): 1 frequency, 2 cycle slip, 3 divergence. -/
def State.reacquire (s : State) (p : Port) (cause : Nat) : State :=
  if s.acqSt p = acqAcquired then
    let s := s.wr (RXEQ.EQ_STATUS_REACQ_CAUSE p) cause
    let s := s.raise (match cause with
      | 1 => Ev.RXEQ.reqFrequency p
      | 2 => Ev.RXEQ.reqSlip p
      | _ => Ev.RXEQ.reqDivergence p)
    (s.acqLost p).toPreHunt p
  else s

end Sys2Proof.Machine
end

