-- ==== Sys2Proof/Machine/Hop.lean ====
section
/-! DEFINITION. Hops: hand-off with the coefficients, timing and frequency that each stage takes as it starts, coefficient
updates, and the release with carrier tracking, convergence and divergence, and the demapper's LLRs (R99, R105, R108 to R117). What
of the arithmetic the specification leaves open is in log entry 89. -/

namespace Sys2Proof.Machine

open F

/-! ### Timing recovery (R108) -/

/-- The bandwidth exponent as used: `TR_BW`, 6 and 7 read as 5. -/
def State.trBw (s : State) (p : Port) : Nat := min 5 (s.rd (RXEQ.TR_CFG_TR_BW p))

/-- 2π times the loop's bandwidth 62.5 kHz × 2^`TR_BW`, over a hop (R108). -/
def State.trOmega (s : State) (p : Port) : Rat :=
  2 * piRat * ((62500 * 2 ^ s.trBw p * hopLen : Nat) / ((s.rxMode p).sampleRate * 1000000000 : Nat))

/-- Symbols to a hop. -/
def Mode.hopSymbols (x : Mode) : Rat := hopLen / x.period

/-- The timing phase of hop `n` as the loop stands, in 1/65,536 symbol period (R108). -/
def State.timingPhase (s : State) (p : Port) (n : Nat) : Int :=
  let r := s.rx.get p
  r.trPhase + ((r.trRate : Rat) / 100000000 * (s.rxMode p).hopSymbols * ((n : Int) - r.trHop : Int)).floor

/-- The second-order loop takes in the phase error of hop `n`, critically damped (R108; log entry 89). -/
def State.timingLoop (s : State) (p : Port) (n : Nat) (err : Int) : State :=
  let w := s.trOmega p
  let next := max (s.rx.get p).trHop (n + 1)
  let phase := s.timingPhase p next + (2 * w * err).floor
  let rate := (s.rx.get p).trRate + (w * w * err * 100000000 / (s.rxMode p).hopSymbols).floor
  (s.onRx p fun r => { r with trPhase := phase, trRate := rate, trHop := next }).wrI (RXEQ.TR_EST_RATE_OFS p)
    (clampInt (-32768) 32767 (rate.ediv 65536))

/-- Timing lock from the RMS error of the hops (R108); in TIMING it moves the acquisition on (R88). -/
def State.timingLock (s : State) (p : Port) (rms : Nat) : State :=
  let t := s.rd (RXEQ.TR_CFG_TR_LOCK_THRESH p)
  let s := s.wr (RXEQ.TR_EST_RMS_ERR p) (min 65535 rms)
  let s := s.onRx p fun r => { r with lockRun := if rms ≤ t then r.lockRun + 1 else 0,
                                      unlockRun := if 2 * t < rms then r.unlockRun + 1 else 0 }
  let r := s.rx.get p
  if ¬ s.on (RXEQ.EQ_STATUS_TR_LOCK p) ∧ 16 ≤ r.lockRun then
    let s := ((s.wr (RXEQ.EQ_STATUS_TR_LOCK p) 1).raise (Ev.RXEQ.trLockSet p)).refPort p
    if s.acqSt p = acqTiming then s.toPreHunt p else s
  else if 16 ≤ r.unlockRun then s.clearTrLock p
  else s

/-- Stage E2 of a hop ends: its timing error goes to the loop and the lock. The loop rests before TIMING, and on a loss of signal
(R112, R117); a hop of an earlier count, and one that is erased, tells it nothing (log entry 89). -/
def State.timingHop (s : State) (p : Port) (h : Hop) : State :=
  let r := s.rx.get p
  if ¬ r.timingOn ∨ r.timingHeld ∨ h.erased ∨ h.base ≠ r.trBase then s
  else
    let e := h.timingError (s.timingPhase p h.num)
    (s.timingLoop p h.num e.1).timingLock p e.2

/-! ### The configuration of a symbol (R117) -/

/-- The configuration the demapper works in: that of an RXMOD eclosion it has reached ahead of the deframer, or the active
one. -/
def State.demapMode (s : State) (p : Port) : Mode :=
  match (s.rx.get p).newMode with
  | some m => if s.groupPending (4 + p.toNat) then m else s.rxMode p
  | none => s.rxMode p

/-- An RXMOD eclosion at AGREED without a change of the symbol rate takes effect with the symbol superframe that begins next: the
one after that of FC_RX (R117, R258; log entry 89). -/
def State.modeDue (s : State) (p : Port) : Bool :=
  s.on (HB_FRAME.FRM_STATUS_SYNC p) && decide ((s.rxModeStaged p).rateQ = (s.rxMode p).rateQ) &&
    s.ecl.any fun e => bitOf e.2.groups (4 + p.toNat) && decide (e.2.boundary = 3) && !e.2.late &&
      decide (e.2.at_ = ((s.frame.get p).fcRx / 256 + 1) % 65536)

/-- The configuration of the symbol superframe that begins next. -/
def State.nextMode (s : State) (p : Port) : Mode := if s.modeDue p then s.rxModeStaged p else s.demapMode p

/-- The configuration of symbol `k` of a hop: it changes only where a superframe begins (R117). -/
def State.symbolMode (s : State) (p : Port) (k : Nat) : Mode :=
  if (s.rx.get p).symPos + k < (s.demapMode p).superframeSymbols then s.demapMode p else s.nextMode p

/-! ### Carrier phase and frequency (R109, R110) -/

/-- What stages E4 and P1 make of a hop: the symbols of X and Y as the transmitter sent them, with the phases of their outputs. -/
structure Stitched where
  x : List Cplx
  y : List Cplx
  phX : List Int
  phY : List Int

/-- One output of the equaliser with its phase removed (R109). -/
def stitch (baseAt : Nat → Nat) (win : Nat) (prev : Int) (l : List Cplx) : List Cplx × List Int :=
  let ph := unwrapPhases prev (phaseSearch baseAt win l)
  (l.zipWith unphase ph, ph)

/-- The frequency that stage E4 removes, as a phase step per symbol in 2^−32 turns: Δf (R109). -/
def State.freqStep (s : State) (p : Port) : Int := (phaseStep (s.rx.get p).deltaF (s.rxMode p).rateQ).ediv 65536

/-- Derotation, phase search, unwrapping, and the hypothesis of R112, on the symbols of a hop in units of symbol power; `step` is
what its stage E4 removes. -/
def State.stitched (s : State) (p : Port) (step : Int) (symbols : List (List Int)) : Stitched :=
  let r := s.rx.get p
  let base := fun k => (s.symbolMode p k).base
  let grid := symbols.zipIdx.map fun e => onGrid (s.symbolMode p e.2).power64 e.1
  let out := fun i => derotate r.nco step (grid.map fun v => (v.getD i 0, v.getD (i + 1) 0))
  let a := stitch base (s.bpsWin p) r.phaseX (out 0)
  let b := stitch base (s.bpsWin p) r.phaseY (out 2)
  let hyp := applyHypothesis (s.on (RXEQ.EQ_STATUS_POL_SWAP p)) (s.rd (RXEQ.EQ_STATUS_ROT_X p)) (s.rd (RXEQ.EQ_STATUS_ROT_Y p))
  let z := a.1.zipWith hyp b.1
  ⟨z.map (·.1), z.map (·.2), a.2, b.2⟩

/-- The slope of an unwrapped phase over a hop in 1/256 turn: from its first symbol to its last. -/
def phaseRise (l : List Int) : Int := (l.getLast?).getD 0 - (l.head?).getD 0

/-- The frequency error that the phases of both outputs show, in 1/65,536 of 0.1 MHz: the mean of their slopes (R110). -/
def freqError (rateQ : Nat) (st : Stitched) : Int :=
  if st.phX.length < 2 then 0
  else ((phaseRise st.phX + phaseRise st.phY) * rateQ * 2500 * 128).ediv ((st.phX.length : Int) - 1)

/-- The gain of a first-order filter of bandwidth 10 kHz × 2^`FT_BW` over a hop: 1 less e to the −2π times that bandwidth times
the time of a hop (R110). `FT_BW` above 4 is read as 4. -/
def State.ftGain (s : State) (p : Port) : Rat :=
  let x := 2 * piRat * ((10000 * 2 ^ min 4 (s.rd (RXEQ.CR_CFG_FT_BW p)) * hopLen : Nat) /
    ((s.rxMode p).sampleRate * 1000000000 : Nat))
  1 - (expFix (-(x * 2 ^ 64).floor) : Rat) / 2 ^ 64

/-- Δf through the first-order filter, and its alarm run (R110); `step` is what the hop's stage E4 removed (R109). The error is
against that. -/
def State.trackFreq (s : State) (p : Port) (step : Int) (st : Stitched) : State :=
  let n := st.phX.length
  let gain := s.ftGain p
  let s := s.onRx p fun r =>
    { r with nco := unsigned 32 (r.nco + step * n), deltaF := r.deltaF + (gain * freqError (s.rxMode p).rateQ st).floor,
             phaseX := (st.phX.getLast?).getD r.phaseX, phaseY := (st.phY.getLast?).getD r.phaseY }
  let f := (s.rx.get p).deltaF.ediv 65536
  (s.wrI (RXEQ.CR_EST_DELTA_F p) (clampInt (-32768) 32767 f)).onRx p fun r =>
    { r with freqRun := if 2000 < f.natAbs then r.freqRun + 1 else 0 }

/-! ### Decision errors (R112, R114, R120) -/

/-- The decision-error energy of the symbols of a hop in 1/65,536 of the grid squared, and their energy on the same scale by
the mean power of their constellations. -/
def energies (modeAt : Nat → Mode) (l : List Cplx) : Nat × Nat :=
  l.zipIdx.foldl (fun a e =>
    let m := modeAt e.2
    (a.1 + errorEnergy m.base e.1, a.2 + 1024 * m.power64)) (0, 0)

/-- σ² of a polarisation in 1/65,536 of symbol power, as far as the field goes (R125). -/
def varField (v : Nat × Nat) : Nat := if v.2 = 0 then 0 else min 65535 (v.1 * 65536 / v.2)

/-- The electrical SNR is at least `q` quarters of a dB: of one polarisation, and of the linear mean of both (R111, R112,
R120). -/
def snrAtLeast (v : Nat × Nat) (q : Nat) : Bool := decide (0 < v.2) && ratioAtLeast v.2 v.1 q
def meanSnrAtLeast (x y : Nat × Nat) (q : Nat) : Bool := ratioAtLeast (x.2 * y.1 + y.2 * x.1) (2 * x.1 * y.1) q

/-- The energies of a hop enter the noise variance of the next, and the telemetry set (R114, R120). -/
def State.takeEnergies (s : State) (p : Port) (x y : Nat × Nat) : State :=
  let s := (s.wr (DEMAP.NOISE_VAR_VAR_X p) (varField x)).wr (DEMAP.NOISE_VAR_VAR_Y p) (varField y)
  s.onRx p fun r =>
    { r with varX := x, varY := y,
             tel := { r.tel with errX := r.tel.errX + x.1, errY := r.tel.errY + y.1, powX := r.tel.powX + x.2,
                                 powY := r.tel.powY + y.2 } }

/-- Convergence, divergence and the requests of a hop (R110 to R112). -/
def State.judgeHop (s : State) (p : Port) (x y : Nat × Nat) : State :=
  let conv := s.rd (RXEQ.EQ_CFG_CONV_THRESH p)
  let good := snrAtLeast x conv && snrAtLeast y conv && s.on (RXEQ.EQ_STATUS_TR_LOCK p)
  let low := !meanSnrAtLeast x y (s.rd (RXEQ.EQ_CFG_DIVERGE_THRESH p))
  let s := s.onRx p fun r =>
    { r with convRun := if good && decide (s.acqSt p = acqEqTrain) then r.convRun + 1 else 0,
             divergeRun := if low then r.divergeRun + 1 else 0 }
  let r := s.rx.get p
  if s.acqSt p = acqEqTrain then
    if 64 ≤ r.convRun then
      let s := (s.wr (RXEQ.EQ_STATUS_EQ_CONV p) 1).raise (Ev.RXEQ.converged p)
      (s.onRx p fun r => { r with zeroLlr := false }).acqMove p acqFrameWait
    else s
  else if 4 ≤ r.freqRun then s.reacquire p 1
  else if 1024 ≤ r.divergeRun then s.reacquire p 3
  else s

/-! ### The demapper (R113 to R116) -/

/-- The noise variance that a hop's LLRs are computed with (R113): σ² of the hop before and f_e × P_s, at least 1/65,536. -/
def hopVar (v : Nat × Nat) (erased : Nat) : Rat :=
  let sigma : Rat := if v.2 = 0 then 0 else (v.1 : Rat) / v.2
  max (1 / 65536) (sigma + (erased : Rat) / 32768)

/-- Soft demapping as it is set for a configuration (R114): `SCALE` 0 is read as 1. -/
def State.demapSet (s : State) (p : Port) (m : Mode) : DemapSet :=
  ⟨m, m.composition, s.on (DEMAP.DEMAP_CFG_PRIOR_EN p) && m.shaped, max 1 (s.rd (DEMAP.DEMAP_CFG_SCALE p))⟩

/-- Lanes of stages P1 and P2 whose symbols have zero LLRs: a fault left their work undone, or they are lost (R116, R26). -/
def State.zeroLanes (s : State) (p : Port) : List Nat :=
  let lost := fun (b : Block) => (List.range 8).filter fun l => (s.block b).quarantine.contains ((s.block b).unitAt l)
  ((s.rx.get p).zeroOnce ++ lost (.p1Lane p) ++ lost (.p2Lane p)).eraseDups

/-- Symbol `k` of a hop has zero LLRs: symbol k is worked on in lane k mod 8. -/
def zeroSymbol (all : Bool) (lanes : List Nat) (k : Nat) : Bool := all || lanes.contains (k % 8)

/-- The label bits of the symbols of a hop, period by period, each with whether it clamped. -/
def State.hopLlrs (s : State) (p : Port) (h : Hop) (all : Bool) (st : Stitched) : List (List (Llr × Bool)) :=
  let r := s.rx.get p
  let lanes := s.zeroLanes p
  let vx := hopVar r.varX h.erasedSamples
  let vy := hopVar r.varY h.erasedSamples
  (st.x.zip st.y).zipIdx.map fun e =>
    let m := s.symbolMode p e.2
    periodLlrs (s.demapSet p m) vx vy ((r.symPos + e.2) % m.superframeSymbols) (zeroSymbol all lanes e.2) e.1.1 e.1.2

/-- Symbol periods leave the demapper for the decoder pool while it holds the boundary (R142): those before the data block that
comes next are passed over, those before the boundary itself too, and the symbol count goes round with the superframe. -/
def State.pushLabels (s : State) (p : Port) (l : List (List Llr)) : State :=
  if ¬ s.on (FEC.SF_STATUS_SF_LOCK p) ∨ (s.rx.get p).marker.isSome then s
  else
    let len := (s.demapMode p).superframeSymbols
    let due := if s.modeDue p then some (s.rxModeStaged p) else (s.rx.get p).newMode
    s.onRx p fun r =>
      let pos := r.symPos + l.length
      { r with labels := r.labels ++ l.drop r.skip, skip := r.skip - l.length,
               symPos := if len ≤ pos then pos - len else pos, newMode := if len ≤ pos then due else r.newMode }

/-- The demapper puts out a hop (R112 to R116): zero LLRs until convergence, for an erased hop (log entry 34) and on a lane that
is lost. -/
def State.demapHop (s : State) (p : Port) (h : Hop) (st : Stitched) : State :=
  let all := h.erased || (s.rx.get p).zeroLlr
  let lanes := s.zeroLanes p
  let l := s.hopLlrs p h all st
  let zeros := ((List.range l.length).filter (zeroSymbol all lanes)).length
  let clamped := (l.map fun w => (w.filter (·.2)).length).sum
  let s := (s.raiseN (Ev.DEMAP.zeroLlr p) zeros).raiseN (Ev.DEMAP.saturated p) clamped
  (s.pushLabels p (l.map fun w => w.map (·.1))).onRx p fun r => { r with zeroOnce := [] }

/-! ### Hand-off -/

/-- The coefficient banks swap at a hop boundary where an update waits and none is held off (R105, R117). -/
def State.swapBanks (s : State) (p : Port) : State :=
  let r := s.rx.get p
  s.cond (r.mimoStandby && !r.mimoFrozen && !s.on (RXEQ.EQ_CFG_FREEZE_EQ p)) fun s => s.onRx p fun r =>
    { r with mimo := r.mimoNext, mimoNext := r.mimo, mimoStandby := false }

/-- The symbols of hop `n`: from the next one of the count to the last that falls before the hop's end, as the loop stands (R96,
R108). -/
def State.hopCount (s : State) (p : Port) (n : Nat) : Nat :=
  let r := s.rx.get p
  let e : Rat := ((n + 1 - r.trBase) * hopLen : Nat) / (s.rxMode p).period - (s.timingPhase p (n + 1) : Rat) / 65536
  (e.ceil - r.nextSym).toNat

/-- The hop that is handed off: its block with what it is worked on with (R80, R81, R96). -/
def State.newHop (s : State) (p : Port) (n cluster erased : Nat) (late : Bool) (block : List (List Int)) : Hop :=
  let r := s.rx.get p
  { num := n, cluster := cluster, late := late, erased := false, redo := false, acted := none, erasedSamples := erased,
    block := block, mode := s.rxMode p, carrier := s.rd (RXFE.CARRIER_FREQ_GHZ p), dHat := s.rdI (RXFE.CD_EST_D_HAT p),
    first := r.nextSym, count := s.hopCount p n, base := r.trBase, stage := 0, mimo := Mimo.identity, theta := 0, rate := 0,
    step := 0 }

/-- A hop whose E2 starts takes the bank that is current (R105). -/
def State.startE2 (s : State) (p : Port) (h : Hop) : State :=
  s.cond (decide (h.stage = 0) && decide (256 ≤ s.hopAge p h)) fun s =>
    s.markHop p h.num fun h => { h with stage := 1, mimo := (s.rx.get p).mimo }

/-- A hop whose E2 has ended gives its timing error (R108). -/
def State.endE2 (s : State) (p : Port) (h : Hop) : State :=
  s.cond (decide (h.stage = 1) && decide (512 ≤ s.hopAge p h)) fun s =>
    (s.markHop p h.num fun h => { h with stage := 2 }).timingHop p h

/-- A hop whose E4 starts takes the timing phase, the rate and Δf that are current (R108, R109). -/
def State.startE4 (s : State) (p : Port) (h : Hop) : State :=
  s.cond (decide (h.stage = 2) && decide (768 ≤ s.hopAge p h)) fun s =>
    s.markHop p h.num fun h =>
      { h with stage := 3, theta := s.timingPhase p h.num, rate := (s.rx.get p).trRate, step := s.freqStep p }

/-- At a hop boundary the hops in flight come to their next stages, oldest first. -/
def State.advanceHops (s : State) (p : Port) : State :=
  let go := fun (f : State → Hop → State) (s : State) => s.forEach (s.rx.get p).hops fun h s => f s h
  go (fun s h => s.startE4 p h) (go (fun s h => s.endE2 p h) (go (fun s h => s.startE2 p h) s))

/-- HOP_HANDOFF (R68, R79 to R84, R97, R100, R104, R105): the four converters' codes of a complete hop pass the front end, and the
hop goes to its lane's cluster; the banks swap, a rotation that is due is made, and the hops in flight move on. -/
def execHopHandoff (p : Port) (codes : List (List Byte)) (s : State) : Result :=
  s.clocked <|
  .next (
    if s.acqSt p = acqIdle then s
    else
      let before := (s.rx.get p).mimo
      let s := (s.frontHop p codes).swapBanks p
      let n := (s.rx.get p).nextHop
      let lane := n % 16
      let (s, c) := (s.eqRotateAt p n).takeHop p n
      let r := s.rx.get p
      let late := r.lateNext.contains lane || r.lateLanes.contains lane
      let e := s.erasedInstants p (hopCodes codes 0).length
      let front := s.frontStages p codes
      let hop := s.newHop p n c (r.lastErased + e) late (blockOf r.front.last front.last)
      let s := s.onRx p fun r =>
        { r with nextHop := n + 1, acting := r.acting.filter (· != c), lateNext := r.lateNext.filter (· != lane),
                 hops := r.hops ++ [hop], lastErased := e, front := front, nextSym := hop.first + hop.count,
                 tel := r.tel.takeHop hop.mode hop.carrier before r.mimo }
      (s.raiseIf late (Ev.RXEQ.hopLate p)).advanceHops p)

/-- COEF_UPDATE_DONE (R105): the update that the oldest hop's error terms give is written to the standby bank for the next hop
boundary: by the constant-modulus criterion, or decision-directed; a `MU` of 0 is read as 1 (R124). Adaptation that is frozen or
has not started leaves the coefficients. -/
def execCoefUpdateDone (p : Port) (s : State) : Result :=
  s.clocked <|
  .next (
    if s.on (RXEQ.EQ_CFG_FREEZE_EQ p) ∨ (s.rx.get p).mimoFrozen ∨ s.acqSt p < acqTiming then s
    else
      match s.coefHop p with
      | none => s
      | some h =>
        let dd := s.on (RXEQ.EQ_STATUS_DD_MODE p)
        let mu := max 1 (s.rd (if dd then RXEQ.EQ_CFG_MU_DD p else RXEQ.EQ_CFG_MU_CMA p))
        (s.coefTaken p).onRx p fun r =>
          { r with mimoNext := h.update mu (h.errors dd (s.bpsWin p)) r.mimo, mimoStandby := true })

/-! ### The hypothesis (R112) -/

/-- The last symbols of the preamble, `n` of them (R54). -/
def preambleTail (n : Nat) : List (List Int) := preamble.drop (preambleSymbols - n)

/-- The preamble's retained symbols are derotated by F̂ and their phase removed, and the best of the 32 hypotheses is applied from
the first payload symbol on (R112). -/
def State.resolve (s : State) (p : Port) : State :=
  let r := s.rx.get p
  let step := phaseStep (10 * s.rdI (RXFE.CFC_F_HAT p)) (s.rxMode p).rateQ
  let out := fun i => derotate 0 step (r.retained.map fun v => (v.getD i 0, v.getD (i + 1) 0))
  let x := out 0
  let y := out 2
  let win := s.bpsWin p
  let px := unwrapPhases 0 (phaseSearch (fun _ => 0) win x)
  let py := unwrapPhases 0 (phaseSearch (fun _ => 0) win y)
  let h := bestHypothesis (x.zipWith unphase px) (y.zipWith unphase py) (preambleTail r.retained.length)
  let s := (s.wr (RXEQ.EQ_STATUS_POL_SWAP p) (h / 16)).wr (RXEQ.EQ_STATUS_ROT_X p) (h / 4 % 4)
  let s := s.wr (RXEQ.EQ_STATUS_ROT_Y p) (h % 4)
  (s.onRx p fun r => { r with phaseX := (px.getLast?).getD 0, phaseY := (py.getLast?).getD 0, marker := none }).raise
    (Ev.DEMAP.hypothesis p)

/-- The last 8,192 equaliser outputs of the preamble (R112). -/
def State.retain (s : State) (p : Port) (symbols : List (List Int)) : State :=
  s.onRx p fun r => { r with retained := newest 8192 (r.retained ++ symbols.map (onGrid preamblePower64)) }

/-! ### Release -/

/-- Carrier tracking runs from EQ_TRAIN on, past the boundary (R112). -/
def State.tracking (s : State) (p : Port) : Bool := decide (acqEqTrain ≤ s.acqSt p) && (s.rx.get p).marker.isNone

/-- A hop's symbols before EQ_TRAIN: none of them is tracked (R112). -/
def plainStitch (symbols : List (List Int)) : Stitched :=
  ⟨symbols.map fun v => (v.getD 0 0, v.getD 1 0), symbols.map fun v => (v.getD 2 0, v.getD 3 0), [], []⟩

/-- Symbols of a hop that are not tracked leave: before the boundary those of the preamble are retained (R112). -/
def State.releasePlain (s : State) (p : Port) (h : Hop) (symbols : List (List Int)) : State :=
  let s := s.demapHop p h (plainStitch symbols)
  s.cond (decide (s.acqSt p = acqPreTrack) || (s.rx.get p).marker.isSome) fun s => s.retain p symbols

/-- Symbols of a hop that are tracked leave (R109 to R116). An erased hop moves no loop. -/
def State.releaseTracked (s : State) (p : Port) (h : Hop) (symbols : List (List Int)) : State :=
  let st := s.stitched p h.step symbols
  let at_ := s.symbolMode p
  let x := energies at_ st.x
  let y := energies at_ st.y
  let s := s.demapHop p h st
  if h.erased then s.onRx p fun r => { r with nco := unsigned 32 (r.nco + h.step * symbols.length) }
  else ((s.trackFreq p h.step st).takeEnergies p x y).judgeHop p x y

/-- Symbols of a hop that come before `left` samples from its start are over. -/
def Hop.before (h : Hop) (left : Nat) : Nat :=
  ((List.range h.count).filter fun j => decide (h.instant (h.first + j) < left)).length

/-- The symbols of a hop leave. After the end marker those before the superframe boundary are still the preamble's; past it the
hypothesis is resolved and tracking goes on (R112). -/
def State.releaseSymbols (s : State) (p : Port) (h : Hop) : State :=
  let l := h.symbols
  match (s.rx.get p).marker with
  | none => if s.tracking p then s.releaseTracked p h l else s.releasePlain p h l
  | some left =>
    let k := h.before left
    let s := s.releasePlain p h (l.take k)
    if hopLen ≤ left then s.onRx p fun r => { r with marker := some (left - hopLen) }
    else (s.resolve p).releaseTracked p h (l.drop k)

/-- HOP_RELEASE (R99, R102, R108 to R116): the oldest hop leaves at cycle 1,280, as data or as erasures. -/
def execHopRelease (p : Port) (s : State) : Result :=
  s.clocked <|
  .next (
    match (s.rx.get p).hops with
    | [] => s
    | h :: rest =>
      let s := s.onRx p fun r => { r with hops := rest, eraseMax := max r.eraseMax h.erasedSamples }
      ((s.freeHop p h).raiseIf h.erased (Ev.RXEQ.hopErased p)).releaseSymbols p h)

end Sys2Proof.Machine
end

