-- ==== Sys2Proof/Machine/Acq.lean ====
section
/-! DEFINITION. Receive acquisition: signal, dispersion scan, preamble, timeouts (R83 to R90). -/

namespace Sys2Proof.Machine

open F

/-- `RX_ENABLE` set (R88): loss of signal is judged afresh and a calibration run starts (log entry 35). While a region reset
is in progress the write is ignored (R118; log entry 90). -/
def State.rxEnableSet (s : State) (p : Port) : State :=
  if s.on (RXEQ.REGION_CTRL_RESET_BUSY p) then s
  else if s.acqSt p = acqIdle then
    if s.rxValid p then
      let s := s.wr (RXFE.RX_CTRL_RX_ENABLE p) 1
      let s := (s.wr (RXFE.NOISE_X_VALID p) 0).wr (RXFE.NOISE_Y_VALID p) 0
      let s := s.wr (RXFE.ACQ_STATUS_LOS p) 1
      let s := s.onRx p fun r => { r with lowRun := 0, highRun := 0, acqUs := 0, acqDefect := true, scanned := false }
      (s.calRequest p).acqMove p acqNoSignal
    else (s.wr (RXFE.RX_CTRL_RX_ENABLE p) 0).raise (Ev.RXFE.cfgRefused p)
  else s

/-- `RX_ENABLE` cleared (R88). -/
def State.rxEnableClear (s : State) (p : Port) : State :=
  if s.acqSt p = acqIdle then s.wr (RXFE.RX_CTRL_RX_ENABLE p) 0
  else (s.wr (RXFE.RX_CTRL_RX_ENABLE p) 0).toIdle p

/-- `FORCE_REACQ` written (R88). -/
def State.forceReacq (s : State) (p : Port) : State :=
  if s.acqSt p = acqIdle then s else (s.acqLost p).toCdScan p

/-- RX_ENABLE_SET (R88, R377). -/
def execRxEnableSet (r : Requester) (p : Port) (s : State) : Result :=
  .next (s.guarded r (33 + 8 * p.toNat) 0x040 fun s => (s.mbxEnableWrite r p).rxEnableSet p)

/-- RX_ENABLE_CLEAR (R88, R377). -/
def execRxEnableClear (r : Requester) (p : Port) (s : State) : Result :=
  .next (s.guarded r (33 + 8 * p.toNat) 0x040 fun s => (s.mbxEnableWrite r p).rxEnableClear p)

/-- Loss of signal declared (R85, R88). -/
def State.losDeclare (s : State) (p : Port) : State :=
  let s := (s.wr (RXFE.ACQ_STATUS_LOS p) 1).raise (Ev.RXFE.losDeclared p)
  ((s.skewSuspend p).acqLost p).toNoSignal p

/-- Loss of signal cleared (R85, R88). -/
def State.losClear (s : State) (p : Port) : State :=
  let s := ((s.wr (RXFE.ACQ_STATUS_LOS p) 0).raise (Ev.RXFE.losCleared p)).skewSuspend p
  if s.acqSt p = acqNoSignal then s.toCdScan p else s

/-- SIGNAL_POWER_INTERVAL (R85): one frame interval's input power of each polarisation, in 0.5 dB below full scale, and the
clock-tone metric at D̂; before any scan the best metric of the last scan stands for it. In IDLE nothing is judged and `LOS` keeps
its value, which the model chooses (log entry 114). -/
def execSignalPowerInterval (p : Port) (powX powY metric : Nat) (s : State) : Result :=
  s.clocked <|
  .next (
    if s.acqSt p = acqIdle then s
    else
      let low := decide (s.rd (RXFE.ACQ_CFG_SIG_THRESH p) < powX ∧ s.rd (RXFE.ACQ_CFG_SIG_THRESH p) < powY)
      let m := if (s.rx.get p).scanned then metric else (s.rx.get p).scanMetric
      let carrier := decide (s.rd (RXFE.ACQ_CFG_CARRIER_THRESH p) ≤ m)
      let out := decide (s.acqSt p ≠ acqAcquired)
      let s := s.onRx p fun r =>
        { r with lowRun := if low then r.lowRun + 1 else 0, highRun := if low then 0 else r.highRun + 1,
                 acqUs := if out then r.acqUs + 1 else r.acqUs, acqDefect := r.acqDefect || out,
                 metricHigh := r.metricHigh || carrier }
      let s := (s.wr (RXFE.CD_EST_METRIC p) metric).setCarrier p carrier
      if ¬ s.on (RXFE.ACQ_STATUS_LOS p) ∧ 10 ≤ (s.rx.get p).lowRun then s.losDeclare p
      else if s.on (RXFE.ACQ_STATUS_LOS p) ∧ 100 ≤ (s.rx.get p).highRun then s.losClear p
      else s)

/-- FORCE_REACQ (R88). -/
def execForceReacq (r : Requester) (p : Port) (s : State) : Result :=
  .next (s.guarded r (33 + 8 * p.toNat) 0x040 fun s => s.forceReacq p)

/-- The coarse candidates in 100 ps/nm: from C − H to C + H in steps of 200 ps/nm, none beyond ±W (R83). -/
def State.coarseCands (s : State) (p : Port) : List Int :=
  let c := s.rdI (RXFE.CD_SCAN_CENTRE p)
  let h := s.rd (RXFE.CD_SCAN_HALF p)
  ((List.range (h + 1)).map fun i => c - h + 2 * i).filter fun v => decide (v.natAbs ≤ s.rd (RXFE.CD_WINDOW_W p))

/-- The fine candidates in 10 ps/nm: 41 of them within ±200 ps/nm of the best coarse one (R83). -/
def fineCands (coarse : Int) : List Int := (List.range 41).map fun i => 10 * coarse - 20 + i

/-- The candidate with the largest metric, the first of several, with its metric; a candidate without a metric has 0. -/
def bestCand (cands : List Int) (metrics : List Nat) : Option (Int × Nat) :=
  (cands.zipIdx).foldl (fun b e =>
    let m := metrics.getD e.2 0
    match b with
    | none => some (e.1, m)
    | some x => if x.2 < m then some (e.1, m) else some x) none

/-- CD_SCAN_DONE (R83, R88): the metrics of the coarse candidates and of the fine candidates about the best of them. -/
def execCdScanDone (p : Port) (coarse fine : List Nat) (s : State) : Result :=
  s.clocked <|
  .next (
    if s.acqSt p = acqCdScan then
      let best := (bestCand (s.coarseCands p) coarse).getD (0, 0)
      let dHat := (bestCand (fineCands best.1) fine).getD (0, 0)
      let top := max best.2 dHat.2
      let s := s.onRx p fun r => { r with scanMetric := top, scanned := true }
      if s.rd (RXFE.ACQ_CFG_CARRIER_THRESH p) ≤ top then
        let s := (s.wrI (RXFE.CD_EST_D_HAT p) dHat.1).wr (RXFE.CD_EST_METRIC p) dHat.2
        (s.setCarrier p true).toTiming p
      else
        let s := (s.wr (RXFE.ACQ_STATUS_FAIL_CAUSE p) 1).setCarrier p false
        (s.raise (Ev.RXFE.noCarrier p)).acqMove p acqNoCarrier
    else s)

/-- Record a noise-floor tick (R86): discarded where the carrier metric reached its threshold during the tick. -/
def State.noiseTick (s : State) (p : Port) (x y : Int) : State :=
  if s.on (RXFE.NOISE_CFG_NOISE_EN p) ∧ ¬ s.on (RXFE.ACQ_STATUS_CARRIER p) ∧ ¬ (s.rx.get p).metricHigh ∧
      (s.acqSt p = acqNoSignal ∨ s.acqSt p = acqNoCarrier) then
    let s := ((s.wrI (RXFE.NOISE_X_PSD p) x).wr (RXFE.NOISE_X_VALID p) 1).wr (RXFE.NOISE_X_AGE p) 0
    let s := ((s.wrI (RXFE.NOISE_Y_PSD p) y).wr (RXFE.NOISE_Y_VALID p) 1).wr (RXFE.NOISE_Y_AGE p) 0
    (s.onRx p fun r => { r with noiseMs := 0 }).raise (Ev.RXFE.noiseFloor p)
  else s

/-- NO_CARRIER_RETRY (R88, R86): 1 ms in NO_CARRIER has passed. -/
def execNoCarrierRetry (p : Port) (noiseX noiseY : Int) (s : State) : Result :=
  s.clocked <|
  .next (if s.acqSt p = acqNoCarrier then (s.noiseTick p noiseX noiseY).toCdScan p else s)

/-- PREAMBLE_PEAK_DETECTED (R84, R88). -/
def execPreamblePeakDetected (p : Port) (quality : Nat) (s : State) : Result :=
  s.clocked <|
  .next (
    if s.acqSt p = acqPreHunt then
      ((s.wr (RXFE.CFC_QUALITY p) quality).onRx p fun r => { r with fHatEst := true }).acqMove p acqPreTrack
    else s)

/-- The superframe boundary goes to the demapper and the decoder: decoding starts with data block 1, past the seam and the pad
(R128, R142). -/
def State.takeBoundary (s : State) (p : Port) : State :=
  let s := (s.wr (FEC.SF_STATUS_SF_LOCK p) 1).onFec p FecState.cleared
  let s := s.onRx p fun r => { r with symPos := 0, skip := 4096 + (s.rxMode p).pad, labels := [], newMode := none }
  s.raise (Ev.FEC.boundaryTaken p)

/-- The samples from the oldest hop in flight on that come before the boundary at the equaliser's outputs (R112): those of the hops
in flight, and those of the hop that comes next up to the converter sample `before`, behind the delays of stage F3 and of the
compensating response (log entries 88, 89). -/
def State.markerAt (s : State) (p : Port) (before : Nat) : Nat :=
  (s.rx.get p).hops.length * hopLen + (before + skewBase) / (if (s.rxMode p).half then 2 else 1) + centreDelay

/-- END_MARKER_DETECTED (R84, R88, R112, R142): F̂ in MHz with its quality, and how many samples of the hop that is handed off next
come before the first after the end marker. F̂ is frozen and applied from that sample on; decision-directed adaptation and carrier
tracking start, the hypothesis following once the preamble's last symbols leave the equaliser. -/
def execEndMarkerDetected (p : Port) (fHat : Int) (quality before : Nat) (s : State) : Result :=
  s.clocked <|
  .next (
    if s.acqSt p = acqPreTrack then
      let s := s.onRx p fun r => { r with fHatEst := false }
      if fHat.natAbs ≤ 5000 then
        let s := (s.wrI (RXFE.CFC_F_HAT p) fHat).wr (RXFE.CFC_QUALITY p) quality
        let s := s.onRx p fun r =>
          { r with fHatOn := true, convRun := 0, marker := some (s.markerAt p before),
                   front := { r.front with shiftIn := before, phase := 0 } }
        ((s.takeBoundary p).wr (RXEQ.EQ_STATUS_DD_MODE p) 1).acqMove p acqEqTrain
      else
        let s := (s.raise (Ev.RXFE.fHatRange p)).wr (RXFE.ACQ_STATUS_FAIL_CAUSE p) 7
        s.toPreHunt p
    else s)

/-- ACQ_STATE_TIMEOUT (R89): the timer of a state from TIMING to FRAME_WAIT expires. -/
def execAcqStateTimeout (p : Port) (s : State) : Result :=
  s.clocked <|
  .next (
    let st := s.acqSt p
    if acqTiming ≤ st ∧ st ≤ acqFrameWait then
      ((s.wr (RXFE.ACQ_STATUS_FAIL_CAUSE p) (st - 2)).raise (Ev.RXFE.acqFailure p)).toCdScan p
    else s)

/-- The framer declares in-frame (R88): FRAME_WAIT ends in ACQUIRED. -/
def State.acquired (s : State) (p : Port) : State :=
  if s.acqSt p = acqFrameWait then
    let s := s.wr (RXFE.ACQ_STATUS_ACQ_TIME p) (min 65535 ((s.rx.get p).acqUs / 10))
    (s.acqMove p acqAcquired).raise (Ev.RXFE.acquired p)
  else s

/-- Loss of frame (R88): ACQUIRED goes back to CD_SCAN. -/
def State.acqFrameLoss (s : State) (p : Port) : State :=
  if s.acqSt p = acqAcquired then (s.acqLost p).toCdScan p else s

end Sys2Proof.Machine
end

