-- ==== Sys2Proof/Machine/Arb.lean ====
section
/-! DEFINITION. The lottery arbiters (R397 to R403). An access is over when the command that grants it ends (log entry 52). -/

namespace Sys2Proof.Machine

open F

/-- Requesters of an arbiter; 3 and 4 arbitrate the DMA channels (R397). -/
def arbRequesters (a : Nat) : Nat := match a with | 0 | 2 => 4 | 1 => 6 | _ => 16

/-- The tickets of a requester (R397). -/
def State.tickets (s : State) (a q : Nat) : Nat :=
  if 3 ≤ a then s.rd (DMA_ENG.CH_CTRL_TICKETS q)
  else
    match q with
    | 0 => s.rd (MG_MEM.TICKETS_LO_T0 a)
    | 1 => s.rd (MG_MEM.TICKETS_LO_T1 a)
    | 2 => s.rd (MG_MEM.TICKETS_LO_T2 a)
    | 3 => s.rd (MG_MEM.TICKETS_LO_T3 a)
    | 4 => s.rd (MG_MEM.TICKETS_HI_T0 a)
    | _ => s.rd (MG_MEM.TICKETS_HI_T1 a)

/-- The first asker whose tickets exceed what remains of `r` (R398). -/
def lottery : List (Nat × Nat) → Nat → Option Nat
  | [], _ => none
  | (q, t) :: l, r => if r < t then some q else lottery l (r - t)

/-- Round-robin among askers without tickets: the first one after the last zero-ticket winner (R398). -/
def roundRobin (askers : List Nat) (last : Nat) : Option Nat :=
  match askers.find? fun q => decide (last < q + 1) with
  | some q => some q
  | none => askers.head?

/-- Release a parked grant (R399, R401, R403). -/
def State.unpark (s : State) (a : Nat) : State :=
  if s.on (MG_MEM.ARB_CFG_PARKED a) then (s.wr (MG_MEM.ARB_CFG_PARKED a) 0).wr (MG_MEM.ARB_CFG_OWNER a) 31 else s

/-- A DMA channel that halts releases its grant (R403). -/
def State.releaseGrant (s : State) (c : Nat) : State :=
  s.forEach [3, 4] fun a s => s.cond (decide (s.rd (MG_MEM.ARB_CFG_OWNER a) = c)) fun s => s.unpark a

/-- A grant parks on its owner after the access where no other requester asks, in native mode, for a requester with tickets
(R399, R400). -/
def State.park (s : State) (a q : Nat) (alone : Bool) : State :=
  if alone && !s.on (MG_MEM.ARB_CFG_MODE a) && decide (s.tickets a q ≠ 0) then
    (s.wr (MG_MEM.ARB_CFG_PARKED a) 1).wr (MG_MEM.ARB_CFG_OWNER a) q
  else (s.wr (MG_MEM.ARB_CFG_PARKED a) 0).wr (MG_MEM.ARB_CFG_OWNER a) 31

/-- Hints of 32 or more sent to the losers of a draw (R402, R411). -/
def longHints (tickets : List (Nat × Nat)) (winner len : Nat) : Nat :=
  let some_ := tickets.any fun e => decide (e.2 ≠ 0)
  (tickets.filter fun e => decide (e.1 ≠ winner) &&
    decide (32 ≤ (if e.2 = 0 ∧ some_ then 255 else min 255 (len + 1)))).length

/-- One access at an arbiter among the askers, in ticket order, as many MCLK long as `len` gives for the winner: the winner,
none where the arbiter is frozen or nobody asks (R398 to R402). -/
def State.draw (s : State) (a : Nat) (askers : List Nat) (len : Nat → Nat) : State × Option Nat :=
  let alone := decide (askers.length = 1)
  if askers.isEmpty || s.on (MG_MEM.ARB_CFG_FREEZE a) then (s, none)
  else if s.on (MG_MEM.ARB_CFG_PARKED a) && alone && decide (askers.head? = some (s.rd (MG_MEM.ARB_CFG_OWNER a))) then
    (s.count 4 (0x504 + 0x10 * a) 1, askers.head?)
  else
    let v := lfsrSteps 32 (s.rd (MG_MEM.ARB_SEED_STATE a))
    let ts := askers.map fun q => (q, s.tickets a q)
    let total := (ts.map (·.2)).sum
    let s := (s.wr (MG_MEM.ARB_SEED_STATE a) v).count 4 (0x500 + 0x10 * a) 1
    let w := if total = 0 then roundRobin askers (Tab.get 0 s.mem.lastZero a) else lottery ts (v * total / 2 ^ 32)
    match w with
    | none => (s, none)
    | some q =>
      let s := s.cond (decide (total = 0)) fun s => { s with mem := { s.mem with lastZero := Tab.set 0 s.mem.lastZero a (q + 1) } }
      let s := s.count 4 (0x508 + 0x10 * a) (longHints ts q (len q))
      (s.park a q alone, some q)

/-- A ticket field has been written: a grant parked on a requester whose tickets are now 0 is released (R403). -/
def State.ticketsWritten (s : State) (a : Nat) : State :=
  if s.on (MG_MEM.ARB_CFG_PARKED a) && decide (s.tickets a (s.rd (MG_MEM.ARB_CFG_OWNER a)) = 0) then s.unpark a else s

/-- `ARB_SEED` written: 0 is ignored (R398). -/
def State.arbSeedWrite (s : State) (a v : Nat) : State := if v = 0 then s else s.wr (MG_MEM.ARB_SEED_STATE a) v

/-- `MODE` written: a parked grant is released (R403). -/
def State.arbModeWrite (s : State) (a : Nat) (m : Bool) : State := (s.wrB (MG_MEM.ARB_CFG_MODE a) m).unpark a

/-- `FREEZE` set or cleared (R401). -/
def State.arbFreezeWrite (s : State) (a : Nat) (b : Bool) : State :=
  let s := s.wrB (MG_MEM.ARB_CFG_FREEZE a) b
  s.cond b fun s => s.unpark a

/-- ARB_SEED (R398). -/
def execArbSeed (r : Requester) (a : Fin 5) (value : Word) (s : State) : Result :=
  .next (s.guarded r 4 (0x044 + 0x10 * a.val) fun s => s.arbSeedWrite a.val value.toNat)

/-- ARB_MODE (R403). -/
def execArbMode (r : Requester) (a : Fin 5) (mode : Bool) (s : State) : Result :=
  .next (s.guarded r 4 (0x040 + 0x10 * a.val) fun s => s.arbModeWrite a.val mode)

/-- ARB_FREEZE (R401). -/
def execArbFreeze (r : Requester) (a : Fin 5) (s : State) : Result :=
  .next (s.guarded r 4 (0x040 + 0x10 * a.val) fun s => s.arbFreezeWrite a.val true)

/-- ARB_FREEZE_EXPIRY (R401): 65,536 MCLK after FREEZE was set. -/
def execArbFreezeExpiry (a : Fin 5) (s : State) : Result :=
  .next (
    if s.on (MG_MEM.ARB_CFG_FREEZE a.val) then (s.wr (MG_MEM.ARB_CFG_FREEZE a.val) 0).raise (Ev.MG_MEM.freezeExpired a.val)
    else s)

end Sys2Proof.Machine
end

