-- ==== Sys2Proof/Machine/Commit.lean ====
section
/-! DEFINITION. Eclosion requests and commits (R479 to R483). -/

namespace Sys2Proof.Machine

open F

/-- Boundary codes (R480). -/
def bndImmediate : Nat := 0
def bndFrame : Nat := 1
def bndAgreed : Nat := 3

/-- A group permits a boundary in its present state (R480). -/
def State.permits (s : State) (g b : Nat) : Bool :=
  let p := Port.ofBit g
  match g / 2 with
  | 0 => if b = bndImmediate then decide (s.txSt p = txDark) else decide (b = bndAgreed ∧ s.txSt p ≠ txDark)
  | 1 | 3 => decide (b = bndFrame)
  | 2 =>
    if b = bndImmediate then decide (s.acqSt p ≠ acqAcquired)
    else decide (b = bndAgreed ∧ s.acqSt p = acqAcquired) && s.on (HB_FRAME.FRM_STATUS_SYNC p)
  | _ => decide (b = bndImmediate)

/-- A page of the group reports `STAGED_VALID` = 0 (R60, R91, R123). -/
def State.stagedInvalid (s : State) (g : Nat) : Bool :=
  let p := Port.ofBit g
  match g / 2 with
  | 0 => !s.txStagedValid p
  | 2 => !(s.rxStagedValid p && s.demapStagedValid p)
  | 3 => !s.rxStagedValid p
  | _ => false

/-- The frame counter that an AGREED request of a group follows: FC_RX for RXMOD (R258, R480). -/
def State.agreedFc (s : State) (g : Nat) : Nat :=
  let f := s.frame.get (Port.ofBit g)
  if g / 2 = 2 then f.fcRx else f.fcTx

/-- AT lies 2 to 32,768 superframes ahead (R481). -/
def atInRange (at_ fc : Nat) : Bool := let d := (at_ + 65536 - fc / 256 % 65536) % 65536; decide (2 ≤ d ∧ d ≤ 32768)

/-- The refusal code of a request; 0 where it is accepted (R481, R482). -/
def State.eclosionCode (s : State) (page groups b at_ : Nat) : Nat :=
  let gs := groupList groups
  let ok := gs.filter fun g => s.permits g b
  if gs.isEmpty then 3
  else if ok.length < gs.length ∧ ¬ ok.isEmpty then 1
  else if ok.isEmpty then 2
  else if gs.any fun g => !bitOf (pageGroups page) g then 3
  else if gs.any fun g => s.groupPending g then 4
  else if gs.any fun g => s.stagedInvalid g then 5
  else if b = bndAgreed ∧ gs.any fun g => !atInRange at_ (s.agreedFc g) then 6
  else 0

/-- A request for the eclosion of groups of a page (R481). -/
def State.requestEclosion (s : State) (page groups b at_ : Nat) : State :=
  let s := (s.wr (HDR.STAGE_STATUS_DONE page) 0).wr (HDR.STAGE_STATUS_EARLY page) 0
  let c := s.eclosionCode page groups b at_
  let s := s.wr (HDR.STAGE_STATUS_RESULT page) c
  if c = 0 then
    let was := s.ecl.map fun e => (e.1, { e.2 with older := e.2.older || decide (eclPage e.1 = page) })
    { s with ecl := Tab.insert was (eclKey page groups) ⟨groups, b, at_, false, false⟩ }.wr (HDR.STAGE_STATUS_PENDING page) 1
  else s.raise Ev.MG_ID.refused

/-- `CANCEL` (R483): what the page has pending ends. -/
def State.cancelEclosion (s : State) (page : Nat) : State := (s.endRequest page 7).endRequest (page + 64) 7

/-- A write to `STAGE_CTRL`: its fields, then CANCEL, then GO (R471, R481). -/
def State.stageCtrl (s : State) (page groups b at_ : Nat) (go cancel : Bool) : State :=
  let s := ((s.wr (HDR.STAGE_CTRL_GROUPS page) groups).wr (HDR.STAGE_CTRL_BOUNDARY page) b).wr (HDR.STAGE_CTRL_AT page) at_
  let s := s.cond cancel fun s => s.cancelEclosion page
  s.cond go fun s => s.requestEclosion page groups b at_

/-- The next frame of the counter that a request follows is the one it commits at (R481, R483); a request marked late
commits at the next frame start, and one for pages clocked by CCLK waits while RCLK is stopped. -/
def State.commitDue (s : State) (key : Nat) (e : EclReq) : Bool :=
  if rclkPage (eclPage key) && s.rclkStopped then false
  else if e.boundary ≠ bndAgreed ∨ e.late then true
  else (groupList e.groups).all fun g =>
    let next := (s.agreedFc g + 1) % 2 ^ 48
    decide (next % 256 = 0 ∧ next / 256 % 65536 = e.at_) && (decide (g / 2 ≠ 2) || s.on (HB_FRAME.FRM_STATUS_SYNC (Port.ofBit g)))

/-- ECLOSION_REQUEST (R481): a `STAGE_CTRL` write with GO. -/
def execEclosionRequest (r : Requester) (page : Fin 47) (groups : BitVec 10) (b : BitVec 3) (at_ : BitVec 16) (cancel : Bool)
    (s : State) : Result :=
  .next (s.guarded r page.val 0x020 fun s =>
    (s.mbxStageWrite r page.val).stageCtrl page.val groups.toNat b.toNat at_.toNat true cancel)

/-- ECLOSION_CANCEL (R483). -/
def execEclosionCancel (r : Requester) (page : Fin 47) (s : State) : Result :=
  .next (s.guarded r page.val 0x020 fun s => (s.mbxStageWrite r page.val).cancelEclosion page.val)

/-- The commit of a kept request whose instant has come. -/
def State.commitAt (s : State) (key : Nat) : State :=
  match s.ecl.find? fun e => e.1 = key with
  | some (_, e) => if s.commitDue key e then s.commit key e e.late else s
  | none => s

/-- ECLOSION_COMMIT (R481): the commit instant of what a page has pending. -/
def execEclosionCommit (page : Fin 47) (s : State) : Result :=
  .next ((s.commitAt page.val).commitAt (page.val + 64))

end Sys2Proof.Machine
end

