-- ==== Sys2Proof/Machine/Slots.lean ====
section
/-! DEFINITION. The tables of the hub: flow contexts, the VLAN map, channels, slot tables and their banks, the crypto
channel table; slot maps, swap checks and table writes (R169, R208, R217 to R220, R230, R234, R264, R307). -/

namespace Sys2Proof.Machine

open F

/-- A channel is named by an add or drop entry of a bank in force of either port (R220, R307). -/
def State.chInForce (s : State) (ch : Nat) : Bool :=
  [Port.E, Port.W].any fun p => (List.range 96).any fun i =>
    let t := s.txEntry (s.txBank p) p i
    let r := s.rxEntry (s.rxBank p) p i
    decide ((t.kind = 1 ∧ t.ch = ch) ∨ (r.kind = 1 ∧ r.ch = ch))

/-- A lookup that meets a check error: counted, with table and index recorded (R208). -/
def State.checkError (s : State) (table index : Nat) : State :=
  ((s.wr HB_FLOW.CHK_ERR_TABLE table).wr HB_FLOW.CHK_ERR_INDEX index).raise Ev.HB_FLOW.tableCheck

/-- A side, 2 × port + (1 for receive), has taken its standby bank: the bank in force is the one that was loaded last (R253). -/
def State.sideSwapped (s : State) (k : Nat) : State :=
  { s with prot := { s.prot with away := s.prot.away.filter (· ≠ k) } }

/-! ### Swap requests (R218) -/

def State.swapSt (s : State) (p : Port) : Nat :=
  match p with | .E => s.rd HB_SLOT.SWAP_STATUS_STATE_E | .W => s.rd HB_SLOT.SWAP_STATUS_STATE_W
def State.setSwapSt (s : State) (p : Port) (v : Nat) : State :=
  match p with | .E => s.wr HB_SLOT.SWAP_STATUS_STATE_E v | .W => s.wr HB_SLOT.SWAP_STATUS_STATE_W v
def State.setRefuse (s : State) (p : Port) (v : Nat) : State :=
  match p with | .E => s.wr HB_SLOT.SWAP_STATUS_REFUSE_E v | .W => s.wr HB_SLOT.SWAP_STATUS_REFUSE_W v

/-- Channels that add or drop entries of a bank name. -/
def entryChannels (l : List SlotEntry) : List Nat := distinct ((l.filter fun e => e.kind = 1).map (·.ch))

/-- Cause 3: one LCH maps to more than one channel, or mixes add and transit (R218). -/
def lchConflict (l : List SlotEntry) : Bool :=
  l.any fun a => l.any fun b => decide (a.kind ≠ 0 ∧ b.kind ≠ 0 ∧ a.lch = b.lch ∧
    (a.kind ≠ b.kind ∨ (a.kind = 1 ∧ a.ch ≠ b.ch)))

/-- Receive LCHs: more than one channel under one number. -/
def lchDropConflict (l : List SlotEntry) : Bool :=
  l.any fun a => l.any fun b => decide (a.kind = 1 ∧ b.kind = 1 ∧ a.lch = b.lch ∧ a.ch ≠ b.ch)

/-- Standby entries of a port, KIND 3 as 0 (R217), and transit as unused outside RING mode (R234). -/
def State.standby (s : State) (tx : Bool) (p : Port) : List SlotEntry :=
  (List.range 96).map fun i =>
    match (if tx then s.txSlotWord (1 - s.txBank p) p i else s.rxSlotWord (1 - s.rxBank p) p i) with
    | some w => s.effEntry (slotEntry w)
    | none => SlotEntry.none

/-- Entries of the banks of a port that cause 4 judges the other port against. -/
def State.comingEntries (s : State) (p : Port) : List SlotEntry :=
  (if s.swapSt p = 0 then (List.range 96).map fun i => s.txEntry (s.txBank p) p i else s.standby true p) ++
    (List.range 96).map fun i => s.rxEntry (s.rxBank p) p i

/-- Channels of the standby banks of a port. -/
def State.standbyChannels (s : State) (p : Port) : List Nat :=
  distinct (entryChannels (s.standby true p) ++ entryChannels (s.standby false p))

/-- The lowest failing cause of a swap request; 0 where it passes (R218). -/
def State.swapCause (s : State) (p : Port) : Nat :=
  let st := 1 - s.txBank p
  let sr := 1 - s.rxBank p
  let chs := s.standbyChannels p
  let other := entryChannels (s.comingEntries p.other)
  let sf := (s.frame.get p).fcTx / 256
  if (List.range 96).any fun i => (s.txSlotWord st p i).isNone || (s.rxSlotWord sr p i).isNone then 1
  else if chs.any fun c => !s.chanValid c then 2
  else if lchConflict (s.standby true p) || lchDropConflict (s.standby false p) then 3
  else if chs.any fun c => if s.chanConcat c then decide (s.ringMode ≠ 1) else other.contains c then 4
  else if s.swapSt p ≠ 0 ∨ (s.frame.get p).swapSf = some sf then 5
  else 0

/-- The standby slot-table entries of a port that were never written, by table index (R208). -/
def State.unwrittenSlots (s : State) (p : Port) : List Nat :=
  (List.range 96).flatMap fun i =>
    (if (s.txSlotWord (1 - s.txBank p) p i).isNone then [slotIndex (1 - s.txBank p) p i] else []) ++
      (if (s.rxSlotWord (1 - s.rxBank p) p i).isNone then [slotIndex (1 - s.rxBank p) p i] else [])

/-- A transmit swap request of a port (R218): the lookups of slots and channels never written are counted as check errors (R208;
log entry 97). -/
def State.swapRequest (s : State) (p : Port) : State :=
  let s' := s.forEach (s.unwrittenSlots p) fun i s => s.checkError 2 i
  let s' := s'.forEach ((s.standbyChannels p).filter fun c => (s.chanWord c).isNone) fun c s => s.checkError 3 c
  let cause := s.swapCause p
  if cause = 0 then
    ((s'.setSwapSt p 1).setRefuse p 0).onFrame p fun f => { f with swapReq := f.fcTx }
  else (s'.setRefuse p cause).raise Ev.HB_SLOT.swapRefused

/-- SWAP_REQUEST (R218). -/
def execSwapRequest (r : Requester) (reqE reqW : Bool) (s : State) : Result :=
  .next (s.guarded r 23 0x040 fun s => (s.cond reqE fun s => s.swapRequest .E).cond reqW fun s => s.swapRequest .W)

/-! ### Table writes (R208, R217, R220, R307, R384, R468) -/

/-- Write the enabled bytes of a word. -/
def State.writeBytes (s : State) (off : Nat) (data : Nat) (be : Nat) : State :=
  { s with bar2 := [0, 1, 2, 3].foldl (fun m i =>
      if bitOf be i then Memory.write m (off + i) (BitVec.ofNat 8 (data / 256 ^ i)) else m) s.bar2 }

/-- A write to a word of the BAR2 windows: the enabled bytes are updated, or the write is dropped with a lock violation
where it names an entry in force (R217, R220, R307), or ignored where the word is read-only or reserved (R467). -/
def State.tableWrite (s : State) (r : Requester) (off data be : Nat) : State :=
  let off := off / 4 * 4
  if off < vlanWin then s.writeBytes off data be
  else if off < chanWin then s.writeBytes off data be
  else if off < chanWin + 4 * 192 then
    let ch := (off - chanWin) / 4
    if s.chInForce ch then s.lockViol r 22 2 ch else s.writeBytes off data be
  else if txSlotWin ≤ off ∧ off < txSlotWin + 4 * 384 then
    let i := (off - txSlotWin) / 4
    if i / 192 = s.txBank (Port.ofBit (i / 96)) then s.lockViol r 23 2 i else s.writeBytes off data be
  else if rxSlotWin ≤ off ∧ off < rxSlotWin + 4 * 384 then
    let i := (off - rxSlotWin) / 4
    if i / 192 = s.rxBank (Port.ofBit (i / 96)) then s.lockViol r 23 2 i else s.writeBytes off data be
  else if cryptoWin ≤ off ∧ off < cryptoWin + 32 * 192 then
    let ch := (off - cryptoWin) / 32
    if (off - cryptoWin) % 32 ≠ 0 then s
    else if s.chInForce ch ∧ be % 2 = 1 then s.lockViol r 30 2 ch
    else s.writeBytes off data be
  else if descWin ≤ off ∧ off < descWin + 32768 then
    let ch := (off - descWin) / 2048
    -- the descriptor memory of the reserved channels (R383, R478)
    if (ch = 14 ∨ ch = 15) ∧ r = .pcie then s.lockViol r 6 6 ((off - descWin) / 32) else s.writeBytes off data be
  else if flowCntWin ≤ off ∧ off < flowCntWin + 0x100000 then
    -- a write of 1 to bit 48 clears WRAPPED (R445)
    let i := (off - flowCntWin) / 8
    if (off - flowCntWin) % 8 = 4 ∧ bitOf be 2 ∧ bitOf data 16 then
      { s with flowCnt := Tab.set 0 s.flowCnt i (Tab.get 0 s.flowCnt i % 2 ^ 48) }
    else s
  else s

/-- TABLE_ENTRY_WRITE (R208): a write of a word of a BAR2 window with its byte enables. -/
def execTableEntryWrite (r : Requester) (off : Fin 4194304) (data : Word) (be : BitVec 4) (s : State) : Result :=
  .next (if r = .smbus ∨ s.clock.stopped then s else s.tableWrite r off.val data.toNat be.toNat)

end Sys2Proof.Machine
end

