-- ==== Sys2Proof/Machine/Buffer.lean ====
section
/-! DEFINITION. The hub packet buffer: clients and their lanes, headroom, cells taken and given back, PFC and credits (R191,
R200, R221 to R224). -/

namespace Sys2Proof.Machine

open F

/-! ### Clients and lanes (R187, R191) -/

def State.hostLane (s : State) (n : Nat) : LaneState := Tab.get LaneState.init s.lane n
def State.onLane (s : State) (n : Nat) (f : LaneState → LaneState) : State := { s with lane := Tab.upd LaneState.init s.lane n f }
def State.clientOf (s : State) (k : Nat) : ClientState := Tab.get ClientState.init s.client k
def State.onClient (s : State) (k : Nat) (f : ClientState → ClientState) : State :=
  { s with client := Tab.upd ClientState.init s.client k f }

/-- A client is an Ianen lane (R187). -/
def State.clientIanen (s : State) (k : Nat) : Bool := decide (s.laneMode k = 2)

/-- Lanes of an Ethernet rate; its rate in Gb/s (R191). -/
def rateLanes (rate : Nat) : Nat := match rate with | 1 | 2 => 1 | 3 => 2 | 4 => 4 | 5 => 8 | _ => 0
def rateGbps (rate : Nat) : Nat := match rate with | 1 => 100 | 2 => 200 | 3 => 400 | 4 => 800 | 5 => 1600 | _ => 0

/-- The lanes that the rate of an Ethernet client asks for at its first lane; 0 where the lane is in another mode (R187). -/
def State.wideAt (s : State) (k : Nat) : Nat := if s.laneMode k = 1 then rateLanes (s.rd (HL_CLIENT.CLIENT_CFG_RATE k)) else 0

/-- A lane lies within a wider client that starts at a lower lane: its own block is not used (R191, R227). -/
def State.coveredLane (s : State) (k : Nat) : Bool :=
  [2, 4, 8].any fun n => decide (k % n ≠ 0) && decide (s.wideAt (k - k % n) = n)

/-- The lanes of a client: an Ianen lane alone; from its first lane on the lanes in Ethernet mode that its rate takes (R187,
R191). -/
def State.clientLanes (s : State) (k : Nat) : List Nat :=
  if s.clientIanen k then [k]
  else
    let n := s.wideAt k
    if n ≠ 0 ∧ k % n = 0 ∧ ¬ s.coveredLane k then (List.range 24).filter fun i => decide (k ≤ i ∧ i < k + n ∧ s.laneMode i = 1)
    else []

/-- The client that a lane belongs to. -/
def State.laneClient (s : State) (n : Nat) : Option Nat := (List.range 24).find? fun k => (s.clientLanes k).contains n

/-- All the lanes that the client's rate takes are in its mode (R191): a rate with fewer lanes makes no client. -/
def State.clientWhole (s : State) (k : Nat) : Bool :=
  s.clientIanen k || (!(s.clientLanes k).isEmpty && decide ((s.clientLanes k).length = s.wideAt k))

/-- A client has an enabled lane. -/
def State.clientOn (s : State) (k : Nat) : Bool := (s.clientLanes k).any s.laneOn

/-- `MAX_FRAME`, 64 to 16,000 (R227). -/
def State.maxFrame (s : State) (k : Nat) : Nat := max 64 (min 16000 (s.rd (HL_CLIENT.CLIENT_CFG_MAX_FRAME k)))

/-- Classes in `FC_EN`. -/
def State.fcClasses (s : State) (k : Nat) : Nat := ((List.range 8).filter fun c => bitOf (s.rd (HL_CLIENT.FC_CFG_FC_EN k)) c).length
def State.fcOn (s : State) (k c : Nat) : Bool := bitOf (s.rd (HL_CLIENT.FC_CFG_FC_EN k)) c

/-- Cells of a packet of `n` bytes. -/
def cellsOf (n : Nat) : Nat := (n + 255) / 256

/-- Headroom of a client (R221). -/
def State.headroom (s : State) (k : Nat) : Nat :=
  let l := s.fcClasses k
  if s.clientIanen k then s.rd (HL_CLIENT.FC_CRED_CRED_CELLS k) * l
  else if l = 0 then 0
  else
    let rtt := min 500 (s.rd (HL_CLIENT.FC_CFG_RTT k))
    let bits := rateGbps (s.rd (HL_CLIENT.CLIENT_CFG_RATE k)) * rtt * 10
    -- (bits / 8 + frames) / 256, rounded up
    (bits + 8 * ((l + 1) * (s.maxFrame k + 256)) + 2047) / 2048

/-- The headroom of the enabled clients, with that of one more client. -/
def State.totalHeadroom (s : State) (extra : Option Nat) : Nat :=
  (((List.range 24).filter fun k => s.clientOn k || extra == some k).map s.headroom).sum

def bufferCells : Nat := 12288

/-- The shared pool (R221). -/
def State.sharedPool (s : State) : Nat := bufferCells - s.totalHeadroom none - s.rd HB_BUF.BUF_CFG_DROP_RESERVE

/-- Free cells of the buffer. -/
def State.freeBuffer (s : State) : Nat := bufferCells - s.shared - s.headUsed - s.dropUsed

/-! ### Status and PFC (R222, R227) -/

/-- Offset of a client's own counters (R231). -/
def clientCnt (k j : Nat) : Nat := 0x400 + 0x20 * k + 4 * j

/-- Give a field of `CLIENT_STATUS` a value, with the event of a change (R231). -/
def State.setClientStatus (s : State) (k : Nat) (f : Field) (v : Nat) : State :=
  if s.rd f = v then s else (s.wr f v).raise (Ev.HL_CLIENT.statusChange k)

/-- Give fields of `LANE_STATUS`, or of `CLIENT_STATUS`, values at once, with one event of a change. -/
def State.setBits (s : State) (e : Evt) (l : List (Field × Nat)) : State :=
  if l.all fun x => decide (s.rd x.1 = x.2) then s else (s.forEach l fun x s => s.wr x.1 x.2).raise e
def State.setLaneBits (s : State) (n : Nat) (l : List (Field × Nat)) : State := s.setBits (Ev.HL_LANE.statusChange n) l
def State.setClientBits (s : State) (k : Nat) (l : List (Field × Nat)) : State := s.setBits (Ev.HL_CLIENT.statusChange k) l

/-- Give a bit of `LANE_STATUS` a value, with the event of a change. -/
def State.setLaneStatus (s : State) (n : Nat) (f : Field) (v : Nat) : State :=
  if s.rd f = v then s else (s.wr f v).raise (Ev.HL_LANE.statusChange n)

/-- A client's transmitter sends packets: every lane of it is enabled (R189); on Ethernet there is no link fault (R192); on an
Ianen lane the far end receives (R200). -/
def State.clientSends (s : State) (k : Nat) : Bool :=
  s.clientWhole k && (s.clientLanes k).all s.laneOn &&
    (if s.clientIanen k then s.on (HL_LANE.LANE_STATUS_FAR_RX_OK k)
     else !s.on (HL_CLIENT.CLIENT_STATUS_LF k) && !s.on (HL_CLIENT.CLIENT_STATUS_RF k))

/-- The generator of one of a client's lanes replaces all of its traffic (R202). -/
def State.clientReplaced (s : State) (k : Nat) : Bool := (s.clientLanes k).any fun n => s.on (HL_LANE.PRBS_CFG_GEN_EN n)

/-- What an Ethernet client's transmitter sends between packets (R189, R192, R202): from `ENABLE` on the idle of its PCS, remote
fault for as long as there is local fault. -/
def State.ethStream (s : State) (k : Nat) : EthStream :=
  if s.clientIanen k || !s.clientWhole k || !(s.clientLanes k).all s.laneOn then .off
  else if s.clientReplaced k then .pattern
  else if s.on (HL_CLIENT.CLIENT_STATUS_LF k) then .remoteFault
  else .idle

/-- Put out the stream of a client where it has changed since state `s0`. -/
def State.ethNote (s0 s : State) (k : Nat) : State := s.cond (s.ethStream k != s0.ethStream k) fun s => s.emit (.ethernet k (s.ethStream k))

/-- Put out the streams of all clients that have changed since state `s0`. -/
def State.ethNotes (s0 s : State) : State := s.forEach (List.range 24) fun k s => s0.ethNote s k

/-- Note on which side of `OCC_N` the shared pool stands after a change of either (R231, R446). -/
def State.notePool (s : State) : State :=
  if s.rd HB_BUF.OCC_N_N < s.shared then { s with poolOver := true } else { s with poolUnder := true }

/-- Send a PFC frame for one class (R222), where the client's transmitter sends frames; a generator replaces it on the lanes
(R202). -/
def State.sendPfc (s : State) (k c quanta : Nat) : State :=
  s.cond (s.clientSends k) fun s =>
    let s := (s.cond (!s.clientReplaced k) fun s => s.emit (.pfc k (2 ^ c) quanta)).count 28 (clientCnt k 2) 1
    let f := HL_CLIENT.CLIENT_STATUS_XOFF_SENT k
    let s := s.setClientStatus k f (setBit (s.rd f) c (decide (quanta ≠ 0)))
    s.raiseIf (decide (quanta ≠ 0)) Ev.HB_BUF.xoffSent

/-- The receiver of an Ianen client grants `n` cells of a class anew, where they belong to a packet that came since the last
entry into FRAME_LOCK (R200). -/
def State.grant (s : State) (k c n era : Nat) : State :=
  s.cond (s.clientIanen k && s.fcOn k c && decide ((s.hostLane k).era = era)) fun s =>
    s.onLane k fun l => { l with credit := Tab.upd 0 l.credit c (· + n) }

/-- The hub has paused a class of a client. -/
def State.xoffOn (s : State) (k c : Nat) : Bool := bitOf (s.rd (HL_CLIENT.CLIENT_STATUS_XOFF_SENT k)) c

/-- Cells that an add packet gives back as it leaves the buffer: at XON the hub sends quanta 0 (R222); an Ianen packet's
cells are granted again where it came since the last entry into FRAME_LOCK (R200). -/
def State.freeCells (s : State) (k : Packet) : State :=
  let s := ({ s with shared := s.shared - k.shared, headUsed := s.headUsed - k.head }).notePool
  let s := s.onClient k.client fun c =>
    { c with shared := Tab.upd 0 c.shared k.tclass (· - k.shared), head := Tab.upd 0 c.head k.tclass (· - k.head) }
  let s := s.grant k.client k.tclass k.head k.era
  s.cond (s.xoffOn k.client k.tclass && decide (Tab.get 0 (s.clientOf k.client).shared k.tclass ≤ s.rd HB_BUF.PFC_THR_XON)) fun s =>
    s.sendPfc k.client k.tclass 0

/-- CR_COUNT of a class as a lane frame sent carries it (R197, R200). -/
def State.crCount (s : State) (n c : Nat) : Nat :=
  (s.rd (HL_CLIENT.FC_CRED_CRED_CELLS n) + Tab.get 0 (s.hostLane n).credit c) % 65536

end Sys2Proof.Machine
end

