-- ==== Sys2Proof/Machine/Stream.lean ====
section
/-! DEFINITION. The channel stream: 66-bit blocks, the scrambler, packets into blocks and blocks into packets (R195, R210
to R213), patterns (R201, R203). -/

namespace Sys2Proof.Machine

open F

/-! ### Scrambler x^58 + x^39 + 1 (R195) -/

/-- Scramble bits; the second part is the state left. -/
def scramble58 : Nat → List Bool → List Bool × Nat
  | st, [] => ([], st)
  | st, b :: t =>
    let o := b ^^ bitOf st 38 ^^ bitOf st 57
    let r := scramble58 ((st * 2 + bit o) % 2 ^ 58) t
    (o :: r.1, r.2)

/-- Descramble bits. -/
def descramble58 : Nat → List Bool → List Bool × Nat
  | st, [] => ([], st)
  | st, b :: t =>
    let o := b ^^ bitOf st 38 ^^ bitOf st 57
    let r := descramble58 ((st * 2 + bit b) % 2 ^ 58) t
    (o :: r.1, r.2)

/-! ### Blocks (R211) -/

/-- The octets of eight 7-bit control characters after the block type. -/
def controlOctets (c : Nat) : List Nat :=
  let v := (List.range 8).foldl (fun a i => a + c * 2 ^ (7 * i)) 0
  (List.range 7).map fun i => v / 256 ^ i % 256

def idleBlock : Block66 := ⟨true, 0x1E :: controlOctets 0⟩
def errorBlock : Block66 := ⟨true, 0x1E :: controlOctets 0x1E⟩

/-- The start block of a packet: the DROP_TAG in preamble octets 1 and 2, its top bits 0 (R211). -/
def startBlock (tag : Nat) : Block66 := ⟨true, [0x78, tag / 256 % 64, tag % 256, 0x55, 0x55, 0x55, 0x55, 0xD5]⟩

/-- The block types of terminate blocks with 0 to 7 data octets. -/
def termTypes : List Nat := [0x87, 0x99, 0xAA, 0xB4, 0xCC, 0xD2, 0xE1, 0xFF]

def terminateBlock (rest : List Nat) : Block66 :=
  ⟨true, (termTypes.getD rest.length 0x87 :: rest ++ List.replicate (7 - rest.length) 0)⟩

/-- The blocks of a packet: start, data, and terminate or an error block in its place (R211). -/
def packetBlocks (tag : Nat) (bytes : List Nat) (error : Bool) : List Block66 :=
  let n := bytes.length / 8
  startBlock tag :: ((chunks8 n bytes).map fun o => ⟨false, o⟩) ++
    [if error then errorBlock else terminateBlock (bytes.drop (8 * n))]
where
  /-- `n` groups of eight octets. -/
  chunks8 : Nat → List Nat → List (List Nat)
    | 0, _ => []
    | n + 1, l => l.take 8 :: chunks8 n (l.drop 8)

/-- The bits of octets in transmission order: the least significant bit of each octet first (Clause 82). -/
def octetBits (l : List Nat) : List Bool := l.flatMap fun o => (List.range 8).map fun i => bitOf o i

/-- The 66 bits of a block as sent, and the scrambler state left. -/
def encodeBlock (scr : Nat) (b : Block66) : List Bool × Nat :=
  let r := scramble58 scr (octetBits b.octets)
  ((if b.ctrl then [true, false] else [false, true]) ++ r.1, r.2)

/-- Encode blocks in order. -/
def encodeBlocks : Nat → List Block66 → List Bool × Nat
  | scr, [] => ([], scr)
  | scr, b :: t =>
    let r := encodeBlock scr b
    let q := encodeBlocks r.2 t
    (r.1 ++ q.1, q.2)

/-! ### Queues into the stream (R210) -/

/-- The highest non-empty class of a channel's queues, with its first packet. -/
def AddChan.nextPacket (a : AddChan) : Option (Nat × Packet) :=
  ([7, 6, 5, 4, 3, 2, 1, 0].filterMap fun c => ((Tab.get [] a.queues c).head?).map fun k => (c, k)).head?

/-- Make bits until `need` are there: packets by class, idle blocks where all queues are empty. Answers the packets that
left the queues too; the first argument bounds the steps. -/
def AddChan.pump : Nat → Nat → AddChan → AddChan × List Packet
  | 0, _, a => (a, [])
  | fuel + 1, need, a =>
    if need ≤ a.bits.length then (a, [])
    else
      match a.nextPacket with
      | some (c, k) =>
        let r := encodeBlocks a.scr (packetBlocks k.tag k.bytes k.error)
        let a := { a with bits := a.bits ++ r.1, scr := r.2,
                          queues := Tab.upd [] a.queues c (·.drop 1) }
        let q := AddChan.pump fuel need a
        (q.1, k :: q.2)
      | none =>
        let r := encodeBlock a.scr idleBlock
        AddChan.pump fuel need { a with bits := a.bits ++ r.1, scr := r.2 }

/-- Bytes from bits, the first bit most significant (R212). -/
def packBytes : Nat → List Bool → List Nat
  | 0, _ => []
  | n + 1, l => (l.take 8).foldl (fun a b => 2 * a + bit b) 0 :: packBytes n (l.drop 8)

/-- Take `n` bytes of the stream of a channel. -/
def AddChan.takeBytes (a : AddChan) (n : Nat) : AddChan × List Nat × List Packet :=
  let r := a.pump (n + 1) (8 * n)
  ({ r.1 with bits := r.1.bits.drop (8 * n) }, packBytes n r.1.bits, r.2)

/-- Deal bytes in row order to `k` slots: byte `r × k + o` is byte `r` of the unit of ordinal `o` (R212). -/
def dealUnits (k : Nat) (bytes : List Nat) : List (List Nat) :=
  (List.range k).map fun o => (bytes.zipIdx.filter fun e => e.2 % k = o).map (·.1)

/-- The bytes of units in row order. -/
def rowOrder : Nat → List (List Nat) → List Nat
  | 0, _ => []
  | n + 1, units => units.filterMap List.head? ++ rowOrder n (units.map List.tail)

/-! ### Patterns (R201, R203) -/

/-- One step of a pattern generator: 0 PRBS9, 1 PRBS13, 2 PRBS31, 3 the user pattern with bit 63 first. -/
def patternBit (pat user st : Nat) : Bool × Nat :=
  match pat with
  | 0 => let b := bitOf st 8 ^^ bitOf st 4; (b, (st * 2 + bit b) % 2 ^ 9)
  | 1 => let b := bitOf st 12 ^^ bitOf st 11 ^^ bitOf st 1 ^^ bitOf st 0; (b, (st * 2 + bit b) % 2 ^ 13)
  | 2 => let b := bitOf st 30 ^^ bitOf st 27; (b, (st * 2 + bit b) % 2 ^ 31)
  | _ => (bitOf user (63 - st % 64), (st + 1) % 64)

/-- The state a generator starts from: all ones, or bit 63 of the user pattern. -/
def patternSeed (pat : Nat) : Nat :=
  match pat with | 0 => 0x1FF | 1 => 0x1FFF | 2 => 0x7FFFFFFF | _ => 0

/-- `n` bits of a pattern. -/
def patternBits (pat user : Nat) : Nat → Nat → List Bool × Nat
  | 0, st => ([], st)
  | n + 1, st =>
    let b := patternBit pat user st
    let r := patternBits pat user n b.2
    (b.1 :: r.1, r.2)

/-- The bit a checker expects next out of what it has received: the recurrence of the pattern, or the bit 64 places
earlier. -/
def expectedBit (pat hist : Nat) : Bool :=
  match pat with
  | 0 => bitOf hist 8 ^^ bitOf hist 4
  | 1 => bitOf hist 12 ^^ bitOf hist 11 ^^ bitOf hist 1 ^^ bitOf hist 0
  | 2 => bitOf hist 30 ^^ bitOf hist 27
  | _ => bitOf hist 63

/-- A 64-bit word turned left by `n` places. -/
def rotate64 (w n : Nat) : Nat := (w * 2 ^ n + w / 2 ^ (64 - n)) % 2 ^ 64

/-- The bits last received are a stretch of the pattern: a shift register that is not all zeros, or the user pattern from one of its
bits on. -/
def onPattern (pat user hist : Nat) : Bool :=
  match pat with
  | 0 => decide (hist % 2 ^ 9 ≠ 0)
  | 1 => decide (hist % 2 ^ 13 ≠ 0)
  | 2 => decide (hist % 2 ^ 31 ≠ 0)
  | _ => (List.range 64).any fun n => rotate64 user n == hist

/-- One received bit at a checker (R201): it locks after 64 consecutive correct bits of the pattern, and while locked expects
the pattern whatever arrives. Answers the checker, its lock, and whether the bit was an error counted. -/
def ChTest.check (c : ChTest) (pat user : Nat) (locked b : Bool) : ChTest × Bool × Bool :=
  let e := expectedBit pat c.hist
  let ok := e == b
  if locked then
    let c := { c with hist := (c.hist * 2 + bit e) % 2 ^ 64, bits := c.bits + 1, errs := c.errs + bit !ok,
                      counted := c.counted + 1 }
    if 16 < c.errs then ({ c with run := 0, bits := 0, errs := 0 }, false, !ok)
    else if c.bits = 1024 then ({ c with bits := 0, errs := 0 }, true, !ok)
    else (c, true, !ok)
  else
    let c := { c with hist := (c.hist * 2 + bit b) % 2 ^ 64, run := if ok then c.run + 1 else 0 }
    if 64 ≤ c.run ∧ onPattern pat user c.hist then ({ c with bits := 0, errs := 0 }, true, false) else (c, false, false)

/-- What a checker makes of a stretch of bits: itself, its lock, the errors and the losses of lock to count, and the whole
units of 65,536 bits checked. -/
structure Checked where
  test : ChTest
  lock : Bool
  errs : Nat
  lost : Nat
  units : Nat

def ChTest.checkAll (c : ChTest) (pat user : Nat) (lock : Bool) (bits : List Bool) : Checked :=
  let r := bits.foldl (fun (a : Checked) b =>
    let q := a.test.check pat user a.lock b
    ⟨q.1, q.2.1, a.errs + bit q.2.2, a.lost + bit (a.lock && !q.2.1), 0⟩) ⟨c, lock, 0, 0, 0⟩
  { r with test := { r.test with gen := c.gen, counted := r.test.counted % 65536 }, units := r.test.counted / 65536 }

/-- The user pattern of the line ports (R228). -/
def State.chUser (s : State) : Nat := s.rd HB_SLOT.CH_USER_HI_PATTERN * 2 ^ 32 + s.rd HB_SLOT.CH_USER_LO_PATTERN

/-- Bits that a port's channel checker receives (R203): errors and bits checked are counted only while locked. -/
def State.checkBits (s : State) (p : Port) (bits : List Bool) : State :=
  let r := (s.chtest.get p).checkAll (s.rd (HB_SLOT.CHTEST_CHK_PAT p)) s.chUser (s.on (HB_SLOT.CHTEST_CHK_LOCK p)) bits
  let s := { s with chtest := s.chtest.upd p fun _ => r.test }.wrB (HB_SLOT.CHTEST_CHK_LOCK p) r.lock
  ((s.raiseN (Ev.HB_SLOT.patternErrors p) r.errs).raiseN (Ev.HB_SLOT.patternChecked p) r.units).raiseN
    (Ev.HB_SLOT.patternLost p) r.lost

/-! ### Blocks into packets (R213) -/

/-- Change the add side of a channel. -/
def State.addOf (s : State) (ch : Nat) : AddChan := Tab.get AddChan.init s.add ch
def State.onAdd (s : State) (ch : Nat) (f : AddChan → AddChan) : State := { s with add := Tab.upd AddChan.init s.add ch f }

/-- What a block says (R211): the start of a packet with its DROP_TAG, data, the end of a packet with its last octets; any
other block ends a packet in progress in error. -/
inductive BlockMeaning where
  | start (tag : Nat)
  | data (octets : List Nat)
  | last (octets : List Nat)
  | other
  deriving DecidableEq, Repr

/-- A block by its header bits and descrambled octets. -/
def blockMeaning (h0 h1 : Bool) (o : List Nat) : BlockMeaning :=
  if h0 == h1 then .other
  else if !h0 then .data o
  else if o.headD 0 = 0x78 then .start ((o.getD 1 0 * 256 + o.getD 2 0) % 2 ^ 14)
  else match termTypes.idxOf? (o.headD 0) with
    | some n => .last ((o.drop 1).take n)
    | none => .other

/-- Octets out of bits, the least significant bit of each first (Clause 82). -/
def bitsOctets (n : Nat) (l : List Bool) : List Nat :=
  (List.range n).map fun i => (List.range 8).foldl (fun a j => a + bit (l.getD (8 * i + j) false) * 2 ^ j) 0

/-- One block in lock (R211, R213): its header bits, its 64 payload bits, whether any bit is errored, and whether any was
discarded by a FAIL (R293): then a packet already started (`cut` of its tag) ends with an error block, another is discarded
whole. -/
def DropChan.block (d : DropChan) (h0 h1 : Bool) (payload : List Bool) (bad gone : Bool) (ss : Nat) (cut : Nat → Bool) : DropChan :=
  let r := descramble58 d.descr payload
  let d := { d with descr := r.2 }
  if gone then (match d.packet with | some x => if cut x.1 then d.endPacket true else { d with packet := none } | none => d) else
  let put := fun (d : DropChan) (l : List Nat) =>
    match d.packet with
    | some (tag, bytes, b, s0) => { d with packet := some (tag, bytes ++ l, b || bad, s0) }
    | none => d
  match blockMeaning h0 h1 (bitsOctets 8 r.1) with
  | .start tag => { d.endPacket true with packet := some (tag, [], bad, ss) }
  | .data o => put d o
  | .last o => (put d o).endPacket bad
  | .other => d.endPacket true

/-- Take blocks while 66 bits are there (R213): hunting bit by bit for 128 valid headers at one offset, and in lock
counting invalid headers by windows of 256 blocks. Answers the invalid headers and the losses of lock to count too; the
first argument bounds the steps. -/
def DropChan.take (cut : Nat → Bool) : Nat → Nat → DropChan → DropChan × Nat × Nat
  | 0, _, d => (d, 0, 0)
  | fuel + 1, ss, d =>
    if d.bits.length < 66 then (d, 0, 0)
    else
      let h0 := d.bits.getD 0 0 % 2 = 1
      let h1 := d.bits.getD 1 0 % 2 = 1
      let pay := (d.bits.drop 2).take 64
      let valid : Bool := decide h0 != decide h1
      if d.lock then
        let d1 := ({ d with bits := d.bits.drop 66 }).block (decide h0) (decide h1) (pay.map fun b => b % 2 = 1)
          (pay.any fun b => 2 ≤ b) ((d.bits.take 66).any fun b => 4 ≤ b) ss cut
        let inv := d1.invalid + bit !valid
        let win := d1.window + 1
        if 24 ≤ inv then
          let d1 := { d1.endPacket true with lock := false, validRun := 0, window := 0, invalid := 0 }
          let r := DropChan.take cut fuel ss d1
          (r.1, r.2.1 + bit !valid, r.2.2 + 1)
        else
          let d1 := { d1 with window := if win = 256 then 0 else win, invalid := if win = 256 then 0 else inv }
          let r := DropChan.take cut fuel ss d1
          (r.1, r.2.1 + bit !valid, r.2.2)
      else if valid then
        let q := descramble58 d.descr (pay.map fun b => b % 2 = 1)
        let run := d.validRun + 1
        let d1 := { d with bits := d.bits.drop 66, descr := q.2, validRun := run, lock := decide (run = 128), window := 0,
                           invalid := 0 }
        DropChan.take cut fuel ss d1
      else DropChan.take cut fuel ss { d with bits := d.bits.drop 1, validRun := 0 }

/-- Stream bytes reach the delineation of a channel (R213); a byte of 256 or more is errored, one of 512 or more discarded. -/
def State.delineate (s : State) (ch ss : Nat) (bytes : List Nat) (cut : Nat → Bool) : State :=
  let bits := bytes.flatMap fun b =>
    (List.range 8).map fun i => bit (bitOf (b % 256) (7 - i)) + (if 256 ≤ b then 2 else 0) + (if 512 ≤ b then 4 else 0)
  let d := s.dropOf ch
  let r := DropChan.take cut (d.bits.length + bits.length) ss { d with bits := d.bits ++ bits }
  let s := s.onDrop ch fun _ => r.1
  (s.count 23 (0x600 + 8 * ch) r.2.2).count 23 (0x604 + 8 * ch) r.2.1

end Sys2Proof.Machine
end

