-- ==== Sys2Proof/Machine/Egress.lean ====
section
/-! DEFINITION. Egress toward the clients: packets queued by class, PFC pauses and credits, what an Ianen lane sends next (R189, R192,
R194, R200, R207, R222, R224, R290). -/

namespace Sys2Proof.Machine

open F

/-- Preamble and SFD of an Ethernet frame (R194). -/
def ethPreamble : List Nat := List.replicate 7 0x55 ++ [0xD5]

/-- The blocks of a packet for an Ianen lane; the last of a packet of an enabled class carries what to add to S_c (R200). -/
def State.chargedBlocks (s : State) (k : Packet) : List (Block66 × Option (Nat × Nat)) :=
  let l := packetBlocks k.tag k.bytes k.error
  l.dropLast.map (fun b => (b, none)) ++
    l.getLast?.toList.map fun b => (b, if s.fcOn k.client k.tclass then some (k.tclass, cellsOf k.bytes.length) else none)

/-- A packet starts toward its client (R194, R195): an Ethernet one with preamble and SFD, at least 12 bytes behind the one
before it; an Ianen one as blocks of the lane frames that follow. A generator replaces it on the lanes (R202). -/
def State.sendPacket (s : State) (k : Packet) : State :=
  let ianen := s.clientIanen k.client
  let s := s.cond ianen fun s => s.onLane k.client fun l => { l with txq := l.txq ++ s.chargedBlocks k }
  let s := s.cond (!s.clientReplaced k.client) fun s =>
    s.emit (.packet k.client (if ianen then 0 else 12) (if ianen then k.bytes else ethPreamble ++ k.bytes) k.error)
  s.cond k.error fun s => s.count 28 (clientCnt k.client 6) 1

/-- Cells that a drop packet gives back. -/
def State.freeDrop (s : State) (k : Packet) : State :=
  ({ s with shared := s.shared - k.shared, dropUsed := s.dropUsed - k.head }).notePool

/-- The host has paused a class of a client. -/
def State.paused (s : State) (k c : Nat) : Bool := bitOf (s.rd (HL_CLIENT.CLIENT_STATUS_PAUSED k)) c

/-- Credit of an Ianen class allows a packet to start (R200): G_c is known, and a frame of `MAX_FRAME` fits. Classes not enabled
are sent without credit checks. -/
def State.creditOk (s : State) (k c : Nat) : Bool :=
  !s.fcOn k c ||
    (let g := Tab.get 0 (s.hostLane k).granted c
     let sent := Tab.get 0 (s.hostLane k).sent c
     decide (65536 ≤ g) && decide (cellsOf (s.maxFrame k) ≤ (g + 65536 - sent % 65536) % 65536))

/-- A verdict report waits for a client: it goes ahead of any packet not yet started (R290). -/
def State.reportWaits (s : State) (k : Nat) : Bool := s.drop.any fun e => e.2.reports.any fun v => v.client == k

/-- A packet of a class may start toward its client: an Ianen lane has none in progress and has the credit, the host has not paused
the class of an Ethernet client. -/
def State.mayStart (s : State) (k c : Nat) : Bool :=
  s.clientSends k && !s.reportWaits k &&
    (if s.clientIanen k then (s.hostLane k).txq.isEmpty && s.creditOk k c else !s.paused k c)

/-- A class of a client has a packet queued. -/
def State.waits (s : State) (k c : Nat) : Bool := (s.clientOf k).egress.any fun x => x.tclass == c

/-- Count the first queued packet of an Ianen class, once, where credit holds it (R200, R231). -/
def State.noteStall (s : State) (k c : Nat) : State :=
  if s.clientIanen k && s.waits k c && !s.creditOk k c && !(s.clientOf k).stalled.contains c then
    (s.onClient k fun cl => { cl with stalled := c :: cl.stalled }).count 28 (clientCnt k 7) 1
  else s

/-- Send the first queued packet of a class of a client. -/
def State.egressOne (s : State) (k c : Nat) : State :=
  match (s.clientOf k).egress.find? fun x => x.tclass == c with
  | none => s
  | some x =>
    let s := s.onClient k fun cl =>
      { cl with egress := cl.egress.eraseP fun y => y.tclass == c, stalled := cl.stalled.filter (· != c) }
    ((s.freeDrop x).sendPacket x).noteStall k c

/-- Send every queued packet of a class that may start; the first argument bounds them. -/
def State.egressAll : Nat → State → Nat → Nat → State
  | 0, s, _, _ => s
  | n + 1, s, k, c => if s.mayStart k c && s.waits k c then State.egressAll n (s.egressOne k c) k c else s

def State.flushEgress (s : State) (k c : Nat) : State := s.egressAll (s.clientOf k).egress.length k c

/-- Send what waits in every class of a client, the highest class first. -/
def State.flushClient (s : State) (k : Nat) : State := s.forEach [7, 6, 5, 4, 3, 2, 1, 0] fun c s => s.flushEgress k c

/-- Cells of a drop queue. -/
def State.dropQueue (s : State) (k c : Nat) : Nat :=
  (((s.clientOf k).egress.filter fun x => x.tclass == c).map fun x => cellsOf x.bytes.length).sum

/-- Add to a flow counter (R209, R445); a wrap is an event. -/
def State.flowCount (s : State) (f k n : Nat) : State :=
  let r := s.flowAdd (8 * f + k) n
  r.1.raiseIf r.2 Ev.HB_FLOW.flowWrapped

/-- A delivered packet goes to its client: at once, or into its drop queue (R207, R222, R224). -/
def State.deliver (s : State) (k : Packet) : State :=
  if s.mayStart k.client k.tclass && !s.waits k.client k.tclass then s.sendPacket k
  else
    let n := cellsOf k.bytes.length
    let fromReserve := min n (s.rd HB_BUF.BUF_CFG_DROP_RESERVE - s.dropUsed)
    let fromShared := n - fromReserve
    if s.rd HB_BUF.DROPQ_MAX_CELLS < s.dropQueue k.client k.tclass + n ∨ s.sharedPool < s.shared + fromShared then
      (s.flowCount k.flow 5 1).raise Ev.HB_BUF.dropDropped
    else
      let s := ({ s with dropUsed := s.dropUsed + fromReserve, shared := s.shared + fromShared }).notePool
      (s.onClient k.client fun c => { c with egress := c.egress ++ [{ k with shared := fromShared, head := fromReserve }] }).noteStall
        k.client k.tclass

/-- The next `m` data blocks of an Ianen lane (R195, R200): the packet in progress, whose cells are added to S_c when it ends, then
the packets that may start, the highest class first; else idle. -/
def State.laneBlocks : Nat → State → Nat → State × List Block66
  | 0, s, _ => (s, [])
  | m + 1, s, n =>
    let s := s.cond (s.hostLane n).txq.isEmpty fun s => s.flushClient n
    match (s.hostLane n).txq with
    | [] => let r := State.laneBlocks m s n; (r.1, idleBlock :: r.2)
    | (b, charge) :: t =>
      let s := s.onLane n fun l =>
        { l with txq := t, sent := match charge with | some (c, k) => Tab.upd 0 l.sent c fun v => (v + k) % 65536 | none => l.sent }
      let r := State.laneBlocks m s n
      (r.1, b :: r.2)

end Sys2Proof.Machine
end

