-- ==== Sys2Proof/Machine/Crypt.lean ====
section
/-! DEFINITION. The cipher stage: keys in use, units enciphered and deciphered, tags and verdicts, release (R268 to R297). -/

namespace Sys2Proof.Machine

open F

/-! ### Keys in use -/

def noSlot : Nat := 0x1FF

def State.keySlot (s : State) (n : Nat) : KeySlot := Tab.get KeySlot.init s.keySlots n
def State.onKey (s : State) (n : Nat) (f : KeySlot → KeySlot) : State :=
  { s with keySlots := Tab.upd KeySlot.init s.keySlots n f }
def State.chanKey (s : State) (ch : Nat) : ChanKeys := Tab.get ChanKeys.init s.chanKeys ch
def State.onChanKey (s : State) (ch : Nat) (f : ChanKeys → ChanKeys) : State :=
  { s with chanKeys := Tab.upd ChanKeys.init s.chanKeys ch f }

/-- Whether a key may serve a source superframe (R285, R286). -/
def KeySlot.serves (k : KeySlot) (ss : Nat) : Bool :=
  decide (k.state = .active ∨ k.state = .retiring ∨ k.state = .loaded ∨ k.state = .locked) &&
    (decide (k.used = 0) || decide (k.firstSs ≤ ss)) && (decide (k.used < 2 ^ 32) || decide (k.lastSs = some ss))

/-- `CEIL_CFG.MARGIN` in superframes (R285). -/
def State.ceilMargin (s : State) : Nat := s.rd CY_KEY.CEIL_CFG_MARGIN * 2 ^ 20

/-- A key serves a source superframe: counted once per superframe; CEIL_ALARM once (R278, R285). -/
def State.serveKey (s : State) (n ss : Nat) : State :=
  let k := s.keySlot n
  if k.lastSs = some ss then s
  else
    let used := k.used + 1
    let alarm := decide (2 ^ 32 - used ≤ s.ceilMargin) && !k.alarmed
    let s := s.onKey n fun k => { k with used := used, firstSs := if k.used = 0 then ss else k.firstSs, lastSs := some ss,
                                         alarmed := k.alarmed || alarm }
    s.raiseIf alarm Ev.CY_KEY.ceilAlarm

/-- Erase a key slot (R280). -/
def State.wipeSlot (s : State) (n : Nat) : State := { s with keySlots := Tab.erase s.keySlots n }

/-- Source superframe `ss` is at or after `b`, by serial arithmetic modulo 2^40: it goes on from 0 when FC wraps (R162, R277). -/
def ssReached (ss b : Nat) : Bool := decide ((ss + 2 ^ 40 - b % 2 ^ 40) % 2 ^ 40 < 2 ^ 39)

/-! ### Pipelines lost after EXHAUSTED (R297) -/

/-- The positions of a direction whose pipeline is quarantined. -/
def State.lostPositions (s : State) (d : Fin 2) : List Nat :=
  let x := s.block (.aes d)
  (List.range 36).filter fun pl => x.quarantine.contains (x.unitAt pl)

/-- The home position of a unit (R269). -/
def homePosition (p : Port) (slot : Nat) : Nat := (96 * p.toNat + slot) % 36

/-- A unit's home is a lost position (R297). -/
def State.homeLost (s : State) (d : Fin 2) (p : Port) (slot : Nat) : Bool := (s.lostPositions d).contains (homePosition p slot)

/-! ### The add direction -/

/-- The slots of a channel's add side by ordinal: LINE-E before LINE-W (R212). -/
def State.addPlaces (s : State) (ch : Nat) : List (Port × Nat) :=
  ((s.addSlots .E ch).map fun i => (Port.E, i)) ++ ((s.addSlots .W ch).map fun i => (Port.W, i))

/-- The port whose generator fills a channel (R203). -/
def State.genPort (s : State) (ch : Nat) : Option Port :=
  [Port.E, Port.W].find? fun p => s.on (HB_SLOT.CHTEST_GEN_EN p) && decide (s.rd (HB_SLOT.CHTEST_GEN_CH p) = ch)

/-- The plaintext of `n` bytes of a channel: its stream, or the port's generator, which holds the queues (R203, R210). -/
def State.plainBytes (s : State) (ch n : Nat) : State × List Nat :=
  match s.genPort ch with
  | some p =>
    let g := s.chtest.get p
    let r := patternBits (s.rd (HB_SLOT.CHTEST_GEN_PAT p)) s.chUser (8 * n) g.gen
    ({ s with chtest := s.chtest.upd p fun t => { t with gen := r.2 } }, packBytes n r.1)
  | none =>
    let r := (s.addOf ch).takeBytes n
    let s := s.onAdd ch fun _ => r.1
    (s.forEach r.2.2 fun k s => s.freeCells k, r.2.1)

/-- The announced switch of the add direction has been reached (R281). -/
def ChanKeys.switched (c : ChanKeys) (ss : Nat) : Bool := match c.annSs with | some b => ssReached ss b | none => false

/-- The slot whose key the add direction uses in a source superframe: from SWITCH_SS on the next key's (R281). -/
def State.addKeySlot (s : State) (ch ss : Nat) : Nat :=
  let c := s.chanKey ch
  if c.switched ss then c.txNxt else c.txAct

/-- The add direction of a channel has a key that may serve a source superframe (R280, R285, R286). -/
def State.addKeyOk (s : State) (ch ss : Nat) : Bool :=
  let n := s.addKeySlot ch ss
  decide (n ≠ noSlot) && (s.keySlot n).serves ss

/-- A channel's add direction needs a key. -/
def State.addNeedsKey (s : State) (ch : Nat) : Bool := s.txEnc ch || s.txInteg ch

/-- Zeros in place of a unit (R166). -/
def zeroUnit : List Nat := List.replicate 3125 0

/-- Replace a unit from a word on by zeros (R296). -/
def zeroFrom (word : Nat) (u : List Nat) : List Nat := u.take (16 * word) ++ List.replicate (u.length - 16 * word) 0

/-- One unit of the add side: enciphered, or zero where its home is lost (R297) or a double fault cut it (R296). Answers
the unit, whether it is whole, and whether it was squelched after EXHAUSTED. -/
def State.addUnit (s : State) (ch f ordinal : Nat) (place : Port × Nat) (plain : List Nat) : List Nat × Bool × Bool :=
  let k := s.keySlot (s.addKeySlot ch (f / 256))
  let lost := s.txEnc ch && s.homeLost 0 place.1 place.2
  let u := if lost then zeroUnit
    else if s.txEnc ch then xtsEnc k.k1 k.k2 (tweakInput k.epoch f ordinal) plain else plain
  match s.aesBad.filter fun b => b.1 = false ∧ b.2.1 = ch ∧ b.2.2.1 = ordinal with
  | [] => (u, !lost, lost)
  | b :: t => (zeroFrom (t.foldl (fun w b => min w b.2.2.2) b.2.2.2) u, false, lost)

/-- Take up to `n` bytes off each of `k` units of 3,125 bytes. -/
def unitsOf (k : Nat) (bytes : List Nat) : List (List Nat) := dealUnits k bytes

/-- The units of a frame, as sent, enter the GHASH of the source superframe (R288); `whole` where none of them inverts the tag. -/
def State.hashUnits (s : State) (ch ss : Nat) (units : List (List Nat)) (whole : Bool) : State :=
  let n := s.addKeySlot ch ss
  let k := s.keySlot n
  s.onAdd ch fun a =>
    let key := match a.tagKey with
      | some x => some x
      | none => if n = noSlot ∨ ¬ s.txInteg ch then none else some (ghashKey k.ki, tagPad k.ki k.epoch ss)
    -- units sent without a key are zeros, which leave the value as it is whatever H
    { a with ghash := match key with | some x => units.foldl (ghashUnit x.1) a.ghash | none => a.ghash,
             gUnits := a.gUnits + units.length, gBytes := a.gBytes + (units.map List.length).sum, invert := a.invert || !whole,
             tagKey := key }

/-- The last frame of a source superframe has been made: the tag of a channel (R288), inverted where R280 or R296 has it so, to be
sent in the next. A superframe that had no key throughout has a tag of any value (log entry 100). -/
def State.closeTag (s : State) (ch : Nat) : State :=
  let a := s.addOf ch
  let unknown := s.txInteg ch && a.tagKey.isNone
  let t := match a.tagKey with | some x => tagOf x.1 x.2 a.ghash a.gUnits a.gBytes | none => s.freeVal 128
  let t := if a.invert then (2 ^ 128 - 1) ^^^ t else t
  let s' := s.onAdd ch fun a => { a with tag := if s.txInteg ch then some t else none, ghash := 0, gUnits := 0, gBytes := 0,
                                         invert := false, tagKey := none }
  if unknown then s'.useFree else s'

/-- Make the units of a channel for the frame with counter `f` (R210, R212, R268 to R272, R288). A channel that is squelched takes
nothing from its queues. -/
def State.makeOwn (s : State) (ch f : Nat) : State :=
  let places := s.addPlaces ch
  let k := places.length
  let ss := f / 256
  if (s.addOf ch).unitFc = some f then s
  else
    let bad := s.cryptoWord ch = none
    let s := s.raiseIf bad Ev.CY_PIPE.tableCheck
    let byKey := !bad && s.addNeedsKey ch && !s.addKeyOk ch ss
    let squelch := bad || byKey
    let s := s.onChanKey ch fun c => { c with txSquelch := squelch }
    let s := if squelch then
      let units := List.replicate k zeroUnit
      let s := s.onAdd ch fun a => { a with unitFc := some f, units := units }
      (s.hashUnits ch ss units false).raiseN Ev.CY_KEY.unitsSquelched (if byKey then k else 0)
    else
      -- USED counts the superframes in which the key has enciphered a unit (R278)
      let s := s.cond (s.txEnc ch && places.any fun e => !s.homeLost 0 e.1 e.2) fun s => s.serveKey (s.addKeySlot ch ss) ss
      let r := s.plainBytes ch (3125 * k)
      let s := r.1
      let made := ((places.zip (unitsOf k r.2)).zipIdx).map fun e => s.addUnit ch f e.2 e.1.1 e.1.2
      let units := made.map (·.1)
      let s := s.onAdd ch fun a => { a with unitFc := some f, units := units }
      let s := s.hashUnits ch ss units (made.all fun m => m.2.1)
      let s := { s with aesBad := s.aesBad.filter fun b => !(decide (b.1 = false ∧ b.2.1 = ch)) }
      s.raiseN Ev.CY_PIPE.squelchedExhausted (made.filter fun m => m.2.2).length
    -- the last frame of a source superframe closes its tag
    s.cond (decide (f % 256 = 255)) fun s => s.closeTag ch

/-- Units of a channel for a frame: those of its primary where it is a partner (R244). -/
def State.makeUnits (s : State) (ch f : Nat) : State :=
  match s.dpPrimary ch with
  | some c => s.makeOwn c f
  | none => s.makeOwn ch f

/-- The unit that a slot of an add entry carries. -/
def State.unitFor (s : State) (p : Port) (slot ch : Nat) : List Nat :=
  let src := match s.dpPrimary ch with | some c => c | none => ch
  let places := if src = ch then s.addPlaces ch else (s.addSlots p ch).map fun i => (p, i)
  match places.idxOf? (p, slot) with
  | some o => (s.addOf src).units.getD o zeroUnit
  | none => zeroUnit

/-! ### The drop direction -/

/-- The drop places of a channel by ordinal. -/
def State.dropPlaces (s : State) (ch : Nat) : List (Port × Nat) :=
  ((s.dropSlots .E ch).map fun i => (Port.E, i)) ++ ((s.dropSlots .W ch).map fun i => (Port.W, i))

/-- The key slot that a unit of source superframe `n` is taken under (R277, R282); none where there is no key. -/
def State.dropKey (s : State) (ch n : Nat) : Option Nat :=
  let c := s.chanKey ch
  let slot :=
    if (match c.rxAnnSs with | some b => ssReached n b | none => false) then c.rxNxt
    else if (match c.rxLastSs with | some b => !ssReached n b | none => false) then c.rxRetiring
    else c.rxAct
  if slot ≠ noSlot ∧ (s.keySlot slot).serves n then some slot else none

/-- The epoch of source superframe `n` at the drop end (R277). -/
def State.dropEpoch (s : State) (ch n : Nat) : Nat :=
  let c := s.chanKey ch
  if (match c.rxAnnSs with | some b => ssReached n b | none => false) then min (c.rxEpoch + 1) 0xFFFFFFFF
  else if (match c.rxLastSs with | some b => !ssReached n b | none => false) then (c.rxEpoch + 2 ^ 32 - 1) % 2 ^ 32
  else c.rxEpoch

/-- A part of a unit holds 8 or more consecutive bytes of 0x00 (R245, R273). -/
def zeroRun : Nat → List Nat → Bool
  | 8, _ => true
  | _, [] => false
  | n, b :: t => if b % 256 = 0 then zeroRun (n + 1) t else zeroRun 0 t

/-- Delivery of a channel to the host is squelched: a checker reads it (R203), a defect holds it off (R169, R215, R277,
R292), its entry has a check error (R307), or it is concatenated and one of its ports is out of SYNC (R263). -/
def State.dropSquelched (s : State) (ch : Nat) : Bool :=
  let c := s.chanKey ch
  c.encMismatch || c.integSquelch || (s.cryptoWord ch).isNone ||
    bitOf (s.rd (HB_SLOT.CONCAT_SKEW_DEFECT (ch / 32))) (ch % 32) ||
    (s.chanConcat ch && (s.dropPlaces ch).any fun e => !s.on (HB_FRAME.FRM_STATUS_SYNC e.1)) ||
    ([Port.E, Port.W].any fun p => (s.on (HB_SLOT.CHTEST_CHK_EN p) && decide (s.rd (HB_SLOT.CHTEST_CHK_CH p) = ch)) ||
      (s.on (HB_FRAME.FRM_STATUS_SMC_MISMATCH p) && !(s.dropSlots p ch).isEmpty))

/-- A flow context: valid, client, channel, class (R230). -/
def State.flowValid (s : State) (f : Nat) : Bool := match s.flowWord f 0 with | some w => bitOf w 0 | none => false
def State.flowClient (s : State) (f : Nat) : Nat := match s.flowWord f 0 with | some w => bits w 1 5 | none => 31
def State.flowChannel (s : State) (f : Nat) : Nat := match s.flowWord f 0 with | some w => bits w 6 8 | none => 255
def State.flowClass (s : State) (f : Nat) : Nat := match s.flowWord f 0 with | some w => bits w 14 3 | none => 0
def State.flowTag (s : State) (f : Nat) : Nat := match s.flowWord f 1 with | some w => bits w 0 14 | none => 0

/-- A packet of a channel leaves by cut-through: the stream's rate, 25 Gb/s a slot, is at least the client's (R214, R216). -/
def State.cutsThrough (s : State) (ch tag : Nat) : Bool :=
  let k := s.flowClient tag
  decide (2045300 ≤ 250000 * (s.dropPlaces ch).length ∨ (¬ s.clientIanen k ∧
    rateGbps (s.rd (HL_CLIENT.CLIENT_CFG_RATE k)) ≤ 25 * (s.dropPlaces ch).length))

/-- Deliver the parts of a unit to the stream: in row order; a squelched channel delivers nothing and ends a packet in
progress with an error block. A channel checker reads the bytes (R203). -/
def State.deliverUnit (s : State) (ch : Nat) (u : SourceUnit) : State :=
  let bytes := rowOrder 3126 u.parts
  let s := s.forEach ([Port.E, Port.W].filter fun p =>
      s.on (HB_SLOT.CHTEST_CHK_EN p) && decide (s.rd (HB_SLOT.CHTEST_CHK_CH p) = ch)) fun p s =>
    s.checkBits p (bytes.flatMap fun b => (bitsOf 8 (b % 256)))
  if s.dropSquelched ch then s.onDrop ch fun d => { d.endPacket true with lock := false, validRun := 0, bits := [] }
  else s.delineate ch (u.sfc / 256) bytes (s.cutsThrough ch)

/-- A unit held that its superframe's FAIL has discarded (R293): nothing of it is left but its place in the stream, every byte
of which carries 512 beside its errored mark. -/
def voidUnit (u : SourceUnit) : SourceUnit := { u with parts := u.parts.map fun p => p.map fun _ => 768 }

/-- Mark every byte of a part errored. -/
def markBad (l : List Nat) : List Nat := l.map fun b => b % 256 + 256

/-- Mark the bytes of word `w` errored (R296). -/
def markWord (w : Nat) (l : List Nat) : List Nat := l.take (16 * w) ++ markBad ((l.drop (16 * w)).take 16) ++ l.drop (16 * w + 16)

/-- `FAIL_LIMIT` and `VERDICT_WAIT`; 0 is read as 1 (R306). -/
def State.failLimit (s : State) : Nat := max 1 (s.rd CY_PIPE.INTEG_CFG_FAIL_LIMIT)
def State.verdictWait (s : State) : Nat := max 1 (s.rd CY_PIPE.INTEG_CFG_VERDICT_WAIT)

/-- `VERD_MODE` of a client (R306). -/
def State.verdMode (s : State) (k : Nat) : Nat :=
  if k < 16 then bits (s.rd CY_PIPE.VERD_CLIENT_LO_VERD_MODE) (2 * k) 2
  else bits (s.rd CY_PIPE.VERD_CLIENT_HI_VERD_MODE) (2 * (k - 16)) 2

/-- Clients with a flow bound to a channel. -/
def State.chanClients (s : State) (ch : Nat) : List Nat :=
  (List.range 24).filter fun k =>
    (s.bar2.any fun c => decide (c.1 < vlanWin) && decide (c.1 % 16 = 0) &&
      (let f := c.1 / 16
       s.flowValid f && decide (s.flowClient f = k) && decide (s.flowChannel f = ch)))

/-- The verdict of a source superframe: 1 PASS, 2 mismatch, 3 no tag, 4 key missing (R289 to R293). -/
def State.verdict (s : State) (ch n code : Nat) : State :=
  let d := s.dropOf ch
  let pass := decide (code = 1)
  let s := s.raise (if pass then Ev.CY_PIPE.pass else Ev.CY_PIPE.fail)
  let s := s.onChanKey ch fun c => if pass then { c with pass := (c.pass + 1) % 2 ^ 32 } else { c with fail := (c.fail + 1) % 2 ^ 32 }
  let marked := d.log.filter fun e => e.2 == n
  let reports := (s.chanClients ch).filterMap fun k =>
    if s.verdMode k = 2 ∨ (s.verdMode k = 1 ∧ ¬ pass) then
      some ⟨k, code, n, s.dropEpoch ch n, (marked.filter fun e => s.flowClient e.1 == k).length, if pass then 0 else d.failRun + 1⟩
    else none
  let lostHeld := d.held.filter fun u => u.1.sfc / 256 == n
  let s := s.onDrop ch fun d =>
    { d with awaiting := d.awaiting.filter fun a => a.1 != n, tags := d.tags.filter fun t => t.1 != n,
             log := d.log.filter fun e => e.2 != n, reports := d.reports ++ reports,
             passed := if pass then n :: d.passed.take 255 else d.passed, failed := if pass then d.failed else n :: d.failed.take 255,
             held := if pass then d.held else d.held.map fun u => if u.1.sfc / 256 = n then (voidUnit u.1, u.2) else u,
             failRun := if pass then 0 else d.failRun + 1, passRun := if pass then d.passRun + 1 else 0 }
  let s := s.cond (!pass) fun s =>
    let s := s.forEach marked fun e s => s.flowCount e.1 7 1
    let s := s.raiseN Ev.CY_PIPE.marked marked.length
    s.raiseN Ev.CY_PIPE.heldDiscarded (lostHeld.map (·.2)).sum
  let d := s.dropOf ch
  let sq := (s.chanKey ch).integSquelch
  if !sq && decide (s.failLimit ≤ d.failRun) then
    ((s.onChanKey ch fun c => { c with integSquelch := true }).onDrop ch fun d => d.endPacket true).raise
      Ev.CY_PIPE.squelchSet
  else
    let need := s.rd CY_PIPE.INTEG_CFG_RESUME_PASS
    if sq && decide (need ≠ 0 ∧ need ≤ d.passRun) then
      (s.onChanKey ch fun c => { c with integSquelch := false }).raise Ev.CY_PIPE.squelchCleared
    else s

/-- Judge what can be judged: a computed superframe with a tag that matches passes (R289). -/
def State.judge (s : State) (ch : Nat) : State :=
  s.forEach ((s.dropOf ch).awaiting) fun a s =>
    if !a.2.2 && (s.dropOf ch).tags.any fun t => t.1 == a.1 && t.2 == a.2.1 then s.verdict ch a.1 1 else s

/-- The tag that source superframe `n` would have, out of what was taken of it (R289). -/
def State.sourceTag (s : State) (ch n acc units bytes : Nat) : Nat :=
  match s.dropKey ch n with
  | some k => integrityTag (s.keySlot k).ki (s.keySlot k).epoch n acc units bytes
  | none => 0

/-- The source superframes before `n` of which no unit has come since the newest one await their verdict too (R289): up to 256,
beyond which the channel has begun anew (log entry 125). -/
def State.missSources (s : State) (ch n : Nat) : State :=
  let gap := match (s.dropOf ch).newest with | some m => (n + 2 ^ 40 - (m + 1) % 2 ^ 40) % 2 ^ 40 | none => 0
  let l := if s.rxInteg ch ∧ gap ≤ 256 then (List.range gap).map fun i => (n + 2 ^ 40 - (gap - i)) % 2 ^ 40 else []
  s.onDrop ch fun d =>
    { d with newest := if gap < 2 ^ 39 then some n else d.newest, awaiting := d.awaiting ++ l.map fun i => (i, s.sourceTag ch i 0 0 0, false) }

/-- The source superframe in progress ends: its tag joins those that await a verdict (R288, R289). -/
def State.closeSource (s : State) (ch : Nat) : State :=
  let d := s.dropOf ch
  match d.ss with
  | none => s
  | some n =>
    let t := s.sourceTag ch n d.ghash d.gUnits d.gBytes
    let s := s.onDrop ch fun d =>
      { d with ss := none, ghash := 0, gUnits := 0, gBytes := 0, keyMissing := false,
               awaiting := if s.rxInteg ch then d.awaiting ++ [(n, t, d.keyMissing)] else d.awaiting }
    s.judge ch

/-- Drop slots in hold-until-verified release over the banks in force, at most 64 (R294). -/
def State.heldSlots (s : State) : Nat :=
  min 64 (distinct ([Port.E, Port.W].flatMap fun p => (List.range 96).filterMap fun i =>
    let e := s.rxEntry (s.rxBank p) p i
    if e.kind = 1 ∧ s.holdRelease e.ch then some (p.toNat * 96 + i) else none)).length

/-- The held slots beyond the first 64, in order of port and slot (R294). -/
def State.holdOverflow (s : State) (p : Port) (slot : Nat) : Bool :=
  let all := [Port.E, Port.W].flatMap fun p => (List.range 96).filterMap fun i =>
    let e := s.rxEntry (s.rxBank p) p i
    if e.kind = 1 ∧ s.holdRelease e.ch then some (p.toNat * 96 + i) else none
  (all.drop 64).contains (p.toNat * 96 + slot)

/-- A source unit of a dropped channel enters the cipher stage (R268, R273, R277, R282, R288 to R294). -/
def State.openUnit (s : State) (ch : Nat) (u : SourceUnit) : State :=
  let n := u.sfc / 256
  let need := s.rxEnc ch || s.rxInteg ch
  let s := s.raiseIf (decide (s.cryptoWord ch = none)) Ev.CY_PIPE.tableCheck
  -- a unit of another source superframe closes the one in progress
  let s := s.cond (match (s.dropOf ch).ss with | some m => decide (m ≠ n) | none => false) fun s => s.closeSource ch
  let s := s.cond (decide ((s.dropOf ch).ss ≠ some n)) fun s => (s.missSources ch n).onDrop ch fun d => { d with ss := some n }
  let places := s.dropPlaces ch
  let k := u.parts.length
  let refused := s.rxEnc ch && u.parts.any fun p => decide (p.length < 3124 ∨ 3126 < p.length)
  let s := s.cond refused fun s => s.raiseN Ev.CY_PIPE.refusedLength k
  let upstream := s.rxEnc ch && u.parts.any (zeroRun 0)
  let s := s.cond upstream fun s => s.raiseN Ev.CY_PIPE.squelchedUpstream k
  let key := s.dropKey ch n
  let missing := need && key.isNone
  let s := s.cond missing fun s =>
    (s.raiseN Ev.CY_KEY.keyMissing k).onDrop ch fun d => { d with keyMissing := true }
  -- USED counts the superframes in which the key has deciphered a unit (R278)
  let lost := (places.zipIdx.filter fun e => s.rxEnc ch && s.homeLost 1 e.1.1 e.1.2).map (·.2)
  let s := s.cond (s.rxEnc ch && !missing && !upstream && !refused && decide (lost.length < k)) fun s => s.serveKey (key.getD noSlot) n
  let slot := s.keySlot (key.getD noSlot)
  let s := s.cond (s.rxInteg ch && !missing) fun s =>
    let h := ghashKey slot.ki
    s.onDrop ch fun d => { d with ghash := (u.parts.map fun p => p.map (· % 256)).foldl (ghashUnit h) d.ghash,
                                  gUnits := d.gUnits + k, gBytes := d.gBytes + (u.parts.map List.length).sum }
  let s := s.raiseN Ev.CY_PIPE.squelchedExhausted lost.length
  let bad := s.aesBad.filter fun b => b.1 = true ∧ b.2.1 = ch
  let plain := (u.parts.zipIdx).map fun e =>
    let raw := e.1.map (· % 256)
    let out := if missing || upstream || refused || lost.contains e.2 then markBad raw
      else if s.rxEnc ch then xtsDec slot.k1 slot.k2 (tweakInput slot.epoch u.sfc e.2) raw else raw
    (bad.filter fun b => b.2.2.1 = e.2).foldl (fun out b => markWord b.2.2.2 out) out
  let s := { s with aesBad := s.aesBad.filter fun b => !(decide (b.1 = true ∧ b.2.1 = ch)) }
  -- units of held slots beyond the 64th are discarded (R294)
  let excess := if s.holdRelease ch then (places.zipIdx.filter fun e => s.holdOverflow e.1.1 e.1.2).map (·.2) else []
  let s := s.raiseN Ev.CY_PIPE.holdOverflow excess.length
  let v : SourceUnit := ⟨u.sfc, (plain.zipIdx).map fun e => if excess.contains e.2 then markBad (e.1.map fun _ => 0) else e.1⟩
  let s := if s.holdRelease ch && s.rxInteg ch then
      (if k ≤ excess.length then s else s.onDrop ch fun d => { d with held := d.held ++ [(v, k - excess.length)] })
    else s.deliverUnit ch v
  s.cond (decide (u.sfc % 256 = 255)) fun s => s.closeSource ch

/-- The later of a source superframe and the one kept. -/
def laterSs (kept : Option Nat) (n : Nat) : Option Nat :=
  match kept with
  | some m => if ssReached n m then some n else some m
  | none => some n

/-- A tag arrives for source superframe `n`, on a copy (R289). The last 256 are kept. -/
def State.tagArrived (s : State) (ch : Nat) (par : Bool) (n tag : Nat) : State :=
  if s.rxInteg ch then
    (s.onDrop ch fun d =>
      let l := d.tags ++ [(n, tag)]
      { d with tags := l.drop (l.length - 256), tagPri := if par then d.tagPri else laterSs d.tagPri n,
               tagPar := if par then laterSs d.tagPar n else d.tagPar }).judge ch
  else s

end Sys2Proof.Machine
end

