-- ==== Sys2Proof/Machine/Path.lean ====
section
/-! DEFINITION. From received columns to channels: justification, origins and path words, units, transit buffers, the
dual-path selector, concatenated channels (R165, R212, R215, R235 to R247). -/

namespace Sys2Proof.Machine

open F

/-! ### Columns (R164, R165, R212) -/

/-- The justification code of a JC byte, by majority of each bit over its three copies (R165). -/
def jcMajority (b : Nat) : Nat :=
  let maj := fun (i j k : Nat) => decide (2 ≤ bit (bitOf b i) + bit (bitOf b j) + bit (bitOf b k))
  2 * bit (maj 7 5 3) + bit (maj 6 4 2)

/-- The code as it is used: 11 is read as 00 (R165). -/
def jcUsed (b : Nat) : Nat := if jcMajority b = 3 then 0 else jcMajority b

/-- The JC byte of a code (R165). -/
def jcByte (code : Nat) : Nat := code * 64 + code * 16 + code * 4

/-- Data bytes of a column by code (R165). -/
def columnBytes (code : Nat) : Nat := match code with | 1 => 3124 | 2 => 3126 | _ => 3125

/-- A received frame (R158, R167, R173, R215): its bits, the ranges of them that lie in uncorrectable BCH blocks, whether it begins
a line superframe, the instant of its first FAW bit. -/
structure FrameIn where
  bits : List Bool
  bad : List (Nat × Nat)
  atBoundary : Bool
  inst : Instant

/-- The ranges of marked positions, from position `i` on: start and end. -/
def markedRanges : Nat → Option Nat → List Bool → List (Nat × Nat)
  | i, some a, [] => [(a, i)]
  | _, none, [] => []
  | i, some a, b :: t => if b then markedRanges (i + 1) (some a) t else (a, i) :: markedRanges (i + 1) none t
  | i, none, b :: t => markedRanges (i + 1) (if b then some i else none) t

/-- A frame out of the stream of stage D6. -/
def FrameIn.ofLine (l : List LineBit) (x : RxFrame) : FrameIn :=
  ⟨l.map (·.bit), markedRanges 0 none (l.map (·.bad)), (l.headD ⟨false, false, false⟩).first, x.inst⟩

/-- The 3,127 bytes of slot `i` of a frame of `n` slots, row 0 first, each marked: 256 where it lies in a bad range or the
whole frame is bad for the selector, 512 where transit must zero it (R237, R245). -/
def slotBytes (rows : List (List Nat)) (bad : List (Nat × Nat)) (n i : Nat) (frameBad frameZero : Bool) : List Nat :=
  (rows.zipIdx).map fun e =>
    let start := 512 + 8 * (e.2 * n + i)
    let hit := bad.any fun b => decide (b.1 < start + 8 ∧ start < b.2)
    e.1.getD i 0 + (if hit || frameBad then 256 else 0) + (if hit || frameZero then 512 else 0)

/-- The payload rows of a frame (R164). -/
def payloadRows (bits : List Bool) (n : Nat) : List (List Nat) :=
  chunks n 3127 (packBytes (3127 * n) (bits.drop 512))

/-! ### Origins (R240, R243) -/

def originSpan : Nat := 2 ^ 48 * 3125

def State.transitOf (s : State) (p : Port) (lch : Nat) : TransitChan := Tab.get TransitChan.init s.transit (256 * p.toNat + lch)
def State.onTransit (s : State) (p : Port) (lch : Nat) (f : TransitChan → TransitChan) : State :=
  { s with transit := Tab.upd TransitChan.init s.transit (256 * p.toNat + lch) f }

/-- The receive slots of the other port that a transit line channel names, in the order of its slots (R235). -/
def State.transitSrcs (s : State) (p : Port) (o : Nat) : List Nat := (s.transitSlots p o).map fun i => (s.txLive p i).src

/-- The entries in force for a transit line channel: its slots, the receive slots they name, and the LCH of the first of these. -/
def State.transitEntries (s : State) (p : Port) (o : Nat) : List Nat :=
  let srcs := s.transitSrcs p o
  (s.rxLive p.other (srcs.headD 0)).lch :: (s.transitSlots p o ++ srcs)

/-- The data bytes of a received frame enter a transit buffer. Entries that are not those it was filled under have come into force
since: it starts anew (R236; log entry 98). -/
def TransitChan.fill (t : TransitChan) (entries : List Nat) (data : List (List Nat)) : TransitChan :=
  if t.entries = entries ∧ t.cols.length = data.length then { t with cols := t.cols.zipWith (· ++ ·) data }
  else { t with cols := data, entries := entries, running := false }

/-- A path word (R240). -/
def pathWord (valid : Bool) (tagd ofs sfc : Nat) : Nat :=
  if valid then
    2 ^ 63 + bit (bitOf sfc 8) * 2 ^ 62 + (if bitOf sfc 8 then bits sfc 44 4 else bits sfc 40 4) * 2 ^ 58 +
      tagd % 64 * 2 ^ 52 + ofs % 4096 * 2 ^ 40 + sfc % 2 ^ 40
  else tagd % 64 * 2 ^ 52

/-- The source frame counter that a word and the nibbles seen name. -/
def wordSfc (w : Nat) (n0 n1 : Option Nat) : Nat := w % 2 ^ 40 + n0.getD 0 * 2 ^ 40 + n1.getD 0 * 2 ^ 44

/-- Origin lock is gained or lost (R243, R267). -/
def State.originEvent (s : State) (locked : Bool) : State :=
  s.raise (if locked then Ev.HB_PROT.originGained else Ev.HB_PROT.originLost)

/-- `ORIGIN_LOCK` of a channel (R243, R266): every line channel that the banks in force drop to it holds its lock. -/
def State.originLock (s : State) (ch : Nat) : Bool :=
  let l := s.dropPlaces ch
  !l.isEmpty && l.all fun e => (s.lineOf e.1 (s.rxLive e.1 e.2).lch).locked

/-- A path word received in two good frames (R240, R243): the prediction, the lock, the new basis. -/
def State.pathWordIn (s : State) (p : Port) (lch w : Nat) : State :=
  let x := s.lineOf p lch
  if bitOf w 63 then
    let half := bitOf w 62
    let nib := bits w 58 4
    let n0 := if half then x.nib0 else some nib
    let n1 := if half then some nib else x.nib1
    let ofs := bits w 40 12
    let at_ := wordSfc w n0 n1 * 3125 + ofs
    let expect := x.refPos / 3125
    let ok := x.known && decide (x.refPos % 3125 = ofs ∧ expect % 2 ^ 40 = w % 2 ^ 40) &&
      decide ((if half then bits expect 44 4 else bits expect 40 4) = nib ∨ (if half then x.nib1 else x.nib0).isNone)
    let x := { x with valid := true, tagd := bits w 52 6, nib0 := n0, nib1 := n1, ss := wordSfc w n0 n1 / 256 }
    let since := (x.pos + originSpan - x.refPos) % originSpan
    let rebase := fun (x : LineChan) => { x with pos := (at_ + since) % originSpan, refPos := at_ % originSpan, known := true }
    if ok then
      let run := x.matchRun + 1
      let lock := x.locked || (decide (2 ≤ run) && n0.isSome && n1.isSome)
      let s' := s.onLine p lch fun _ => { (if x.locked then x else rebase x) with matchRun := run, missRun := 0, locked := lock }
      if lock && !x.locked then s'.originEvent true else s'
    else if x.locked then
      if 2 ≤ x.missRun then
        let s' := s.onLine p lch fun _ => { rebase x with matchRun := 0, missRun := 0, locked := false, cols := [] }
        s'.originEvent false
      else s.onLine p lch fun _ => { x with missRun := x.missRun + 1, matchRun := 0 }
    else s.onLine p lch fun _ => { rebase x with matchRun := 0, missRun := 0, cols := [] }
  else s.onLine p lch fun x => { x with valid := false, tagd := bits w 52 6 }

/-! ### Units of a dropped line channel -/

/-- Take whole source units off the columns: first the bytes before a unit boundary go, then units of 3,125 bytes. The
head of the columns lies at linear position `pos` less their length. The count bounds the units. -/
def unitsFrom : Nat → Nat → List (List Nat) → List SourceUnit × List (List Nat)
  | 0, _, cols => ([], cols)
  | fuel + 1, pos, cols =>
    let len := (cols.headD []).length
    let head := (pos + originSpan - len) % originSpan
    let skip := (3125 - head % 3125) % 3125
    if skip ≠ 0 then
      if skip ≤ len then unitsFrom fuel pos (cols.map (·.drop skip)) else ([], cols)
    else if 3125 ≤ len then
      let r := unitsFrom fuel pos (cols.map (·.drop 3125))
      (⟨head / 3125, cols.map (·.take 3125)⟩ :: r.1, r.2)
    else ([], cols)

def State.selectorOf (s : State) (ch : Nat) : Selector := Tab.get Selector.init s.selector ch
def State.onSelector (s : State) (ch : Nat) (f : Selector → Selector) : State :=
  { s with selector := Tab.upd Selector.init s.selector ch f }
def State.concatOf (s : State) (ch : Nat) : Concat := Tab.get Concat.init s.concat ch
def State.onConcat (s : State) (ch : Nat) (f : Concat → Concat) : State :=
  { s with concat := Tab.upd Concat.init s.concat ch f }

/-- Frame counter `b` comes after `a`, by serial arithmetic modulo 2^48 (R162). -/
def sfcAfter (a b : Nat) : Bool := decide (a ≠ b ∧ (b + 2 ^ 48 - a) % 2 ^ 48 < 2 ^ 47)

/-- Join the parts of both ports that have equal frame counters, oldest first (R215). -/
def joinParts : Nat → List SourceUnit → List SourceUnit → List SourceUnit × List SourceUnit × List SourceUnit
  | 0, e, w => ([], e, w)
  | _, [], w => ([], [], w)
  | _, e, [] => ([], e, [])
  | fuel + 1, a :: e, b :: w =>
    if a.sfc = b.sfc then
      let r := joinParts fuel e w
      (⟨a.sfc, a.parts ++ b.parts⟩ :: r.1, r.2)
    else if (b.sfc + 2 ^ 48 - a.sfc) % 2 ^ 48 < 2 ^ 47 then joinParts fuel e (b :: w)
    else joinParts fuel (a :: e) w

/-- A unit taken from the line of port `p` reaches its channel: the selector of a dual-path channel, the join of a
concatenated one, the cipher stage otherwise. -/
def State.unitArrived (s : State) (p : Port) (ch : Nat) (u : SourceUnit) : State :=
  match s.dpCopy ch with
  | some (c, par) =>
    s.onSelector c fun x => if par then { x with par := x.par ++ [u] } else { x with pri := x.pri ++ [u] }
  | none =>
    if s.chanConcat ch then
      let x := s.concatOf ch
      let r := joinParts (x.east.length + x.west.length + 2) (if p = .E then x.east ++ [u] else x.east) (if p = .W then x.west ++ [u] else x.west)
      let s := s.onConcat ch fun x => { x with east := r.2.1, west := r.2.2 }
      s.forEach r.1 fun u s => s.openUnit ch u
    else s.openUnit ch u

/-- The columns of a line channel's slots in a frame, the lowest slot first, marked. -/
def State.lchCols (s : State) (p : Port) (rows : List (List Nat)) (x : FrameIn) (n lch : Nat) (frameBad frameZero : Bool) :
    List (List Nat) :=
  (s.lchSlots p lch).map fun i => slotBytes rows x.bad n i frameBad frameZero

/-- The justification code of a column (R165). -/
def columnCode (c : List Nat) : Nat := jcUsed ((c.headD 0) % 256)

/-- The slots of a line channel carry differing justification codes (R212). -/
def State.jcDiffers (s : State) (p : Port) (rows : List (List Nat)) (x : FrameIn) (n lch : Nat) : Bool :=
  let codes := (s.lchCols p rows x n lch false false).map columnCode
  codes.any fun c => c ≠ codes.headD 0

/-- The receive columns of a line channel for one frame (R165, R212, R235 to R243): the code of the lowest slot, the data
bytes of each slot to the transit channels that take them and to the drop side. -/
def State.lineFrame (s : State) (p : Port) (rows : List (List Nat)) (x : FrameIn) (n lch : Nat) (frameBad frameZero : Bool) :
    State :=
  let cols := s.lchCols p rows x n lch frameBad frameZero
  let take := columnBytes (columnCode (cols.headD []))
  let data := cols.map fun c => (c.drop 1).take take
  -- transit channels of the other port that name these slots
  let s := s.forEach (s.transitOuts p lch) fun o s => s.onTransit p.other o (·.fill (s.transitEntries p.other o) data)
  let l := s.lineOf p lch
  let l := { l with pos := (l.pos + take) % originSpan,
                    cols := if l.cols.length = data.length then l.cols.zipWith (· ++ ·) data else data }
  match s.lchDrop p lch with
  | none => s.onLine p lch fun _ => { l with cols := [] }
  | some ch =>
    if l.locked && l.valid then
      let r := unitsFrom 8 l.pos l.cols
      let s := s.onLine p lch fun _ => { l with cols := r.2 }
      s.forEach r.1 fun u s => s.unitArrived p ch u
    else
      -- without lock a channel that is not dual-path is squelched (R243); so is one whose words are not valid
      (s.onLine p lch fun _ => { l with cols := [] }).onDrop ch fun d => if (s.dpCopy ch).isSome then d else d.endPacket true

/-! ### The selector (R245 to R248) -/

/-- The selector of a channel after `DP_EN` is set: the primary is the current copy, nothing is measured (R246, R247). -/
def State.selectorStart (s : State) (c : Nat) : State :=
  let s := s.onSelector c fun _ => Selector.init
  ((s.wr (HB_PROT.DP_STATUS_SEL c) 0).wr (HB_PROT.DP_STATUS_DIFF c) 0).wr (HB_PROT.DP_STATUS_DP_SKEW c) 0

/-- The deskew buffer of a dual-path channel lay in storage that is withdrawn (R248): SINGLE is set, and the units held, those of
the earlier copy, are lost and counted. -/
def State.loseDeskew (s : State) (c : Nat) : State :=
  if s.dpEn c then
    let x := s.selectorOf c
    let early := decide (x.d < 0)
    let n := if early then x.par.length else x.pri.length
    let s := s.onSelector c fun x => if early then { x with par := [] } else { x with pri := [] }
    let s := (s.raiseN Ev.HB_PROT.lostUnit n).count 26 (0x844 + 8 * c) n
    if s.on (HB_PROT.DP_STATUS_SINGLE c) then s else (s.wr (HB_PROT.DP_STATUS_SINGLE c) 1).raise Ev.HB_PROT.single
  else s

/-- HBM3E storage that cannot be remapped is withdrawn (R26, R248). -/
def State.withdrawHbm (s : State) (page line : Nat) (chs : List Nat) : State :=
  let s := s.forEach (distinct chs) fun c s => s.loseDeskew c
  { s with hbmOut := addSorted s.hbmOut (page * 2 ^ 24 + line) }

/-- The port and lowest line channel of a channel's drop slots. -/
def State.dropLine (s : State) (ch : Nat) : Option (Port × Nat) :=
  match s.dropPlaces ch with
  | [] => none
  | (p, i) :: _ => some (p, (s.rxLive p i).lch)

/-- The source frame counter that a copy has reached, where its origin is locked and its words are valid (R243, R245): the
origins of a port that leaves SYNC are lost. -/
def State.copyAt (s : State) (c : Nat) (par : Bool) : Option Nat :=
  match s.dropLine (if par then s.dpPartner c else c) with
  | some (p, lch) =>
    let l := s.lineOf p lch
    if l.locked && l.valid then some (l.pos / 3125) else none
  | none => none

/-- How far apart the source frame counters of two copies of the same origin may be, in frames of 1 µs: more than any deskew and
any way round the ring (log entry 98). -/
def sameOrigin (a b : Nat) : Bool :=
  let d := (a + 2 ^ 48 - b % 2 ^ 48) % 2 ^ 48
  decide (d ≤ 65536 ∨ 2 ^ 48 ≤ d + 65536)

/-- A copy has its origin, the same as the other copy has where that has one (R245). -/
def State.copyHasOrigin (s : State) (c : Nat) (par : Bool) : Bool :=
  match s.copyAt c par, s.copyAt c (!par) with
  | some a, some b => sameOrigin a b
  | some _, none => true
  | none, _ => false

/-- DP_SKEW is declared on a copy (R246). -/
def State.copySkewed (s : State) (c : Nat) (par : Bool) : Bool :=
  s.on (HB_PROT.DP_STATUS_DP_SKEW c) && ((s.selectorOf c).skewPar == par)

/-- A copy is up: origin locked, PVALID = 1, the same origin as the other copy, no DP_SKEW on it (R245). -/
def State.copyUp (s : State) (c : Nat) (par : Bool) : Bool := s.copyHasOrigin c par && !s.copySkewed c par

/-- A copy of unit `sfc` is good, leaving the zero-run rule aside; and whether that rule rejects it (R245). -/
def State.copyJudge (s : State) (c : Nat) (par : Bool) (sfc : Nat) : Bool × Bool :=
  let x := s.selectorOf c
  match (if par then x.par else x.pri).find? fun u => u.sfc == sfc with
  | none => (false, false)
  | some u =>
    let clean := s.copyUp c par && !(u.parts.any fun q => q.any fun b => bitOf b 8)
    (clean, clean && u.parts.any (zeroRun 0))

/-- The measured difference enters D, in 0.01 ns, while both copies are up: at once while D is 0, and then by no more than 10 ns
per ms, which is 0.01 ns for each unit of 1 µs (R163, R246). -/
def State.followDiff (s : State) (c : Nat) (diff : Int) : State :=
  if s.copyUp c false && s.copyUp c true then
    let x := s.selectorOf c
    let d := if x.d = 0 then diff else x.d + clampInt (-1) 1 (diff - x.d)
    (s.onSelector c fun x => { x with d := d }).wrI (HB_PROT.DP_STATUS_DIFF c) (d / 10000)
  else s

/-- A unit measured on both copies (R246): D follows it; DP_SKEW is declared on the later copy after 1,000 units beyond 2.0 ms and
cleared after 1,000 within. -/
def State.selectorDiff (s : State) (c : Nat) (diff : Int) : State :=
  let x := s.selectorOf c
  if s.copyHasOrigin c false && s.copyHasOrigin c true then
    let big := decide (200000000 < diff.natAbs)
    let beyond := if big then min 1000 (x.beyond + 1) else 0
    let within := if big then 0 else min 1000 (x.within + 1)
    let s := (s.followDiff c diff).onSelector c fun x => { x with beyond := beyond, within := within }
    if 1000 ≤ beyond ∧ ¬ s.on (HB_PROT.DP_STATUS_DP_SKEW c) then
      ((s.onSelector c fun x => { x with skewPar := decide (0 < diff) }).wr (HB_PROT.DP_STATUS_DP_SKEW c) 1).raise
        Ev.HB_PROT.dpSkew
    else if 1000 ≤ within ∧ s.on (HB_PROT.DP_STATUS_DP_SKEW c) then
      (s.wr (HB_PROT.DP_STATUS_DP_SKEW c) 0).raise Ev.HB_PROT.dpSkewCleared
    else s
  else s

/-- DP_UNIT_RELEASE (R245 to R247): the release time of unit `sfc` of primary channel `ch`; `diff` is the measured arrival
difference in 0.01 ns. -/
def execDpUnitRelease (ch : Fin 192) (sfc : Nat) (diff : Int) (s : State) : Result :=
  s.clocked <|
  let c := ch.val
  .next (
    if s.dpEn c then
      let s := s.selectorDiff c diff
      let j0 := s.copyJudge c false sfc
      let j1 := s.copyJudge c true sfc
      let s := s.raiseN Ev.HB_PROT.zeroRun (bit j0.2 + bit j1.2)
      let good := fun (par : Bool) => if par then j1.1 && !j1.2 else j0.1 && !j0.2
      let single := s.on (HB_PROT.DP_STATUS_SINGLE c)
      let cur := s.on (HB_PROT.DP_STATUS_SEL c)
      let force := s.on (HB_PROT.DP_CFG_FORCE_SEL c)
      let later := decide (0 < (s.selectorOf c).d)
      let sel := if force then s.on (HB_PROT.DP_CFG_FORCE_COPY c)
        -- SINGLE keeps the later copy, or the earlier one while the later is not up (R248)
        else if single then (if s.copyUp c later then later else !later)
        else if !good cur && good (!cur) then !cur else cur
      let change := !force && !single && (sel != cur)
      let lost := !good sel && (single || !good (!sel))
      let x := s.selectorOf c
      let k := (s.dropPlaces c).length
      let u := ((if sel then x.par else x.pri).find? fun u => u.sfc == sfc).getD ⟨sfc, List.replicate k zeroUnit⟩
      let s := s.onSelector c fun x => { x with pri := x.pri.filter fun u => sfcAfter sfc u.sfc,
                                                par := x.par.filter fun u => sfcAfter sfc u.sfc }
      let s := s.cond (change || (single && (sel != cur))) fun s => s.wrB (HB_PROT.DP_STATUS_SEL c) sel
      let s := s.cond change fun s => (s.raise Ev.HB_PROT.selection).count 26 (0x840 + 8 * c) 1
      let s := s.cond lost fun s => (s.raise Ev.HB_PROT.lostUnit).count 26 (0x844 + 8 * c) 1
      let s := s.openUnit c u
      s.emit (.unit c sfc (s.dropSquelched c))
    else s)

/-! ### Tags (R170, R242, R289) -/

/-- A tag received at position `q` of a port, with its path word's TAGD: to the drop side it belongs to, and to the
transit channels that take the line channel. -/
def State.tagIn (s : State) (p : Port) (q : TagPos) (tag : Nat) : State :=
  let l := s.lineOf p q.lch
  if l.tagd = 0 then s
  else
    let n := (l.ss + 2 ^ 40 - l.tagd) % 2 ^ 40
    let s := s.forEach q.outs fun o s => s.onTransit p.other o fun t => { t with tag := some (n, tag) }
    match q.drop with
    | some ch =>
      match s.dpCopy ch with
      | some (c, par) => s.tagArrived c par n tag
      | none => s.tagArrived ch false n tag
    | none => s

/-! ### Key words (R274 to R277) -/

/-- ENC and INTEG of a key word against the drop end's own (R277): ENC_MISMATCH is declared after 3 consecutive words that differ,
and cleared after 3 that agree. -/
def State.encWord (s : State) (ch : Nat) (enc integ : Bool) : State :=
  let k := s.chanKey ch
  let agrees := (enc == s.rxEnc ch) && (integ == s.rxInteg ch)
  -- a run of words that differ while the defect is clear, or that agree while it is set
  let run := if agrees == k.encMismatch then k.encRun + 1 else 0
  let flip := decide (3 ≤ run)
  let s := s.onChanKey ch fun k => { k with encRun := if flip then 0 else run, encMismatch := k.encMismatch != flip }
  s.raiseIf (flip && !k.encMismatch) Ev.CY_PIPE.encMismatch

/-- The drop switch of a channel at source superframe `b` (R282): the next key becomes ACTIVE, the old one RETIRING; a key that was
still RETIRING goes. -/
def State.dropSwitch (s : State) (ch b : Nat) : State :=
  let c := s.chanKey ch
  let next := c.rxNxt
  let old := c.rxAct
  let s := s.cond (decide (c.rxRetiring ≠ noSlot ∧ c.rxRetiring ≠ old ∧ c.rxRetiring ≠ next)) fun s => s.wipeSlot c.rxRetiring
  let s := s.cond (decide (old ≠ noSlot)) fun s => s.onKey old fun k => { k with state := .retiring }
  let s := s.cond (decide (next ≠ noSlot)) fun s => s.onKey next fun k => { k with state := .active }
  let s := s.onChanKey ch fun c =>
    { c with rxAct := next, rxNxt := noSlot, rxAnnSs := none, rxLastSs := some b, rxRetiring := old,
             rxEpoch := min (c.rxEpoch + 1) 0xFFFFFFFF }
  s.raise Ev.CY_KEY.dropTaken

/-- A key word for a dropped channel (R277): the mismatch of ENC and INTEG, a late switch, the announcement. An announcement is
for the epoch after the current one; one that still comes after its switch was taken is past, and at 0xFFFF_FFFF there is none
(R287). -/
def State.keyWordIn (s : State) (p : Port) (lch w : Nat) : State :=
  let s := s.onLine p lch fun l => { l with key := w }
  match s.lchDrop p lch with
  | none => s
  | some c0 =>
    let ch := match s.dpCopy c0 with | some (c, _) => c | none => c0
    -- a concatenated channel takes them from the port of slot ordinal 0
    if bitOf w 63 && (s.dropPlaces c0).head?.map (·.1) == some p then
      let ss := (s.lineOf p lch).ss
      let s := s.encWord ch (bitOf w 62) (bitOf w 61)
      let epoch := bits w 8 32
      let k := s.chanKey ch
      let s := s.cond (decide (k.rxNxt ≠ noSlot ∧ (s.keySlot k.rxNxt).epoch = epoch) && k.rxAnnSs.isNone) fun s =>
        (s.dropSwitch ch ss).raise Ev.CY_KEY.lateSwitch
      let ahead := (bits w 40 16 + 2 ^ 16 - ss % 2 ^ 16) % 2 ^ 16
      s.cond (bitOf w 60 && decide (ahead < 2 ^ 15 ∧ epoch = (s.chanKey ch).rxEpoch ∧ epoch ≠ 0xFFFFFFFF)) fun s =>
        s.onChanKey ch fun k => { k with rxAnnSs := some ((ss + ahead) % 2 ^ 40) }
    else s

/-- The source superframe that a dropped channel has reached is at or after `b`, on a line channel that carries it (R277, R289). -/
def State.dropSsReached (s : State) (ch b : Nat) : Bool :=
  (ch :: (if s.dpEn ch then [s.dpPartner ch] else [])).any fun c =>
    match s.dropLine c with
    | some (p, lch) => (s.lineOf p lch).known && ssReached ((s.lineOf p lch).pos / 3125 / 256) b
    | none => false

/-- No line channel of a dropped channel tells its position. -/
def State.dropLost (s : State) (ch : Nat) : Bool :=
  (ch :: (if s.dpEn ch then [s.dpPartner ch] else [])).all fun c =>
    match s.dropLine c with
    | some (p, lch) => !(s.lineOf p lch).locked
    | none => true

/-- The deadline of source superframe `n` (R289): a later tag has come on every copy that is up, or `VERDICT_WAIT` superframes have
passed since its last unit. Where the channel's position is lost, the command itself says that they have. -/
def State.verdictDue (s : State) (ch n : Nat) : Bool :=
  let d := s.dropOf ch
  let later := fun (t : Option Nat) => match t with | some m => ssReached m (n + 1) | none => false
  let copies := if s.dpEn ch then [false, true].filter (s.copyUp ch) else [false]
  (!copies.isEmpty && copies.all fun par => later (if par then d.tagPar else d.tagPri)) ||
    s.dropSsReached ch (n + 1 + s.verdictWait) || s.dropLost ch

end Sys2Proof.Machine
end

