-- ==== Sys2Proof/Machine/TimeBase.lean ====
section
/-! DEFINITION. The time bases: how they advance, step, stop and resume, and their locks (R339, R340, R342, R345, R356). -/

namespace Sys2Proof.Machine

open F

/-- Units of 2^−32 ns in a nanosecond and in a second. -/
def nsU : Nat := 2 ^ 32
def secU : Nat := 1000000000 * nsU

/-- 0.01 ns, and picoseconds, in units of 2^−32 ns. -/
def centiU (n : Int) : Int := n * (nsU : Int) / 100
def picoU (n : Int) : Int := n * (nsU : Int) / 1000

/-- Units of 2^−32 ns in units of 0.01 ns, held to a signed register of 32 bits. -/
def toCenti (u : Int) : Int := clampInt (-(2 ^ 31)) (2 ^ 31 - 1) (u * 100 / (nsU : Int))

/-- The time base `x`. -/
def State.tbOf (s : State) (x : Nat) : TimeBase := Tab.get TimeBase.init s.tb x

/-- Change the time base `x`. -/
def State.onTb (s : State) (x : Nat) (f : TimeBase → TimeBase) : State := { s with tb := Tab.upd TimeBase.init s.tb x f }

/-- `TB_RATE.ADJ` as the hardware reads it (R339). -/
def State.tbAdj (s : State) (x : Nat) : Int := clampInt (-500000000) 500000000 (s.rdI (TS_TB.TB_RATE_ADJ x))

/-- The time as one number of units of 2^−32 ns. -/
def TimeBase.total (b : TimeBase) : Nat := b.sec * secU + b.sub

/-- A time base set to a time, modulo its 48 bits of seconds. -/
def TimeBase.setTotal (b : TimeBase) (u : Int) : TimeBase :=
  let n := (u % ((2 ^ 48 * secU : Nat) : Int)).toNat
  { b with sec := n / secU, sub := n % secU }

/-- `n` TCLK cycles at a rate adjustment: each adds (1,000 / 531.25) × (1 + ADJ × 10^−12) ns (R339; log entry 41). -/
def TimeBase.advance (b : TimeBase) (adj : Int) (n : Nat) : TimeBase :=
  let num : Nat := n * 32 * nsU * (1000000000000 + adj).toNat + b.rem
  let den : Nat := 17 * 1000000000000
  { b.setTotal ((b.total + num / den : Nat) : Int) with rem := num % den, at_ := b.at_ + n }

/-- A time base as it read at a mark. -/
def TimeBase.atMark (b : TimeBase) (m : TimeMark) : TimeBase := { b with sec := m.sec, sub := m.sub, rem := m.rem, at_ := m.at_ }

/-- The time base at a TCLK count: at the rate in force now, or for a count before the last change at the rate in force then (R339,
R350); a stopped one stands still (R356). -/
def State.tbAt (s : State) (x t : Nat) : TimeBase :=
  let b := s.tbOf x
  if b.stopped then b
  else if b.at_ ≤ t then b.advance (s.tbAdj x) (t - b.at_)
  else
    match b.past.find? fun m => decide (m.at_ ≤ t) with
    | some m => (b.atMark m).advance m.adj (t - m.at_)
    | none => b

/-- The ball-referred reading of a time base at a TCLK count and a part of the next cycle, in units of 2^−32 ns (R347). -/
def State.tbRead (s : State) (x t : Nat) : Int := ((s.tbAt x t).total : Int)

/-- The instant of a command: the TCLK count goes on to it (log entry 4). -/
def State.toInstant (s : State) (t : Nat) : State := { s with tclk := max s.tclk t }

/-- Bring a time base to the last known instant, before its rate or its phase changes; what it read before is kept, as many marks as
the two changes of a management tick make in the time that a stamp may lie back (log entry 131). -/
def State.tbSettle (s : State) (x : Nat) : State :=
  let b := s.tbOf x
  if b.stopped ∨ s.tclk ≤ b.at_ then s
  else s.onTb x fun _ => { s.tbAt x s.tclk with past := (⟨b.sec, b.sub, b.rem, b.at_, s.tbAdj x⟩ :: b.past).take 8 }

/-- A phase change of a time base (R340). -/
def State.tbShift (s : State) (x : Nat) (d : Int) : State :=
  (s.tbSettle x).onTb x fun b => { b.setTotal ((b.total : Int) + d) with stepAt := s.tclk }

/-- A step (R340): applied, counted, and the first sets `VALID`. -/
def State.tbStep (s : State) (x : Nat) (d : Int) : State :=
  ((s.tbShift x d).wr (TS_TB.TB_STATUS_VALID x) 1).raise (Ev.TS_TB.stepApplied x)

/-- Write `TB_RATE.ADJ` (R339). -/
def State.setAdj (s : State) (x v : Nat) : State := (s.tbSettle x).wr (TS_TB.TB_RATE_ADJ x) v

/-- Change how a port marks its seconds. -/
def State.onPmClock (s : State) (p : Port) (f : PmClock → PmClock) : State := { s with pmClock := s.pmClock.upd p f }

/-- The second of a port in progress ends at the next one-second boundary of a time base that has become locked (R180). -/
def State.pmJoin (s : State) (x : Nat) (p : Port) : State :=
  s.onPmClock p fun k => { k with sec := (s.tbAt x s.tclk).sec, join := true }

/-- `FREQ_LOCK` and `TIME_LOCK` change with their events; the first `TIME_LOCK` sets `VALID` (R340, R342). -/
def State.setFreqLock (s : State) (x : Nat) (b : Bool) : State :=
  if s.on (TS_TB.TB_STATUS_FREQ_LOCK x) = b then s
  else
    ((s.wrB (TS_TB.TB_STATUS_FREQ_LOCK x) b).raise (if b then Ev.TS_TB.freqLockSet x else Ev.TS_TB.freqLockCleared x)).refTb x

def State.setTimeLock (s : State) (x : Nat) (b : Bool) : State :=
  if s.on (TS_TB.TB_STATUS_TIME_LOCK x) = b then s
  else
    let s := s.wrB (TS_TB.TB_STATUS_TIME_LOCK x) b
    if b then
      let s := (s.wr (TS_TB.TB_STATUS_VALID x) 1).raise (Ev.TS_TB.timeLockSet x)
      s.forEach [Port.E, Port.W] fun p s => s.cond (decide (s.rd (HB_FRAME.PM_CFG_TB_SEL p) = x)) fun s => s.pmJoin x p
    else s.raise (Ev.TS_TB.timeLockCleared x)

/-- One of the two servo instances. -/
def TimeBase.servo (b : TimeBase) (sh : Bool) : Servo := if sh then b.shadow else b.primary
def State.servoOf (s : State) (x : Nat) (sh : Bool) : Servo := (s.tbOf x).servo sh
def State.onServo (s : State) (x : Nat) (sh : Bool) (f : Servo → Servo) : State :=
  s.onTb x fun b => if sh then { b with shadow := f b.shadow } else { b with primary := f b.primary }

/-- The runs of seconds that lead to the locks start again (R342). -/
def Servo.unlock (v : Servo) : Servo := { v with freqRun := 0, freqOut := 0, timeRun := 0, timeOut := 0, freqLock := false }

/-- Both locks clear, and the runs of the steering instance that lead to them. -/
def State.tbUnlock (s : State) (x : Nat) : State :=
  ((s.onServo x (s.on (TS_TB.TB_STATUS_ACTIVE_GM x)) Servo.unlock).setTimeLock x false).setFreqLock x false

/-- An RCLK failure stops TCLK and with it every time base (R356). -/
def State.tbStopAll (s : State) : State :=
  s.forEach (List.range 4) fun x s =>
    let b := s.tbAt x s.tclk
    s.cond (!b.stopped) fun s => (s.onTb x fun _ => { b with stopped := true }).raise (Ev.TS_TB.stopped x)

/-- The return to MCLK: every stopped time base resumes at its stopped value plus the elapsed ticks, `VALID` and the locks
clear, ADJ is kept (R356). -/
def State.tbResumeAll (s : State) : State :=
  s.forEach (List.range 4) fun x s =>
    s.cond (s.tbOf x).stopped fun s =>
      let s := s.onTb x fun b =>
        { b.setTotal ((b.total + s.clock.stopTicks * 1000000 * nsU : Nat) : Int) with stopped := false, at_ := s.tclk, past := [] }
      (s.tbUnlock x).wr (TS_TB.TB_STATUS_VALID x) 0

end Sys2Proof.Machine
end

