-- ==== Sys2Proof/Machine/Pm.lean ====
section
/-! DEFINITION. Errored blocks, seconds, availability, bins and threshold crossings (R179 to R183, R186). -/

namespace Sys2Proof.Machine

open F

def State.pmOf (s : State) (e : Nat) : PmEntity := Tab.get PmEntity.init s.pm e
def State.onPm (s : State) (e : Nat) (f : PmEntity → PmEntity) : State := { s with pm := Tab.upd PmEntity.init s.pm e f }

/-- The entity of a channel. -/
def pmChan (ch : Nat) : Nat := 2 + ch

/-- An errored block of a port (R172, R179). -/
def State.erroredBlock (s : State) (p : Port) : State :=
  let s := s.raise (Ev.HB_FRAME.erroredBlock p)
  let s := s.onFrame p fun f => { f with reiCount := f.reiCount + 1 }
  s.cond (s.on (HB_FRAME.PM_CFG_PM_EN p)) fun s => s.onPm p.toNat fun e => { e with eb := e.eb + 1 }

/-- An errored block of a channel (R179). -/
def State.chanErrored (s : State) (p : Port) (ch : Nat) : State :=
  s.cond (s.on (HB_FRAME.PM_CFG_PM_EN p)) fun s => s.onPm (pmChan ch) fun e => { e with eb := e.eb + 1 }

/-- A second enters the pipeline (R181). -/
def Avail.enter (a : Avail) (x : PipeSecond) : Avail :=
  let against := if a.unavail then !x.ses else x.ses
  let run := if against then a.run + 1 else 0
  let pipe := a.pipe ++ [{ x with unavail := a.unavail }]
  if 10 ≤ run then
    let keep := pipe.length - 10
    { a with pipe := (pipe.take keep) ++ ((pipe.drop keep).map fun y => { y with unavail := !a.unavail }),
             unavail := !a.unavail, run := 0 }
  else { a with pipe := pipe, run := run }

/-- The second that is committed as another enters: the one ten before it (R181). -/
def Avail.commit (a : Avail) : Avail × Option PipeSecond :=
  if 10 < a.pipe.length then
    match a.pipe with
    | x :: t => ({ a with pipe := t, committed := x.unavail }, some x)
    | [] => (a, none)
  else (a, none)

/-- What a committed second adds, from the first of five counters: EB, BBE, ES, SES and UAS (R181). The far end has no
BBE. -/
def pmAdds (far : Bool) (x : PipeSecond) : List (Nat × Nat) :=
  let es := decide (1 ≤ x.eb)
  if far then
    if x.unavail then [(8, 1)] else [(5, x.eb), (6, bit es), (7, bit x.ses)]
  else if x.unavail then [(4, 1)]
  else [(0, x.eb), (1, if x.ses then 0 else x.eb), (2, bit es), (3, bit x.ses)]

/-- Close a bin: SUSPECT where its seconds are not all there; it becomes history 1 (R182). -/
def Bins.close (b : Bins) (full keep nextStart : Nat) : Bins :=
  ⟨{ Bin.init with start := nextStart },
    ({ b.cur with suspect := b.cur.suspect || decide (b.cur.seconds ≠ full) } :: b.hist).take keep⟩

/-- The bin that covers a second, and its place there (R182): bins start at a multiple of `full` plus `ofs`. -/
def binStart (full ofs sec : Nat) : Nat := (sec + full - ofs) / full * full + ofs - full

/-- A committed second is added to the counts of a bin. -/
def Bin.addCounts (b : Bin) (adds : List (Nat × Nat)) : Bin :=
  { b with counts := adds.foldl (fun c a => Tab.upd 0 c a.1 (· + a.2)) b.counts }

/-- A committed second joins a bin kind with period `full` and offset `ofs`; answers the counters that reach their
threshold too (R182, R183). A far-end second whose bin has closed is counted in that bin of the history (log entry 94). -/
def Bins.add (b : Bins) (full ofs keep : Nat) (thr : Nat → Nat) (near : Bool) (x : PipeSecond) : Bins × List Nat :=
  let start := binStart full ofs x.sec
  if !near && decide (start < b.cur.start) then
    ({ b with hist := b.hist.map fun h =>
        if h.start = start then { h.addCounts (pmAdds true x) with suspect := h.suspect || x.suspect } else h }, [])
  else
  let b := if b.cur.start ≠ start then
      (if b.cur.seconds = 0 then { b with cur := { b.cur with start := start } } else b.close full keep start) else b
  let c := (b.cur.addCounts (pmAdds (!near) x)).counts
  let hit := ((pmAdds (!near) x).map (·.1)).filter fun i =>
    decide (thr i ≠ 0) && decide (Tab.get 0 b.cur.counts i < thr i) && decide (thr i ≤ Tab.get 0 c i) && !b.cur.alerted.contains i
  let cur := { b.cur with counts := c, seconds := b.cur.seconds + bit near, suspect := b.cur.suspect || x.suspect,
                          alerted := b.cur.alerted ++ hit }
  let b := { b with cur := cur }
  (if near && decide ((x.sec + full - ofs) % full = full - 1) then b.close full keep (start + full) else b, hit)

/-- The thresholds of an entity: of its port page, or of `HB_CHPM` (R183). -/
def State.threshold (s : State) (e : Nat) (day : Bool) (i : Nat) : Nat :=
  if e < 2 then
    let p := Port.ofBit e
    if day then s.rd (HB_FRAME.TCA_24H_THRESH p i) else s.rd (HB_FRAME.TCA_15M_THRESH p i)
  else if i < 5 then (if day then s.rd (HB_CHPM.TCA_24H_THRESH i) else s.rd (HB_CHPM.TCA_15M_THRESH i))
  else 0

/-- 24-hour bins start at a multiple of 86,400 plus `DAY_OFS` × 900 seconds; channels follow LINE-E (R182). -/
def State.dayOffset (s : State) (e : Nat) : Nat := 900 * min 95 (s.rd (HB_FRAME.PM_CFG_DAY_OFS (Port.ofBit (if e < 2 then e else 0))))

/-- Commit a second of an entity (R181 to R183). -/
def State.commitSecond (s : State) (e : Nat) (far : Bool) (x : PipeSecond) : State :=
  let pm := s.pmOf e
  -- bins stop without a running core (R361)
  let gap (b : Bins) : Bins × List Nat := ({ b with cur := { b.cur with suspect := true } }, [])
  let q := if s.coreUp then pm.quarter.add 900 0 96 (s.threshold e false) (!far) x else gap pm.quarter
  let d := if s.coreUp then pm.day.add 86400 (s.dayOffset e) 7 (s.threshold e true) (!far) x else gap pm.day
  let s := s.onPm e fun pm => { pm with quarter := q.1, day := d.1 }
  let es := bit (!x.unavail && decide (1 ≤ x.eb))
  let ses := bit (!x.unavail && x.ses)
  let uas := bit x.unavail
  if e < 2 then
    let p := Port.ofBit e
    let s := s.raiseN (Ev.HB_FRAME.tca p) (q.2.length + d.2.length)
    if far then
      let s := ((s.raiseN (Ev.HB_FRAME.feEs p) es).raiseN (Ev.HB_FRAME.feSes p) ses).raiseN (Ev.HB_FRAME.feUas p) uas
      s.wrB (HB_FRAME.PM_STATUS_FE_UNAVAIL p) x.unavail
    else
      let s := ((s.raiseN (Ev.HB_FRAME.es p) es).raiseN (Ev.HB_FRAME.ses p) ses).raiseN (Ev.HB_FRAME.uas p) uas
      s.wrB (HB_FRAME.PM_STATUS_UNAVAIL p) x.unavail
  else
    let ch := e - 2
    let base := 0x400 + 0x10 * ch
    let s := s.raiseN Ev.HB_CHPM.tca (q.2.length + d.2.length)
    let s := s.count 21 base (if x.unavail then 0 else x.eb)
    let s := ((s.count 21 (base + 4) es).count 21 (base + 8) ses).count 21 (base + 12) uas
    let f := HB_CHPM.CH_UNAVAIL_UNAVAIL (ch / 32)
    let was := bitOf (s.rd f) (ch % 32)
    let s := s.wr f (setBit (s.rd f) (ch % 32) x.unavail)
    if x.unavail && !was then s.raise Ev.HB_CHPM.entered else if !x.unavail && was then s.raise Ev.HB_CHPM.left else s

/-- A second enters the near or far pipeline of an entity, and the one ten before it is committed (R181).
DEDUCED (log entry 94): the ten are counted in seconds of the same pipeline, so a far-end second that is followed by
skipped seconds is committed after ten further far-end seconds, not ten seconds of time later. -/
def State.enterSecond (s : State) (e : Nat) (far : Bool) (x : PipeSecond) : State :=
  let pm := s.pmOf e
  let a := ((if far then pm.far else pm.near).enter x).commit
  let s := s.onPm e fun pm => if far then { pm with far := a.1 } else { pm with near := a.1 }
  match a.2 with
  | some y => s.commitSecond e far y
  | none => s

/-- A second of errored blocks is severely errored (R180). -/
def sesOf (eb : Nat) (defect : Bool) : Bool := decide (150000 ≤ eb) || defect

/-- A port is in a defect at the moment: loss of signal, LOF (R180). -/
def State.portDefect (s : State) (p : Port) : Bool :=
  s.on (RXFE.ACQ_STATUS_LOS p) || s.on (HB_FRAME.FRM_STATUS_LOF p)

/-- The second that ended was a defect second of a port (R90, R180). -/
def State.portDefectSecond (s : State) (p : Port) : Bool :=
  (s.pmOf p.toNat).defect || s.portDefect p || (s.rx.get p).acqDefect ||
    (s.on (RXFE.RX_CTRL_RX_ENABLE p) && decide (s.acqSt p ≠ acqAcquired))

/-- SLOT_MAP_MISMATCH was present on a port in its second (R169, R180). -/
def State.portMismatchSecond (s : State) (p : Port) : Bool :=
  (s.pmOf p.toNat).smm || s.on (HB_FRAME.FRM_STATUS_SMC_MISMATCH p)

/-- The channels that are monitored: those with slots, and those with a second in progress or a history. -/
def State.pmChannels (s : State) : List Nat :=
  distinct (s.portChannels .E ++ s.portChannels .W ++ ((s.pm.filter fun e => 2 ≤ e.1).map fun e => e.1 - 2))

/-- Half a second in TCLK cycles. -/
def halfSecond : Nat := 265625000

/-- The port whose seconds the channels' seconds are: LINE-E where it is monitored, otherwise LINE-W (log entry 94). -/
def State.pmLead (s : State) : Port := if s.on (HB_FRAME.PM_CFG_PM_EN .E) then .E else .W

/-- A second of a channel that ends at TCLK count `t` is a defect second (R180). Of the other port that second counts that
has just ended, where one has, and otherwise the one in progress (log entry 94). -/
def State.chanDefectSecond (s : State) (ch t : Nat) : Bool :=
  [Port.E, Port.W].any fun q =>
    !(s.dropSlots q ch).isEmpty &&
      (if q ≠ s.pmLead ∧ t < (s.pmClock.get q).at_ + halfSecond then
        (s.pmClock.get q).lastDefect || (s.pmClock.get q).lastSmm
      else s.portDefectSecond q || s.portMismatchSecond q)

/-- The flags of a port's second at its start: the defects that are present go on into it (R180). -/
def PmEntity.next (e : PmEntity) (defect smm : Bool) : PmEntity :=
  { e with eb := 0, defect := defect, feb := 0, fdefect := false, smm := smm }

/-- A second of a port is over, monitored or not: what was present in it stands for the channels' seconds, and what is present now
goes on into the next (R180). -/
def State.portSecondOver (s : State) (p : Port) : State :=
  let defect := s.portDefectSecond p
  let smm := s.portMismatchSecond p
  (s.onPmClock p fun k => { k with lastDefect := defect, lastSmm := smm }).onPm p.toNat fun e =>
    e.next (s.portDefect p) (s.on (HB_FRAME.FRM_STATUS_SMC_MISMATCH p))

/-- A second of a monitored port has ended (R180 to R182): it and, where it is no near-end defect second, that of the far
end enter their pipelines, the far end's first, so that a second of both reaches its bin before the bin closes; with the
leading port's second end those of the channels. -/
def State.portSecond (s : State) (p : Port) (sec t : Nat) (sus : Bool) : State :=
  let pm := s.pmOf p.toNat
  let defect := s.portDefectSecond p
  let ses := sesOf pm.eb defect
  let judged := if p = s.pmLead then s.pmChannels.map fun ch =>
      let e := s.pmOf (pmChan ch)
      (ch, ({ sec := sec, eb := e.eb, ses := sesOf e.eb (s.chanDefectSecond ch t), unavail := false, suspect := sus } : PipeSecond))
    else []
  let s := (s.wr (HB_FRAME.PM_LAST_EB p) (min 1048575 pm.eb)).wrB (HB_FRAME.PM_LAST_DEFECT p) defect
  let s := (s.wrB (HB_FRAME.PM_LAST_SES p) ses).portSecondOver p
  let s := s.cond (!defect) fun s =>
    s.enterSecond p.toNat true { sec := sec, eb := pm.feb, ses := sesOf pm.feb pm.fdefect, unavail := false, suspect := sus }
  let s := s.enterSecond p.toNat false { sec := sec, eb := pm.eb, ses := ses, unavail := false, suspect := sus }
  s.forEach judged fun j s =>
    (s.onPm (pmChan j.1) fun e => { e with eb := 0 }).enterSecond (pmChan j.1) false j.2

/-- The time base that marks a port's seconds is locked (R180, R342). -/
def State.pmLocked (s : State) (p : Port) : Bool := s.on (TS_TB.TB_STATUS_TIME_LOCK (s.rd (HB_FRAME.PM_CFG_TB_SEL p)))

/-- A second of a port is over at TCLK count `t` (R180): its locked time base has passed into another second; without lock
1,000 management ticks have passed since the last boundary. -/
def State.pmDue (s : State) (p : Port) (t : Nat) : Bool :=
  if s.pmLocked p then decide ((s.tbAt (s.rd (HB_FRAME.PM_CFG_TB_SEL p)) t).sec ≠ (s.pmClock.get p).sec)
  else decide (1000 ≤ (s.pmClock.get p).ticks)

/-- The second that follows a boundary at TCLK count `t`. -/
def State.pmNext (s : State) (p : Port) (t : Nat) : PmClock → PmClock := fun k =>
  if s.pmLocked p then { k with sec := (s.tbAt (s.rd (HB_FRAME.PM_CFG_TB_SEL p)) t).sec, ticks := 0, join := false, at_ := t }
  else { k with sec := k.sec + 1, ticks := k.ticks - 1000, join := false, at_ := t }

/-- PM_SECOND (R180 to R183): a second boundary at TCLK count `t`, if one is due. Without lock seconds are numbered on from
the last one (log entry 94). -/
def execPmSecond (p : Port) (t : Nat) (s : State) : Result :=
  s.clocked <|
  .next (
    let s := s.toInstant t
    if s.pmDue p t then
      let k := s.pmClock.get p
      let locked := s.pmLocked p
      let n := s.pmNext p t
      let s := s.wrB (HB_FRAME.PM_STATUS_TB_ALIGNED p) locked
      let s := if s.on (HB_FRAME.PM_CFG_PM_EN p) then s.portSecond p k.sec t (k.join || !locked) else s.portSecondOver p
      (s.onPmClock p n).onRx p fun r =>
        { r with acqDefect := s.on (RXFE.RX_CTRL_RX_ENABLE p) && decide (s.acqSt p ≠ acqAcquired) }
    else s)

/-- The bins of an entity in progress are marked SUSPECT (R182). In the 10 s between a bin's nominal end and its close that is still
the bin of before, which the model chooses: the specification says only "during the bin" (log entry 117). -/
def State.suspectBins (s : State) (e : Nat) : State :=
  s.onPm e fun pm => { pm with quarter := { pm.quarter with cur := { pm.quarter.cur with suspect := true } },
                               day := { pm.day with cur := { pm.day.cur with suspect := true } } }

/-- `PM_CFG` written (R180, R182): monitoring that ends or starts within a bin makes it SUSPECT, and starts with an empty
second; a locked time base that is chosen anew ends the second in progress as one that has become locked. -/
def State.pmCfgWritten (s : State) (p : Port) (en : Bool) (tb : Nat) : State :=
  let s := s.cond (decide (s.on (HB_FRAME.PM_CFG_PM_EN p) ≠ en)) fun s =>
    let s := s.suspectBins p.toNat
    let s := s.forEach (s.portChannels p) fun ch s => s.suspectBins (pmChan ch)
    s.cond (s.on (HB_FRAME.PM_CFG_PM_EN p)) fun s =>
      s.onPm p.toNat fun e => e.next (s.portDefect p) (s.on (HB_FRAME.FRM_STATUS_SMC_MISMATCH p))
  s.cond (decide (s.rd (HB_FRAME.PM_CFG_TB_SEL p) ≠ tb) && s.pmLocked p) fun s => s.pmJoin (s.rd (HB_FRAME.PM_CFG_TB_SEL p)) p

end Sys2Proof.Machine
end

