-- ==== Sys2Proof/Machine/Frame.lean ====
section
/-! DEFINITION. The framer: the frame counter, the transit stage, overhead words, Dvorrov cells, bank swaps sent, the ring
vector, the symbol superframe (R158 to R176, R184, R218, R234 to R243, R249, R250, R274 to R276). -/

namespace Sys2Proof.Machine

open F

/-! ### Transit columns (R235 to R238) -/

/-- Every receive slot it names is unused (R237). -/
def State.transitUnused (s : State) (p : Port) (o : Nat) : Bool :=
  (s.transitSrcs p o).all fun i => decide ((s.rxLive p.other i).kind = 0)

/-- The rule of R235: the slots named are those of one receive line channel, all of them, in ascending order. -/
def State.transitMapOk (s : State) (p : Port) (o : Nat) : Bool :=
  match s.transitSrcs p o with
  | [] => true
  | a :: t =>
    let e := s.rxLive p.other a
    decide (e.kind ≠ 0) && (s.lchSlots p.other e.lch == a :: t)

/-- The incoming line channel of a transit line channel. -/
def State.transitIn (s : State) (p : Port) (o : Nat) : LineChan :=
  s.lineOf p.other (s.rxLive p.other ((s.transitSrcs p o).headD 0)).lch

/-- The column of 3,127 bytes: JC, data, stuff (R164, R165). -/
def column (code : Nat) (data : List Nat) : List Nat := jcByte code :: (data ++ List.replicate (3126 - data.length) 0)

/-- A column with no channel (R166). -/
def zeroColumn : List Nat := column 0 zeroUnit

/-- The code for a fill F in bytes per slot (R236). -/
def fillCode (fill : Int) : Nat := if 18 < fill then 2 else if fill < 14 then 1 else 0

/-- Bytes per slot of whole frames that a transit buffer starts with: two columns, so that a frame that comes late still finds one.
Bytes leave it a frame at a time (log entry 98). -/
def transitStart : Nat := 2 * 3125

/-- Bytes per slot of whole frames in a transit buffer. -/
def TransitChan.held (t : TransitChan) : Nat := (t.cols.headD []).length

/-- The state of the buffer at the start of an outgoing frame, when `part` bytes per slot of the incoming frame in progress have
come (R236): it starts with F = 16, F then follows the bytes that come and leave. It starts anew where it holds less than a
column (log entry 98). -/
def TransitChan.begin (t : TransitChan) (part : Nat) : TransitChan :=
  let fill : Int := 16 + ((t.held + part : Nat) : Int) - t.base
  if t.running && decide (columnBytes (fillCode fill) ≤ t.held ∧ t.held ≤ 2 * transitStart) then { t with level := fill }
  else if transitStart ≤ t.held then
    { t with cols := t.cols.map fun c => c.drop (c.length - transitStart), running := true, base := transitStart + part, level := 16 }
  else { t with running := false }

/-- The code of the next column, by the fill measured. -/
def TransitChan.code (t : TransitChan) : Nat := fillCode t.level

/-- The buffer of a squelched channel holds nothing, and starts anew (R236). -/
def TransitChan.stop (t : TransitChan) : TransitChan := { t with cols := [], entries := [], running := false }

/-- A transit line channel gives bytes: its receive slots are in use and keep the rule of R235, and the incoming port is in SYNC. -/
def State.transitLive (s : State) (p : Port) (o : Nat) : Bool :=
  !s.transitUnused p o && s.transitMapOk p o && s.on (HB_FRAME.FRM_STATUS_SYNC p.other)

/-- The buffer of a transit line channel at the start of an outgoing frame. -/
def State.transitBegin (s : State) (p : Port) (part o : Nat) : State :=
  let entries := s.transitEntries p o
  let live := s.transitLive p o
  s.onTransit p o fun t => if live && decide (t.entries = entries) then t.begin part else t.stop

/-- One transit line channel in a frame: its columns by slot, and the state after its buffer has given the bytes. A buffer
that has not started gives zeros. -/
def State.transitFrame (s : State) (p : Port) (o : Nat) : State × List (Nat × List Nat) :=
  let slots := s.transitSlots p o
  let zeros := slots.map fun i => (i, zeroColumn)
  let t := s.transitOf p o
  if s.transitUnused p o then (s.raiseN Ev.HB_RING.transitZeroed (3125 * slots.length), zeros)
  else if !s.transitMapOk p o then ((s.wr HB_RING.TRANSIT_ERR_LCH o).wr HB_RING.TRANSIT_ERR_PORT p.toNat, zeros)
  else if !s.on (HB_FRAME.FRM_STATUS_SYNC p.other) then
    (s.raiseN Ev.HB_RING.transitZeroed (3125 * slots.length), zeros)
  else if t.running then
    let code := t.code
    let n := columnBytes code
    let out := t.cols.map fun c => (c.take n).map fun b => if bitOf b 9 then 0 else b % 256
    let zeroed := (t.cols.map fun c => ((c.take n).filter fun b => bitOf b 9).length).sum
    let s := s.onTransit p o fun t => { t with cols := t.cols.map (·.drop n) }
    let s := s.raiseN Ev.HB_RING.transitZeroed zeroed
    let s := s.raiseN (Ev.HB_FRAME.justPosTx p) (if code = 1 then slots.length else 0)
    let s := s.raiseN (Ev.HB_FRAME.justNegTx p) (if code = 2 then slots.length else 0)
    (s, slots.zip (out.map (column code)))
  else (s, zeros)

/-- The transit line channels with a slot on a port. -/
def State.transitLchs (s : State) (p : Port) : List Nat :=
  distinct ((List.range 96).filterMap fun i => let e := s.txLive p i; if e.kind = 2 then some e.lch else none)

/-- Every transit line channel of a port in a frame. -/
def State.transitAll (s : State) (p : Port) : State × List (Nat × List Nat) :=
  let l := s.transitLchs p
  -- the map errors are counted once per frame (R235)
  let s' := s.raiseIf (l.any fun o => !s.transitUnused p o && !s.transitMapOk p o) Ev.HB_RING.transitMapError
  l.foldl (fun a o => let r := a.1.transitFrame p o; (r.1, a.2 ++ r.2)) (s', [])

/-- Transit slots outside RING mode, each counted once per frame (R234). -/
def State.transitOutside (s : State) (p : Port) : Nat :=
  if s.isRing then 0
  else ((List.range (s.txSlots p)).filter fun i =>
    match s.txSlotWord (s.txBank p) p i with | some w => decide ((slotEntry w).kind = 2) | none => false).length

/-! ### Words of a tag position (R170, R240 to R242, R274 to R276) -/

/-- The key word of an add channel (R275). -/
def State.keyWordOut (s : State) (ch ss : Nat) : Nat :=
  let k := s.chanKey ch
  let enc := s.txEnc ch
  let integ := s.txInteg ch
  let taken := k.switched ss
  let ann := k.annSs.isSome && ssReached ss k.annFrom && !taken
  let epoch := if taken && decide (k.txNxt ≠ noSlot) then (s.keySlot k.txNxt).epoch else k.txEpoch
  2 ^ 63 + bit enc * 2 ^ 62 + bit integ * 2 ^ 61 + bit ann * 2 ^ 60 +
    (if ann then k.annSs.getD 0 % 2 ^ 16 * 2 ^ 40 else 0) + (if enc || integ then epoch % 2 ^ 32 * 2 ^ 8 else 0)

/-- Path word, key word and tag of a position in the frame `fc`; a transit line channel gives its tag up to it. -/
def State.positionWords (s : State) (p : Port) (x fc : Nat) : State × Nat × Nat × Nat :=
  if x < 256 then
    let ch := match s.dpPrimary x with | some c => c | none => x
    -- the tag of a channel that a swap has taken off the port since is still sent (R170, R241)
    let tag := (s.addOf ch).tag
    if (s.addSlots p x).isEmpty then (s, pathWord false (bit tag.isSome) 0 0, 0, tag.getD 0)
    else
      (s, pathWord true (bit tag.isSome) 0 fc, s.keyWordOut ch (fc / 256), tag.getD 0)
  else
    let o := x - 256
    let l := s.transitIn p o
    let t := s.transitOf p o
    let open_ := s.transitLive p o && l.locked
    let live := open_ && t.running && l.valid
    let head := (l.pos + originSpan - t.held) % originSpan
    let sfc := head / 3125
    match t.tag with
    | some (n, tag) =>
      let s := s.onTransit p o fun t => { t with tag := none }
      (s, pathWord live ((sfc / 256 + 2 ^ 40 - n % 2 ^ 40) % 2 ^ 40) (head % 3125) sfc, if open_ then l.key else 0, tag)
    | none => (s, pathWord live 0 (head % 3125) sfc, if open_ then l.key else 0, 0)

/-- PROT, KEY and ITAG of the frame `fc` of a port (R161, R170, R234, R240, R249, R274). -/
def State.wordFields (s : State) (p : Port) (fc : Nat) : State × Nat × Nat × Nat :=
  let j := fc % 256
  let f := s.frame.get p
  if 192 ≤ j then
    let v := if s.isRing then Tab.get 0 s.ring.sent ((j - 192) / 2) else 0
    (s, if j % 2 = 0 then v / 2 ^ 32 else v % 2 ^ 32, 0, 0)
  else if j % 2 = 1 then (s, f.lowWord, f.lowKey, f.lowTag)
  else
    match f.posTx[j / 2]? with
    | none => (s.onFrame p fun f => { f with lowWord := 0, lowKey := 0, lowTag := 0 }, 0, 0, 0)
    | some x =>
      let r := s.positionWords p x fc
      let s := r.1.onFrame p fun f =>
        { f with lowWord := r.2.1 % 2 ^ 32, lowKey := r.2.2.1 % 2 ^ 32, lowTag := r.2.2.2 % 2 ^ 64 }
      (s, r.2.1 / 2 ^ 32, r.2.2.1 / 2 ^ 32, r.2.2.2 / 2 ^ 64)

/-! ### Dvorrov cells sent (R174, R175) -/

def State.dvOf (s : State) (p : Port) (c : Nat) : DvClass := Tab.get DvClass.init (s.frame.get p).dv c
def State.onDv (s : State) (p : Port) (c : Nat) (f : DvClass → DvClass) : State :=
  s.onFrame p fun x => { x with dv := Tab.upd DvClass.init x.dv c f }

/-- Queue a message of a class: its content and its CRC (R174). -/
def State.dvSend (s : State) (p : Port) (c : Nat) (body : List Nat) : State :=
  s.onDv p c fun d => { d with queue := d.queue ++ [body ++ bytesOf 4 (crc32 (byteBits body))] }

/-- The cell of the next frame: the first class that has a message waiting. -/
def State.nextCell (s : State) (p : Port) : State × List Nat :=
  match [1, 2, 3].filterMap fun c => ((s.dvOf p c).queue.head?).map fun m => (c, m) with
  | [] => (s, List.replicate 25 0)
  | (c, m) :: _ =>
    let d := s.dvOf p c
    let part := m.take 23
    let last := decide (m.length ≤ 23)
    let cell := (bit (!d.started) * 128 + bit last * 64 + c * 16 + d.seqTx * 2) :: part.length ::
      (part ++ List.replicate (23 - part.length) 0)
    let s := s.onDv p c fun d =>
      { d with queue := if last then d.queue.drop 1 else m.drop 23 :: d.queue.drop 1, started := !last,
               seqTx := (d.seqTx + 1) % 8 }
    (s.raiseIf last (Ev.HB_FRAME.dvSent p), cell)

/-! ### Negotiation messages (R255) -/

/-- The body of a negotiation message: everything but its CRC. -/
def negBody (typ : Nat) (m : NegMsg) : List Nat :=
  [typ, m.txn % 256, m.cause % 256, m.dir % 4] ++ bytesOf 4 m.modF ++ bytesOf 2 m.rateF ++ [m.rollF % 256, 0] ++
    bytesOf 6 m.atF ++ bytesOf 4 m.modR ++ bytesOf 2 m.rateR ++ [m.rollR % 256, 0] ++ bytesOf 6 m.atR

/-- Message types. -/
def negPropose : Nat := 1
def negAccept : Nat := 2
def negReject : Nat := 3
def negConfirm : Nat := 4
def negAbort : Nat := 5

/-- Send a negotiation message, counted (R255, R267). -/
def State.sendNeg (s : State) (p : Port) (typ : Nat) (m : NegMsg) : State :=
  let s := (s.dvSend p 2 (negBody typ m)).raise Ev.HB_RING.negSent
  let s := s.raiseIf (decide (typ = negReject)) Ev.HB_RING.rejectSent
  s.raiseIf (decide (typ = negAbort)) Ev.HB_RING.abortSent

/-- The transaction of a port as a message. -/
def State.negMsg (s : State) (p : Port) (cause : Nat) : NegMsg :=
  let n := s.neg.get p
  ⟨s.rd (HB_RING.NEG_STATUS_TXN p), cause, n.dir, n.modF, n.rateF, n.rollF, n.atF, n.modR, n.rateR, n.rollR, n.atR⟩

def State.onNeg (s : State) (p : Port) (f : Negotiation → Negotiation) : State := { s with neg := s.neg.upd p f }

/-- One CONFIRM in each of the three superframes after ACCEPT (R256). -/
def State.confirmTick (s : State) (p : Port) : State :=
  if (s.neg.get p).confirms = 0 then s
  else (s.onNeg p fun n => { n with confirms := n.confirms - 1 }).sendNeg p negConfirm (s.negMsg p 0)

/-! ### The ring vector (R249, R250) -/

/-- SEQ is newer by serial arithmetic modulo 256. -/
def seqNewer (a b : Nat) : Bool := let d := (a + 256 - b) % 256; decide (0 < d ∧ d < 128)

def ringAge (v : Nat) : Nat := bits v 56 6
def ringSeq (v : Nat) : Nat := bits v 48 8
def ringOk (v : Nat) : Bool := bitOf v 63 && decide (ringAge v ≤ 30)

/-- The kept candidate of the two ports (R250). -/
def ringBest (e w : Nat) : Option Nat :=
  if ringOk e then
    if ringOk w ∧ (ringAge w < ringAge e ∨ (ringAge w = ringAge e ∧ seqNewer (ringSeq w) (ringSeq e))) then some w else some e
  else if ringOk w then some w else none

/-- A kept entry as it is sent on: AGE + 1, SELF = 0, reserved bits 0. -/
def ringForward (v : Nat) : Nat :=
  2 ^ 63 + (ringAge v + 1) * 2 ^ 56 + bits v 22 34 * 2 ^ 22

/-- The node's own entry (R249). -/
def State.ownEntry (s : State) : Nat :=
  let e := Tab.get 0 s.ring.nbr 0
  let w := Tab.get 0 s.ring.nbr 1
  2 ^ 63 + 2 ^ 62 + s.rd HB_RING.RPT_LOCAL_SEQ * 2 ^ 48 + s.rd HB_RING.RPT_LOCAL_REQ_E * 2 ^ 45 +
    s.rd HB_RING.RPT_LOCAL_REQ_W * 2 ^ 42 + e % 32 * 2 ^ 37 + e / 32 * 2 ^ 36 + w % 32 * 2 ^ 31 + w / 32 * 2 ^ 30 +
    s.rd HB_RING.RPT_LOCAL_PLAN * 2 ^ 22

/-- The neighbour that the SELF entry received on a port names; NBR_OK clears after 4 superframes without one (R250). -/
def State.ringNeighbour (s : State) (p : Port) : State :=
  let i := p.toNat
  match (List.range 32).find? fun n => let v := Tab.get 0 s.ring.recvLast (32 * i + n); bitOf v 63 && bitOf v 62 with
  | some n =>
    let old := Tab.get 0 s.ring.nbr i
    let s := { s with ring := { s.ring with nbr := Tab.set 0 s.ring.nbr i (32 + n), noSelf := Tab.erase s.ring.noSelf i } }
    s.cond (decide (old ≠ 32 + n)) fun s => (s.bump HB_RING.RPT_LOCAL_SEQ).raise Ev.HB_RING.neighbourChanged
  | none =>
    let old := Tab.get 0 s.ring.nbr i
    let m := Tab.get 0 s.ring.noSelf i + 1
    let s := { s with ring := { s.ring with noSelf := Tab.set 0 s.ring.noSelf i (min 4 m) } }
    s.cond (decide (4 ≤ m ∧ 32 ≤ old)) fun s =>
      ({ s with ring := { s.ring with nbr := Tab.set 0 s.ring.nbr i (old % 32) } }.bump HB_RING.RPT_LOCAL_SEQ).raise
        Ev.HB_RING.neighbourChanged

/-- Another node's entry as it is sent next. -/
def State.ringEntry (s : State) (n : Nat) : State :=
  let set := fun (s : State) (v m : Nat) =>
    { s with ring := { s.ring with sent := Tab.set 0 s.ring.sent n v, missing := Tab.set 0 s.ring.missing n m } }
  match ringBest (Tab.get 0 s.ring.recvLast n) (Tab.get 0 s.ring.recvLast (32 + n)) with
  | some v => set s (ringForward v) 0
  | none =>
    let m := Tab.get 0 s.ring.missing n + 1
    if 4 ≤ m then
      (set s 0 4).raiseIf (decide (Tab.get 0 s.ring.sent n ≠ 0)) Ev.HB_RING.agedOut
    else set s (Tab.get 0 s.ring.sent n) m

/-- The neighbours that an entry names as valid are remembered: a port that no longer hears its neighbour has named it (R250, R252;
log entry 38). -/
def State.rememberNbrs (s : State) (n v : Nat) : State :=
  let s := s.cond (bitOf v 36) fun s => { s with ring := { s.ring with named := Tab.set 0 s.ring.named (2 * n) (32 + bits v 37 5) } }
  s.cond (bitOf v 30) fun s => { s with ring := { s.ring with named := Tab.set 0 s.ring.named (2 * n + 1) (32 + bits v 31 5) } }

/-- The vector is built at the start of frame 192 of LINE-E's superframe (R249, R250). -/
def State.buildVector (s : State) : State :=
  let before := s.ring.sent
  let own := s.rd HB_RING.RING_CFG_NODE_ID
  let s := (s.ringNeighbour .E).ringNeighbour .W
  let s := s.forEach ((List.range 32).filter fun n => n ≠ own) fun n s => s.ringEntry n
  let s := { s with ring := { s.ring with sent := Tab.set 0 s.ring.sent own s.ownEntry } }
  let s := s.forEach (List.range 32) fun n s => s.rememberNbrs n (Tab.get 0 s.ring.sent n)
  s.raiseIf (decide (s.ring.sent ≠ before)) Ev.HB_RING.vectorChanged

/-! ### The frame (R158 to R172) -/

def fawWord : Nat := 0x7A3CE5910DB64F28

/-- L_F, the fill and the tail of a side (R158, R159). -/
def Mode.frameLen (x : Mode) : Nat := x.infoSf / 256
def Mode.frameFill (x : Mode) : Nat := x.frameLen - 544 - 25016 * x.slots
def Mode.frameTail (x : Mode) : Nat := x.infoSf - 256 * x.frameLen

/-- RDI_CAUSE: the lowest code that applies (R172). -/
def State.rdiCause (s : State) (p : Port) : Nat :=
  let rx := s.on (RXFE.RX_CTRL_RX_ENABLE p)
  if rx ∧ s.on (RXFE.ACQ_STATUS_LOS p) then 1
  else if rx ∧ s.acqSt p ≠ acqAcquired then 2
  else if rx ∧ s.on (HB_FRAME.FRM_STATUS_LOF p) then 3
  else if rx ∧ s.on (HB_FRAME.FRM_STATUS_SMC_MISMATCH p) then 4
  else if s.on (HB_FRAME.FRM_CFG_FORCE_RDI p) then 7
  else 0

/-- The receive region of a port is enabled and not acquired (R171). -/
def State.acqReq (s : State) (p : Port) : Bool :=
  s.on (RXFE.RX_CTRL_RX_ENABLE p) && decide (s.acqSt p ≠ acqAcquired)

/-- Overhead bytes in their layout (R161). -/
def overheadBytes (fc flags rdei smap smc prot key itag : Nat) (cell : List Nat) : List Nat :=
  bytesOf 8 fawWord ++ bytesOf 6 fc ++ [flags, rdei, smap, 0] ++ bytesOf 2 smc ++ bytesOf 4 prot ++ bytesOf 4 key ++
    bytesOf 8 itag ++ cell ++ [0, 0, 0]

/-- Rows out of columns (R164). -/
def rowsOf : Nat → List (List Nat) → List Nat
  | 0, _ => []
  | n + 1, cols => cols.map (·.headD 0) ++ rowsOf n (cols.map List.tail)

/-- Invert bit `i` of a bit string. -/
def invertBit (l : List Bool) (i : Nat) : List Bool := l.modify i (!·)

/-- A transmit bank swap at the first frame of a superframe (R168, R218): the swap announced takes effect, or a request is
announced in the superframe that begins. -/
def State.txSuperframe (s : State) (p : Port) (fc : Nat) : State :=
  let s := s.onFrame p fun f => { f with posTx := s.txPositions p }
  let s := (s.onTx p fun t => { t with preCount := t.preCount + 1 }).confirmTick p
  if s.swapSt p = 2 then
    let s := s.wr (HB_FRAME.FRM_STATUS_TX_BANK p) (1 - s.txBank p)
    let s := (s.setSwapSt p 0).onFrame p fun f => { f with swapSf := some (fc / 256) }
    let s := { s with prot := { s.prot with swaps := s.prot.swaps.filter (· ≠ p.toNat) } }
    (s.sideSwapped (2 * p.toNat)).raise (Ev.HB_FRAME.swapSent p)
  else if s.swapSt p = 1 ∧ 2 ≤ (fc + 2 ^ 48 - (s.frame.get p).swapReq) % 2 ^ 48 then s.setSwapSt p 2
  else s

/-- DEPTH of a frame's record (R459): the free cells of the hub buffer, and from bit 16 the lowest fill of the port's transit
buffers, 31 if it has none. -/
def State.frameDepth (s : State) (p : Port) : Nat :=
  let fills := (s.transit.filter fun e => decide (e.1 / 256 = p.toNat) && e.2.running).map fun e => (clampInt 0 30 e.2.level).toNat
  s.freeBuffer % 2 ^ 14 + 2 ^ 16 * fills.foldl min 31

/-- The next frame of a port (R161 to R172); `part` bytes per slot have come of the frame that the other port is receiving. -/
def State.frameStart (s : State) (p : Port) (t : Instant) (part : Nat) : State :=
  let f := s.frame.get p
  let fc := if f.started then (f.fcTx + 1) % 2 ^ 48 else 0
  let wrap := f.started && decide (fc = 0)
  let s := s.onFrame p fun f => { f with fcTx := fc, started := true, restart := false,
                                         sfBits := if f.restart then [] else f.sfBits }
  let s := s.raiseIf wrap (Ev.HB_FRAME.fcWrap p)
  let s := s.tag (2 + p.toNat) t (fc / 256) (fc % 256) 0 (s.frameDepth p)
  let j := fc % 256
  let s := s.cond (decide (j = 0)) fun s => s.txSuperframe p fc
  let s := s.recordFrame p j
  let s := s.cond (decide (j = 192) && decide (p = .E) && s.isRing) fun s => s.buildVector
  let x := s.txMode p
  let n := x.slots
  -- the add side makes its units, then the words of the frame, then the transit buffers give their bytes
  let chans := distinct ((List.range 96).filterMap fun i => let e := s.txLive p i; if e.kind = 1 then some e.ch else none)
  let s := s.forEach chans fun ch s => s.makeUnits ch fc
  let s := s.forEach (s.transitLchs p) fun o s => s.transitBegin p part o
  let w := s.wordFields p fc
  let s := w.1.raiseN Ev.HB_RING.transitOutsideRing (w.1.transitOutside p)
  let r := s.transitAll p
  let s := r.1
  let cols := (List.range n).map fun i =>
    let e := s.txLive p i
    if e.kind = 1 then column 0 (s.unitFor p i e.ch)
    else if e.kind = 2 then ((r.2.find? fun y => y.1 = i).map (·.2)).getD zeroColumn
    else zeroColumn
  let c := s.nextCell p
  let s := c.1
  let f := s.frame.get p
  let cause := s.rdiCause p
  let s := s.wr (HB_FRAME.FRM_STATUS_RDI_CAUSE_TX p) cause
  let flags := bit (decide (j = 0)) * 128 + bit (decide (j = 255)) * 64 + bit (s.acqReq p) * 32
  let rdei := bit (decide (cause ≠ 0)) * 128 + cause * 16 + min 3 f.reiCount
  let smap := s.txBank p * 128 + bit (decide (s.swapSt p = 2)) * 64
  let smc := crc16 ((s.txMap p).flatMap (bitsOf 16))
  let oh := overheadBytes fc flags rdei smap smc w.2.1 w.2.2.1 w.2.2.2 c.2
  let body := byteBits oh ++ byteBits (rowsOf 3127 cols) ++ List.replicate x.frameFill false
  let fcs := bitsOf 32 (crc32 (body.drop 64))
  -- injected errors: which bit is inverted is left open (R184)
  let s' := s.onFrame p fun f => { f with reiCount := 0, injFaw := f.injFaw - 1, injFcs := f.injFcs - 1 }
  let body := if f.injFaw = 0 then body else invertBit body (s.freeVal 6)
  let s' := if f.injFaw = 0 then s' else s'.useFree
  let fcs := if f.injFcs = 0 then fcs else invertBit fcs (s'.freeVal 5)
  let s' := if f.injFcs = 0 then s' else s'.useFree
  let s' := s'.emit (.frame p fc oh)
  let s' := s'.onFrame p fun f => { f with sfBits := f.sfBits ++ body ++ fcs }
  s'.cond (decide (j = 255)) fun s => s.endSuperframe p

/-- FRAME_START (R162): the counter holds while RCLK is stopped (R316); `part` is how many bytes of each column have come of the
frame that the other port is receiving, by which the transit stage measures its fill (R236). -/
def execFrameStart (p : Port) (t : Instant) (part : Nat) (s : State) : Result :=
  .next (if s.rclkStopped then s else s.frameStart p t (min part 3126))

/-- Errors to inject: each of the next `n` frames sent carries an inverted bit (R184). A write while frames are still to come
replaces their count, which the model chooses (log entry 118). -/
def State.injectFaw (s : State) (p : Port) (n : Nat) : State := s.onFrame p fun f => { f with injFaw := n }
def State.injectFcs (s : State) (p : Port) (n : Nat) : State := s.onFrame p fun f => { f with injFcs := n }

/-- The page of a port's framer. -/
def framePage (p : Port) : Nat := 19 + p.toNat

/-- FAW_ERROR_INJECT (R184). -/
def execFawErrorInject (r : Requester) (p : Port) (n : Byte) (s : State) : Result :=
  .next (s.guarded r (framePage p) 0x044 fun s => s.injectFaw p n.toNat)

/-- FCS_ERROR_INJECT (R184). -/
def execFcsErrorInject (r : Requester) (p : Port) (n : Byte) (s : State) : Result :=
  .next (s.guarded r (framePage p) 0x044 fun s => s.injectFcs p n.toNat)

end Sys2Proof.Machine
end

