-- ==== Sys2Proof/Machine/Ring.lean ====
section
/-! DEFINITION. The ring commands: bypass, reports forced, restoration plans, rate-glide negotiation (R251 to R260). -/

namespace Sys2Proof.Machine

open F

/-! ### Chrysalis and the bypass (R259, R260) -/

/-- Both BYPASS_HOLD outputs take a level. -/
def State.setBypass (s : State) (high : Bool) : State :=
  let s := { s with pins := { s.pins with bypassHold := ⟨high, high⟩ } }
  (s.wrB HB_RING.RING_STATUS_IN_RING high).wrB HB_RING.RING_STATUS_BYPASS_HOLD high

/-- The lowest cause that refuses EMERGE; 0 where none applies (R260, R265). -/
def State.emergeRefuse (s : State) : Nat :=
  let on := [Port.E, Port.W].filter fun p => s.on (RXFE.RX_CTRL_RX_ENABLE p)
  if on.isEmpty then 1
  else if on.any fun p => decide (s.acqSt p ≠ acqAcquired) then 2
  else if on.any fun p => decide (s.txSt p ≠ txOn) then 3
  else 0

/-- `EMERGE` written (R260). -/
def State.emerge (s : State) : State :=
  if s.inRing then s
  else
    let c := s.emergeRefuse
    let s := s.wr HB_RING.RING_STATUS_EMERGE_REFUSE c
    if c = 0 then ((s.setBypass true).raise Ev.HB_RING.inRing).refPorts else s.raise Ev.HB_RING.emergeRefused

/-- IN_RING ends, by `ENTER` (cause 1) or an RCLK failure (cause 2). -/
def State.leaveRing (s : State) (cause : Nat) : State :=
  if s.inRing then (((s.setBypass false).wr HB_RING.RING_STATUS_ENTRY_CAUSE cause).raise Ev.HB_RING.chrysalis).refPorts
  else s

/-- EMERGE (R260). -/
def execEmerge (r : Requester) (s : State) : Result := .next (s.guarded r ringPage 0x044 fun s => s.emerge)

/-- ENTER (R260). -/
def execEnterRing (r : Requester) (s : State) : Result := .next (s.guarded r ringPage 0x044 fun s => s.leaveRing 1)

/-- REPORT_FORCE (R251): a write that sets or clears `FORCE_E` or `FORCE_W`. -/
def execReportForce (r : Requester) (p : Port) (on : Bool) (s : State) : Result :=
  .next (s.guarded r ringPage 0x050 fun s => s.reportForce p on)

/-! ### Failed spans and plans (R252, R253) -/

/-- The entry of a node as this node holds it: its own as it would send it, another's as it sends it on. -/
def State.nodeEntry (s : State) (n : Nat) : Nat :=
  if n = s.rd HB_RING.RING_CFG_NODE_ID then s.ownEntry else Tab.get 0 s.ring.sent n

/-- Report of a port, and plan, in an entry (R249). -/
def entryReq (v : Nat) (p : Port) : Nat := match p with | .E => bits v 45 3 | .W => bits v 42 3
def entryPlan (v : Nat) : Nat := bits v 22 8

/-- The neighbour that port `p` of node `n` names, or named while it last had one (R252; log entry 38). -/
def State.namedNbr (s : State) (n : Nat) (p : Port) : Option Nat :=
  let v := Tab.get 0 s.ring.named (2 * n + p.toNat)
  if 32 ≤ v then some (v - 32) else none

/-- The port of node `m` that ends the span from port `p` of node `n`: the port that names `n`; where both do, the port of
the other side (log entry 38). -/
def State.spanPort (s : State) (n : Nat) (p : Port) (m : Nat) : Option Port :=
  match decide (s.namedNbr m .E = some n), decide (s.namedNbr m .W = some n) with
  | true, true => some p.other
  | true, false => some .E
  | false, true => some .W
  | false, false => none

/-- The far end of the span at port `p` of node `n`, where a neighbour is named and names it back. -/
def State.spanEnd (s : State) (n : Nat) (p : Port) : Option (Nat × Port) :=
  (s.namedNbr n p).bind fun m => (s.spanPort n p m).map fun q => (m, q)

/-- The name of the span at port `p` of node `n`: the end with the lower node, as node + 256 × port (R373). -/
def State.spanName (s : State) (n : Nat) (p : Port) : Nat :=
  match s.spanEnd n p with
  | some (m, q) => if m < n then m + 256 * q.toNat else n + 256 * p.toNat
  | none => n + 256 * p.toNat

/-- The reports of both ends of the span at a node's port. -/
def State.spanReports (s : State) (n : Nat) (p : Port) : List Nat :=
  entryReq (s.nodeEntry n) p ::
    (match s.spanEnd n p with | some (m, q) => [entryReq (s.nodeEntry m) q] | none => [])

/-- The ports that reports are known of: outside RING mode the node's own two, named as node 0 (log entry 39). -/
def State.knownPorts (s : State) : List (Nat × Port) :=
  if s.isRing then
    ((List.range 32).filter fun n => bitOf (s.nodeEntry n) 63).flatMap fun n => [(n, Port.E), (n, Port.W)]
  else [(0, Port.E), (0, Port.W)]

/-- The span names with their reports. -/
def State.spanStates (s : State) : List (Nat × List Nat) :=
  s.knownPorts.map fun e =>
    if s.isRing then (s.spanName e.1 e.2, s.spanReports e.1 e.2) else (256 * e.2.toNat, [s.report? e.2])

/-- The set of failed spans, ascending: a report of an end is SF or FORCED (R252). -/
def State.failedSpans (s : State) : List Nat :=
  (s.spanStates.filter fun e => e.2.any fun r => decide (r = rptSf ∨ r = rptForced)).foldl (fun l e => addSorted l e.1) []


/-- The image of both ports' banks of one direction, by port × 96 + slot. -/
def State.bankImage (s : State) (tx : Bool) (bank : Port → Nat) : Tab Nat :=
  [Port.E, Port.W].flatMap fun p => (List.range 96).filterMap fun i =>
    (if tx then s.txSlotWord (bank p) p i else s.rxSlotWord (bank p) p i).bind fun w =>
      if w = 0 then none else some (p.toNat * 96 + i, w)

/-- The banks in normal use (R253): those in force, and for a side that has not left a plan's bank yet those of plan 0. -/
def State.normalBanks (s : State) : Plan :=
  let old := Tab.get Plan.init s.prot.plans 0
  let pick := fun (side : Nat) (now kept : Tab Nat) => [0, 1].flatMap fun p =>
    (if s.prot.away.contains (2 * p + side) then kept else now).filter fun e => e.1 / 96 = p
  ⟨[], pick 0 (s.bankImage true s.txBank) old.tx, pick 1 (s.bankImage false s.rxBank) old.rx⟩

/-- A slot that the banks in normal use carry on a port is withdrawn by its bridge's limit (R264). -/
def State.slotsWithdrawn (s : State) (p : Port) : Bool :=
  let out := fun (t : Tab Nat) (n : Nat) => t.any fun e =>
    decide (e.1 / 96 = p.toNat ∧ s.slotLimit p ≤ e.1 % 96 ∧ e.1 % 96 < n ∧ (slotEntry e.2).kind ≠ 0)
  out s.normalBanks.tx (s.txMode p).slots || out s.normalBanks.rx (s.rxMode p).slots

/-- The name of the span at the node's own port. -/
def State.ownSpan (s : State) (p : Port) : Nat :=
  if s.isRing then s.spanName (s.rd HB_RING.RING_CFG_NODE_ID) p else 256 * p.toNat

/-- The ports whose slots are withdrawn, as spans. -/
def State.withdrawnSpans (s : State) : List Nat := ([Port.E, Port.W].filter s.slotsWithdrawn).map s.ownSpan

/-- The set that the protection service acts on: the failed spans, and those on which its own port has withdrawn slots that carry
channels: their plan moves the channels (R253, R264; log entry 126). -/
def State.movedSpans (s : State) : List Nat := s.withdrawnSpans.foldl addSorted s.failedSpans

/-- Every report of the spans of a set is OK, and no slot on them is withdrawn. -/
def State.spansOk (s : State) (set : List Nat) : Bool :=
  (s.spanStates.all fun e => !set.contains e.1 || e.2.all fun r => decide (r = rptOk)) && s.withdrawnSpans.all fun e => !set.contains e

/-- Write a plan into the standby banks of both ports (R253). -/
def State.loadStandby (s : State) (pl : Plan) : State :=
  s.forEach [Port.E, Port.W] fun p s =>
    let tb := 1 - s.txBank p
    let rb := 1 - s.rxBank p
    s.forEach (List.range 96) fun i s =>
      (s.setTabWord (txSlotWin + 4 * slotIndex tb p i) (Tab.get 0 pl.tx (p.toNat * 96 + i))).setTabWord
        (rxSlotWin + 4 * slotIndex rb p i) (Tab.get 0 pl.rx (p.toNat * 96 + i))

def State.onProt (s : State) (f : ProtState → ProtState) : State := { s with prot := f s.prot }

/-- The neighbour of a port shows the plan in force here (R253). -/
def State.neighbourPlan (s : State) (p : Port) : Bool :=
  let m := Tab.get 0 s.ring.nbr p.toNat
  decide (32 ≤ m) && decide (entryPlan (s.nodeEntry (m % 32)) = s.prot.inForce)

/-- A restoration swap is requested on a port (R253). -/
def State.restoreSwap (s : State) (p : Port) : State :=
  let s := (s.onProt fun x => { x with waiting := x.waiting.filter (· ≠ p.toNat) }).swapRequest p
  s.cond (decide (s.swapSt p ≠ 0)) fun s => s.onProt fun x => { x with swaps := addSorted x.swaps p.toNat }

/-- Ports that wait for their neighbour's PLAN request their swap as it is seen; at once outside RING mode (R253, R254). -/
def State.planSwaps (s : State) : State :=
  s.forEach ([Port.E, Port.W].filter fun p => s.prot.waiting.contains p.toNat && (!s.isRing || s.neighbourPlan p)) fun p s =>
    s.restoreSwap p

/-- A plan comes into force: the standby banks, PLAN, the swaps (R253). The banks in normal use are kept as plan 0. -/
def State.applyPlan (s : State) (n : Nat) : State :=
  let s := s.cond (decide (s.prot.inForce = 0)) fun s =>
    s.onProt fun x => { x with plans := Tab.insert x.plans 0 s.normalBanks }
  let s := s.loadStandby (Tab.get Plan.init s.prot.plans n)
  let s := s.onProt fun x => { x with inForce := n, noPlan := false, waiting := [0, 1],
                                      away := if n = 0 then [0, 1, 2, 3] else x.away }
  let s := s.cond (decide (s.rd HB_RING.RPT_LOCAL_PLAN ≠ n)) fun s =>
    (s.wr HB_RING.RPT_LOCAL_PLAN n).bump HB_RING.RPT_LOCAL_SEQ
  s.planSwaps

/-- The number of the plan whose spans are exactly a set (R373). -/
def State.planFor (s : State) (set : List Nat) : Option Nat :=
  (s.prot.plans.find? fun e => decide (e.1 ≠ 0 ∧ e.2.spans = set)).map (·.1)

/-- RESTORATION_PLAN_APPLY (R253): the protection service acts on a change of the set of failed spans. -/
def execRestorationPlanApply (s : State) : Result :=
  s.served <| s.clocked <|
  .next (
    let set := s.movedSpans
    if s.prot.hold then s
    else if set = s.prot.failed then s.planSwaps
    else if set.isEmpty then
      if s.spansOk s.prot.failed then
        let s := s.onProt fun x => { x with failed := [], noPlan := false }
        if s.prot.inForce = 0 then s else s.applyPlan 0
      else s.planSwaps
    else
      let s := s.onProt fun x => { x with failed := set }
      match s.planFor set with
      | some n => s.applyPlan n
      | none => (s.onProt fun x => { x with noPlan := true }).planSwaps)

/-- PLAN_SWAP_TIMEOUT (R253): 20 ms without the neighbour's PLAN. -/
def execPlanSwapTimeout (p : Port) (s : State) : Result :=
  s.served <| .next (
    if s.prot.waiting.contains p.toNat && !s.prot.hold then s.restoreSwap p else s)

/-! ### Rate glides (R255 to R258) -/

def negIdle : Nat := 0
def negWaitAccept : Nat := 1
def negCommitted : Nat := 2
def negWaitConfirm : Nat := 3
def negStaged : Nat := 4

def State.negSt (s : State) (p : Port) : Nat := s.rd (HB_RING.NEG_STATUS_STATE p)
def State.setNeg (s : State) (p : Port) (v : Nat) : State := s.wr (HB_RING.NEG_STATUS_STATE p) v

/-- Stage TXMOD values out of a message (R255). -/
def State.stageTx (s : State) (p : Port) (mod rate roll : Nat) : State :=
  let s := (s.wr (TX.MOD_CFG_BASE p) (bits mod 0 2)).wr (TX.MOD_CFG_SHAPED p) (bits mod 2 1)
  let s := (s.wr (TX.MOD_CFG_ENTROPY_E p) (bits mod 4 9)).wr (TX.MOD_CFG_CODE_RATE p) (bits mod 16 2)
  (s.wr (TX.SYM_RATE_RATE_Q p) rate).wr (TX.SHAPE_CFG_ROLLOFF p) roll

/-- Stage RXMOD values out of a message. -/
def State.stageRx (s : State) (p : Port) (mod rate roll : Nat) : State :=
  let s := (s.wr (DEMAP.MOD_CFG_BASE p) (bits mod 0 2)).wr (DEMAP.MOD_CFG_SHAPED p) (bits mod 2 1)
  let s := (s.wr (DEMAP.MOD_CFG_ENTROPY_E p) (bits mod 4 9)).wr (DEMAP.MOD_CFG_CODE_RATE p) (bits mod 16 2)
  (s.wr (RXFE.SYM_RATE_RATE_Q p) rate).wr (RXFE.SHAPE_CFG_ROLLOFF p) roll

/-- The active TXMOD as the fields of a message. -/
def State.txModImage (s : State) (p : Port) : Nat :=
  s.rdA (TX.MOD_CFG_BASE p) + s.rdA (TX.MOD_CFG_SHAPED p) * 4 + s.rdA (TX.MOD_CFG_ENTROPY_E p) * 16 +
    s.rdA (TX.MOD_CFG_CODE_RATE p) * 65536

/-- Stage and request TXMOD at AGREED on the superframe of a frame counter (R258). -/
def State.glideTx (s : State) (p : Port) (mod rate roll fc : Nat) : State :=
  if s.groupPending p.toNat then s
  else (s.stageTx p mod rate roll).requestEclosion (31 + 8 * p.toNat) (2 ^ p.toNat) bndAgreed (fc / 256 % 65536)

/-- Stage and request RXMOD at AGREED. -/
def State.glideRx (s : State) (p : Port) (mod rate roll fc : Nat) : State :=
  if s.groupPending (4 + p.toNat) then s
  else (s.stageRx p mod rate roll).requestEclosion (33 + 8 * p.toNat) (2 ^ (4 + p.toNat)) bndAgreed (fc / 256 % 65536)

/-- Stage the changes of a transaction (R256): `tx` and `rx` say which directions change. Where a group is pending already, or a
request is refused, nothing is staged and there is no answer: the transaction then ends by its timeout (log entry 99). -/
def State.stageGlide (s : State) (p : Port) (tx rx : Option (Nat × Nat × Nat × Nat)) : Option State :=
  if (tx.isSome && s.groupPending p.toNat) || (rx.isSome && s.groupPending (4 + p.toNat)) then none
  else
    let t := match tx with | some (m, r, l, at_) => s.glideTx p m r l at_ | none => s
    let t := match rx with | some (m, r, l, at_) => t.glideRx p m r l at_ | none => t
    if (tx.isSome && !t.groupPending p.toNat) || (rx.isSome && !t.groupPending (4 + p.toNat)) then none else some t

/-- The forward and the reverse change of a port's transaction. -/
def Negotiation.fwd (n : Negotiation) : Option (Nat × Nat × Nat × Nat) :=
  if bitOf n.dir 0 then some (n.modF, n.rateF, n.rollF, n.atF) else none
def Negotiation.rev (n : Negotiation) : Option (Nat × Nat × Nat × Nat) :=
  if bitOf n.dir 1 then some (n.modR, n.rateR, n.rollR, n.atR) else none

/-- A swap announcement is coming in on a port (R168). -/
def State.rxAnnounced (s : State) (p : Port) : Bool := decide ((s.frame.get p).annCount ≠ 0)

/-- A slot in use at or above a slot count, in the bank in force or in a standby bank whose swap has been requested: a receive
bank's swap by the far end's announcement (R257, cause 2). -/
def State.slotBeyond (s : State) (p : Port) (tx : Bool) (n : Nat) : Bool :=
  let used := fun (bank : Nat) => (List.range 96).any fun i =>
    decide (n ≤ i ∧ (if tx then s.txEntry bank p i else s.rxEntry bank p i).kind ≠ 0)
  let cur := if tx then s.txBank p else s.rxBank p
  used cur || ((if tx then decide (s.swapSt p ≠ 0) else s.rxAnnounced p) && used (1 - cur))

/-- A transaction, a swap announcement or a restoration swap is in progress on a port, or its report is not OK (R257, cause 3). -/
def State.negBusy (s : State) (p : Port) : Bool :=
  decide (s.negSt p ≠ negIdle) || decide (s.swapSt p = 2) || s.rxAnnounced p || s.prot.waiting.contains p.toNat ||
    s.prot.swaps.contains p.toNat || decide (s.report? p ≠ rptOk)

/-- AT_R as the responder chooses it: `atR` superframes after its own FC and no less than 16, and the forward change reaches it
first (R256). -/
def State.responderAt (s : State) (p : Port) (m : NegMsg) (atR : Nat) : Nat :=
  let f := s.frame.get p
  let until_ := (m.atF / 256 + 2 ^ 40 - f.fcRx / 256 % 2 ^ 40) % 2 ^ 40
  (f.fcTx / 256 + max (max 16 atR) (if bitOf m.dir 0 then until_ + 1 else 0)) % 2 ^ 40 * 256

/-- The superframe of a 48-bit frame counter is one that AGREED can name from `fc` on (R256, R481). -/
def fcInRange (at_ fc : Nat) : Bool :=
  decide ((at_ / 256 % 2 ^ 40 + 2 ^ 40 - fc / 256 % 2 ^ 40) % 2 ^ 40 < 65536) && atInRange (at_ / 256 % 65536) fc

/-- AT_F, or the AT_R it asks for, is out of range (R256, R257, R481). -/
def State.negAtBad (s : State) (p : Port) (m : NegMsg) (atR : Nat) : Bool :=
  let f := s.frame.get p
  decide (m.atF % 256 ≠ 0) || !fcInRange m.atF f.fcRx || (bitOf m.dir 1 && !fcInRange (s.responderAt p m atR) f.fcTx)

/-- The cause of a REJECT, the lowest that applies; 0 where the proposal is acceptable (R257). -/
def State.rejectCause (s : State) (p : Port) (m : NegMsg) (atR : Nat) : Nat :=
  let fwd := bitOf m.dir 0
  let rev := bitOf m.dir 1
  let t := (s.cond fwd fun s => s.stageRx p m.modF m.rateF m.rollF).cond rev fun s => s.stageTx p m.modR m.rateR m.rollR
  if (fwd && !(t.rxStagedValid p && t.demapStagedValid p)) || (rev && !t.txStagedValid p) then 1
  else if (fwd && s.slotBeyond p false (t.rxModeStaged p).slots) || (rev && s.slotBeyond p true (t.txModeStaged p).slots) then 2
  else if s.negBusy p then 3
  else if s.negAtBad p m atR then 4
  else if !s.on (HB_RING.NEG_STATUS_ALLOW_SR p) &&
      ((fwd && decide (m.rateF ≠ s.rdA (RXFE.SYM_RATE_RATE_Q p))) || (rev && decide (m.rateR ≠ s.rdA (TX.SYM_RATE_RATE_Q p)))) then 5
  else 0

/-- Remember a proposal and the transmit mode before it. -/
def State.keepNeg (s : State) (p : Port) (m : NegMsg) : State :=
  (s.wr (HB_RING.NEG_STATUS_TXN p) m.txn).onNeg p fun n =>
    { n with dir := m.dir, modF := m.modF, rateF := m.rateF, rollF := m.rollF, atF := m.atF, modR := m.modR, rateR := m.rateR,
             rollR := m.rollR, atR := m.atR, oldMod := s.txModImage p, oldRate := s.rdA (TX.SYM_RATE_RATE_Q p),
             oldRoll := s.rdA (TX.SHAPE_CFG_ROLLOFF p) }

/-- A glide is requested: PROPOSE with AT_F `lead` superframes ahead, 16 to 4,096; the transaction number is the next one
(R256, log entry 40). -/
def State.propose (s : State) (p : Port) (m : NegMsg) (lead : Nat) : State :=
  if s.negSt p ≠ negIdle then s
  else
    let at_ := ((s.frame.get p).fcTx / 256 + max 16 (min 4096 lead)) % 2 ^ 40 * 256
    let m := { m with txn := (s.rd (HB_RING.NEG_STATUS_TXN p) + 1) % 256, cause := 0, atF := at_, atR := 0 }
    let s := (s.keepNeg p m).onNeg p fun n => { n with lead := lead, crossed := false, retry := false, ended := 0 }
    (s.setNeg p negWaitAccept).sendNeg p negPropose m

/-- The transaction as proposer ends. -/
def State.endNeg (s : State) (p : Port) (how : Nat) : State :=
  (s.setNeg p negIdle).onNeg p fun n => { n with ended := how, confirms := 0 }

/-- PROPOSE_RECEIVED (R256, R257): the responder's answer. Its AT_R lies `atR` superframes ahead where that is late enough. -/
def execProposeReceived (p : Port) (m : NegMsg) (atR : Nat) (s : State) : Result :=
  s.served <| s.clocked <|
  .next (
    let c := s.rejectCause p m atR
    if c ≠ 0 then
      let s := s.cond (decide (s.negSt p = negWaitAccept)) fun s => s.onNeg p fun n => { n with crossed := true }
      -- a busy port answers cause 3 (R256)
      s.sendNeg p negReject { m with cause := if s.negSt p ≠ negIdle then 3 else c }
    else
      let m := { m with atR := s.responderAt p m atR }
      ((s.keepNeg p m).setNeg p negWaitConfirm).sendNeg p negAccept m)

/-- ACCEPT_RECEIVED (R256): the proposer stages both changes and sends CONFIRM in each of the next 3 superframes. -/
def execAcceptReceived (p : Port) (m : NegMsg) (s : State) : Result :=
  s.served <| s.clocked <|
  .next (
    if s.negSt p = negWaitAccept ∧ m.txn = s.rd (HB_RING.NEG_STATUS_TXN p) then
      let t := s.onNeg p fun n => { n with atR := m.atR, confirms := 3 }
      let n := t.neg.get p
      match t.stageGlide p n.fwd n.rev with
      | some t => t.setNeg p negCommitted
      | none => s
    else s)

/-- REJECT_RECEIVED (R256): the cause is recorded; after a mutual rejection a retry is due. -/
def execRejectReceived (p : Port) (m : NegMsg) (s : State) : Result :=
  s.served <| s.clocked <|
  .next (
    let s := s.raise Ev.HB_RING.rejectReceived
    if s.negSt p = negWaitAccept ∧ m.txn = s.rd (HB_RING.NEG_STATUS_TXN p) then
      let retry := (s.neg.get p).crossed && decide (m.cause = 3)
      let s := s.wr (HB_RING.NEG_STATUS_LAST_CAUSE p) m.cause
      (s.endNeg p (if retry then 0 else 2)).onNeg p fun n => { n with retry := retry, crossed := false }
    else s)

/-- CONFIRM_RECEIVED (R256). -/
def execConfirmReceived (p : Port) (m : NegMsg) (s : State) : Result :=
  s.served <| s.clocked <|
  .next (
    if s.negSt p = negWaitConfirm ∧ m.txn = s.rd (HB_RING.NEG_STATUS_TXN p) then
      let n := s.neg.get p
      match s.stageGlide p n.rev n.fwd with
      | some t => t.setNeg p negStaged
      | none => s
    else s)

/-- A frame counter has reached a value, by serial arithmetic modulo 2^48. -/
def fcReached (fc at_ : Nat) : Bool := decide ((fc + 2 ^ 48 - at_ % 2 ^ 48) % 2 ^ 48 < 2 ^ 47)

/-- ABORT_RECEIVED (R256): what has not taken effect is withdrawn, and a transmit change that has is reverted. -/
def execAbortReceived (p : Port) (m : NegMsg) (s : State) : Result :=
  s.served <| s.clocked <|
  .next (
    let s := s.raise Ev.HB_RING.abortReceived
    if s.negSt p = negCommitted ∧ m.txn = s.rd (HB_RING.NEG_STATUS_TXN p) then
      let n := s.neg.get p
      let took := bitOf n.dir 0 && !s.groupPending p.toNat && fcReached (s.frame.get p).fcTx n.atF
      let s := s.cond (s.groupPending p.toNat) fun s => s.endRequest (31 + 8 * p.toNat) 7
      let s := s.cond (s.groupPending (4 + p.toNat)) fun s => s.endRequest (33 + 8 * p.toNat) 7
      let s := s.wr (HB_RING.NEG_STATUS_LAST_CAUSE p) m.cause
      let s := s.cond took fun s =>
        (s.glideTx p n.oldMod n.oldRate n.oldRoll (((s.frame.get p).fcTx / 256 + 4) * 256)).raise Ev.HB_RING.revert
      s.endNeg p 4
    else s)

/-- PROPOSER_TIMEOUT (R256): FC reaches AT_F − 8 superframes in WAIT_ACCEPT. -/
def execProposerTimeout (p : Port) (s : State) : Result :=
  s.served <| .next (
    if s.negSt p = negWaitAccept ∧ fcReached ((s.frame.get p).fcTx + 8 * 256) (s.neg.get p).atF then
      (s.raise Ev.HB_RING.proposerTimeout).endNeg p 3
    else s)

/-- RESPONDER_CONFIRM_TIMEOUT (R256): FC_RX reaches AT_F − 2 superframes without a CONFIRM. -/
def execResponderConfirmTimeout (p : Port) (s : State) : Result :=
  s.served <| .next (
    if s.negSt p = negWaitConfirm ∧ fcReached ((s.frame.get p).fcRx + 2 * 256) (s.neg.get p).atF then
      (s.sendNeg p negAbort (s.negMsg p 6)).setNeg p negIdle
    else s)

/-- Both boundaries of a transaction have passed: as proposer AT_F on FC and AT_R on FC_RX, as responder the other way. -/
def State.boundariesPassed (s : State) (p : Port) : Bool :=
  let n := s.neg.get p
  let f := s.frame.get p
  let (a, b) := if s.negSt p = negCommitted then (n.atF, n.atR) else (n.atR, n.atF)
  let (da, db) := if s.negSt p = negCommitted then (bitOf n.dir 0, bitOf n.dir 1) else (bitOf n.dir 1, bitOf n.dir 0)
  (!da || fcReached f.fcTx a) && (!db || fcReached f.fcRx b)

/-- GLIDE_BOUNDARIES_PASSED (R256): the proposer counts a glide. -/
def execGlideBoundariesPassed (p : Port) (s : State) : Result :=
  s.served <| s.clocked <|
  .next (
    if s.negSt p = negCommitted ∧ s.boundariesPassed p then (s.raise Ev.HB_RING.glide).endNeg p 1
    else if s.negSt p = negStaged ∧ s.boundariesPassed p then s.setNeg p negIdle
    else s)

/-- PROPOSE_RETRY_TIMER (R256): the delay after a mutual rejection has passed. -/
def execProposeRetryTimer (p : Port) (s : State) : Result :=
  s.served <| .next (
    if (s.neg.get p).retry then
      let s' := s.onNeg p fun n => { n with retry := false }
      s'.propose p (s.negMsg p 0) (s.neg.get p).lead
    else s)

end Sys2Proof.Machine
end

