-- ==== Sys2Proof/Machine/Clock.lean ====
section
/-! DEFINITION. The clock tree's health: FOSC qualification, the clock monitor, RCLK failures, the control clock, clock
gating, the probe (R313 to R324). -/

namespace Sys2Proof.Machine

open F

def ctrlFosc : Nat := 0
def ctrlMclk : Nat := 1
def ctrlXref : Nat := 2

/-- Change the clock machinery. -/
def State.onClock (s : State) (f : ClockState → ClockState) : State := { s with clock := f s.clock }

/-- FOSC has failed: XREF is the base of the monitor and the fallback of the control complex (R313, R320). -/
def State.foscFailed (s : State) : Bool := s.on CK_SYN.SYN_STATUS_FOSC_FAILED

/-- The clock of the control complex without MCLK. -/
def State.fallbackClk (s : State) : Nat := if s.foscFailed then ctrlXref else ctrlFosc

/-- Request a change of the control clock: it starts, or waits behind the one in progress (R317). -/
def State.switchClk (s : State) (c : Nat) : State :=
  match s.clock.switchTo with
  | none => if s.rd CK_SYN.SYN_STATUS_CTRL_CLK = c then s else s.onClock fun k => { k with switchTo := some c }
  | some d => s.onClock fun k => { k with switchNext := if c = d then none else some c }

/-- The control complex runs on, or is on its way to, MCLK. -/
def State.onMclk (s : State) : Bool :=
  match s.clock.switchNext, s.clock.switchTo with
  | some c, _ => decide (c = ctrlMclk)
  | none, some c => decide (c = ctrlMclk)
  | none, none => decide (s.rd CK_SYN.SYN_STATUS_CTRL_CLK = ctrlMclk)

/-- The control clock stops: only RESET_N or power-on reset resumes the device (R319, R320). -/
def State.stopControl (s : State) : State := s.onClock fun k => { k with stopped := true }

/-- What the hub has in flight on a channel, a lane or a client, and what is left once it is lost (R316). -/
def AddChan.lose (a : AddChan) : AddChan := { a with queues := [], bits := [], unitFc := none, units := [] }
def DropChan.lose (d : DropChan) : DropChan := { d with bits := [], packet := none, due := [], held := [], reports := [] }
def LineChan.lose (l : LineChan) : LineChan := { l with cols := [] }
def TransitChan.lose (t : TransitChan) : TransitChan := { t with cols := [], running := false, base := 0, level := 0, tag := none }
def Concat.lose (c : Concat) : Concat := { c with east := [], west := [], eastAt := [], westAt := [] }
def Selector.lose (x : Selector) : Selector := { x with pri := [], par := [] }
def LaneState.lose (l : LaneState) : LaneState := { l with rxBits := [], rxBlocks := [], packet := none, due := [], txq := [] }
def ClientState.lose (c : ClientState) : ClientState := { c with shared := [], head := [], egress := [] }

/-- The data in flight in the hub is lost (R316): packets queued and the cells that they hold, bytes and units between the
framers and the channels, units held until verified, verdict reports that wait. -/
def State.loseHub (s : State) : State :=
  { s with
    add := s.add.each AddChan.init AddChan.lose, drop := s.drop.each DropChan.init DropChan.lose,
    line := s.line.each LineChan.init LineChan.lose, transit := s.transit.each TransitChan.init TransitChan.lose,
    concat := s.concat.each Concat.init Concat.lose, selector := s.selector.each Selector.init Selector.lose,
    lane := s.lane.each LaneState.init LaneState.lose, client := s.client.each ClientState.init ClientState.lose,
    shared := 0, headUsed := 0, dropUsed := 0 }

/-- What an RCLK failure does at once (R316). The line and hub pages hold their counters from here on. -/
def State.failRclk (s : State) : State :=
  let s := s.wr CK_SYN.SYN_STATUS_RCLK_OK 0
  -- a second failure before the return goes on counting from the first, which stopped the time bases (R356)
  let t := if (s.tbOf 0).stopped then s.clock.stopTicks else 0
  let s := s.onClock fun k => { k with failed := true, qualifiedMs := 0, stopTicks := t, goodRun := 0, watched := false }
  let s := s.raise Ev.CK_SYN.rclkFailure
  let s := s.cond s.onMclk fun s =>
    if s.foscFailed ∧ !s.on CK_SYN.SYN_STATUS_XREF_OK then s.stopControl else s.switchClk s.fallbackClk
  let s := (s.leaveRing 2).loseHub
  let s := s.forEach [Port.E, Port.W] fun p s =>
    ((s.txCut p).rxEnableClear p).onFrame p fun f => { f with restart := f.started, sfBits := [] }
  let s := s.forEach (List.range 4) fun t s => s.abandonTask t
  s.mbxNoRclk.tbStopAll

/-- An RCLK failure: declared, or latched while the monitor is not armed (R314, R315). -/
def State.declareRclk (s : State) : State :=
  if s.on CK_SYN.SYN_STATUS_MON_ARMED then s.failRclk else s.wr CK_SYN.SYN_STATUS_PRE_ARM_FAIL 1

/-- A failure can be declared: RCLK is qualified, or none has been declared since it last was. -/
def State.failable (s : State) : Bool := s.on CK_SYN.SYN_STATUS_RCLK_OK || !s.clock.failed

/-- Requests whose permitting state ended while RCLK was stopped commit at once with `EARLY` set (R483). -/
def State.commitLate (s : State) : State :=
  s.forEach (s.ecl.filter fun e => e.2.late) fun e s => s.commit e.1 e.2 true

/-- RCLK qualifies (R314), and the domains opened meanwhile take accesses (R323): at start-up the control complex moves to MCLK,
after a failure R318 decides. TX_RAMP of the dark transmitters carries entry 15 again (R58; log entry 84). -/
def State.qualifyRclk (s : State) : State :=
  let s := (s.forceRampLow .E false).forceRampLow .W false
  let s := (s.wr CK_SYN.SYN_STATUS_RCLK_OK 1).raise Ev.CK_SYN.rclkQualified
  let s := s.onClock fun k => { k with qualifiedMs := 0, watched := true, restarting := 0 }
  (s.cond (!s.clock.failed) fun s => s.switchClk ctrlMclk).commitLate

/-- The monitor is armed (R314): a latched failure is delivered as its event. -/
def State.armMonitor (s : State) : State :=
  let s := (s.wr CK_SYN.SYN_STATUS_MON_ARMED 1).onClock fun k => { k with goodRun := 0, badRun := 0, ctrlRun := true }
  s.raiseIf (s.on CK_SYN.SYN_STATUS_PRE_ARM_FAIL) Ev.CK_SYN.rclkFailure

/-- FOSC_QUAL_WINDOW (R313): a window of 262,144 FOSC cycles ends with its count of XREF edges; `gap` where 64 consecutive
cycles passed without one. -/
def execFoscQualWindow (count : Nat) (gap : Bool) (s : State) : Result :=
  .next (
    if s.clock.released = false ∨ s.on CK_SYN.SYN_STATUS_MON_ARMED = true ∨ count < 1024 ∨ gap = true then s
    else
      let n := s.rd CK_SYN.FOSC_QUAL_ATTEMPTS
      let s := (s.wr CK_SYN.FOSC_QUAL_COUNT count).wr CK_SYN.FOSC_QUAL_ATTEMPTS (n + 1)
      let s := s.wr CK_SYN.SYN_STATUS_XREF_OK 1
      if 65536 - 1310 ≤ count ∧ count ≤ 65536 + 1310 then
        (((s.wr CK_SYN.SYN_STATUS_FOSC_QUAL 1).wr CK_SYN.SYN_STATUS_CTRL_CLK ctrlFosc).armMonitor)
      else
        let s := s.raise Ev.CK_SYN.foscFailed
        if n = 0 then (s.wr CK_SYN.FOSC_QUAL_TRIM (s.freeVal 8)).useFree
        else
          let s := (s.wr CK_SYN.SYN_STATUS_FOSC_FAILED 1).count 7 (lastingOff 7) 1
          ((s.raise Ev.CK_SYN.foscLasting).wr CK_SYN.SYN_STATUS_CTRL_CLK ctrlXref).armMonitor)

/-- RCLK_STARTUP_TIMEOUT (R314): the control complex stays on its start-up clock, also where the failure waits for the arming of the
monitor. -/
def execRclkStartupTimeout (s : State) : Result :=
  .next (
    if s.clock.released = false ∨ s.clock.startupJudged = true then s
    else
      let s := s.onClock fun k => { k with startupJudged := true }
      if s.on CK_SYN.SYN_STATUS_RCLK_OK = true ∨ s.clock.failed = true then s
      else s.declareRclk.onClock fun k => { k with failed := true })

/-- APLL_LOCK (R315): the monitor starts a fresh window. -/
def execApllLock (s : State) : Result :=
  .next ((s.wr CK_SYN.SYN_STATUS_APLL_LOCK 1).onClock fun k => { k with watched := true, goodRun := 0, badRun := 0 })

/-- APLL_LOCK_LOST (R320): declared at once where XREF is the monitor's base; otherwise the windows judge it (R315). -/
def execApllLockLost (s : State) : Result :=
  .next (
    let s := s.raiseIf (s.on CK_SYN.SYN_STATUS_APLL_LOCK) Ev.CK_SYN.apllLost
    let s := s.wr CK_SYN.SYN_STATUS_APLL_LOCK 0
    s.cond (s.foscFailed && s.clock.watched && s.failable) fun s => s.declareRclk)

/-- The control complex runs on a clock, or is on its way to it (R317). -/
def State.usesClk (s : State) (c : Nat) : Bool :=
  decide (s.rd CK_SYN.SYN_STATUS_CTRL_CLK = c ∨ s.clock.switchTo = some c ∨ s.clock.switchNext = some c)

/-- XREF is lost (R319, R320): a control complex that runs from it, or is on its way to it, stops. -/
def State.loseXref (s : State) : State :=
  let s := (s.wr CK_SYN.SYN_STATUS_XREF_OK 0).raise Ev.CK_SYN.xrefLost
  -- the sequencer stops: results hold, and none is valid (R417)
  let s := s.wr MON_SEQ.RES_VALID_VALID 0
  s.cond (s.usesClk ctrlXref) fun s => s.stopControl

/-- XREF counted against FOSC: 64 ± 8 % (R319). -/
def State.judgeXref (s : State) (n : Nat) : State :=
  let ok := decide (92 * 64 ≤ 100 * n ∧ 100 * n ≤ 108 * 64)
  let s := s.onClock fun k => { k with xrefGood := if ok then min 2 (k.xrefGood + 1) else 0,
                                       xrefBad := if ok then 0 else min 2 (k.xrefBad + 1) }
  if s.clock.xrefBad = 2 then s.cond (s.on CK_SYN.SYN_STATUS_XREF_OK) fun s => s.loseXref
  else s.cond (decide (s.clock.xrefGood = 2)) fun s => s.wr CK_SYN.SYN_STATUS_XREF_OK 1

/-- RCLK is within 13,600 ± 8 % (R315). -/
def rclkInLimits (n : Nat) : Bool := decide (92 * 13600 ≤ 100 * n ∧ 100 * n ≤ 108 * 13600)

/-- RCLK judged at the end of a window (R314, R315). -/
def State.judgeRclk (s : State) (good : Bool) : State :=
  let s := s.onClock fun k => { k with goodRun := if good then min 2 (k.goodRun + 1) else 0,
                                       badRun := if good then 0 else min 2 (k.badRun + 1) }
  if s.clock.badRun = 2 ∧ s.clock.watched ∧ s.failable then s.declareRclk
  else
    s.cond (decide (s.clock.goodRun = 2) && s.on CK_SYN.SYN_STATUS_MON_ARMED && !s.on CK_SYN.SYN_STATUS_RCLK_OK) fun s =>
      s.qualifyRclk

/-- CLOCK_MONITOR_WINDOW (R315, R319): the counts of a window, and whether some die saw its RCLK fail. -/
def execClockMonitorWindow (rclk xref : Nat) (dieBad : Bool) (s : State) : Result :=
  .next (
    if s.clock.released then
      let s := (s.wr CK_SYN.MON_COUNT_RCLK rclk).wr CK_SYN.MON_COUNT_XREF xref
      let s := s.cond (!s.foscFailed) fun s => s.judgeXref xref
      s.judgeRclk (rclkInLimits rclk && s.on CK_SYN.SYN_STATUS_APLL_LOCK && !dieBad)
    else s)

/-- XREF_GAP (R320): only where FOSC has failed is it the gap detector that watches XREF. -/
def execXrefGap (s : State) : Result :=
  .next (s.cond (s.foscFailed && s.on CK_SYN.SYN_STATUS_XREF_OK) fun s => s.loseXref)

/-- CONTROL_CLOCK_SWITCH_DONE (R317, R318): the domain runs on its new clock; with MCLK back after a failure the time bases
resume (R356). -/
def execControlClockSwitchDone (s : State) : Result :=
  .next (
    match s.clock.switchTo with
    | none => s
    | some c =>
      let s := (s.wr CK_SYN.SYN_STATUS_CTRL_CLK c).raise Ev.CK_SYN.switched
      let s := s.onClock fun k => { k with switchTo := k.switchNext, switchNext := none }
      s.cond (decide (c = ctrlMclk) && s.on CK_SYN.SYN_STATUS_RCLK_OK && s.clock.failed) fun s =>
        (s.tbResumeAll).onClock fun k => { k with failed := false })

/-- The control complex may return to MCLK (R318). -/
def State.mayReturn (s : State) : Bool := s.clock.failed && s.on CK_SYN.SYN_STATUS_RCLK_OK && !s.onMclk

/-- `RESTORE_MS` is judged: a non-zero value at or below the time elapsed returns the control complex (R318). -/
def State.judgeRestore (s : State) (elapsed : Nat) : State :=
  let n := s.rd CK_SYN.MON_CFG_RESTORE_MS
  s.cond (s.mayReturn && decide (n ≠ 0 ∧ n ≤ elapsed)) fun s => s.switchClk ctrlMclk

/-- RESTORE_TIMER (R318): the elapsed time lies within the tick that follows the last one counted. -/
def execRestoreTimer (s : State) : Result := .next (s.judgeRestore (s.clock.qualifiedMs + 1))

/-- `RETURN_NOW` written (R318). -/
def State.returnNow (s : State) : State := s.cond s.mayReturn fun s => s.switchClk ctrlMclk

/-- RETURN_NOW (R318). -/
def execReturnNow (r : Requester) (s : State) : Result := .next (s.guarded r 7 0x048 fun s => s.returnNow)

/-- HOLD_REFRESH_TIMEOUT (R319, R320): without MCLK the bypass outputs fall low, without a control clock TX_RAMP too. -/
def execHoldRefreshTimeout (s : State) : Result :=
  .next (
    let s := s.cond (s.rclkStopped || s.clock.stopped) fun s =>
      { s with pins := { s.pins with bypassHold := ⟨false, false⟩ } }.wr HB_RING.RING_STATUS_BYPASS_HOLD 0
    s.cond s.clock.stopped fun s => { s with pins := { s.pins with txZero := ⟨true, true⟩ } })

/-! ### Clock gating (R321 to R323) -/

/-- A domain is in use (R321). -/
def State.gateInUse (s : State) (d : Nat) : Bool :=
  if d < 24 then s.on (HL_LANE.LANE_CFG_ENABLE d)
  else if d = 24 ∨ d = 25 then
    let p := Port.ofBit (d - 24)
    s.on (RXFE.RX_CTRL_RX_ENABLE p) || s.on (TX.TX_CTRL_TX_ENABLE p)
  else if d = 26 then s.on MON_SEQ.SEQ_CTRL_RUN
  else (List.range 16).any fun c => s.on (DMA_ENG.CH_CTRL_RUN c)

/-- A request to the gate engine (R321, R322). -/
def State.gateRequest (s : State) (d : Nat) (close : Bool) : State :=
  if s.on CK_SYN.GATE_STATUS_BUSY then s.raise Ev.CK_SYN.gateDropped
  else if 28 ≤ d then s.wr CK_SYN.GATE_STATUS_RESULT 3
  else if close && s.gateInUse d then (s.wr CK_SYN.GATE_STATUS_RESULT 2).raise Ev.CK_SYN.gateRefused
  else (s.wr CK_SYN.GATE_STATUS_BUSY 1).onClock fun k => { k with gate := some ⟨d, close⟩ }

/-- The gate engine ends its request (R322, R323). A domain opened while RCLK is stopped waits for its clock. -/
def State.gateEnd (s : State) (d : Nat) (closed : Bool) (result : Nat) : State :=
  let s := s.wr CK_SYN.GATE_STATE_CLOSED (setBit (s.rd CK_SYN.GATE_STATE_CLOSED) d closed)
  let s := (s.wr CK_SYN.GATE_STATUS_BUSY 0).wr CK_SYN.GATE_STATUS_RESULT result
  -- the analogue parts of a closed domain lose their power (R432)
  let s := s.cond (closed && decide (d < 26) && s.on PWR_MGR.PWR_CFG_GATE_UNUSED) fun s =>
    s.wr PWR_MGR.ANALOG_READY_READY (setBit (s.rd PWR_MGR.ANALOG_READY_READY) d false)
  s.onClock fun k => { k with gate := none, restarting := setBit k.restarting d (!closed && s.rclkStopped) }

/-- GATE_CLOSE (R321, R322). -/
def execGateClose (r : Requester) (domain : Fin 32) (s : State) : Result :=
  .next (s.guarded r 7 0x050 fun s => s.gateRequest domain.val true)

/-- GATE_OPEN (R321, R323). -/
def execGateOpen (r : Requester) (domain : Fin 32) (s : State) : Result :=
  .next (s.guarded r 7 0x050 fun s => s.gateRequest domain.val false)

/-- GATE_CLOSE_COMPLETE (R322): the interface is idle, or the gate closes by force and the access that stalls ends with an
error response. -/
def execGateCloseComplete (idle : Bool) (stalled : BusAccess) (s : State) : Result :=
  .next (
    match s.clock.gate with
    | some ⟨d, true⟩ =>
      if idle then s.gateEnd d true 0
      else
        let s := (s.gateEnd d true 1).wr CK_SYN.GATE_STATUS_LAST_FORCED d
        let s := s.raise Ev.CK_SYN.gateForced
        let s := s.errorResponse stalled 1
        s.cond (!stalled.write) fun s => s.emit (.read stalled.master 0 true)
    | _ => s)

/-- GATE_OPEN_COMPLETE (R323). -/
def execGateOpenComplete (s : State) : Result :=
  .next (match s.clock.gate with | some ⟨d, false⟩ => s.gateEnd d false 0 | _ => s)

/-! ### CLKPROBE (R324) -/

/-- The smallest DIV accepted for a source; none where every DIV is refused. -/
def State.probeMin (s : State) (src : Nat) : Option Nat :=
  match src with
  | 0 => some 5
  | 1 | 2 => some 2
  | 3 | 4 | 5 | 6 | 7 => some 1
  | 8 | 9 | 10 | 11 =>
    (List.range 16).find? fun n => decide (1 ≤ n ∧ s.rd (CK_REF.REF_FREQ_FREQ_KHZ (src - 8)) ≤ 400000 * 2 ^ n)
  | _ => none

/-- A write to `PROBE_CFG`. -/
def State.probeWrite (s : State) (v : Nat) : State :=
  let src := bits v 0 4
  let div := bits v 4 4
  let ok := match s.probeMin src with | some m => decide (m ≤ probeDiv div) | none => false
  if ok then
    (((s.wr CK_SYN.PROBE_CFG_SRC src).wr CK_SYN.PROBE_CFG_DIV div).wrB CK_SYN.PROBE_CFG_EN (bitOf v 8)).wr
      CK_SYN.PROBE_CFG_REFUSED 0
  else (s.wr CK_SYN.PROBE_CFG_REFUSED 1).raise Ev.CK_SYN.probeRefused

/-- What the CLKPROBE ball carries (R324): the clock of `SRC` over 2^`DIV`; none where it is driven low. -/
def State.clkProbe (s : State) : Option (Nat × Nat) :=
  if s.on CK_SYN.PROBE_CFG_EN then some (s.rd CK_SYN.PROBE_CFG_SRC, probeDiv (s.rd CK_SYN.PROBE_CFG_DIV)) else none

/-- PROBE_CFG_WRITE (R324). -/
def execProbeCfgWrite (r : Requester) (value : Word) (s : State) : Result :=
  .next (s.guarded r 7 0x05C fun s => s.probeWrite value.toNat)

end Sys2Proof.Machine
end

