-- ==== Sys2Proof/Machine/Rs.lean ====
section
/-! DEFINITION. The code of an Ianen lane frame (R196): RS(528,514) over symbols of 10 bits. The rule takes the field and the
generator polynomials from IEEE 802.3 Clause 91 without writing them out; the ones below are PRESUMED (log entry 96). -/

namespace Sys2Proof.Machine

/-- The product of two field elements modulo x^10 + x^3 + 1. -/
def gf10Mul (a b : Nat) : Nat :=
  (List.range 10).foldl (fun r i =>
    let d := 2 * r
    (if d / 1024 % 2 = 1 then d ^^^ 0x409 else d) ^^^ (if bitOf b (9 - i) then a else 0)) 0

/-- a^n in the field, by squaring; `k` bounds the bits of n. -/
def gf10Exp : Nat → Nat → Nat → Nat
  | 0, _, _ => 1
  | k + 1, a, n => if n = 0 then 1 else
      let h := gf10Exp k (gf10Mul a a) (n / 2)
      if n % 2 = 1 then gf10Mul h a else h

/-- The inverse of a field element: its power 2^10 − 2. -/
def gf10Inv (a : Nat) : Nat := gf10Exp 10 a 1022

/-- A power of α, the root x of the field polynomial. -/
def gf10Pow (n : Nat) : Nat := gf10Exp 10 2 (n % 1023)

/-- A polynomial, highest degree first, times x + r. -/
def rsTimes (p : List Nat) (r : Nat) : List Nat :=
  (p ++ [0]).zipWith (· ^^^ ·) (0 :: p.map (gf10Mul r))

/-- The generator polynomial, highest degree first: the product of x + α^j for j from 0 to 13. -/
def rsGenerator : List Nat := ((List.range 14).map gf10Pow).foldl rsTimes [1]

/-- The 14 parity symbols of a message: the remainder of its polynomial times x^14. -/
def rsParity (msg : List Nat) : List Nat :=
  let g := rsGenerator.drop 1
  msg.foldl (fun r m =>
    let q := m ^^^ r.headD 0
    (r.drop 1 ++ [0]).zipWith (· ^^^ ·) (g.map (gf10Mul q))) (List.replicate 14 0)

/-- The 14 syndromes of a received word: its polynomial at α^j. -/
def rsSyndromes (word : List Nat) : List Nat :=
  (List.range 14).map fun j => let a := gf10Pow j; word.foldl (fun s w => gf10Mul s a ^^^ w) 0

/-- A word has zero syndrome. -/
def rsClean (word : List Nat) : Bool := (rsSyndromes word).all (· == 0)

/-- The sum of two polynomials, lowest degree first. -/
def rsSum (a b : List Nat) : List Nat :=
  (List.range (max a.length b.length)).map fun i => a.getD i 0 ^^^ b.getD i 0

/-- A polynomial, lowest degree first, at a point. -/
def rsEval (p : List Nat) (x : Nat) : Nat := p.foldr (fun c r => gf10Mul r x ^^^ c) 0

/-- A step of the Berlekamp-Massey algorithm: the locator, the last one that was lengthened with its discrepancy, the shift
since then, the length. -/
structure RsLocator where
  loc : List Nat
  prev : List Nat
  disc : Nat
  shift : Nat
  len : Nat

def rsStep (syn : List Nat) (st : RsLocator) (n : Nat) : RsLocator :=
  let d := (List.range (min st.len n + 1)).foldl (fun a i => a ^^^ gf10Mul (st.loc.getD i 0) (syn.getD (n - i) 0)) 0
  if d = 0 then { st with shift := st.shift + 1 }
  else
    let loc := rsSum st.loc (List.replicate st.shift 0 ++ st.prev.map (gf10Mul (gf10Mul d (gf10Inv st.disc))))
    if 2 * st.len ≤ n then ⟨loc, st.loc, d, 1, n + 1 - st.len⟩ else { st with loc := loc, shift := st.shift + 1 }

/-- The error evaluator: the product of syndromes and locator modulo x^14. -/
def rsEvaluator (syn loc : List Nat) : List Nat :=
  (List.range 14).map fun n => (List.range (n + 1)).foldl (fun a i => a ^^^ gf10Mul (loc.getD i 0) (syn.getD (n - i) 0)) 0

/-- The value of the error at the symbol of degree `d` (Forney). -/
def rsError (omega loc : List Nat) (d : Nat) : Nat :=
  let x := gf10Inv (gf10Pow d)
  -- the formal derivative keeps the terms of odd degree
  let deriv := (List.range 14).foldl (fun a i =>
    a ^^^ (if i % 2 = 1 then gf10Mul (loc.getD i 0) (gf10Exp 10 x (i - 1)) else 0)) 0
  gf10Mul (gf10Pow d) (gf10Mul (rsEval omega x) (gf10Inv deriv))

/-- Decode a word of 528 symbols: the corrected word and the symbols corrected; none where more than 7 are wrong. -/
def rsDecode (word : List Nat) : Option (List Nat × Nat) :=
  let syn := rsSyndromes word
  if syn.all (· == 0) then some (word, 0)
  else
    let st := (List.range 14).foldl (rsStep syn) ⟨[1], [1], 1, 1, 0⟩
    let omega := rsEvaluator syn st.loc
    let roots := (List.range word.length).filter fun d => rsEval st.loc (gf10Inv (gf10Pow d)) == 0
    if st.len ≤ 7 ∧ roots.length = st.len then
      let out := word.zipIdx.map fun e =>
        let d := word.length - 1 - e.2
        if roots.contains d then e.1 ^^^ rsError omega st.loc d else e.1
      if rsClean out then some (out, st.len) else none
    else none

/-- Symbols of 10 bits, the first bit most significant, and their bits again. -/
def rsSymbols : Nat → List Bool → List Nat
  | 0, _ => []
  | n + 1, l => (l.take 10).foldl (fun a b => 2 * a + bit b) 0 :: rsSymbols n (l.drop 10)

def rsBits (l : List Nat) : List Bool := l.flatMap fun w => (List.range 10).map fun i => bitOf w (9 - i)

end Sys2Proof.Machine
end

