-- ==== Sys2Proof/Machine/Lane.lean ====
section
/-! DEFINITION. Host lanes bit by bit: PAM4 levels, pattern generators and checkers, Ianen lane frames sent and received (R187,
R189, R195 to R202). A lane sends for the stretch of symbol times that a command brings for its receiver (log entry 96). -/

namespace Sys2Proof.Machine

open F

/-- Offset of counter `j` of lane `n` (R231). -/
def laneCnt (n j : Nat) : Nat := 0x400 + 0x20 * n + 4 * j

/-! ### PAM4 (R187) -/

/-- The level of two bits, the first in time first, Gray-coded. -/
def pam4 (a b : Bool) : Nat := match a, b with | false, false => 0 | false, true => 1 | true, true => 2 | true, false => 3

/-- The levels of bits, inverted or not. -/
def levelsOf (inv : Bool) : List Bool → List Nat
  | a :: b :: t => (if inv then 3 - pam4 a b else pam4 a b) :: levelsOf inv t
  | _ => []

/-- The bits of received levels. -/
def levelBits (inv : Bool) (l : List (Fin 4)) : List Bool :=
  l.flatMap fun v => match (if inv then 3 - v.val else v.val) with
    | 0 => [false, false] | 1 => [false, true] | 2 => [true, true] | _ => [true, false]

/-! ### Patterns (R201, R202) -/

/-- The user pattern of a lane (R226). -/
def State.laneUser (s : State) (n : Nat) : Nat := s.rd (HL_LANE.USER_HI_PATTERN n) * 2 ^ 32 + s.rd (HL_LANE.USER_LO_PATTERN n)

/-- The generator's next `k` bits; in each of the next `inject` words sent the bit `pos` is inverted. -/
def LaneState.generate (pat user pos : Nat) : Nat → LaneState → List Bool × LaneState
  | 0, l => ([], l)
  | k + 1, l =>
    let b := patternBit pat user l.test.gen
    let hit := decide (l.genAt = pos ∧ l.inject ≠ 0)
    let r := LaneState.generate pat user pos k
      { l with test := { l.test with gen := b.2 }, genAt := (l.genAt + 1) % 64, inject := if hit then l.inject - 1 else l.inject }
    ((b.1 ^^ hit) :: r.1, r.2)

/-- The generator in place of `k` bits of the lane's output (R202); which bit of a word is inverted is open (log entry 1). -/
def State.generated (s : State) (n k : Nat) : State × List Bool :=
  let l := s.hostLane n
  let r := l.generate (s.rd (HL_LANE.PRBS_CFG_GEN_PAT n)) (s.laneUser n) (s.freeVal 6) k
  ((s.cond (decide (l.inject ≠ 0)) State.useFree).onLane n fun _ => r.2, r.1)

/-- A lane has a mode: in mode 0, and in the reserved mode 3, its transmitter idles and its receiver is off (R187; log entry
122). -/
def State.laneUsed (s : State) (n : Nat) : Bool := decide (s.laneMode n = 1 ∨ s.laneMode n = 2)

/-- The lane's transmitter sends bits, or the generator's in their place (R189, R202); a disabled or unused one sends nothing. -/
def State.laneSend (s : State) (n : Nat) (l : List Bool) : State :=
  if s.laneOn n && s.laneUsed n then
    let r := if s.on (HL_LANE.PRBS_CFG_GEN_EN n) then s.generated n l.length else (s, l)
    r.1.emit (.lane n (levelsOf (s.on (HL_LANE.LANE_CFG_TX_INV n)) r.2))
  else s

/-- Received bits at the lane's checker (R201, R202). -/
def State.laneCheck (s : State) (n : Nat) (l : List Bool) : State :=
  if s.on (HL_LANE.PRBS_CFG_CHK_EN n) then
    let r := (s.hostLane n).test.checkAll (s.rd (HL_LANE.PRBS_CFG_CHK_PAT n)) (s.laneUser n)
      (s.on (HL_LANE.LANE_STATUS_PRBS_LOCK n)) l
    let s := (s.onLane n fun x => { x with test := r.test }).setLaneStatus n (HL_LANE.LANE_STATUS_PRBS_LOCK n) (bit r.lock)
    ((s.count 27 (laneCnt n 5) r.errs).count 27 (laneCnt n 6) r.units).count 27 (laneCnt n 7) r.lost
  else s

/-- `PRBS_CFG` of a lane written: a generator that is enabled, or whose pattern changes, starts from its seed; a checker that is
enabled aligns anew (R201); `s0` is the state before the write. -/
def State.prbsWritten (s0 s : State) (n : Nat) (gen chk : Bool) (pat inject : Nat) : State :=
  let now := s.rd (HL_LANE.PRBS_CFG_GEN_PAT n)
  let s := s.cond (s.on (HL_LANE.PRBS_CFG_GEN_EN n) && (!gen || decide (now ≠ pat))) fun s =>
    s.onLane n fun l => { l with test := { l.test with gen := patternSeed now }, genAt := 0 }
  let s := s.cond (s.on (HL_LANE.PRBS_CFG_CHK_EN n) && !chk) fun s =>
    (s.onLane n fun l => { l with test := { ChTest.init with gen := l.test.gen } }).setLaneStatus n (HL_LANE.LANE_STATUS_PRBS_LOCK n) 0
  s0.ethNotes (s.cond (decide (inject ≠ 0)) fun s => s.onLane n fun l => { l with inject := inject })

/-! ### Ianen lane frames sent (R195 to R197, R200) -/

/-- Data blocks of a lane frame. -/
def laneDataBlocks : Nat := 77

/-- The next enabled class in turn from class `c` on (R200). -/
def State.creditClass (s : State) (n c : Nat) : Option Nat :=
  ((List.range 8).map fun i => (c + i) % 8).find? fun k => s.fcOn n k

/-- The lane control of the next lane frame sent (R197). -/
def State.laneControlWord (s : State) (n : Nat) : Nat :=
  let l := s.hostLane n
  l.fseqTx % 256 * 2 ^ 44 + bit (s.on (HL_LANE.LANE_STATUS_FRAME_LOCK n)) * 2 ^ 43 +
    match s.creditClass n l.crNext with
    | some c => c * 2 ^ 40 + 2 ^ 39 + s.crCount n c * 2 ^ 23
    | none => 0

/-- The bits of a lane frame out of its scrambled data blocks and its lane control (R195, R196). -/
def laneFrameBits (data : List Bool) (control : Nat) : List Bool :=
  let head := [true, false]
  let ctl := (List.range 52).map (bitOf control)
  let parity := rsBits (rsParity (rsSymbols 514 (data ++ head ++ head ++ head ++ ctl)))
  data ++ head ++ ctl ++ parity.take 12 ++ head ++ (parity.drop 12).take 64 ++ head ++ parity.drop 76

/-- An Ianen lane sends its next lane frame (R195, R200). -/
def State.sendLaneFrame (s : State) (n : Nat) : State :=
  let ctl := s.laneControlWord n
  let next := s.creditClass n (s.hostLane n).crNext
  let b := s.laneBlocks laneDataBlocks n
  let r := encodeBlocks (b.1.hostLane n).scr b.2
  let s := b.1.onLane n fun l =>
    { l with scr := r.2, fseqTx := (l.fseqTx + 1) % 256, crNext := match next with | some c => (c + 1) % 8 | none => l.crNext }
  s.laneSend n (laneFrameBits r.1 ctl)

/-! ### Ianen lane frames received (R196 to R200) -/

/-- States of the Ianen receiver (R198). -/
def inBlockHunt : Nat := 0
def inFrameHunt : Nat := 1
def inFrameConfirm : Nat := 2
def inFrameLock : Nat := 3

/-- The packet in progress ends, in error or not: the hub takes it in with the next INGRESS_FRAME (R193, R198). -/
def LaneState.endPacket (l : LaneState) (error : Bool) : LaneState :=
  match l.packet with
  | none => l
  | some (b, e) => { l with packet := none, due := l.due ++ [(b, e || error, l.era)] }

/-- A data block for the hub (R199, R211). -/
def LaneState.takeBlock (l : LaneState) (m : BlockMeaning) : LaneState :=
  let put := fun (l : LaneState) (o : List Nat) => { l with packet := l.packet.map fun q => (q.1 ++ o, q.2) }
  match m with
  | .start _ => { l.endPacket true with packet := some ([], false) }
  | .data o => put l o
  | .last o => (put l o).endPacket false
  | .other => l.endPacket true

/-- FRAME_LOCK is gained or lost: status, the client's `UP`, the credits of a new entry, the packet in progress (R198, R200). -/
def State.setFrameLock (s : State) (n : Nat) (on : Bool) : State :=
  let s := s.setLaneStatus n (HL_LANE.LANE_STATUS_FRAME_LOCK n) (bit on)
  let s := s.setClientStatus n (HL_CLIENT.CLIENT_STATUS_UP n) (bit on)
  if on then s.onLane n fun l => { l with align := inFrameLock, uncorr := 0, credit := [], era := l.era + 1 }
  else (s.count 27 (laneCnt n 2) 1).onLane n fun l => l.endPacket true

/-- Lane control of a decoded frame in FRAME_LOCK (R197, R200). While the far end does not receive, the sender sends idle alone,
which ends a packet in progress: the rest of that packet is not sent (log entry 123). -/
def State.laneControl (s : State) (n control : Nat) : State :=
  let ok := bitOf control 43
  let s := s.setLaneStatus n (HL_LANE.LANE_STATUS_FAR_RX_OK n) (bit ok)
  if ok then
    s.cond (bitOf control 39) fun s => s.onLane n fun l =>
      { l with granted := Tab.set 0 l.granted (bits control 40 3) (65536 + bits control 23 16) }
  else s.onLane n fun l => { l with granted := [], sent := [], txq := [] }

/-- The codeword of 80 blocks (R196). -/
def laneCodeword (blocks : List (List Bool)) : List Nat :=
  let b := fun i => blocks.getD i []
  rsSymbols 528 ((blocks.take laneDataBlocks).flatten ++ (b 77).take 2 ++ (b 78).take 2 ++ (b 79).take 2 ++ (b 77).drop 2 ++
    (b 78).drop 2 ++ (b 79).drop 2)

/-- The lane control of a codeword. -/
def codewordControl (word : List Nat) : Nat :=
  ((((rsBits word).drop 5088).take 52).zipIdx.map fun e => bit e.1 * 2 ^ e.2).sum

/-- The data blocks of a codeword. -/
def codewordBlocks (word : List Nat) : List (List Bool) :=
  let l := rsBits word
  (List.range laneDataBlocks).map fun i => (l.drop (66 * i)).take 66

/-- The data blocks of a lane frame go to the hub; those of an uncorrectable codeword, and one whose sync header is not valid after
decoding, as error blocks (R196, R199). -/
def LaneState.takeBlocks (l : LaneState) (bad : Bool) (blocks : List (List Bool)) : LaneState :=
  blocks.foldl (fun l b =>
    let r := descramble58 l.descr (b.drop 2)
    let l := { l with descr := r.2 }
    l.takeBlock (if bad then .other else blockMeaning (b.getD 0 false) (b.getD 1 false) (bitsOctets 8 r.1))) l

/-- The descrambler runs over data blocks that do not go to the hub. -/
def LaneState.passBlocks (l : LaneState) (blocks : List (List Bool)) : LaneState :=
  { l with descr := (descramble58 l.descr (blocks.flatMap (·.drop 2))).2 }

/-- The next candidate (R198): one block later. -/
def LaneState.nextCandidate (l : LaneState) : LaneState := { l with align := inFrameHunt, cand := (l.cand + 1) % 80, skip := 1 }

/-- The 80 blocks from the candidate in force have come (R198, R199). -/
def State.laneFrameIn (s : State) (n : Nat) (blocks : List (List Bool)) : State :=
  let l := s.hostLane n
  let word := laneCodeword blocks
  let control := codewordControl word
  if l.align = inFrameHunt then
    if rsClean word then
      s.onLane n fun l => { l.passBlocks (codewordBlocks word) with align := inFrameConfirm, fseq := bits control 44 8 }
    else s.onLane n LaneState.nextCandidate
  else if l.align = inFrameConfirm then
    if rsClean word ∧ bits control 44 8 = (l.fseq + 1) % 256 then
      ((s.setFrameLock n true).laneControl n control).onLane n fun l => l.takeBlocks false (codewordBlocks word)
    else s.onLane n LaneState.nextCandidate
  else
    match rsDecode word with
    | some (w, k) =>
      let s := (s.count 27 (laneCnt n 3) k).onLane n fun l => { l with uncorr := 0 }
      (s.laneControl n (codewordControl w)).onLane n fun l => l.takeBlocks false (codewordBlocks w)
    | none =>
      let s := (s.count 27 (laneCnt n 4) 1).onLane n fun l => l.takeBlocks true (codewordBlocks word)
      if l.uncorr = 3 then (s.setFrameLock n false).onLane n fun l => { l with align := inFrameHunt, uncorr := 0 }
      else s.onLane n fun l => { l with uncorr := l.uncorr + 1 }

/-- A block outside BLOCK_HUNT joins its lane frame. -/
def State.laneBlock (s : State) (n : Nat) (b : List Bool) : State :=
  let l := s.hostLane n
  if l.skip ≠ 0 then s.onLane n fun l => { l with skip := l.skip - 1 }
  else if l.rxBlocks.length < 79 then s.onLane n fun l => { l with rxBlocks := l.rxBlocks ++ [b] }
  else (s.onLane n fun l => { l with rxBlocks := [] }).laneFrameIn n (l.rxBlocks ++ [b])

/-- Block lock is lost (R198): 24 invalid sync headers within 256 blocks. -/
def State.loseBlocks (s : State) (n : Nat) : State :=
  let was := (s.hostLane n).align
  let s := (s.setLaneBits n [(HL_LANE.LANE_STATUS_BLOCK_LOCK n, 0), (HL_LANE.LANE_STATUS_FRAME_LOCK n, 0)]).count 27 (laneCnt n 1) 1
  let s := s.cond (decide (was = inFrameLock)) fun s => s.setFrameLock n false
  s.onLane n fun l => { l with align := inBlockHunt, validRun := 0, window := 0, invalid := 0, rxBlocks := [], skip := 0 }

/-- The sync header of a block in the windows of 256 blocks. -/
def LaneState.header (l : LaneState) (valid : Bool) : LaneState :=
  let full := decide (l.window + 1 = 256)
  { l with window := if full then 0 else l.window + 1, invalid := if full then 0 else l.invalid + bit !valid }

/-- Take blocks while 66 bits are there (R198): hunting bit by bit for 128 valid sync headers in a row at one offset, then block
by block. The first argument bounds the steps. -/
def State.laneIn : Nat → State → Nat → State
  | 0, s, _ => s
  | fuel + 1, s, n =>
    let l := s.hostLane n
    if l.rxBits.length < 66 then s
    else
      let valid := l.rxBits.getD 0 false != l.rxBits.getD 1 false
      let rest := fun k => s.onLane n fun l => { l with rxBits := l.rxBits.drop k }
      if l.align = inBlockHunt then
        if valid then
          let s := (rest 66).onLane n fun x => { x with validRun := l.validRun + 1, window := 0, invalid := 0 }
          let s := s.cond (decide (128 ≤ l.validRun + 1)) fun s =>
            (s.onLane n fun l => { l with align := inFrameHunt, validRun := 0, cand := 0 }).setLaneStatus n
              (HL_LANE.LANE_STATUS_BLOCK_LOCK n) 1
          State.laneIn fuel s n
        else State.laneIn fuel ((rest 1).onLane n fun l => { l with validRun := 0 }) n
      else if 24 ≤ l.invalid + bit !valid then State.laneIn fuel ((rest 66).loseBlocks n) n
      else State.laneIn fuel (((rest 66).onLane n fun l => l.header valid).laneBlock n (l.rxBits.take 66)) n

/-- Bits received on an Ianen lane. -/
def State.ianenBits (s : State) (n : Nat) (l : List Bool) : State :=
  let s := s.onLane n fun x => { x with rxBits := x.rxBits ++ l }
  State.laneIn (s.hostLane n).rxBits.length s n

/-- IANEN_LANE_FRAME (R195 to R200): a lane frame's time on an Ianen lane: its transmitter sends a lane frame, its receiver,
with clock lock, takes in the levels that arrive. -/
def execIanenLaneFrame (n : Fin 24) (levels : List (Fin 4)) (s : State) : Result :=
  s.clocked <|
  .next (
    if s.clientIanen n.val then
      let s := s.cond (s.laneOn n.val) fun s => s.sendLaneFrame n.val
      if s.on (HL_LANE.LANE_STATUS_CDR_LOCK n.val) then
        let l := levelBits (s.on (HL_LANE.LANE_CFG_RX_INV n.val)) levels
        (s.laneCheck n.val l).ianenBits n.val l
      else s
    else s)

/-- LANE_PRBS_LOCK_CHANGE (R201, R202): a stretch of levels that a lane's checker has received, at whose end it may have locked or
lost lock; the lane's generator, if enabled, sends for as long. An Ianen lane's own decoding reads the same bits. -/
def execLanePrbsLockChange (n : Fin 24) (levels : List (Fin 4)) (s : State) : Result :=
  s.clocked <|
  .next (
    let l := levelBits (s.on (HL_LANE.LANE_CFG_RX_INV n.val)) levels
    let s := s.cond (s.on (HL_LANE.PRBS_CFG_GEN_EN n.val)) fun s => s.laneSend n.val l
    s.cond (s.laneUsed n.val && s.on (HL_LANE.LANE_STATUS_CDR_LOCK n.val)) fun s =>
      (s.laneCheck n.val l).cond (s.clientIanen n.val) fun s => s.ianenBits n.val l)

/-- LANE_PRBS_ERROR_INJECT (R201). -/
def execLanePrbsErrorInject (r : Requester) (n : Fin 24) (words : Byte) (s : State) : Result :=
  .next (s.guarded r 27 (0x050 + 0x20 * n.val) fun s => s.onLane n.val fun l => { l with inject := words.toNat })

end Sys2Proof.Machine
end

