-- ==== Sys2Proof/Machine/HostSide.lean ====
section
/-! DEFINITION. The host side: lanes, Ethernet ingress, PFC, Ianen lanes, drop delivery (R187 to R209, R221 to R224). -/

namespace Sys2Proof.Machine

open F

/-- The page of the lanes. -/
def lanePage : Nat := 27

/-! ### Delivery (R207 to R209) -/

/-- A flow context whose line was written whole (R208). -/
def State.flowWritten (s : State) (f : Nat) : Bool := (List.range 4).all fun w => (s.flowWord f w).isSome

/-- The entry of a cut-through packet in the verdict log (R291); where the verdict of its superframe has fallen already, it is
discarded on PASS and counted on FAIL at once. -/
def State.logPacket (s : State) (ch tag ss : Nat) : State :=
  let d := s.dropOf ch
  if d.passed.contains ss then s
  else if d.failed.contains ss then (s.flowCount tag 7 1).raise Ev.CY_PIPE.marked
  else s.onDrop ch fun d => { d with log := d.log ++ [(tag, ss)] }

/-- DROP_PACKET_DELIVERY (R207, R209, R291): the oldest packet that has left the stream of a channel. -/
def execDropPacketDelivery (ch : Fin 192) (s : State) : Result :=
  s.clocked <|
  .next (
    match (s.dropOf ch.val).due with
    | [] => s
    | (tag, bytes, error, ss) :: t =>
      let s := s.onDrop ch.val fun d => { d with due := t }
      if !s.on HB_FLOW.FLOW_CTRL_DROP_EN then s
      else if !s.flowWritten tag then s.checkError 0 tag
      else if !s.flowValid tag || decide (s.flowChannel tag ≠ ch.val) then s.raise Ev.HB_FLOW.dropTagMiss
      else
        let s := (s.flowCount tag 2 1).flowCount tag 3 bytes.length
        let s := s.cond error fun s => s.flowCount tag 6 1
        let s := s.cond (s.rxInteg ch.val && !s.holdRelease ch.val) fun s => s.logPacket ch.val tag ss
        s.deliver ⟨tag, s.flowTag tag, bytes, error, 0, 0, s.flowClient tag, s.flowClass tag, 0⟩)

/-! ### PFC (R222) -/

/-- A PFC frame from the host: the classes of its vector and their times in quanta. -/
def State.pfcReceived (s : State) (k vec : Nat) (times : List Nat) : State :=
  let s := s.count 28 (clientCnt k 3) 1
  let f := HL_CLIENT.CLIENT_STATUS_PAUSED k
  let v := (List.range 8).foldl (fun v c => if bitOf vec c then setBit v c (decide (times.getD c 0 ≠ 0)) else v) (s.rd f)
  let s := s.setClientStatus k f v
  s.forEach ((List.range 8).filter fun c => !bitOf v c) fun c s => s.flushEgress k c

/-- PFC_FRAME_RECEIVED (R222). -/
def execPfcFrameReceived (k : Fin 24) (vec : Byte) (times : List (BitVec 16)) (s : State) : Result :=
  s.clocked <|
  .next (s.pfcReceived k.val vec.toNat (times.map (·.toNat)))

/-- PFC_PAUSE_EXPIRY (R222): the pause time of a class has run out. -/
def execPfcPauseExpiry (k : Fin 24) (c : Fin 8) (s : State) : Result :=
  s.clocked <|
  .next (
    let f := HL_CLIENT.CLIENT_STATUS_PAUSED k.val
    (s.setClientStatus k.val f (setBit (s.rd f) c.val false)).flushEgress k.val c.val)

/-- PFC_REPEAT_TIMER (R222): 32,768 bit times have passed in XOFF. -/
def execPfcRepeatTimer (k : Fin 24) (c : Fin 8) (s : State) : Result :=
  s.clocked <|
  .next (
    if s.xoffOn k.val c.val then
      if s.rd HB_BUF.PFC_THR_XON < Tab.get 0 (s.clientOf k.val).shared c.val then s.sendPfc k.val c.val 0xFFFF
      else s.sendPfc k.val c.val 0
    else s)

/-! ### Ingress (R193, R204 to R206, R221 to R224) -/

/-- Two bytes of a frame as a number. -/
def word16 (l : List Nat) (i : Nat) : Nat := l.getD i 0 * 256 + l.getD (i + 1) 0

/-- Where an add packet's cells come from: shared cells, headroom cells; none where it is discarded (R222 to R224). -/
inductive CellPlan where
  | shared
  | headroom
  | drop
  | overrun
  deriving DecidableEq, Repr

/-- Cells of headroom that a client uses. -/
def State.headInUse (s : State) (k : Nat) : Nat := ((s.clientOf k).head.map (·.2)).sum

/-- The plan for `n` cells of class `c` of client `k`. -/
def State.cellPlan (s : State) (k c n : Nat) : CellPlan :=
  let fits := decide (s.headInUse k + n ≤ s.headroom k)
  if s.fcOn k c && (s.clientIanen k || s.xoffOn k c) then (if fits then .headroom else .overrun)
  else if s.sharedPool < s.shared + n then .drop
  else .shared

/-- Queue an add packet, or discard it (R210, R222 to R224); a discarded Ianen packet gives back its credit (log entry 123). -/
def State.queueAdd (s : State) (ch : Nat) (k : Packet) : State :=
  let n := cellsOf k.bytes.length
  let back := fun (s : State) => s.grant k.client k.tclass n k.era
  let discard := fun (s : State) => back ((s.flowCount k.flow 5 1).raise Ev.HB_BUF.addDropped)
  if (s.addPlaces ch).isEmpty then discard s
  else
    match s.cellPlan k.client k.tclass n with
    | .drop => discard s
    | .overrun => back ((s.flowCount k.flow 5 1).raise Ev.HB_BUF.headroomOverrun)
    | plan =>
      let sh := if plan = .shared then n else 0
      let hd := n - sh
      let s := ({ s with shared := s.shared + sh, headUsed := s.headUsed + hd }).notePool
      let s := s.onClient k.client fun c =>
        { c with shared := Tab.upd 0 c.shared k.tclass (· + sh), head := Tab.upd 0 c.head k.tclass (· + hd) }
      let s := s.onAdd ch fun a =>
        { a with queues := Tab.upd [] a.queues k.tclass (· ++ [{ k with shared := sh, head := hd }]) }
      let s := (s.flowCount k.flow 0 1).flowCount k.flow 1 k.bytes.length
      let s := s.cond k.error fun s => s.flowCount k.flow 6 1
      s.cond (!s.clientIanen k.client && s.fcOn k.client k.tclass && !s.xoffOn k.client k.tclass &&
          decide (s.rd HB_BUF.PFC_THR_XOFF < Tab.get 0 (s.clientOf k.client).shared k.tclass)) fun s =>
        s.sendPfc k.client k.tclass 0xFFFF

/-- The token bucket of a flow tested for a packet (R206): the state with the tokens that remain, and whether it passes.
`ns` is the time since its last packet, in which the bucket gains `CIR` hundredths of a bit per ns; the first packet of a burst
passes on any token and is charged at its end. -/
def State.police (s : State) (flow len ns : Nat) (first : Bool) : State × Bool :=
  let cir := match s.flowWord flow 2 with | some w => bits w 0 18 | none => 0
  let cbs : Int := 51200 * (match s.flowWord flow 3 with | some w => bits w 0 16 | none => 0)
  if cir = 0 then (s, true)
  else
    let have_ := min cbs (((s.bucket.find? fun e => e.1 = flow).map (·.2)).getD cbs + (cir * ns : Nat))
    let cost : Int := (800 * len : Nat)
    let ok := decide (cost ≤ have_) || (first && decide (0 < have_))
    ({ s with bucket := Tab.insert s.bucket flow (if ok then have_ - cost else have_) }, ok)

/-- The VLAN map index and PCP of a frame of client `k` (R204). -/
def State.vlanIndex (s : State) (k : Nat) (b : List Nat) : Nat × Nat :=
  let tpid := if s.on (HL_CLIENT.CLIENT_CFG_TPID_SEL k) then 0x88A8 else 0x8100
  if word16 b 12 = tpid then
    let tci := word16 b 14
    (k * 4096 + tci % 4096, tci / 8192)
  else (k * 4096 + 4095, s.rd (HL_CLIENT.CLIENT_CFG_DEF_PCP k))

/-- Classify, police and queue a frame (R204 to R206, R208); `era` is the entry into FRAME_LOCK after which an Ianen packet came. -/
def State.classifyFrame (s : State) (k : Nat) (b : List Nat) (error : Bool) (ns : Nat) (first : Bool) (era : Nat) : State :=
  let v := s.vlanIndex k b
  match s.vlanWord v.1 with
  | none => s.checkError 1 v.1
  | some w =>
    if !bitOf w 0 then s.raise Ev.HB_FLOW.vlanMiss
    else
      let flow := (bits w 2 14 + (if bitOf w 1 then v.2 else 0)) % 16384
      if !s.flowWritten flow then s.checkError 0 flow
      else if !s.flowValid flow || decide (s.flowClient flow ≠ k) then s.raise Ev.HB_FLOW.vlanMiss
      else
        let r := s.police flow b.length ns first
        if !r.2 then (r.1.flowCount flow 4 1).grant k (s.flowClass flow) (cellsOf b.length) era
        else r.1.queueAdd (s.flowChannel flow)
          ⟨flow, s.flowTag flow, b, error, 0, 0, k, s.flowClass flow, era⟩

/-- A frame of client `k` at the hub, from the destination address to the FCS (R193); `broken` marks one that the lane or the PCS
ended in error, `ns` and `first` are for the policer, `era` is that of an Ianen packet. -/
def State.frameIn (s : State) (k : Nat) (b : List Nat) (broken : Bool) (ns : Nat) (first : Bool) (era : Nat) : State :=
  let n := b.length
  let error := broken || decide (n < 64) || decide (s.maxFrame k < n) || decide (b.drop (n - 4) ≠ ethFcs (b.take (n - 4)))
  let s := s.cond error fun s => s.count 28 (clientCnt k 0) 1
  if word16 b 12 = 0x8808 then
    if word16 b 14 = 0x0101 ∧ !error ∧ !s.clientIanen k then
      s.pfcReceived k (b.getD 17 0) ((List.range 8).map fun c => word16 b (18 + 2 * c))
    else s.count 28 (clientCnt k 1) 1
  else if s.on HB_FLOW.FLOW_CTRL_ADD_EN then s.classifyFrame k b error ns first era
  else s

/-- INGRESS_FRAME (R192, R193): a frame of Ethernet client `k`; `corr` and `uncorr` count what the FEC corrected and could not
correct since the last frame. Of an Ianen client it takes in the oldest packet that its lane frames have brought (R198; log
entry 96): the bytes of the command are those of an Ethernet client. -/
def execIngressFrame (k : Fin 24) (bytes : List Byte) (broken : Bool) (ns : Nat) (first : Bool) (corr uncorr : Nat) (s : State) :
    Result :=
  s.clocked <|
  .next (
    if s.clientOn k.val && s.clientWhole k.val then
      if s.clientIanen k.val then
        match (s.hostLane k.val).due with
        | [] => s
        | (b, e, era) :: t => (s.onLane k.val fun l => { l with due := t }).frameIn k.val b e ns first era
      else
        ((s.count 28 (clientCnt k.val 4) corr).count 28 (clientCnt k.val 5) uncorr).frameIn k.val (bytes.map (·.toNat)) broken ns
          first 0
    else s)

/-! ### Lanes (R188 to R190, R201, R221) -/

/-- `ENABLE` set (R189, R221): refused where the headroom would not fit; else the stream of the mode starts at once, and packets
that wait for the transmitter leave. -/
def State.laneEnable (s : State) (n : Nat) : State :=
  if s.totalHeadroom (s.laneClient n) + s.rd HB_BUF.BUF_CFG_DROP_RESERVE > bufferCells then
    ((s.wr (HL_LANE.LANE_CFG_ENABLE n) 0).wr HB_BUF.BUF_STATUS_HR_REFUSED 1).raise Ev.HB_BUF.enableRefused
  else
    let t := ((s.wr (HL_LANE.LANE_CFG_ENABLE n) 1).wr HB_BUF.BUF_STATUS_HR_REFUSED 0).refLane n
    match s.laneClient n with
    | some k => (s.ethNote t k).flushClient k
    | none => t

/-- `ENABLE` cleared (R189): the transmitter stops at the next block boundary; the rest of an Ianen packet in progress is not sent
(log entry 123). -/
def State.laneDisable (s : State) (n : Nat) : State :=
  s.ethNotes (((s.wr (HL_LANE.LANE_CFG_ENABLE n) 0).refLane n).onLane n fun l => { l with txq := [] })

/-- LANE_ENABLE (R221). -/
def execLaneEnable (r : Requester) (n : Fin 24) (s : State) : Result :=
  .next (s.guarded r lanePage (0x040 + 0x20 * n.val) fun s => s.laneEnable n.val)

/-- LANE_DISABLE (R189). -/
def execLaneDisable (r : Requester) (n : Fin 24) (s : State) : Result :=
  .next (s.guarded r lanePage (0x040 + 0x20 * n.val) fun s => s.laneDisable n.val)

/-- `RX_EQ.PEAK`, at most 36 (R226). -/
def State.peak (s : State) (n : Nat) : Nat := min 36 (s.rd (HL_LANE.RX_EQ_PEAK n))

/-- Status bits of a lane change with its clock lock, which a SYNCE input may rest on (R190, R326). -/
def State.setReceiver (s : State) (n : Nat) (l : List (Field × Nat)) : State := (s.setLaneBits n l).refLane n

/-- CDR_LOCK_ACQUIRED (R188, R190): the receiver of an unused lane is off (R187). -/
def execCdrLockAcquired (n : Fin 24) (s : State) : Result :=
  s.clocked <|
  .next (
    if s.laneUsed n.val then
      let s := s.setReceiver n.val [(HL_LANE.LANE_STATUS_SIG n.val, 1), (HL_LANE.LANE_STATUS_CDR_LOCK n.val, 1)]
      if s.on (HL_LANE.RX_EQ_AUTO n.val) then s.onLane n.val fun l => { l with sweeping := true }
      else s.wr (HL_LANE.RX_EQ_PEAK_USED n.val) (s.peak n.val)
    else s)

/-- PEAKING_SWEEP_DONE (R188): `code` is the code with the largest eye metric. -/
def execPeakingSweepDone (n : Fin 24) (code : Fin 37) (s : State) : Result :=
  s.clocked <|
  .next (
    if (s.hostLane n.val).sweeping then
      (s.onLane n.val fun l => { l with sweeping := false }).wr (HL_LANE.RX_EQ_PEAK_USED n.val) code.val
    else s)

/-- Local and remote fault and `UP` of an Ethernet client (R190, R192, R227): for as long as there is local fault the device sends
remote fault, and packets leave again once both have cleared. -/
def State.linkStatus (s : State) (k : Nat) (up lf rf : Bool) : State :=
  let t := s.setClientBits k [(HL_CLIENT.CLIENT_STATUS_LF k, bit lf), (HL_CLIENT.CLIENT_STATUS_RF k, bit rf),
    (HL_CLIENT.CLIENT_STATUS_UP k, bit up)]
  (s.ethNote t k).cond (!lf && !rf) fun s => s.flushClient k

/-- A lane without clock lock (R190): the packet in progress ends with an error block, an Ethernet PCS signals local fault. -/
def State.laneCut (s : State) (n : Nat) (part : List Nat) (ns : Nat) (first : Bool) : State :=
  match s.laneClient n with
  | none => s
  | some k =>
    if s.clientIanen k then s.onLane n fun l => l.endPacket true
    else
      let s := s.linkStatus k false true (s.on (HL_CLIENT.CLIENT_STATUS_RF k))
      s.cond (s.clientOn k && s.clientWhole k && !part.isEmpty) fun s => s.frameIn k part true ns first 0

/-- CDR_LOCK_LOST (R190); `sig` tells whether a signal is still detected, `part` is what has come of an Ethernet frame in progress,
none where there is no such frame, `ns` and `first` are for its policer. -/
def execCdrLockLost (n : Fin 24) (sig : Bool) (part : List Byte) (ns : Nat) (first : Bool) (s : State) : Result :=
  s.clocked <|
  .next (
    let held := s.on (HL_LANE.LANE_STATUS_CDR_LOCK n.val)
    let sig := sig && s.laneUsed n.val
    let s := s.setReceiver n.val [(HL_LANE.LANE_STATUS_SIG n.val, bit sig), (HL_LANE.LANE_STATUS_CDR_LOCK n.val, 0)]
    if held then
      let s := s.count 27 (laneCnt n.val 0) 1
      (s.onLane n.val fun l => { l with sweeping := false }).laneCut n.val (part.map (·.toNat)) ns first
    else s)

/-- PCS_ALIGNMENT_CHANGE (R190, R192, R227): without alignment there is local fault. A client with fewer lanes than its rate takes
has no PCS (R191). -/
def execPcsAlignmentChange (k : Fin 24) (aligned lf rf : Bool) (s : State) : Result :=
  s.clocked <|
  .next (
    if s.clientIanen k.val || !s.clientWhole k.val then s
    else s.linkStatus k.val (aligned && !lf && !rf) lf rf)

/-- `MODE` of a lane written, `s0` being the state before (R187): an Ianen receiver that the lane leaves loses its alignment; in
no mode the receiver is off; a client that no longer has its lanes is not up. -/
def State.laneRemode (s0 s : State) (n : Nat) : State :=
  if s.laneMode n = s0.laneMode n then s
  else
    let s := s.cond (s0.clientIanen n && decide ((s.hostLane n).align ≠ inBlockHunt)) fun s => s.loseBlocks n
    let s := s.cond (!s.laneUsed n && s.on (HL_LANE.LANE_STATUS_CDR_LOCK n)) fun s => s.count 27 (laneCnt n 0) 1
    let s := s.cond (!s.laneUsed n) fun s =>
      (s.setReceiver n [(HL_LANE.LANE_STATUS_SIG n, 0), (HL_LANE.LANE_STATUS_CDR_LOCK n, 0)]).onLane n fun l =>
        { l with sweeping := false }
    match s0.laneClient n with
    | some k => s.cond (!s.clientWhole k) fun s => s.linkStatus k false false false
    | none => s

/-! ### Ianen credits (R200) -/

/-- IANEN_PACKET_START (R200): a held packet of a class starts once its credit allows. -/
def execIanenPacketStart (n : Fin 24) (c : Fin 8) (s : State) : Result :=
  s.clocked <|
  .next (if s.clientIanen n.val ∧ s.mayStart n.val c.val then s.egressOne n.val c.val else s)

end Sys2Proof.Machine
end

