-- ==== Sys2Proof/Machine/FecDecode.lean ====
section
/-! DEFINITION. What the decoder pool computes: the placement of received LLRs, layered offset min-sum, the inverse matcher and
the data order, the BCH decoder, the GMI sums (R122, R134, R137, R138, R144, R153, R154). What of the arithmetic the
specification leaves open is in log entry 91. -/

namespace Sys2Proof.Machine

/-! ### Stage D1: the LLRs of a codeword (R137, R138) -/

/-- The LLR of a label bit: `e` names dimension 4t + c of the block and the bit of its label. -/
def placeLlr (block : Array (List Llr)) (e : Nat × Nat) : Llr :=
  let l := block.getD (e.1 / 4) []
  -- the label bits of a period stand dimension by dimension
  l.getD (e.1 % 4 * (l.length / 4) + e.2) ⟨0, 0, false⟩

/-- Every `c`-th element of a list, from the `i`-th on. -/
def dealOut {α : Type} (c i : Nat) (l : List α) : List α := (l.zipIdx.filter fun e => e.2 % c = i).map (·.1)

/-- The LLRs of codeword `q` of a data block in the order of its sent bits: its information bits out of the block, its parity
bits out of the parity region of the block after it, whose sign kinds are `nextKinds` (R138). -/
def codewordLlrs (x : Mode) (q : Nat) (block next : List (List Llr)) (nextKinds : Array Nat) : List Llr :=
  let kinds := signKinds x 64 (x.codewords * x.parityBits)
  let a := block.toArray
  let b := next.toArray
  (dealOut x.codewords q (infoPlaces x kinds)).map (placeLlr a) ++
    (dealOut x.codewords q (parityRegion nextKinds)).map fun v => placeLlr b (v, 0)

/-- Hard decisions of LLRs; 0 decides for 0. -/
def hardBits (l : List Llr) : List Bool := l.map fun e => decide (e.out < 0)

/-! ### Stage D3: layered offset min-sum (R144) -/

/-- The block columns of a block row with their shifts (R131). -/
def ldpcRow (m i : Nat) : List (Nat × Nat) :=
  ((List.range (258 - m)).filterMap fun j => ((ldpcColumn m j).find? fun e => e.1 == i).map fun e => (j, e.2)) ++
    (if i = 0 then [] else [(258 - m + i - 1, 0)]) ++ [(258 - m + i, 0)]

/-- The mother bits of check 64 i + r. -/
def checkBits (row : List (Nat × Nat)) (r : Nat) : List Nat := row.map fun e => 64 * e.1 + (r + e.2) % 64

/-- The mother-code input of a codeword: shortened bits +31, punctured bits 0 (R132, R144). -/
def motherInput (rateCode : Nat) (out : List Int) : Array Int :=
  let all := List.replicate (ldpcShort rateCode) 31 ++ out
  (all ++ List.replicate (16512 - all.length) 0).toArray

/-- The least of some magnitudes, and the least of the others. -/
def leastTwo (l : List Nat) : Nat × Nat :=
  l.foldl (fun a m => if m < a.1 then (m, a.1) else if m < a.2 then (a.1, m) else a) (127, 127)

/-- One check node: values, old messages of its bits; the new values and messages (R144). -/
def checkNode (offset : Nat) (vals : Array Int) (bits : List Nat) (old : List Int) : Array Int × List Int :=
  let qs := (bits.zip old).map fun e => clampInt (-127) 127 (vals.getD e.1 0 - e.2)
  let odd := (qs.filter fun q => decide (q < 0)).length % 2 = 1
  let two := leastTwo (qs.map Int.natAbs)
  let msg := fun (q : Int) =>
    let m : Int := ((if q.natAbs = two.1 then two.2 else two.1) - offset : Nat)
    if (decide odd) != decide (q < 0) then -m else m
  let new := qs.map msg
  ((bits.zip (qs.zip new)).foldl (fun a e => a.setIfInBounds e.1 (e.2.1 + e.2.2)) vals, new)

/-- What a decode has come to: the values of the mother bits and the messages of every check. -/
structure MinSum where
  vals : Array Int
  msgs : Array (List Int)

/-- One layer: the 64 checks of a block row. -/
def layer (offset : Nat) (row : List (Nat × Nat)) (i : Nat) (st : MinSum) : MinSum :=
  (List.range 64).foldl (fun st r =>
    let n := checkNode offset st.vals (checkBits row r) (st.msgs.getD (64 * i + r) [])
    ⟨n.1, st.msgs.setIfInBounds (64 * i + r) n.2⟩) st

/-- Every check is satisfied by the hard decisions. -/
def allChecks (rows : List (List (Nat × Nat))) (vals : Array Int) : Bool :=
  rows.all fun row => (List.range 64).all fun r =>
    ((checkBits row r).filter fun v => decide (vals.getD v 0 < 0)).length % 2 == 0

/-- Up to `n` iterations, from `done` on: whether the decoder stopped, after how many, and the values. -/
def minSumRun (offset : Nat) (rows : List (List (Nat × Nat))) : Nat → Nat → MinSum → Bool × Nat × Array Int
  | 0, done, st => (false, done, st.vals)
  | n + 1, done, st =>
    let st := (rows.zipIdx).foldl (fun st e => layer offset e.1 e.2 st) st
    if allChecks rows st.vals then (true, done + 1, st.vals) else minSumRun offset rows n (done + 1) st

/-- The result of a decode: corrected, iterations, the sent bits' hard decisions. -/
structure Decoded where
  ok : Bool
  iters : Nat
  bits : List Bool

/-- Decode a codeword in at most `iters` iterations (R144). -/
def ldpcDecode (x : Mode) (offset iters : Nat) (llrs : List Llr) : Decoded :=
  let m := ldpcRows x.rateCode
  let rows := (List.range m).map (ldpcRow m)
  let vals := motherInput x.rateCode (llrs.map (·.out))
  let msgs := (rows.flatMap fun row => List.replicate 64 (row.map fun _ => (0 : Int))).toArray
  let r := minSumRun offset rows iters 0 ⟨vals, msgs⟩
  let s := ldpcShort x.rateCode
  ⟨r.1, r.2.1, (List.range 16384).map fun i => decide (r.2.2.getD (s + i) 0 < 0)⟩

/-- Bits in which two lists differ. -/
def differing (a b : List Bool) : Nat := ((a.zip b).filter fun e => e.1 != e.2).length

/-- The sums of R122 over a corrected codeword: Σ log2(1 + e^(−(1 − 2b) L)) over the label bits that are no known signs in 2^−64,
the label bits compared, those whose LLR has the other sign or is 0. -/
def gmiSums (llrs : List Llr) (bits : List Bool) : Nat × Nat × Nat :=
  ((llrs.zip bits).filter fun e => !e.1.known).foldl (fun a e =>
    let l := if e.2 then -e.1.raw else e.1.raw
    (a.1 + softPlus (l * 2 ^ 64).floor, a.2.1 + 1, a.2.2 + if l ≤ 0 then 1 else 0)) (0, 0, 0)

/-! ### Stage D5: the inverse matcher and the data order (R42, R138, R153) -/

/-- The information list of a block out of its decoded codewords: entry g is bit ⌊g / C⌋ of codeword g mod C. -/
def blockInfo (x : Mode) (words : List (List Bool)) : List Bool :=
  let a := words.map List.toArray
  (List.range (x.codewords * x.infoBits)).map fun g => (a.getD (g % x.codewords) #[]).getD (g / x.codewords) false

/-- The label bits of a block out of its information list: sign bits, and amplitude labels by dimension. -/
def blockLabels (x : Mode) (kinds : Array Nat) (info : List Bool) : Array Bool × Array Nat :=
  ((infoPlaces x kinds).zip info).foldl (fun a e =>
    if e.1.2 = 0 then (a.1.setIfInBounds e.1.1 e.2, a.2)
    else (a.1, a.2.setIfInBounds e.1.1 (a.2.getD e.1.1 0 + bit e.2 * 2 ^ (x.ampBits - e.1.2))))
    (Array.replicate 16384 false, Array.replicate 16384 0)

/-- A sequence has the composition. -/
def composed (comp : Composition) (l : List Nat) : Bool :=
  let n := fun a => (l.filter (· == a)).length
  n 1 == comp.n1 && n 3 == comp.n3 && n 5 == comp.n5 && n 7 == comp.n7

/-- The data bits of a matcher block: the rank of its amplitude sequence, or zeros marked invalid (R42, R153). -/
def matcherBits (x : Mode) (comp : Composition) (amps : List Nat) : List (Bool × Bool) :=
  if composed comp amps then (bitsOf x.k (rank amps comp)).map fun b => (b, false)
  else List.replicate x.k (false, true)

/-- The amplitudes of the matcher block of group `m` on the polarisation whose first dimension is `c0`. -/
def groupAmps (amps : Array Nat) (m c0 : Nat) : List Nat :=
  (List.range 128).map fun d => ampOfLabel (amps.getD (4 * (64 * m + d / 2) + c0 + d % 2) 0)

/-- The data bits of a group (R138): matcher blocks or amplitude-list bits, then the sign bits that are information. -/
def groupData (x : Mode) (comp : Composition) (kinds : Array Nat) (l : Array Bool × Array Nat) (m : Nat) : List (Bool × Bool) :=
  (if x.shaped then matcherBits x comp (groupAmps l.2 m 0) ++ matcherBits x comp (groupAmps l.2 m 2)
   else ((List.range 64).flatMap fun t => dimOrder (64 * m + t)).flatMap fun d =>
     (bitsOf x.ampBits (l.2.getD d 0)).map fun b => (b, false)) ++
    (((List.range 256).map (256 * m + ·)).filter fun v => kinds.getD v 0 = 0).map fun v => (l.1.getD v false, false)

/-- The data bits of a block with their marks, and its matcher blocks without a valid composition (R138, R153). -/
def blockData (x : Mode) (words : List (List Bool)) : List (Bool × Bool) × Nat :=
  let kinds := signKinds x 64 (x.codewords * x.parityBits)
  let comp := x.composition
  let l := blockLabels x kinds (blockInfo x words)
  let bad := if x.shaped then ((List.range 64).flatMap fun m => [0, 2].filter fun c0 => !composed comp (groupAmps l.2 m c0)).length
    else 0
  ((List.range 64).flatMap (groupData x comp kinds l), bad)

/-! ### Stage D6: the BCH decoder (R134, R154) -/

/-- The syndrome S_i of a received block: its polynomial at α^i, the highest degree first. -/
def bchSyndrome (l : List Bool) (i : Nat) : Nat :=
  let a := gf14Pow i
  l.foldl (fun s b => gf14Mul s a ^^^ bit b) 0

/-- a^n in the field, by squaring; `k` bounds the bits of n. -/
def gf14Exp : Nat → Nat → Nat → Nat
  | 0, _, _ => 1
  | k + 1, a, n => if n = 0 then 1 else
      let h := gf14Exp k (gf14Mul a a) (n / 2)
      if n % 2 = 1 then gf14Mul h a else h

/-- The inverse of a field element: its power 2^14 − 2. -/
def gf14Inv (a : Nat) : Nat := gf14Exp 14 a 16382

/-- A polynomial over the field, lowest degree first, times a constant, and the sum of two. -/
def polyScale (c : Nat) (p : List Nat) : List Nat := p.map (gf14Mul c)
def polySum (a b : List Nat) : List Nat :=
  (List.range (max a.length b.length)).map fun i => a.getD i 0 ^^^ b.getD i 0

/-- A step of the Berlekamp-Massey algorithm: the locator, the last one that was lengthened with its discrepancy, the shift
since then, the length. -/
structure BchState where
  loc : List Nat
  prev : List Nat
  disc : Nat
  shift : Nat
  len : Nat

def bchStep (syn : Array Nat) (st : BchState) (n : Nat) : BchState :=
  let d := (List.range (st.len + 1)).foldl (fun a i => a ^^^ gf14Mul (st.loc.getD i 0) (if i ≤ n then syn.getD (n - i) 0 else 0)) 0
  if d = 0 then { st with shift := st.shift + 1 }
  else
    let loc := polySum st.loc (List.replicate st.shift 0 ++ polyScale (gf14Mul d (gf14Inv st.disc)) st.prev)
    if 2 * st.len ≤ n then ⟨loc, st.loc, d, 1, n + 1 - st.len⟩ else { st with loc := loc, shift := st.shift + 1 }

/-- The error locator of 16 syndromes. -/
def bchLocator (syn : List Nat) : BchState :=
  (List.range 16).foldl (bchStep syn.toArray) ⟨[1], [1], 1, 1, 0⟩

/-- The degrees in 0 to n − 1 whose inverse powers of α are roots of a locator, from degree 0 on: `terms` holds its terms at
α^−d, `steps` the factor of each term for the next degree. -/
def bchRoots : Nat → Nat → List Nat → List Nat → List Nat
  | 0, _, _, _ => []
  | n + 1, d, terms, steps =>
    let r := bchRoots n (d + 1) (terms.zipWith gf14Mul steps) steps
    if terms.foldl (· ^^^ ·) 0 = 0 then d :: r else r

/-- Decode a block of 9,344 bits: the corrected block and the bits corrected; none where more than 8 bits are wrong (R134). -/
def bchDecode (l : List Bool) : Option (List Bool × Nat) :=
  let syn := (List.range 16).map fun i => bchSyndrome l (i + 1)
  if syn.all (· == 0) then some (l, 0)
  else
    let st := bchLocator syn
    let inv := gf14Inv 2
    let steps := (List.range (st.len + 1)).map fun i => gf14Exp 14 inv i
    let loc := (List.range (st.len + 1)).map fun i => st.loc.getD i 0
    let roots := bchRoots l.length 0 loc steps
    if st.len ≤ 8 ∧ roots.length = st.len then
      some (l.zipIdx.map fun e => if roots.contains (l.length - 1 - e.2) then !e.1 else e.1, st.len)
    else none

end Sys2Proof.Machine
end

