-- ==== Sys2Proof/Machine/Fec.lean ====
section
/-! DEFINITION. The decoder pools: block structure, dispatch, decode, redo, release, the outer decoder, rotation (R128,
R129, R132, R135, R139, R142 to R157). -/

namespace Sys2Proof.Machine

open F

/-! ### The ceiling and the latency (R143, R145) -/

/-- `MAX_ITER`, 4 to 16, and the effective ceiling (R145, R156). -/
def State.maxIter (s : State) (p : Port) : Nat := clampNat 4 16 (s.rd (FEC.ITER_CTL_MAX_ITER p))
def State.ceiling (s : State) (p : Port) : Nat := min (s.maxIter p) (s.rd (FEC.ITER_CTL_CAP p))

/-- `CAP_FLOOR`, 4 to 16 (R156). -/
def State.capFloor (s : State) (p : Port) : Nat := clampNat 4 16 (s.rd (FEC.ITER_CTL_CAP_FLOOR p))

/-- The latency of stages D1 to D7 in CCLK (R143). -/
def State.decLat (s : State) (p : Port) : Nat :=
  let x := s.rxMode p
  let d1 := (43520 + x.rateQ - 1) / x.rateQ + (if x.half then 128 else 64) + 4
  d1 + 8 + 2 * (32 * s.maxIter p + 16) + 4 + 16 + 24 + 4

/-- The power manager writes `CAP`, never below `CAP_FLOOR` or above 16 (R145). -/
def State.setCap (s : State) (p : Port) (v : Nat) : State :=
  let v := clampNat (s.capFloor p) 16 v
  if v = s.rd (FEC.ITER_CTL_CAP p) then s else (s.wr (FEC.ITER_CTL_CAP p) v).raise (Ev.FEC.capChanged p)

/-! ### The pool (R146 to R152) -/

/-- Decoders that hold a codeword in decode or repeat one. -/
def State.busyDecoders (s : State) (p : Port) : List Nat :=
  (s.fec.get p).repeating ++ (((s.fec.get p).store.filter fun c => c.status == .decoding).map (·.decoder))

/-- A spare that is free to take a codeword: it serves no slot, is neither quarantined nor out for a self-test, is not busy, and
the codeword it held when it was replaced has been released (R147, R151). -/
def State.isFreeSpare (s : State) (p : Port) (u : Nat) : Bool :=
  let b := Block.decoder p
  let x := s.block b
  !(x.serving b).contains u && !x.quarantine.contains u && !x.testing.contains u && !(s.busyDecoders p).contains u &&
    !(s.fec.get p).leavingDec.contains u

/-- The free spare that starts a redo (R147): the lowest-numbered one, which the model chooses (log entry 92). -/
def State.freeSpare (s : State) (p : Port) : Option Nat := (List.range 104).find? (s.isFreeSpare p)

/-- The spare that ecloses: the lowest-numbered free one that has passed its self-test, which the model chooses (R151; log entry
92). -/
def State.testedSpare (s : State) (p : Port) : Option Nat :=
  (List.range 104).find? fun u => s.isFreeSpare p u && (s.block (.decoder p)).mayEclose u

/-- The lowest-numbered decoder that is free at dispatch (R150). -/
def State.freeDecoder (s : State) (p : Port) : Option Nat :=
  let x := s.block (.decoder p)
  (List.range 104).find? fun u => !x.quarantine.contains u && !x.testing.contains u && !(s.busyDecoders p).contains u

/-- The decoder a codeword of a slot goes to: the slot's own; while that one is busy a free spare, or else any free decoder; the
lowest free one where the slot's decoder is quarantined (R146, R147, R150). -/
def State.decoderFor (s : State) (p : Port) (slot : Nat) : Option Nat :=
  let x := s.block (.decoder p)
  let u := x.unitAt slot
  if x.quarantine.contains u then s.freeDecoder p
  else if (s.busyDecoders p).contains u then (s.freeSpare p).or (s.freeDecoder p)
  else some u

/-- Slots served by a decoder of their own (R156, `IN_SLOTS`). -/
def State.inSlots (s : State) (p : Port) : Nat :=
  let x := s.block (.decoder p)
  ((List.range 96).filter fun sl => !x.quarantine.contains (x.unitAt sl)).length

/-- The rotation that waits for a slot's dispatch is made; the decoder replaced becomes a spare once its codeword is released
(R151). -/
def State.decoderRotate (s : State) (p : Port) (slot : Nat) : State :=
  let f := s.fec.get p
  let b := Block.decoder p
  if f.rotateDue && f.nextSlot == slot then
    match s.testedSpare p with
    | some u =>
      let old := (s.block b).unitAt slot
      let s := s.onFec p fun f =>
        { f with rotateDue := false, nextSlot := (slot + 1) % 96,
                 leavingDec := if f.store.any fun c => c.decoder == old then addSorted f.leavingDec old else f.leavingDec }
      (s.setBlock b (((s.block b).assign slot u).entersChrysalis old)).raise (Ev.FEC.spareEclosion p)
    | none => s
  else s

/-- The entries of the codeword store (R152). -/
def storeEntries : Nat := 2048

/-- The sign kinds of the code block after data block `j`, which carries its parity (R130, R137): the next data block, or the seam
of the next superframe, whose configuration is the one the demapper works in. -/
def State.nextKinds (s : State) (p : Port) (x : Mode) (j : Nat) : Array Nat :=
  let len := x.codewords * x.parityBits
  signKinds (if j + 1 < x.blocks then x else s.demapMode p) 64 len

/-- The LLRs of the codeword that is dispatched next (R143, stage D1). -/
def State.gathered (s : State) (p : Port) (x : Mode) : List Llr :=
  let f := s.fec.get p
  let l := (s.rx.get p).labels
  codewordLlrs x f.index (l.take 4096) ((l.drop 4096).take 4096) (s.nextKinds p x f.block)

/-- The codeword after the one dispatched (R142, R146): the last of a data block frees its symbol periods; after the last data
block come the seam and the pad, which hold no codeword. -/
def State.advanceBlock (s : State) (p : Port) (x : Mode) : State :=
  let f := s.fec.get p
  if f.index + 1 < x.codewords then s.onFec p fun f => { f with index := f.index + 1 }
  else
    let last := decide (x.blocks ≤ f.block + 1)
    let s := s.onFec p fun f => { f with index := 0, block := if last then 1 else f.block + 1 }
    s.onRx p fun r =>
      let l := r.labels.drop 4096
      if last then { r with labels := l.drop (4096 + x.pad), skip := r.skip + (4096 + x.pad - l.length) }
      else { r with labels := l }

/-- CODEWORD_DISPATCH (R142, R146, R152, R457): once a data block and the block that carries its parity have left the demapper, its
next codeword takes a store entry and goes to a decoder. -/
def execCodewordDispatch (p : Port) (t : Instant) (s : State) : Result :=
  s.clocked <|
  .next (
    let f := s.fec.get p
    if s.on (FEC.SF_STATUS_SF_LOCK p) ∧ 8192 ≤ (s.rx.get p).labels.length ∧ f.store.length < storeEntries then
      let x := if f.block = 1 ∧ f.index = 0 then s.demapMode p else f.mode
      let slot := f.nextCw % 96
      let llrs := s.gathered p x
      let s := s.decoderRotate p slot
      let d := s.decoderFor p slot
      let c : Codeword :=
        { num := f.nextCw, slot := slot, decoder := d.getD 127, ceiling := s.ceiling p,
          status := if d.isSome then .decoding else .waiting, iters := 0, corrected := 0, redo := false, double := false,
          tail := decide (x.blocks ≤ f.block + 33), traced := s.tagged p.toNat, llrs := llrs, decoded := hardBits llrs,
          block := f.block, index := f.index, mode := x }
      let s := s.onFec p fun f => { f with nextCw := f.nextCw + 1, mode := x, store := f.store ++ [c] }
      let occ := (s.fec.get p).store.length
      let s := s.wr (FEC.STORE_PEAK p) (max occ (s.rd (FEC.STORE_PEAK p)))
      (s.tag p.toNat t ((s.frame.get p).fcRx / 256) f.index f.block occ).advanceBlock p x
    else s)

/-- Change a codeword in the store. -/
def State.onCodeword (s : State) (p : Port) (n : Nat) (f : Codeword → Codeword) : State :=
  s.onFec p fun x => { x with store := x.store.map fun c => if c.num = n then f c else c }

/-- Codewords that wait take the decoders that are free, in order (R150). -/
def State.startWaiting (s : State) (p : Port) : State :=
  s.forEach ((s.fec.get p).store.filter fun c => c.status == .waiting) fun c s =>
    match s.freeDecoder p with
    | some u => s.onCodeword p c.num fun c => { c with decoder := u, status := .decoding }
    | none => s

/-- The min-sum offset in force (R144). -/
def State.msOffset (s : State) (p : Port) : Nat := s.rd (FEC.MS_CFG_OFFSET p)

/-- A codeword at the end of its decode (R144): corrected, or uncorrectable with the decisions of the last iteration. -/
def Codeword.decode (c : Codeword) (offset : Nat) : Codeword :=
  let d := ldpcDecode c.mode offset c.ceiling c.llrs
  if d.ok then { c with status := .converged, iters := d.iters, decoded := d.bits, corrected := differing d.bits (hardBits c.llrs) }
  else { c with status := .uncorrectable, decoded := d.bits }

/-- DECODE_DONE (R144, R145): a decoder stops, its checks satisfied or its ceiling reached. -/
def execDecodeDone (p : Port) (num : Nat) (s : State) : Result :=
  s.clocked <|
  .next ((s.onCodeword p num fun c => if c.status = .decoding then c.decode (s.msOffset p) else c).startWaiting p)

/-- A codeword's outcome reaches the cycle-slip count of the equaliser, unless its block is one of the last 33 (R111,
R154). -/
def State.slipReport (s : State) (p : Port) (bad tail : Bool) : State :=
  if tail then s
  else
    let s := s.onRx p fun r => { r with slipRun := if bad then r.slipRun + 1 else 0 }
    let lim := s.rd (RXEQ.CR_CFG_SLIP_CW p)
    if lim ≠ 0 ∧ lim ≤ (s.rx.get p).slipRun then s.reacquire p 2 else s

/-- The bits a codeword leaves with (R144, R148 to R150): one still in decode has the decisions of the `iters` iterations it has
made. -/
def Codeword.leaves (c : Codeword) (offset iters : Nat) : List Bool :=
  match c.status with
  | .converged | .uncorrectable => c.decoded
  | .undecoded | .waiting => hardBits c.llrs
  | .decoding => if iters = 0 then hardBits c.llrs else (ldpcDecode c.mode offset (min iters c.ceiling) c.llrs).bits

/-- A released codeword in the counts of the tick and of the page (R155, R157). -/
def State.countCodeword (s : State) (p : Port) (c : Codeword) : State :=
  let ok := decide (c.status = .converged)
  let s := s.onFec p fun f =>
    { f with tickCw := f.tickCw + bit (ok || decide (c.status = .uncorrectable)),
             tickUncorr := f.tickUncorr + bit !ok,
             tickLdpc := f.tickLdpc + (if ok then c.corrected else 0),
             tickHist := Tab.upd 0 f.tickHist (if ok then c.iters else 0) (· + 1) }
  match c.status with
  | .converged => (s.raise (Ev.FEC.decoded p)).raiseN (Ev.FEC.ldpcBits p) c.corrected
  | .uncorrectable => (s.raise (Ev.FEC.decoded p)).raise (Ev.FEC.uncorrectable p)
  | .undecoded => s.raise (Ev.FEC.undecoded p)
  | .decoding | .waiting => s.raise (Ev.FEC.unfinished p)

/-- A corrected codeword in the sums of NGMI and of the pre-FEC BER (R122). -/
def State.measureCodeword (s : State) (p : Port) (c : Codeword) : State :=
  if c.status = .converged then
    let g := gmiSums c.llrs c.decoded
    s.onRx p fun r =>
      { r with tel := { r.tel with gmi := r.tel.gmi + g.1, words := r.tel.words + 1, bits := r.tel.bits + g.2.1,
                                   wrong := r.tel.wrong + g.2.2 } }
  else s

/-- The data bits of a block leave stage D5 and are descrambled (R135, R143, R153): the first block of a superframe seeds the
generator; data bits after the last BCH block are dropped. -/
def State.takeData (s : State) (p : Port) (x : Mode) (first : Bool) (l : List (Bool × Bool)) : State :=
  s.onFec p fun f =>
    let scr := if first then scrambleSeed else f.scr
    let pos := if first then 0 else f.dataPos
    let bad := f.matcherBad
    let d := prbsAdd scr (l.map (·.1))
    let out := (d.1.zip l).map fun e => (e.1, e.2.2 || bad)
    { f with scr := d.2, dataPos := pos + l.length, dataMode := x, matcherBad := false, gather := [],
             data := f.data ++ out.take (9344 * x.bchBlocks - pos) }

/-- A released codeword's bits go to stage D5, which works on a data block once it has all its codewords (R143). -/
def State.gatherWord (s : State) (p : Port) (c : Codeword) (bits : List Bool) : State :=
  let s := s.onFec p fun f => { f with gather := f.gather ++ [bits] }
  let words := (s.fec.get p).gather
  if words.length < c.mode.codewords then s
  else
    let d := blockData c.mode words
    (s.raiseN (Ev.FEC.invalidComposition p) d.2).takeData p c.mode (decide (c.block = 1)) d.1

/-- CODEWORD_RELEASE (R143, R149 to R155, R157): the oldest codeword leaves the reorder buffer for stage D5. -/
def execCodewordRelease (p : Port) (iters : Nat) (s : State) : Result :=
  s.clocked <|
  .next (
    match (s.fec.get p).store with
    | [] => s
    | c :: rest =>
      let s := s.onFec p fun f =>
        { f with store := rest, leavingDec := f.leavingDec.filter fun u => rest.any fun e => e.decoder == u }
      let ok := decide (c.status = .converged)
      let s := ((s.countCodeword p c).measureCodeword p c).gatherWord p c (c.leaves (s.msOffset p) iters)
      let s := s.cond c.traced fun s => s.onFlight p.toNat fun e =>
        { e with flags := e.flags ||| (16 * bit c.redo + 2 ^ 16 * bit c.double + 2 ^ 17 * bit (c.llrs.any fun x => decide (x.out = 0)) + 2 ^ 18 * bit !ok),
                 work := (if ok then c.iters else 0) + 256 * c.ceiling + 65536 * c.decoder }
      (s.startWaiting p).slipReport p (!ok) c.tail)

/-- A BCH block leaves stage D6 (R135, R154, R158): its information bits go to the deframer without the superframe tail. -/
def State.takeLine (s : State) (p : Port) (info : List Bool) (bad : Bool) : State :=
  s.onFec p fun f =>
    let x := if f.bchNo = 0 then f.dataMode else f.lineMode
    let len := 256 * (x.infoSf / 256)
    let out := (info.take (len - 9232 * f.bchNo)).zipIdx.map fun e => (⟨e.1, bad, f.bchNo == 0 && e.2 == 0⟩ : LineBit)
    { f with line := f.line ++ out, lineMode := x, bchNo := if f.bchNo + 1 < x.bchBlocks then f.bchNo + 1 else 0,
             data := f.data.drop 9344, bchBad := false }

/-- BCH_DECODE_DONE (R134, R154): the next BCH block leaves stage D6 flagged corrected, or uncorrectable where the decoder fails,
where stage D5 marked one of its bits or where its work was lost. An uncorrectable block leaves with the information bits as they
were received, and one that D5 marked is neither corrected nor counted in the corrected bits: the model's choices, the
specification giving the flag alone (log entry 116). -/
def execBchDecodeDone (p : Port) (s : State) : Result :=
  s.clocked <|
  .next (
    let f := s.fec.get p
    if f.data.length < 9344 then s
    else
      let block := f.data.take 9344
      let word := block.map (·.1)
      let marked := f.bchBad || block.any (·.2)
      match (if marked then none else bchDecode word) with
      | some (l, n) =>
        ((s.takeLine p (l.take 9232) false).onFec p fun f => { f with tickBch := f.tickBch + n }).raiseN (Ev.FEC.bchBits p) n
      | none =>
        ((s.takeLine p (word.take 9232) true).onFec p fun f => { f with tickBchUncorr := f.tickBchUncorr + 1 }).raise
          (Ev.FEC.bchUncorrectable p))

/-- DECODER_SPARE_ROTATION (R151): `DWELL_MS` has passed; a tested spare waits for the next slot's dispatch. -/
def execDecoderSpareRotation (p : Port) (s : State) : Result :=
  s.clocked <|
  .next (if (s.testedSpare p).isSome then s.onFec p fun f => { f with rotateDue := true } else s)

/-! ### Faults of the pool (R147 to R150, R153) -/

/-- A codeword leaves with its input hard decisions. -/
def State.undecode (s : State) (p : Port) (n : Nat) (double : Bool) : State :=
  s.onCodeword p n fun c => { c with status := .undecoded, double := c.double || double }

/-- A redo of a codeword on a spare, while the failing decoder repeats it to be classified; one whose earlier second fault awaited
this check is LASTING (R147, R148). -/
def State.decoderRedo (s : State) (p : Port) (u v n : Nat) : State :=
  let b := Block.decoder p
  let s := s.raise (Ev.FEC.decoderRedo p)
  let s := s.onCodeword p n fun c => { c with decoder := v, redo := true, status := .decoding }
  if s.deferred b u then (s.undefer b u).lasting b u
  else s.onFec p fun f => { f with repeating := addSorted f.repeating u }

/-- A failed check on a decoder while it works on codeword `i.num` (R147 to R149, R24): of the spare that redoes it, and in an open
window, it is a second fault. -/
def State.decoderFail (s : State) (p : Port) (u : Nat) (i : CheckInfo) : State :=
  let b := Block.decoder p
  match (s.fec.get p).store.find? fun c => c.num == i.num && c.decoder == u with
  | none => s
  | some c =>
    if c.redo then ((s.undecode p i.num true).raise (Ev.FEC.doubleFault p)).toTest b u
    else if s.inWindow b i.cycle then ((s.undecode p i.num true).raise (Ev.FEC.doubleFault p)).deferOrLast b u
    else
      let s := s.openWindow b i.cycle
      match s.freeSpare p with
      | none => (s.undecode p i.num false).deferOrLast b u
      | some v => s.decoderRedo p u v i.num

/-- The classifying attempt of a decoder (R148). -/
def State.decoderClassify (s : State) (p : Port) (u : Nat) (pass : Bool) : State :=
  let b := Block.decoder p
  let s := s.onFec p fun f => { f with repeating := f.repeating.filter (· != u) }
  (((s.undefer b u).classify b u pass)).startWaiting p

/-- The work of the inverse matcher or the BCH decoder is lost and leaves marked uncorrectable (R153). How much work one check of
the inverse matcher covers is not stated: the model marks every bit of the next data block (log entry 115). -/
def State.outerLost (s : State) (b : Block) (p : Port) : State :=
  s.onFec p fun f => match b with | .matcher _ => { f with matcherBad := true } | _ => { f with bchBad := true }

/-- A failed check on the inverse matcher or the BCH decoder (R153): redone on the spare; a second fault, and a check with no spare
to redo its work, leaves the work marked uncorrectable. Before EXHAUSTED such a unit is classified by its next check, which
the model chooses (log entry 83). -/
def State.outerFail (s : State) (b : Block) (p : Port) (redo : Evt) (u : Nat) (i : CheckInfo) : State :=
  let x := s.block b
  if i.onSpare then ((s.outerLost b p).raise (Ev.FEC.doubleFault p)).toTest b u
  else if s.inWindow b i.cycle then ((s.outerLost b p).raise (Ev.FEC.doubleFault p)).deferOrLast b u
  else
    let s := s.openWindow b i.cycle
    if !x.canRedo b then (s.outerLost b p).deferOrLast b u
    else
      let s := s.raise redo
      s.cond (s.deferred b u) fun s => (s.undefer b u).lasting b u

/-- The management tick latches the counts of the tick (R155). -/
def State.fecTick (s : State) (p : Port) : State :=
  let f := s.fec.get p
  let s := (s.wr (FEC.TICK_CW_COUNT p) f.tickCw).wr (FEC.TICK_UNCORR_COUNT p) f.tickUncorr
  let s := (s.wr (FEC.TICK_LDPC_CORR_COUNT p) f.tickLdpc).wr (FEC.TICK_BCH_CORR_COUNT p) f.tickBch
  let s := s.wr (FEC.TICK_BCH_UNCORR_COUNT p) f.tickBchUncorr
  let s := s.forEach (List.range 17) fun j s => s.wr (FEC.ITER_HIST_COUNT p j) (Tab.get 0 f.tickHist j)
  s.onFec p fun f => { f with tickCw := 0, tickUncorr := 0, tickLdpc := 0, tickBch := 0, tickBchUncorr := 0, tickHist := [] }

/-! ### Eyespots -/

/-- EYESPOT_COMPLETE (R459, R461): the last stamp of the eyespot of a source; `flags` and `work` carry what the stages
add to the record. -/
def execEyespotComplete (src : Fin 6) (stamps : List Nat) (flags work : Nat) (s : State) : Result :=
  s.clocked <|
  .next (
    match s.flightOf src.val with
    | none => s
    | some e =>
      let s := s.onTrace fun t => { t with flight := Tab.erase t.flight src.val }
      s.bufferRecord { e with stamps := nineStamps stamps, flags := e.flags ||| flags % 2 ^ 32,
                              work := e.work ||| work % 2 ^ 32 })

/-- TRACE_SEED (R458). -/
def execTraceSeed (r : Requester) (value : Word) (s : State) : Result :=
  .next (s.guarded r 5 0x088 fun s => s.seedTrace value.toNat)

end Sys2Proof.Machine
end

