-- ==== Sys2Proof/Machine/Keys.lean ====
section
/-! DEFINITION. Key delivery, the key engine, switches, rotation, verdict deadlines and reports (R278 to R293, R299 to
R305). -/

namespace Sys2Proof.Machine

open F

/-- The page of the key engine, and of the pipelines. -/
def keyPage : Nat := 29
def pipePage : Nat := 30

/-! ### The command word (R305) -/

/-- OP codes of `KEY_CMD`. -/
def opUnwrapSet : Nat := 1
def opUnwrapMaster : Nat := 2
def opUnwrapKek : Nat := 3
def opPlainKek : Nat := 4
def opDerive : Nat := 5
def opSetAct : Nat := 6
def opSetNxt : Nat := 7
def opSwitch : Nat := 8
def opEraseSlot : Nat := 9
def opEraseMaster : Nat := 10
def opEraseKek : Nat := 11

/-- The blob in `WRAP_DATA`: byte 4i in bits [31:24] of word i. -/
def State.wrapBlob (s : State) (n : Nat) : List Nat :=
  ((List.range 26).flatMap fun i => bytesOf 4 (Tab.get 0 s.wrapData i)).take n

/-- Bytes of the blob that a command takes (R301). -/
def blobLength (op : Nat) : Nat := if op = opUnwrapSet then 104 else if op = opPlainKek then 32 else 40

/-- A write to `KEY_CMD` (R305): dropped and counted while `BUSY` is 1, otherwise the command starts. -/
def State.keyCommand (s : State) (r : Requester) (op : Nat) (a : KeyArgs) : State :=
  if s.on CY_KEY.KEY_STATUS_BUSY then s.raise Ev.CY_KEY.cmdDropped
  else
    { s with keyCmd := some ⟨op, a.kek.val, a.drop, a.slot.toNat, a.ch.toNat, s.rd CY_KEY.EPOCH_IN_EPOCH,
                             s.wrapBlob (blobLength op), r⟩ }.wr CY_KEY.KEY_STATUS_BUSY 1

/-- A key command row: a write to `KEY_CMD` with its OP. -/
def State.keyWrite (s : State) (r : Requester) (op : Nat) (a : KeyArgs) : State :=
  s.guarded r keyPage 0x040 fun s => s.keyCommand r op a

/-- UNWRAP_SET (R301). -/
def execUnwrapSet (r : Requester) (a : KeyArgs) (s : State) : Result := .next (s.keyWrite r opUnwrapSet a)
/-- UNWRAP_MASTER (R301). -/
def execUnwrapMaster (r : Requester) (a : KeyArgs) (s : State) : Result := .next (s.keyWrite r opUnwrapMaster a)
/-- UNWRAP_KEK (R300). -/
def execUnwrapKek (r : Requester) (a : KeyArgs) (s : State) : Result := .next (s.keyWrite r opUnwrapKek a)
/-- PLAIN_KEK (R300). -/
def execPlainKek (r : Requester) (a : KeyArgs) (s : State) : Result := .next (s.keyWrite r opPlainKek a)
/-- DERIVE (R302). -/
def execDerive (r : Requester) (a : KeyArgs) (s : State) : Result := .next (s.keyWrite r opDerive a)
/-- SET_ACT (R279). -/
def execSetAct (r : Requester) (a : KeyArgs) (s : State) : Result := .next (s.keyWrite r opSetAct a)
/-- SET_NXT (R279). -/
def execSetNxt (r : Requester) (a : KeyArgs) (s : State) : Result := .next (s.keyWrite r opSetNxt a)
/-- SWITCH (R281). -/
def execSwitchKey (r : Requester) (a : KeyArgs) (s : State) : Result := .next (s.keyWrite r opSwitch a)
/-- ERASE_SLOT (R280). -/
def execEraseSlot (r : Requester) (a : KeyArgs) (s : State) : Result := .next (s.keyWrite r opEraseSlot a)
/-- ERASE_MASTER (R300). -/
def execEraseMaster (r : Requester) (a : KeyArgs) (s : State) : Result := .next (s.keyWrite r opEraseMaster a)
/-- ERASE_KEK (R300). -/
def execEraseKek (r : Requester) (a : KeyArgs) (s : State) : Result := .next (s.keyWrite r opEraseKek a)

/-- SEAL_SET (R300). -/
def execSealSet (r : Requester) (s : State) : Result :=
  .next (s.guarded r keyPage 0x048 fun s => s.wr CY_KEY.KEK_CTRL_SEALED 1)

/-! ### Pointers and slots (R278 to R281) -/

/-- Active and next slot of a direction. -/
def ChanKeys.act (c : ChanKeys) (drop : Bool) : Nat := if drop then c.rxAct else c.txAct
def ChanKeys.nxt (c : ChanKeys) (drop : Bool) : Nat := if drop then c.rxNxt else c.txNxt
def ChanKeys.setAct (c : ChanKeys) (drop : Bool) (n : Nat) : ChanKeys := if drop then { c with rxAct := n } else { c with txAct := n }
def ChanKeys.setNxt (c : ChanKeys) (drop : Bool) (n : Nat) : ChanKeys := if drop then { c with rxNxt := n } else { c with txNxt := n }
def ChanKeys.setEpoch (c : ChanKeys) (drop : Bool) (e : Nat) : ChanKeys :=
  if drop then { c with rxEpoch := e } else { c with txEpoch := e }

/-- EMPTY slots (R305). -/
def State.slotsFree (s : State) : Nat := 512 - (s.keySlots.filter fun e => decide (e.2.state ≠ .empty)).length

/-- A kek has been written. -/
def State.kekValid (s : State) (k : Nat) : Bool := bitOf (s.rd CY_KEY.KEK_CTRL_KEK_VALID) k

/-- Write or erase a KEK (R300). -/
def State.setKek (s : State) (k : Nat) (key : Option (List Nat)) : State :=
  { s with keks := match key with | some b => Tab.insert s.keks k b | none => Tab.erase s.keks k }.wr
    CY_KEY.KEK_CTRL_KEK_VALID (setBit (s.rd CY_KEY.KEK_CTRL_KEK_VALID) k key.isSome)

/-- Load a key set into an EMPTY slot; RESULT 5 where K1 = K2. -/
def State.loadSet (s : State) (n ch : Nat) (drop derived : Bool) (epoch : Nat) (set : List Nat) : State × Nat :=
  let k1 := set.take 32
  let k2 := (set.drop 32).take 32
  if k1 = k2 then (s, 5)
  else
    (s.onKey n fun _ => { KeySlot.init with state := .loaded, k1 := k1, k2 := k2, ki := set.drop 64, epoch := epoch, ch := ch,
                                            drop := drop, derived := derived }, 0)

/-- The derived key set of a direction of a channel (R302): DIR is 0 for the add direction of the end whose `ROLE` is 0. -/
def State.derivedSet (s : State) (ch : Nat) (drop : Bool) (epoch : Nat) (master : List Nat) : List Nat :=
  deriveSet master epoch (bit (s.role ch != drop))

/-- A load into a slot that is not EMPTY (R280, R478). -/
def State.slotBusy (s : State) (r : Requester) (n : Nat) : State := s.lockViol r keyPage 4 n

/-- The current source superframe of a channel's add side: that of the port that carries it (R281). -/
def State.addSs (s : State) (ch : Nat) : Nat :=
  let p := match s.addPlaces ch with | (p, _) :: _ => p | [] => Port.E
  (s.frame.get p).fcTx / 256

/-- `ANN_LEAD`, at least 40 (R305). -/
def State.annLead (s : State) : Nat := max 40 (s.rd CY_KEY.ANN_CFG_ANN_LEAD)

/-- A switch of the add direction is requested, `SWITCH_SS` given (R281): RESULT. -/
def State.requestSwitch (s : State) (ch at_ : Nat) : State × Nat :=
  let c := s.chanKey ch
  if c.txNxt = noSlot then (s, 7)
  else if c.annSs.isSome then (s, 8)
  else if c.txEpoch = 0xFFFFFFFF then (s, 9)
  else
    let s := s.onKey c.txNxt fun k => { k with state := .locked }
    let s := s.onChanKey ch fun c => { c with annSs := some (at_ % 2 ^ 40), annFrom := (s.addSs ch + 1) % 2 ^ 40 }
    (s.raise Ev.CY_KEY.announced, 0)

/-- Erase a key slot in any state, with what its pointers lose (R280). -/
def State.eraseSlot (s : State) (n : Nat) : State :=
  let k := s.keySlot n
  let s := s.wipeSlot n
  let s := s.onChanKey k.ch fun c =>
    { c with txAct := if c.txAct = n then noSlot else c.txAct, txNxt := if c.txNxt = n then noSlot else c.txNxt,
             rxAct := if c.rxAct = n then noSlot else c.rxAct, rxNxt := if c.rxNxt = n then noSlot else c.rxNxt,
             rxRetiring := if c.rxRetiring = n then noSlot else c.rxRetiring }
  s.raiseIf (decide (k.state = .active)) Ev.CY_KEY.activeErased

/-- Bind a LOADED slot as the active key of its direction (R279). -/
def State.setAct (s : State) (n ch : Nat) (drop : Bool) : State × Nat :=
  let k := s.keySlot n
  if k.state = .locked then (s, 4)
  else if n = noSlot ∨ 192 ≤ ch ∨ k.state ≠ .loaded ∨ k.ch ≠ ch ∨ k.drop ≠ drop then (s, 12)
  else if (s.chanKey ch).act drop ≠ noSlot then (s, 6)
  else
    let s := s.onKey n fun k => { k with state := .active }
    (s.onChanKey ch fun c =>
      let c := (c.setAct drop n).setEpoch drop k.epoch
      if c.nxt drop = n then c.setNxt drop noSlot else c, 0)

/-- Bind a LOADED slot of the next epoch as the next key (R279). -/
def State.setNxt (s : State) (n ch : Nat) (drop : Bool) : State × Nat :=
  let k := s.keySlot n
  let c := s.chanKey ch
  if k.state = .locked then (s, 4)
  else if n = noSlot ∨ 192 ≤ ch ∨ k.state ≠ .loaded ∨ k.ch ≠ ch ∨ k.drop ≠ drop then (s, 12)
  else if c.act drop = noSlot then (s, 6)
  else if k.epoch ≠ (s.keySlot (c.act drop)).epoch + 1 then (s, 7)
  else if (!drop) && c.annSs.isSome then (s, 8)
  else (s.onChanKey ch fun c => c.setNxt drop n, 0)

/-- What a command does as it completes, with its RESULT (R279 to R281, R300 to R305). -/
def State.keyEffect (s : State) (c : KeyCmd) : State × Nat :=
  let random := decide (c.op = opUnwrapSet ∨ c.op = opUnwrapMaster ∨ c.op = opUnwrapKek ∨ c.op = opDerive)
  let target := decide (c.op = opUnwrapKek ∨ c.op = opPlainKek ∨ c.op = opEraseKek)
  let master := decide (c.op = opUnwrapMaster ∨ c.op = opEraseMaster)
  if c.op = 0 ∨ 12 ≤ c.op ∨ (target ∧ 4 ≤ c.slot) ∨ (master ∧ 192 ≤ c.slot) then (s, 12)
  else if random ∧ s.entropyFail then (s, 11)
  else if c.op = opUnwrapSet then
    if 192 ≤ c.ch then (s, 12)
    else if (s.keySlot c.slot).state ≠ .empty then (s.slotBusy c.by_ c.slot, 3)
    else if !s.kekValid c.kek then (s, 10)
    else
      match unwrap (Tab.get [] s.keks c.kek) c.blob with
      | some set => s.loadSet c.slot c.ch c.drop false c.epoch set
      | none => (s.raise Ev.CY_KEY.checkFailed, 2)
  else if c.op = opUnwrapMaster then
    if !s.kekValid c.kek then (s, 10)
    else
      match unwrap (Tab.get [] s.keks c.kek) c.blob with
      | some key => ({ s with masters := Tab.insert s.masters c.slot key }, 0)
      | none => (s.raise Ev.CY_KEY.checkFailed, 2)
  else if c.op = opUnwrapKek then
    if c.slot = c.kek then (s, 12)
    else if !s.kekValid c.kek then (s, 10)
    else
      match unwrap (Tab.get [] s.keks c.kek) c.blob with
      | some key => (s.setKek c.slot (some key), 0)
      | none => (s.raise Ev.CY_KEY.checkFailed, 2)
  else if c.op = opPlainKek then
    if s.on CY_KEY.KEK_CTRL_SEALED then (s, 10) else (s.setKek c.slot (some c.blob), 0)
  else if c.op = opDerive then
    if 192 ≤ c.ch ∨ !Tab.has s.masters c.ch then (s, 12)
    else if (s.keySlot c.slot).state ≠ .empty then (s.slotBusy c.by_ c.slot, 3)
    else
      let r := s.loadSet c.slot c.ch c.drop true c.epoch (s.derivedSet c.ch c.drop c.epoch (Tab.get [] s.masters c.ch))
      (r.1.raiseIf (decide (r.2 = 0)) Ev.CY_KEY.derived, r.2)
  else if c.op = opSetAct then s.setAct c.slot c.ch c.drop
  else if c.op = opSetNxt then s.setNxt c.slot c.ch c.drop
  else if c.op = opSwitch then
    if c.drop ∨ 192 ≤ c.ch then (s, 12) else s.requestSwitch c.ch (s.addSs c.ch + s.annLead)
  else if c.op = opEraseSlot then (s.eraseSlot c.slot, 0)
  else if c.op = opEraseMaster then ({ s with masters := Tab.erase s.masters c.slot }, 0)
  else (s.setKek c.slot none, 0)

/-- KEY_COMMAND_DONE (R305). -/
def execKeyCommandDone (s : State) : Result :=
  s.clocked <|
  .next (
    match s.keyCmd with
    | none => s
    | some c =>
      let r := { s with keyCmd := none }.keyEffect c
      let s := (r.1.wr CY_KEY.KEY_STATUS_BUSY 0).wr CY_KEY.KEY_STATUS_RESULT r.2
      s.raise (if r.2 = 0 then Ev.CY_KEY.completed else Ev.CY_KEY.refused))

/-! ### Switch boundaries (R281 to R283) -/

/-- ADD_SWITCH_BOUNDARY (R281, R283): the frame that follows begins source superframe SWITCH_SS. -/
def execAddSwitchBoundary (ch : Fin 192) (s : State) : Result :=
  s.clocked <|
  .next (
    let c := s.chanKey ch.val
    let p := match s.addPlaces ch.val with | (p, _) :: _ => p | [] => Port.E
    match c.annSs with
    | none => s
    | some b =>
      if !ssReached (((s.frame.get p).fcTx + 1) % 2 ^ 48 / 256) b then s
      else
        let next := c.txNxt
        let s := s.cond (decide (c.txAct ≠ noSlot)) fun s => s.wipeSlot c.txAct
        let s := s.onChanKey ch.val fun c => { c with txAct := next, txNxt := noSlot, annSs := none, annFrom := 0 }
        let s := s.cond (decide (next ≠ noSlot)) fun s =>
          (s.onKey next fun k => { k with state := .active }).onChanKey ch.val fun c => { c with txEpoch := (s.keySlot next).epoch }
        s.raise Ev.CY_KEY.addTaken)

/-- DROP_SWITCH_BOUNDARY (R277, R282): the boundary announced has been reached. -/
def execDropSwitchBoundary (ch : Fin 192) (s : State) : Result :=
  s.clocked <|
  .next (
    match (s.chanKey ch.val).rxAnnSs with
    | none => s
    | some b => if s.dropSsReached ch.val b then s.dropSwitch ch.val b else s)

/-- RETIRING_KEY_EXPIRY (R278): 16 source superframes after its switch boundary. -/
def execRetiringKeyExpiry (ch : Fin 192) (s : State) : Result :=
  s.clocked <|
  .next (
    let c := s.chanKey ch.val
    let due := match c.rxLastSs with | some b => s.dropSsReached ch.val (b + 16) || s.dropLost ch.val | none => true
    if c.rxRetiring = noSlot ∨ !due then s
    else (s.wipeSlot c.rxRetiring).onChanKey ch.val fun c => { c with rxRetiring := noSlot, rxLastSs := none })

/-! ### Verdicts (R289 to R293) -/

/-- VERDICT_DEADLINE (R289): no tag of source superframe `n` has matched by its deadline. -/
def execVerdictDeadline (ch : Fin 192) (n : Nat) (s : State) : Result :=
  s.clocked <|
  .next (
    let c := ch.val
    if !s.verdictDue c n then s else
    let s := s.cond (decide ((s.dropOf c).ss = some n)) fun s => s.closeSource c
    -- a superframe of which no unit came fails as well
    let s := s.cond (match (s.dropOf c).newest with | some m => ssReached n (m + 1) | none => false) fun s =>
      (s.missSources c ((n + 1) % 2 ^ 40)).onDrop c fun d => { d with newest := some n }
    let d := s.dropOf c
    match d.awaiting.find? fun a => a.1 = n with
    | none => s
    | some a => s.verdict c n (if a.2.2 then 4 else if d.tags.any fun t => t.1 == n then 2 else 3))

/-- The frame of a verdict report to an Ethernet client (R290). -/
def State.verdictFrame (s : State) (ch : Nat) (v : VerdictReport) : List Nat :=
  let da := s.rd CY_PIPE.VERD_DA_HI_DA * 2 ^ 32 + s.rd CY_PIPE.VERD_DA_LO_DA
  let sa := s.rd CY_PIPE.VERD_SA_HI_SA * 2 ^ 32 + s.rd CY_PIPE.VERD_SA_LO_SA
  let payload := [1, v.code] ++ bytesOf 2 ch ++ bytesOf 5 v.ss ++ bytesOf 4 v.epoch ++ bytesOf 4 v.packets ++ [min 255 v.run]
  let body := bytesOf 6 da ++ bytesOf 6 sa ++ bytesOf 2 (s.rd CY_PIPE.VERD_ETYPE_ETYPE) ++ payload ++
    List.replicate (46 - payload.length) 0
  body ++ ethFcs body

/-- The ordered set of a verdict report to an Ianen client: type 0x4B, D1 to D3, O code 0xA (R290). -/
def verdictSet (ch : Nat) (v : VerdictReport) : List Nat := [0x4B, v.code, ch, v.ss % 256, 0x0A, 0, 0, 0]

/-- A verdict report leaves at its client's packet boundary, ahead of the packets not yet started: on an Ianen lane as a block
behind the packet in progress, on Ethernet as a frame (R194, R290). A generator replaces it on the lanes (R202). -/
def State.sendVerdict (s : State) (ch : Nat) (v : VerdictReport) : State :=
  let ianen := s.clientIanen v.client
  let s := s.cond ianen fun s => s.onLane v.client fun l => { l with txq := l.txq ++ [(⟨true, verdictSet ch v⟩, none)] }
  s.cond (!s.clientReplaced v.client) fun s =>
    s.emit (.verdict v.client (if ianen then verdictSet ch v else s.verdictFrame ch v))

/-- VERDICT_REPORT_SEND (R290): the oldest report of a channel leaves at its client's packet boundary, once the client's transmitter
sends packets. -/
def execVerdictReportSend (ch : Fin 192) (s : State) : Result :=
  s.clocked <|
  .next (
    match (s.dropOf ch.val).reports with
    | [] => s
    | v :: t =>
      if s.clientSends v.client then
        (((s.onDrop ch.val fun d => { d with reports := t }).sendVerdict ch.val v).raise Ev.CY_PIPE.reports).flushClient v.client
      else s)

/-- A write of a channel to `RESUME` (R292). -/
def State.resume (s : State) (ch : Nat) : State :=
  if (s.chanKey ch).integSquelch then
    ((s.onChanKey ch fun c => { c with integSquelch := false }).onDrop ch fun d => { d with failRun := 0 }).raise
      Ev.CY_PIPE.squelchCleared
  else s

/-- RESUME (R292). -/
def execResume (r : Requester) (ch : Byte) (s : State) : Result :=
  .next (s.guarded r pipePage 0x06C fun s => if ch.toNat < 192 then s.resume ch.toNat else s)

/-- HELD_UNIT_RELEASE (R293): a held unit is due: the oldest whose superframe has its verdict leaves, a later one not waiting
for a unit that has none yet; of one whose superframe failed only its place is left. -/
def execHeldUnitRelease (ch : Fin 192) (s : State) : Result :=
  s.clocked <|
  .next (
    let d := s.dropOf ch.val
    match d.held.find? fun u => (d.passed ++ d.failed).contains (u.1.sfc / 256) with
    | none => s
    | some u => (s.onDrop ch.val fun d => { d with held := d.held.erase u }).deliverUnit ch.val u.1)

/-! ### Rotation (R286, R303) and the DRBG (R299, R304) -/

/-- The lowest EMPTY key slot that a pointer can name (R279). -/
def State.freeSlot (s : State) : Option Nat := (List.range noSlot).find? fun n => decide ((s.keySlot n).state = .empty)

/-- The rotation service derives the next key of a direction that lacks one (R303). -/
def State.ensureNext (s : State) (ch : Nat) (drop : Bool) : State :=
  let c := s.chanKey ch
  if c.act drop = noSlot ∨ c.nxt drop ≠ noSlot ∨ !Tab.has s.masters ch ∨ s.entropyFail ∨ (!drop ∧ c.annSs.isSome) then s
  else
    match s.freeSlot with
    | none => (s.onChanKey ch fun c => { c with refusals := c.refusals + 1 }).raise Ev.CY_KEY.rotationRefused
    | some n =>
      let e := (s.keySlot (c.act drop)).epoch + 1
      if 2 ^ 32 ≤ e then s
      else
        let r := s.loadSet n ch drop true e (s.derivedSet ch drop e (Tab.get [] s.masters ch))
        if r.2 = 0 then (r.1.raise Ev.CY_KEY.derived).onChanKey ch fun c => c.setNxt drop n else r.1

/-- The rotation service on a channel: its next keys, and the switch that is due; in the last `ANN_LEAD` superframes before a wrap a
switch at 0x0000, whether or not one is due (R286, R303). -/
def State.rotate (s : State) (ch : Nat) : State :=
  if s.kdfEn ch then
    let s := (s.ensureNext ch false).ensureNext ch true
    let ss := s.addSs ch
    let wrap := decide (2 ^ 40 ≤ ss + s.annLead)
    if (s.chanKey ch).rotDue || wrap then
      let r := s.requestSwitch ch (if wrap then 0 else ss + s.annLead)
      if r.2 = 0 then r.1.onChanKey ch fun c => { c with rotDue := false } else r.1
    else s
  else s

/-- KEY_ROTATION_TIMER (R303): `ROT_PERIOD` has passed for a channel. -/
def execKeyRotationTimer (ch : Fin 192) (s : State) : Result :=
  s.served <| s.clocked <|
  .next (
    if s.kdfEn ch.val then (s.onChanKey ch.val fun c => { c with rotDue := true, rotTick := s.rd MG_CTL.TICK_COUNT_TICKS }).rotate ch.val
    else s)

/-- DRBG_RESEED (R299, R304): the health tests of the noise source pass or fail. -/
def execDrbgReseed (healthy : Bool) (s : State) : Result :=
  s.clocked <|
  .next (
    if s.entropyFail then s
    else if healthy then s.wr CY_KEY.RNG_STATUS_DRBG_READY 1
    else ({ s with entropyFail := true }.wr CY_KEY.RNG_STATUS_HEALTH_OK 0).raise Ev.CY_KEY.entropyFail)

end Sys2Proof.Machine
end

