-- ==== Sys2Proof/Machine/Locks.lean ====
section
/-! DEFINITION. When the RW-LK fields of a page are locked (R6, R472, R476, and the page tables of the owning chapters). -/

namespace Sys2Proof.Machine

open F

/-- The port of a page of the line dies. -/
def linePort (page : Nat) : Port := if page ≤ 38 then .E else .W

/-- The kind of a page of the line dies: 0 TX to 7 FEC. -/
def lineKind (page : Nat) : Nat := (page - 31) % 8

/-- The receiver or the transmitter of a line port is enabled (R232). -/
def State.portEnabled (s : State) : Bool :=
  [Port.E, Port.W].any fun p => s.on (RXFE.RX_CTRL_RX_ENABLE p) || s.on (TX.TX_CTRL_TX_ENABLE p)

/-- The lock condition of the RW-LK fields at an offset of a page; false where the offset has none (R6, R476). The fields of
`MON_SEQ` and of `RXEQ` are locked while their block runs (log entry 47). -/
def State.locked (s : State) (page off : Nat) : Bool :=
  if 31 ≤ page then
    let p := linePort page
    if lineKind page = 0 then decide (off = 0x064 ∧ s.txSt p ≠ txDark) else s.on (RXFE.RX_CTRL_RX_ENABLE p)
  else
    match page with
    | 5 => s.on MG_OBS.TRACE_RING_CFG_RING_EN
    | 6 => decide (0x100 ≤ off ∧ off < 0x500) && s.on (DMA_ENG.CH_CTRL_RUN ((off - 0x100) / 0x40))
    | 8 =>
      let i := (off - 0x040) / 0x10
      decide (0x040 ≤ off ∧ off < 0x100 ∧
        (s.rd CK_REF.SEL_STATUS_SELECTED = i ∨ s.rd CK_REF.SEL_STATUS_STANDBY = i))
    | 11 | 12 | 13 | 14 => s.on (TS_TB.TB_CTRL_EN (page - 11))
    | 16 =>
      if off = 0x064 then s.on PWR_MGR.AVS_CFG_AVS_EN
      else if off = 0x080 then s.on PWR_MGR.PMB_CFG_ENABLE
      else decide (0x0C0 ≤ off ∧ off < 0x140) && s.on (PWR_MGR.RAIL_CFG_EN ((off - 0x0C0) / 8))
    | 17 => s.on MON_SEQ.SEQ_CTRL_RUN
    | 24 => (List.range 24).any s.laneOn
    | 25 => s.portEnabled
    | 26 =>
      let ch := (off - 0x040) / 4
      decide (0x040 ≤ off ∧ off < 0x340) && (s.chInForce ch || s.chInForce (s.dpPartner ch))
    | 27 => decide (0x040 ≤ off ∧ off < 0x340) && s.laneOn ((off - 0x040) / 0x20)
    | 28 => decide (0x040 ≤ off ∧ off < 0x1C0) && s.clientOn ((off - 0x040) / 0x10)
    | _ => false

/-- A field that a write cannot change now (R476). -/
def State.fieldLocked (s : State) (f : Field) : Bool := decide (f.acc = .rwLk) && s.locked f.page f.off

/-- `CTRL.ENABLED` (R472). -/
def State.pageEnabled (s : State) (page : Nat) : Bool := (blockFields page).any s.fieldLocked

/-- `PAGE_CAPS.SOFT_RESET_OK` (R472). -/
def softResetOk (page : Nat) : Bool :=
  !decide (page = 0 ∨ page = 1 ∨ page = 4 ∨ page = 7 ∨ page = 8 ∨ page = 9 ∨ page = 10)

/-- A staged value of the page differs from its active value (R471). -/
def State.stagedDiff (s : State) (page : Nat) : Bool :=
  (blockFields page).any fun f => decide (f.acc = .rwSh) && decide (s.rd f ≠ s.rdA f)

end Sys2Proof.Machine
end

