-- ==== Sys2Proof/Machine/Time.lean ====
section
/-! DEFINITION. Stamps, the PTP servos and messages, 1PPS and time of day (R341 to R355). -/

namespace Sys2Proof.Machine

open F

/-! ### Stamps (R347 to R351) -/

/-- Cycles of CCLK in units of 2^−32 ns: one is 12.8/17 ns. -/
def cclkU (n : Int) : Int := n * 128 * (nsU : Int) / 170

/-- A time base at an instant synchronous to RCLK: 20 RCLK to a TCLK of 32/17 ns (R347). -/
def State.tbStamp (s : State) (x : Nat) (t : Stamp) : Int :=
  s.tbRead x t.tclk + (t.phase.val * 8 * nsU : Nat) / 85

/-- Sign bits of a group that carry data (R138, step 2). -/
def groupSigns (kinds : Array Nat) (m : Nat) : List Nat := ((List.range 256).map (256 * m + ·)).filter fun v => kinds.getD v 0 = 0

/-- Where data bit `o` of a data block travels: its symbol period in the block, and whether it is an input bit of a
matcher block, which fixes no single symbol period of its 64 (R40, R138). -/
def bitPlace (x : Mode) (kinds : Array Nat) : Nat → Nat → Nat → Nat × Bool
  | 0, m, _ => (64 * m, false)
  | n + 1, m, o =>
    let amps := if x.shaped then 2 * x.k else 256 * x.ampBits
    if o < amps then
      if x.shaped then (64 * m, true)
      else (64 * m + o / (4 * x.ampBits), false)
    else
      let signs := groupSigns kinds m
      if o - amps < signs.length then (signs.getD (o - amps) 0 / 4, false)
      else bitPlace x kinds n (m + 1) (o - amps - signs.length)

/-- s_f: the index, from the superframe boundary and with pad and seam, of the symbol period that carries the first bit of
the FAW of frame `f` (R135, R138, R350). Within a matcher block it is a free value of 64 (log entry 42). -/
def State.framePos (s : State) (x : Mode) (f : Nat) : Nat :=
  let i := f * x.frameLen
  let d := i / 9232 * 9344 + i % 9232
  let r := bitPlace x (signKinds x 64 (x.codewords * x.parityBits)) 64 0 (d % x.dataBits)
  4096 + x.pad + 4096 * (d / x.dataBits) + (if r.2 then r.1 + s.freeVal 6 else r.1)

/-- The time that `n` symbol periods take. -/
def symbolsU (x : Mode) (n : Nat) : Int := ((4 * n * nsU / x.rateQ : Nat) : Int)

/-- What corrects the instant t_B of a line stamp to the ball (R350); `LINE_POS` takes the value of s_f used. -/
def State.lineStamp (s : State) (p : Port) (f : Nat) (rx : Bool) : State × Int :=
  let mode := if rx then s.rxMode p else s.txMode p
  let pos := s.framePos mode f
  let asym := picoU (s.rdI (TS_STAMP.LINE_ASYM_ASYM p))
  let pipe : Int := if rx then -((s.rd (RXEQ.EQ_LAT_LATENCY p) + s.feLatency p : Nat) : Int) else 160
  (((s.wr (TS_STAMP.LINE_POS_S_F p) pos).useFree).raise (Ev.TS_STAMP.lineStamped p), cclkU pipe + symbolsU mode pos - asym)

/-- The corrections of a host stamp in ps, by Ethernet rate: ingress and egress (R348). -/
def hostCorrection (rate : Nat) : Int × Int :=
  match rate with
  | 1 => (-113222, 11954)
  | 2 => (-113552, 11624)
  | 3 => (-113717, 11459)
  | 4 => (-113799, 11377)
  | 5 => (-113841, 11335)
  | _ => (0, 0)

/-- A message is stamped at its crossing, once whatever the number of time bases that take it (R347 to R350): what corrects
the instant of the crossing to the ball. -/
def State.stampAt (s : State) (c : Crossing) (rx : Bool) : State × Int :=
  match c with
  | .host k _ =>
    let r := hostCorrection (s.rd (HL_CLIENT.CLIENT_CFG_RATE k.val))
    (s.raise Ev.TS_STAMP.hostStamped, picoU (if rx then r.1 else r.2))
  | .line p f _ => s.lineStamp p f.toNat rx

/-- The instant of a crossing. -/
def crossingAt : Crossing → Stamp
  | .host _ t => t
  | .line _ _ t => t

/-- The device port of a crossing: clients 0 to 23, LINE-E 24, LINE-W 25 (R341). -/
def crossingPort : Crossing → Nat
  | .host k _ => k.val
  | .line p _ _ => 24 + p.toNat

/-- PTP messages pass at a device port: an Ethernet client that is on, or a line port in SYNC, outside which no stamp is
taken, received or sent (R346, R350; log entry 101). -/
def State.ptpOpen (s : State) (port : Nat) : Bool :=
  if port < 24 then s.clientOn port && !s.clientIanen port else s.on (HB_FRAME.FRM_STATUS_SYNC (Port.ofBit (port - 24)))

/-- PTP messages pass at a crossing. -/
def State.crossingOpen (s : State) (c : Crossing) : Bool := s.ptpOpen (crossingPort c)

/-! ### Servos (R341 to R345) -/

/-- The instance steers the time base: the primary while `ACTIVE_GM` is 0 (R344, R345). -/
def State.steers (s : State) (x : Nat) (sh : Bool) : Bool := s.on (TS_TB.TB_STATUS_ACTIVE_GM x) == sh

/-- The servo of an instance is enabled: the one that does not steer runs with `SHADOW_EN` (R341, R344, R345). -/
def State.servoOn (s : State) (x : Nat) (sh : Bool) : Bool :=
  s.on (TS_TB.TB_CTRL_EN x) && (s.steers x sh || s.on (TS_TB.TB_CTRL_SHADOW_EN x))

/-- The device port of an instance. -/
def State.servoPort (s : State) (x : Nat) (sh : Bool) : Nat :=
  s.rd (if sh then TS_TB.TB_SRC_SHADOW_PORT x else TS_TB.TB_SRC_PORT x)

/-- `TB_SRC.DOMAIN`, 24 to 43; other values are read as 24 (R357). -/
def State.tbDomain (s : State) (x : Nat) : Nat :=
  let d := s.rd (TS_TB.TB_SRC_DOMAIN x)
  if 24 ≤ d ∧ d ≤ 43 then d else 24

/-- The offset of the steering instance that its locks and its steps go by: the part of a grandmaster switch still to be
removed, or built out for good, is none of it, so that the time base never steps for it and `TIME_LOCK` stays set (R345;
log entry 102). -/
def State.judged (s : State) (x : Nat) (o : Int) : Nat := (o - (s.tbOf x).slew * (nsU : Int) / 10000).natAbs

/-- A grandmaster switch takes effect (R345): the shadow's frequency estimate goes into ADJ, the instances exchange their roles, and
the offset is left to be removed, or with `SLOPE` = 0 stays built out. -/
def State.takeSwitch (s : State) (x : Nat) : State :=
  let sh := !s.on (TS_TB.TB_STATUS_ACTIVE_GM x)
  let v := s.servoOf x sh
  let was := s.on (TS_TB.TB_STATUS_TIME_LOCK x)
  let slew := v.offset * 10000 / (nsU : Int)
  let s := (s.setAdj x (unsigned 32 v.est)).onTb x fun b =>
    { b with switching := false, slew := slew, built := decide (s.rd (TS_TB.TB_SLOPE_SLOPE x) = 0), slewRate := 0 }
  let s := (s.wrB (TS_TB.TB_STATUS_ACTIVE_GM x) sh).wrB (TS_TB.TB_STATUS_SHADOW_LOCK x) was
  (s.wrI (TS_TB.SLEW_LEFT_RESIDUAL x) (clampInt (-(2 ^ 31)) (2 ^ 31 - 1) (slew.tdiv 100))).raise (Ev.TS_TB.gmSwitch x)

/-- An update of a servo with the origin time, the stamp and the path delay of a Sync (R340, R341, R344); a switch that waits takes
effect at it (R345). The loop's frequency estimate, and the rate it gives the time base, are not stated: free values (log entry
43). -/
def State.servoUpdate (s : State) (x : Nat) (sh : Bool) (t1 t2 delay : Int) : State :=
  let o := t2 - t1 - delay
  let est := signed 32 (s.freeVal 32)
  let size := if s.steers x sh then s.judged x o else o.natAbs
  let s := (s.useFree).onServo x sh fun v =>
    { v with offset := o, ms := t2 - t1, est := est, sync := none, hi := max v.hi size, lo := min v.lo size }
  let s := if s.steers x sh then
    let s := (s.onTb x fun b => { b with idleMs := 0 }).wrI (TS_TB.TB_OFFSET_OFS x) (toCenti o)
    let s := ((s.wr (TS_TB.TB_STATUS_HOLDOVER x) 0).setAdj x (s.freeVal 32)).useFree
    s.cond (decide (s.rd (TS_TB.TB_SERVO_STEP_THRESH x) * 10 * nsU < size) && !s.on (TS_TB.TB_STATUS_TIME_LOCK x)) fun s =>
      s.tbStep x (-o)
  else s.wrI (TS_TB.SHADOW_OFS_OFS x) (toCenti o)
  s.cond (s.tbOf x).switching fun s => s.takeSwitch x

/-- The share of `TB_RATE.ADJ` that removes the offset of a grandmaster switch becomes `r` (R340, R345). -/
def State.setSlewRate (s : State) (x : Nat) (r : Int) : State :=
  let adj := clampInt (-500000000) 500000000 (s.rdI (TS_TB.TB_RATE_ADJ x) - (s.tbOf x).slewRate + r)
  s.cond (decide ((s.tbOf x).slewRate ≠ r)) fun s =>
    (s.setAdj x (unsigned 32 adj)).onTb x fun b => { b with slewRate := r }

/-- Holdover begins, ADJ freezes without the share of a slew that stops (log entry 102), or the shadow master is lost (R342,
R345). -/
def State.masterLost (s : State) (x : Nat) (sh : Bool) : State :=
  let s := s.onServo x sh fun v => { v.unlock with heard := false, sync := none, req := none }
  if s.steers x sh then
    if s.on (TS_TB.TB_STATUS_HOLDOVER x) then s
    else (((s.setSlewRate x 0).wr (TS_TB.TB_STATUS_HOLDOVER x) 1).raise (Ev.TS_TB.holdover x)).tbUnlock x
  else s.wr (TS_TB.TB_STATUS_SHADOW_LOCK x) 0

/-- ANNOUNCE_TIMEOUT (R342). -/
def execAnnounceTimeout (x : Fin 4) (shadow : Bool) (s : State) : Result :=
  s.clocked <| s.served <|
  .next (if s.servoOn x.val shadow then s.masterLost x.val shadow else s)

/-- SERVO_UPDATE_TIMEOUT (R361): the device's own clearing of the locks. -/
def execServoUpdateTimeout (x : Fin 4) (s : State) : Result :=
  s.clocked <|
  .next (if 1999 ≤ (s.tbOf x.val).idleMs then s.tbUnlock x.val else s)

/-- `SWITCH` written (R345): accepted with `SHADOW_LOCK`, it takes effect at the next servo update. -/
def State.switchGm (s : State) (x : Nat) : State :=
  if s.on (TS_TB.TB_STATUS_SHADOW_LOCK x) then s.onTb x fun b => { b with switching := true }
  else s.raise (Ev.TS_TB.switchRefused x)

/-- GRANDMASTER_SWITCH (R345): `SWITCH` written, by software or for the alternate BMCA by a control core. -/
def execGrandmasterSwitch (r : Requester) (x : Fin 4) (s : State) : Result :=
  .next (s.guarded r (11 + x.val) 0x040 fun s => s.switchGm x.val)

/-- `STEP` written (R340). -/
def State.stepTb (s : State) (x : Nat) : State :=
  if s.on (TS_TB.TB_STATUS_TIME_LOCK x) then s.raise (Ev.TS_TB.stepRefused x)
  else s.tbStep x (s.rdI (TS_TB.STEP_S_S x) * (secU : Int) + s.rdI (TS_TB.STEP_NS_NS x) * (nsU : Int))

/-- STEP (R340). -/
def execStepTime (r : Requester) (x : Fin 4) (s : State) : Result :=
  .next (s.guarded r (11 + x.val) 0x040 fun s => s.stepTb x.val)

/-- A second passes at one servo instance (R342): the runs of its estimate and of its offset, which is of the size `now` from
here on. -/
def Servo.second (v : Servo) (ppb lockNs : Nat) (locked : Bool) (now : Nat) : Servo :=
  let d := (v.est - v.estSec).natAbs
  let freqRun := if d < 1000 * ppb then min 16 (v.freqRun + 1) else 0
  let freqOut := if 1000 * ppb < d then min 4 (v.freqOut + 1) else 0
  let freqLock := if freqRun = 16 then true else if freqOut = 4 then false else v.freqLock
  { v with estSec := v.est, freqRun := freqRun, freqOut := freqOut, freqLock := freqLock,
           timeRun := if freqLock ∧ v.hi ≤ lockNs * nsU then min 16 (v.timeRun + 1) else if locked then v.timeRun else 0,
           timeOut := if 2 * lockNs * nsU < v.lo then min 4 (v.timeOut + 1) else 0,
           hi := now, lo := now }

/-- A lock indication after a second: set by 16 seconds within, cleared by 4 beyond or by the loss of frequency lock. -/
def Servo.timeLocked (v : Servo) (was : Bool) : Bool :=
  if !v.freqLock || decide (v.timeOut = 4) then false else was || decide (v.timeRun = 16)

/-- A second passes at a time base; 2 s without an update count for neither lock (R361). -/
def State.tbSecond (s : State) (x : Nat) : State :=
  let ppb := atLeast1 (s.rd (TS_TB.TB_LOCK_FREQ_LOCK_PPB x))
  let ns := atLeast1 (s.rd (TS_TB.TB_LOCK_TIME_LOCK_NS x))
  s.forEach [false, true] fun sh s =>
    if s.servoOn x sh && (s.servoOf x sh).heard && !(s.steers x sh && decide (1999 ≤ (s.tbOf x).idleMs)) then
      let was := if s.steers x sh then s.on (TS_TB.TB_STATUS_TIME_LOCK x) else s.on (TS_TB.TB_STATUS_SHADOW_LOCK x)
      let o := (s.servoOf x sh).offset
      let size := if s.steers x sh then s.judged x o else o.natAbs
      let s := s.onServo x sh fun v => v.second ppb ns was size
      let v := s.servoOf x sh
      let now := v.timeLocked was
      let s := s.cond (was && !now) fun s => s.onServo x sh fun v => { v with timeRun := 0 }
      if s.steers x sh then (s.setFreqLock x v.freqLock).setTimeLock x now
      else s.wrB (TS_TB.TB_STATUS_SHADOW_LOCK x) now
    else s

/-- One tick at a time base: the slew of a grandmaster switch goes on, by ADJ alone and outside holdover, where the services run
that set ADJ, and with `SLOPE` = 0 what is left stays built out (R340, R345, R361); time without an update is counted (R361). -/
def State.tbTick (s : State) (x : Nat) : State :=
  let b := s.tbOf x
  let slope : Int := s.rd (TS_TB.TB_SLOPE_SLOPE x)
  let left := b.slew + b.slewRate / 100
  let s := s.cond (decide (b.slewRate ≠ 0)) fun s =>
    (s.onTb x fun b => { b with slew := left }).wrI (TS_TB.SLEW_LEFT_RESIDUAL x) (clampInt (-(2 ^ 31)) (2 ^ 31 - 1) (left.tdiv 100))
  let s := s.cond s.coreUp fun s =>
    let s := s.onTb x fun b => { b with built := b.built || decide (slope = 0 ∧ b.slew ≠ 0) }
    let still := s.on (TS_TB.TB_STATUS_HOLDOVER x) || (s.tbOf x).built
    s.setSlewRate x (if still then 0 else -(100 * clampInt (-slope) slope left))
  s.onTb x fun b => { b with idleMs := min 2000 (b.idleMs + 1) }

/-! ### PTP messages (R346, R352) -/

/-- The numbers of the message types of IEEE 1588-2019. -/
def ptpCode : PtpKind → Nat
  | .sync => 0
  | .delayReq => 1
  | .followUp => 8
  | .delayResp => 9
  | .announce => 11
  | .signalling => 12
  | .management => 13

/-- Seconds and nanoseconds of a time in units of 2^−32 ns, as ten bytes, and the rest in units of 2^−16 ns. -/
def timestampBytes (u : Int) : List Nat :=
  let n := (u % ((2 ^ 48 * secU : Nat) : Int)).toNat
  bytesOf 6 (n / secU) ++ bytesOf 4 (n % secU / nsU)
def subNs (u : Int) : Nat := (u % (nsU : Int)).toNat / 65536

/-- logMessageInterval: 16 messages a second for Sync and Delay_Resp, 8 for Announce (R346; log entry 44). -/
def ptpInterval : PtpKind → Nat
  | .sync | .followUp | .delayResp => 0xFC
  | .announce => 0xFD
  | .delayReq | .management | .signalling => 0x7F

/-- A message as a line port sends it (R352): the header of IEEE 1588-2019 with its correctionField `corr`, the time, and the
rest of the message. The port identity of the device and the numbers it gives its messages are not stated: `ident` and `seq`
(log entry 44). -/
def ptpBytes (k : PtpKind) (domain corr : Nat) (u : Int) (content : List Nat) (ident seq : Nat) (leap : Nat := 0) : List Nat :=
  [ptpCode k, 0x12] ++ bytesOf 2 (44 + content.length) ++ [domain, 0, 0, leap] ++ bytesOf 8 corr ++ bytesOf 4 0 ++
    bytesOf 10 ident ++ bytesOf 2 seq ++ [0, ptpInterval k] ++ timestampBytes u ++ content

/-- The body of an Announce after its origin time: currentUtcOffset, priority1, the clock quality, priority2, the
grandmaster, the steps removed and the time source, which is not stated (log entry 44). -/
def announceBody (gm qual var steps utc source : Nat) : List Nat :=
  bytesOf 2 utc ++ [0, bits qual 0 8, bits qual 16 8, bits qual 24 8] ++ bytesOf 2 var ++ [bits qual 8 8] ++ bytesOf 8 gm ++
    bytesOf 2 steps ++ [source]

/-- Put a PTP message on a line port as a Dvorrov message of class 1 (R352). -/
def State.ptpLine (s : State) (p : Port) (bytes : List Nat) : State := (s.dvSend p 1 bytes).useFree

/-- A message of an instance leaves by a device port; the destination address is that of the instance (R346, R373). -/
def State.ptpEmit (s : State) (x : Nat) (sh : Bool) (k : PtpKind) (port : Nat) (time : Int) (content : List Nat) : State :=
  s.emit (.ptp x k port (if port < 24 then (s.servoOf x sh).dest else 0) (s.tbDomain x) time content)

/-- Send a Sync, a Follow_Up or a Delay_Req of an instance at a crossing: on an Ethernet client as it is, on a line port as a
Dvorrov message of class 1 with what the time has below a nanosecond in correctionField (R352). -/
def State.ptpSend (s : State) (x : Nat) (sh : Bool) (k : PtpKind) (c : Crossing) (u : Int) : State :=
  let s := s.ptpEmit x sh k (crossingPort c) (u / 65536) []
  match c with
  | .host _ _ => s
  | .line p _ _ => s.ptpLine p (ptpBytes k (s.tbDomain x) (subNs u) u [] (s.freeVal 80) (s.freeVal 96 / 2 ^ 80))

/-- Answer a Delay_Req whose stamp is `u` (IEEE 1588-2019): the answer takes over the number, the identity and the correction
field of the request, less what the stamp has below a nanosecond. -/
def State.ptpAnswer (s : State) (x : Nat) (sh : Bool) (c : Crossing) (m : PtpMsg) (u : Int) : State :=
  let corr := (m.corr.toNat + 2 ^ 64 - subNs u) % 2 ^ 64
  let s := s.ptpEmit x sh .delayResp (crossingPort c) (u / 65536) [m.source.toNat, m.seq.toNat, corr]
  match c with
  | .host _ _ => s
  | .line p _ _ =>
    s.ptpLine p (ptpBytes .delayResp (s.tbDomain x) corr u (bytesOf 10 m.source.toNat) (s.freeVal 80) m.seq.toNat)

/-- A slave instance: a boundary clock whose port may be a slave, or an ordinary slave (R346). -/
def Servo.slave (v : Servo) : Bool := decide (v.kind = 3) || (decide (v.kind = 2) && !v.notSlave)

/-- The instances that listen on a device port in a domain (R341, R344). -/
def State.listeners (s : State) (port domain : Nat) : List (Nat × Bool) :=
  ((List.range 4).flatMap fun x => [(x, false), (x, true)]).filter fun e =>
    s.servoOn e.1 e.2 && decide (s.servoPort e.1 e.2 = port ∧ s.tbDomain e.1 = domain ∧ (s.servoOf e.1 e.2).kind ≠ 0)

/-- A device port from which an instance of a time base takes its master: a slave port. -/
def State.slavePort (s : State) (x port : Nat) : Bool :=
  [false, true].any fun sh => s.servoOn x sh && (s.servoOf x sh).slave && decide (s.servoPort x sh = port)

/-- A device port is a master port of an instance: a grandmaster's, or a boundary clock's that is no slave port (R346; log entry
132). -/
def State.masterPort (s : State) (x : Nat) (sh : Bool) (port : Nat) : Bool :=
  s.servoOn x sh && decide ((s.servoOf x sh).kind = 1 ∨ (s.servoOf x sh).kind = 2) && !s.slavePort x port

/-- The instances that answer a Delay_Req at a device port in a domain: of each time base the one that steers it. -/
def State.answerers (s : State) (port domain : Nat) : List (Nat × Bool) :=
  ((List.range 4).map fun x => (x, s.on (TS_TB.TB_STATUS_ACTIVE_GM x))).filter fun e =>
    s.masterPort e.1 e.2 port && decide (s.tbDomain e.1 = domain)

/-- The stamp unit takes the time of a message that is an event: a Sync or a Delay_Req (R347; IEEE 1588-2019). -/
def ptpEvent : PtpKind → Bool
  | .sync | .delayReq => true
  | .followUp | .delayResp | .announce | .management | .signalling => false

/-- A message at one instance that it is for; `corr` corrects its stamp to the ball. A master that was lost is heard again with its
next Announce (R342). -/
def State.ptpTake (s : State) (c : Crossing) (m : PtpMsg) (corr : Int) (e : Nat × Bool) : State :=
  let x := e.1
  let sh := e.2
  let t := m.time * 65536
  let v := s.servoOf x sh
  let at_ := s.tbStamp x (crossingAt c) + corr
  match m.kind with
  | .sync =>
    if v.slave ∧ v.heard then
      if m.twoStep then s.onServo x sh fun v => { v with sync := some (t, at_) } else s.servoUpdate x sh t at_ v.delay
    else s
  | .followUp =>
    match v.sync with
    | some (t1, t2) => if v.slave ∧ v.heard then s.servoUpdate x sh (t1 + t) t2 v.delay else s
    | none => s
  | .delayResp =>
    match v.req with
    | some t3 => s.onServo x sh fun v => { v with req := none, delay := (v.ms + (t - t3)) / 2 }
    | none => s
  | .announce =>
    let s := s.onServo x sh fun v =>
      { v with heard := true, gmId := m.gmId.toNat, gmQual := m.gmQual.toNat, gmVar := m.gmVar.toNat, steps := m.steps.toNat + 1 }
    s.cond (s.steers x sh) fun s => s.onTb x fun b => { b with utc := m.utc.toNat, leap := m.leap.toNat }
  | .delayReq => s.ptpAnswer x sh c m at_
  -- management messages are discarded, signalling messages ignored
  | .management | .signalling => s

/-- The instances that a message is for. -/
def State.takers (s : State) (k : PtpKind) (port domain : Nat) : List (Nat × Bool) :=
  if k = .delayReq then s.answerers port domain else s.listeners port domain

/-- PTP_MESSAGE_RECEIVED (R341, R346): the services that take it run on the control cores. -/
def execPtpMessageReceived (c : Crossing) (m : PtpMsg) (s : State) : Result :=
  s.clocked <| s.served <|
  .next (
    if s.crossingOpen c then
      let s := s.toInstant (crossingAt c).tclk
      let r := if ptpEvent m.kind then s.stampAt c true else (s, 0)
      r.1.forEach (r.1.takers m.kind (crossingPort c) m.domain.toNat) fun e s => s.ptpTake c m r.2 e
    else s)

/-- PTP_SYNC_SEND (R346, R352): the origin time is the transmit stamp, with a Follow_Up where the port is two-step. -/
def execPtpSyncSend (x : Fin 4) (shadow : Bool) (c : Crossing) (s : State) : Result :=
  s.clocked <| s.served <|
  .next (
    let v := s.servoOf x.val shadow
    if s.masterPort x.val shadow (crossingPort c) ∧ s.crossingOpen c then
      let s := s.toInstant (crossingAt c).tclk
      let r := s.stampAt c false
      let u := s.tbStamp x.val (crossingAt c) + r.2
      match c with
      | .host _ _ =>
        if v.twoStep then (r.1.ptpSend x.val shadow .sync c 0).ptpSend x.val shadow .followUp c u
        else r.1.ptpSend x.val shadow .sync c u
      | .line _ _ _ => r.1.ptpSend x.val shadow .sync c u
    else s)

/-- DELAY_REQ_SEND (R346). -/
def execDelayReqSend (x : Fin 4) (shadow : Bool) (c : Crossing) (s : State) : Result :=
  s.clocked <| s.served <|
  .next (
    if s.servoOn x.val shadow ∧ s.crossingOpen c ∧ (s.servoOf x.val shadow).slave ∧ (crossingPort c) = s.servoPort x.val shadow then
      let s := s.toInstant ((crossingAt c).tclk)
      let r := s.stampAt c false
      let u := s.tbStamp x.val (crossingAt c) + r.2
      (r.1.onServo x.val shadow fun v => { v with req := some u }).ptpSend x.val shadow .delayReq c 0
    else s)

/-- What an Announce of an instance carries: its grandmaster, itself for a T-GM (R346, R373). -/
def State.announceContent (s : State) (x : Nat) (sh : Bool) : List Nat :=
  let b := s.tbOf x
  let v := s.servoOf x sh
  if v.kind = 1 then [0, b.clockQual, b.clockVar, 0, b.utc, b.leap] else [v.gmId, v.gmQual, v.gmVar, v.steps, b.utc, b.leap]

/-- The Announce of a time base with that content on a line port. -/
def State.announceLine (s : State) (x : Nat) (p : Port) (l : List Nat) : State :=
  s.ptpLine p (ptpBytes .announce (s.tbDomain x) 0 0
    (announceBody (l.getD 0 0) (l.getD 1 0) (l.getD 2 0) (l.getD 3 0) (l.getD 4 0) (s.freeVal 104 / 2 ^ 96)) (s.freeVal 80)
    (s.freeVal 96 / 2 ^ 80) (l.getD 5 0))

/-- ANNOUNCE_SEND (R346): on a line port as a Dvorrov message of class 1 (R352). -/
def execAnnounceSend (x : Fin 4) (shadow : Bool) (port : Fin 26) (s : State) : Result :=
  s.clocked <| s.served <|
  .next (
    if s.masterPort x.val shadow port.val ∧ s.ptpOpen port.val then
      let l := s.announceContent x.val shadow
      let s := s.ptpEmit x.val shadow .announce port.val 0 l
      s.cond (decide (24 ≤ port.val)) fun s => s.announceLine x.val (Port.ofBit (port.val - 24)) l
    else s)

/-! ### 1PPS and time of day (R353 to R355) -/

/-- The whole second a time has reached. -/
def wholeSec (u : Int) : Nat := (u / (secU : Int)).toNat % 2 ^ 48

/-- The whole second nearest to a time. -/
def nearestSec (u : Int) : Nat := wholeSec (u + (secU / 2 : Nat))

/-- A time base whose time is `u` crossed a whole second in the TCLK cycle that ends there: it is past it by less than one
cycle at its rate (R339, R353). -/
def crossedSecond (adj u : Int) : Bool := decide (u % (secU : Int) * (17 * 1000000000000) < 32 * (nsU : Int) * (1000000000000 + adj))

/-- PPS_OUT_EDGE (R353): at the TCLK cycle at which the selected time base, advanced by its compensation, crosses a whole
second; where a step takes it is no crossing. -/
def execPpsOutEdge (t : Nat) (s : State) : Result :=
  s.clocked <|
  .next (
    let s := s.toInstant t
    let x := s.rd TS_STAMP.PPS_CFG_TB_SEL
    let u := s.tbRead x t + centiU (s.rdI TS_STAMP.PPS_CFG_PPS_OUT_COMP)
    if s.on TS_STAMP.PPS_CFG_OUT_EN ∧ s.on (TS_TB.TB_STATUS_VALID x) ∧ (s.tbOf x).stopped = false ∧
        ((s.tbOf x).stepAt = 0 ∨ (s.tbOf x).stepAt < t) ∧ crossedSecond (s.tbAdj x) u then
      { s.emit (.pps (wholeSec u) (atLeast1 (s.rd TS_STAMP.PPS_CFG_WIDTH))) with
        todDue := some (nearestSec (s.tbRead (s.rd TS_STAMP.TOD_CFG_OUT_TB) t)) }
    else s)

/-- PPS_IN is the source of a servo instance of a time base (R341, R344). -/
def State.ppsSource (s : State) (x : Nat) (sh : Bool) : Bool := s.servoOn x sh && decide (s.servoPort x sh = 26)

/-- PPS_IN_EDGE (R354): interpolated to 1/64 TCLK, which is 1/34 ns. -/
def execPpsInEdge (t : Nat) (part : Fin 64) (falling : Bool) (s : State) : Result :=
  s.clocked <|
  .next (
    let s := s.toInstant t
    if s.on TS_STAMP.PPS_IN_CFG_EN ∧ s.on TS_STAMP.PPS_IN_CFG_EDGE = falling then
      let frac : Int := (part.val * nsU / 34 : Nat)
      let comp := centiU (s.rdI TS_STAMP.PPS_IN_CFG_PPS_IN_COMP)
      let u := s.tbRead (s.rd TS_STAMP.PPS_IN_CFG_TB_SEL) t + frac + comp
      let n := (u % ((2 ^ 48 * secU : Nat) : Int)).toNat
      let s := (s.wr TS_STAMP.PPS_IN_NS_NS (n % secU / nsU)).wr TS_STAMP.PPS_IN_S_S (n / secU)
      let s := { s.raise Ev.TS_STAMP.ppsIn with ppsInAt := some t }
      s.forEach (List.range 4) fun x s =>
        s.cond (s.ppsSource x false || s.ppsSource x true) fun s =>
          s.onTb x fun b => { b with edge := some (s.tbRead x t + frac + comp) }
    else s)

/-- TOD_OUT_SEND (R355): the message names the last edge. -/
def execTodOutSend (s : State) : Result :=
  s.clocked <|
  .next (
    match s.todDue with
    | some sec =>
      if s.on TS_STAMP.TOD_CFG_OUT_EN then
        let x := s.rd TS_STAMP.TOD_CFG_OUT_TB
        let b := s.tbOf x
        let body := [0xA5, 0x5A] ++ bytesOf 6 sec ++ bytesOf 2 b.utc ++
          [bit (s.on (TS_TB.TB_STATUS_VALID x)) + 2 * (b.leap % 4), s.rd TS_STAMP.TOD_CFG_CLOCK_CLASS]
        { (s.emit (.tod (body ++ bytesOf 2 (crc16 (byteBits body))))).raise Ev.TS_STAMP.todSent with todDue := none }
      else { s with todDue := none }
    | none => s)

/-- 500 ms in TCLK cycles. -/
def todLimit : Nat := 265625000

/-- A TOD_IN message that arrives at a TCLK count is more than 500 ms after its edge (R355). -/
def State.todLate (s : State) (t : Nat) : Bool :=
  match s.ppsInAt with
  | some a => decide (a + todLimit < t)
  | none => false

/-- A TOD_IN message that is not as R355 lays it out. -/
def todBad (l : List Nat) : Bool :=
  decide (l.length ≠ 14 ∨ l.take 2 ≠ [0xA5, 0x5A] ∨ ofBytes (l.drop 12) ≠ crc16 (byteBits (l.take 12)))

/-- A time base takes the second of its edge from a message, and its servos discipline it to the edge (R354). -/
def State.todTake (s : State) (l : List Nat) (x : Nat) : State :=
  match (s.tbOf x).edge with
  | some u =>
    let s := s.onTb x fun b => { b with edge := none, utc := ofBytes ((l.drop 8).take 2), leap := bits (l.getD 10 0) 1 2 }
    s.forEach [false, true] fun sh s => s.cond (s.ppsSource x sh) fun s =>
      let s := s.onServo x sh fun v => { v with heard := true }
      s.cond s.coreUp fun s => s.servoUpdate x sh (ofBytes ((l.drop 2).take 6) * secU : Nat) u 0
  | none => s

/-- TOD_IN_RECEIVED (R354, R355). -/
def execTodInReceived (bytes : List Byte) (t : Nat) (s : State) : Result :=
  s.clocked <|
  .next (
    let l := bytes.map (·.toNat)
    let s := s.toInstant t
    if s.on TS_STAMP.TOD_CFG_IN_EN = false then s
    else if s.todLate t ∨ todBad l then s.raise Ev.TS_STAMP.todDiscarded
    else (s.raise Ev.TS_STAMP.todAccepted).forEach (List.range 4) fun x s => s.todTake l x)

/-! ### Reading the time (R357, R358, R477) -/

/-- Number of a latch of the TIME registers: 0 TIME_FRAC, 1 TIME_S_LO, 2 TIME_S_HI, 3 TIME_NS as `LATCH` left it. -/
def timeLatch (x k : Nat) : Nat := 0x50000 + 4 * x + k

/-- Latch a reading of a time base for a requester. -/
def State.latchTime (s : State) (r : Requester) (x t : Nat) : State :=
  let b := s.tbAt x t
  ((s.setLatch r (timeLatch x 0) (b.sub % nsU)).setLatch r (timeLatch x 1) (b.sec % 2 ^ 32)).setLatch r (timeLatch x 2)
    (b.sec / 2 ^ 32)

/-- `LATCH` written (R358): all four time bases at one TCLK cycle. The next read of each TIME_NS by the same requester
returns what was latched (log entry 45). -/
def State.latchAll (s : State) (r : Requester) (t : Nat) : State :=
  s.forEach (List.range 4) fun x s => (s.latchTime r x t).setLatch r (timeLatch x 3) (2 ^ 32 + (s.tbAt x t).sub / nsU)

/-- LATCH (R358). -/
def execLatchTime (r : Requester) (t : Nat) (s : State) : Result :=
  .next (s.guarded r 15 0x054 fun s => (s.toInstant t).latchAll r t)

end Sys2Proof.Machine
end

