-- ==== Sys2Proof/Machine/BusRead.lean ====
section
/-! DEFINITION. What a register or table read returns and what it changes: read-only fields that show state of the block,
access codes, counters, latches, the table windows (R443, R445, R448, R466 to R477). -/

namespace Sys2Proof.Machine

open F

/-! ### Bits of a list -/

/-- The number whose set bits a list names. -/
def maskOf (l : List Nat) : Nat := l.foldl (fun m i => setBit m i true) 0

/-- The bits below `n` at which a test holds. -/
def maskFrom (lo n : Nat) (p : Nat → Bool) : Nat :=
  maskOf ((List.range n).filter fun i => p (lo + i))

/-! ### The directory (R487) -/

/-- `PAGE_ID.TYPE` of a page. -/
def pageType (page : Nat) : Nat :=
  if 31 ≤ page then 0x010 + lineKind page
  else
    match page with
    | 0 => 0x001
    | 1 => 0x050
    | 2 | 3 => 0x051
    | 4 => 0x052
    | 5 => 0x053
    | 6 => 0x058
    | 7 => 0x040
    | 8 => 0x041
    | 9 | 10 => 0x042
    | 11 | 12 | 13 | 14 => 0x048
    | 15 => 0x049
    | 16 => 0x068
    | 17 => 0x060
    | 18 => 0x061
    | 19 | 20 => 0x020
    | 29 => 0x030
    | 30 => 0x031
    | 21 => 0x021
    | 22 => 0x022
    | 23 => 0x023
    | 24 => 0x024
    | 25 => 0x025
    | 26 => 0x026
    | 27 => 0x028
    | _ => 0x029

/-- `PAGE_ID.INSTANCE` of a page. -/
def pageInstance (page : Nat) : Nat :=
  match page with
  | 3 | 10 | 12 | 20 => 1
  | 13 => 2
  | 14 => 3
  | _ => if 39 ≤ page then 1 else 0

/-- `PAGE_ID.DIE` of a page. -/
def pageDie (page : Nat) : Nat :=
  if page < 19 then 0 else if page < 31 then 3 else if page < 39 then 1 else 2

/-- The `PAGE_ID` register of a page (R471, R487); 0 where no page exists. -/
def pageId (page : Nat) : Nat :=
  if page < 47 then pageType page + pageInstance page * 2 ^ 12 + 0x10 * 2 ^ 16 + pageDie page * 2 ^ 24 else 0

/-! ### Counter words (R442) -/

/-- The counter words of a page at and above `CNT_BASE`, as ranges: first offset and number of words. -/
def counterRanges (page : Nat) : List (Nat × Nat) :=
  if 31 ≤ page then
    match lineKind page with
    | 0 => [(0x400, 11)]
    | 1 => [(0x400, 16)]
    | 2 => [(0x400, 9)]
    | 3 => [(0x400, 25)]
    | 4 => [(0x400, 16)]
    | 5 => [(0x400, 7)]
    | 6 => [(0x400, 4)]
    | _ => [(0x400, 17)]
  else
    match page with
    | 0 => [(0x400, 5)]
    | 1 => [(0x400, 10)]
    | 2 | 3 => [(0x200, 5)]
    | 4 => (0x400, 11) :: (List.range 5).map fun a => (0x500 + 0x10 * a, 3)
    | 5 => [(0x400, 8), (0x440, 6)]
    | 6 => [(0x800, 4), (0x840, 16), (0x900, 64)]
    | 7 => [(0x400, 12)]
    | 8 => [(0x400, 15)]
    | 9 | 10 => [(0x400, 8)]
    | 11 | 12 | 13 | 14 => [(0x400, 10)]
    | 15 => [(0x400, 7)]
    | 16 => [(0x400, 13)]
    | 17 => [(0x400, 7)]
    | 18 => [(0x400, 3), (0x500, 32)]
    | 19 | 20 => [(0x400, 32)]
    | 21 => [(0x300, 3), (0x400, 768)]
    | 22 => [(0x400, 4)]
    | 23 => [(0x400, 10), (0x600, 384)]
    | 24 => [(0x400, 6)]
    | 25 => [(0x400, 20)]
    | 26 => [(0x800, 8), (0x840, 384)]
    | 27 | 28 => [(0x400, 192), (0x700, 24)]
    | 29 => [(0x400, 15)]
    | 30 => [(0x400, 20)]
    | _ => []

/-- An offset holds the low word of a counter: one of the three fault-class counters, or one the owning chapter names. -/
def isCounter (page off : Nat) : Bool :=
  decide (page < 47) && decide (off % 4 = 0) &&
    (decide (off = transientOff page ∨ off = lastingOff page ∨ off = exhaustedOff page) ||
      (counterRanges page).any fun r => decide (r.1 ≤ off ∧ off < r.1 + 4 * r.2))

/-! ### Read-only fields that show state of the block -/

/-- The spares left in a block; a converter's count is the one its own page reports (R66, R451). -/
def State.blockSpares (s : State) : Block → Nat
  | .txConv p c => s.convSpares true p c
  | .rxConv p c => s.convSpares false p c
  | b => (s.block b).spares b

/-- `FAULT_CLASS.SPARES_MIN`: the fewest spares left in any spared block of the page, at most 15 (R451). -/
def State.sparesMin (s : State) (page : Nat) : Nat :=
  ((pageBlocks page).map s.blockSpares).foldl min 15

/-- The `FAULT_CLASS` register (R451). -/
def State.faultClass (s : State) (page : Nat) : Nat :=
  s.counter page (transientOff page) % 2 ^ 16 + min 255 (s.counter page (lastingOff page)) * 2 ^ 16 +
    min 15 (s.counter page (exhaustedOff page)) * 2 ^ 24 + s.sparesMin page * 2 ^ 28

/-- The header fields that show state (R451, R471, R472, R473, R487). -/
def State.headerFields (s : State) (page : Nat) : List (Field × Nat) :=
  [ (HDR.PAGE_ID_TYPE page, pageType page),
    (HDR.PAGE_ID_INSTANCE page, pageInstance page),
    (HDR.PAGE_ID_DIE page, pageDie page),
    (HDR.PAGE_CAPS_SHADOW page, bit ((blockFields page).any fun f => decide (f.acc = .rwSh))),
    (HDR.PAGE_CAPS_LOCKABLE page, bit ((blockFields page).any fun f => decide (f.acc = .rwLk))),
    (HDR.PAGE_CAPS_SOFT_RESET_OK page, bit (softResetOk page)),
    (HDR.PAGE_CAPS_SPARED page, bit (decide (pageBlocks page ≠ []))),
    (HDR.PAGE_CAPS_EVT_BITS page, Nat.log2 (Ev.defined page) + 1),
    (HDR.CTRL_ENABLED page, bit (s.pageEnabled page)),
    (HDR.STATUS_SR_BUSY page, bit (s.settling.contains page)),
    (HDR.STATUS_FROZEN page, s.rd (HDR.CTRL_FREEZE page)),
    (HDR.STATUS_GROUP_PENDING page, bit (s.ecl.any fun e => decide (e.2.groups &&& pageGroups page ≠ 0))),
    (HDR.STATUS_STAGED_DIFF page, bit (s.stagedDiff page)),
    (HDR.STAGE_STATUS_AT_PENDING page, ((s.ecl.find? fun e => decide (eclPage e.1 = page)).map fun e => e.2.at_).getD 0),
    (HDR.FAULT_CLASS_TRANSIENT page, bits (s.faultClass page) 0 16),
    (HDR.FAULT_CLASS_LASTING page, bits (s.faultClass page) 16 8),
    (HDR.FAULT_CLASS_EXHAUSTED page, bits (s.faultClass page) 24 4),
    (HDR.FAULT_CLASS_SPARES_MIN page, bits (s.faultClass page) 28 4),
    (HDR.CNT_BASE_BASE page, cntBase page) ]

/-- The four counts of a composition, as fields of a register. -/
def compositionFields (f1 f3 f5 f7 : Field) (c : Composition) : List (Field × Nat) :=
  [(f1, c.n1), (f3, c.n3), (f5, c.n5), (f7, c.n7)]

/-- `LE_TX`, `LW_TX` (R62). -/
def State.txFields (s : State) (p : Port) (off : Nat) : List (Field × Nat) :=
  if off = 0x050 then
    compositionFields (TX.DM_COMP_N1 p) (TX.DM_COMP_N3 p) (TX.DM_COMP_N5 p) (TX.DM_COMP_N7 p) (s.txMode p).composition
  else if off = 0x054 then
    compositionFields (TX.DM_COMP_STAGED_N1 p) (TX.DM_COMP_STAGED_N3 p) (TX.DM_COMP_STAGED_N5 p)
      (TX.DM_COMP_STAGED_N7 p) (if s.txStagedValid p then (s.txModeStaged p).composition else Composition.none)
  else
  let m := s.txMode p
  let b := s.block (.txCluster p)
  [ (TX.DERIVED_SLOTS p, m.slots), (TX.DERIVED_STAGED_VALID p, bit (s.txStagedValid p)), (TX.DERIVED_DM_K p, m.k),
    (TX.DERIVED_KNOWN_SIGNS p, m.s), (TX.DERIVED_CFG_VALID p, bit (s.txValid p)),
    (TX.TX_STATUS_FAR_ACQ_REQ p, s.rd (HB_FRAME.FRM_STATUS_FAR_ACQ_REQ p)),
    (TX.TX_STATUS_LOCAL_RX_ACQ p, bit (decide (s.acqSt p = acqAcquired))),
    (TX.TX_STATUS_ATTEN_CDB p, s.attenCdb p), (TX.RAMP_OUT_CODE p, s.rampCode p),
    (TX.CLU_MAP_IN_SERVICE p, maskOf (b.serving (.txCluster p))), (TX.CLU_MAP_QUARANTINED p, maskOf b.quarantine),
    (TX.CLU_ROT_SPARES p, b.spares (.txCluster p)) ]

/-- `LE_TXCONV`, `LW_TXCONV` (R63). -/
def State.txConvFields (s : State) (p : Port) : List (Field × Nat) :=
  ([0, 1, 2, 3] : List (Fin 4)).flatMap fun c =>
    [(TXCONV.SUB_STATUS_SPARES p c.val, s.convSpares true p c),
      (TXCONV.SUB_QUAR_COUNT p c.val, (s.block (.txConv p c)).quarantine.length)]

/-- The trim or position that `TRIM_SEL` names (R94): an offset or gain by unit, a skew by switch, a serving unit. -/
def State.trimData (s : State) (p : Port) : Nat :=
  let x := s.conv false p (Fin.ofNat 4 (s.rd (RXCONV.TRIM_SEL_CONV p)))
  let i := s.rd (RXCONV.TRIM_SEL_INDEX p)
  match s.rd (RXCONV.TRIM_SEL_KIND p) with
  | 0 => unsigned 8 (Tab.get 0 x.offset i)
  | 1 => unsigned 8 (Tab.get 0 x.gain i)
  | 2 => unsigned 8 (Tab.get 0 x.skew i)
  | _ => x.unitAt i

/-- `LE_RXCONV`, `LW_RXCONV` (R94). -/
def State.rxConvFields (s : State) (p : Port) : List (Field × Nat) :=
  (RXCONV.TRIM_DATA_VALUE p, s.trimData p) ::
  ([0, 1, 2, 3] : List (Fin 4)).flatMap fun c =>
    [(RXCONV.SUB_STATUS_SPARES p c.val, s.convSpares false p c),
      (RXCONV.SUB_QUAR_COUNT p c.val, (s.block (.rxConv p c)).quarantine.length),
      (RXCONV.ROT_POS_NEXT_POS p c.val, (s.conv false p c).nextPos)]

/-- `LE_RXFE`, `LW_RXFE` (R93). -/
def State.rxfeFields (s : State) (p : Port) : List (Field × Nat) :=
  [ (RXFE.RX_DERIVED_CFG_VALID p, bit (s.rxValid p)), (RXFE.RX_DERIVED_STAGED_VALID p, bit (s.rxStagedValid p)),
    (RXFE.RX_DERIVED_HALF_RATE p, bit (s.rxMode p).half), (RXFE.RX_DERIVED_WIN_DELAY p, s.winDelay p),
    (RXFE.RX_DERIVED_W_MAX p, wMax (s.rxModeStaged p) (s.rd (RXFE.CARRIER_FREQ_GHZ p))),
    (RXFE.FE_LAT_LATENCY p, s.feLatency p) ]

/-- `LE_RXEQ`, `LW_RXEQ` (R124). -/
def State.rxeqFields (s : State) (p : Port) : List (Field × Nat) :=
  let b := s.block (.eqCluster p)
  [ (RXEQ.CLU_MAP_IN_SERVICE p, maskOf (b.serving (.eqCluster p))), (RXEQ.CLU_QUAR_QUARANTINED p, maskOf b.quarantine),
    (RXEQ.CLU_ROT_SPARES p, b.spares (.eqCluster p)), (RXEQ.CLU_ROT_LANE_LATE p, bit (decide ((s.rx.get p).lateLanes ≠ []))),
    (RXEQ.COEF_ENG_SPARE_LEFT p, (s.block (.coefEngine p)).spares (.coefEngine p)) ]

/-- `LE_DEMAP`, `LW_DEMAP` (R125). -/
def State.demapFields (s : State) (p : Port) (off : Nat) : List (Field × Nat) :=
  if off = 0x04C then
    compositionFields (DEMAP.DM_COMP_N1 p) (DEMAP.DM_COMP_N3 p) (DEMAP.DM_COMP_N5 p) (DEMAP.DM_COMP_N7 p)
      (s.rxMode p).composition
  else
  [ (DEMAP.DERIVED_CFG_VALID p, bit (s.demapValid p)), (DEMAP.DERIVED_STAGED_VALID p, bit (s.demapStagedValid p)),
    (DEMAP.DERIVED_KNOWN_SIGNS p, (s.rxMode p).s), (DEMAP.LANE_STATUS_P1_SPARES p, (s.block (.p1Lane p)).spares (.p1Lane p)),
    (DEMAP.LANE_STATUS_P2_SPARES p, (s.block (.p2Lane p)).spares (.p2Lane p)) ]

/-- `LE_FEC`, `LW_FEC` (R156). -/
def State.fecFields (s : State) (p : Port) : List (Field × Nat) :=
  let m := s.rxMode p
  let b := s.block (.decoder p)
  [ (FEC.ITER_CTL_EFFECTIVE p, s.ceiling p), (FEC.POOL_STATUS_SPARES p, b.spares (.decoder p)),
    (FEC.POOL_STATUS_IN_SLOTS p, s.inSlots p), (FEC.POOL_STATUS_IM_SPARE p, (s.block (.matcher p)).spares (.matcher p)),
    (FEC.POOL_STATUS_BCH_SPARE p, (s.block (.bchDecoder p)).spares (.bchDecoder p)),
    (FEC.STORE_OCCUPANCY p, (s.fec.get p).store.length), (FEC.DEC_LAT_LATENCY p, s.decLat p),
    (FEC.BLK_INFO_N_BLOCKS p, m.blocks), (FEC.BLK_INFO_PAD p, m.pad), (FEC.BLK_INFO_C p, m.codewords),
    (FEC.BLK_DATA_D_BLOCK p, m.dataBits), (FEC.SF_INFO_BCH_BLOCKS p, m.bchBlocks), (FEC.SF_BITS_INFO_BITS p, m.infoSf) ] ++
  (List.range 4).map fun i => (FEC.DEC_QUAR_QUARANTINED p i, maskFrom (32 * i) 32 fun u => b.quarantine.contains u)

/-- `HB_FRAME_E`, `HB_FRAME_W` (R184). -/
def State.frameFields (s : State) (p : Port) : List (Field × Nat) :=
  let t := s.txMode p
  let r := s.rxMode p
  let f := s.frame.get p
  [ (HB_FRAME.FRM_STATUS_SWAP_ANN_TX p, bit (decide (s.swapSt p = 2))), (HB_FRAME.FRM_DERIVED_SLOTS p, t.slots),
    (HB_FRAME.FRM_DERIVED_RX_SLOTS p, r.slots), (HB_FRAME.FRAME_LEN_L_F p, t.frameLen), (HB_FRAME.FILL_LEN_FILL p, t.frameFill),
    (HB_FRAME.SF_TAIL_TAIL p, t.frameTail), (HB_FRAME.RX_FRAME_LEN_L_F p, r.frameLen),
    (HB_FRAME.RX_FILL_LEN_FILL p, r.frameFill), (HB_FRAME.RX_SF_TAIL_TAIL p, r.frameTail),
    (HB_FRAME.FC_TX_LO_FC p, f.fcTx % 2 ^ 32), (HB_FRAME.FC_RX_LO_FC p, f.fcRx % 2 ^ 32) ]

/-- `HB_SLOT`, `HB_BUF`, `HB_RING` (R228, R229, R265). -/
def State.hubFields (s : State) (page : Nat) : List (Field × Nat) :=
  match page with
  | 23 =>
    let x := s.concatOf (s.rd HB_SLOT.SKEW_SEL_CH)
    [(HB_SLOT.SKEW_VAL_SKEW, unsigned 23 x.skew), (HB_SLOT.SKEW_VAL_VALID, bit x.both)]
  | 24 =>
    [(HB_BUF.BUF_STATUS_FREE, s.freeBuffer), (HB_BUF.BUF_STATUS_SHARED, s.sharedPool),
      (HB_BUF.HR_VAL_CELLS, s.headroom (s.rd HB_BUF.HR_SEL_CLIENT))]
  | 25 =>
    [(HB_RING.BRIDGE_STATUS_LANES_E, s.bridgeLanes .E), (HB_RING.BRIDGE_STATUS_LANES_W, s.bridgeLanes .W),
      (HB_RING.BRIDGE_STATUS_LIMIT_E, s.slotLimit .E), (HB_RING.BRIDGE_STATUS_LIMIT_W, s.slotLimit .W)] ++
    (List.range 32).flatMap fun n =>
      let e := Tab.get 0 s.ring.sent n
      [(HB_RING.VEC_HI_ENTRY n, e / 2 ^ 32), (HB_RING.VEC_LO_ENTRY n, e % 2 ^ 32)]
  | _ => []

/-- `HB_PROT` (R266): the copies that are up of a dual-path channel, and the origin locks. -/
def State.protFields (s : State) (off : Nat) : List (Field × Nat) :=
  if 0x340 ≤ off ∧ off < 0x640 then
    let c := (off - 0x340) / 4
    [(HB_PROT.DP_STATUS_PRI_UP c, bit (s.dpEn c && s.copyUp c false)), (HB_PROT.DP_STATUS_PAR_UP c, bit (s.dpEn c && s.copyUp c true))]
  else if 0x640 ≤ off ∧ off < 0x658 then
    let j := (off - 0x640) / 4
    [(HB_PROT.ORIGIN_LOCK_LOCK j, maskFrom 0 32 fun i => s.originLock (32 * j + i))]
  else []

/-- The code of a key slot's state (R305). -/
def keyStateCode : KeyState → Nat
  | .empty => 0
  | .loaded => 1
  | .locked => 2
  | .active => 3
  | .retiring => 4

/-- `CY_KEY`, `CY_PIPE` (R305, R306). -/
def State.cipherFields (s : State) (page : Nat) : List (Field × Nat) :=
  match page with
  | 29 =>
    let k := s.keySlot (s.rd CY_KEY.SLOT_SEL_SLOT)
    [ (CY_KEY.KEY_STATUS_SLOTS_FREE, s.slotsFree), (CY_KEY.SLOT_INFO_STATE, keyStateCode k.state),
      (CY_KEY.SLOT_INFO_DIR, bit k.drop), (CY_KEY.SLOT_INFO_CH, k.ch), (CY_KEY.SLOT_INFO_DERIVED, bit k.derived),
      (CY_KEY.SLOT_INFO_FULL, bit (decide (k.used = 2 ^ 32))), (CY_KEY.SLOT_EPOCH_EPOCH, k.epoch),
      (CY_KEY.SLOT_USED_USED, k.used % 2 ^ 32), (CY_KEY.SLOT_FIRST_FIRST_SS, k.firstSs % 2 ^ 32),
      (CY_KEY.SLOT_FIRST_HI_FIRST_SS, k.firstSs / 2 ^ 32) ]
  | 30 =>
    (CY_PIPE.HOLD_STATUS_HELD_SLOTS, s.heldSlots) ::
    ([0, 1] : List (Fin 2)).flatMap fun d =>
      [(CY_PIPE.PIPE_STATUS_SPARES d.val, (s.block (.aes d)).spares (.aes d)),
        (CY_PIPE.PIPE_STATUS_LOST_POS d.val, (s.lostPositions d).headD 63),
        (CY_PIPE.PIPE_STATUS_QUAR d.val, (s.block (.aes d)).quarantine.length)]
  | _ => []

/-- DPLL0 follows the input PTPx (R343). -/
def State.steered (s : State) (x : Nat) : Bool :=
  decide (s.rd CK_REF.SEL_STATUS_SELECTED = 8 + x) && decide (s.dpSt = 1 ∨ s.dpSt = 2 ∨ s.dpSt = 3)

/-- `MG_ID`, `DMA_ENG`, `MG_OBS`, the time bases (R357, R409, R463, R470). -/
def State.controlFields (s : State) (page : Nat) : List (Field × Nat) :=
  match page with
  | 0 =>
    [(MG_ID.SMB_ADDR_ADDR, 0x58 + Config.smbStraps.val), (MG_ID.UID_LO_UID, Config.uid.toNat % 2 ^ 32),
      (MG_ID.UID_HI_UID, Config.uid.toNat / 2 ^ 32)]
  | 5 =>
    [ (MG_OBS.TRACE_STATUS_HELD, s.trace.buffer.length),
      (MG_OBS.TRACE_STATUS_IN_FLIGHT, maskFrom 0 6 fun i => Tab.has s.trace.flight i),
      (MG_OBS.EVT_SUMMARY_LO_PAGES, maskFrom 0 32 s.summary), (MG_OBS.EVT_SUMMARY_HI_PAGES, maskFrom 32 15 s.summary),
      (MG_OBS.NMI_SUMMARY_LO_PAGES, maskFrom 0 32 s.nmiSummary), (MG_OBS.NMI_SUMMARY_HI_PAGES, maskFrom 32 15 s.nmiSummary) ]
  | 6 =>
    [(DMA_ENG.ENG_STATUS_ACTIVE, maskFrom 0 16 fun c =>
      let x := Tab.get DmaChan.init s.dma c
      decide (x.outstanding ≠ 0 ∨ x.fetching ≠ []))]
  | 11 | 12 | 13 | 14 => [(TS_TB.TB_STATUS_STEERED (page - 11), bit (s.steered (page - 11)))]
  | _ => []

/-- The read-only fields of a page that show state of the block, with their values now; `off` selects among the pages that
hold a composition, whose search is long. -/
def State.derived (s : State) (page off : Nat) : List (Field × Nat) :=
  if 31 ≤ page then
    let p := linePort page
    match lineKind page with
    | 0 => s.txFields p off
    | 1 => s.txConvFields p
    | 2 => s.rxfeFields p
    | 3 => s.rxConvFields p
    | 4 => s.rxeqFields p
    | 5 => s.demapFields p off
    | 6 => []
    | _ => s.fecFields p
  else
    match page with
    | 19 => s.frameFields .E
    | 20 => s.frameFields .W
    | 23 | 24 | 25 => s.hubFields page
    | 26 => s.protFields off
    | 29 | 30 => s.cipherFields page
    | _ => s.controlFields page

/-- A field of a derived list. -/
def findField (l : List (Field × Nat)) (f : Field) : Option Nat := (l.find? fun e => e.1.key = f.key).map (·.2 % 2 ^ f.width)

/-- The value of a field as the hardware holds it now: what read-only fields show, otherwise what is stored. -/
def State.liveField (s : State) (f : Field) : Nat :=
  if f.acc = .ro then
    match findField (if f.off < 0x040 then s.headerFields f.page else s.derived f.page f.off) f with
    | some v => v
    | none => s.rd f
  else s.rd f

/-! ### Latches that reads fill (R184, R357, R358, R443, R445, R477) -/

/-- Latch numbers: `CNT_HI` of a page, the frame counters of a port, `PPS_IN_S`, the flow counters' second word. -/
def cntHiLatch (page : Nat) : Nat := page
def fcTxLatch (p : Port) : Nat := 0x100 + p.toNat
def fcRxLatch (p : Port) : Nat := 0x102 + p.toNat
def ppsLatch : Nat := 0x104
def flowLatch : Nat := 0x105

/-- The latch that a field reads from, where it is one that a read fills. -/
def latchOf (f : Field) : Option Nat :=
  if f.page = 19 ∨ f.page = 20 then
    let p := Port.ofBit (f.page - 19)
    if f.off = 0x060 then some (fcTxLatch p) else if f.off = 0x068 then some (fcRxLatch p) else none
  else if 11 ≤ f.page ∧ f.page ≤ 14 then
    if f.off = 0x074 then some (timeLatch (f.page - 11) 0)
    else if f.off = 0x078 then some (timeLatch (f.page - 11) 1)
    else if f.off = 0x07C then some (timeLatch (f.page - 11) 2)
    else none
  else if f.page = 15 ∧ f.off = 0x04C then some ppsLatch
  else none

/-- Fields that `FREEZE` holds: the read-only fields of the block registers, without the mailbox buffers and the latches
(R473). -/
def freezable (f : Field) : Bool :=
  decide (f.acc = .ro) && decide (0x040 ≤ f.off) && !decide ((f.page = 2 ∨ f.page = 3) ∧ 0x400 ≤ f.off) &&
    (latchOf f).isNone

/-- What a requester reads in a field (R471 to R477). -/
def State.fieldRead (s : State) (r : Requester) (f : Field) : Nat :=
  match f.acc with
  | .wo => 0
  | .rwSh => if s.on (HDR.CTRL_VIEW_ACTIVE f.page) then s.rdA f else s.rd f
  | .ro =>
    match latchOf f with
    | some n => s.getLatch r n % 2 ^ f.width
    | none => if s.on (HDR.CTRL_FREEZE f.page) && freezable f then Tab.get 0 s.held f.key else s.liveField f
  | _ => s.rd f

/-- The word at a page offset as a requester reads it, without what the read changes (R442, R466, R485). -/
def State.pageWord (s : State) (r : Requester) (page off : Nat) : Nat :=
  if isCounter page off then s.counter page off % 2 ^ 32
  else if off = cntHiOff page then s.getLatch r (cntHiLatch page)
  else if page = 0 ∧ 0x100 ≤ off ∧ off < 0x1FC then pageId ((off - 0x100) / 4)
  else ((pageFields page).filter fun f => f.off = off).foldl (fun w f => w + s.fieldRead r f * 2 ^ f.lsb) 0

/-- What a read of a page offset changes: latches filled, fields cleared by the read (R443, R477). `TIME_NS` read after
`LATCH` returns and ends what was latched (log entry 45). -/
def State.readEffect (s : State) (r : Requester) (page off : Nat) : State × Nat :=
  let v := s.pageWord r page off
  if isCounter page off then (s.setLatch r (cntHiLatch page) (s.counter page off / 2 ^ 32), v)
  else if (page = 19 ∨ page = 20) ∧ off = 0x05C then
    (s.setLatch r (fcTxLatch (Port.ofBit (page - 19))) ((s.frame.get (Port.ofBit (page - 19))).fcTx / 2 ^ 32), v)
  else if (page = 19 ∨ page = 20) ∧ off = 0x064 then
    (s.setLatch r (fcRxLatch (Port.ofBit (page - 19))) ((s.frame.get (Port.ofBit (page - 19))).fcRx / 2 ^ 32), v)
  else if 11 ≤ page ∧ page ≤ 14 ∧ off = 0x070 then
    let x := page - 11
    let l := s.getLatch r (timeLatch x 3)
    if 2 ^ 32 ≤ l then (s.setLatch r (timeLatch x 3) 0, l % 2 ^ 30)
    else (s.latchTime r x s.tclk, (s.tbAt x s.tclk).sub / nsU)
  else if page = 15 ∧ off = 0x048 then (s.setLatch r ppsLatch (s.rd TS_STAMP.PPS_IN_S_S), v)
  else (s.forEach ((blockFields page).filter fun f => f.off = off && decide (f.acc = .rc)) fun f s => s.wr f 0, v)

/-! ### Memory-mapped structures of BAR0 beside the pages (R456, R466) -/

def msixTableOff : Nat := 0xF00000
def msixPbaOff : Nat := 0xF01000

/-- A word of the MSI-X table; a vector is masked at reset, as PCIe has it. -/
def State.msixWord (s : State) (i : Nat) : Nat := Tab.get (if i % 4 = 3 then 1 else 0) s.msixTable i

/-- A BAR0 word: its value and what the read changes. -/
def State.bar0Read (s : State) (r : Requester) (off : Nat) : State × Nat :=
  let off := off / 4 * 4
  if off < 0x2F000 then s.readEffect r (off / 4096) (off % 4096)
  else if msixTableOff ≤ off ∧ off < msixTableOff + 1024 then (s, s.msixWord ((off - msixTableOff) / 4))
  else if off = msixPbaOff then (s, maskFrom 0 32 s.msixLatch.contains)
  else if off = msixPbaOff + 4 then (s, maskFrom 32 32 s.msixLatch.contains)
  else (s, 0)

/-! ### The table windows (R208, R230, R307, R445, R448, R467) -/

/-- The words 1 to 7 of a crypto channel entry (R307). -/
def State.cryptoInfo (s : State) (ch w : Nat) : Nat :=
  let c := s.chanKey ch
  match w with
  | 1 => c.txAct + c.txNxt * 2 ^ 16
  | 2 => c.rxAct + c.rxNxt * 2 ^ 16
  | 3 =>
    bit c.txSquelch + 2 * bit c.integSquelch + 4 * bit c.annSs.isSome + 8 * bit c.encMismatch +
      2 ^ 8 * min 15 (s.dropOf ch).failRun
  | 4 => c.txEpoch % 2 ^ 32
  | 5 => c.rxEpoch % 2 ^ 32
  | 6 => c.pass % 2 ^ 32
  | 7 => c.fail % 2 ^ 32
  | _ => 0

/-- The bits of a table word that are not reserved; none where the offset lies outside every writable window. -/
def tableMask (off : Nat) : Option Nat :=
  if off < vlanWin then
    some (match off / 4 % 4 with | 0 => 2 ^ 17 - 1 | 1 => 2 ^ 14 - 1 | 2 => 2 ^ 18 - 1 | _ => 2 ^ 16 - 1)
  else if off < chanWin then some (2 ^ 16 - 1)
  else if off < chanWin + 4 * 192 then some 3
  else if txSlotWin ≤ off ∧ off < txSlotWin + 4 * 384 then some (2 ^ 25 - 1)
  else if rxSlotWin ≤ off ∧ off < rxSlotWin + 4 * 384 then some (2 ^ 18 - 1)
  else if cryptoWin ≤ off ∧ off < cryptoWin + 32 * 192 ∧ (off - cryptoWin) % 32 = 0 then some (2 ^ 7 - 1)
  else if descWin ≤ off ∧ off < descWin + 32768 then some (2 ^ 32 - 1)
  else none

/-- A BAR2 word; none where it is unwritten, which makes the read uncorrectable (R408). -/
def State.bar2Read (s : State) (r : Requester) (off : Nat) : State × Option Nat :=
  let off := off / 4 * 4
  match tableMask off with
  | some m => (s, (s.tabWord off).map (· &&& m))
  | none =>
    if cryptoWin ≤ off ∧ off < cryptoWin + 32 * 192 then
      (s, some (s.cryptoInfo ((off - cryptoWin) / 32) ((off - cryptoWin) % 32 / 4)))
    else if flowCntWin ≤ off ∧ off < flowCntWin + 0x100000 then
      let v := Tab.get 0 s.flowCnt ((off - flowCntWin) / 8)
      if off % 8 = 0 then (s.setLatch r flowLatch (v / 2 ^ 32), some (v % 2 ^ 32)) else (s, some (s.getLatch r flowLatch))
    else if snapPageWin ≤ off ∧ off < snapPageWin + 0x80000 then
      let v := Tab.get 0 s.snapPage ((off - snapPageWin) / 8 * 8)
      (s, some (if off % 8 = 0 then v % 2 ^ 32 else v / 2 ^ 32))
    else if snapFlowWin ≤ off ∧ off < snapFlowWin + 0x100000 then
      let v := Tab.get 0 s.snapFlow ((off - snapFlowWin) / 8)
      (s, some (if off % 8 = 0 then v % 2 ^ 32 else v / 2 ^ 32))
    else (s, some 0)

/-- An uncorrectable read of a store: counted and recorded in `UE_INFO` (R407, R411). -/
def State.uncorrectable (s : State) (store index : Nat) : State :=
  ((s.wr MG_MEM.UE_INFO_STORE store).wr MG_MEM.UE_INFO_INDEX index).raise Ev.MG_MEM.uncorrectable

/-- A read of an unwritten word is uncorrectable and counts apart as well; its line is named (R407, R408). -/
def State.unwrittenRead (s : State) (addr : Nat) : State :=
  (s.uncorrectable 5 (addr / 64)).raise Ev.MG_MEM.unwritten

/-! ### One read by a requester -/

/-- The access record of a BAR2 offset. -/
def bar2Access (r : Requester) (off : Nat) (write : Bool) : BusAccess := ⟨r, true, BitVec.ofNat 24 off, write⟩

/-- A read of a BAR0 word by a requester: its value, or the cause of an error response (R469). A control clock that has
stopped answers nothing, which reads as cause 0 with no value (R319). -/
def State.busRead (s : State) (r : Requester) (off : Nat) : State × Except Nat Nat :=
  let page := off / 4096
  let c := if off < 0x2F000 then s.accessCause r page (off % 4096 / 4 * 4) false else 0
  if s.clock.stopped then (s, .error 0)
  else if c = 0 then
    let x := s.bar0Read r off
    (x.1, .ok x.2)
  else (s.errorResponse ⟨r, false, BitVec.ofNat 24 off, false⟩ c, .error c)

/-- A read of a BAR2 word by a requester: an unwritten word is uncorrectable, cause 3 (R407, R469). -/
def State.winRead (s : State) (r : Requester) (off : Nat) : State × Except Nat Nat :=
  if s.clock.stopped then (s, .error 0)
  else
    match s.bar2Read r off with
    | (s', some v) => (s', .ok v)
    | (s', none) => ((s'.unwrittenRead off).errorResponse (bar2Access r off false) 3, .error 3)

/-- Put out the answer of a read to its requester (R469). -/
def State.answer (r : Requester) (x : State × Except Nat Nat) : State :=
  match x.2 with
  | .ok v => x.1.emit (.read r v false)
  | .error 0 => x.1
  | .error _ => x.1.emit (.read r 0 true)

end Sys2Proof.Machine
end

