-- ==== Sys2Proof/Machine/Mailbox.lean ====
section
/-! DEFINITION. The mailboxes: doorbell, checks, start, effect and end of every command (R370 to R377). -/

namespace Sys2Proof.Machine

open F

/-! ### The cores (R360 to R364) -/

/-- The state of a core: 0 off, 1 ACTIVE, 2 STANDBY, 3 quarantined (R380). -/
def State.coreSt (s : State) (c : Nat) : Nat := s.rd (if c = 0 then MG_CTL.CORE_STATUS_CORE0 else MG_CTL.CORE_STATUS_CORE1)

def State.setCoreSt (s : State) (c v : Nat) : State := s.wr (if c = 0 then MG_CTL.CORE_STATUS_CORE0 else MG_CTL.CORE_STATUS_CORE1) v

/-- The ACTIVE core's number. -/
def State.activeCore (s : State) : Nat := s.rd MG_CTL.CORE_STATUS_ACTIVE

/-- The image in a core's SRAM and the slot it came from. -/
def State.coreImage (s : State) (c : Nat) : Option FwImage := if c = 0 then s.core.img0 else s.core.img1
def State.coreSlot (s : State) (c : Nat) : Nat := if c = 0 then s.core.slot0 else s.core.slot1

def State.loadCore (s : State) (c : Nat) (i : Option FwImage) (slot : Nat) : State :=
  { s with core := if c = 0 then { s.core with img0 := i, slot0 := slot } else { s.core with img1 := i, slot1 := slot } }

/-- A core runs its image as the ACTIVE one (R380). -/
def State.runCore (s : State) (c : Nat) : State :=
  let s := (s.wr MG_CTL.CORE_STATUS_ACTIVE c).setCoreSt c 1
  let s := s.wr MG_CTL.CORE_STATUS_RUN_SLOT (s.coreSlot c)
  match s.coreImage c with
  | some i => (s.wr MG_CTL.FW_VERSION_VERSION i.version.toNat).wr MG_CTL.FW_SVN_SVN i.svn.toNat
  | none => s

/-- A core is quarantined (R20, R364). -/
def State.coreQuarantined (s : State) (c : Nat) : Bool := (s.block .core).quarantine.contains c

/-- Load an image into both cores and start them: the lower-numbered one not quarantined as ACTIVE, the other as STANDBY
(R364). -/
def State.startCores (s : State) (i : FwImage) (slot : Nat) : State :=
  let s := (s.loadCore 0 (some i) slot).loadCore 1 (some i) slot
  let s := s.armServices
  let up := [0, 1].filter fun c => !s.coreQuarantined c
  let s := s.forEach [0, 1] fun c s => s.setCoreSt c (if s.coreQuarantined c then 3 else 0)
  match up with
  | [] => s
  | [c] => s.runCore c
  | c :: d :: _ => (s.runCore c).setCoreSt d 2

/-- Recovery: the boot ROM serves mailbox 0 (R364). -/
def State.inRecovery (s : State) : Bool :=
  decide (s.rd MG_CTL.CORE_STATUS_RUN_SLOT = 2) && s.clock.ctrlRun && !s.clock.stopped

/-! ### The command table (R373) -/

def opPing : Nat := 0x0001
def opGetInfo : Nat := 0x0002
def opFwWrite : Nat := 0x0101
def opFwVerify : Nat := 0x0102
def opFwMoult : Nat := 0x0103
def opFwSetBoot : Nat := 0x0104
def opFwCommitSvn : Nat := 0x0105
def opFwBoot : Nat := 0x0106
def opCfgSave : Nat := 0x0201
def opCfgClear : Nat := 0x0202
def opPlanLoad : Nat := 0x0401
def opPlanDelete : Nat := 0x0402
def opPlanList : Nat := 0x0403
def opProtStatus : Nat := 0x0404
def opProtHold : Nat := 0x0405
def opPtpPortCfg : Nat := 0x0501
def opPtpClockCfg : Nat := 0x0502
def opPtpDataset : Nat := 0x0503
def opPmRead : Nat := 0x0601
def opPmReadBulk : Nat := 0x0602
def opPmRestart : Nat := 0x0603
def opKrStatus : Nat := 0x0701
def opKrRotateNow : Nat := 0x0702
def opCalStatus : Nat := 0x0802
def opPwrCap : Nat := 0x0901
def opPwrReport : Nat := 0x0902
def opTelStart : Nat := 0x0A01
def opTelStop : Nat := 0x0A02

/-- Request words of each command; none for an unknown code (R373). -/
def reqWords (op : Nat) : Option Nat :=
  match op with
  | 0x0001 | 0x0002 | 0x0105 | 0x0202 | 0x0403 | 0x0404 | 0x0902 | 0x0A02 => some 0
  | 0x0102 | 0x0103 | 0x0104 | 0x0106 | 0x0201 | 0x0302 | 0x0402 | 0x0405 | 0x0501 | 0x0503 | 0x0601 | 0x0603 | 0x0701
  | 0x0702 | 0x0802 | 0x0901 => some 1
  | 0x0301 | 0x0801 => some 2
  | 0x0502 | 0x0602 => some 3
  | 0x0101 => some 4
  | 0x0303 | 0x0A01 => some 5
  | 0x0401 => some 12
  | _ => none

/-- Commands that use more than the mailbox buffers: they name a host address (R370, R371). -/
def usesHost (op : Nat) : Bool := [opFwWrite, opPlanLoad, opPmReadBulk, opTelStart].contains op

/-- Commands that move data through DMA channel 15 while they run (R370, R383). -/
def movesData (op : Nat) : Bool := [opFwWrite, opPlanLoad, opPmReadBulk].contains op

/-- Commands that work on the boot flash (R362). -/
def usesFlash (op : Nat) : Bool :=
  [opFwWrite, opFwVerify, opFwMoult, opFwSetBoot, opFwBoot, opCfgSave, opCfgClear].contains op

/-- Commands whose bound is 1 s or more, which report their progress (R381); that of LINK_UP, LINK_DOWN and CAL_RUN depends on
what they wait for (R373). -/
def State.longCommand (s : State) (c : MbxCmd) : Bool :=
  let ramp := s.rd (TX.RAMP_TIME_RAMP_MS (Port.ofBit (c.w 0)))
  [opFwWrite, opFwMoult, opCfgSave, opCfgClear, opGlide].contains c.op ||
    decide ((c.op = opLinkUp ∧ 1000 ≤ c.w 1 + ramp + 10) ∨ (c.op = opLinkDown ∧ 1000 ≤ ramp + 10) ∨
      (c.op = opCalRun ∧ 1000 ≤ c.w 1 + 10))

/-- Commands the boot ROM serves in recovery (R364). -/
def recoveryOp (op : Nat) : Bool := [opPing, opGetInfo, opFwWrite, opFwSetBoot, opFwBoot].contains op

/-- Commands that need a port (R377). -/
def needsPort (op : Nat) : Bool := [opLinkUp, opLinkDown, opGlide, opCalRun].contains op

/-- Fields of the first word of a performance monitoring command (R373). -/
def pmEntityOf (w : Nat) : Option Nat :=
  match w % 4 with
  | 0 | 1 => if bits w 2 8 < 2 then some (bits w 2 8) else none
  | 2 => if bits w 2 8 < 192 then some (pmChan (bits w 2 8)) else none
  | _ => none

/-- History bins of a bin kind (R182). -/
def pmHistory (day : Bool) : Nat := if day then 7 else 96

/-- The index of the first word with a value the command does not permit (R372, R373). -/
def badWord (c : MbxCmd) : Option Nat :=
  let w0 := c.w 0
  let first (l : List (Bool × Nat)) : Option Nat := (l.find? (·.1)).map (·.2)
  match c.op with
  | 0x0101 => first [(decide (1 < w0), 0), (decide (2 ^ 20 < c.w 3), 3)]
  | 0x0102 | 0x0103 | 0x0104 | 0x0106 | 0x0302 | 0x0802 => first [(decide (1 < w0), 0)]
  | 0x0201 => first [(decide (2 < w0), 0)]
  | 0x0301 => first [(decide (1 < w0), 0), (decide (60000 < c.w 1), 1)]
  | 0x0303 => first [(decide (bits w0 1 2 = 0 ∨ bits w0 16 16 < 16 ∨ 4096 < bits w0 16 16), 0)]
  | 0x0401 => first [(decide (w0 = 0 ∨ 255 < w0), 0), (decide (c.w 1 = 0 ∨ 8 < c.w 1), 1)]
  | 0x0402 => first [(decide (w0 = 0 ∨ 255 < w0), 0)]
  | 0x0502 => first [(decide (3 < w0), 0)]
  | 0x0601 => first [((pmEntityOf w0).isNone || decide (pmHistory (bitOf w0 10) < bits w0 16 8), 0)]
  | 0x0602 | 0x0603 => first [((pmEntityOf w0).isNone, 0)]
  | 0x0701 | 0x0702 => first [(decide (191 < w0), 0)]
  | 0x0801 => first [(decide (10000 < c.w 1), 1)]
  | 0x0A01 => first [(decide (c.w 1 = 0 ∨ 60000 < c.w 1), 1), (decide (c.w 4 = 0), 4)]
  | _ => none

/-- The checks of a command before it acts: status and detail, none where it passes (R364, R371, R372, R377). -/
def State.mbxCheck (s : State) (x : Nat) (c : MbxCmd) : Option (Nat × Nat) :=
  if s.inRecovery && !recoveryOp c.op then some (4, 0) else
  match reqWords c.op with
  | none => some (1, 0)
  | some n =>
    if decide (x = 1) && usesHost c.op then some (10, 0)
    else if c.words.length ≠ n then some (2, n)
    else
      match badWord c with
      | some i => some (3, i)
      | none =>
        if needsPort c.op && s.rclkStopped then some (4, 0)
        else if c.op = opFwBoot ∧ ¬ s.inRecovery then some (4, 0)
        else if c.op = opFwMoult ∧ (s.core.moult.isSome ∨ s.coreSt (1 - s.activeCore) ≠ 2) then some (4, 0)
        else if c.op = opGlide ∧ s.negSt (Port.ofBit (c.w 0)) ≠ negIdle then some (4, 0)
        else none

/-! ### The start of a command -/

/-- The ports a mask names. -/
def maskPorts (m : Nat) : List Port := [Port.E, Port.W].filter fun p => bitOf m p.toNat

/-- CAL_RUN starts (R72, R373, R425, R427): a run of the converters and the two tasks of each port; a held one is refused
with status 4, the others run. -/
def State.calRunStart (s : State) (x : Nat) (c : MbxCmd) : State :=
  let ps := maskPorts (c.w 0)
  let held := ps.any fun p => s.on (RXCONV.CAL_CFG_CAL_HOLD p) || (portTasks p).any s.taskHeld
  let s := s.forEach ps fun p s =>
    (s.calRequest p).forEach ((portTasks p).filter s.taskRuns) fun t s => s.taskTrigger t
  s.cond held fun s => s.onMbx x fun c => { c with ended := some (4, 0, []) }

/-- GLIDE starts: the request as proposer (R256, R373). -/
def State.glideStart (s : State) (c : MbxCmd) : State :=
  let w0 := c.w 0
  s.propose (Port.ofBit w0)
    ⟨0, 0, bits w0 1 2, c.w 1, bits (c.w 2) 0 11, bits (c.w 2) 16 6, 0, c.w 3, bits (c.w 4) 0 11, bits (c.w 4) 16 6, 0⟩
    (bits w0 16 16)

/-- FW_MOULT starts: the STANDBY core is held in reset while the image is loaded into it (R368). -/
def State.moultStart (s : State) (x : Nat) (c : MbxCmd) : State :=
  let s := (s.setCoreSt (1 - s.activeCore) 0).wr MG_CTL.CORE_STATUS_MOULT_BUSY 1
  { s with core := { s.core with moult := some (c.w 0, x) } }

/-- What a command does as it starts: its checks; the commands that wait for something begin it (R370, R374). -/
def State.mbxBegin (s : State) (x : Nat) (c : MbxCmd) : State :=
  let s := s.onMbx x fun c => { c with started := true }
  match s.mbxCheck x c with
  | some (st, d) => s.onMbx x fun c => { c with ended := some (st, d, []) }
  | none =>
    if c.op = opLinkUp then
      let p := Port.ofBit (c.w 0)
      (s.txEnableSet p).rxEnableSet p
    else if c.op = opLinkDown then
      let p := Port.ofBit (c.w 0)
      (s.txEnableClear p).rxEnableClear p
    else if c.op = opCalRun then s.calRunStart x c
    else if c.op = opGlide then s.glideStart c
    else if c.op = opFwMoult then s.moultStart x c
    else s

/-- The mailbox is served: by the ACTIVE core, or mailbox 0 by the boot ROM in recovery (R361, R364). -/
def State.mbxServed (s : State) (x : Nat) : Bool := s.coreUp || (s.inRecovery && decide (x = 0))

/-- Start the command of a mailbox unless an earlier one of the same service runs on the other mailbox (R371). -/
def State.mbxStart (s : State) (x : Nat) : State :=
  match s.mbxOf x with
  | some c =>
    let before := match s.mbxOf (1 - x) with
      | some d => decide (d.op / 256 = c.op / 256 ∧ d.order < c.order)
      | none => false
    if c.started || before || !s.mbxServed x then s else s.mbxBegin x c
  | none => s

/-- The doorbell: a write of `MBX_CMD` (R370). Progress counts from 0 (log entry 48). -/
def State.doorbell (s : State) (x op tag n : Nat) (data : List Nat) : State :=
  if s.on (MG_MBX.MBX_STATUS_BUSY x) then s.raise (Ev.MG_MBX.dropped x)
  else
    let words := (List.range n).map fun i => s.rd (MG_MBX.REQ_WORD x i)
    let s := (s.wr (MG_MBX.MBX_STATUS_BUSY x) 1).wr (MG_MBX.MBX_PROGRESS_PERCENT x) 0
    let s := { s with mbx := Tab.insert s.mbx x ⟨op, tag, words, s.mbxOrder, data, false, none⟩,
                      mbxOrder := s.mbxOrder + 1 }
    s.mbxStart x

/-- A command written to a mailbox by a requester (R370). -/
def State.mbxWrite (s : State) (r : Requester) (x : Fin 2) (op : Nat) (tag words : Byte) (data : List Nat) :
    State :=
  s.guarded r (2 + x.val) 0x040 fun s => s.doorbell x.val op tag.toNat words.toNat data

/-! ### The end of a command -/

/-- A command ends: response, status, DONE (R370, R372). -/
def State.mbxFinish (s : State) (x status detail : Nat) (rsp : List Nat) : State :=
  match s.mbxOf x with
  | none => s
  | some c =>
    let s := { s with mbx := Tab.erase s.mbx x }
    let s := s.forEach ((List.range rsp.length).zip rsp) fun e s => s.wr (MG_MBX.RSP_WORD x e.1) e.2
    let s := (s.wr (MG_MBX.MBX_RSP_RSP_WORDS x) rsp.length).wr (MG_MBX.MBX_STATUS_STATUS x) status
    let s := (s.wr (MG_MBX.MBX_DETAIL_DETAIL x) detail).wr (MG_MBX.MBX_STATUS_TAG x) c.tag
    let s := (s.wr (MG_MBX.MBX_STATUS_BUSY x) 0).wr (MG_MBX.MBX_STATUS_DONE x) 1
    let s := s.cond (s.longCommand c) fun s => s.wr (MG_MBX.MBX_PROGRESS_PERCENT x) 100
    let s := (s.raise (Ev.MG_MBX.done x)).raiseIf (decide (status ≠ 0)) (Ev.MG_MBX.failed x)
    (s.raiseIf (decide (status = 9)) (Ev.MG_MBX.abortedMoult x)).raiseIf (decide (status = 13)) (Ev.MG_MBX.aborted x)

/-- A command ends, and a command of the same service that waited may start (R370, R371). -/
def State.mbxEnd (s : State) (x status detail : Nat) (rsp : List Nat) : State :=
  (s.mbxFinish x status detail rsp).cond (s.mbxOf x).isSome fun s => s.mbxStart (1 - x)

/-- A failed FW_MOULT: the running image is reloaded into the STANDBY core (R368). -/
def State.moultFailed (s : State) : State :=
  let b := 1 - s.activeCore
  let s := s.loadCore b (s.coreImage s.activeCore) (s.coreSlot s.activeCore)
  let s := (s.setCoreSt b 2).wr MG_CTL.CORE_STATUS_MOULT_BUSY 0
  { s with core := { s.core with moult := none } }

/-! ### Results (R373 to R375) -/

/-- A bin record (R375). -/
def binRecord (b : Bin) (cur : Bool) : List Nat :=
  let n := Tab.get 0 b.counts
  le 6 b.start ++ [bit b.suspect + 2 * bit cur, 0] ++ le 4 b.seconds ++ le 4 (n 2) ++ le 8 (n 0) ++ le 8 (n 1) ++ le 4 (n 3) ++
    le 4 (n 4) ++ le 8 (n 5) ++ le 4 (n 6) ++ le 4 (n 7) ++ le 4 (n 8) ++ le 4 0

/-- The bins of an entity of one kind. -/
def State.binsOf (s : State) (e : Nat) (day : Bool) : Bins := if day then (s.pmOf e).day else (s.pmOf e).quarter

/-- Bin `i` of an entity: the current one or a history bin; one not yet filled is empty. -/
def Bins.record (b : Bins) (i : Nat) : List Nat := if i = 0 then binRecord b.cur true else binRecord (b.hist.getD (i - 1) Bin.init) false

/-- PM_READ_BULK writes the first `n` records to host memory, by DMA channel 15 (R370, R373). -/
def State.pmBulk (s : State) (c : MbxCmd) (n : Nat) : State :=
  let b := s.binsOf ((pmEntityOf (c.w 0)).getD 0) (bitOf (c.w 0) 10)
  s.serviceWrite 15 (c.w 1 + 2 ^ 32 * c.w 2) ((List.range n).flatMap b.record)

/-- What the host's memory holds for a command, `n` items of `w` bits: those that the command's data does not list are free
values (log entry 48). -/
def State.hostData (s : State) (c : MbxCmd) (n w : Nat) : State × List Nat :=
  if n ≤ c.data.length then (s, c.data.take n)
  else (s.useFree, c.data ++ (List.range (n - c.data.length)).map fun i => bits (s.freeVal (w * (n - c.data.length))) (w * i) w)

/-- Mark the current bins of an entity SUSPECT (R182, R373). -/
def State.pmRestart (s : State) (e : Nat) : State :=
  s.onPm e fun x =>
    { x with quarter := { x.quarter with cur := { x.quarter.cur with suspect := true } },
             day := { x.day with cur := { x.day.cur with suspect := true } } }

/-- The fields that a configuration copy holds: RW-LV, RW-SH and RW-LK (R366). -/
def savedField (f : Field) : Bool := decide (f.acc = .rwLv ∨ f.acc = .rwSh ∨ f.acc = .rwLk)

/-- The record of a register word that some fields of it make up, where any does. -/
def State.wordRecord (s : State) (page off : Nat) (some_ : Field → Bool) : List CfgRecord :=
  let fs := (pageFields page).filter fun f => decide (f.off = off) && savedField f && some_ f
  if fs.isEmpty then [] else [.register page off (fs.map fun f => s.rd f * 2 ^ f.lsb).sum]

/-- The offsets of a page's registers. -/
def pageOffsets (page : Nat) : List Nat := ((pageFields page).map (·.off)).eraseDups

/-- The register records (R365, R366): of every page first the RW-LK fields, then the whole words, so that no write meets a
lock that another record of the copy sets (log entry 56). -/
def State.registerRecords (s : State) : List CfgRecord :=
  (List.range 47).flatMap (fun page => (pageOffsets page).flatMap fun off => s.wordRecord page off fun f => decide (f.acc = .rwLk)) ++
    (List.range 47).flatMap fun page => (pageOffsets page).flatMap fun off => s.wordRecord page off fun _ => true

/-- The runs of successive addresses of written bytes: one table record each. -/
def tableRecords : List Host.Cell → List CfgRecord
  | [] => []
  | (a, b) :: l =>
    match tableRecords l with
    | .table o d :: r => if o = a + 1 then .table a (b :: d) :: r else .table a [b] :: .table o d :: r
    | r => .table a [b] :: r

/-- The eclosion records: every commit group at IMMEDIATE from its page (R365, R479). -/
def eclosionRecords : List CfgRecord :=
  ([Port.E, Port.W].flatMap fun p =>
    let k := 8 * p.toNat
    [.eclosion (31 + k) p.toNat, .eclosion (32 + k) (2 + p.toNat), .eclosion (33 + k) (4 + p.toNat), .eclosion (33 + k) (6 + p.toNat)]) ++
  [.eclosion 4 8, .eclosion 17 9]

/-- The records of the configuration as it stands (R365, R366). -/
def State.cfgRecords (s : State) : List CfgRecord :=
  s.registerRecords ++ tableRecords s.bar2 ++ (s.prot.plans.map fun e => .plan e.1 e.2) ++ [.service s.tb s.tel] ++ eclosionRecords

/-- A copy checks: its magic number and its CMAC (R365). -/
def CfgCopy.valid (c : CfgCopy) : Bool := decide (c.magic = 0x43464749) && c.cmacOk

/-- The two configuration copies. -/
def State.cfgCopy (s : State) (i : Nat) : Option CfgCopy := if i = 0 then s.flash.copy0 else s.flash.copy1

/-- The number of the valid copy with the higher SEQ (R366, R367); SEQ is compared as a number. -/
def State.cfgNewest (s : State) : Option Nat :=
  match s.flash.copy0.filter (·.valid), s.flash.copy1.filter (·.valid) with
  | some a, some b => some (if b.seq ≤ a.seq then 0 else 1)
  | some _, none => some 0
  | none, some _ => some 1
  | none, none => none

/-- CFG_SAVE (R365, R366): the copy not holding the higher valid SEQ takes the configuration. How many bytes its records take is
open (log entry 56). -/
def State.cfgSave (s : State) (policy : Nat) : State × Nat :=
  let seq := match s.cfgNewest with
    | some i => (match s.cfgCopy i with | some x => x.seq + 1 | none => 1) % 2 ^ 32
    | none => 1
  let c : CfgCopy := ⟨0x43464749, seq, policy, s.freeVal 20, true, s.cfgRecords⟩
  let f := if s.cfgNewest = some 0 then { s.flash with copy1 := some c } else { s.flash with copy0 := some c }
  ({ s.useFree with flash := f }, seq)

/-- The banks of a plan image: 96 entries each of LINE-E transmit, LINE-E receive, LINE-W transmit, LINE-W receive (R373). -/
def planOf (spans data : List Nat) : Plan :=
  let bank (base : Nat) : Tab Nat := (List.range 192).filterMap fun i =>
    let w := data.getD (192 * (i / 96) + base + i % 96) 0
    if w = 0 then none else some (i, w)
  ⟨spans.foldl addSorted [], bank 0, bank 96⟩

/-- PTP_PORT_CFG (R373). -/
def State.ptpPortCfg (s : State) (w : Nat) : State :=
  s.onServo (w % 4) (bitOf w 4) fun v =>
    let kind := bits w 8 2
    { v with kind := kind, twoStep := bitOf w 10, dest := bits w 11 1, notSlave := bitOf w 12, localPriority := bits w 16 8,
             heard := v.heard && decide (kind = 2 ∨ kind = 3) }

/-- portState of an instance, with the codes of IEEE 1588 (log entry 49). -/
def Servo.portState (v : Servo) : Nat :=
  if v.kind = 0 then 3
  else if v.slave && v.heard then (if v.freqLock then 9 else 8)
  else if v.kind = 1 ∨ v.kind = 2 then 6
  else 4

/-- A 64-bit number as two words, low first. -/
def twoWords (n : Nat) : List Nat := [n % 2 ^ 32, n / 2 ^ 32 % 2 ^ 32]

/-- PTP_DATASET (R373): times in 2^−16 ns. -/
def State.ptpDataset (s : State) (w : Nat) : State × List Nat :=
  let x := w % 4
  let sh := bitOf w 4
  let v := s.servoOf x sh
  let a := s.announceContent x sh
  let r := s.divOpen v.offset 65536
  let d := r.1.divOpen v.delay 65536
  (d.1, [v.portState, a.getD 3 0] ++ twoWords (unsigned 64 r.2) ++ twoWords (unsigned 64 d.2) ++ twoWords (a.getD 0 0) ++
    [a.getD 1 0, a.getD 2 0])

/-- PROT_STATUS (R373): at most eight failed spans. -/
def State.protStatus (s : State) : List Nat :=
  let l := s.failedSpans
  let f := l.take 8
  [s.prot.inForce + 2 ^ 8 * bit s.prot.noPlan + 2 ^ 9 * bit s.prot.hold, l.length] ++ f ++ List.replicate (8 - f.length) 0

/-- PLAN_LIST: one bit per plan; the bit of plan 0, which no command loads, is open (log entry 50). -/
def State.planList (s : State) : State × List Nat :=
  let b0 := s.freeVal 1
  (s.useFree, (List.range 8).map fun j =>
    ((List.range 32).map fun i =>
      let n := 32 * j + i
      if n = 0 then b0 else bit (Tab.has s.prot.plans n) * 2 ^ i).foldl (· + ·) 0)

/-- KR_STATUS: minutes to the next switch, from the ticks since the last; rounding is open (R303, R373). -/
def State.krStatus (s : State) (ch : Nat) : State × List Nat :=
  let c := s.chanKey ch
  let period := max 1 (s.rd CY_KEY.ROT_CFG_ROT_PERIOD)
  let gone := (s.rd MG_CTL.TICK_COUNT_TICKS + 2 ^ 32 - c.rotTick) % 2 ^ 32
  let r := s.divOpen ((60000 * period - gone : Nat) : Int) 60000
  (r.1, [bit (s.kdfEn ch), r.2.toNat, c.refusals])

/-- PWR_REPORT (R373). -/
def State.pwrReport (s : State) : List Nat :=
  (List.range 5).map (fun d => s.rd (PWR_MGR.DIE_POWER_POWER d)) ++ [s.rd PWR_MGR.PKG_POWER_POWER,
    s.rd (FEC.ITER_CTL_CAP .E) + 2 ^ 8 * s.rd (FEC.ITER_CTL_CAP .W)]

/-- The runs that CAL_RUN waits for have ended (R373). -/
def State.calRunOver (s : State) (m : Nat) : Bool :=
  (maskPorts m).all fun p =>
    !s.on (RXCONV.CAL_STATUS_RUN_ACTIVE p) && !s.on (RXCONV.CAL_STATUS_RUN_PENDING p) &&
      (portTasks p).all fun t =>
        [PWR_MGR.CAL_STATE_ACTIVE, PWR_MGR.CAL_STATE_PENDING, PWR_MGR.CAL_STATE_DEFERRED].all fun f => !bitOf (s.rd f) t

/-- The end of a GLIDE (R256, R374): done, rejected with the cause, or at a limit of its own with the state reached. -/
def State.glideEnd (s : State) (c : MbxCmd) : Option (Nat × Nat × List Nat) :=
  let p := Port.ofBit (c.w 0)
  let n := s.neg.get p
  match n.ended with
  | 0 => none
  | 1 => some (0, 0, [s.rd (HB_RING.NEG_STATUS_TXN p)] ++ twoWords n.atF ++ twoWords n.atR)
  | 2 => some (14, s.rd (HB_RING.NEG_STATUS_LAST_CAUSE p), [])
  | _ => some (11, s.negSt p, [])

/-- FW_MOULT before its handover: what ends it early (R368). -/
def State.moultCheck (s : State) (slot : Nat) : Option (Nat × Nat × List Nat) :=
  match s.validSlot slot, s.coreImage s.activeCore with
  | none, _ => some (7, 0, [])
  | some i, some run => if run.stateVer.toNat < i.stateMin.toNat then some (4, run.stateVer.toNat, []) else none
  | some _, none => none

/-- The effect of a command whose parts outside the cores serve it, and its end; none where what it waits for has not come
(R373, R374). -/
def State.mbxResult (s : State) (c : MbxCmd) : State × Option (Nat × Nat × List Nat) :=
  let w0 := c.w 0
  let ok (s : State) (rsp : List Nat) : State × Option (Nat × Nat × List Nat) := (s, some (0, 0, rsp))
  match c.op with
  | 0x0001 => ok s [s.rd MG_CTL.FW_VERSION_VERSION, s.rd MG_CTL.FW_SVN_SVN + 2 ^ 8 * s.activeCore]
  | 0x0002 =>
    let ver (b : Nat) : Nat := match s.validSlot b with | some i => i.version.toNat | none => 0
    ok s [ver 0, ver 1, (if s.flash.dirOk then s.flash.pref else 0) + 2 * s.rd MG_CTL.CORE_STATUS_RUN_SLOT,
      s.rd MG_CTL.FW_SVN_MIN_SVN]
  | 0x0101 =>
    let t := clampNat 4 32 (s.rdA MG_MEM.PBCH_CFG_T_FLASH)
    let r := s.hostData c (c.w 3) 8
    let s := (r.1.serviceRead 15 (c.w 1 + 2 ^ 32 * c.w 2) (c.w 3)).setFlashSlot w0 ⟨r.2, false⟩
    ok { s with mem := { s.mem with strength := Tab.set 16 s.mem.strength (3 + w0) t } } []
  | 0x0102 =>
    match s.validSlot w0 with
    | some i => ok s [i.version.toNat, i.svn.toNat]
    | none => (s, some (7, 0, []))
  | 0x0103 =>
    match s.moultCheck w0 with
    | some e => (s.moultFailed, some e)
    | none => (s, none)
  | 0x0104 =>
    if (s.validSlot w0).isSome then ok { s with flash := { s.flash with dir := dirImage w0 } } []
    else (s, some (4, 0, []))
  | 0x0105 =>
    let n := max (s.rd MG_CTL.FW_SVN_MIN_SVN) (s.rd MG_CTL.FW_SVN_SVN)
    ok (s.wr MG_CTL.FW_SVN_MIN_SVN n) [n]
  | 0x0106 =>
    match s.validSlot w0 with
    | some i => ok (s.startCores i w0) []
    | none => (s, some (7, 0, []))
  | 0x0201 =>
    let r := s.cfgSave w0
    ok r.1 [r.2]
  | 0x0202 => ok { s with flash := { s.flash with copy0 := none, copy1 := none } } []
  | 0x0301 =>
    let p := Port.ofBit w0
    if s.acqSt p = acqAcquired then ok s [s.rd (RXFE.ACQ_STATUS_ACQ_TIME p)] else (s, some (11, s.acqSt p, []))
  | 0x0302 => (s, if s.txSt (Port.ofBit w0) = txDark then some (0, 0, []) else none)
  | 0x0303 => (s, s.glideEnd c)
  | 0x0401 =>
    let spans := (List.range (c.w 1)).map fun i => c.w (2 + i)
    let r := s.hostData c 384 32
    ok ((r.1.serviceRead 15 (c.w 10 + 2 ^ 32 * c.w 11) 1536).onProt fun x =>
      { x with plans := Tab.insert x.plans w0 (planOf spans r.2) }) []
  | 0x0402 =>
    if s.prot.inForce = w0 then (s, some (4, 0, []))
    else ok (s.onProt fun x => { x with plans := Tab.erase x.plans w0 }) []
  | 0x0403 =>
    let r := s.planList
    ok r.1 r.2
  | 0x0404 => ok s s.protStatus
  | 0x0405 => ok (s.onProt fun x => { x with hold := bitOf w0 0 }) []
  | 0x0501 => ok (s.ptpPortCfg w0) []
  | 0x0502 => ok (s.onTb w0 fun b => { b with clockQual := c.w 1, clockVar := c.w 2 % 65536 }) []
  | 0x0503 =>
    let r := s.ptpDataset w0
    ok r.1 r.2
  | 0x0601 => ok s (wordsOf ((s.binsOf ((pmEntityOf w0).getD 0) (bitOf w0 10)).record (bits w0 16 8)))
  | 0x0602 => ok (s.pmBulk c (pmHistory (bitOf w0 10) + 1)) []
  | 0x0603 => ok (s.pmRestart ((pmEntityOf w0).getD 0)) []
  | 0x0701 =>
    let r := s.krStatus w0
    ok r.1 r.2
  | 0x0702 =>
    if s.rclkStopped then (s, some (4, 0, []))
    else
      let r := s.requestSwitch w0 (s.addSs w0 + s.annLead)
      (r.1, some (if r.2 = 0 then (0, 0, []) else (6, r.2, [])))
  | 0x0801 =>
    if s.calRunOver w0 then ok s [] else (s.useFree, some (11, s.freeVal 32, []))
  | 0x0802 =>
    let p := Port.ofBit w0
    ok s [(s.calRun.get p).sinceMs / 1000, unsigned 32 (s.rdI (RXCONV.CAL_STATUS_T_REF p)), bit (s.calRun.get p).implausible]
  | 0x0901 => ok (s.wr PWR_MGR.CAP_CFG_CAP_W (bits w0 0 12)) []
  | 0x0902 => ok s s.pwrReport
  | 0x0A01 => ok { s with tel := some ⟨w0, c.w 1, c.w 2 + 2 ^ 32 * c.w 3, c.w 4, 0, c.w 1⟩ } []
  | _ => ok { s with tel := none } []

/-- MAILBOX_COMMAND_DONE (R370, R372): the command of a mailbox that has been started ends as decided, by an error of the
parts that serve it, or with its result. One that has not been started starts, where nothing is in its way. -/
def execMailboxCommandDone (x : Fin 2) (o : MbxServed) (s : State) : Result :=
  .next (
    match s.mbxOf x.val with
    | none => s
    | some c =>
      if !s.mbxServed x.val then s
      else if !c.started then s.mbxStart x.val
      else
        match c.ended with
        | some (st, d, rsp) => (s.cond (decide (c.op = opFwMoult) && s.core.moult.isSome) State.moultFailed).mbxEnd x.val st d rsp
        | none =>
          match o with
          | .dmaError e => if movesData c.op then s.mbxEnd x.val 12 e [] else s
          | .flashError f =>
            if usesFlash c.op then (s.cond (decide (c.op = opFwMoult)) State.moultFailed).mbxEnd x.val 8 f [] else s
          | .ok =>
            -- data moves through channel 15, whose halt ends the command and which it waits for to run (R370, R383, R392)
            match if movesData c.op then s.serviceError 15 else none with
            | some e => s.mbxEnd x.val 12 e []
            | none =>
              if movesData c.op && !s.serviceRuns 15 then s
              else
                match s.mbxResult c with
                | (s, some (st, d, rsp)) => s.mbxEnd x.val st d rsp
                | (s, none) => s)

/-- MBX_ABORT written (R374): FW_WRITE, PM_READ_BULK and the waits of LINK_UP and CAL_RUN end with status 13; how far the
first two have come is open (log entry 51). -/
def State.mbxAbort (s : State) (x : Nat) : State :=
  match s.mbxOf x with
  | none => s
  | some c =>
    if c.ended.isSome then s
    else if c.op = opFwWrite then
      let n := s.freeVal 21
      let r := s.useFree.hostData c (min n (c.w 3)) 8
      let s := r.1.cond (c.started && decide (n ≠ 0)) fun s => s.setFlashSlot (c.w 0) ⟨r.2, false⟩
      s.mbxEnd x 13 0 []
    else if c.op = opPmReadBulk then
      let moved := c.started && s.serviceRuns 15 && (s.serviceError 15).isNone
      let n := if moved then min (pmHistory (bitOf (c.w 0) 10) + 1) (s.freeVal 7) else 0
      (s.useFree.pmBulk c n).mbxEnd x 13 0 []
    else if c.op = opLinkUp ∨ c.op = opCalRun then s.mbxEnd x 13 0 []
    else s

/-- MBX_ABORT (R374). -/
def execMbxAbort (r : Requester) (x : Fin 2) (s : State) : Result :=
  .next (s.guarded r (2 + x.val) 0x054 fun s => s.mbxAbort x.val)

/-! ### The doorbells -/

/-- PING (R373). -/
def execPing (r : Requester) (x : Fin 2) (tag words : Byte) (s : State) : Result := .next (s.mbxWrite r x opPing tag words [])
/-- GET_INFO (R373). -/
def execGetInfo (r : Requester) (x : Fin 2) (tag words : Byte) (s : State) : Result := .next (s.mbxWrite r x opGetInfo tag words [])
/-- FW_WRITE (R373): the bytes that the host's memory holds. -/
def execFwWrite (r : Requester) (x : Fin 2) (tag words : Byte) (image : List Byte) (s : State) : Result :=
  .next (s.mbxWrite r x opFwWrite tag words (image.map (·.toNat)))
/-- FW_VERIFY (R373). -/
def execFwVerify (r : Requester) (x : Fin 2) (tag words : Byte) (s : State) : Result := .next (s.mbxWrite r x opFwVerify tag words [])
/-- FW_MOULT (R368, R373). -/
def execFwMoult (r : Requester) (x : Fin 2) (tag words : Byte) (s : State) : Result := .next (s.mbxWrite r x opFwMoult tag words [])
/-- FW_SET_BOOT (R373). -/
def execFwSetBoot (r : Requester) (x : Fin 2) (tag words : Byte) (s : State) : Result := .next (s.mbxWrite r x opFwSetBoot tag words [])
/-- FW_COMMIT_SVN (R373). -/
def execFwCommitSvn (r : Requester) (x : Fin 2) (tag words : Byte) (s : State) : Result := .next (s.mbxWrite r x opFwCommitSvn tag words [])
/-- FW_BOOT (R364, R373). -/
def execFwBoot (r : Requester) (x : Fin 2) (tag words : Byte) (s : State) : Result := .next (s.mbxWrite r x opFwBoot tag words [])
/-- CFG_SAVE (R366, R373). -/
def execCfgSave (r : Requester) (x : Fin 2) (tag words : Byte) (s : State) : Result := .next (s.mbxWrite r x opCfgSave tag words [])
/-- CFG_CLEAR (R373). -/
def execCfgClear (r : Requester) (x : Fin 2) (tag words : Byte) (s : State) : Result := .next (s.mbxWrite r x opCfgClear tag words [])
/-- LINK_UP (R374). -/
def execLinkUp (r : Requester) (x : Fin 2) (tag words : Byte) (s : State) : Result := .next (s.mbxWrite r x opLinkUp tag words [])
/-- LINK_DOWN (R373). -/
def execLinkDown (r : Requester) (x : Fin 2) (tag words : Byte) (s : State) : Result := .next (s.mbxWrite r x opLinkDown tag words [])
/-- GLIDE (R374). -/
def execGlide (r : Requester) (x : Fin 2) (tag words : Byte) (s : State) : Result := .next (s.mbxWrite r x opGlide tag words [])
/-- PLAN_LOAD (R373): the 384 words that the host's memory holds. -/
def execPlanLoad (r : Requester) (x : Fin 2) (tag words : Byte) (data : List Word) (s : State) : Result :=
  .next (s.mbxWrite r x opPlanLoad tag words (data.map (·.toNat)))
/-- PLAN_DELETE (R373). -/
def execPlanDelete (r : Requester) (x : Fin 2) (tag words : Byte) (s : State) : Result := .next (s.mbxWrite r x opPlanDelete tag words [])
/-- PLAN_LIST (R373). -/
def execPlanList (r : Requester) (x : Fin 2) (tag words : Byte) (s : State) : Result := .next (s.mbxWrite r x opPlanList tag words [])
/-- PROT_STATUS (R373). -/
def execProtStatus (r : Requester) (x : Fin 2) (tag words : Byte) (s : State) : Result := .next (s.mbxWrite r x opProtStatus tag words [])
/-- PROT_HOLD (R373). -/
def execProtHold (r : Requester) (x : Fin 2) (tag words : Byte) (s : State) : Result := .next (s.mbxWrite r x opProtHold tag words [])
/-- PTP_PORT_CFG (R373). -/
def execPtpPortCfg (r : Requester) (x : Fin 2) (tag words : Byte) (s : State) : Result := .next (s.mbxWrite r x opPtpPortCfg tag words [])
/-- PTP_CLOCK_CFG (R373). -/
def execPtpClockCfg (r : Requester) (x : Fin 2) (tag words : Byte) (s : State) : Result := .next (s.mbxWrite r x opPtpClockCfg tag words [])
/-- PTP_DATASET (R373). -/
def execPtpDataset (r : Requester) (x : Fin 2) (tag words : Byte) (s : State) : Result := .next (s.mbxWrite r x opPtpDataset tag words [])
/-- PM_READ (R375). -/
def execPmRead (r : Requester) (x : Fin 2) (tag words : Byte) (s : State) : Result := .next (s.mbxWrite r x opPmRead tag words [])
/-- PM_READ_BULK (R373). -/
def execPmReadBulk (r : Requester) (x : Fin 2) (tag words : Byte) (s : State) : Result := .next (s.mbxWrite r x opPmReadBulk tag words [])
/-- PM_RESTART (R373). -/
def execPmRestart (r : Requester) (x : Fin 2) (tag words : Byte) (s : State) : Result := .next (s.mbxWrite r x opPmRestart tag words [])
/-- KR_STATUS (R373). -/
def execKrStatus (r : Requester) (x : Fin 2) (tag words : Byte) (s : State) : Result := .next (s.mbxWrite r x opKrStatus tag words [])
/-- KR_ROTATE_NOW (R374). -/
def execKrRotateNow (r : Requester) (x : Fin 2) (tag words : Byte) (s : State) : Result := .next (s.mbxWrite r x opKrRotateNow tag words [])
/-- CAL_RUN (R373). -/
def execCalRun (r : Requester) (x : Fin 2) (tag words : Byte) (s : State) : Result := .next (s.mbxWrite r x opCalRun tag words [])
/-- CAL_STATUS (R373). -/
def execCalStatus (r : Requester) (x : Fin 2) (tag words : Byte) (s : State) : Result := .next (s.mbxWrite r x opCalStatus tag words [])
/-- PWR_CAP (R433). -/
def execPwrCap (r : Requester) (x : Fin 2) (tag words : Byte) (s : State) : Result := .next (s.mbxWrite r x opPwrCap tag words [])
/-- PWR_REPORT (R373). -/
def execPwrReport (r : Requester) (x : Fin 2) (tag words : Byte) (s : State) : Result := .next (s.mbxWrite r x opPwrReport tag words [])
/-- TEL_START (R376). -/
def execTelStart (r : Requester) (x : Fin 2) (tag words : Byte) (s : State) : Result := .next (s.mbxWrite r x opTelStart tag words [])
/-- TEL_STOP (R373). -/
def execTelStop (r : Requester) (x : Fin 2) (tag words : Byte) (s : State) : Result := .next (s.mbxWrite r x opTelStop tag words [])
/-- UNKNOWN_OP (R372): the doorbell with a code of no command; one that names a command runs it. -/
def execUnknownOp (r : Requester) (x : Fin 2) (op : BitVec 16) (tag words : Byte) (s : State) : Result :=
  .next (s.mbxWrite r x op.toNat tag words [])

end Sys2Proof.Machine
end

