-- ==== Sys2Proof/Machine/Cores.lean ====
section
/-! DEFINITION. The control cores: boot, moult, emergency moult, watchdog, the non-maskable causes, telemetry publication
(R360 to R364, R368, R369, R376, R378). -/

namespace Sys2Proof.Machine

open F

/-- Change the state of the cores. -/
def State.onCore (s : State) (f : CoreState → CoreState) : State := { s with core := f s.core }

/-- The boot procedure (R364): the preferred valid slot, else the other one, else recovery. -/
def State.boot (s : State) : State :=
  let first := if s.flash.dirOk then s.flash.pref % 2 else 0
  let s := s.onCore fun c => { c with restored := false, emergeWait := false, moult := none, selfTest := none, reload := false }
  match s.validSlot first with
  | some i => (s.startCores i first).wr MG_CTL.CORE_STATUS_LAST_FALLBACK 0
  | none =>
    match s.validSlot (1 - first) with
    | some i => ((s.startCores i (1 - first)).wr MG_CTL.CORE_STATUS_LAST_FALLBACK 1).raise Ev.MG_CTL.bootFallback
    | none => s.wr MG_CTL.CORE_STATUS_RUN_SLOT 2

/-- BOOT_ROM_START (R364, R488): the control complex has left reset and no core runs yet. -/
def execBootRomStart (s : State) : Result :=
  .next (
    if s.clock.ctrlRun ∧ ¬ s.clock.stopped ∧ s.coreSt 0 ≠ 1 ∧ s.coreSt 1 ≠ 1 ∧ s.rd MG_CTL.CORE_STATUS_RUN_SLOT ≠ 2 ∧
        ¬ s.on MG_CTL.CORE_STATUS_FATAL then s.boot
    else s)

/-! ### Moult (R368, R369) -/

/-- The ACTIVE core writes the mirror of the service state (R368), of the version its image writes. -/
def State.writeMirror (s : State) : State :=
  s.onCore fun c =>
    { c with mirror := some ⟨match s.coreImage s.activeCore with | some i => i.stateVer.toNat | none => 0,
        s.rd MG_CTL.TICK_COUNT_TICKS, s.prot, s.tb, s.pm, s.tel, s.chanKeys.map fun e => (e.1, e.2.rotTick)⟩ }

/-- An emergency moult (R369): the STANDBY core becomes ACTIVE on its own image, mailbox commands in progress end with status 9;
without a STANDBY core it is EXHAUSTED and sets FATAL. It starts from the last tick's mirror and redoes the service work since,
which leads to the service state that has been reached (log entry 134). -/
def State.emergencyMoult (s : State) : State :=
  let a := s.activeCore
  if s.coreSt a ≠ 1 then s
  else if s.coreSt (1 - a) = 2 then
    let s := s.setCoreSt a 0
    let s := (s.runCore (1 - a)).wr MG_CTL.CORE_STATUS_MOULT_BUSY 0
    let s := s.onCore fun c => { c with selfTest := some a, reload := false, moult := none }
    let s := s.raise Ev.MG_CTL.emergency
    (s.mbxFinish 0 9 0 []).mbxFinish 1 9 0 []
  else
    let s := ((s.lastingOnly .core a).exhausted .core).setCoreSt a 3
    s.fatal

/-- WATCHDOG_EXPIRY (R369): the ACTIVE core has not refreshed the watchdog for `WDOG_MS`. -/
def execWatchdogExpiry (s : State) : Result :=
  .next (if s.coreSt s.activeCore = 1 ∧ ¬ s.clock.stopped then (s.raise Ev.MG_CTL.watchdog).emergencyMoult else s)

/-- MOULT_REQ (R369). -/
def execMoultReq (r : Requester) (s : State) : Result := .next (s.guarded r 1 0x050 State.emergencyMoult)

/-- The former ACTIVE core's self-test ends (R369): the core becomes STANDBY or is quarantined. After a moult a core that
passes waits until it holds the new image (R368). -/
def State.coreSelfTest (s : State) (pass : Bool) : State :=
  match s.core.selfTest with
  | none => s
  | some c =>
    if pass then
      if s.core.reload then s
      else
        let s := s.loadCore c (s.coreImage s.activeCore) (s.coreSlot s.activeCore)
        ((s.transient .core).setCoreSt c 2).onCore fun k => { k with selfTest := none }
    else ((s.lastingOnly .core c).setCoreSt c 3).onCore fun k => { k with selfTest := none, reload := false }

/-- CORE_SELF_TEST_DONE (R369). -/
def execCoreSelfTestDone (pass : Bool) (s : State) : Result := .next (s.coreSelfTest pass)

/-- MOULT_HANDOVER (R368, R377): at a tick boundary the ACTIVE role moves to the core with the new image, FW_MOULT completes,
a command of the other mailbox that still runs ends with status 9. -/
def execMoultHandover (s : State) : Result :=
  s.served <|
  .next (
    match s.core.moult with
    | none => s
    | some (slot, x) =>
      match s.moultCheck slot, s.validSlot slot with
      | none, some i =>
        let a := s.activeCore
        let s := s.writeMirror.setCoreSt a 0
        let s := (s.loadCore (1 - a) (some i) slot).runCore (1 - a)
        let s := (s.wr MG_CTL.CORE_STATUS_MOULT_BUSY 0).onCore fun c =>
          { c with moult := none, selfTest := some a, reload := true }
        let s := s.raise Ev.MG_CTL.moult
        (s.mbxFinish x 0 0 [i.version.toNat]).mbxFinish (1 - x) 9 0 []
      | _, _ => s)

/-- MOULT_STANDBY_READY (R368): the old core holds the new image, has passed its self-test and is STANDBY. -/
def execMoultStandbyReady (s : State) : Result :=
  .next (
    match s.core.selfTest with
    | some c =>
      if s.core.reload then
        let s := s.loadCore c (s.coreImage s.activeCore) (s.coreSlot s.activeCore)
        (s.setCoreSt c 2).onCore fun k => { k with selfTest := none, reload := false }
      else s
    | none => s)

/-- NMI_CAUSE written (R378): a 1 clears its bit. -/
def State.nmiClear (s : State) (b : Nat) : State :=
  let s := s.cond (bitOf b 0) fun s => s.wr MG_CTL.NMI_CAUSE_EXHAUSTED 0
  let s := s.cond (bitOf b 1) fun s => s.wr MG_CTL.NMI_CAUSE_RCLK_FAIL 0
  s.cond (bitOf b 2) fun s => s.wr MG_CTL.NMI_CAUSE_FATAL 0

/-- NMI_CAUSE_CLEAR (R378). -/
def execNmiCauseClear (r : Requester) (b : BitVec 3) (s : State) : Result :=
  .next (s.guarded r 1 0x054 fun s => s.nmiClear b.toNat)

/-! ### Telemetry (R376) -/

/-- The words of a page from one offset to another. -/
def State.pageWords (s : State) (page lo hi : Nat) : List Nat :=
  (List.range ((hi - lo) / 4 + 1)).map fun i => s.pageWord .core0 page (lo + 4 * i)

/-- The block of a mask bit (R376). -/
def State.telBlock (s : State) (b : Nat) : List Nat :=
  match b with
  | 0 => s.pageWords 37 0x048 0x06C
  | 1 => s.pageWords 45 0x048 0x06C
  | 2 => s.pageWords 38 0x080 0x100
  | 3 => s.pageWords 46 0x080 0x100
  | 4 => s.pwrReport
  | 5 => s.pageWords 9 0x044 0x058
  | _ => []

/-- A telemetry record (R376). -/
def State.telRecord (s : State) (mask seq : Nat) : List Nat :=
  let body := ((List.range 6).filter (bitOf mask)).flatMap s.telBlock
  [seq, s.rd MG_CTL.TICK_COUNT_TICKS, mask, 16 + 4 * body.length] ++ body

/-- Publication stops at a DMA error, which is counted (R376). -/
def State.telError (s : State) : State := if s.tel.isSome then { s with tel := none }.raise Ev.MG_CTL.telStopped else s

/-- TELEMETRY_RECORD (R376): a period has passed; DMA channel 15 writes the record to its place in the host ring, or a DMA error
stops publication. A channel that does not run lets it wait (R383). -/
def execTelemetryRecord (ok : Bool) (s : State) : Result :=
  s.served <|
  .next (
    match s.tel with
    | none => s
    | some t =>
      if t.left ≠ 0 then s
      else if ok && (s.serviceError 15).isNone then
        if !s.serviceRuns 15 then s else
        let seq := (t.seq + 1) % 2 ^ 32
        let s := s.serviceWrite 15 (t.addr + 512 * (seq % t.len)) ((s.telRecord t.mask seq).flatMap (le 4))
        { s with tel := some { t with seq := seq, left := t.period } }.raise Ev.MG_CTL.telPublished
      else s.telError)

end Sys2Proof.Machine
end

