-- ==== Sys2Proof/Machine/DmaCtl.lean ====
section
/-! DEFINITION. The DMA engine's channels and rings: descriptors, doorbells, halts, recovery (R383 to R395). -/

namespace Sys2Proof.Machine

open F

/-- The ring lies in the descriptor memory (R384). -/
def State.ringLocal (s : State) (c : Nat) : Bool := s.on (DMA_ENG.CH_CTRL_LOC c)

/-- `LOG2` as used: 2 to 15, or 2 to 6 with `LOC` = 1; beyond that it is read as the nearer limit (R384, log entry 53). -/
def State.ringSize (s : State) (c : Nat) : Nat :=
  2 ^ clampNat 2 (if s.ringLocal c then 6 else 15) (s.rd (DMA_ENG.RING_SIZE_LOG2 c))

/-- `HEAD`. -/
def State.dmaHead (s : State) (c : Nat) : Nat := s.rd (DMA_ENG.HEAD_HEAD c)

/-- Posted descriptors: `HEAD` to `TAIL` − 1, modulo the ring size (R384). -/
def State.dmaPosted (s : State) (c : Nat) : Nat :=
  (s.rd (DMA_ENG.TAIL_TAIL c) + s.ringSize c - s.dmaHead c % s.ringSize c) % s.ringSize c

/-- The channel may issue beats: the engine is enabled and not halted, the channel runs (R384, R393, R409). -/
def State.dmaLive (s : State) (c : Nat) : Bool :=
  s.on DMA_ENG.ENG_CTRL_ENABLE && s.on (DMA_ENG.CH_CTRL_RUN c) && !s.dmaHalted

/-- Requests of the channel are outstanding (R409). -/
def DmaChan.active (x : DmaChan) : Bool := decide (x.outstanding ≠ 0 ∨ x.fetching ≠ [])

/-- `ENG_STATUS.ACTIVE` is not 0 (R395). -/
def State.dmaActive (s : State) : Bool := (List.range 16).any fun c => (s.dmaOf c).active

/-- The ring base; with `LOC` = 1 an offset in the channel's descriptor memory (R409). -/
def State.ringBase (s : State) (c : Nat) : Nat :=
  s.rd (DMA_ENG.RING_LO_BASE c) * 32 + (if s.ringLocal c then 0 else s.rd (DMA_ENG.RING_HI_BASE c) * 2 ^ 32)

/-- The place of descriptor `i`: its host address, or with `LOC` = 1 its BAR2 offset in the channel's 2 KiB (R384). -/
def State.descrAt (s : State) (c i : Nat) : Nat :=
  if s.ringLocal c then descWin + 0x800 * c + (s.ringBase c + 32 * i) % 0x800 else s.ringBase c + 32 * i

/-- A descriptor from its eight words (R385). -/
def descrOf (i : Nat) (w : List Nat) : Descr where
  idx := i
  host := w.getD 0 0 + w.getD 1 0 * 2 ^ 32
  dev := w.getD 2 0
  len := w.getD 3 0 % 2 ^ 24
  ctrl := w.getD 4 0 % 32
  junk := decide (2 ^ 24 ≤ w.getD 3 0 ∨ 32 ≤ w.getD 4 0 ∨ w.getD 5 0 ≠ 0 ∨ w.getD 6 0 ≠ 0 ∨ w.getD 7 0 ≠ 0)

/-- Fields of CTRL (R385). -/
def Descr.toHost (d : Descr) : Bool := bitOf d.ctrl 0
def Descr.swap (d : Descr) : Nat := bits d.ctrl 1 2
def Descr.irq (d : Descr) : Bool := bitOf d.ctrl 3
def Descr.wb (d : Descr) : Bool := bitOf d.ctrl 4

/-- The descriptor lies wholly within one region that its channel may use (R386). -/
def Descr.inRegion (d : Descr) (c : Nat) : Bool :=
  decide (d.dev + d.len ≤ 0x01000000) || decide (0x10000000 ≤ d.dev ∧ d.dev + d.len ≤ 0x10400000) ||
    decide (c = 15 ∧ 0x20000000 ≤ d.dev ∧ d.dev + d.len ≤ 0x20100000)

/-- A descriptor that breaks no rule (R385 to R387). -/
def Descr.valid (d : Descr) (c : Nat) : Bool :=
  !d.junk && decide (d.host % 4 = 0 ∧ d.dev % 4 = 0 ∧ d.len % 4 = 0 ∧ 4 ≤ d.len ∧ d.len ≤ 16777212 ∧ d.swap ≠ 3) &&
    d.inRegion c

/-- A channel is high (R396). -/
def State.dmaHigh (s : State) (c : Nat) : Bool := s.on (DMA_ENG.CH_CTRL_PRIO c)

/-- The arbiter of a channel's class draws before every beat (R400). -/
def State.dmaPerBeat (s : State) (c : Nat) : Bool := s.on (MG_MEM.ARB_CFG_MODE (if s.dmaHigh c then 3 else 4))

/-- Give `CH_STATUS.STATE` its code: 4 halted, 2 pre-empted, 3 waiting for a grant, 1 running, 0 idle (R409, log entry 53). -/
def State.dmaState (s : State) (c : Nat) : State :=
  let x := s.dmaOf c
  if s.rd (DMA_ENG.CH_STATUS_STATE c) = 4 ∧ ¬ s.on (DMA_ENG.CH_CTRL_RUN c) then s
  else
    s.wr (DMA_ENG.CH_STATUS_STATE c) (
      if ¬ s.on (DMA_ENG.CH_CTRL_RUN c) then 0
      else if x.held ≠ [] then (if s.dmaPerBeat c then 3 else 2)
      else if x.cur.isSome ∧ x.outstanding = 0 ∧ s.rd (DMA_ENG.REMAIN_BYTES c) ≠ 0 then 3
      else if x.cur.isSome ∨ x.fetching ≠ [] then 1 else 0)

/-- Write back STATUS of the descriptor at index `i` (R385). -/
def State.dmaWriteBack (s : State) (c i status : Nat) : State :=
  if s.ringLocal c then s.setTabWord (s.descrAt c i + 20) status
  else s.emit (.host (s.descrAt c i + 20) (le 4 status))

/-- What a halt of channel 15 does to the services it carries: a mailbox command that moves data ends with status 12, and
telemetry stops (R392). -/
def State.dmaServiceHalt (s : State) (c err : Nat) : State :=
  if c = 15 then (s.mbxDecide (fun k => k.started && movesData k.op) 12 err).telError else s

/-- The registers of a channel whose descriptor failed (R392, R393). -/
def State.dmaFailed (s : State) (c err : Nat) : State :=
  let s := (s.wr (DMA_ENG.CH_STATUS_FAILED c) 1).wr (DMA_ENG.CH_STATUS_FAILED_IDX c) (s.dmaHead c)
  let s := ((s.wr (DMA_ENG.CH_STATUS_ERR c) err).wr (DMA_ENG.CH_STATUS_STATE c) 4).wr (DMA_ENG.CH_CTRL_RUN c) 0
  (s.releaseGrant c).count 6 (0x904 + 0x10 * c) 1

/-- An engine halt (R393, R394): cause, host address of the failed request, and the channel whose last beat failed, if any. -/
def State.engineHalt (s : State) (cause addr : Nat) (final : Option Nat) : State :=
  if s.dmaHalted then s
  else
    let s := (s.wr DMA_ENG.ENG_STATUS_HALTED 1).wr DMA_ENG.ENG_STATUS_HALT_CAUSE cause
    let s := (s.wr DMA_ENG.HALT_ADDR_LO_ADDR addr).wr DMA_ENG.HALT_ADDR_HI_ADDR (addr / 2 ^ 32)
    let s := s.raise Ev.DMA_ENG.engineHalt
    let s := s.cond final.isSome fun s => (s.wr DMA_ENG.ENG_STATUS_FINAL_BEAT 1).raise Ev.DMA_ENG.finalBeat
    let s := s.forEach (List.range 16) fun c s =>
      let x := s.dmaOf c
      if x.cur.isSome || !x.fetching.isEmpty then s.dmaFailed c (if final = some c then 5 else 1) else s
    s.dmaServiceHalt 15 (if final = some 15 then 5 else 1)

/-- A channel halts with its descriptor FAILED; the others continue; its write-back is a host
request, which needs the link (R392). -/
def State.channelHalt (s : State) (c err : Nat) : State :=
  let wb := match (s.dmaOf c).cur with | some d => d.wb | none => false
  let i := s.dmaHead c
  let s := s.dmaFailed c err
  let s := s.onDma c fun x => { x with cur := none, moved := 0, held := [], ahead := [] }
  let s := (s.raise Ev.DMA_ENG.channelHalt).dmaServiceHalt c err
  s.cond wb fun s =>
    if s.ringLocal c || s.linkUp then s.dmaWriteBack c i (2 + 16 * err) else s.engineHalt 4 (s.descrAt c i + 20) none

/-- Start a descriptor: an invalid one halts the channel (R385, R392). -/
def State.dmaStart (s : State) (c : Nat) (d : Descr) : State :=
  let s := s.onDma c fun x => { x with cur := some d, moved := 0, held := [] }
  if d.valid c then s.wr (DMA_ENG.REMAIN_BYTES c) d.len else s.channelHalt c 3

/-- Issue descriptor fetches, at most `n`: up to `PREFETCH` ahead of the one in progress, only between `HEAD` and `TAIL`
(R389). A request with the link down halts the engine (R392). -/
def State.dmaFetch (s : State) (c : Nat) : Nat → State
  | 0 => s
  | n + 1 =>
    let x := s.dmaOf c
    let used := bit x.cur.isSome + x.ahead.length + x.fetching.length
    if s.dmaLive c && decide (used < s.dmaPosted c ∧ used < min 4 (s.rd DMA_ENG.ENG_CFG_PREFETCH) + 1) then
      let i := (s.dmaHead c + used) % s.ringSize c
      let s' := s.onDma c fun x => { x with fetching := x.fetching ++ [i] }
      if s.linkUp then (s'.emit (.hostRead (s.descrAt c i) 32)).dmaFetch c n
      else (s'.engineHalt 4 (s.descrAt c i) none).onDma c fun x => { x with fetching := [] }
    else s

/-- Take the descriptor at `HEAD` from the descriptor memory; an unwritten word is uncorrectable (R384, R392, R408). -/
def State.dmaLocal (s : State) (c : Nat) : State :=
  if s.dmaLive c && (s.dmaOf c).cur.isNone && decide (s.dmaPosted c ≠ 0) then
    let a := s.descrAt c (s.dmaHead c)
    let w := (List.range 8).map fun k => s.tabWord (a + 4 * k)
    match w.findIdx? (·.isNone) with
    | some k => (s.unwrittenRead (a + 4 * k)).channelHalt c 2
    | none => s.dmaStart c (descrOf (s.dmaHead c) (w.map (·.getD 0)))
  else s

/-- Start a fetched descriptor where none is in progress. -/
def State.dmaNext (s : State) (c : Nat) : State :=
  let x := s.dmaOf c
  match x.cur, x.ahead with
  | none, d :: rest => if s.dmaLive c then (s.onDma c fun x => { x with ahead := rest }).dmaStart c d else s
  | _, _ => s

/-- Let a channel go on: start what is fetched, fetch more (R384, R389). -/
def State.dmaKick (s : State) (c : Nat) : State :=
  (if s.ringLocal c then s.dmaLocal c else (s.dmaNext c).dmaFetch c 5).dmaState c

/-- Whether a write to a field of the channel is the host's to a reserved channel (R383). -/
def reservedChannel (r : Requester) (c : Nat) : Bool := fromHost r && decide (14 ≤ c)

/-- `TAIL` written: dropped where it would reach `HEAD` from behind (R384). -/
def State.dmaTail (s : State) (r : Requester) (c tail : Nat) : State :=
  if reservedChannel r c then s.lockViol r 6 6 ((0x110 + 0x40 * c) / 4)
  else
    let t := tail % s.ringSize c
    if t = s.dmaHead c % s.ringSize c ∧ s.dmaPosted c ≠ 0 then s.raise Ev.DMA_ENG.doorbellDropped
    else (s.wr (DMA_ENG.TAIL_TAIL c) tail).dmaKick c

/-- `RUN` written (R384). -/
def State.dmaRun (s : State) (c : Nat) (b : Bool) : State :=
  let s := s.wrB (DMA_ENG.CH_CTRL_RUN c) b
  if b then s.dmaKick c else s.dmaState c

/-- `CH_RESET` written: the prefetch and the buffer go, `HEAD`, `TAIL` and the ring fields stay (R395). -/
def State.dmaReset (s : State) (c : Nat) : State :=
  let s := s.onDma c fun x => { DmaChan.init with bytes := x.bytes }
  let s := (s.wr (DMA_ENG.CH_STATUS_STATE c) 0).wr (DMA_ENG.CH_STATUS_ERR c) 0
  let s := (s.wr (DMA_ENG.CH_STATUS_FAILED c) 0).wr (DMA_ENG.REMAIN_BYTES c) 0
  s.dmaKick c

/-- `HALT_CLR` written: dropped while requests are outstanding (R395). -/
def State.dmaHaltClr (s : State) : State :=
  if s.dmaHalted && !s.dmaActive then
    let s := (s.wr DMA_ENG.ENG_STATUS_HALTED 0).wr DMA_ENG.ENG_STATUS_HALT_CAUSE 0
    (s.wr DMA_ENG.ENG_STATUS_FINAL_BEAT 0).forEach (List.range 16) fun c s => s.dmaKick c
  else s

/-- `ENABLE` written. -/
def State.dmaEnable (s : State) (b : Bool) : State :=
  let s := s.wrB DMA_ENG.ENG_CTRL_ENABLE b
  s.cond b fun s => s.forEach (List.range 16) fun c s => s.dmaKick c

/-- A host write to a channel field where the channel is reserved is dropped with cause 6 (R383, R478). -/
def State.dmaChannelWrite (s : State) (r : Requester) (c : Nat) (f : State → State) : State :=
  s.guarded r 6 (0x100 + 0x40 * c) fun s =>
    if reservedChannel r c then s.lockViol r 6 6 ((0x100 + 0x40 * c) / 4) else f s

/-- DMA_CHANNEL_RUN (R384). -/
def execDmaChannelRun (r : Requester) (c : Fin 16) (s : State) : Result :=
  .next (s.dmaChannelWrite r c.val fun s => s.dmaRun c.val true)

/-- DMA_DOORBELL (R384). -/
def execDmaDoorbell (r : Requester) (c : Fin 16) (tail : BitVec 15) (s : State) : Result :=
  .next (s.guarded r 6 (0x110 + 0x40 * c.val) fun s => s.dmaTail r c.val tail.toNat)

/-- HALT_CLR (R395). -/
def execHaltClr (r : Requester) (s : State) : Result := .next (s.guarded r 6 0x040 State.dmaHaltClr)

/-- CH_RESET (R395). -/
def execChReset (r : Requester) (c : Fin 16) (s : State) : Result :=
  .next (s.dmaChannelWrite r c.val fun s => s.dmaReset c.val)

end Sys2Proof.Machine
end

