-- ==== Sys2Proof/Machine/Mon.lean ====
section
/-! DEFINITION. The monitor converters, the sequencer, the filter chains, urgent conversions (R412 to R423). -/

namespace Sys2Proof.Machine

open F

def State.onMon (s : State) (f : MonState → MonState) : State := { s with mon := f s.mon }

/-- The monitor converters that are not quarantined (R415). -/
def State.monLeft (s : State) : List Nat := [0, 1].filter fun u => !(s.block .monConv).quarantine.contains u

/-- The converters can work: XREF is present and gating domain 26 is open (R412, R417, R321). -/
def State.monClocked (s : State) : Bool := s.on CK_SYN.SYN_STATUS_XREF_OK && !bitOf (s.rd CK_SYN.GATE_STATE_CLOSED) 26

/-- The sequencer runs (R414). -/
def State.monRuns (s : State) : Bool := s.on MON_SEQ.SEQ_CTRL_RUN && s.monClocked

/-- An entry with its settings in force; before the first round the committed ones. -/
def State.monEntry (s : State) (e : Nat) : MonEntry :=
  match s.mon.entries.find? fun x => x.1 == e with
  | some (_, x) => x
  | none => ⟨s.rdA (MON_SEQ.ENTRY_CH e), s.rdA (MON_SEQ.ENTRY_MODE e), s.rdA (MON_SEQ.ENTRY_CH2 e), []⟩

def State.setMonEntry (s : State) (e : Nat) (x : MonEntry) : State :=
  s.onMon fun m => { m with entries := Tab.insert m.entries e x }

/-- The value a code stands for: signed on the thermal channels, unsigned on the others (R413). -/
def codeValue (ch c : Nat) : Int := if ch < 24 then signed 16 c else (c % 65536 : Nat)

/-- Set or clear the `RES_VALID` bit of an entry. -/
def State.setResValid (s : State) (e : Nat) (v : Bool) : State :=
  s.wr MON_SEQ.RES_VALID_VALID (setBit (s.rd MON_SEQ.RES_VALID_VALID) e v)

/-! ### Bank swaps (R422) -/

/-- A `FSWAP` write with GO. -/
def State.filterSwap (s : State) (e : Nat) (bank : Bool) : State :=
  if s.on (MON_FILT.FSTAT_FADING e) then
    let s := s.raiseIf (s.on (MON_FILT.FSTAT_PENDING e)) Ev.MON_FILT.swapReplaced
    (s.wr (MON_FILT.FSTAT_PENDING e) 1).wrB (MON_FILT.FSTAT_PEND_BANK e) bank
  else if s.on (MON_FILT.FSTAT_ACTIVE e) == bank then s
  else (s.wr (MON_FILT.FSTAT_PENDING e) 1).wrB (MON_FILT.FSTAT_PEND_BANK e) bank

/-- A round at the fade of an entry: it starts, goes on, or ends at round 16. -/
def State.fadeRound (s : State) (e : Nat) : State :=
  if s.on (MON_FILT.FSTAT_FADING e) then
    let i := s.rd (MON_FILT.FSTAT_FADE_STEP e) + 1
    if i < 16 then s.wr (MON_FILT.FSTAT_FADE_STEP e) i
    else
      let bank := !s.on (MON_FILT.FSTAT_ACTIVE e)
      let s := ((s.wrB (MON_FILT.FSTAT_ACTIVE e) bank).wr (MON_FILT.FSTAT_FADING e) 0).wr (MON_FILT.FSTAT_FADE_STEP e) 0
      let s := s.raise Ev.MON_FILT.fadeDone
      if s.on (MON_FILT.FSTAT_PENDING e) && s.on (MON_FILT.FSTAT_PEND_BANK e) == bank then
        (s.wr (MON_FILT.FSTAT_PENDING e) 0).raise Ev.MON_FILT.swapReplaced
      else s
  else if s.on (MON_FILT.FSTAT_PENDING e) then
    ((s.wr (MON_FILT.FSTAT_PENDING e) 0).wr (MON_FILT.FSTAT_FADING e) 1).wr (MON_FILT.FSTAT_FADE_STEP e) 1
  else s

/-! ### Rounds (R414, R417, R422) -/

/-- An entry takes its committed settings at a round start; a change of CH or MODE restarts its filter histories. -/
def State.takeEntry (s : State) (e : Nat) : State :=
  let x := s.monEntry e
  let ch := s.rdA (MON_SEQ.ENTRY_CH e)
  let mode := s.rdA (MON_SEQ.ENTRY_MODE e)
  s.setMonEntry e ⟨ch, mode, s.rdA (MON_SEQ.ENTRY_CH2 e), if x.ch = ch ∧ x.mode = mode then x.chains else []⟩

/-- SEQ_ROUND_START (R414, R422). -/
def execSeqRoundStart (late : Bool) (s : State) : Result :=
  .next (
    if s.monRuns then
      let s := (s.bump MON_SEQ.SEQ_STATUS_ROUNDS).raiseIf late Ev.MON_SEQ.overrun
      let s := s.onMon fun m => { m with round := m.round + 1 }
      s.forEach (List.range 32) fun e s => (s.takeEntry e).fadeRound e
    else s)

/-! ### Filter chains (R418 to R421) -/

/-- The taps of a FIR response (R420). -/
def firTaps (sel : Nat) : Nat := match sel with | 0 => 1 | n => 2 ^ (n + 1) - 1

/-- The lower middle of the values present (R418). -/
def lowerMedian (l : List Int) : Int := (l.mergeSort fun a b => decide (a ≤ b)).getD ((l.length - 1) / 2) 0

/-- One input sample passes a chain (R418, R420, R421). A FIR response whose coefficients the specification does not give
yields its input where that has been constant over its taps, and a free value otherwise (log entry 1). -/
def State.chainStep (s : State) (c : Chain) (cfg idx ch : Nat) (x : Int) : State × Chain :=
  let med := (x :: c.med).take 5
  let m := if bitOf cfg 0 then lowerMedian med else x
  let k := min 10 (bits cfg 1 4)
  let n := 2 ^ k
  let c := { c with med := med }
  if bitOf cfg 8 then
    let start := decide (idx % n = 0)
    let sum := if start then m else c.sum + m
    let cnt := if start then 1 else c.count + 1
    let c := { c with sum := sum, count := cnt }
    if idx % n = n - 1 ∧ cnt = n then
      let (s, y) := s.divOpen sum n
      (s, { c with out := y })
    else (s, c)
  else if idx % n = 0 then
    let fir := (m :: c.fir).take 255
    let c := { c with fir := fir }
    let taps := firTaps (bits cfg 5 3)
    let h := fir.take taps
    if decide (taps = 1) || (decide (h.length = taps) && h.all fun v => v == m) then (s, { c with out := m })
    else (s.useFree, { c with out := codeValue ch (s.freeVal 16) })
  else (s, c)

/-- One input sample passes both banks' chains of a half; the output is the active bank's, or the cross-fade (R419,
R422). -/
def State.halfStep (s : State) (e half ch : Nat) (x : Int) : State × Int :=
  let idx := s.mon.round - 1
  let en := s.monEntry e
  let (s, c0) := s.chainStep (Tab.get Chain.init en.chains (2 * half)) (s.rd (MON_FILT.FCFG_BANK0 e)) idx ch x
  let (s, c1) := s.chainStep (Tab.get Chain.init en.chains (2 * half + 1)) (s.rd (MON_FILT.FCFG_BANK1 e)) idx ch x
  let s := s.setMonEntry e { en with chains := Tab.insert (Tab.insert en.chains (2 * half) c0) (2 * half + 1) c1 }
  let act := s.on (MON_FILT.FSTAT_ACTIVE e)
  let old := if act then c1.out else c0.out
  let new := if act then c0.out else c1.out
  if s.on (MON_FILT.FSTAT_FADING e) then
    let i : Int := s.rd (MON_FILT.FSTAT_FADE_STEP e)
    s.divOpen ((16 - i) * old + i * new) 16
  else (s, old)

/-- The alarm of an entry is judged on the chain's [15:0] output (R423). -/
def State.judgeAlarm (s : State) (e ch : Nat) (v : Int) : State :=
  let lo := s.rd (MON_FILT.ALARM_LO e)
  let hi := s.rd (MON_FILT.ALARM_HI e)
  let was := s.on (MON_FILT.FSTAT_ALM_LO e) || s.on (MON_FILT.FSTAT_ALM_HI e)
  let below := decide (lo ≠ hi ∧ v < codeValue ch lo)
  let above := decide (lo ≠ hi ∧ codeValue ch hi < v)
  let s := (s.wrB (MON_FILT.FSTAT_ALM_LO e) below).wrB (MON_FILT.FSTAT_ALM_HI e) above
  s.cond ((below || above) && !was) fun s => (s.count 18 (0x500 + 4 * e) 1).raise Ev.MON_FILT.alarm

/-- The values of an entry's conversion pass its chains into `RESULT[e]` (R414, R419). `b` is none where the entry has one
value; a check entry shows its value in both halves. -/
def State.takeResult (s : State) (e : Nat) (a : Int) (b : Option Int) : State :=
  let en := s.monEntry e
  let (s, va) := s.halfStep e 0 en.ch a
  let s := s.wrI (MON_SEQ.RESULT_VALUE_A e) va
  let s :=
    match b with
    | some b =>
      let (s, vb) := s.halfStep e 1 en.ch2 b
      s.wrI (MON_SEQ.RESULT_VALUE_B e) vb
    | none => if en.mode = 3 then s.wrI (MON_SEQ.RESULT_VALUE_B e) va else s.wr (MON_SEQ.RESULT_VALUE_B e) 0
  (s.setResValid e true).judgeAlarm e en.ch va

/-! ### Check entries (R415) -/

/-- A converter is LASTING; with none left no result is valid. -/
def State.monLasting (s : State) (u : Nat) : State :=
  let s := s.lasting .monConv u
  let s := s.wr MON_SEQ.SEQ_STATUS_CONV_OK (setBit (s.rd MON_SEQ.SEQ_STATUS_CONV_OK) u false)
  s.cond s.monLeft.isEmpty fun s => s.wr MON_SEQ.RES_VALID_VALID 0

/-- A pair of codes lies within `CHK_WIN`. -/
def State.inCheckWin (s : State) (a b : Int) : Bool := decide ((a - b).natAbs ≤ s.rd MON_SEQ.CHECK_CFG_CHK_WIN)

/-- A code of channel 31 is beyond `REF_TOL`. -/
def State.refBad (s : State) (c : Nat) : Bool := decide (s.rd MON_SEQ.CHECK_CFG_REF_TOL < ((c : Int) - 20000).natAbs)

/-- A check entry's conversion, with its retry and its reference slot (R415). -/
def State.checkEntry (s : State) (e ch : Nat) (x : ConvCodes) : State :=
  let a := codeValue ch x.a.toNat
  let b := codeValue ch x.b.toNat
  let ra := codeValue ch x.ra.toNat
  let rb := codeValue ch x.rb.toNat
  if s.inCheckWin a b then s.takeResult e ((a + b) / 2) none
  else if s.inCheckWin ra rb then
    ((s.transient .monConv).raise Ev.MON_SEQ.retry).takeResult e ((ra + rb) / 2) none
  else
    let bad := match s.monLeft with
      | [u] => if s.refBad x.refA.toNat then [u] else []
      | _ => (if s.refBad x.refA.toNat then [0] else []) ++ (if s.refBad x.refB.toNat then [1] else [])
    let s := s.setResValid e false
    if bad.isEmpty then s.raise Ev.MON_SEQ.disagreement else s.forEach bad fun u s => s.monLasting u

/-- The entry's work fits in its one slot: no second one of a lone converter, no retry (R414, R415). -/
def State.oneSlot (s : State) (e : Nat) (x : ConvCodes) : Bool :=
  let en := s.monEntry e
  decide (en.mode < 2) || (decide (s.monLeft.length = 2) &&
    (decide (en.mode = 2) || s.inCheckWin (codeValue en.ch x.a.toNat) (codeValue en.ch x.b.toNat)))

/-- CONVERSION_DONE (R414, R415, R419): also in the slot in which `RUN` is cleared, with which the round ends (R417). -/
def execConversionDone (e : Fin 32) (x : ConvCodes) (s : State) : Result :=
  .next (
    let going := s.monRuns || (s.mon.lastSlot && s.monClocked && s.oneSlot e.val x)
    let s := s.cond s.mon.lastSlot fun s => s.onMon fun m => { m with lastSlot := false }
    if going ∧ ¬ s.monLeft.isEmpty ∧ e.val ≤ s.rd MON_SEQ.SEQ_CTRL_LAST ∧ s.mon.round ≠ 0 then
      let en := s.monEntry e.val
      let both := decide (s.monLeft.length = 2)
      match en.mode with
      | 0 => s.takeResult e.val (codeValue en.ch x.a.toNat) none
      | 1 => s.takeResult e.val (codeValue en.ch (if both then x.b else x.a).toNat) none
      | 2 => s.takeResult e.val (codeValue en.ch x.a.toNat) (some (codeValue en.ch2 x.b.toNat))
      | _ => s.checkEntry e.val en.ch x
    else s)

/-! ### Urgent conversions (R416, R417) -/

/-- A `URG_REQ` write with GO. -/
def State.urgentRequest (s : State) (ch : Nat) (b : Bool) : State :=
  if s.on MON_SEQ.URG_RESULT_PENDING then s.raise Ev.MON_SEQ.urgentDropped
  else
    let u := if s.monLeft.contains (bit b) then bit b else 1 - bit b
    (s.wr MON_SEQ.URG_RESULT_PENDING 1).onMon fun m => { m with urgent := some (ch, u) }

/-- URGENT_CONVERSION_REQUEST (R416). -/
def execUrgentConversionRequest (r : Requester) (ch : BitVec 6) (b : Bool) (s : State) : Result :=
  .next (s.guarded r 17 0x050 fun s => s.urgentRequest ch.toNat b)

/-- An urgent conversion's code appears (R416). -/
def State.urgentDone (s : State) (code : Nat) : State :=
  let s := (s.wr MON_SEQ.URG_RESULT_VALUE code).wr MON_SEQ.URG_RESULT_DONE 1
  ((s.wr MON_SEQ.URG_RESULT_PENDING 0).onMon fun m => { m with urgent := none }).raise Ev.MON_SEQ.urgentDone

/-- URGENT_CONVERSION_DONE (R416). -/
def execUrgentConversionDone (code : BitVec 16) (s : State) : Result :=
  .next (
    if s.on MON_SEQ.URG_RESULT_PENDING ∧ s.monClocked ∧ ¬ s.monLeft.isEmpty then s.urgentDone code.toNat else s)

/-- FILTER_BANK_SWAP_REQUEST (R422). -/
def execFilterBankSwapRequest (r : Requester) (e : Fin 32) (bank : Bool) (s : State) : Result :=
  .next (s.guarded r 18 (0x044 + 0x10 * e.val) fun s => s.filterSwap e.val bank)

end Sys2Proof.Machine
end

