-- ==== Sys2Proof/Machine/Obs.lean ====
section
/-! DEFINITION. Event registers, MSI-X messages, latching reads, snapshots, trace delivery, page soft reset and freeze
(R441 to R464, R472, R473, R477). -/

namespace Sys2Proof.Machine

open F

/-! ### Events (R452 to R456) -/

/-- `EVT_STATUS` written (R452, R456): a 1 clears its bit; a summary that stays at 1 on a routed page sets its vector's
latch, which is an event. -/
def State.evtClear (s : State) (page b : Nat) : State :=
  let s := s.wr (HDR.EVT_STATUS_EVENTS page) (s.rd (HDR.EVT_STATUS_EVENTS page) &&& (0xFFFFFFFF ^^^ b))
  let s := s.cond (s.summary page && s.on (MG_OBS.PAGE_ROUTE_MSIX_EN page))
    fun s => (s.latchVec (s.routeVec page)).raiseRaw Ev.MG_OBS.latchByClear 1
  s.settleInt

/-- EVT_STATUS_CLEAR (R452). -/
def execEvtStatusClear (r : Requester) (page : Fin 47) (b : Word) (s : State) : Result :=
  .next (s.guarded r page.val 0x010 fun s => s.evtClear page.val b.toNat)

/-- `EVT_FORCE` written (R454): each named event's bit is set as the event would set it, without its counter. -/
def State.evtForceWrite (s : State) (page b : Nat) : State :=
  (s.forEach ((List.range 32).filter fun i => bitOf b i && bitOf (Ev.defined page) i) fun i s =>
    s.setStatus page i).settleInt

/-- EVT_FORCE (R454). -/
def execEvtForce (r : Requester) (page : Fin 47) (b : Word) (s : State) : Result :=
  .next (s.guarded r page.val 0x018 fun s => s.evtForceWrite page.val b.toNat)

/-- MSIX_MESSAGE_SEND (R456): sent when the latch is set, the link up, MSI-X enabled, the vector and the function
unmasked. -/
def execMsixMessageSend (v : Fin 64) (s : State) : Result :=
  .next (
    if s.msixLatch.contains v.val ∧ s.linkUp ∧ s.msixEnable ∧ ¬ s.msixFnMask ∧ ¬ bitOf (s.msixWord (4 * v.val + 3)) 0 then
      { s with msixLatch := s.msixLatch.filter (· != v.val) }.emit (.msix v.val)
    else s)

/-! ### Reads that latch or clear (R184, R357, R358, R443, R445, R477) -/

/-- A read of a word of a page. -/
def State.pageRead (s : State) (r : Requester) (page off : Nat) : State := State.answer r (s.busRead r (page * 4096 + off))

/-- COUNTER_LOW_READ (R443). -/
def execCounterLowRead (r : Requester) (page : Fin 47) (off : BitVec 12) (s : State) : Result :=
  .next (s.pageRead r page.val off.toNat)

/-- FLOW_COUNTER_READ (R445): the first word. SMBus reaches BAR0 only (R470). -/
def execFlowCounterRead (r : Requester) (idx : Fin 131072) (s : State) : Result :=
  .next (if r = .smbus then s else State.answer r (s.winRead r (flowCntWin + 8 * idx.val)))

/-- FLOW_WRAPPED_CLEAR (R445): a write of 1 to bit 48. -/
def execFlowWrappedClear (r : Requester) (idx : Fin 131072) (s : State) : Result :=
  .next (if r = .smbus ∨ s.clock.stopped then s else s.tableWrite r (flowCntWin + 8 * idx.val + 4) (2 ^ 16) 15)

/-- FC_TX_LO_READ (R184). -/
def execFcTxLoRead (r : Requester) (p : Port) (s : State) : Result := .next (s.pageRead r (19 + p.toNat) 0x05C)

/-- FC_RX_LO_READ (R184). -/
def execFcRxLoRead (r : Requester) (p : Port) (s : State) : Result := .next (s.pageRead r (19 + p.toNat) 0x064)

/-- TIME_NS_READ (R357). -/
def execTimeNsRead (r : Requester) (x : Fin 4) (t : Nat) (s : State) : Result :=
  .next ((s.toInstant t).pageRead r (11 + x.val) 0x070)

/-- PPS_IN_NS_READ (R358). -/
def execPpsInNsRead (r : Requester) (s : State) : Result := .next (s.pageRead r 15 0x048)

/-- RC_FIELD_READ (R477). -/
def execRcFieldRead (r : Requester) (f : RcField) (s : State) : Result :=
  .next (
    match f with
    | .storePeak p => s.pageRead r (38 + 8 * p.toNat) 0x050
    | .urgDone => s.pageRead r 17 0x054)

/-! ### Snapshots (R447 to R449) -/

/-- `SNAP_CTRL.GO` written (R449). The request notes AT_TICK at bit 0, FLOWS at bit 1, the capture at bit 2 and its requester
from bit 4. -/
def State.snapGo (s : State) (r : Requester) (atTick flows : Bool) : State :=
  if s.on MG_OBS.SNAP_STATUS_BUSY then (s.wr MG_OBS.SNAP_STATUS_RESULT 1).raise Ev.MG_OBS.snapRefused
  else
    let s := (s.wr MG_OBS.SNAP_STATUS_BUSY 1).wr MG_OBS.SNAP_STATUS_DONE 0
    let s := (s.wr MG_OBS.SNAP_STATUS_RESULT 0).bump MG_OBS.SNAP_STATUS_SEQ
    { s with snapReq := bit atTick + 2 * bit flows + 16 * r.toNat }

/-- SNAPSHOT_REQUEST (R449). -/
def execSnapshotRequest (r : Requester) (atTick flows : Bool) (s : State) : Result :=
  .next (s.guarded r 5 0x040 fun s => s.snapGo r atTick flows)

/-- A page is selected in `SNAP_PAGES`. -/
def State.snapSelected (s : State) (page : Nat) : Bool :=
  if page < 32 then bitOf (s.rd MG_OBS.SNAP_PAGES_LO_PAGES) page else bitOf (s.rd MG_OBS.SNAP_PAGES_HI_PAGES) (page - 32)

/-- The counters of the selected pages, by window offset (R447, R448). -/
def State.snapCounters (s : State) : Tab Nat :=
  (s.cnt.filter fun e => isCounter (e.1 / 4096) (e.1 % 4096) && s.snapSelected (e.1 / 4096)).map fun e =>
    (e.1 / 4096 * 0x2000 + 2 * (e.1 % 4096), e.2)

/-- The capture may take place: at the grant of arbiter 2, which grants nothing while frozen (R401), or with AT_TICK once a tick
boundary has passed (R449). -/
def State.snapReady (s : State) : Bool :=
  if bitOf s.snapReq 0 then bitOf s.snapReq 3 else !s.on (MG_MEM.ARB_CFG_FREEZE 2)

/-- A management tick passes for a snapshot that awaits one, its grant having been given (R401, R449). -/
def State.snapTick (s : State) : State :=
  s.cond (s.on MG_OBS.SNAP_STATUS_BUSY && !s.on (MG_MEM.ARB_CFG_FREEZE 2)) fun s => { s with snapReq := setBit s.snapReq 3 true }

/-- SNAPSHOT_CAPTURE (R447, R449): at one TCLK edge, with AT_TICK that of the tick. -/
def execSnapshotCapture (t : Nat) (s : State) : Result :=
  s.clocked <|
  .next (
    if s.on MG_OBS.SNAP_STATUS_BUSY ∧ ¬ bitOf s.snapReq 2 ∧ s.snapReady then
      let s := if bitOf s.snapReq 0 then s else s.toInstant t
      let b := s.tbAt (s.rd MG_OBS.SNAP_TB_TB_SEL) s.tclk
      let s := (s.wr MG_OBS.SNAP_TCLK_LO_TCLK s.tclk).wr MG_OBS.SNAP_TCLK_HI_TCLK (s.tclk / 2 ^ 32)
      let s := s.wr MG_OBS.SNAP_TICK_TICKS (s.rd MG_CTL.TICK_COUNT_TICKS)
      let s := (s.wr MG_OBS.SNAP_TIME_NS_NS (b.sub / nsU)).wr MG_OBS.SNAP_TIME_S_S b.sec
      { s with snapReq := setBit s.snapReq 2 true, snapCap := s.snapCounters,
               snapCapFlow := if bitOf s.snapReq 1 then s.flowCnt else [] }
    else s)

/-- SNAPSHOT_DRAIN_DONE (R447, R449). A control core's request drains into the shared SRAM at a place the specification does
not give, and never into the windows (log entry 54). -/
def execSnapshotDrainDone (s : State) : Result :=
  .next (
    if s.on MG_OBS.SNAP_STATUS_BUSY ∧ bitOf s.snapReq 2 then
      let q := s.snapReq / 16
      let core := decide (q = Requester.core0.toNat ∨ q = Requester.core1.toNat)
      let s := s.cond (!core) fun s =>
        { s with snapPage := s.snapCap, snapFlow := if bitOf s.snapReq 1 then s.snapCapFlow else s.snapFlow }
      let s := { s with snapReq := 0, snapCap := [], snapCapFlow := [] }
      ((s.wr MG_OBS.SNAP_STATUS_BUSY 0).wr MG_OBS.SNAP_STATUS_DONE 1).raise Ev.MG_OBS.snapDone
    else s)

/-! ### Eyespot records (R459, R462) -/

/-- The 128 bytes of a record (R459). -/
def Eyespot.bytes (e : Eyespot) : List Nat :=
  [if e.source < 2 then 1 else if e.source < 4 then 2 else 3, e.source] ++ le 2 e.seq ++ le 8 e.tagTclk ++ le 5 e.ss ++
    [e.index % 256] ++ le 2 e.block ++ le 4 e.flags ++ le 4 e.work ++ le 4 e.depth ++ (nineStamps e.stamps).flatMap (le 4) ++
    List.replicate 60 0

/-- The trace ring's size and base (R462, R463). -/
def State.traceSize (s : State) : Nat := 2 ^ s.traceLog2
def State.traceBase (s : State) : Nat :=
  s.rd MG_OBS.TRACE_RING_LO_BASE * 128 + s.rd MG_OBS.TRACE_RING_HI_BASE * 2 ^ 32

/-- TRACE_RECORD_DELIVER (R462): DMA channel 14 writes the oldest record, or drops it where the ring is full. A halted or
disabled engine, a channel that does not run, or a link that is down, lets it wait. -/
def execTraceRecordDeliver (s : State) : Result :=
  .next (
    match s.trace.buffer with
    | [] => s
    | e :: rest =>
      if !s.serviceRuns 14 || (s.serviceError 14).isSome then s
      else
        let s := s.onTrace fun t => { t with buffer := rest }
        let w := s.rd MG_OBS.TRACE_WR_WR % s.traceSize
        if (w + 1) % s.traceSize = s.rd MG_OBS.TRACE_RD_RD % s.traceSize then s.raise Ev.MG_OBS.ringFull
        else
          let s := s.serviceWrite 14 (s.traceBase + 128 * w) e.bytes
          (s.wr MG_OBS.TRACE_WR_WR ((w + 1) % s.traceSize)).raise Ev.MG_OBS.recordDelivered)

/-! ### Soft reset and freeze (R472, R473, R484) -/

/-- The fields that a soft reset puts back to their reset values (R484). -/
def softField (f : Field) : Bool := decide (f.acc = .rwLv ∨ f.acc = .rwLk ∨ f.acc = .rwSh)

/-- The header fields beside them that it resets (R484). -/
def softHeader (page : Nat) : List Field :=
  [ HDR.EVT_STATUS_EVENTS page, HDR.LOCK_VIOL_VIOL page, HDR.LOCK_VIOL_CAUSE page, HDR.LOCK_VIOL_MASTER page,
    HDR.LOCK_VIOL_LOCATION page, HDR.STAGE_STATUS_PENDING page, HDR.STAGE_STATUS_DONE page, HDR.STAGE_STATUS_EARLY page,
    HDR.STAGE_STATUS_RESULT page ]

/-- What `FREEZE` holds is let go. -/
def State.unfreeze (s : State) (page : Nat) : State :=
  { s with held := Tab.drop s.held fun k => decide (k ∈ ((blockFields page).map Field.key)) }.wr (HDR.CTRL_FREEZE page) 0

/-- An accepted soft reset (R472, R484): the page's requests end with RESULT 8, its fields take their reset values, its
active values and counters stay; it settles. -/
def State.softResetNow (s : State) (page : Nat) : State :=
  let own := s.pagePending page
  let s := (s.endRequests (pageGroups page) 8).unfreeze page
  let s := if 11 ≤ page ∧ page ≤ 14 then s.tbSettle (page - 11) else s
  -- the ring page lets its reports go, and a PLAN that becomes 0 advances SEQ (R249, R251)
  let s := s.cond (decide (page = 25)) fun s =>
    ((s.reportForce .E false).reportForce .W false).cond (decide (s.rd HB_RING.RPT_LOCAL_PLAN ≠ 0)) fun s => s.bump HB_RING.RPT_LOCAL_SEQ
  let s := s.forEach ((pageFields page).filter softField ++ softHeader page) fun f s => s.wr f f.reset
  let s := s.cond own fun s => s.wr (HDR.STAGE_STATUS_RESULT page) 8
  let s := s.cond (decide (page = 17)) fun s => s.onMon fun m => { m with round := 0 }
  { s with settling := addSorted s.settling page }.settleInt

/-- `SOFT_RESET` written (R472). -/
def State.softReset (s : State) (r : Requester) (page : Nat) : State :=
  if softResetOk page && !s.pageEnabled page then s.softResetNow page else s.lockViol r page 1 2

/-- PAGE_SOFT_RESET (R472). -/
def execPageSoftReset (r : Requester) (page : Fin 47) (s : State) : Result :=
  .next (s.guarded r page.val 0x008 fun s => s.softReset r page.val)

/-- SOFT_RESET_SETTLE_DONE (R472): within 16 cycles of the block clock, which must run. -/
def execSoftResetSettleDone (page : Fin 47) (s : State) : Result :=
  .next (
    if (rclkPage page.val && s.rclkStopped) || s.clock.stopped then s
    else { s with settling := s.settling.filter (· != page.val) })

/-- `FREEZE` set (R473): the read-only fields of the block keep their readback. A page already frozen stays as it is. -/
def State.freeze (s : State) (page : Nat) : State :=
  if s.on (HDR.CTRL_FREEZE page) then s
  else
    let h := ((blockFields page).filter freezable).foldl (fun h f => Tab.set 0 h f.key (s.liveField f)) s.held
    { s with held := h }.wr (HDR.CTRL_FREEZE page) 1

/-- PAGE_FREEZE (R473). -/
def execPageFreeze (r : Requester) (page : Fin 47) (s : State) : Result :=
  .next (s.guarded r page.val 0x008 fun s => s.freeze page.val)

/-- PAGE_FREEZE_EXPIRY (R473): 1.0 ms after it was set. -/
def execPageFreezeExpiry (page : Fin 47) (s : State) : Result := .next (s.unfreeze page.val)

end Sys2Proof.Machine
end

