-- ==== Sys2Proof/Machine/Power.lean ====
section
/-! DEFINITION. The calibration service's runs, the PMBus rails, adaptive voltage, the power cap and the thermal checks
(R424 to R435). -/

namespace Sys2Proof.Machine

open F

def State.onPower (s : State) (f : PowerState → PowerState) : State := { s with power := f s.power }

/-! ### Calibration tasks (R424 to R427) -/

/-- The task number a calibration detector serves. -/
def taskDetector (t : Nat) : Block := .calDetector (Port.ofBit t) (if t < 2 then 0 else 1)

/-- Every measured value lies within the plausibility limit of the correction in force (R426). -/
def State.taskPlausible (s : State) (t : Nat) (l : List Int) : Bool :=
  let lim := if t < 2 then s.rd PWR_MGR.CAL_SCHED_TXS_PLAUS else s.rd PWR_MGR.CAL_SCHED_CLKPH_PLAUS
  (List.range l.length).all fun i => decide ((l.getD i 0 - (s.taskOf t).corr.getD i 0).natAbs ≤ lim)

/-- The detector of a task failed twice: its spare takes over, or the correction is frozen (R426). -/
def State.detectorFail (s : State) (t : Nat) : State :=
  let b := taskDetector t
  let left := (s.block b).spares b
  let s := s.lasting b ((s.block b).unitAt 0)
  let s := s.taskBit PWR_MGR.CAL_STATE_SPARE_LEFT t false
  s.cond (decide (left = 0)) fun s => s.onTask t fun c => { c with frozen := true }

/-- CAL_TASK_RUN_END (R361, R425, R426), by the calibration service: the result, and that of the repeat which an implausible one
asks for. -/
def execCalTaskRunEnd (t : Fin 4) (first second : List Int) (s : State) : Result :=
  s.served <|
  .next (
    let t := t.val
    if bitOf (s.rd PWR_MGR.CAL_STATE_ACTIVE) t then
      let s :=
        if s.taskPlausible t first then s.onTask t fun c => { c with target := first }
        else
          let s := s.raise Ev.PWR_MGR.calImplausible
          if s.taskPlausible t second then (s.transient (taskDetector t)).onTask t fun c => { c with target := second }
          else s.detectorFail t
      let s := (s.taskBit PWR_MGR.CAL_STATE_ACTIVE t false).raise Ev.PWR_MGR.calCompleted
      if bitOf (s.rd PWR_MGR.CAL_STATE_PENDING) t then (s.taskBit PWR_MGR.CAL_STATE_PENDING t false).taskTrigger t else s
    else s)

/-- A correction moves towards its target by at most one step (R424). -/
def moveCorr (corr target : List Int) : List Int :=
  (List.range (max corr.length target.length)).map fun i =>
    corr.getD i 0 + clampInt (-1) 1 (target.getD i 0 - corr.getD i 0)

/-- The calibration service at a tick (R424, R425). -/
def State.taskTick (s : State) (t : Nat) : State :=
  let s := s.onTask t fun c => { c with corr := moveCorr c.corr c.target }
  let c := s.taskOf t
  let (now, n) := s.taskTemp t
  let delta : Int := clampNat 5 80 (s.rd PWR_MGR.CAL_SCHED_CAL_DELTA)
  if s.taskRuns t && (c.fresh || decide (128 * n * delta < 10 * (now - c.tRef).natAbs)) then s.taskTrigger t else s

/-! ### Rails (R428, R429) -/

/-- Where the PMBus transactions of a rail go (R428, R438). -/
def State.pmbusTo (s : State) (r : Nat) : PmbusTo :=
  ⟨s.rd (PWR_MGR.RAIL_CFG_ADDR r), s.rd (PWR_MGR.RAIL_CFG_PAGE r), s.on (PWR_MGR.RAIL_CFG_PEC r), s.on PWR_MGR.PMB_CFG_SPEED⟩

/-- A rail has been enabled: the exponent of its VOUT_MODE is read (R428). -/
def State.railEnabled (s : State) (r : Nat) : State :=
  let s := s.onPower fun w => { w with vexp := Tab.erase w.vexp r }
  s.cond (s.on PWR_MGR.PMB_CFG_ENABLE) fun s => s.emit (.pmbusRead (s.pmbusTo r) 0x20)

/-- A mantissa times a power of two, in millionths. -/
def linearMicro (mant exp : Int) : Int :=
  if 0 ≤ exp then mant * 1000000 * 2 ^ exp.toNat else mant * 1000000 / 2 ^ (-exp).toNat

/-- READ_VOUT in LINEAR16, with the exponent of VOUT_MODE, in µV, and READ_IOUT in LINEAR11, in µA (R428). -/
def railMicroVolts (x : RailRead) (vexp : Nat) : Nat := (linearMicro (x.vout.toNat : Nat) (signed 5 vexp)).toNat
def railMicroAmps (x : RailRead) : Nat :=
  (linearMicro (signed 11 (x.iout.toNat % 2048)) (signed 5 (x.iout.toNat / 2048))).toNat

/-- The voltage a code of a channel stands for, in µV (R413); the specification gives a thermal channel none, and a free
value stands for it. -/
def State.codeMicroVolts (s : State) (ch c : Nat) : State × Nat :=
  if ch < 24 then (s.useFree, s.freeVal 32) else (s, if ch < 32 then 50 * c else c * 1200000 / 65536)

/-- A rail's voltage, or current, comes from the sequencer: `V_SRC`, `I_SRC`; with no monitor converter left PMBus values
alone are used (R429, R434). -/
def State.fromSeq (s : State) (f : Field) : Bool := s.on f && !s.monLeft.isEmpty

/-- One enabled rail is read (R429). The exponent of VOUT_MODE is the one read when the rail was enabled (R428). -/
def State.railRead (s : State) (r : Nat) (x : Option RailRead) : State :=
  let seqV := s.fromSeq (PWR_MGR.RAIL_CFG_V_SRC r)
  let seqI := s.fromSeq (PWR_MGR.RAIL_CFG_I_SRC r)
  let ok := (seqV && seqI) || (match x with | some x => x.ok | none => false)
  if ok then
    let e := s.rd (PWR_MGR.RAIL_CFG_ENTRY r)
    let s := match x with
      | some x => s.cond (x.ok && !Tab.has s.power.vexp r) fun s => s.onPower fun w => { w with vexp := Tab.set 32 w.vexp r x.vexp.toNat }
      | none => s
    let (s, uv) :=
      if seqV then
        let (s, v) := s.codeMicroVolts (s.monEntry e).ch (s.rd (MON_SEQ.RESULT_VALUE_A e))
        (s, v * atLeast1 (s.rd (PWR_MGR.RAIL_SCALE_V_MUL r)))
      else (s, match x with | some x => railMicroVolts x (Tab.get 0 s.power.vexp r) | none => 0)
    let ua := if seqI then s.rd (MON_SEQ.RESULT_VALUE_B e) * s.rd (PWR_MGR.RAIL_SCALE_I_GAIN r)
              else match x with | some x => railMicroAmps x | none => 0
    let s := (s.wr (PWR_MGR.RAIL_SCALE_STALE r) 0).wr (PWR_MGR.RAIL_SCALE_LOST r) 0
    let s := (s.wr (PWR_MGR.RAIL_RD_VOUT r) (min 65535 (uv / 1000))).wr (PWR_MGR.RAIL_RD_IOUT r) (min 65535 (ua / 100000))
    s.onPower fun w => { w with stale := Tab.erase w.stale r, volts := Tab.set 0 w.volts r uv, amps := Tab.set 0 w.amps r ua }
  else
    let n := Tab.get 0 s.power.stale r + 1
    let s := (s.wr (PWR_MGR.RAIL_SCALE_STALE r) 1).raise Ev.PWR_MGR.railStale
    let s := s.onPower fun w => { w with stale := Tab.set 0 w.stale r (min 10 n) }
    if n = 10 ∧ ¬ s.on (PWR_MGR.RAIL_SCALE_LOST r) then (s.wr (PWR_MGR.RAIL_SCALE_LOST r) 1).raise Ev.PWR_MGR.railLost else s

/-- The enabled rails. -/
def State.railsOn (s : State) : List Nat := (List.range 16).filter fun r => s.on (PWR_MGR.RAIL_CFG_EN r)

/-- The power of a die in 10^−12 W, and whether a stale or lost rail is part of it (R429). -/
def State.diePower (s : State) (d : Nat) : Nat × Bool :=
  let l := s.railsOn.filter fun r => s.rd (PWR_MGR.RAIL_CFG_DIE r) == d
  ((l.map fun r => Tab.get 0 s.power.volts r * Tab.get 0 s.power.amps r).foldl (· + ·) 0,
    l.any fun r => s.on (PWR_MGR.RAIL_SCALE_STALE r) || s.on (PWR_MGR.RAIL_SCALE_LOST r))

/-- RAIL_READ (R429): the rails, the die powers, the package power. -/
def State.railTick (s : State) (reads : List RailRead) : State :=
  let s := s.forEach s.railsOn fun r s =>
    s.cond (s.on PWR_MGR.PMB_CFG_ENABLE || (s.fromSeq (PWR_MGR.RAIL_CFG_V_SRC r) && s.fromSeq (PWR_MGR.RAIL_CFG_I_SRC r))) fun s =>
      s.railRead r (reads.find? fun x => x.rail.val == r)
  let s := s.forEach (List.range 5) fun d s =>
    let w := s.diePower d
    (s.wr (PWR_MGR.DIE_POWER_POWER d) (min 65535 (w.1 / 10 ^ 10))).wrB (PWR_MGR.DIE_POWER_INCOMPLETE d) w.2
  let all := (List.range 5).map s.diePower
  let total := (all.map (·.1)).foldl (· + ·) 0 / 10 ^ 10
  let s := (s.wr PWR_MGR.PKG_POWER_POWER (min 65535 total)).wrB PWR_MGR.PKG_POWER_INCOMPLETE (all.any (·.2))
  s.onPower fun w => { w with window := (total :: w.window).take 64 }

/-- PMBUS_ALERT (R428): STATUS_WORD is read from every enabled rail. -/
def execPmbusAlert (s : State) : Result :=
  .next (
    let s := s.raise Ev.PWR_MGR.pmbAlert
    s.cond (s.on PWR_MGR.PMB_CFG_ENABLE) fun s => s.forEach s.railsOn fun r s => s.emit (.pmbusRead (s.pmbusTo r) 0x79))

/-! ### Adaptive voltage (R430) -/

/-- The rail that feeds the core supply (R430). -/
def State.avsRail (s : State) : Option Nat := s.railsOn.find? fun r => s.on (PWR_MGR.RAIL_CFG_AVS r)

/-- VOUT_COMMAND in 0.5 mV, before the first write the voltage last read from the rail (log entry 105). -/
def State.voutNow (s : State) : Nat :=
  if s.power.vout = 0 then match s.avsRail with | some r => Tab.get 0 s.power.volts r / 500 | none => 0 else s.power.vout

/-- Half millivolts in LINEAR16 with the exponent of the rail's VOUT_MODE, a free one where none has been read (R428). -/
def State.linear16 (s : State) (r v : Nat) : State × Int :=
  let e := signed 5 (if Tab.has s.power.vexp r then Tab.get 0 s.power.vexp r else s.freeVal 5)
  if 0 ≤ e then s.divOpen v (2000 * 2 ^ e.toNat) else s.divOpen (v * 2 ^ (-e).toNat) 2000

/-- Write VOUT_COMMAND, given in 0.5 mV, within `AVS_MIN` to `AVS_MAX`, on the rail that feeds the core supply, over the
enabled controller (R428, R430). -/
def State.setVout (s : State) (v : Nat) : State :=
  let v := clampNat (2 * s.rd PWR_MGR.AVS_CFG_AVS_MIN) (2 * s.rd PWR_MGR.AVS_CFG_AVS_MAX) v
  match s.avsRail with
  | none => s
  | some r =>
    if s.on PWR_MGR.PMB_CFG_ENABLE then
      let s := (s.wr PWR_MGR.AVS_STATUS_VOUT_MV (v / 2)).onPower fun w => { w with vout := v }
      let m := s.linear16 r v
      m.1.emit (.pmbus (s.pmbusTo r) 0x21 m.2.toNat)
    else s

/-- AVS_ADJUST (R430). -/
def State.avsTick (s : State) (slack : Int) : State :=
  let s := s.wrI PWR_MGR.AVS_STATUS_MIN_SLACK (clampInt (-128) 127 slack)
  if s.on PWR_MGR.AVS_CFG_AVS_EN && s.coreUp then
    if slack < s.rd PWR_MGR.AVS_MARGIN_AVS_LO then (s.setVout (s.voutNow + 10)).onPower fun w => { w with slackRun := 0 }
    else if (s.rd PWR_MGR.AVS_MARGIN_AVS_HI : Int) < slack then
      if s.power.slackRun = 15 then (s.setVout (s.voutNow - 5)).onPower fun w => { w with slackRun := 0 }
      else s.onPower fun w => { w with slackRun := w.slackRun + 1 }
    else s.onPower fun w => { w with slackRun := 0 }
  else s

/-- AVS_NEGATIVE_SLACK (R430): the fast raise, by hardware alone. -/
def execAvsNegativeSlack (s : State) : Result :=
  .next (
    if s.on PWR_MGR.AVS_CFG_AVS_EN then
      ((s.setVout (s.voutNow + 40)).onPower fun w => { w with slackRun := 0 }).raise Ev.PWR_MGR.avsRaise
    else s)

/-! ### The power cap (R433, R434) -/

/-- The NGMI threshold of a port at its effective ceiling, in thousandths; none for a ceiling that R141 does not list. -/
def State.ngmiThreshold (s : State) (p : Port) : Option Nat :=
  let base := 10 * (s.rxMode p).rate
  match s.ceiling p with
  | 16 => some (base + 18)
  | 12 => some (base + 20)
  | 8 => some (base + 23)
  | 6 => some (base + 27)
  | 4 => some (base + 35)
  | _ => none

/-- The NGMI margin of a port in 1/65,536,000; where R141 gives no threshold it rests on a free one (log entry 1). -/
def State.ngmiMargin (s : State) (p : Port) : State × Int :=
  match s.ngmiThreshold p with
  | some t => (s, 1000 * (s.rd (SPAN.NGMI_NGMI p) : Int) - 65536 * (t : Int))
  | none => (s.useFree, 1000 * (s.rd (SPAN.NGMI_NGMI p) : Int) - 65536 * (s.freeVal 10 : Int))

/-- The port with the larger margin (or the smaller one) among two; LINE-E where they are equal. -/
def State.marginPort (s : State) (larger : Bool) : State × Port :=
  let (s, e) := s.ngmiMargin .E
  let (s, w) := s.ngmiMargin .W
  (s, if (if larger then decide (e < w) else decide (w < e)) then .W else .E)

def State.capOf (s : State) (p : Port) : Nat := s.rd (FEC.ITER_CTL_CAP p)

/-- Start the deferred runs (R427). -/
def State.startDeferred (s : State) : State :=
  s.forEach (List.range 4) fun t s =>
    s.cond (bitOf (s.rd PWR_MGR.CAL_STATE_DEFERRED) t) fun s => (s.taskBit PWR_MGR.CAL_STATE_DEFERRED t false).taskTrigger t

/-- One measure is applied, in the order of R433. -/
def State.capMeasure (s : State) : State :=
  let low := fun (s : State) p => decide (s.capFloor p < s.capOf p)
  if low s .E || low s .W then
    let (s, p) := s.marginPort true
    let p := if low s p then p else p.other
    ((s.setCap p (s.capOf p - 1)).wr PWR_MGR.CAP_STATUS_STAGE (max 1 (s.rd PWR_MGR.CAP_STATUS_STAGE))).raise
      Ev.PWR_MGR.capLowered
  else if s.rd PWR_MGR.CAP_STATUS_STAGE < 2 then s.wr PWR_MGR.CAP_STATUS_STAGE 2
  else if s.on PWR_MGR.CAP_STATUS_CAP_UNMET then s
  else (s.wr PWR_MGR.CAP_STATUS_CAP_UNMET 1).raise Ev.PWR_MGR.capUnmet

/-- One measure is undone, in reverse order (R433). -/
def State.capUndo (s : State) : State :=
  if s.on PWR_MGR.CAP_STATUS_CAP_UNMET then s.wr PWR_MGR.CAP_STATUS_CAP_UNMET 0
  else if s.rd PWR_MGR.CAP_STATUS_STAGE = 2 then (s.wr PWR_MGR.CAP_STATUS_STAGE 1).startDeferred
  else
    let up := fun (s : State) p => decide (s.capOf p < 16)
    if up s .E || up s .W then
      let (s, p) := s.marginPort false
      let p := if up s p then p else p.other
      let s := (s.setCap p (s.capOf p + 1)).raise Ev.PWR_MGR.capRaised
      s.cond (!(up s .E || up s .W)) fun s => s.wr PWR_MGR.CAP_STATUS_STAGE 0
    else s.wr PWR_MGR.CAP_STATUS_STAGE 0

/-- POWER_CAP_MEASURE (R433, R434): a floor above CAP raises it; the mean package power is held against the cap. -/
def State.capTick (s : State) : State :=
  if !s.coreUp then s
  else
    let s := s.forEach [Port.E, Port.W] fun p s => s.cond (decide (s.capOf p < s.capFloor p)) fun s => s.setCap p (s.capFloor p)
    let cap := s.rd PWR_MGR.CAP_CFG_CAP_W
    let n := min (clampNat 1 64 (s.rd PWR_MGR.CAP_CFG_CAP_AVG)) s.power.window.length
    let sum := (s.power.window.take n).foldl (· + ·) 0
    if cap = 0 then (s.onPower fun w => { w with lowRun := 0 }).capUndo
    else if cap * 10 * n < sum then (s.onPower fun w => { w with lowRun := 0 }).capMeasure
    else if sum + s.rd PWR_MGR.CAP_CFG_CAP_HYST * 10 * n ≤ cap * 10 * n then
      let s := s.onPower fun w => { w with lowRun := min 8 (w.lowRun + 1) }
      s.cond (decide (s.power.lowRun = 8)) fun s => s.capUndo
    else s.onPower fun w => { w with lowRun := 0 }

/-! ### Temperatures (R413, R435) -/

/-- The value that an entry of the sequencer holds of a channel (R414). -/
def State.carried (s : State) (ch : Nat) : Option Int :=
  (List.range (s.rd MON_SEQ.SEQ_CTRL_LAST + 1)).findSome? fun e =>
    let x := s.monEntry e
    if !bitOf (s.rd MON_SEQ.RES_VALID_VALID) e then none
    else if x.ch = ch then some (signed 16 (s.rd (MON_SEQ.RESULT_VALUE_A e)))
    else if x.mode = 2 ∧ x.ch2 = ch then some (signed 16 (s.rd (MON_SEQ.RESULT_VALUE_B e)))
    else none

/-- The temperature of a channel is taken: from its entry, or by an urgent conversion of the power manager (R416, R435). -/
def State.takeTemp (s : State) (ch : Nat) (code : Int) : State :=
  let put := fun (s : State) (v : Int) =>
    s.onMon fun m => { m with temps := ((m.temps ++ List.replicate 24 0).take 24).set ch v }
  match s.carried ch with
  | some v => put s v
  | none =>
    if s.monLeft.isEmpty || !s.monClocked || !s.coreUp then s
    else if s.on MON_SEQ.URG_RESULT_PENDING then s.raise Ev.MON_SEQ.urgentDropped
    else (put s (signed 16 (unsigned 16 code))).urgentDone (unsigned 16 code)

/-- The die of a thermal channel, as `DIE_POWER` numbers dies (R413). -/
def tempDie (ch : Nat) : Nat := if ch < 8 then 0 else if ch < 16 then 1 else if ch < 20 then 2 else if ch < 22 then 3 else 4

/-- The hottest channel of a list. -/
def hottest (temps : List Int) (l : List Nat) : Nat :=
  l.foldl (fun best ch => if temps.getD best 0 < temps.getD ch 0 then ch else best) (l.headD 0)

/-- THERMAL_CHECK (R435, R434), by the power manager, a service of the control complex (R361); the temperatures of the
sequencer's entries come without it. -/
def State.thermalTick (s : State) (codes : List Int) : State :=
  let s := s.forEach (List.range 24) fun ch s => s.takeTemp ch (codes.getD ch 0)
  if !s.coreUp then s
  else if s.monLeft.isEmpty then (s.raiseIf (!s.on PWR_MGR.THERM_STATUS_HIGH) Ev.PWR_MGR.high).wr PWR_MGR.THERM_STATUS_HIGH 1
  else
    let temps := s.mon.temps
    let hot := hottest temps (List.range 24)
    let s := (s.wrI PWR_MGR.THERM_STATUS_T_MAX (clampInt (-128) 127 (temps.getD hot 0 / 128))).wr PWR_MGR.THERM_STATUS_HOT_DIE
      (tempDie hot)
    let run := fun (t : Tab Nat) (limit : Nat) => (List.range 5).foldl (fun t d =>
      let m := temps.getD (hottest temps ((List.range 24).filter fun ch => tempDie ch == d)) 0
      Tab.set 0 t d (if (128 * limit : Int) < m then min 3 (Tab.get 0 t d + 1) else 0)) t
    let s := s.onPower fun w => { w with hot := run w.hot (s.rd PWR_MGR.THERM_CFG_T_HIGH),
                                         crit := run w.crit (s.rd PWR_MGR.THERM_CFG_T_CRIT) }
    let high := (List.range 5).any fun d => Tab.get 0 s.power.hot d == 3
    let crit := (List.range 5).any fun d => Tab.get 0 s.power.crit d == 3
    let newCrit := crit && !s.on PWR_MGR.THERM_STATUS_CRIT
    let s := (s.raiseIf (high && !s.on PWR_MGR.THERM_STATUS_HIGH) Ev.PWR_MGR.high).wrB PWR_MGR.THERM_STATUS_HIGH high
    let s := (s.raiseIf newCrit Ev.PWR_MGR.crit).wrB PWR_MGR.THERM_STATUS_CRIT crit
    s.cond (newCrit && s.on PWR_MGR.THERM_CFG_THERM_ACT) fun s =>
      ((s.leaveRing 1).txEnableClear .E).txEnableClear .W

/-- The front-end temperature of a port as sampled at a tick, in 0.1 °C, and CAL_TEMPERATURE_TRIGGER (R72, R413). -/
def State.frontTempTick (s : State) (p : Port) : State :=
  let (sum, n) := s.taskTemp p.toNat
  let s := s.wrI (RXCONV.CAL_TEMP_T_NOW p) (10 * sum / (128 * n))
  let delta : Int := clampNat 5 80 (s.rd (RXCONV.CAL_CFG_TEMP_DELTA p))
  let diff := s.rdI (RXCONV.CAL_TEMP_T_NOW p) - s.rdI (RXCONV.CAL_STATUS_T_REF p)
  s.cond (decide (delta < diff.natAbs)) fun s => s.calRequest p

/-- ANALOG_READY (R432): the analogue parts of a domain are back 200 µs after its open, or after `GATE_UNUSED` has been cleared. -/
def execAnalogReady (d : Fin 26) (s : State) : Result :=
  .next (
    if bitOf (s.rd CK_SYN.GATE_STATE_CLOSED) d.val && s.on PWR_MGR.PWR_CFG_GATE_UNUSED then s
    else s.wr PWR_MGR.ANALOG_READY_READY (setBit (s.rd PWR_MGR.ANALOG_READY_READY) d.val true))

end Sys2Proof.Machine
end

