-- ==== Sys2Proof/Machine/Bus.lean ====
section
/-! DEFINITION. Register writes: access codes, locks, pending groups, and what each register's write does; the accesses of
SMBus and those that end with an error response (R383, R422, R465 to R478, R483). -/

namespace Sys2Proof.Machine

open F

/-! ### Storing fields (R475, R476, R483) -/

/-- Fields whose write is wholly what the owning chapter's own operation does; they are not stored here. -/
def managed (f : Field) : Bool :=
  if f.off < 0x040 then decide (f.off = 0x020 ∨ (f.off = 0x008 ∧ f.lsb = 2))
  else if 31 ≤ f.page then
    match lineKind f.page with
    | 0 => decide (f.off = 0x058 ∧ f.lsb = 0)
    | 2 => decide (f.off = 0x040 ∧ f.lsb = 0)
    | 3 => decide (f.off = 0x040 ∧ f.lsb = 7)
    | _ => false
  else
    match f.page with
    | 4 => decide (f.off < 0x090 ∧ f.off % 0x10 < 8)
    | 5 => decide (f.off = 0x088)
    | 6 => decide ((f.off = 0x040 ∨ (0x100 ≤ f.off ∧ f.off % 0x40 = 0)) ∧ f.lsb = 0) || decide (0x100 ≤ f.off ∧ f.off % 0x40 = 0x10)
    | 7 => decide (f.off = 0x05C)
    | 8 => decide (f.off = 0x100 ∧ (f.lsb = 1 ∨ f.lsb = 4))
    | 11 | 12 | 13 | 14 => decide (f.off = 0x058)
    | 25 => decide (f.off = 0x050 ∧ (f.lsb = 6 ∨ f.lsb = 7))
    | 27 => decide (f.off % 0x20 = 0 ∧ f.lsb = 0)
    | _ => false

/-- A bank of a filter entry that a write may not change: the active one at any time, both while a fade runs (R422). -/
def State.bankLocked (s : State) (f : Field) : Bool :=
  if f.page = 18 ∧ 0x040 ≤ f.off ∧ f.off % 0x10 = 0 then
    let e := (f.off - 0x040) / 0x10
    s.on (MON_FILT.FSTAT_FADING e) || (s.on (MON_FILT.FSTAT_ACTIVE e) == decide (f.lsb = 16))
  else false

/-- A staged field of a group with a pending eclosion (R483). -/
def State.pendingField (s : State) (f : Field) : Bool :=
  s.ecl.any fun e => (groupList e.2.groups).any fun g => (groupFields g).any fun x => x.key = f.key

/-- Store one field of a written word; `s0` is the state before the write, by which locks are judged (R476). A write that
would change a field that it may not is dropped for that field alone. -/
def State.storeField (s0 s : State) (r : Requester) (f : Field) (data : Nat) : State :=
  let v := bits data f.lsb f.width
  match f.acc with
  | .rwLv =>
    if managed f then s
    else if s0.bankLocked f then (if v = s.rd f then s else s.lockViol r f.page 6 (f.off / 4))
    else s.wr f v
  | .rwLk => if s0.fieldLocked f then (if v = s.rd f then s else s.lockViol r f.page 1 (f.off / 4)) else s.wr f v
  | .rwSh => if s0.pendingField f then (if v = s.rd f then s else s.lockViol r f.page 3 (f.off / 4)) else s.wr f v
  | _ => s

/-- Store the fields of a written word. -/
def State.storeWord (s0 s : State) (r : Requester) (page off data : Nat) : State :=
  s.forEach ((pageFields page).filter fun f => f.off = off) fun f s => s0.storeField s r f data

/-! ### What the write of a register does -/

/-- The registers of the common header (R452 to R456, R471 to R473, R481). -/
def State.headerEffect (s0 s : State) (r : Requester) (page off d : Nat) : State :=
  if off = 0x008 then
    let s := if bitOf d 2 then s.freeze page else if s.on (HDR.CTRL_FREEZE page) then s.unfreeze page else s
    s.cond (bitOf d 1) fun s => s.softReset r page
  else if off = 0x010 then s.evtClear page d
  else if off = 0x014 ∨ off = 0x01C then (State.edges s0 s page).settleInt
  else if off = 0x018 then s.evtForceWrite page d
  else if off = 0x020 then (s.mbxStageWrite r page).stageCtrl page (bits d 0 10) (bits d 10 3) (bits d 16 16) (bitOf d 13) (bitOf d 14)
  else if off = 0x028 then s.cond (bitOf d 0) fun s => s.wr (HDR.LOCK_VIOL_VIOL page) 0
  else s

/-- `TX_ENABLE` or `RX_ENABLE` written: it acts where it changes; a command that drives it ends in any case (R377). -/
def State.enableEdge (s0 s : State) (r : Requester) (p : Port) (f : Field) (d : Nat) (set clear : State → State) : State :=
  let s := s.mbxEnableWrite r p
  if s0.on f = bitOf d 0 then s else if bitOf d 0 then set s else clear s

/-- The registers of the line dies. -/
def State.lineEffect (s0 s : State) (r : Requester) (page off d : Nat) : State :=
  let p := linePort page
  match lineKind page with
  | 0 =>
    if off = 0x058 then
      let s := s0.enableEdge s r p (TX.TX_CTRL_TX_ENABLE p) d (fun s => s.txEnableSet p) (fun s => s.txEnableClear p)
      s.cond (bitOf d 1) fun s => s.forcePreamble p
    else if off < 0x04C then s.mbxGlideWrite r p else s
  | 2 =>
    if off = 0x040 then
      let s := s0.enableEdge s r p (RXFE.RX_CTRL_RX_ENABLE p) d (fun s => s.rxEnableSet p) (fun s => s.rxEnableClear p)
      (s.cond (bitOf d 1) fun s => s.forceReacq p).cond (bitOf d 2) fun s => s.calRequest p
    else if off = 0x044 ∨ off = 0x048 then s.mbxGlideWrite r p else s
  | 3 =>
    if off = 0x040 then
      if bitOf d 7 then (if s0.on (RXCONV.CAL_CFG_CAL_HOLD p) then s else s.calHold p)
      else s.wr (RXCONV.CAL_CFG_CAL_HOLD p) 0
    else s
  | 4 => s.cond (decide (off = 0x040) && bitOf d 0) fun s => s.regionReset p
  | 5 => s.cond (decide (off = 0x040)) fun s => s.mbxGlideWrite r p
  | _ => s

/-- `CH_CTRL`, `TAIL` and the other registers of a DMA channel (R383, R384, R395). -/
def State.dmaEffect (s0 s : State) (r : Requester) (off d : Nat) : State :=
  if off = 0x040 then
    let s := if s0.on DMA_ENG.ENG_CTRL_ENABLE = bitOf d 0 then s else s.dmaEnable (bitOf d 0)
    s.cond (bitOf d 1) State.dmaHaltClr
  else if 0x100 ≤ off ∧ off < 0x500 then
    let c := (off - 0x100) / 0x40
    if off % 0x40 = 0 then
      let s := (s.ticketsWritten 3).ticketsWritten 4
      let s := s.cond (bitOf d 1) fun s => s.dmaReset c
      if s0.on (DMA_ENG.CH_CTRL_RUN c) = bitOf d 0 then s else s.dmaRun c (bitOf d 0)
    else if off % 0x40 = 0x10 then s.dmaTail r c (d % 2 ^ 15)
    else s
  else s

/-- The registers of the control die. -/
def State.controlEffect (s0 s : State) (r : Requester) (page off d : Nat) : State :=
  match page with
  | 1 =>
    if off = 0x050 then s.cond (bitOf d 0) State.emergencyMoult
    else if off = 0x054 then s.nmiClear d else s
  | 2 | 3 =>
    let x := page - 2
    if off = 0x040 then s.doorbell x (bits d 0 16) (bits d 16 8) (bits d 24 8) []
    else if off = 0x044 then s.cond (bitOf d 1) fun s => s.wr (MG_MBX.MBX_STATUS_DONE x) 0
    else if off = 0x054 then s.cond (bitOf d 0) fun s => s.mbxAbort x else s
  | 4 =>
    if 0x040 ≤ off ∧ off < 0x090 then
      let a := (off - 0x040) / 0x10
      match off % 0x10 with
      | 0 => (s.arbModeWrite a (bitOf d 0)).arbFreezeWrite a (bitOf d 1)
      | 4 => s.arbSeedWrite a d
      | _ => s.ticketsWritten a
    else s
  | 5 =>
    if off = 0x040 then s.cond (bitOf d 0) fun s => s.snapGo r (bitOf d 1) (bitOf d 2)
    else if off = 0x088 then s.seedTrace d
    else if 0x0C0 ≤ off ∧ off < 0x1BC then s.settleInt else s
  | 6 => s0.dmaEffect s r off d
  | 7 =>
    if off = 0x048 then (s.judgeRestore s.clock.qualifiedMs).cond (bitOf d 8) State.returnNow
    else if off = 0x050 then s.gateRequest (bits d 0 5) (bitOf d 5)
    else if off = 0x05C then s.probeWrite d else s
  | 8 =>
    if off = 0x100 then
      if bitOf d 1 then
        (if s0.on CK_REF.SEL_CFG_FORCE_EN ∧ s0.rd CK_REF.SEL_CFG_FORCE_IDX = bits d 4 4 then s else s.forceRef (bits d 4 4))
      else (s.wr CK_REF.SEL_CFG_FORCE_EN 0).wr CK_REF.SEL_CFG_FORCE_IDX (bits d 4 4)
    -- LANE tells which lane a SYNCE input rests on (R325, R326)
    else if off = 0x0A0 then s.refJudge 6
    else if off = 0x0B0 then s.refJudge 7 else s
  | 9 => if off = 0x040 then s.buildOut else s
  | 11 | 12 | 13 | 14 =>
    let x := page - 11
    if off = 0x040 then (s.cond (bitOf d 1) fun s => s.stepTb x).cond (bitOf d 3) fun s => s.switchGm x
    else if off = 0x058 then s.setAdj x d else s
  | 15 => s.cond (decide (off = 0x054) && bitOf d 0) fun s => s.latchAll r s.tclk
  | 16 =>
    if off = 0x040 then
      -- the analogue parts of the domains that are closed lose their power (R432)
      s.cond (s.on PWR_MGR.PWR_CFG_GATE_UNUSED) fun s =>
        s.forEach ((List.range 26).filter fun d => bitOf (s.rd CK_SYN.GATE_STATE_CLOSED) d) fun d s =>
          s.wr PWR_MGR.ANALOG_READY_READY (setBit (s.rd PWR_MGR.ANALOG_READY_READY) d false)
    else if off = 0x078 then
      (s.cond (bitOf d 7) fun s => (s.taskHold 0).taskHold 1).cond (bitOf d 8) fun s => (s.taskHold 2).taskHold 3
    else if 0x0C0 ≤ off ∧ off < 0x140 ∧ off % 8 = 0 then
      let c := (off - 0x0C0) / 8
      s.cond (s.on (PWR_MGR.RAIL_CFG_EN c) && !s0.on (PWR_MGR.RAIL_CFG_EN c)) fun s => s.railEnabled c
    else s
  | 17 =>
    if off = 0x040 then
      let was := s0.on MON_SEQ.SEQ_CTRL_RUN
      let s := s.cond (s.on MON_SEQ.SEQ_CTRL_RUN && !was) fun s => s.onMon fun m => { m with round := 0, lastSlot := false }
      -- the round ends after its current slot (R417)
      s.cond (was && !s.on MON_SEQ.SEQ_CTRL_RUN) fun s => s.onMon fun m => { m with lastSlot := decide (m.round ≠ 0) }
    else s.cond (decide (off = 0x050) && bitOf d 7) fun s => s.urgentRequest (bits d 0 6) (bitOf d 6)
  | 18 => s.cond (decide (0x040 ≤ off ∧ off < 0x240 ∧ off % 0x10 = 4) && bitOf d 1) fun s =>
      s.filterSwap ((off - 0x040) / 0x10) (bitOf d 0)
  | _ => s

/-- A port's `CHTEST` written (R201, R203): a generator that is enabled, or whose pattern changes, starts from its seed; a
checker that is enabled aligns anew. -/
def State.chtestEdge (s0 s : State) (p : Port) : State :=
  let pat := s.rd (HB_SLOT.CHTEST_GEN_PAT p)
  let gen := s.on (HB_SLOT.CHTEST_GEN_EN p) && (!s0.on (HB_SLOT.CHTEST_GEN_EN p) || decide (pat ≠ s0.rd (HB_SLOT.CHTEST_GEN_PAT p)))
  let chk := s.on (HB_SLOT.CHTEST_CHK_EN p) && !s0.on (HB_SLOT.CHTEST_CHK_EN p)
  let s := s.cond gen fun s => { s with chtest := s.chtest.upd p fun t => { t with gen := patternSeed pat } }
  s.cond chk fun s =>
    { s with chtest := s.chtest.upd p fun t => { ChTest.init with gen := t.gen } }.wr (HB_SLOT.CHTEST_CHK_LOCK p) 0

/-- The registers of the hub. -/
def State.hubEffect (s0 s : State) (r : Requester) (page off d : Nat) : State :=
  match page with
  | 19 | 20 =>
    let p := Port.ofBit (page - 19)
    if off = 0x044 then
      (s.cond (decide (bits d 0 8 ≠ 0)) fun s => s.injectFaw p (bits d 0 8)).cond (decide (bits d 8 8 ≠ 0)) fun s =>
        s.injectFcs p (bits d 8 8)
    else if off = 0x070 then s.pmCfgWritten p (s0.on (HB_FRAME.PM_CFG_PM_EN p)) (s0.rd (HB_FRAME.PM_CFG_TB_SEL p))
    else s
  | 23 =>
    if off = 0x040 then (s.cond (bitOf d 0) fun s => s.swapRequest .E).cond (bitOf d 1) fun s => s.swapRequest .W
    else if off = 0x070 then s0.chtestEdge s .E
    else if off = 0x074 then s0.chtestEdge s .W else s
  | 24 => s.cond (decide (off = 0x058)) State.notePool
  | 25 =>
    if off = 0x044 then (if bitOf d 1 then s.leaveRing 1 else s.cond (bitOf d 0) State.emerge)
    else if off = 0x050 then
      -- SEQ advances as PLAN changes (R249)
      let s := s.cond (decide (s.rd HB_RING.RPT_LOCAL_PLAN ≠ s0.rd HB_RING.RPT_LOCAL_PLAN)) fun s => s.bump HB_RING.RPT_LOCAL_SEQ
      let s := if s0.on HB_RING.RPT_LOCAL_FORCE_E = bitOf d 6 then s else s.reportForce .E (bitOf d 6)
      if s0.on HB_RING.RPT_LOCAL_FORCE_W = bitOf d 7 then s else s.reportForce .W (bitOf d 7)
    else if off = 0x04C then
      s.rptCfgWritten (s0.on HB_RING.RPT_CFG_SD_EN) (s0.rd HB_RING.RPT_CFG_SD_TICKS)
    else s
  | 26 =>
    -- after DP_EN is set the current copy is the primary, and its selector measures anew (R246, R247)
    let c := (off - 0x040) / 4
    s.cond (decide (0x040 ≤ off ∧ off < 0x340) && s.on (HB_PROT.DP_CFG_DP_EN c) && !s0.on (HB_PROT.DP_CFG_DP_EN c)) fun s => s.selectorStart c
  | 27 =>
    if 0x040 ≤ off ∧ off < 0x340 then
      let n := (off - 0x040) / 0x20
      if off % 0x20 = 0 then
        let s := s0.laneRemode s n
        if bitOf d 0 then (if s0.on (HL_LANE.LANE_CFG_ENABLE n) then s else (s.wr (HL_LANE.LANE_CFG_ENABLE n) 0).laneEnable n)
        else (s.wr (HL_LANE.LANE_CFG_ENABLE n) (s0.rd (HL_LANE.LANE_CFG_ENABLE n))).laneDisable n
      else if off % 0x20 = 0x08 then
        -- without AUTO the peaking of `PEAK` is in force (R188)
        s.cond (!s.on (HL_LANE.RX_EQ_AUTO n)) fun s => s.wr (HL_LANE.RX_EQ_PEAK_USED n) (s.peak n)
      else if off % 0x20 = 0x10 then
        s0.prbsWritten s n (s0.on (HL_LANE.PRBS_CFG_GEN_EN n)) (s0.on (HL_LANE.PRBS_CFG_CHK_EN n)) (s0.rd (HL_LANE.PRBS_CFG_GEN_PAT n))
          (bits d 8 8)
      else s
    else s
  | 29 =>
    if off = 0x040 then
      s.keyCommand r (bits d 0 4) ⟨⟨d / 16 % 4, Nat.mod_lt _ (by decide)⟩, bitOf d 6, BitVec.ofNat 9 (d / 256), BitVec.ofNat 8 (d / 2 ^ 17)⟩
    else if off = 0x048 then s.cond (bitOf d 0) fun s => s.wr CY_KEY.KEK_CTRL_SEALED 1
    else if 0x050 ≤ off ∧ off < 0x0B8 then { s with wrapData := Tab.set 0 s.wrapData ((off - 0x050) / 4) (d % 2 ^ 32) }
    else s
  | 30 => s.cond (decide (off = 0x06C ∧ bits d 0 8 < 192)) fun s => s.resume (bits d 0 8)
  | _ => s

/-! ### One write by a requester -/

/-- A host write to a register of a reserved DMA channel (R383): only `TICKETS` is taken; a write that asks for more is a
violation with cause 6. -/
def State.reservedWrite (s : State) (r : Requester) (off d : Nat) : State :=
  let c := (off - 0x100) / 0x40
  if off % 0x40 = 0 then
    let same := !bitOf d 1 && ((blockFields 6).filter fun f => decide (f.off = off ∧ f.lsb ≠ 8 ∧ f.lsb ≠ 1)).all fun f =>
      decide (bits d f.lsb f.width = s.rd f)
    let s := ((s.wr (DMA_ENG.CH_CTRL_TICKETS c) (bits d 8 8)).ticketsWritten 3).ticketsWritten 4
    if same then s else s.lockViol r 6 6 (off / 4)
  else s.lockViol r 6 6 (off / 4)

/-- A write to a word of a page that its access reaches: the fields it may change are stored, then the register does what
its owning rule says. Counters, read-only and reserved fields ignore it (R441, R477). -/
def State.pageWrite (s : State) (r : Requester) (page off d : Nat) : State :=
  if page = 6 ∧ 0x480 ≤ off ∧ off < 0x500 ∧ fromHost r then s.reservedWrite r off d
  else
    let s' := s.storeWord s r page off d
    if off < 0x040 then s.headerEffect s' r page off d
    else if 31 ≤ page then s.lineEffect s' r page off d
    else if 19 ≤ page then s.hubEffect s' r page off d
    else s.controlEffect s' r page off d

/-- A word of the MSI-X table takes a value: the address is a multiple of 4, the vector control has its mask bit alone. -/
def State.msixWrite (s : State) (i d : Nat) : State :=
  let v := match i % 4 with | 0 => d / 4 * 4 % 2 ^ 32 | 3 => d % 2 | _ => d % 2 ^ 32
  { s with msixTable := Tab.set (if i % 4 = 3 then 1 else 0) s.msixTable i v }

/-- A 32-bit write to BAR0 and the cause of its error response, 0 where there is none (R466, R469, R470). A control clock
that has stopped answers nothing (R319). -/
def State.busWrite (s : State) (r : Requester) (off d : Nat) : State × Nat :=
  let off := off / 4 * 4
  if s.clock.stopped then (s, 0)
  else
    let c := if off < 0x2F000 then s.accessCause r (off / 4096) (off % 4096) true else if r = .smbus then 4 else 0
    if c ≠ 0 then (s.errorResponse ⟨r, false, BitVec.ofNat 24 off, true⟩ c, c)
    else if off < 0x2F000 then (s.pageWrite r (off / 4096) (off % 4096) d, 0)
    else if msixTableOff ≤ off ∧ off < msixTableOff + 1024 then (s.msixWrite ((off - msixTableOff) / 4) d, 0)
    else (s, 0)

/-- REGISTER_WRITE (R475): a write to any register of BAR0. -/
def execRegisterWrite (r : Requester) (off : BitVec 24) (data : Word) (s : State) : Result :=
  .next (s.busWrite r off.toNat data.toNat).1

/-- PARTIAL_BAR0_WRITE (R468): dropped, a violation with cause 5 on the page, counted on `MG_ID`. -/
def execPartialBar0Write (r : Requester) (off : BitVec 24) (s : State) : Result :=
  .next (
    let o := off.toNat
    if o < 0x2F000 then
      s.guarded r (o / 4096) (o % 4096 / 4 * 4) fun s =>
        (s.lockViol r (o / 4096) 5 (o % 4096 / 4)).raise Ev.MG_ID.partialWrite
    else if s.clock.stopped then s else s.raise Ev.MG_ID.partialWrite)

/-- ERROR_RESPONSE_ACCESS (R469): the access ends with one error response, recorded under the first of its causes. -/
def execErrorResponseAccess (a : BusAccess) (uncorrectable : Bool) (s : State) : Result :=
  .next (
    let o := a.offset.toNat
    let c := if a.bar2 || !decide (o < 0x2F000) then 0 else s.accessCause a.master (o / 4096) (o % 4096 / 4 * 4) a.write
    let ue := uncorrectable && !a.write
    if s.clock.stopped || (a.bar2 && decide (a.master = .smbus)) then s
    else
      let c := if c = 1 ∨ c = 2 then c else if ue then 3 else c
      let s := s.cond (decide (c = 3)) fun s => s.uncorrectable 5 (o / 64)
      if c = 0 then s
      else
        let s := s.errorResponse a c
        s.cond (!a.write) fun s => s.emit (.read a.master 0 true))

/-! ### SMBus (R470) -/

/-- SMBUS_READ: status and data, least significant byte first. -/
def execSmbusRead (off : BitVec 24) (t : Nat) (s : State) : Result :=
  .next (
    let x := (s.toInstant t).busRead .smbus off.toNat
    match x.2 with
    | .ok v => x.1.emit (.smbus (0 :: le 4 v))
    | .error 0 => x.1
    | .error _ => x.1.emit (.smbus [1, 0, 0, 0, 0]))

/-- SMBUS_WRITE: permitted to `MG_MBX1`, `MG_CTL` and `PWR_MGR`; its status waits for the next STATUS. -/
def execSmbusWrite (off : BitVec 24) (data : Word) (s : State) : Result :=
  .next (
    if s.clock.stopped then s
    else
      let x := s.busWrite .smbus off.toNat data.toNat
      { x.1 with smbLast := if x.2 = 0 then 0 else if x.2 = 4 then 2 else 1 })

/-- SMBUS_STATUS. -/
def execSmbusStatus (s : State) : Result := .next (if s.clock.stopped then s else s.emit (.smbus [s.smbLast]))

end Sys2Proof.Machine
end

