-- ==== Sys2Proof/Machine/Deframe.lean ====
section
/-! DEFINITION. The deframer: alignment, the validated frame counter, overhead acted on, Dvorrov cells received, loss of
frame (R163 to R177, R179, R215, R240, R250, R274). -/

namespace Sys2Proof.Machine

open F

/-- `FRM_CFG.FAW_TOL`, at most 4, and `SMC_PERSIST`, at least 1 (R184). -/
def State.fawTol (s : State) (p : Port) : Nat := min 4 (s.rd (HB_FRAME.FRM_CFG_FAW_TOL p))
def State.smcPersist (s : State) (p : Port) : Nat := max 1 (s.rd (HB_FRAME.FRM_CFG_SMC_PERSIST p))

/-! ### Alignment (R176, R177) -/

/-- In-frame is declared (R173, R176). Of the runs of good frames (R167) those of the acquisition request and of the slot map
outlast OOF, those of the bank bit and of the announcement begin anew: the model's choice (log entry 120). -/
def State.declareInFrame (s : State) (p : Port) : State :=
  let s := s.onFrame p fun f => { f with cands := [], loadFc := true, fcOther := none, posRx := s.tagPositions p, annCount := 0,
                                         bankRun := 0, itagHi := none, protHi := none, keyHi := none,
                                         lenRx := (s.rxMode p).frameLen }
  let s := (s.wr (HB_FRAME.FRM_STATUS_SYNC p) 1).wr (HB_FRAME.FRM_STATUS_OOF p) 0
  let s := (s.wr (HB_FRAME.FRM_STATUS_MISSES p) 0).wr (HB_FRAME.DVR_STATUS_UP p) 1
  (s.raise (Ev.HB_FRAME.inFrame p)).acquired p

/-- One position of the hunt: the candidates after it, and whether one is confirmed there. -/
def huntStep (len x : Nat) (found : Bool) (cands : List Nat) : List Nat × Bool :=
  if found && cands.any fun c => c + len == x then ([], true)
  else
    let l := cands.filter fun c => c + len != x
    (if found ∧ l.length < 8 then l ++ [x] else l, false)

/-- The hunt over positions of the stream from absolute position `base`: the candidates, and how many bits before the frame that
was confirmed, if one was; the first argument counts the positions. -/
def huntOver (len : Nat) : Nat → Nat → List Bool → List Nat → List Nat × Option Nat
  | 0, _, _, c => (c, none)
  | n + 1, base, bits, c =>
    let r := huntStep len base (decide (fieldAt bits 0 64 = fawWord)) c
    if r.2 then (r.1, some 0)
    else
      let q := huntOver len n (base + 1) (bits.drop 1) r.1
      (q.1, q.2.map (· + 1))

/-- Take bits off the stream of stage D6. -/
def State.takeStream (s : State) (p : Port) (n : Nat) : State := s.onFec p fun f => { f with line := f.line.drop n }

/-- The deframer hunts over up to `n` bits of the stream that have 63 bits after them (R176). A frame that is confirmed is the next
one taken. -/
def State.hunt (s : State) (p : Port) (n : Nat) : State :=
  let f := s.frame.get p
  let line := (s.fec.get p).line
  let n := min n (line.length - 63)
  let r := huntOver (s.rxMode p).frameLen n f.huntPos (line.map (·.bit)) f.cands
  match r.2 with
  | some k => (s.takeStream p k).declareInFrame p
  | none => (s.takeStream p n).onFrame p fun f => { f with huntPos := f.huntPos + n, cands := r.1 }

/-! ### Fields of good frames -/

/-- A run of good frames that agree with one value; answers the run. -/
def Run.next (r : Run) (v : Nat) : Run := if r.value = v then ⟨v, r.len + 1⟩ else ⟨v, 1⟩

/-- FLAGS: `FAR_ACQ_REQ` follows 3 consecutive good frames (R171). -/
def State.rxFlags (s : State) (p : Port) (flags : Nat) : State :=
  let r := (s.frame.get p).acqRun.next (bit (bitOf flags 5))
  let s := s.onFrame p fun f => { f with acqRun := ⟨r.value, min 3 r.len⟩ }
  s.cond (decide (3 ≤ r.len ∧ s.rd (HB_FRAME.FRM_STATUS_FAR_ACQ_REQ p) ≠ r.value)) fun s =>
    ((s.wr (HB_FRAME.FRM_STATUS_FAR_ACQ_REQ p) r.value).raise (Ev.HB_FRAME.farAcqReqChanged p)).raise
      (Ev.TX.farAcqReqChanged p)

/-- RDEI (R172, R180). -/
def State.rxRdei (s : State) (p : Port) (v : Nat) : State :=
  let rdi := bitOf v 7
  let s := s.cond (s.on (HB_FRAME.FRM_STATUS_RDI_RX p) != rdi) fun s =>
    (s.wrB (HB_FRAME.FRM_STATUS_RDI_RX p) rdi).raise (Ev.HB_FRAME.rdiChanged p)
  let s := s.wr (HB_FRAME.FRM_STATUS_RDI_CAUSE_RX p) (bits v 4 3)
  let s := s.raiseN (Ev.HB_FRAME.rei p) (v % 4)
  s.cond (s.on (HB_FRAME.PM_CFG_PM_EN p)) fun s =>
    s.onPm p.toNat fun e => { e with feb := e.feb + v % 4, fdefect := e.fdefect || rdi }

/-- SMAP: announcements are counted, and 3 good frames that disagree in BANK resynchronise the receive bank (R168). -/
def State.rxSmap (s : State) (p : Port) (v : Nat) : State :=
  let s := s.cond (bitOf v 6) fun s => s.onFrame p fun f => { f with annCount := f.annCount + 1 }
  let bank := bit (bitOf v 7)
  let run := if bank = s.rxBank p then 0 else (s.frame.get p).bankRun + 1
  if 3 ≤ run then
    (((s.onFrame p fun f => { f with bankRun := 0 }).wr (HB_FRAME.FRM_STATUS_RX_BANK p) bank).sideSwapped (2 * p.toNat + 1)).raise
      (Ev.HB_FRAME.resync p)
  else s.onFrame p fun f => { f with bankRun := run }

/-- The expected SMC of a port (R169). -/
def State.expectedSmc (s : State) (p : Port) : Nat := crc16 ((s.rxMap p).flatMap (bitsOf 16))

/-- SMC: SLOT_MAP_MISMATCH is declared and cleared after `SMC_PERSIST` good frames (R169). -/
def State.rxSmc (s : State) (p : Port) (v expected : Nat) : State :=
  let s := (s.wr (HB_FRAME.SMC_SMC_RX p) v).wr (HB_FRAME.SMC_SMC_EXP p) expected
  let differs := decide (v ≠ expected)
  let r := (s.frame.get p).smcRun.next (bit differs)
  let s := s.onFrame p fun f => { f with smcRun := ⟨r.value, min 255 r.len⟩ }
  let now := s.on (HB_FRAME.FRM_STATUS_SMC_MISMATCH p)
  let s := if differs == now || decide (r.len < s.smcPersist p) then s
    else if differs then (s.wr (HB_FRAME.FRM_STATUS_SMC_MISMATCH p) 1).raise (Ev.HB_FRAME.smmDeclared p)
    else (s.wr (HB_FRAME.FRM_STATUS_SMC_MISMATCH p) 0).raise (Ev.HB_FRAME.smmCleared p)
  s.cond (s.on (HB_FRAME.FRM_STATUS_SMC_MISMATCH p) || now) fun s => s.onPm p.toNat fun e => { e with smm := true }

/-- An entry of the ring vector received in frames 192 + 2n and 193 + 2n (R249). -/
def State.rxRingEntry (s : State) (p : Port) (n v : Nat) : State :=
  if s.isRing then { s with ring := { s.ring with recv := Tab.set 0 s.ring.recv (32 * p.toNat + n) v } } else s

/-- PROT, KEY and ITAG of a good frame with index `j`: first halves are kept, second halves complete a word (R170, R240,
R249, R274). -/
def State.rxWords (s : State) (p : Port) (j prot key itag : Nat) : State :=
  let f := s.frame.get p
  if j % 2 = 0 then
    s.onFrame p fun f => { f with protHi := some (j, prot), keyHi := some (j, key), itagHi := some (j, itag) }
  else
    match f.protHi, f.keyHi, f.itagHi with
    | some (a, hp), some (_, hk), some (_, ht) =>
      let s := s.onFrame p fun f => { f with protHi := none, keyHi := none, itagHi := none }
      if a + 1 ≠ j then s
      else if 192 ≤ j then s.rxRingEntry p ((j - 193) / 2) (hp * 2 ^ 32 + prot)
      else
        match f.posRx[j / 2]? with
        | none => s
        | some q =>
          let s := s.pathWordIn p q.lch (hp * 2 ^ 32 + prot)
          let s := s.keyWordIn p q.lch (hk * 2 ^ 32 + key)
          s.tagIn p q (ht * 2 ^ 64 + itag)
    | _, _, _ => s

/-- A frame that is not good loses the halves it carries: a tag that lay in it is counted (R167, R170). -/
def State.rxWordsLost (s : State) (p : Port) (j : Nat) : State :=
  let f := s.frame.get p
  let s := s.onFrame p fun f => { f with protHi := none, keyHi := none, itagHi := none }
  -- the pair is lost once: with its first frame, or with its second where the first was good
  let first := decide (j % 2 = 0) || (match f.itagHi with | some (a, _) => decide (a + 1 = j) | none => false)
  match f.posRx[j / 2]? with
  | some q =>
    s.raiseIf (first && decide (j < 192) && decide ((s.lineOf p q.lch).tagd ≠ 0) &&
      (match q.drop with | some ch => s.rxInteg (match s.dpCopy ch with | some (c, _) => c | none => ch) | none => false))
      Ev.CY_PIPE.tagsLost
  | none => s

/-! ### Dvorrov cells received (R174, R175) -/

/-- A message is complete: it awaits its service, or is discarded (R174, R175). -/
def State.dvComplete (s : State) (p : Port) (c : Nat) (m : List Nat) : State :=
  let n := m.length
  let body := m.take (n - 4)
  if 5 ≤ n ∧ n ≤ 2048 ∧ ofBytes (m.drop (n - 4)) = crc32 (byteBits body) then
    { s with dvInbox := s.dvInbox ++ [(p, c, body)] }
  else s.raise (Ev.HB_FRAME.dvDiscarded p)

/-- A cell of a good frame (R174, R175). A LEN above 23 is taken as 23, and the first cell of a class follows whatever its SEQ: the
model's choices, the specification saying nothing of either (log entry 119). -/
def State.rxCell (s : State) (p : Port) (cell : List Nat) : State :=
  let h := cell.headD 0
  let c := bits h 4 2
  if c = 0 then s
  else
    let d := s.dvOf p c
    let seq := bits h 1 3
    let follows := match d.seqRx with | some q => decide (seq = (q + 1) % 8) | none => true
    let start := bitOf h 7
    let abort := d.part.isSome && (!follows || start)
    let s := s.raiseIf abort (Ev.HB_FRAME.dvDiscarded p)
    let part := if start then some [] else if follows then d.part else none
    let s := s.onDv p c fun d => { d with seqRx := some seq, part := none }
    match part with
    | none => s
    | some m =>
      let m := m ++ (cell.drop 2).take (min 23 (cell.getD 1 0 % 32))
      if bitOf h 6 then s.dvComplete p c m
      else if 2048 < m.length then s.raise (Ev.HB_FRAME.dvDiscarded p)
      else s.onDv p c fun d => { d with part := some m }

/-- DVORROV_MESSAGE_RECEIVED (R175): the oldest complete message of a port is handed to the service of its class. -/
def execDvorrovMessageReceived (p : Port) (s : State) : Result :=
  s.clocked <|
  .next (
    match s.dvInbox.find? fun m => m.1 = p with
    | none => s
    | some (_, c, body) =>
      let s := { s with dvInbox := s.dvInbox.eraseP fun m => m.1 = p }
      (s.raise (Ev.HB_FRAME.dvReceived p)).emit (.dvorrov p c body))

/-! ### Concatenated channels (R215) -/

/-- The differential delay of a concatenated channel in ns: CONCAT_SKEW is declared beyond 2.0 ms and cleared after 1,000
consecutive frames within it. -/
def State.concatDelay (s : State) (ch : Nat) (skew : Int) : State :=
  let x := s.concatOf ch
  let big := decide (2000000 < skew.natAbs)
  let within := if big then 0 else x.within + 1
  let f := HB_SLOT.CONCAT_SKEW_DEFECT (ch / 32)
  let on := bitOf (s.rd f) (ch % 32)
  let s := s.onConcat ch fun x => { x with within := min 1000 within, skew := skew, both := true }
  if big && !on then
    ((s.wr f (setBit (s.rd f) (ch % 32) true)).onDrop ch fun d => d.endPacket true).raise Ev.HB_SLOT.concatSkew
  else if on && decide (1000 ≤ within) then
    (s.wr f (setBit (s.rd f) (ch % 32) false)).raise Ev.HB_SLOT.concatSkewCleared
  else s

/-- Frames without a counterpart whose arrival is kept: 65 ms (log entry 97). -/
def concatKept : Nat := 65536

/-- A frame with FC_RX `fc` whose first bit came at TCLK count `t` carries a part of a concatenated channel (R215): with its
counterpart there, the differential delay is measured, a TCLK cycle being 32/17 ns. -/
def State.concatArrive (s : State) (p : Port) (fc t ch : Nat) : State :=
  let x := s.concatOf ch
  match (if p = .E then x.westAt else x.eastAt).find? fun e => e.1 == fc with
  | some (_, u) =>
    let later := fun (l : List (Nat × Nat)) => l.filter fun e => u < e.2
    let s := s.onConcat ch fun x => if p = .E then { x with westAt := later x.westAt } else { x with eastAt := later x.eastAt }
    let d : Int := if p = .E then (u : Int) - t else (t : Int) - u
    let q := s.divOpen (32 * d) 17
    q.1.concatDelay ch q.2
  | none =>
    s.onConcat ch fun x =>
      if p = .E then { x with eastAt := ((fc, t) :: x.eastAt).take concatKept } else { x with westAt := ((fc, t) :: x.westAt).take concatKept }

/-! ### The frame (R167, R173, R176, R179) -/

/-- Bits in which two words of 64 bits differ. -/
def hamming64 (a b : Nat) : Nat := ((List.range 64).filter fun i => bitOf a i != bitOf b i).length

/-- The first frame of a received superframe (R168, R170, R173, R250). -/
def State.rxSuperframe (s : State) (p : Port) (atBoundary : Bool) : State :=
  let f := s.frame.get p
  let s := s.raiseIf (!atBoundary) (Ev.HB_FRAME.fcDiscontinuity p)
  let s := s.onFrame p fun f => { f with posRx := s.tagPositions p, annCount := 0 }
  let i := p.toNat
  let s := { s with ring := { s.ring with
    recvLast := (List.range 32).foldl (fun t n => Tab.set 0 t (32 * i + n) (Tab.get 0 s.ring.recv (32 * i + n))) s.ring.recvLast,
    recv := Tab.drop s.ring.recv fun k => k / 32 == i } }
  if 128 ≤ f.annCount then
    ((s.wr (HB_FRAME.FRM_STATUS_RX_BANK p) (1 - s.rxBank p)).sideSwapped (2 * p.toNat + 1)).raise (Ev.HB_FRAME.swapReceived p)
  else s

/-- The validated counter at a frame start (R173): it is loaded on entry to SYNC, and otherwise advances. The second of two good
frames whose FC agree with each other and not with it gives it its value, from that frame on. -/
def State.validateFc (s : State) (p : Port) (fc : Nat) (good : Bool) : State :=
  let f := s.frame.get p
  if f.loadFc then (s.onFrame p fun f => { f with fcRx := fc, loadFc := false }).judgeAgreed p fc
  else
    let next := (f.fcRx + 1) % 2 ^ 48
    let s := s.onFrame p fun f => { f with fcRx := next }
    if !good then s
    else if fc = next then s.onFrame p fun f => { f with fcOther := none }
    else if (match f.fcOther with | some a => decide (fc = (a + 1) % 2 ^ 48) | none => false) then
      (s.onFrame p fun f => { f with fcRx := fc, fcOther := none }).raise (Ev.HB_FRAME.fcDiscontinuity p)
    else s.onFrame p fun f => { f with fcOther := some fc }

/-- The channels a frame is an errored block of (R179): those of its drop slots, where its check sequence failed or one of the
slot's column bytes lies in an uncorrectable BCH block. -/
def State.erroredChans (s : State) (p : Port) (x : FrameIn) (n : Nat) (fcs : Bool) : List Nat :=
  let hit := fun (i : Nat) => (List.range 3126).any fun r =>
    let a := 512 + 8 * ((r + 1) * n + i)
    x.bad.any fun b => decide (b.1 < a + 8 ∧ a < b.2)
  distinct ((List.range (s.rxSlots p)).filterMap fun i =>
    let e := s.rxLive p i
    if e.kind = 1 ∧ (!fcs ∨ hit i) then some e.ch else none)

/-- Justification counts of a frame (R165, R186): over the receive slots in use, which the model chooses (log entry 93). -/
def State.countJust (s : State) (p : Port) (jcRow : List Nat) : State :=
  let used := (List.range (s.rxSlots p)).filter fun i => decide ((s.rxLive p i).kind ≠ 0)
  let jc := used.map fun i => jcRow.getD i 0
  let s := s.raiseN (Ev.HB_FRAME.jcUncorrectable p) (jc.filter fun b => jcMajority b = 3).length
  let s := s.raiseN (Ev.HB_FRAME.justPosRx p) (jc.filter fun b => jcUsed b = 1).length
  s.raiseN (Ev.HB_FRAME.justNegRx p) (jc.filter fun b => jcUsed b = 2).length

/-- The fields of a good frame at its end (R167). -/
def State.rxFields (s : State) (p : Port) (bits : List Bool) (expected : Nat) : State :=
  let j := (s.frame.get p).fcRx % 256
  let s := s.rxFlags p (fieldAt bits 112 8)
  let s := s.rxRdei p (fieldAt bits 120 8)
  let s := s.rxSmap p (fieldAt bits 128 8)
  let s := s.rxSmc p (fieldAt bits 144 16) expected
  let s := s.rxWords p j (fieldAt bits 160 32) (fieldAt bits 192 32) (fieldAt bits 224 64)
  s.rxCell p ((List.range 25).map fun i => fieldAt bits (288 + 8 * i) 8)

/-- A frame at the place where the deframer expects it, in SYNC, not the fourth miss (R167). -/
def State.rxFrame (s : State) (p : Port) (x : FrameIn) (miss : Bool) : State :=
  let bits := x.bits
  let n := (s.rxMode p).slots
  let len := bits.length
  let fcs := decide (ofBits (bits.drop (len - 32)) = crc32 ((bits.take (len - 32)).drop 64))
  let good := fcs && x.bad.isEmpty
  let s := s.validateFc p (fieldAt bits 64 48) good
  let fc := (s.frame.get p).fcRx
  let j := fc % 256
  let t := s.tagged (4 + p.toNat)
  let s := s.tag (4 + p.toNat) x.inst (fc / 256) j 0 (s.frameDepth p)
  -- FLAGS of the record: a FAW miss, a failed check sequence (R459)
  let s := s.cond t fun s => s.onFlight (4 + p.toNat) fun e => { e with flags := 2 ^ 17 * bit miss + 2 ^ 18 * bit !fcs }
  let s := s.cond (decide (j = 0)) fun s => s.rxSuperframe p x.atBoundary
  let rows := payloadRows bits n
  let s := s.countJust p (rows.headD [])
  let ref := if j < 192 ∧ j % 2 = 0 then (s.frame.get p).posRx[j / 2]? else none
  let s := match ref with | some q => s.onLine p q.lch fun l => { l with refPos := l.pos } | none => s
  let expected := s.expectedSmc p
  let s := s.forEach (s.rxPositions p) fun lch s => s.lineFrame p rows x n lch (miss || !fcs) miss
  let s := s.raiseIf ((s.rxPositions p).any (s.jcDiffers p rows x n)) Ev.HB_SLOT.jcMismatch
  let s := s.forEach ((s.portChannels p).filter s.chanConcat) fun ch s => s.concatArrive p fc x.inst.tclk ch
  -- the end of the frame
  let s := s.raiseIf (!fcs) (Ev.HB_FRAME.fcsFail p)
  let s := s.cond (miss || !good) fun s =>
    (s.erroredBlock p).forEach (s.erroredChans p x n fcs) fun ch s => s.chanErrored p ch
  if good then s.rxFields p bits expected else s.rxWordsLost p j

/-- Frames of a new length begin at the superframe boundary (R176). -/
def State.relength (s : State) (p : Port) : State :=
  let len := (s.rxMode p).frameLen
  if (s.frame.get p).lenRx = len then s
  else
    (s.onFec p fun f => { f with line := match f.line.findIdx? (·.first) with | some k => f.line.drop k | none => f.line }).onFrame
      p fun f => { f with lenRx := len }

/-- RECEIVED_FRAME (R167, R176): the deframer hunts over a stretch of the stream of stage D6, or takes its next frame once all of it
has come. The frame of the fourth miss is spent in OOF and counts in its microseconds alone, not as an errored block of its own: the
model's choice (R179; log entry 121). -/
def execReceivedFrame (p : Port) (x : RxFrame) (s : State) : Result :=
  s.clocked <|
  .next (
    if !s.on (FEC.SF_STATUS_SF_LOCK p) then s
    else if !s.on (HB_FRAME.FRM_STATUS_SYNC p) then s.hunt p x.stretch
    else
      let s := s.relength p
      let len := (s.rxMode p).frameLen
      let line := (s.fec.get p).line
      if line.length < len then s
      else
        let f := FrameIn.ofLine (line.take len) x
        let miss := decide (s.fawTol p < hamming64 (fieldAt f.bits 0 64) fawWord)
        let s := s.raiseIf miss (Ev.HB_FRAME.fawMiss p)
        if miss ∧ s.rd (HB_FRAME.FRM_STATUS_MISSES p) = 3 then (s.declareOof p).takeStream p 64
        else
          let s := s.wr (HB_FRAME.FRM_STATUS_MISSES p) (if miss then s.rd (HB_FRAME.FRM_STATUS_MISSES p) + 1 else 0)
          (s.takeStream p len).rxFrame p f miss)

/-- OOF_MICROSECOND (R179): a microsecond spent in OOF. -/
def execOofMicrosecond (p : Port) (s : State) : Result :=
  s.clocked <|
  .next (if s.on (HB_FRAME.FRM_STATUS_OOF p) then s.erroredBlock p else s)

/-- LOF_TIMER (R177, R88): 3 ms of OOF in ACQUIRED. The acquisition state machine leaves ACQUIRED. -/
def execLofTimer (p : Port) (s : State) : Result :=
  s.clocked <|
  .next (
    if s.acqSt p = acqAcquired ∧ s.on (HB_FRAME.FRM_STATUS_OOF p) then
      let s := if s.on (HB_FRAME.FRM_STATUS_LOF p) then s
        else (s.wr (HB_FRAME.FRM_STATUS_LOF p) 1).raise (Ev.HB_FRAME.lofDeclared p)
      let s := s.onPm p.toNat fun e => { e with defect := true }
      s.acqFrameLoss p
    else s)

/-- LOF_CLEAR_TIMER (R177): 3 ms of continuous SYNC. -/
def execLofClearTimer (p : Port) (s : State) : Result :=
  s.clocked <|
  .next (
    if s.on (HB_FRAME.FRM_STATUS_SYNC p) ∧ s.on (HB_FRAME.FRM_STATUS_LOF p) then
      ((s.wr (HB_FRAME.FRM_STATUS_LOF p) 0).raise (Ev.HB_FRAME.lofCleared p)).settleReport p
    else s)

end Sys2Proof.Machine
end

