-- ==== Sys2Proof/Machine/Dma.lean ====
section
/-! DEFINITION. DMA bursts: the draw that grants one, the device side of its data, completions, errors, and the end of a
descriptor (R386 to R396, R400). -/

namespace Sys2Proof.Machine

open F

/-! ### The device side (R386, R387) -/

/-- The bytes of an aligned word as delivered under SWAP (R387). -/
def swapBytes (swap : Nat) (b : List Nat) : List Nat :=
  match swap, b with
  | 1, [b0, b1, b2, b3] => [b3, b2, b1, b0]
  | 2, [b0, b1, b2, b3] => [b2, b3, b0, b1]
  | _, b => b

/-- A word read at a device address: its value, or the error of the channel (R386, R392). -/
def State.devRead (s : State) (dev : Nat) : State × Except Nat Nat :=
  if dev < 0x01000000 then
    match s.busRead .dma dev with
    | (s', .ok v) => (s', .ok v)
    | (s', .error _) => (s', .error 4)
  else if dev < 0x20000000 then
    match s.winRead .dma (dev - 0x10000000) with
    | (s', .ok v) => (s', .ok v)
    | (s', .error _) => (s', .error 2)
  else
    match Memory.readN s.sram (dev - 0x20000000) 4 with
    | some v => (s, .ok v)
    | none => (s.unwrittenRead (dev - 0x20000000), .error 2)

/-- `n` words from a device address on, in ascending order, up to the first error. -/
def State.devReads (s : State) (dev : Nat) : Nat → State × Except Nat (List Nat)
  | 0 => (s, .ok [])
  | n + 1 =>
    match s.devRead dev with
    | (s', .error e) => (s', .error e)
    | (s', .ok v) =>
      match s'.devReads (dev + 4) n with
      | (s'', .error e) => (s'', .error e)
      | (s'', .ok l) => (s'', .ok (v :: l))

/-- Write words from a device address on, in ascending order, up to the first error response (R386). -/
def State.devWrites (s : State) (dev : Nat) : List Nat → State × Bool
  | [] => (s, true)
  | v :: l =>
    if dev < 0x01000000 then
      match s.busWrite .dma dev v with
      | (s', 0) => s'.devWrites (dev + 4) l
      | (s', _) => (s', false)
    else if dev < 0x20000000 then (s.tableWrite .dma (dev - 0x10000000) v 15).devWrites (dev + 4) l
    else { s with sram := Memory.writeN s.sram (dev - 0x20000000) 4 v }.devWrites (dev + 4) l

/-- The words of little-endian bytes, SWAP applied to each. -/
def swapWords (swap : Nat) : List Nat → List Nat
  | b0 :: b1 :: b2 :: b3 :: l =>
    (swapBytes swap [b0, b1, b2, b3]).foldr (fun b v => b % 256 + 256 * v) 0 :: swapWords swap l
  | _ => []

/-- Bytes of its descriptor moved by a channel (R411). -/
def State.dmaBytes (s : State) (c n : Nat) : State := (s.onDma c fun x => { x with moved := x.moved + n }).countBytes c n

/-- Data of a host-to-device descriptor goes into the device (R386). -/
def State.dmaDeliver (s : State) (c : Nat) (d : Descr) (data : List Nat) : State :=
  match s.devWrites (d.dev + (s.dmaOf c).moved) (swapWords d.swap data) with
  | (s', true) => s'.dmaBytes c data.length
  | (s', false) => s'.channelHalt c 4

/-! ### Grants and bursts (R388, R391, R396, R400) -/

/-- A channel is ready for a grant: it has a descriptor with data left to ask for, or data it kept when pre-empted. -/
def State.dmaReady (s : State) (c : Nat) : Bool :=
  let x := s.dmaOf c
  s.dmaLive c && x.cur.isSome && decide (x.outstanding = 0 ∧ (x.held ≠ [] ∨ s.rd (DMA_ENG.REMAIN_BYTES c) ≠ 0))

/-- The channels of a class that are ready. -/
def State.dmaAskers (s : State) (high : Bool) : List Nat :=
  (List.range 16).filter fun c => (s.dmaHigh c == high) && s.dmaReady c

/-- The length of a channel's burst, the data of its next host request: at most 512 bytes to read, at most `Max_Payload_Size` to
write, never across a 4 KiB boundary (R388, R396, log entry 55). -/
def State.burstLen (s : State) (c : Nat) (d : Descr) : Nat :=
  let left := s.rd (DMA_ENG.REMAIN_BYTES c)
  let addr := d.host + d.len - left
  min left (min (if d.toHost then s.payload else 512) (4096 - addr % 4096))

/-- Beats of a device-to-host burst: the next `n` bytes are read from the device into the channel's buffer; once the burst is
whole it is written to the host (R391, R396). -/
def State.dmaToHost (s : State) (c : Nat) (d : Descr) (n : Nat) : State :=
  let x := s.dmaOf c
  match s.devReads (d.dev + x.moved + x.held.length) (n / 4) with
  | (s', .error e) => s'.channelHalt c e
  | (s', .ok ws) =>
    let data := x.held ++ ws.flatMap fun w => swapBytes d.swap (le 4 w)
    let left := s'.rd (DMA_ENG.REMAIN_BYTES c)
    let addr := d.host + d.len - left
    let burst := s'.burstLen c d
    if data.length < burst then (s'.onDma c fun x => { x with held := data }).dmaState c
    else
      let s' := (s'.onDma c fun x => { x with held := [] }).wr (DMA_ENG.REMAIN_BYTES c) (left - burst)
      if s'.linkUp then ((s'.emit (.host addr data)).dmaBytes c burst).dmaState c
      else s'.engineHalt 4 addr (if burst = left then some c else none)

/-- The granted beats of a channel's burst (R391, R396): the request for its data, or data that its buffer holds, or data from the
device. -/
def State.dmaBurst (s : State) (c beats : Nat) : State :=
  let x := s.dmaOf c
  match x.cur with
  | none => s
  | some d =>
    if d.toHost then s.dmaToHost c d (min (32 * beats) (s.burstLen c d - x.held.length))
    else if x.held ≠ [] then
      ((s.onDma c fun x => { x with held := x.held.drop (32 * beats) }).dmaDeliver c d (x.held.take (32 * beats))).dmaState c
    else
      let left := s.rd (DMA_ENG.REMAIN_BYTES c)
      let addr := d.host + d.len - left
      let n := s.burstLen c d
      let s := s.wr (DMA_ENG.REMAIN_BYTES c) (left - n)
      if s.linkUp then ((s.emit (.hostRead addr n)).onDma c fun x => { x with outstanding := n, request := addr }).dmaState c
      else s.engineHalt 4 addr (if n = left then some c else none)

/-- The beats of a channel's burst that are still to move, one MCLK and 32 bytes each (R396). -/
def State.burstBeats (s : State) (c : Nat) : Nat :=
  let x := s.dmaOf c
  match x.cur with
  | some d => ((if d.toHost then s.burstLen c d - x.held.length else if x.held ≠ [] then x.held.length else s.burstLen c d) + 31) / 32
  | none => 0

/-- A grant moves beats of the channel's burst, and is not the request for its data. -/
def State.dmaMoves (s : State) (c : Nat) : Bool :=
  let x := s.dmaOf c
  match x.cur with
  | some d => d.toHost || !x.held.isEmpty
  | none => false

/-- The beats that a grant moves (R396, R400): one where its arbiter draws before every beat; of a low channel as many as pass
before a high channel takes the next beat, `len`; else the whole burst. -/
def State.grantBeats (s : State) (c len : Nat) : Nat :=
  if s.dmaPerBeat c then 1
  else if s.dmaHigh c || !s.dmaMoves c then s.burstBeats c
  else min (max 1 len) (s.burstBeats c)

/-- ARBITER_DRAW (R398): one access of `len` MCLK among the askers. Arbiters 3 and 4 draw among the DMA channels that are
ready, and a low channel waits while a high one is (R396). A low channel's burst that a high channel interrupts is pre-empted after
`len` beats, keeps its buffer and goes on at the beat where it stopped. -/
def execArbiterDraw (a : Fin 5) (askers : BitVec 6) (len : Nat) (s : State) : Result :=
  .next (
    if s.clock.stopped then s
    else if a.val < 3 then (s.draw a.val ((List.range (arbRequesters a.val)).filter (bitOf askers.toNat)) fun _ => len).1
    else
      let high := s.dmaAskers true
      let l := if a.val = 3 then high else if high.isEmpty then s.dmaAskers false else []
      match s.draw a.val l (fun c => s.grantBeats c len) with
      | (s', some c) =>
        let n := s'.grantBeats c len
        let cut := !s'.dmaPerBeat c && decide (n < s'.burstBeats c)
        (s'.cond cut fun s => s.count 6 (0x908 + 0x10 * c) 1).dmaBurst c n
      | (s', none) => s')

/-! ### Completions (R389, R391 to R394, R396) -/

/-- A request of a channel fails: the engine halts, on the last beat with the channel's descriptor as the final one (R393,
R394). A request that has already failed with the engine is only drained. -/
def State.dmaRequestFails (s : State) (c : Nat) (desc : Bool) (cause : Nat) : State :=
  let x := s.dmaOf c
  if desc then
    match x.fetching with
    | [] => s
    | i :: rest => (s.engineHalt cause (s.descrAt c i) none).onDma c fun x => { x with fetching := rest }
  else if x.outstanding = 0 then s
  else
    let final := if s.rd (DMA_ENG.REMAIN_BYTES c) = 0 then some c else none
    (s.engineHalt cause x.request final).onDma c fun x => { x with outstanding := 0 }

/-- A descriptor arrives (R389). -/
def State.dmaDescrData (s : State) (c : Nat) (bytes : List Nat) : State :=
  match (s.dmaOf c).fetching with
  | [] => s
  | i :: rest =>
    let s := s.onDma c fun x => { x with fetching := rest }
    if s.dmaHalted || decide (s.rd (DMA_ENG.CH_STATUS_STATE c) = 4) then s
    else (s.onDma c fun x => { x with ahead := x.ahead ++ [descrOf i (swapWords 0 bytes)] }).dmaKick c

/-- Data arrives (R391, R396, R400): into the device, or kept where a high channel takes the next beat or each beat awaits its
draw. -/
def State.dmaData (s : State) (c : Nat) (bytes : List Nat) : State :=
  let x := s.dmaOf c
  let n := min x.outstanding bytes.length / 4 * 4
  let data := bytes.take n
  let s := s.onDma c fun x => { x with outstanding := x.outstanding - n }
  match x.cur with
  | none => s
  | some d =>
    if n = 0 ∨ s.dmaHalted then s
    else if s.dmaPerBeat c ∨ ¬ s.dmaHigh c ∧ (x.held ≠ [] ∨ ¬ (s.dmaAskers true).isEmpty) then
      let s := s.cond (x.held.isEmpty && !s.dmaPerBeat c) fun s => s.count 6 (0x908 + 0x10 * c) 1
      (s.onDma c fun x => { x with held := x.held ++ data }).dmaState c
    else (s.dmaDeliver c d data).dmaState c

/-- DMA_READ_COMPLETION (R391, R392): of a descriptor or of data. -/
def execDmaReadCompletion (c : Fin 16) (desc : Bool) (x : HostCpl) (s : State) : Result :=
  .next (
    if s.clock.stopped then s
    else
      match x with
      | .error e => s.dmaRequestFails c.val desc (if e.val = 3 ∨ e.val = 4 then e.val else 1)
      | .data bytes =>
        let b := bytes.map (·.toNat)
        if desc then s.dmaDescrData c.val b else s.dmaData c.val b)

/-- DMA_COMPLETION_TIMEOUT (R392): no completion within `CPL_TO`. -/
def execDmaCompletionTimeout (c : Fin 16) (desc : Bool) (s : State) : Result :=
  .next (if s.clock.stopped then s else s.dmaRequestFails c.val desc 2)

/-- The descriptor in progress is complete (R391). -/
def State.dmaComplete (s : State) (c : Nat) : Bool :=
  let x := s.dmaOf c
  s.dmaLive c && x.cur.isSome && decide (s.rd (DMA_ENG.REMAIN_BYTES c) = 0 ∧ x.outstanding = 0 ∧ x.held = [])

/-- DMA_DESCRIPTOR_DONE (R390, R391): write-back, completion event, then `HEAD` advances. -/
def execDmaDescriptorDone (c : Fin 16) (s : State) : Result :=
  .next (
    match (s.dmaOf c.val).cur with
    | none => s
    | some d =>
      let c := c.val
      if s.clock.stopped || !s.dmaComplete c then s
      else if d.wb ∧ ¬ s.ringLocal c ∧ ¬ s.linkUp then s.engineHalt 4 (s.descrAt c (s.dmaHead c) + 20) (some c)
      else
        let s := s.cond d.wb fun s => s.dmaWriteBack c (s.dmaHead c) 1
        let s := s.count 6 (0x900 + 0x10 * c) 1
        let s := s.raiseIf d.irq (Ev.DMA_ENG.completion c)
        let s := s.wr (DMA_ENG.HEAD_HEAD c) ((s.dmaHead c + 1) % s.ringSize c)
        (s.onDma c fun x => { x with cur := none, moved := 0 }).dmaKick c)

end Sys2Proof.Machine
end

