-- ==== Sys2Proof/Machine/Mem.lean ====
section
/-! DEFINITION. Memory protection: a line whose CRC fails, the page decode, uncorrectable reads, the scrub (R404 to R407). -/

namespace Sys2Proof.Machine

open F

/-- The page on which a memory line counts: the stores of the control die on `MG_MEM`, others on their owner's (R450). -/
def memPage (f : MemFault) : Nat := if f.store.val < 5 then 4 else f.owner.val

/-- A memory line is EXHAUSTED: no spare row is left for it (R404, R450). -/
def State.lineExhausted (s : State) (page : Nat) : State :=
  let s := s.count page (exhaustedOff page) 1
  match (pageBlocks page).head?.bind Block.exhaustedEvt with
  | some e => s.raise e
  | none => ((s.wr MG_CTL.NMI_CAUSE_EXHAUSTED 1).wr MG_CTL.NMI_PAGE_PAGE page).latchVec 0

/-- What the row of a memory line is kept under once it is retired: the page of the line's owner and the line (R20, R404). -/
def rowKey (f : MemFault) : Nat := memPage f * 2 ^ 24 + f.index.toNat

/-- A memory line is LASTING: its content moves and its row is retired to a spare row or remapped, or it is EXHAUSTED without
one, and in HBM3E its storage is withdrawn (R26, R248, R404, R411, R450). The row is recorded, as every quarantined unit (R20).
-/
def State.lineLasting (s : State) (f : MemFault) : State :=
  let page := memPage f
  let s := s.count page (lastingOff page) 1
  let s := s.raiseOpt ((pageBlocks page).head?.bind Block.lastingEvt)
  let s := s.raise Ev.MG_MEM.lineLasting
  let s := { s with mem := { s.mem with retired := addSorted s.mem.retired (rowKey f) } }
  if f.spareRow then s
  else
    let s := s.lineExhausted page
    match f.deskew with
    | some chs => s.withdrawHbm page f.index.toNat (chs.map (·.val))
    | none => s

/-- A memory line is TRANSIENT. -/
def State.lineTransient (s : State) (page : Nat) : State :=
  (s.count page (transientOff page) 1).raise Ev.MG_MEM.lineTransient

/-- What an uncorrectable read does to its reader (R407). -/
def State.uncorrectableRead (s : State) (f : MemFault) (who : MemReader) : State :=
  match who with
  | .fetch => (s.raise Ev.MG_CTL.ueFetch).emergencyMoult
  | .load => if s.coreSt (1 - s.activeCore) = 2 then s else s.emergencyMoult
  | .dma c => if s.dmaLive c.val && (s.dmaOf c.val).cur.isSome then s.channelHalt c.val 2 else s
  | .host a => (s.errorResponse a 3).emit (.read a.master 0 true)
  | .lookup t => s.checkError t.val f.index.toNat
  | .cryptoTable => s.raise Ev.CY_PIPE.tableCheck
  | .keyStore slot => if slot < 512 then s.eraseSlot slot else s
  | .masterKey m => { s with masters := Tab.erase s.masters m }
  | .kekKey k => if k < 4 then s.setKek k none else s
  | .calStore entry => { s with mem := { s.mem with calInvalid := addSorted s.mem.calInvalid entry } }
  | .flashSlot b => s.setFlashSlot (bit b) { s.flashSlot (bit b) with bad := true }
  | .scrub => s

/-- A strength as used: 4 to 32 (R410). -/
def pageStrength (t : Nat) : Nat := clampNat 4 32 t

/-- The kind of page a fault lies in, as the strengths are kept: 0 core SRAM, 1 key store, 2 calibration store, 3 and 4 the
flash slots of 896 pages (R405). -/
def faultKind (f : MemFault) : Nat :=
  match f.store.val with
  | 0 | 1 => 0
  | 2 => 1
  | 3 => 2
  | _ => 3 + min 1 (f.index.toNat / 896)

/-- The greatest strength that a page of a kind may have been encoded with: the one of its last scrub or writing or, for a
page that is written as the device runs, the active one; a flash page keeps its own (R405, R406; log entry 104). -/
def State.pageStrengthOf (s : State) (k : Nat) : Nat :=
  let t := Tab.get 16 s.mem.strength k
  match k with
  | 0 => max t (pageStrength (s.rdA MG_MEM.PBCH_CFG_T_SRAM))
  | 1 => max t (pageStrength (s.rdA MG_MEM.PBCH_CFG_T_KEY))
  | 2 => max t (pageStrength (s.rdA MG_MEM.PBCH_CFG_T_CAL))
  | _ => t

/-- The page decode can succeed: the store has page codes, and the bits to correct are within the page's strength (R405). -/
def State.pageDecodes (s : State) (f : MemFault) : Bool :=
  decide (f.store.val < 5) && decide (f.pageBits.getD 0 ≤ s.pageStrengthOf (faultKind f))

/-- MEMORY_LINE_CRC_FAIL (R404, R405, R407): the refetch gives the content, or the page decode does, or the read is
uncorrectable. -/
def execMemoryLineCrcFail (f : MemFault) (who : MemReader) (s : State) : Result :=
  .next (
    if s.clock.stopped || (rclkPage (memPage f) && s.rclkStopped) then s
    -- storage that is withdrawn is used no longer (R26)
    else if f.deskew.isSome ∧ s.hbmOut.contains (rowKey f) then s
    else if f.refetchOk then (if f.lasting then s.lineLasting f else s.lineTransient (memPage f))
    else
      let s := s.lineLasting f
      match f.pageBits, s.pageDecodes f with
      | some n, true => s.raiseN Ev.MG_MEM.pageCorrected n
      | _, _ => (s.uncorrectable f.store.val f.index.toNat).uncorrectableRead f who)

/-- SCRUB_PASS (R406): every page of the SRAM, the key store and the calibration store is rewritten, with the active
strengths; flash pages are only read. -/
def execScrubPass (corrected : Nat) (s : State) : Result :=
  .next (
    if s.clock.stopped then s
    else
      let st := Tab.set 16 s.mem.strength 0 (pageStrength (s.rdA MG_MEM.PBCH_CFG_T_SRAM))
      let st := Tab.set 16 st 1 (pageStrength (s.rdA MG_MEM.PBCH_CFG_T_KEY))
      let st := Tab.set 16 st 2 (pageStrength (s.rdA MG_MEM.PBCH_CFG_T_CAL))
      let s := { s with mem := { s.mem with strength := st } }
      ((s.raiseN Ev.MG_MEM.pageCorrected corrected).bump MG_MEM.SCRUB_STATUS_PASSES).raise Ev.MG_MEM.scrubDone)

end Sys2Proof.Machine
end

