-- ==== Sys2Proof/Machine/Retry.lean ====
section
/-! DEFINITION. Check and retry by block: a failed check, the classifying attempt, and a spare's self-test (R19, R20, R24,
R25). -/

namespace Sys2Proof.Machine

open F

/-! ### Cipher pipelines (R295 to R297) -/

/-- Whether a failed check of a direction falls within 32 HCLK of another failed check of it (R296). -/
def State.aesNear (s : State) (d : Fin 2) (cycle : Nat) : Bool :=
  let w := Tab.get FaultWindow.none s.window (6 + d.val)
  w.opened && decide (w.at_ ≤ cycle ∧ cycle ≤ w.at_ + 32)

/-- Note a failed check of a direction. -/
def State.aesNote (s : State) (d : Fin 2) (cycle : Nat) : State :=
  { s with window := Tab.set FaultWindow.none s.window (6 + d.val) ⟨true, cycle⟩ }

/-- Work of a pipeline that is not redone (R296): the unit and word it spoils. -/
def State.aesSpoil (s : State) (d : Fin 2) (i : CheckInfo) : State :=
  { s with aesBad := s.aesBad ++ [(decide (d = 1), i.num / 192, i.num % 192, i.stage)] }

/-- A failed check on a pipeline (R295, R296): redone on a spare, or not redone within 32 HCLK of another failed check of
the direction, on the spare itself, and without a spare that is not out for its self-test (R24). -/
def State.aesFail (s : State) (d : Fin 2) (u : Nat) (i : CheckInfo) : State :=
  let b := Block.aes d
  let x := s.block b
  let near := s.aesNear d i.cycle
  let s := s.aesNote d i.cycle
  if i.onSpare then ((s.aesSpoil d i).toTest b u).raise (Ev.CY_PIPE.doubleFault d.val)
  else if near then ((s.aesSpoil d i).deferOrLast b u).raise (Ev.CY_PIPE.doubleFault d.val)
  else if !x.canRedo b then (s.aesSpoil d i).deferOrLast b u
  else
    let s := s.raise (Ev.CY_PIPE.redo d.val)
    if x.unclassified.contains u then (s.undefer b u).lasting b u else s

/-! ### Bridges (R12, R264) -/

/-- A bridge lane's replay classifies its fault (R12); a port's slot limit that changes is an event (R264). -/
def State.bridgeClassify (s : State) (b : Block) (u : Nat) (pass : Bool) : State :=
  let before := (s.slotLimit .E, s.slotLimit .W)
  let s := s.classify b u pass
  s.raiseIf (decide ((s.slotLimit .E, s.slotLimit .W) ≠ before)) Ev.HB_RING.slotLimit

/-! ### By block -/

/-- The sub-converters, whose faults go by position (R68). -/
def isConv : Block → Bool
  | .txConv _ _ | .rxConv _ _ => true
  | _ => false

/-- A unit that does not exist, or has been quarantined and serves nothing, does no work. -/
def State.works (s : State) (b : Block) (u : Nat) : Bool :=
  isConv b || (decide (u < b.units) && (!(s.block b).quarantine.contains u || ((s.block b).placeOf b u).isSome))

/-- A unit's check fails (R19). A bridge replays, the monitor converters convert again and a calibration task measures
again: there the second attempt says what follows. The core that runs fails on an instruction fetch (R369). -/
def State.checkFail (s : State) (b : Block) (u : Nat) (i : CheckInfo) : State :=
  match b with
  | .txCluster p => s.txClusterFail p u i
  | .txConv p c => s.forEach (i.positions.map (·.1.val)) fun pos s => s.positionFail true p c pos i.cycle
  | .rxConv p c => s.convFail p c i
  | .eqCluster p => s.eqFail p u i
  | .coefEngine p => s.coefFail p u i
  | .p1Lane p => s.laneFail b p (Ev.DEMAP.p1Redo p) u i
  | .p2Lane p => s.laneFail b p (Ev.DEMAP.p2Redo p) u i
  | .decoder p => s.decoderFail p u i
  | .matcher p => s.outerFail b p (Ev.FEC.matcherRedo p) u i
  | .bchDecoder p => s.outerFail b p (Ev.FEC.bchRedo p) u i
  | .aes d => s.aesFail d u i
  | .core => if u = s.activeCore then (s.raise Ev.MG_CTL.ueFetch).emergencyMoult else s.toTest b u
  | .calDetector _ _ => s.raise Ev.PWR_MGR.calImplausible
  | .toLineBridge _ | .fromLineBridge _ | .toHubBridge | .fromHubBridge | .monConv => s

/-- The number of the calibration task whose detector a block is (R424). -/
def detectorTask (p : Port) (t : Fin 2) : Nat := p.toNat + 2 * t.val

/-- The second attempt classifies (R20). -/
def State.attemptDone (s : State) (b : Block) (u : Nat) (pass : Bool) (i : CheckInfo) : State :=
  match b with
  | .txCluster p => s.txClusterClassify p u pass
  | .txConv p c => s.convClassify true p c u pass
  | .rxConv p c => s.convClassify false p c u pass
  | .eqCluster p => s.eqClassify p u pass i
  | .decoder p => s.decoderClassify p u pass
  | .toLineBridge _ | .fromLineBridge _ | .toHubBridge | .fromHubBridge => s.bridgeClassify b u pass
  | .core => if s.core.selfTest = some u then s.coreSelfTest pass else (s.undefer b u).classify b u pass
  | .monConv => if pass then (s.transient b).raise Ev.MON_SEQ.retry else s.monLasting u
  | .calDetector p t => if pass then s.transient b else s.detectorFail (detectorTask p t)
  | .coefEngine _ | .p1Lane _ | .p2Lane _ | .matcher _ | .bchDecoder _ | .aes _ => (s.undefer b u).classify b u pass

/-- A spare fails its self-test (R25): it is LASTING and quarantined, and what shows the block's spare follows. -/
def State.spareFails (s : State) (b : Block) (u : Nat) : State :=
  let s := s.lastingOnly b u
  match b with
  | .txCluster p => if s.rd (TX.CLU_ROT_CHRYS_CLU p) = u then s.wr (TX.CLU_ROT_CHRYS_CLU p) 15 else s
  | .eqCluster p => if s.rd (RXEQ.CLU_ROT_CHRYS_CLU p) = u then s.wr (RXEQ.CLU_ROT_CHRYS_CLU p) 31 else s
  | .core => s.setCoreSt u 3
  | .monConv => s.wr MON_SEQ.SEQ_STATUS_CONV_OK (setBit (s.rd MON_SEQ.SEQ_STATUS_CONV_OK) u false)
  | .calDetector p t => s.taskBit PWR_MGR.CAL_STATE_SPARE_LEFT (detectorTask p t) false
  | _ => s

/-- A spare's self-test in chrysalis ends (R25): one that passes may eclose. A unit that had to take a place before the test
of R24 was over goes on serving if it passes, and is LASTING if it fails (log entry 83). -/
def State.spareTest (s : State) (b : Block) (u : Nat) (pass : Bool) : State :=
  if u < b.units ∧ ¬ (s.block b).quarantine.contains u then
    match (s.block b).placeOf b u with
    | none => if pass then s.testPassed b u else s.spareFails b u
    | some _ =>
      if (s.block b).testing.contains u then (if pass then s.testPassed b u else s.lasting b u) else s
  else s

/-- Whether the clock of a block runs (R316). -/
def State.blockClocked (s : State) (b : Block) : Bool := !(rclkPage b.page && s.rclkStopped) && !s.clock.stopped

/-- UNIT_CHECK_FAIL (R19). -/
def execUnitCheckFail (b : Block) (u : Nat) (i : CheckInfo) (s : State) : Result :=
  .next (if s.blockClocked b && s.works b u then s.checkFail b u i else s)

/-- CLASSIFYING_ATTEMPT_DONE (R20): a unit in quarantine is classified already. -/
def execClassifyingAttemptDone (b : Block) (u : Nat) (pass : Bool) (i : CheckInfo) (s : State) : Result :=
  .next (
    if s.blockClocked b && (isConv b || (decide (u < b.units) && !(s.block b).quarantine.contains u)) then s.attemptDone b u pass i
    else s)

/-- SPARE_SELF_TEST_DONE (R25). The sub-converters keep their own order of chrysalis (R66). -/
def execSpareSelfTestDone (b : Block) (u : Nat) (pass : Bool) (s : State) : Result :=
  .next (
    if s.blockClocked b then
      match b with
      | .txConv p c => s.convSelfTest true p c u pass
      | .rxConv p c => s.convSelfTest false p c u pass
      | b => s.spareTest b u pass
    else s)

end Sys2Proof.Machine
end

