-- ==== Sys2Proof/Machine/Reset.lean ====
section
/-! DEFINITION. Resets, their release, the power-on retest, and the resets of the host side (R20, R59, R260, R379, R395,
R484, R488 to R490, R519 to R521). -/

namespace Sys2Proof.Machine

open F

/-! ### The device -/

/-- The spare fields that show which unit of a block is left over (R52, R104, R415, R426). -/
def State.spareFields (s : State) : State :=
  let s := s.forEach [Port.E, Port.W] fun p s =>
    let t := ((s.block (.txCluster p)).freeUnit (.txCluster p)).getD 15
    let r := ((s.block (.eqCluster p)).freeUnit (.eqCluster p)).getD 31
    (s.wr (TX.CLU_ROT_CHRYS_CLU p) t).wr (RXEQ.CLU_ROT_CHRYS_CLU p) r
  let s := s.forEach [0, 1, 2, 3] fun t s =>
    let b := taskDetector t
    let left := decide ((s.block b).spares b ≠ 0)
    s.taskBit PWR_MGR.CAL_STATE_SPARE_LEFT t left
  s.wr MON_SEQ.SEQ_STATUS_CONV_OK ((s.monLeft.map fun u => 2 ^ u).sum)

/-- Every line converter's trims and map from the calibration store (R76). -/
def State.restoreConverters (s : State) : State :=
  s.forEach [Port.E, Port.W] fun p s => s.forEach [0, 1, 2, 3] fun c s => (s.convRestore false p c).convRestore true p c

/-- What outlasts a reset of a converter: its calibration store (R76) and its quarantined fronts (R20, R70). -/
def ConvState.kept (x : ConvState) : ConvState :=
  { ConvState.init with lostFronts := x.lostFronts, storeMap := x.storeMap, storeOffset := x.storeOffset,
                        storeGain := x.storeGain, storeSkew := x.storeSkew }

/-- What the calibration store keeps of a task: its last accepted correction, with its freeze (R426). -/
def CalTask.kept (x : CalTask) : CalTask :=
  { CalTask.init with corr := x.target, target := x.target, frozen := x.frozen }

/-- What a block keeps: the quarantined units (R20). -/
def Spared.kept (x : Spared) : Spared := { Spared.init with quarantine := x.quarantine }

/-- The state of the device right after a reset (R16, R484): everything at its reset value but the quarantine, the
calibration store, the flash and the fused counter, and after RESET_N the BAR2 windows and the memories behind them. The
queue, the record of what was put out and the count of free values are the model's own. -/
def State.afterReset (s : State) (power : Bool) : State :=
  { State.reset with
    pending := s.pending, freeCount := s.freeCount, out := s.out, perstLow := s.perstLow, flash := s.flash, fuses := s.fuses,
    spared := Tab.each Spared.init s.spared Spared.kept,
    rxConv := Tab.each ConvState.init s.rxConv ConvState.kept,
    txConv := Tab.each ConvState.init s.txConv ConvState.kept,
    calRun := ⟨{ CalRun.init with unrun := power || s.calRun.e.unrun }, { CalRun.init with unrun := power || s.calRun.w.unrun }⟩,
    bar2 := if power then [] else s.bar2,
    sram := if power then [] else s.sram,
    snapPage := if power then [] else s.snapPage,
    snapFlow := if power then [] else s.snapFlow,
    core := { CoreState.init with retestDue := power },
    mem := { MemState.init with strength := s.mem.strength.filter fun e => decide (2 ≤ e.1), calInvalid := s.mem.calInvalid,
                                retired := s.mem.retired },
    hbmOut := s.hbmOut,
    power := { PowerState.init with task := Tab.each CalTask.init s.power.task CalTask.kept } }

/-- SINGLE stays set until power-on reset (R248). -/
def State.keepHbm (s old : State) : State :=
  s.forEach ((List.range 192).filter fun c => old.on (HB_PROT.DP_STATUS_SINGLE c)) fun c s =>
    s.wr (HB_PROT.DP_STATUS_SINGLE c) 1

/-- The quarantined front of each receive converter and the fused `MIN_SVN` outlast a reset (R20, R70, R363). -/
def State.keepFused (s old : State) : State :=
  let s := s.wr MG_CTL.FW_SVN_MIN_SVN (old.rd MG_CTL.FW_SVN_MIN_SVN)
  s.forEach [Port.E, Port.W] fun p s => s.forEach [0, 1, 2, 3] fun c s =>
    s.wr (RXCONV.SUB_QUAR_LOST_FRONT p c) (old.rd (RXCONV.SUB_QUAR_LOST_FRONT p c))

/-- A reset of the device (R16, R20, R59, R76, R260, R484): each spared block is assigned anew. -/
def State.deviceReset (s : State) (power : Bool) : State :=
  let r := (((s.afterReset power).keepFused s).cond (!power) fun r => r.keepHbm s).rebuildAll.restoreConverters.spareFields
  r.forEach [0, 1] fun c r => r.cond (r.coreQuarantined c) fun r => r.setCoreSt c 3

/-- POWER_ON_RESET (R16, R484). -/
def execPowerOnReset (s : State) : Result := .next (s.deviceReset true)

/-- RESET_N held low (R520): from 1 µs on it takes effect, below 100 ns it is ignored, and between them it is one or the
other (log entry 57). -/
def execResetN (lowNs : Nat) (s : State) : Result :=
  .next (
    if 1000 ≤ lowNs then s.deviceReset false
    else if lowNs < 100 then s
    else if s.freeVal 1 = 1 then s.useFree.deviceReset false else s.useFree)

/-- INTERNAL_POWER_ON_RESET (R520, R521): as RESET_N. -/
def execInternalPowerOnReset (s : State) : Result := .next (s.deviceReset false)

/-- LOSS_OF_POWER (R59, R260): the transmitters are dark with TX_RAMP at 0 V, the bypass outputs low; what needs a supply is
gone. -/
def execLossOfPower (s : State) : Result := .next (s.deviceReset true)

/-- SUPPLY_OUT_OF_TOLERANCE (R521, R524): the clamped outputs are safe; what else the device does until a reset is
unspecified, and it is stuck (log entry 2). -/
def execSupplyOutOfTolerance (s : State) : Result :=
  .next ((({ s with pins := Pins.init }.wr HB_RING.RING_STATUS_BYPASS_HOLD 0).wr CK_SYN.SYN_STATUS_RCLK_OK 0).onClock
    fun k => { k with stopped := true })

/-- RESET_RELEASE (R58, R313, R488, R489, R521): FOSC qualification and the analogue PLL start; the endpoint's link comes up
unless PCIE_PERST_N holds it down; the dark transmitters' TX_RAMP carries entry 15. -/
def execResetRelease (s : State) : Result :=
  .next (
    if s.clock.released then s
    else { s with linkUp := !s.perstLow, crs := true, pins := { s.pins with txZero := ⟨false, false⟩ } }.onClock fun k => { k with released := true })

/-- The units and fronts that passed their power-on retest return to service (R20, R490); 264 + t stands for front t. -/
def State.retestPassed (s : State) (passed : List (Block × Nat)) : State :=
  s.forEach passed fun e s =>
    let s := s.setBlock e.1 { s.block e.1 with quarantine := (s.block e.1).quarantine.filter (· != e.2) }
    match e.1 with
    | .rxConv p c =>
      let x := s.conv false p c
      (s.setConv false p c { x with lostFronts := x.lostFronts.filter (· + 264 != e.2) }).showFront false p c
    | .calDetector p t => s.onTask (detectorTask p t) fun x => { x with frozen := false }
    | .core =>
      s.cond (decide (s.coreSt e.2 = 3)) fun s => s.setCoreSt e.2 (if s.coreSt s.activeCore = 1 then 2 else 0)
    | _ => s

/-- The memory rows that passed it are in use again, with the HBM3E storage that was withdrawn for want of another (R20, R26). -/
def State.rowsPassed (s : State) (rows : List (Fin 47 × BitVec 24)) : State :=
  let back := rows.map fun e => e.1.val * 2 ^ 24 + e.2.toNat
  { s with mem := { s.mem with retired := s.mem.retired.filter fun k => !back.contains k },
           hbmOut := s.hbmOut.filter fun k => !back.contains k }

/-- POWER_ON_RETEST_DONE (R20, R490): the retest of quarantined units and retired rows runs from RCLK qualification; after it the
blocks are assigned anew and the calibration store is restored. After RESET_N only the restore is awaited. -/
def execPowerOnRetestDone (passed : List (Block × Nat)) (rows : List (Fin 47 × BitVec 24)) (s : State) : Result :=
  .next (
    if s.core.retested ∨ s.rclkStopped ∨ s.clock.stopped then s
    else
      let s := s.cond s.core.retestDue fun s =>
        ((s.retestPassed passed).rowsPassed rows).rebuildAll.restoreConverters.spareFields
      s.onCore fun c => { c with retested := true, retestDue := false })

/-! ### The host side -/

/-- A DMA channel at a PCIe reset (R379, R395): halted, its descriptors and buffer discarded; the ring fields, `HEAD` and
`TAIL` of channels 0 to 13 reset. -/
def State.dmaHostReset (s : State) (c : Nat) : State :=
  let s := s.onDma c fun _ => DmaChan.init
  let s := (s.wr (DMA_ENG.CH_CTRL_RUN c) 0).wr (DMA_ENG.CH_STATUS_STATE c) 4
  let s := s.wr (DMA_ENG.REMAIN_BYTES c) 0
  s.cond (decide (c < 14)) fun s =>
    s.forEach [DMA_ENG.RING_LO_BASE c, DMA_ENG.RING_HI_BASE c, DMA_ENG.RING_SIZE_LOG2 c, DMA_ENG.TAIL_TAIL c, DMA_ENG.HEAD_HEAD c]
      fun f s => s.wr f f.reset

/-- The host request that a channel waits for or issues next: its address, and whether it is the last beat of the descriptor in
progress. -/
def State.dmaPendingRequest (s : State) (c : Nat) : Option (Nat × Bool) :=
  let x := s.dmaOf c
  match x.cur, x.fetching with
  | some d, _ =>
    let left := s.rd (DMA_ENG.REMAIN_BYTES c)
    some (if x.outstanding ≠ 0 then (x.request, decide (left = 0)) else (d.host + d.len - left, false))
  | none, i :: _ => some (s.descrAt c i, false)
  | none, [] => none

/-- The link goes down while a channel has a descriptor in progress or in fetch: the engine halts with cause 4, at the request of
the lowest such channel (R392, R393, log entry 136). -/
def State.dmaLinkDown (s : State) : State :=
  match (List.range 16).find? fun c => (s.dmaPendingRequest c).isSome with
  | none => s
  | some c =>
    match s.dmaPendingRequest c with
    | some (addr, last) => s.engineHalt 4 addr (if last then some c else none)
    | none => s

/-- PCIE_HOT_RESET (R377, R379, R395, R456, R462, R521): the configuration space and the MSI-X table and latches reset, DMA
stops, a mailbox command that moves data ends with status 12, telemetry stops, tagging stops; firmware re-arms its channels. -/
def execPcieHotReset (k : PcieReset) (s : State) : Result :=
  .next (
    let down := decide (k = PcieReset.linkDown ∨ k = PcieReset.perst)
    let s := s.cond (down && s.linkUp) State.dmaLinkDown
    let s := { s with msixEnable := false, msixFnMask := false, msixTable := [], msixLatch := [], maxPayload := 128, tel := none,
                      linkUp := s.linkUp && !down, perstLow := s.perstLow || decide (k = PcieReset.perst) }
    let s := s.forEach (List.range 16) fun c s => s.dmaHostReset c
    let s := s.mbxDecide (fun k => k.started && movesData k.op) 12 1
    let s := s.cond s.coreUp State.armServices
    s.wr MG_OBS.TRACE_RING_CFG_RING_EN 0)

/-- SMBUS_BUS_RESET (R379): a transaction that it cuts takes no effect, and everything else is kept. -/
def execSmbusBusReset (s : State) : Result := .next s

/-- PCIE_PERST_N_RELEASE (R521): the link comes up; configuration requests are retried until 100 ms later. -/
def execPciePerstNRelease (s : State) : Result :=
  .next (if s.perstLow then { s with perstLow := false, linkUp := s.clock.released, crs := true } else s)

/-- CONFIGURATION_REQUEST_RETRY_END (R489): the endpoint answers normally, and the host configures it. -/
def execConfigurationRequestRetryEnd (x : HostConfig) (s : State) : Result :=
  .next (
    if s.clock.released ∧ ¬ s.perstLow then
      { s with crs := false, linkUp := true, msixEnable := x.msixEnable, msixFnMask := x.fnMask,
               maxPayload := if x.maxPayload = 128 ∨ x.maxPayload = 256 ∨ x.maxPayload = 512 then x.maxPayload else s.maxPayload }
    else s)

end Sys2Proof.Machine
end

