-- ==== Sys2Proof/Machine/Restore.lean ====
section
/-! DEFINITION. The configuration restore at boot (R365 to R367, R494 to R497). -/

namespace Sys2Proof.Machine

open F

/-- Fields whose records wait: the enables of ports and host lanes, which are set at the end (R367). -/
def restoredLast (f : Field) : Bool :=
  (decide (31 ≤ f.page) && decide (f.lsb = 0) &&
    ((decide (lineKind f.page = 0) && decide (f.off = 0x058)) || (decide (lineKind f.page = 2) && decide (f.off = 0x040)))) ||
  decide (f.page = 27 ∧ 0x040 ≤ f.off ∧ f.off < 0x340 ∧ f.off % 0x20 = 0 ∧ f.lsb = 0)

/-- The value a copy's records give a field: that of the last one of its register; without one, the field's reset value. -/
def CfgCopy.field (c : CfgCopy) (f : Field) : Nat :=
  c.records.foldl (fun v e => match e with
    | .register page off d => if page = f.page ∧ off = f.off then bits d f.lsb f.width else v
    | _ => v) f.reset

/-- A register's value without the fields that are restored last: these keep what they hold. -/
def State.withoutEnables (s : State) (page off d : Nat) : Nat :=
  ((pageFields page).filter fun f => decide (f.off = off) && restoredLast f).foldl (fun d f =>
    d - bits d f.lsb f.width * 2 ^ f.lsb + s.rd f * 2 ^ f.lsb) d

/-- A servo instance takes its saved port settings (R341, R373). -/
def Servo.settings (v saved : Servo) : Servo :=
  { v with kind := saved.kind, twoStep := saved.twoStep, dest := saved.dest, notSlave := saved.notSlave,
           localPriority := saved.localPriority }

/-- The service settings (R341, R373, R376). -/
def State.restoreServices (s : State) (tb : Tab TimeBase) (tel : Option Telemetry) : State :=
  let s := s.forEach (List.range 4) fun x s =>
    let b := Tab.get TimeBase.init tb x
    s.onTb x fun t =>
      { t with primary := t.primary.settings b.primary, shadow := t.shadow.settings b.shadow, clockQual := b.clockQual,
               clockVar := b.clockVar }
  { s with tel := tel.map fun t => { t with seq := 0, left := t.period } }

/-- Request a group's eclosion at IMMEDIATE from a page, which commits where it is accepted (R365, R480). -/
def State.commitNow (s : State) (page g : Nat) : State :=
  let s := s.requestEclosion page (2 ^ g) bndImmediate 0
  match s.ecl.find? fun e => e.1 = eclKey page (2 ^ g) with
  | some (_, e) => s.commit (eclKey page (2 ^ g)) e false
  | none => s

/-- One record of a copy takes effect (R365, R367): registers and tables by writes of the core, which obey every rule for them
(R361). -/
def State.applyRecord (s : State) (e : CfgRecord) : State :=
  match e with
  | .register page off d => (s.busWrite .core0 (page * 4096 + off) (s.withoutEnables page off d)).1
  | .table off l => s.forEach ((List.range l.length).zip l) fun e s =>
      s.tableWrite .core0 (off + e.1) (e.2.toNat * 256 ^ ((off + e.1) % 4)) (2 ^ ((off + e.1) % 4))
  | .eclosion page g => s.commitNow page g
  | .plan n p => if n = 0 then s else { s with prot := { s.prot with plans := Tab.insert s.prot.plans n p } }
  | .service tb tel => s.restoreServices tb tel

/-- Stage a list of values. -/
def State.stage (s : State) (l : List (Field × Nat)) : State := s.forEach l fun e s => s.wr e.1 e.2

/-- The RXMOD fields of a port, and the TXMOD fields of a port, in one order. -/
def rxModFields (p : Port) : List Field :=
  [RXFE.SYM_RATE_RATE_Q p, RXFE.SHAPE_CFG_ROLLOFF p, DEMAP.MOD_CFG_BASE p, DEMAP.MOD_CFG_SHAPED p,
    DEMAP.MOD_CFG_ENTROPY_E p, DEMAP.MOD_CFG_CODE_RATE p]
def txModFields (p : Port) : List Field :=
  [TX.SYM_RATE_RATE_Q p, TX.SHAPE_CFG_ROLLOFF p, TX.MOD_CFG_BASE p, TX.MOD_CFG_SHAPED p, TX.MOD_CFG_ENTROPY_E p,
    TX.MOD_CFG_CODE_RATE p]

/-- Page and commit group of TXMOD and RXMOD of a port. -/
def txPage (p : Port) : Nat := 31 + 8 * p.toNat
def rxPage (p : Port) : Nat := 33 + 8 * p.toNat

/-- The loop's RXMOD of a port is committed, the span RXMOD staged again (R367 step 1, R494). -/
def State.restoreLoop (s : State) (c : CfgCopy) (p : Port) : State :=
  let s := s.stage ((rxModFields p).zip ((txModFields p.other).map c.field))
  (s.commitNow (rxPage p) (4 + p.toNat)).stage ((rxModFields p).map fun f => (f, c.field f))

/-- The copy enables a port's receiver. -/
def CfgCopy.inUse (c : CfgCopy) (p : Port) : Bool := decide (c.field (RXFE.RX_CTRL_RX_ENABLE p) = 1)

/-- A node with one port in use: the unused port's transmitter takes the used port's RXMOD and is enabled (R367 step 2,
R497). -/
def State.restoreUnused (s : State) (c : CfgCopy) (p : Port) : State :=
  if c.inUse p && !c.inUse p.other then
    let s := s.stage ((txModFields p.other).zip ((rxModFields p).map s.rdA))
    (s.commitNow (txPage p.other) p.other.toNat).txEnableSet p.other
  else s

/-- Enable each port and each host lane that the copy enables (R367 step 3). -/
def State.restoreEnables (s : State) (c : CfgCopy) : State :=
  let s := s.forEach [Port.E, Port.W] fun p s =>
    let s := s.cond (c.inUse p) fun s => s.rxEnableSet p
    s.cond (decide (c.field (TX.TX_CTRL_TX_ENABLE p) = 1)) fun s => s.txEnableSet p
  s.forEach (List.range 24) fun n s => s.cond (decide (c.field (HL_LANE.LANE_CFG_ENABLE n) = 1)) fun s => s.laneEnable n

/-- Apply a copy: its records in order, then the loop (R367). How many records the device cuts it into is open (log entry 1). -/
def State.applyCopy (s : State) (c : CfgCopy) : State :=
  let s := s.forEach c.records fun e s => s.applyRecord e
  let s := (s.restoreLoop c .E).restoreLoop c .W
  let s := ((s.restoreUnused c .E).restoreUnused c .W).restoreEnables c
  let s := (s.wr MG_CTL.RESTORE_STATUS_RECORDS (s.freeVal 16)).useFree
  (s.wr MG_CTL.RESTORE_STATUS_RESTORE_RESULT 1).raise Ev.MG_CTL.configRestored

/-- CONFIG_RESTORE (R367): once after boot, with the retest over and RCLK qualified (R490). -/
def execConfigRestore (s : State) : Result :=
  s.served <|
  .next (
    if s.core.restored ∨ s.rclkStopped then s
    else
      let s := s.onCore fun c => { c with restored := true }
      match s.cfgNewest.bind s.cfgCopy with
      | none => s.wr MG_CTL.RESTORE_STATUS_RESTORE_RESULT 2
      | some c =>
        let s := s.wr MG_CTL.RESTORE_STATUS_POLICY c.policy
        if c.policy = 1 ∨ c.policy = 2 then
          (s.applyCopy c).onCore fun k => { k with emergeWait := decide (c.policy = 2) }
        else s)

/-- Ports whose receiver is enabled. -/
def State.enabledPorts (s : State) : List Port := [Port.E, Port.W].filter fun p => s.on (RXFE.RX_CTRL_RX_ENABLE p)

/-- The span RXMOD of a port at AGREED, 16,000 to 32,000 superframes ahead; which is open (R496, log entry 1). -/
def State.requestSpan (s : State) (p : Port) : State :=
  let at_ := ((s.frame.get p).fcRx / 256 + 16000 + s.freeVal 14 % 16001) % 65536
  s.useFree.requestEclosion (rxPage p) (2 ^ (4 + p.toNat)) bndAgreed at_

/-- RESTORE_EMERGE_WAIT_END (R367, R496, R497): every enabled port is ACQUIRED on the loop with its transmitter ON, or the
10 s have passed. -/
def execRestoreEmergeWaitEnd (s : State) : Result :=
  s.served <|
  .next (
    if ¬ s.core.emergeWait then s
    else
      let s := s.onCore fun c => { c with emergeWait := false }
      let on := s.enabledPorts
      let cancel (s : State) : State :=
        (s.forEach [Port.E, Port.W] fun p s => s.cancelEclosion (rxPage p)).wr MG_CTL.RESTORE_STATUS_RESTORE_RESULT 3
      if on.isEmpty || on.any fun p => decide (s.acqSt p ≠ acqAcquired ∨ s.txSt p ≠ txOn) then cancel s
      else
        let s := (s.forEach on fun p s => s.requestSpan p).emerge
        if ¬ s.inRing then cancel s
        else
          let s := s.forEach on fun p s => s.forceReacq p
          match on with
          | [p] => s.txEnableClear p.other
          | _ => s)

end Sys2Proof.Machine
end

