-- ==== Sys2Proof/Machine/Tick.lean ====
section
/-! DEFINITION. The management tick (R312): every piece of work that is done once per tick. -/

namespace Sys2Proof.Machine

open F

/-! ### Telemetry sets (R119 to R122, R155) -/

/-- A figure put into an unsigned field; where there is none, or it does not fit the field, the value is open (log
entry 1). -/
def State.figure (s : State) (f : Field) (x : State × Option Int) : State :=
  match x.2 with
  | some v => if 0 ≤ v ∧ v < 2 ^ f.width then x.1.wr f v.toNat else (s.wr f (s.freeVal f.width)).useFree
  | none => (s.wr f (s.freeVal f.width)).useFree

/-- A figure put into a signed field, as `State.figure`. -/
def State.figureI (s : State) (f : Field) (x : State × Option Int) : State :=
  match x.2 with
  | some v =>
    if -(2 ^ (f.width - 1)) ≤ v ∧ v < 2 ^ (f.width - 1) then x.1.wrI f v else (s.wr f (s.freeVal f.width)).useFree
  | none => (s.wr f (s.freeVal f.width)).useFree

/-- A figure that the specification defines as a quotient. -/
def State.quotient (s : State) (n d : Int) : State × Option Int :=
  let q := s.divOpen n d
  (q.1, some q.2)

/-- `P − N × B` in 1/800 of full-scale power, in 2^−64 (R121): P from 0.01 dBFS, N the sum of both noise floors per GHz, B the
symbol rate in 0.25 GBd times 1 + β, β being the roll-off in 0.005. -/
def State.signalPower (s : State) (p : Port) (power : Int) : Int × Nat :=
  let n := pow10Fix (s.rdI (RXFE.NOISE_X_PSD p)) + pow10Fix (s.rdI (RXFE.NOISE_Y_PSD p))
  let x := s.rxMode p
  (800 * (pow10Fix power : Int) - n * (x.rateQ * (200 + x.rolloff)), n)

/-- The OSNR in 0.01 dB (R121); none where P − N × B is not positive. -/
def State.osnr (s : State) (p : Port) (power : Int) : State × Option Int :=
  let x := s.signalPower p power
  if 0 < x.1 then
    let r := dbRatio x.1.toNat (10000 * x.2)
    s.quotient r.1 r.2
  else (s, none)

/-- `OSNR_VALID` (R121). -/
def State.osnrValid (s : State) (p : Port) (power : Int) : Bool :=
  let most := s.rd (SPAN.TEL_CFG_OSNR_AGE_MAX p)
  s.on (RXFE.NOISE_X_VALID p) && s.on (RXFE.NOISE_Y_VALID p) &&
    decide (s.rd (RXFE.NOISE_X_AGE p) ≤ most ∧ s.rd (RXFE.NOISE_Y_AGE p) ≤ most) && decide (0 < (s.signalPower p power).1)

/-- The electrical SNR in 0.01 dB (R120; log entry 89): the mean of the ratios of X and Y; none where a decision error of 0
leaves a ratio open. -/
def State.esnr (s : State) (t : TelSums) : State × Option Int :=
  if t.errX = 0 ∨ t.errY = 0 ∨ t.powX * t.errY + t.powY * t.errX = 0 then (s, none)
  else
    let r := dbRatio (t.powX * t.errY + t.powY * t.errX) (2 * t.errX * t.errY)
    s.quotient r.1 r.2

/-- The label bits of a codeword that its LLRs belong to (R122). -/
def codewordBits : Nat := 16384

/-- The NGMI in 1/65,536 (R122; log entry 89): 1 less the mean over the label bits; none where no codeword was corrected. -/
def State.ngmi (s : State) (t : TelSums) : State × Option Int :=
  if t.words = 0 then (s, none)
  else
    let d : Int := (t.words * codewordBits * 2 ^ 64 : Nat)
    s.quotient (65536 * (d - t.gmi)) d

/-- The mean of a figure over the hops of the tick (R120); none where there was no hop. -/
def State.hopMean (s : State) (sum : Int) (hops : Nat) : State × Option Int :=
  if hops = 0 then (s, none) else s.quotient sum hops

/-- D̂ and the mean residual dispersion in ps/nm (R120). -/
def State.dispersionFigure (s : State) (p : Port) (t : TelSums) : State × Option Int :=
  s.hopMean (10 * s.rdI (RXFE.CD_EST_D_HAT p) * (256 * t.hops) + t.residual) (256 * t.hops)

/-- The figures of a set while ACQUIRED, `power` the in-band power in 0.01 dBFS (R120 to R122). -/
def State.spanFigures (s : State) (p : Port) (power : Int) : State :=
  let t := (s.rx.get p).tel
  let s := s.figureI (SPAN.CD_CD p) (s.dispersionFigure p t)
  let s := s.figure (SPAN.PMD_DGD p) (s.hopMean t.dgd t.hops)
  let s := s.figure (SPAN.PMD_PDL p) (s.hopMean t.pdl t.hops)
  let s := (s.figure (SPAN.SNR_OSNR p) (s.osnr p power)).wrB (SPAN.SNR_OSNR_VALID p) (s.osnrValid p power)
  let s := s.figureI (SPAN.ESNR_ESNR p) (s.esnr t)
  let s := s.figure (SPAN.SOP_SOP_MAX p) (s, some t.sopMax)
  let s := s.figure (SPAN.SOP_SOP_MEAN p) (s.hopMean t.sop t.hops)
  let s := s.figure (SPAN.NGMI_NGMI p) (s.ngmi t)
  let s := s.figure (SPAN.BER_ERR_ERRORS p) (s, some t.wrong)
  s.figure (SPAN.BER_BITS_BITS p) (s, some t.bits)

/-- The figures that read 0 while not ACQUIRED (R119). -/
def spanZeros (p : Port) : List Field :=
  [ SPAN.CD_CD p, SPAN.PMD_DGD p, SPAN.PMD_PDL p, SPAN.SNR_OSNR p, SPAN.SNR_OSNR_VALID p, SPAN.ESNR_ESNR p,
    SPAN.SOP_SOP_MAX p, SPAN.SOP_SOP_MEAN p, SPAN.NGMI_NGMI p, SPAN.BER_ERR_ERRORS p, SPAN.BER_BITS_BITS p ]

/-- The telemetry set of a port is latched, with the counts of its decoder pool under the same sequence value (R119,
R155). -/
def State.spanTick (s : State) (p : Port) (power : Int) : State :=
  let acq := decide (s.acqSt p = acqAcquired)
  let s := (s.bump (SPAN.TEL_SEQ_SEQ p)).wrB (SPAN.TEL_SEQ_NOT_ACQ p) (!acq)
  let s := (s.wr (FEC.TEL_SEQ_SEQ p) (s.rd (SPAN.TEL_SEQ_SEQ p))).wrB (FEC.TEL_SEQ_NOT_ACQ p) (!acq)
  let s := if acq then s.spanFigures p power else s.forEach (spanZeros p) fun f s => s.wr f 0
  let s := s.wrI (SPAN.LASER_OFFSET p) (10 * s.rdI (RXFE.CFC_F_HAT p) + s.rdI (RXEQ.CR_EST_DELTA_F p))
  let s := (s.onRx p fun r => { r with tel := TelSums.none }).raise (Ev.SPAN.latched p)
  let s := s.raiseIf (decide (s.rd (SPAN.TEL_CFG_SOP_ALARM p) < s.rd (SPAN.SOP_SOP_MAX p))) (Ev.SPAN.sopHigh p)
  let s := s.raiseIf (!s.on (SPAN.SNR_OSNR_VALID p)) (Ev.SPAN.osnrInvalid p)
  s.raiseIf (decide (s.rd (SPAN.NGMI_NGMI p) < s.rd (SPAN.NGMI_ALARM_LIMIT p))) (Ev.SPAN.ngmiLow p)

/-- The age of the noise floor in seconds, saturating (R86). Before any result, `VALID` being 0, it counts from the start, which the
model chooses (log entry 113). -/
def State.noiseAge (s : State) (p : Port) : State :=
  if (s.rx.get p).noiseMs < 999 then s.onRx p fun r => { r with noiseMs := r.noiseMs + 1 }
  else ((s.onRx p fun r => { r with noiseMs := 0 }).bumpSat (RXFE.NOISE_X_AGE p) 1).bumpSat (RXFE.NOISE_Y_AGE p) 1

/-- A line port at a tick, RCLK running. -/
def State.portTick (s : State) (p : Port) (x : TickInputs) : State :=
  let s := s.noiseAge p
  let n := x.noise.get p
  let s := (s.noiseTick p n.1 n.2).onRx p fun r => { r with metricHigh := false }
  let s := s.spanTick p (x.power.get p)
  -- the largest f_e of the tick in 1/65,536, f_e being the erased samples over 32,768 (R113)
  let s := s.wr (DEMAP.ERASE_FRAC_MAX_FRAC p) (min 65535 (2 * (s.rx.get p).eraseMax))
  let s := s.onRx p fun r => { r with eraseMax := 0 }
  let s := s.fecTick p
  let s := s.onPmClock p fun k => { k with ticks := k.ticks + 1 }
  let s := s.reportTick p (decide (s.rd (SPAN.NGMI_NGMI p) < s.rd (SPAN.NGMI_ALARM_LIMIT p)))
  let s := s.onCal p fun r => { r with sinceMs := r.sinceMs + 1 }
  s.skewTick p x.skew

/-- The occupancy event of the shared pool (R231, R446): the HCLK cycles since the last tick, two to a TCLK cycle, in which the pool
stood above `OCC_N`: all of them or none where it never crossed, else as many as the tick says (log entry 95). -/
def State.occupancyTick (s : State) (t above : Nat) : State :=
  let whole := 2 * (t - s.tickAt)
  let n := if !s.poolOver then 0 else if s.poolUnder then min above whole else whole
  ({ s.raiseN Ev.HB_BUF.occupancy n with tickAt := max s.tickAt t, poolOver := false, poolUnder := false }).notePool

/-- The clock machinery at a tick (R318, R356). -/
def State.clockTick (s : State) : State :=
  let s := s.onClock fun k =>
    { k with qualifiedMs := if k.failed && !s.rclkStopped then k.qualifiedMs + 1 else k.qualifiedMs,
             stopTicks := if k.failed then k.stopTicks + 1 else k.stopTicks }
  s.judgeRestore s.clock.qualifiedMs

/-- References and DPLLs at a tick, whatever RCLK does: they run from XREF (R309, R312, R327 to R334). Without XREF the digital
oscillator has stopped (R319). -/
def State.refsTick (s : State) (x : TickInputs) : State :=
  let s := s.forEach (List.range 12) fun i s => s.refTick i (x.refs.getD i 0)
  s.evaluate.cond (s.on CK_SYN.SYN_STATUS_XREF_OK) fun s => (s.dpllTick0 x.phase x.freq).dpllTick1 x.phase1 x.freq1 x.err1

/-- The time bases at a tick, RCLK running (R342, R345). -/
def State.timingTick (s : State) : State :=
  let s := s.forEach (List.range 4) fun b s => s.tbTick b
  s.cond (decide (s.rd MG_CTL.TICK_COUNT_TICKS % 1000 = 0)) fun s => s.forEach (List.range 4) fun b s => s.tbSecond b

/-- The services of the control complex at a tick (R303, R361, R376, R424). -/
def State.serviceTick (s : State) : State :=
  if s.coreUp then
    let s := if s.rclkStopped then s else s.forEach (List.range 192) fun ch s => s.rotate ch
    let s := s.forEach (List.range 4) fun t s => s.taskTick t
    ({ s with tel := s.tel.map fun t => { t with left := t.left - 1 } } : State).writeMirror
  else { s with tel := none }

/-- MANAGEMENT_TICK (R312). What lies beyond RCLK rests while RCLK is stopped (R316). -/
def execManagementTick (x : TickInputs) (s : State) : Result :=
  .next (
    if s.clock.stopped then s
    else
      let s := ((s.bump MG_CTL.TICK_COUNT_TICKS).clockTick).refsTick x
      let s := if s.rclkStopped then s
        else
          let s := (s.toInstant x.tclk).timingTick
          let s := (s.portTick .E x).portTick .W x
          (s.occupancyTick x.tclk x.above).snapTick
      let s := (s.railTick x.rails).avsTick x.slack
      let s := s.capTick.thermalTick x.temps
      let s := if s.rclkStopped then s else (s.frontTempTick .E).frontTempTick .W
      s.serviceTick)

end Sys2Proof.Machine
end

