-- ==== Sys2Proof/Machine/Dispatch.lean ====
section
/-! DEFINITION. One arm per command, each one direct call of its meaning. -/

namespace Sys2Proof.Machine

def exec (i : Instr) (s : State) : Host.Outcome State Fault Refusal :=
  match i with
  | .powerOnReset => Sys2Proof.Machine.execPowerOnReset s
  | .resetN lowNs => Sys2Proof.Machine.execResetN lowNs s
  | .internalPowerOnReset => Sys2Proof.Machine.execInternalPowerOnReset s
  | .lossOfPower => Sys2Proof.Machine.execLossOfPower s
  | .supplyOutOfTolerance => Sys2Proof.Machine.execSupplyOutOfTolerance s
  | .pcieHotReset k => Sys2Proof.Machine.execPcieHotReset k s
  | .smbusBusReset => Sys2Proof.Machine.execSmbusBusReset s
  | .powerOnRetestDone passed rows => Sys2Proof.Machine.execPowerOnRetestDone passed rows s
  | .managementTick x => Sys2Proof.Machine.execManagementTick x s
  | .unitCheckFail b u info => Sys2Proof.Machine.execUnitCheckFail b u info s
  | .classifyingAttemptDone b u pass info => Sys2Proof.Machine.execClassifyingAttemptDone b u pass info s
  | .spareSelfTestDone b u pass => Sys2Proof.Machine.execSpareSelfTestDone b u pass s
  | .subconverterTakeover tx p c pos => Sys2Proof.Machine.execSubconverterTakeover tx p c pos s
  | .txSubconverterSenseFail p c pos cycle => Sys2Proof.Machine.execTxSubconverterSenseFail p c pos cycle s
  | .txClusterRotation p => Sys2Proof.Machine.execTxClusterRotation p s
  | .eqClusterRotation p => Sys2Proof.Machine.execEqClusterRotation p s
  | .decoderSpareRotation p => Sys2Proof.Machine.execDecoderSpareRotation p s
  | .txEnableSet r p => Sys2Proof.Machine.execTxEnableSet r p s
  | .txEnableClear r p => Sys2Proof.Machine.execTxEnableClear r p s
  | .forcePreamble r p => Sys2Proof.Machine.execForcePreamble r p s
  | .rampStep p => Sys2Proof.Machine.execRampStep p s
  | .preambleEndMarkerDone p => Sys2Proof.Machine.execPreambleEndMarkerDone p s
  | .preambleScheduled p => Sys2Proof.Machine.execPreambleScheduled p s
  | .regionResetRequest r p => Sys2Proof.Machine.execRegionResetRequest r p s
  | .regionResetDone p => Sys2Proof.Machine.execRegionResetDone p s
  | .calStep tx p c m => Sys2Proof.Machine.execCalStep tx p c m s
  | .calEclosionCompareDone tx p c diff => Sys2Proof.Machine.execCalEclosionCompareDone tx p c diff s
  | .calNow r p => Sys2Proof.Machine.execCalNow r p s
  | .calHoldSet r p => Sys2Proof.Machine.execCalHoldSet r p s
  | .skewPhaseTimeout p => Sys2Proof.Machine.execSkewPhaseTimeout p s
  | .calRunEnd p => Sys2Proof.Machine.execCalRunEnd p s
  | .rxEnableSet r p => Sys2Proof.Machine.execRxEnableSet r p s
  | .rxEnableClear r p => Sys2Proof.Machine.execRxEnableClear r p s
  | .forceReacq r p => Sys2Proof.Machine.execForceReacq r p s
  | .signalPowerInterval p powX powY metric => Sys2Proof.Machine.execSignalPowerInterval p powX powY metric s
  | .cdScanDone p coarse fine => Sys2Proof.Machine.execCdScanDone p coarse fine s
  | .noCarrierRetry p noiseX noiseY => Sys2Proof.Machine.execNoCarrierRetry p noiseX noiseY s
  | .preamblePeakDetected p quality => Sys2Proof.Machine.execPreamblePeakDetected p quality s
  | .endMarkerDetected p fHat quality before => Sys2Proof.Machine.execEndMarkerDetected p fHat quality before s
  | .acqStateTimeout p => Sys2Proof.Machine.execAcqStateTimeout p s
  | .hopHandoff p codes => Sys2Proof.Machine.execHopHandoff p codes s
  | .hopRelease p => Sys2Proof.Machine.execHopRelease p s
  | .coefUpdateDone p => Sys2Proof.Machine.execCoefUpdateDone p s
  | .codewordDispatch p t => Sys2Proof.Machine.execCodewordDispatch p t s
  | .decodeDone p num => Sys2Proof.Machine.execDecodeDone p num s
  | .codewordRelease p iters => Sys2Proof.Machine.execCodewordRelease p iters s
  | .bchDecodeDone p => Sys2Proof.Machine.execBchDecodeDone p s
  | .frameStart p t part => Sys2Proof.Machine.execFrameStart p t part s
  | .receivedFrame p x => Sys2Proof.Machine.execReceivedFrame p x s
  | .oofMicrosecond p => Sys2Proof.Machine.execOofMicrosecond p s
  | .lofTimer p => Sys2Proof.Machine.execLofTimer p s
  | .lofClearTimer p => Sys2Proof.Machine.execLofClearTimer p s
  | .dvorrovMessageReceived p => Sys2Proof.Machine.execDvorrovMessageReceived p s
  | .fawErrorInject r p n => Sys2Proof.Machine.execFawErrorInject r p n s
  | .fcsErrorInject r p n => Sys2Proof.Machine.execFcsErrorInject r p n s
  | .pmSecond p t => Sys2Proof.Machine.execPmSecond p t s
  | .swapRequest r reqE reqW => Sys2Proof.Machine.execSwapRequest r reqE reqW s
  | .laneEnable r n => Sys2Proof.Machine.execLaneEnable r n s
  | .laneDisable r n => Sys2Proof.Machine.execLaneDisable r n s
  | .cdrLockAcquired n => Sys2Proof.Machine.execCdrLockAcquired n s
  | .peakingSweepDone n code => Sys2Proof.Machine.execPeakingSweepDone n code s
  | .cdrLockLost n sig part ns first => Sys2Proof.Machine.execCdrLockLost n sig part ns first s
  | .ingressFrame k bytes broken ns first corr uncorr => Sys2Proof.Machine.execIngressFrame k bytes broken ns first corr uncorr s
  | .pfcFrameReceived k vec times => Sys2Proof.Machine.execPfcFrameReceived k vec times s
  | .pfcRepeatTimer k c => Sys2Proof.Machine.execPfcRepeatTimer k c s
  | .ianenLaneFrame n levels => Sys2Proof.Machine.execIanenLaneFrame n levels s
  | .ianenPacketStart n c => Sys2Proof.Machine.execIanenPacketStart n c s
  | .lanePrbsErrorInject r n words => Sys2Proof.Machine.execLanePrbsErrorInject r n words s
  | .dropPacketDelivery ch => Sys2Proof.Machine.execDropPacketDelivery ch s
  | .tableEntryWrite r off data be => Sys2Proof.Machine.execTableEntryWrite r off data be s
  | .emerge r => Sys2Proof.Machine.execEmerge r s
  | .enterRing r => Sys2Proof.Machine.execEnterRing r s
  | .holdoffExpiry p => Sys2Proof.Machine.execHoldoffExpiry p s
  | .reportWtrExpiry p => Sys2Proof.Machine.execReportWtrExpiry p s
  | .reportForce r p on => Sys2Proof.Machine.execReportForce r p on s
  | .restorationPlanApply => Sys2Proof.Machine.execRestorationPlanApply s
  | .planSwapTimeout p => Sys2Proof.Machine.execPlanSwapTimeout p s
  | .dpUnitRelease ch sfc diff => Sys2Proof.Machine.execDpUnitRelease ch sfc diff s
  | .proposeReceived p m atR => Sys2Proof.Machine.execProposeReceived p m atR s
  | .acceptReceived p m => Sys2Proof.Machine.execAcceptReceived p m s
  | .rejectReceived p m => Sys2Proof.Machine.execRejectReceived p m s
  | .confirmReceived p m => Sys2Proof.Machine.execConfirmReceived p m s
  | .abortReceived p m => Sys2Proof.Machine.execAbortReceived p m s
  | .proposerTimeout p => Sys2Proof.Machine.execProposerTimeout p s
  | .responderConfirmTimeout p => Sys2Proof.Machine.execResponderConfirmTimeout p s
  | .glideBoundariesPassed p => Sys2Proof.Machine.execGlideBoundariesPassed p s
  | .proposeRetryTimer p => Sys2Proof.Machine.execProposeRetryTimer p s
  | .unwrapSet r a => Sys2Proof.Machine.execUnwrapSet r a s
  | .unwrapMaster r a => Sys2Proof.Machine.execUnwrapMaster r a s
  | .unwrapKek r a => Sys2Proof.Machine.execUnwrapKek r a s
  | .plainKek r a => Sys2Proof.Machine.execPlainKek r a s
  | .derive r a => Sys2Proof.Machine.execDerive r a s
  | .setAct r a => Sys2Proof.Machine.execSetAct r a s
  | .setNxt r a => Sys2Proof.Machine.execSetNxt r a s
  | .switchKey r a => Sys2Proof.Machine.execSwitchKey r a s
  | .eraseSlot r a => Sys2Proof.Machine.execEraseSlot r a s
  | .eraseMaster r a => Sys2Proof.Machine.execEraseMaster r a s
  | .eraseKek r a => Sys2Proof.Machine.execEraseKek r a s
  | .sealSet r => Sys2Proof.Machine.execSealSet r s
  | .keyCommandDone => Sys2Proof.Machine.execKeyCommandDone s
  | .addSwitchBoundary ch => Sys2Proof.Machine.execAddSwitchBoundary ch s
  | .dropSwitchBoundary ch => Sys2Proof.Machine.execDropSwitchBoundary ch s
  | .retiringKeyExpiry ch => Sys2Proof.Machine.execRetiringKeyExpiry ch s
  | .verdictDeadline ch n => Sys2Proof.Machine.execVerdictDeadline ch n s
  | .verdictReportSend ch => Sys2Proof.Machine.execVerdictReportSend ch s
  | .resume r ch => Sys2Proof.Machine.execResume r ch s
  | .heldUnitRelease ch => Sys2Proof.Machine.execHeldUnitRelease ch s
  | .keyRotationTimer ch => Sys2Proof.Machine.execKeyRotationTimer ch s
  | .drbgReseed healthy => Sys2Proof.Machine.execDrbgReseed healthy s
  | .foscQualWindow count gap => Sys2Proof.Machine.execFoscQualWindow count gap s
  | .rclkStartupTimeout => Sys2Proof.Machine.execRclkStartupTimeout s
  | .apllLock => Sys2Proof.Machine.execApllLock s
  | .apllLockLost => Sys2Proof.Machine.execApllLockLost s
  | .clockMonitorWindow rclk xref dieBad => Sys2Proof.Machine.execClockMonitorWindow rclk xref dieBad s
  | .xrefGap => Sys2Proof.Machine.execXrefGap s
  | .controlClockSwitchDone => Sys2Proof.Machine.execControlClockSwitchDone s
  | .restoreTimer => Sys2Proof.Machine.execRestoreTimer s
  | .returnNow r => Sys2Proof.Machine.execReturnNow r s
  | .holdRefreshTimeout => Sys2Proof.Machine.execHoldRefreshTimeout s
  | .gateClose r domain => Sys2Proof.Machine.execGateClose r domain s
  | .gateCloseComplete idle stalled => Sys2Proof.Machine.execGateCloseComplete idle stalled s
  | .gateOpen r domain => Sys2Proof.Machine.execGateOpen r domain s
  | .gateOpenComplete => Sys2Proof.Machine.execGateOpenComplete s
  | .probeCfgWrite r value => Sys2Proof.Machine.execProbeCfgWrite r value s
  | .referencePresenceChange info edges => Sys2Proof.Machine.execReferencePresenceChange info edges s
  | .refMeasureComplete info => Sys2Proof.Machine.execRefMeasureComplete info s
  | .refWtrExpiry info => Sys2Proof.Machine.execRefWtrExpiry info s
  | .forceEnSet r idx => Sys2Proof.Machine.execForceEnSet r idx s
  | .dpllLockAchieved => Sys2Proof.Machine.execDpllLockAchieved s
  | .dpllMeasureDone dphi => Sys2Proof.Machine.execDpllMeasureDone dphi s
  | .dpllSwitchComplete => Sys2Proof.Machine.execDpllSwitchComplete s
  | .stepTime r x => Sys2Proof.Machine.execStepTime r x s
  | .ptpMessageReceived c m => Sys2Proof.Machine.execPtpMessageReceived c m s
  | .ptpSyncSend x shadow c => Sys2Proof.Machine.execPtpSyncSend x shadow c s
  | .announceTimeout x shadow => Sys2Proof.Machine.execAnnounceTimeout x shadow s
  | .grandmasterSwitch r x => Sys2Proof.Machine.execGrandmasterSwitch r x s
  | .servoUpdateTimeout x => Sys2Proof.Machine.execServoUpdateTimeout x s
  | .ppsOutEdge t => Sys2Proof.Machine.execPpsOutEdge t s
  | .ppsInEdge t part falling => Sys2Proof.Machine.execPpsInEdge t part falling s
  | .todOutSend => Sys2Proof.Machine.execTodOutSend s
  | .todInReceived bytes t => Sys2Proof.Machine.execTodInReceived bytes t s
  | .latchTime r t => Sys2Proof.Machine.execLatchTime r t s
  | .bootRomStart => Sys2Proof.Machine.execBootRomStart s
  | .configRestore => Sys2Proof.Machine.execConfigRestore s
  | .restoreEmergeWaitEnd => Sys2Proof.Machine.execRestoreEmergeWaitEnd s
  | .ping r x tag words => Sys2Proof.Machine.execPing r x tag words s
  | .getInfo r x tag words => Sys2Proof.Machine.execGetInfo r x tag words s
  | .fwWrite r x tag words image => Sys2Proof.Machine.execFwWrite r x tag words image s
  | .fwVerify r x tag words => Sys2Proof.Machine.execFwVerify r x tag words s
  | .fwMoult r x tag words => Sys2Proof.Machine.execFwMoult r x tag words s
  | .moultHandover => Sys2Proof.Machine.execMoultHandover s
  | .moultStandbyReady => Sys2Proof.Machine.execMoultStandbyReady s
  | .fwSetBoot r x tag words => Sys2Proof.Machine.execFwSetBoot r x tag words s
  | .fwCommitSvn r x tag words => Sys2Proof.Machine.execFwCommitSvn r x tag words s
  | .fwBoot r x tag words => Sys2Proof.Machine.execFwBoot r x tag words s
  | .cfgSave r x tag words => Sys2Proof.Machine.execCfgSave r x tag words s
  | .cfgClear r x tag words => Sys2Proof.Machine.execCfgClear r x tag words s
  | .linkUp r x tag words => Sys2Proof.Machine.execLinkUp r x tag words s
  | .linkDown r x tag words => Sys2Proof.Machine.execLinkDown r x tag words s
  | .glide r x tag words => Sys2Proof.Machine.execGlide r x tag words s
  | .planLoad r x tag words data => Sys2Proof.Machine.execPlanLoad r x tag words data s
  | .planDelete r x tag words => Sys2Proof.Machine.execPlanDelete r x tag words s
  | .planList r x tag words => Sys2Proof.Machine.execPlanList r x tag words s
  | .protStatus r x tag words => Sys2Proof.Machine.execProtStatus r x tag words s
  | .protHold r x tag words => Sys2Proof.Machine.execProtHold r x tag words s
  | .ptpPortCfg r x tag words => Sys2Proof.Machine.execPtpPortCfg r x tag words s
  | .ptpClockCfg r x tag words => Sys2Proof.Machine.execPtpClockCfg r x tag words s
  | .ptpDataset r x tag words => Sys2Proof.Machine.execPtpDataset r x tag words s
  | .pmRead r x tag words => Sys2Proof.Machine.execPmRead r x tag words s
  | .pmReadBulk r x tag words => Sys2Proof.Machine.execPmReadBulk r x tag words s
  | .pmRestart r x tag words => Sys2Proof.Machine.execPmRestart r x tag words s
  | .krStatus r x tag words => Sys2Proof.Machine.execKrStatus r x tag words s
  | .krRotateNow r x tag words => Sys2Proof.Machine.execKrRotateNow r x tag words s
  | .calRun r x tag words => Sys2Proof.Machine.execCalRun r x tag words s
  | .calStatus r x tag words => Sys2Proof.Machine.execCalStatus r x tag words s
  | .pwrCap r x tag words => Sys2Proof.Machine.execPwrCap r x tag words s
  | .pwrReport r x tag words => Sys2Proof.Machine.execPwrReport r x tag words s
  | .telStart r x tag words => Sys2Proof.Machine.execTelStart r x tag words s
  | .telStop r x tag words => Sys2Proof.Machine.execTelStop r x tag words s
  | .unknownOp r x op tag words => Sys2Proof.Machine.execUnknownOp r x op tag words s
  | .mailboxCommandDone x o => Sys2Proof.Machine.execMailboxCommandDone x o s
  | .mbxAbort r x => Sys2Proof.Machine.execMbxAbort r x s
  | .telemetryRecord ok => Sys2Proof.Machine.execTelemetryRecord ok s
  | .watchdogExpiry => Sys2Proof.Machine.execWatchdogExpiry s
  | .moultReq r => Sys2Proof.Machine.execMoultReq r s
  | .coreSelfTestDone pass => Sys2Proof.Machine.execCoreSelfTestDone pass s
  | .nmiCauseClear r bits => Sys2Proof.Machine.execNmiCauseClear r bits s
  | .dmaChannelRun r c => Sys2Proof.Machine.execDmaChannelRun r c s
  | .dmaDoorbell r c tail => Sys2Proof.Machine.execDmaDoorbell r c tail s
  | .dmaReadCompletion c desc x => Sys2Proof.Machine.execDmaReadCompletion c desc x s
  | .dmaDescriptorDone c => Sys2Proof.Machine.execDmaDescriptorDone c s
  | .dmaCompletionTimeout c desc => Sys2Proof.Machine.execDmaCompletionTimeout c desc s
  | .haltClr r => Sys2Proof.Machine.execHaltClr r s
  | .chReset r c => Sys2Proof.Machine.execChReset r c s
  | .arbiterDraw a askers len => Sys2Proof.Machine.execArbiterDraw a askers len s
  | .arbSeed r a value => Sys2Proof.Machine.execArbSeed r a value s
  | .arbMode r a mode => Sys2Proof.Machine.execArbMode r a mode s
  | .arbFreeze r a => Sys2Proof.Machine.execArbFreeze r a s
  | .arbFreezeExpiry a => Sys2Proof.Machine.execArbFreezeExpiry a s
  | .memoryLineCrcFail f who => Sys2Proof.Machine.execMemoryLineCrcFail f who s
  | .scrubPass corrected => Sys2Proof.Machine.execScrubPass corrected s
  | .seqRoundStart late => Sys2Proof.Machine.execSeqRoundStart late s
  | .conversionDone e x => Sys2Proof.Machine.execConversionDone e x s
  | .urgentConversionRequest r ch b => Sys2Proof.Machine.execUrgentConversionRequest r ch b s
  | .urgentConversionDone code => Sys2Proof.Machine.execUrgentConversionDone code s
  | .filterBankSwapRequest r e bank => Sys2Proof.Machine.execFilterBankSwapRequest r e bank s
  | .calTaskRunEnd t first second => Sys2Proof.Machine.execCalTaskRunEnd t first second s
  | .pmbusAlert => Sys2Proof.Machine.execPmbusAlert s
  | .avsNegativeSlack => Sys2Proof.Machine.execAvsNegativeSlack s
  | .evtStatusClear r page bits => Sys2Proof.Machine.execEvtStatusClear r page bits s
  | .evtForce r page bits => Sys2Proof.Machine.execEvtForce r page bits s
  | .msixMessageSend v => Sys2Proof.Machine.execMsixMessageSend v s
  | .counterLowRead r page off => Sys2Proof.Machine.execCounterLowRead r page off s
  | .flowCounterRead r idx => Sys2Proof.Machine.execFlowCounterRead r idx s
  | .flowWrappedClear r idx => Sys2Proof.Machine.execFlowWrappedClear r idx s
  | .fcTxLoRead r p => Sys2Proof.Machine.execFcTxLoRead r p s
  | .fcRxLoRead r p => Sys2Proof.Machine.execFcRxLoRead r p s
  | .timeNsRead r x t => Sys2Proof.Machine.execTimeNsRead r x t s
  | .ppsInNsRead r => Sys2Proof.Machine.execPpsInNsRead r s
  | .rcFieldRead r f => Sys2Proof.Machine.execRcFieldRead r f s
  | .snapshotRequest r atTick flows => Sys2Proof.Machine.execSnapshotRequest r atTick flows s
  | .snapshotCapture t => Sys2Proof.Machine.execSnapshotCapture t s
  | .snapshotDrainDone => Sys2Proof.Machine.execSnapshotDrainDone s
  | .eyespotComplete src stamps flags work => Sys2Proof.Machine.execEyespotComplete src stamps flags work s
  | .traceRecordDeliver => Sys2Proof.Machine.execTraceRecordDeliver s
  | .traceSeed r value => Sys2Proof.Machine.execTraceSeed r value s
  | .eclosionRequest r page groups b at_ cancel => Sys2Proof.Machine.execEclosionRequest r page groups b at_ cancel s
  | .eclosionCancel r page => Sys2Proof.Machine.execEclosionCancel r page s
  | .eclosionCommit page => Sys2Proof.Machine.execEclosionCommit page s
  | .pageSoftReset r page => Sys2Proof.Machine.execPageSoftReset r page s
  | .softResetSettleDone page => Sys2Proof.Machine.execSoftResetSettleDone page s
  | .pageFreeze r page => Sys2Proof.Machine.execPageFreeze r page s
  | .pageFreezeExpiry page => Sys2Proof.Machine.execPageFreezeExpiry page s
  | .partialBar0Write r off => Sys2Proof.Machine.execPartialBar0Write r off s
  | .errorResponseAccess a uncorrectable => Sys2Proof.Machine.execErrorResponseAccess a uncorrectable s
  | .smbusRead off t => Sys2Proof.Machine.execSmbusRead off t s
  | .smbusWrite off data => Sys2Proof.Machine.execSmbusWrite off data s
  | .smbusStatus => Sys2Proof.Machine.execSmbusStatus s
  | .registerWrite r off data => Sys2Proof.Machine.execRegisterWrite r off data s
  | .resetRelease => Sys2Proof.Machine.execResetRelease s
  | .pciePerstNRelease => Sys2Proof.Machine.execPciePerstNRelease s
  | .configurationRequestRetryEnd x => Sys2Proof.Machine.execConfigurationRequestRetryEnd x s
  | .analogReady d => Sys2Proof.Machine.execAnalogReady d s
  | .dpllLockLoss phase => Sys2Proof.Machine.execDpllLockLoss phase s
  | .pfcPauseExpiry k c => Sys2Proof.Machine.execPfcPauseExpiry k c s
  | .pcsAlignmentChange k aligned lf rf => Sys2Proof.Machine.execPcsAlignmentChange k aligned lf rf s
  | .lanePrbsLockChange n levels => Sys2Proof.Machine.execLanePrbsLockChange n levels s
  | .delayReqSend x shadow c => Sys2Proof.Machine.execDelayReqSend x shadow c s
  | .announceSend x shadow port => Sys2Proof.Machine.execAnnounceSend x shadow port s

end Sys2Proof.Machine
end

