-- ==== Sys2Proof/Safety.lean ====
section
/-! DEFINITION. What counts as a safe run, in the terms that the statements use: a command completes, an access is taken,
an event occurs, fields are kept. -/

namespace Sys2Proof.Machine

open F

/-- A command completes: `exec` answers a next state, neither a fault nor a refusal, and `P` holds of it. -/
def Completes (c : Instr) (s : State) (P : State → Prop) : Prop := ∃ t, exec c s = .next t ∧ P t

/-- A step is safe where it answers a next state. -/
def State.Safe (s : State) : Prop := ∃ t, step s = .next t

/-- A write to a page offset is taken: the control clock runs, and no cause of R469 turns it into an error response. -/
abbrev State.Takes (s : State) (r : Requester) (page off : Nat) : Prop :=
  s.clock.stopped = false ∧ s.accessCause r page off true = 0

/-- A read of a page offset is answered with a value. -/
abbrev State.Answers (s : State) (r : Requester) (page off : Nat) : Prop :=
  s.clock.stopped = false ∧ s.accessCause r page off false = 0

/-- RCLK runs (R316): the blocks of the line dies and of the hub work, and their counters count (R440). -/
abbrev State.Clocked (s : State) : Prop := s.rclkStopped = false

/-- An event has counted once (R443, R444). -/
abbrev Counted (e : Evt) (s t : State) : Prop := t.counter e.page e.off = (s.counter e.page e.off + 1) % 2 ^ 64

/-- An event that counts a quantity has counted it (R444). -/
abbrev CountedN (e : Evt) (n : Nat) (s t : State) : Prop := t.counter e.page e.off = (s.counter e.page e.off + n) % 2 ^ 64

/-- An event has set its status bit (R452). -/
abbrev Flagged (e : Evt) (t : State) : Prop := bitOf (t.rd (HDR.EVT_STATUS_EVENTS e.page)) e.bit = true

/-- Every register field reads as before, staged and active, but for the status bits and the non-maskable causes that
events set, and the fields named. -/
def KeepsFieldsBut (l : List Field) (s t : State) : Prop :=
  ∀ f : Field, f.quiet = true → (∀ g ∈ l, f.key ≠ g.key) → t.rd f = s.rd f ∧ t.rdA f = s.rdA f

/-- A field of the reference inputs, their selection and the DPLLs (R336, R337). -/
def refField (f : Field) : Prop := 8 ≤ f.page ∧ f.page ≤ 10

/-- The same, leaving aside the fields of the reference inputs and the DPLLs, which follow at once what an input rests on (R326 to
R334). -/
def KeepsFieldsButRefs (l : List Field) (s t : State) : Prop :=
  ∀ f : Field, f.quiet = true → ¬ refField f → (∀ g ∈ l, f.key ≠ g.key) → t.rd f = s.rd f ∧ t.rdA f = s.rdA f

/-- Every byte of the BAR2 windows and of the shared SRAM reads as before. -/
def KeepsMemory (s t : State) : Prop :=
  (∀ a, Memory.read t.bar2 a = Memory.read s.bar2 a) ∧ ∀ a, Memory.read t.sram a = Memory.read s.sram a

end Sys2Proof.Machine
end

