-- ==== Sys2Proof/Certificates/Slice0/Obligations.lean ====
section
/-! DEFINITION. The statements about the model, with the rules of spec/ that each rests on. -/

open Sys2Proof Sys2Proof.Machine Sys2Proof.Machine.F

/-- For every command c and state s whose queue is c followed by a rest, step s is exec of c on s with that rest as its
queue; with an empty queue step answers s itself, which is the model's choice of log entry 58. Rests on
spec/opcode_table.json. -/
def Obligations.AStepRunsTheFrontCommand : Prop :=
  (∀ (c : Instr) (rest : List Instr) (s : State), s.pending = c :: rest → step s = exec c { s with pending := rest }) ∧
  (∀ s : State, s.pending = [] → step s = .next s)

/-- For every command and every state, exec answers a next state: the specification gives each row of the table an effect
(log entry 23). Rests on spec/opcode_table.json. -/
def Obligations.NoCommandStops : Prop :=
  ∀ (c : Instr) (s : State), ∃ t, exec c s = .next t

/-- Whatever the command and the state, the next state that exec answers has the queue it was given: the queue is the
model's own field (log entry 59). Rests on spec/opcode_table.json. -/
def Obligations.CommandsLeaveTheQueue : Prop :=
  ∀ (c : Instr) (s t : State), exec c s = .next t → t.pending = s.pending

/-- After reset every field of the 47 pages reads its reset value, staged and active; every counter is 0; both ports are
DARK and IDLE; the node is out of the ring; the outputs are at their reset level; the link is down and the reset not
yet released (log entries 15 and 22 are the model's); no key slot, KEK or master key is held and SEALED is 0. Rests on
spec/16_register_conventions.md (R484); spec/09_channel_encryption.md (R284); spec/17_lifecycle.md (R488, R489). -/
def Obligations.ResetRegisterValues : Prop :=
  (∀ page, page < 47 → ∀ f ∈ pageFields page, State.reset.rd f = f.reset % 2 ^ f.width ∧ State.reset.rdA f = f.reset % 2 ^ f.width) ∧
  (∀ page off, State.reset.counter page off = 0) ∧
  (∀ p, State.reset.txSt p = txDark ∧ State.reset.acqSt p = acqIdle) ∧
  State.reset.inRing = false ∧ State.reset.pins = Pins.init ∧ State.reset.linkUp = false ∧ State.reset.clock.released = false ∧
  (∀ n, State.reset.keySlot n = KeySlot.init) ∧ (∀ k, State.reset.kekValid k = false) ∧
  (∀ m, Tab.get [] State.reset.masters m = []) ∧ State.reset.on CY_KEY.KEK_CTRL_SEALED = false

/-- If the bytes of the BAR2 windows and of the shared SRAM stand in canonical form (addresses strictly rising) and step
answers a next state, they do so in it. Rests on spec/13_dma_arbitration_memory.md (R408);
spec/16_register_conventions.md (R465). -/
def Obligations.MemoryStaysCanonical : Prop :=
  ∀ s t : State, (Memory.wf s.bar2 = true ∧ Memory.wf s.sram = true) → step s = .next t →
    Memory.wf t.bar2 = true ∧ Memory.wf t.sram = true

/-- After reset both memories are canonical and no byte of BAR2 is written, the two bypass outputs agree, and the queue is
empty. Rests on spec/13_dma_arbitration_memory.md (R408); spec/08_ring_operation.md (R259). -/
def Obligations.ResetMeetsTheInvariants : Prop :=
  Memory.wf State.reset.bar2 = true ∧ Memory.wf State.reset.sram = true ∧
  State.reset.pins.bypassHold.e = State.reset.pins.bypassHold.w ∧ (∀ a, Memory.read State.reset.bar2 a = none) ∧
  State.reset.pending = []

/-- If the two bypass outputs are at the same level and step answers a next state, they are at the same level in it. Rests
on spec/08_ring_operation.md (R259). -/
def Obligations.BypassOutputsAgree : Prop :=
  ∀ s t : State, s.pins.bypassHold.e = s.pins.bypassHold.w → step s = .next t → t.pins.bypassHold.e = t.pins.bypassHold.w

/-- The commands that may change a byte of the BAR2 windows or of the shared SRAM: writes to them, the DMA engine's channels,
the configuration restore, a plan's application, a failed memory line, and the resets that power the die down. -/
def storesMemory : Instr → Bool
  | .registerWrite .. | .smbusWrite .. | .tableEntryWrite .. | .arbiterDraw .. | .chReset .. | .haltClr .. | .dmaDoorbell ..
  | .dmaChannelRun .. | .dmaDescriptorDone .. | .dmaReadCompletion .. | .configRestore | .restorationPlanApply ..
  | .memoryLineCrcFail .. | .powerOnReset | .lossOfPower => true
  | _ => false

/-- Every command outside the list storesMemory (register, SMBus and table writes, arbiter draws, DMA work, the
configuration restore, a restoration plan, a failed memory line, power-on reset and loss of power) leaves every byte
of the BAR2 windows and of the shared SRAM. Rests on spec/16_register_conventions.md (R465 to R478);
spec/13_dma_arbitration_memory.md (R383 to R408); spec/12_control_complex.md (R367). -/
def Obligations.MemoryChangesOnlyByItsWriters : Prop :=
  ∀ (c : Instr) (s t : State), storesMemory c = false → exec c s = .next t →
    (∀ a, Memory.read t.bar2 a = Memory.read s.bar2 a) ∧ ∀ a, Memory.read t.sram a = Memory.read s.sram a

/-- The commands that may change a KEK or a master key: the completion of a key command, a failed memory line of their store,
and the resets that erase them. -/
def changesKeys : Instr → Bool
  | .keyCommandDone | .memoryLineCrcFail .. | .powerOnReset | .lossOfPower | .resetN .. | .internalPowerOnReset => true
  | _ => false

/-- Every command but the completion of a key command, a failed memory line and the four resets that erase them leaves
every KEK and every master key. Rests on spec/09_channel_encryption.md (R284, R300 to R305);
spec/13_dma_arbitration_memory.md (R407). -/
def Obligations.KeysChangeOnlyByKeyCommands : Prop :=
  ∀ (c : Instr) (s t : State), changesKeys c = false → exec c s = .next t →
    (∀ k, Tab.get [] t.keks k = Tab.get [] s.keks k) ∧ ∀ m, Tab.get [] t.masters m = Tab.get [] s.masters m

/-- The commands that may change the flash: the end of a mailbox command, an abort (also as a register write, over SMBus, by a
DMA descriptor or by a record of a restored copy), and a failed memory line of a slot. -/
def changesFlash : Instr → Bool
  | .mailboxCommandDone .. | .mbxAbort .. | .memoryLineCrcFail .. | .registerWrite .. | .smbusWrite .. | .arbiterDraw ..
  | .dmaReadCompletion .. | .configRestore => true
  | _ => false

/-- Every command but the end of a mailbox command, a mailbox abort (also as a register write, over SMBus, by a descriptor
or by a restored record) and a failed memory line leaves the boot flash as it was, resets included. Rests on
spec/12_control_complex.md (R363 to R377). -/
def Obligations.FlashChangesOnlyThroughMailboxes : Prop :=
  ∀ (c : Instr) (s t : State), changesFlash c = false → exec c s = .next t → t.flash = s.flash

/-- An event can occur: its page's counters are not held by a stopped RCLK (R440). -/
abbrev Occurs (s : State) (e : Evt) : Prop := (otherDie e.page && s.rclkStopped) = false

/-- An event of a non-zero quantity that can occur adds it to its own counter modulo 2^64 and sets its EVT_STATUS bit;
every other counter but that of the INT_N assertion, the EVT_STATUS of every other page but MG_OBS, and every other
field stay, and only registers, counters, MSI-X latches and INT_N may differ. With RCLK stopped, an event of another
die changes no counter and no status but those of INT_N. Rests on spec/15_observability.md (R440, R443, R444, R452,
R455). -/
def Obligations.EventsCountAndShow : Prop :=
  (∀ (e : Evt) (n : Nat) (s : State), n ≠ 0 → Occurs s e → e.bit < 32 →
    e.page * 4096 + e.off ≠ 5 * 4096 + Ev.MG_OBS.intN.off →
    CountedN e n s (s.raiseN e n) ∧ Flagged e (s.raiseN e n) ∧
    (∀ q o, q * 4096 + o ≠ e.page * 4096 + e.off → q * 4096 + o ≠ 5 * 4096 + Ev.MG_OBS.intN.off →
      (s.raiseN e n).counter q o = s.counter q o) ∧
    (∀ q, q ≠ e.page → q ≠ 5 → (s.raiseN e n).rd (HDR.EVT_STATUS_EVENTS q) = s.rd (HDR.EVT_STATUS_EVENTS q)) ∧
    KeepsFieldsBut [] s (s.raiseN e n) ∧ s.EventFrame (s.raiseN e n)) ∧
  (∀ (e : Evt) (n : Nat) (s : State), (otherDie e.page && s.rclkStopped) = true →
    (∀ q o, q * 4096 + o ≠ 5 * 4096 + Ev.MG_OBS.intN.off → (s.raiseN e n).counter q o = s.counter q o) ∧
    (∀ q, q ≠ 5 → (s.raiseN e n).rd (HDR.EVT_STATUS_EVENTS q) = s.rd (HDR.EVT_STATUS_EVENTS q)))

/-- A taken write to EVT_FORCE with a non-maskable bit sets that bit, sets NMI_CAUSE and NMI_PAGE, drives NMI_N low, and
latches vector 0; forcing CK_SYN bit 2 signals an RCLK failure and leaves the clocks as they are; a write that names
no event of the page changes no status bit of it and no counter but that of INT_N. Rests on spec/15_observability.md
(R454). -/
def Obligations.ForcedEvents : Prop :=
  (∀ (r : Requester) (page : Fin 47) (b : Word) (s : State) (i : Nat), s.Takes r page.val 0x018 → i < 32 →
    page.val ≠ 7 → bitOf b.toNat i = true → bitOf (Ev.nonMaskable page.val) i = true →
    Completes (.evtForce r page b) s fun t =>
      bitOf (t.rd (HDR.EVT_STATUS_EVENTS page.val)) i = true ∧ t.on MG_CTL.NMI_CAUSE_EXHAUSTED = true ∧
      t.rd MG_CTL.NMI_PAGE_PAGE = page.val ∧ t.nmiLow = true ∧ t.msixLatch.contains 0 = true ∧ t.out = s.out) ∧
  (∀ (r : Requester) (b : Word) (s : State), s.Takes r 7 0x018 → bitOf b.toNat 2 = true →
    Completes (.evtForce r 7 b) s fun t =>
      t.on MG_CTL.NMI_CAUSE_RCLK_FAIL = true ∧ t.nmiLow = true ∧ t.msixLatch.contains 0 = true ∧ t.clock = s.clock ∧
      t.on CK_SYN.SYN_STATUS_RCLK_OK = s.on CK_SYN.SYN_STATUS_RCLK_OK ∧ t.rclkStopped = s.rclkStopped) ∧
  (∀ (r : Requester) (page : Fin 47) (b : Word) (s : State), s.Takes r page.val 0x018 → page.val ≠ 5 →
    b.toNat &&& Ev.defined page.val = 0 →
    Completes (.evtForce r page b) s fun t =>
      t.rd (HDR.EVT_STATUS_EVENTS page.val) = s.rd (HDR.EVT_STATUS_EVENTS page.val) ∧
      (∀ q o, q * 4096 + o ≠ 5 * 4096 + Ev.MG_OBS.intN.off → t.counter q o = s.counter q o))

/-- The EXHAUSTED events of the device (R21). -/
def exhaustedEvents : List Evt :=
  [Ev.CY_PIPE.exhausted, Ev.MG_CTL.exhausted, Ev.MON_SEQ.exhausted, Ev.PWR_MGR.detExhausted] ++
    [Port.E, Port.W].flatMap fun p =>
      [Ev.TX.exhausted p, Ev.RXEQ.exhausted p, Ev.DEMAP.exhausted p, Ev.FEC.exhausted p] ++
        [0, 1, 2, 3].flatMap fun c => [Ev.TXCONV.exhausted p c, Ev.RXCONV.exhausted p c]

/-- Any event whose bit its page marks non-maskable (every EXHAUSTED bit; CK_SYN apart) drives NMI_N low, sets the
EXHAUSTED cause and names its page, and latches vector 0; so it does whatever values EVT_MASK and EVT_NMI_SEL of its
page are given before. States R21. -/
def Obligations.NonMaskableEvents : Prop :=
  (∀ e ∈ exhaustedEvents, e.page < 47 ∧ e.page ≠ 7 ∧ e.bit < 32 ∧ bitOf (Ev.nonMaskable e.page) e.bit = true) ∧
  (∀ (e : Evt) (s : State), Occurs s e → e.bit < 32 → e.page < 47 → e.page ≠ 7 →
    bitOf (Ev.nonMaskable e.page) e.bit = true →
    (s.raise e).nmiLow = true ∧ (s.raise e).on MG_CTL.NMI_CAUSE_EXHAUSTED = true ∧
    (s.raise e).rd MG_CTL.NMI_PAGE_PAGE = e.page ∧ (s.raise e).msixLatch.contains 0 = true) ∧
  (∀ (e : Evt) (s : State) (mask sel : Nat), Occurs s e → e.bit < 32 → e.page < 47 → e.page ≠ 7 →
    bitOf (Ev.nonMaskable e.page) e.bit = true →
    let q := (s.wr (HDR.EVT_MASK_MASK e.page) mask).wr (HDR.EVT_NMI_SEL_NMI_SEL e.page) sel
    (q.raise e).nmiLow = true ∧ (q.raise e).msixLatch.contains 0 = true)

/-- After power-on reset, and after a RESET_N pulse of at least 1000 ns, every key slot is empty, every master key and KEK
is erased and not valid, SEALED is 0, and no channel has an active key; the flash that CFG_SAVE writes is the same
whatever keys the state holds; and a configuration restore changes neither KEKs nor master keys. States R284. -/
def Obligations.ResetsEraseTheKeys : Prop :=
  (∀ s : State, Completes .powerOnReset s fun t =>
    (∀ n, t.keySlot n = KeySlot.init) ∧ (∀ m, Tab.get [] t.masters m = []) ∧ (∀ k, Tab.get [] t.keks k = [] ∧ t.kekValid k = false) ∧
    t.on CY_KEY.KEK_CTRL_SEALED = false ∧ ∀ ch, (t.chanKey ch).txAct = noSlot ∧ (t.chanKey ch).rxAct = noSlot) ∧
  (∀ (n : Nat) (s : State), 1000 ≤ n → Completes (.resetN n) s fun t =>
    (∀ n, t.keySlot n = KeySlot.init) ∧ (∀ m, Tab.get [] t.masters m = []) ∧ (∀ k, Tab.get [] t.keks k = [] ∧ t.kekValid k = false) ∧
    t.on CY_KEY.KEK_CTRL_SEALED = false ∧ ∀ ch, (t.chanKey ch).txAct = noSlot ∧ (t.chanKey ch).rxAct = noSlot) ∧
  (∀ (policy : Nat) (slots : Tab KeySlot) (keks masters : Tab (List Nat)) (s : State),
    ({ s with keySlots := slots, keks := keks, masters := masters }.cfgSave policy).1.flash = (s.cfgSave policy).1.flash) ∧
  (∀ s : State, Completes .configRestore s fun t => t.keks = s.keks ∧ t.masters = s.masters)

/-- The transmit staged configuration is invalid if BASE or CODE_RATE is 3, SHAPED is 1 on a QPSK base, E lies outside the
range of a shaped base, RATE_Q or ROLLOFF is out of range, or the slot count is 0, and DERIVED.STAGED_VALID then reads
0 on an unfrozen page; the receive one if RATE_Q, ROLLOFF, W against W_max, FREQ_GHZ or the scan range is out of
range, and RX_DERIVED.STAGED_VALID then reads 0. States R61 and R92. -/
def Obligations.StagedConfigurationsThatAreInvalid : Prop :=
  (∀ (p : Port) (s : State), s.rd (TX.MOD_CFG_BASE p) = 3 → s.txStagedValid p = false) ∧
  (∀ (p : Port) (s : State), s.rd (TX.MOD_CFG_CODE_RATE p) = 3 → s.txStagedValid p = false) ∧
  (∀ (p : Port) (s : State), s.rd (TX.MOD_CFG_SHAPED p) = 1 → s.rd (TX.MOD_CFG_BASE p) = 0 → s.txStagedValid p = false) ∧
  (∀ (p : Port) (s : State), s.rd (TX.MOD_CFG_SHAPED p) = 1 → s.rd (TX.MOD_CFG_BASE p) = 1 →
    (s.rd (TX.MOD_CFG_ENTROPY_E p) < 96 ∨ 252 < s.rd (TX.MOD_CFG_ENTROPY_E p)) → s.txStagedValid p = false) ∧
  (∀ (p : Port) (s : State), s.rd (TX.MOD_CFG_SHAPED p) = 1 → s.rd (TX.MOD_CFG_BASE p) = 2 →
    (s.rd (TX.MOD_CFG_ENTROPY_E p) < 128 ∨ 358 < s.rd (TX.MOD_CFG_ENTROPY_E p)) → s.txStagedValid p = false) ∧
  (∀ (p : Port) (s : State), (s.rd (TX.SYM_RATE_RATE_Q p) < 240 ∨ 1088 < s.rd (TX.SYM_RATE_RATE_Q p)) →
    s.txStagedValid p = false) ∧
  (∀ (p : Port) (s : State), (s.rd (TX.SHAPE_CFG_ROLLOFF p) = 0 ∨ 50 < s.rd (TX.SHAPE_CFG_ROLLOFF p)) →
    s.txStagedValid p = false) ∧
  (∀ (p : Port) (s : State), (s.txModeStaged p).slots = 0 → s.txStagedValid p = false) ∧
  (∀ (r : Requester) (p : Port) (s : State), s.on (HDR.CTRL_FREEZE (31 + 8 * p.toNat)) = false → s.txStagedValid p = false →
    bitOf (s.pageWord r (31 + 8 * p.toNat) (TX.DERIVED_STAGED_VALID p).off) (TX.DERIVED_STAGED_VALID p).lsb = false) ∧
  (∀ (p : Port) (s : State), (s.rd (RXFE.SYM_RATE_RATE_Q p) < 240 ∨ 1088 < s.rd (RXFE.SYM_RATE_RATE_Q p)) →
    s.rxStagedValid p = false) ∧
  (∀ (p : Port) (s : State), (s.rd (RXFE.SHAPE_CFG_ROLLOFF p) = 0 ∨ 50 < s.rd (RXFE.SHAPE_CFG_ROLLOFF p)) →
    s.rxStagedValid p = false) ∧
  (∀ (p : Port) (s : State), wMax (s.rxModeStaged p) (s.rd (RXFE.CARRIER_FREQ_GHZ p)) < s.rd (RXFE.CD_WINDOW_W p) →
    s.rxStagedValid p = false) ∧
  (∀ (p : Port) (s : State), (s.rd (RXFE.CARRIER_FREQ_GHZ p) < 186000 ∨ 197000 < s.rd (RXFE.CARRIER_FREQ_GHZ p)) →
    s.rxStagedValid p = false) ∧
  (∀ (p : Port) (s : State),
    s.rd (RXFE.CD_WINDOW_W p) < (s.rdI (RXFE.CD_SCAN_CENTRE p)).natAbs + s.rd (RXFE.CD_SCAN_HALF p) →
    s.rxStagedValid p = false) ∧
  (∀ (r : Requester) (p : Port) (s : State), s.on (HDR.CTRL_FREEZE (33 + 8 * p.toNat)) = false → s.rxStagedValid p = false →
    bitOf (s.pageWord r (33 + 8 * p.toNat) (RXFE.RX_DERIVED_STAGED_VALID p).off) (RXFE.RX_DERIVED_STAGED_VALID p).lsb = false)

/-- A taken clearing write clears exactly the status bits written 1, and a taken forcing write sets exactly the defined
bits written 1 and changes no counter but that of INT_N (the bits of MG_OBS that the writes themselves raise apart); a
latched vector that is unmasked, with the link up and MSI-X enabled, is sent and its latch alone cleared. Rests on
spec/15_observability.md (R452, R454, R456). -/
def Obligations.EventRegistersAndMsix : Prop :=
  (∀ (r : Requester) (page : Fin 47) (b : Word) (s : State) (i : Nat), s.Takes r page.val 0x010 → i < 32 →
    (page.val = 5 → i ≠ Ev.MG_OBS.latchByClear.bit ∧ i ≠ Ev.MG_OBS.intN.bit) →
    Completes (.evtStatusClear r page b) s fun t =>
      bitOf (t.rd (HDR.EVT_STATUS_EVENTS page.val)) i = (bitOf (s.rd (HDR.EVT_STATUS_EVENTS page.val)) i && !bitOf b.toNat i) ∧
      KeepsFieldsBut [] s t) ∧
  (∀ (r : Requester) (page : Fin 47) (b : Word) (s : State) (i : Nat), s.Takes r page.val 0x018 → i < 32 →
    (page.val = 5 → i ≠ Ev.MG_OBS.intN.bit) →
    Completes (.evtForce r page b) s fun t =>
      bitOf (t.rd (HDR.EVT_STATUS_EVENTS page.val)) i =
        (bitOf (s.rd (HDR.EVT_STATUS_EVENTS page.val)) i || (bitOf b.toNat i && bitOf (Ev.defined page.val) i)) ∧
      (∀ q o, q * 4096 + o ≠ 5 * 4096 + Ev.MG_OBS.intN.off → t.counter q o = s.counter q o) ∧ KeepsFieldsBut [] s t) ∧
  (∀ (v : Fin 64) (s : State), s.msixLatch.contains v.val = true → s.linkUp = true → s.msixEnable = true →
    s.msixFnMask = false → bitOf (s.msixWord (4 * v.val + 3)) 0 = false →
    Completes (.msixMessageSend v) s fun t => t.out = .msix v.val :: s.out ∧ t.msixLatch.contains v.val = false ∧
      (∀ w, w ≠ v.val → t.msixLatch.contains w = s.msixLatch.contains w) ∧
      t = { s with out := t.out, msixLatch := t.msixLatch })

/-- An answered read of a counter, flow counter, frame counter, time base or PPS stamp puts out the low part and fills the
reader's own latches with the rest of the same value; a wrapped-flag clear keeps the low 48 bits; a read of STORE_PEAK
or URG_RESULT.DONE puts out the word and clears the field; nothing else changes. Rests on spec/06_line_frame.md
(R184); spec/11_time_distribution.md (R357, R358); spec/15_observability.md (R443, R445);
spec/16_register_conventions.md (R470, R477). -/
def Obligations.ReadsThatLatchOrClear : Prop :=
  (∀ (r : Requester) (page : Fin 47) (off : BitVec 12) (s : State), isCounter page.val off.toNat = true →
    s.Answers r page.val off.toNat →
    Completes (.counterLowRead r page off) s fun t =>
      t.out = .read r (s.counter page.val off.toNat % 2 ^ 32) false :: s.out ∧
      t.getLatch r (cntHiLatch page.val) = s.counter page.val off.toNat / 2 ^ 32 ∧
      t = { s with out := t.out, latch := t.latch }) ∧
  (∀ (r : Requester) (idx : Fin 131072) (s : State), r ≠ .smbus → s.clock.stopped = false →
    Completes (.flowCounterRead r idx) s fun t =>
      t.out = .read r (Tab.get 0 s.flowCnt idx.val % 2 ^ 32) false :: s.out ∧
      t.getLatch r flowLatch = Tab.get 0 s.flowCnt idx.val / 2 ^ 32 ∧ t = { s with out := t.out, latch := t.latch }) ∧
  (∀ (r : Requester) (idx : Fin 131072) (s : State), r ≠ .smbus → s.clock.stopped = false →
    Completes (.flowWrappedClear r idx) s fun t =>
      Tab.get 0 t.flowCnt idx.val = Tab.get 0 s.flowCnt idx.val % 2 ^ 48 ∧
      (∀ j, j ≠ idx.val → Tab.get 0 t.flowCnt j = Tab.get 0 s.flowCnt j) ∧ t = { s with flowCnt := t.flowCnt }) ∧
  (∀ (r : Requester) (p : Port) (s : State), s.Answers r (19 + p.toNat) 0x05C → s.on (HDR.CTRL_FREEZE (19 + p.toNat)) = false →
    Completes (.fcTxLoRead r p) s fun t => t.out = .read r ((s.frame.get p).fcTx % 2 ^ 32) false :: s.out ∧
      t.getLatch r (fcTxLatch p) = (s.frame.get p).fcTx / 2 ^ 32 ∧ t = { s with out := t.out, latch := t.latch }) ∧
  (∀ (r : Requester) (p : Port) (s : State), s.Answers r (19 + p.toNat) 0x064 → s.on (HDR.CTRL_FREEZE (19 + p.toNat)) = false →
    Completes (.fcRxLoRead r p) s fun t => t.out = .read r ((s.frame.get p).fcRx % 2 ^ 32) false :: s.out ∧
      t.getLatch r (fcRxLatch p) = (s.frame.get p).fcRx / 2 ^ 32 ∧ t = { s with out := t.out, latch := t.latch }) ∧
  (∀ (r : Requester) (x : Fin 4) (n : Nat) (s : State), s.Answers r (11 + x.val) 0x070 →
    s.getLatch r (timeLatch x.val 3) < 2 ^ 32 →
    Completes (.timeNsRead r x n) s fun t =>
      t.out = .read r ((s.tbAt x.val (max s.tclk n)).sub / nsU) false :: s.out ∧
      t.getLatch r (timeLatch x.val 0) = (s.tbAt x.val (max s.tclk n)).sub % nsU ∧
      t.getLatch r (timeLatch x.val 1) = (s.tbAt x.val (max s.tclk n)).sec % 2 ^ 32 ∧
      t.getLatch r (timeLatch x.val 2) = (s.tbAt x.val (max s.tclk n)).sec / 2 ^ 32 ∧
      t = { s with out := t.out, latch := t.latch, tclk := max s.tclk n }) ∧
  (∀ (r : Requester) (s : State), s.Answers r 15 0x048 → s.on (HDR.CTRL_FREEZE 15) = false →
    Completes (.ppsInNsRead r) s fun t =>
      t.out = .read r (s.rd TS_STAMP.PPS_IN_NS_NS) false :: s.out ∧ t.getLatch r ppsLatch = s.rd TS_STAMP.PPS_IN_S_S ∧
      t = { s with out := t.out, latch := t.latch }) ∧
  (∀ (r : Requester) (p : Port) (s : State), s.Answers r (38 + 8 * p.toNat) 0x050 →
    Completes (.rcFieldRead r (.storePeak p)) s fun t =>
      t.out = .read r (s.pageWord r (38 + 8 * p.toNat) 0x050) false :: s.out ∧ t.rd (FEC.STORE_PEAK p) = 0 ∧
      KeepsFieldsBut [FEC.STORE_PEAK p] s t ∧ t = { s with out := t.out, regs := t.regs }) ∧
  (∀ (r : Requester) (s : State), s.Answers r 17 0x054 →
    Completes (.rcFieldRead r .urgDone) s fun t =>
      t.out = .read r (s.pageWord r 17 0x054) false :: s.out ∧ t.rd MON_SEQ.URG_RESULT_DONE = 0 ∧
      KeepsFieldsBut [MON_SEQ.URG_RESULT_DONE] s t ∧ t = { s with out := t.out, regs := t.regs })

/-- A snapshot request is taken when none is busy and refused with its count otherwise; the capture stores every selected
counter at one instant without changing it; the drain shows the capture in the windows of a PCIe request only; an
eyespot's end appends its record; a delivery writes the oldest record to the host ring and advances the write index,
drops and counts it where the ring is full, and waits while channel 14 does not run or has an error; a seed loads the
six LFSRs. Rests on spec/15_observability.md (R447, R449, R458, R459, R461, R462). -/
def Obligations.SnapshotsAndTraceRecords : Prop :=
  (∀ (r : Requester) (atTick flows : Bool) (s : State), s.Takes r 5 0x040 → s.on MG_OBS.SNAP_STATUS_BUSY = false →
    Completes (.snapshotRequest r atTick flows) s fun t =>
      t.on MG_OBS.SNAP_STATUS_BUSY = true ∧ t.on MG_OBS.SNAP_STATUS_DONE = false ∧ t.rd MG_OBS.SNAP_STATUS_RESULT = 0 ∧
      KeepsFieldsBut [MG_OBS.SNAP_STATUS_BUSY, MG_OBS.SNAP_STATUS_DONE, MG_OBS.SNAP_STATUS_RESULT, MG_OBS.SNAP_STATUS_SEQ] s t ∧
      t = { s with regs := t.regs, snapReq := bit atTick + 2 * bit flows + 16 * r.toNat }) ∧
  (∀ (r : Requester) (atTick flows : Bool) (s : State), s.Takes r 5 0x040 → s.on MG_OBS.SNAP_STATUS_BUSY = true →
    Completes (.snapshotRequest r atTick flows) s fun t =>
      t.rd MG_OBS.SNAP_STATUS_RESULT = 1 ∧ Counted Ev.MG_OBS.snapRefused s t ∧ t.snapReq = s.snapReq ∧
      t.on MG_OBS.SNAP_STATUS_BUSY = true ∧ s.EventFrame t) ∧
  (∀ (n : Nat) (s : State), s.Clocked → s.on MG_OBS.SNAP_STATUS_BUSY = true → bitOf s.snapReq 2 = false →
    (if bitOf s.snapReq 0 then bitOf s.snapReq 3 = true else s.on (MG_MEM.ARB_CFG_FREEZE 2) = false) →
    Completes (.snapshotCapture n) s fun t =>
      bitOf t.snapReq 2 = true ∧ t.tclk = (if bitOf s.snapReq 0 then s.tclk else max s.tclk n) ∧
      (∀ page off, isCounter page off = true → s.snapSelected page = true →
        Tab.get 0 t.snapCap (0x2000 * page + 2 * off) = s.counter page off) ∧
      (bitOf s.snapReq 1 = true → t.snapCapFlow = s.flowCnt) ∧
      t.rd MG_OBS.SNAP_TCLK_LO_TCLK = t.tclk % 2 ^ 32 ∧ t.rd MG_OBS.SNAP_TCLK_HI_TCLK = t.tclk / 2 ^ 32 % 2 ^ 32 ∧
      t.rd MG_OBS.SNAP_TICK_TICKS = s.rd MG_CTL.TICK_COUNT_TICKS % 2 ^ 32 ∧
      t.rd MG_OBS.SNAP_TIME_NS_NS = (s.tbAt (s.rd MG_OBS.SNAP_TB_TB_SEL) t.tclk).sub / nsU % 2 ^ 30 ∧
      t.rd MG_OBS.SNAP_TIME_S_S = (s.tbAt (s.rd MG_OBS.SNAP_TB_TB_SEL) t.tclk).sec % 2 ^ 32 ∧
      KeepsFieldsBut [MG_OBS.SNAP_TCLK_LO_TCLK, MG_OBS.SNAP_TCLK_HI_TCLK, MG_OBS.SNAP_TICK_TICKS, MG_OBS.SNAP_TIME_NS_NS,
        MG_OBS.SNAP_TIME_S_S] s t ∧
      t = { s with regs := t.regs, tclk := t.tclk, snapReq := t.snapReq, snapCap := t.snapCap, snapCapFlow := t.snapCapFlow }) ∧
  (∀ (s : State), s.on MG_OBS.SNAP_STATUS_BUSY = true → bitOf s.snapReq 2 = true →
    Completes .snapshotDrainDone s fun t =>
      t.on MG_OBS.SNAP_STATUS_BUSY = false ∧ t.on MG_OBS.SNAP_STATUS_DONE = true ∧ Counted Ev.MG_OBS.snapDone s t ∧
      (s.snapReq / 16 = Requester.pcie.toNat → t.snapPage = s.snapCap ∧
        t.snapFlow = if bitOf s.snapReq 1 then s.snapCapFlow else s.snapFlow) ∧
      (s.snapReq / 16 = Requester.core0.toNat ∨ s.snapReq / 16 = Requester.core1.toNat → t.snapPage = s.snapPage ∧ t.snapFlow = s.snapFlow)) ∧
  (∀ (src : Fin 6) (stamps : List Nat) (flags work : Nat) (e : Eyespot) (s : State), s.Clocked →
    s.flightOf src.val = some e → s.trace.buffer.length < 256 →
    Completes (.eyespotComplete src stamps flags work) s fun t =>
      t.flightOf src.val = none ∧ t.trace.buffer.length = s.trace.buffer.length + 1 ∧
      (t.trace.buffer.getLast?.map fun x => (x.source, x.seq, x.stamps)) = some (e.source, e.seq, (stamps ++ List.replicate 9 0xFFFFFFFF).take 9) ∧
      t = { s with trace := t.trace }) ∧
  (∀ (e : Eyespot) (rest : List Eyespot) (s : State), s.trace.buffer = e :: rest → s.serviceRuns 14 = true →
    s.serviceError 14 = none →
    (s.rd MG_OBS.TRACE_WR_WR % s.traceSize + 1) % s.traceSize ≠ s.rd MG_OBS.TRACE_RD_RD % s.traceSize →
    Completes .traceRecordDeliver s fun t => t.trace.buffer = rest ∧
      t.out = .host (s.traceBase + 128 * (s.rd MG_OBS.TRACE_WR_WR % s.traceSize)) e.bytes :: s.out ∧
      t.rd MG_OBS.TRACE_WR_WR = (s.rd MG_OBS.TRACE_WR_WR % s.traceSize + 1) % s.traceSize ∧
      Counted Ev.MG_OBS.recordDelivered s t ∧ KeepsFieldsBut [MG_OBS.TRACE_WR_WR] s t) ∧
  (∀ (s : State), s.serviceRuns 14 = false ∨ s.serviceError 14 ≠ none →
    Completes .traceRecordDeliver s fun t => t = s) ∧
  (∀ (e : Eyespot) (rest : List Eyespot) (s : State), s.trace.buffer = e :: rest → s.serviceRuns 14 = true →
    s.serviceError 14 = none →
    (s.rd MG_OBS.TRACE_WR_WR % s.traceSize + 1) % s.traceSize = s.rd MG_OBS.TRACE_RD_RD % s.traceSize →
    Completes .traceRecordDeliver s fun t => t.trace.buffer = rest ∧ t.out = s.out ∧ Counted Ev.MG_OBS.ringFull s t) ∧
  (∀ (r : Requester) (v : Word) (s : State), s.Takes r 5 0x088 →
    Completes (.traceSeed r v) s fun t =>
      (∀ src, src < 6 → t.traceLfsr src = if (v.toNat + src) % 2 ^ 32 = 0 then 1 else (v.toNat + src) % 2 ^ 32) ∧
      t.rd MG_OBS.TRACE_SEED_SEED = v.toNat ∧ KeepsFieldsBut [MG_OBS.TRACE_SEED_SEED] s t)

/-- A soft reset of a disabled page that allows it leaves every RW field at its reset value with the page settling; any
other is dropped with a lock violation of cause 1; the settling ends by its own command; a freeze makes every
freezable field of the page read its value of that moment, and its expiry ends that. Rests on
spec/16_register_conventions.md (R472, R473). -/
def Obligations.SoftResetAndFreezeOfAPage : Prop :=
  (∀ (r : Requester) (page : Fin 47) (s : State), s.Takes r page.val 0x008 → softResetOk page.val = true →
    s.pageEnabled page.val = false →
    Completes (.pageSoftReset r page) s fun t =>
      (∀ f ∈ pageFields page.val, f.acc = .rwLv ∨ f.acc = .rwLk ∨ f.acc = .rwSh → t.rd f = f.reset) ∧
      t.rd (HDR.STAGE_STATUS_PENDING page.val) = 0 ∧ t.settling.contains page.val = true ∧ t.act = s.act ∧
      (∀ e ∈ t.ecl, e.2.groups &&& pageGroups page.val = 0)) ∧
  (∀ (r : Requester) (page : Fin 47) (s : State), s.Takes r page.val 0x008 →
    (softResetOk page.val = false ∨ s.pageEnabled page.val = true) →
    Completes (.pageSoftReset r page) s fun t =>
      t.rd (HDR.LOCK_VIOL_VIOL page.val) = 1 ∧ t.rd (HDR.LOCK_VIOL_CAUSE page.val) = 1 ∧
      t.rd (HDR.LOCK_VIOL_MASTER page.val) = r.toNat ∧
      KeepsFieldsBut [HDR.LOCK_VIOL_VIOL page.val, HDR.LOCK_VIOL_CAUSE page.val, HDR.LOCK_VIOL_MASTER page.val,
        HDR.LOCK_VIOL_LOCATION page.val] s t ∧ t = { s with regs := t.regs }) ∧
  (∀ (page : Fin 47) (s : State), s.clock.stopped = false → (rclkPage page.val = true → s.Clocked) →
    Completes (.softResetSettleDone page) s fun t => t.settling.contains page.val = false ∧
      (∀ q, q ≠ page.val → t.settling.contains q = s.settling.contains q) ∧ t = { s with settling := t.settling }) ∧
  (∀ (r : Requester) (page : Fin 47) (s : State), s.Takes r page.val 0x008 → s.on (HDR.CTRL_FREEZE page.val) = false →
    Completes (.pageFreeze r page) s fun t =>
      t.on (HDR.CTRL_FREEZE page.val) = true ∧
      (∀ q, ∀ f ∈ blockFields page.val, freezable f = true → t.fieldRead q f = s.liveField f) ∧
      KeepsFieldsBut [HDR.CTRL_FREEZE page.val] s t ∧ t = { s with regs := t.regs, held := t.held }) ∧
  (∀ (page : Fin 47) (s : State),
    Completes (.pageFreezeExpiry page) s fun t =>
      t.on (HDR.CTRL_FREEZE page.val) = false ∧
      (∀ q, ∀ f ∈ blockFields page.val, freezable f = true → t.fieldRead q f = t.liveField f) ∧
      KeepsFieldsBut [HDR.CTRL_FREEZE page.val] s t ∧ t = { s with regs := t.regs, held := t.held })

/-- A request whose code is 0 is pending and changes no active value; one with another code shows it and counts a refusal;
a request that names no group has code 3; a cancel removes the pending request with result 7; a due commit gives every
field of every group its staged value as its active value. Rests on spec/16_register_conventions.md (R481, R483). -/
def Obligations.EclosionRequestsAndCommits : Prop :=
  (∀ (r : Requester) (page : Fin 47) (groups : BitVec 10) (b : BitVec 3) (at_ : BitVec 16) (s : State),
    s.Takes r page.val 0x020 → s.eclosionCode page.val groups.toNat b.toNat at_.toNat = 0 →
    Completes (.eclosionRequest r page groups b at_ false) s fun t =>
      t.rd (HDR.STAGE_STATUS_PENDING page.val) = 1 ∧ t.rd (HDR.STAGE_STATUS_DONE page.val) = 0 ∧
      t.rd (HDR.STAGE_STATUS_RESULT page.val) = 0 ∧
      (t.ecl.find? fun e => e.1 = eclKey page.val groups.toNat) =
        some (eclKey page.val groups.toNat, ⟨groups.toNat, b.toNat, at_.toNat, false, false⟩) ∧
      (∀ k, k ≠ eclKey page.val groups.toNat → Tab.has t.ecl k = Tab.has s.ecl k) ∧ t.act = s.act ∧
      t = { s.mbxStageWrite r page.val with regs := t.regs, ecl := t.ecl }) ∧
  (∀ (r : Requester) (page : Fin 47) (groups : BitVec 10) (b : BitVec 3) (at_ : BitVec 16) (s : State),
    s.Takes r page.val 0x020 → s.eclosionCode page.val groups.toNat b.toNat at_.toNat ≠ 0 →
    Completes (.eclosionRequest r page groups b at_ false) s fun t =>
      t.rd (HDR.STAGE_STATUS_RESULT page.val) = s.eclosionCode page.val groups.toNat b.toNat at_.toNat ∧
      Counted Ev.MG_ID.refused s t ∧ t.ecl = s.ecl ∧ t.act = s.act) ∧
  (∀ (s : State) (page b at_ : Nat), s.eclosionCode page 0 b at_ = 3) ∧
  (∀ (r : Requester) (page : Fin 47) (k : Fin 2) (s : State), s.Takes r page.val 0x020 →
    Tab.has s.ecl (page.val + 64 * k.val) = true →
    (∀ e ∈ s.ecl, e.1 % 64 = page.val → e.1 = page.val ∨ e.1 = page.val + 64) →
    Completes (.eclosionCancel r page) s fun t =>
      t.rd (HDR.STAGE_STATUS_RESULT page.val) = 7 ∧ t.rd (HDR.STAGE_STATUS_PENDING page.val) = 0 ∧
      Tab.has t.ecl page.val = false ∧ Tab.has t.ecl (page.val + 64) = false ∧ t.act = s.act ∧
      KeepsFieldsBut [HDR.STAGE_STATUS_RESULT page.val, HDR.STAGE_STATUS_PENDING page.val] s t) ∧
  (∀ (r : Requester) (page : Fin 47) (s : State), s.Takes r page.val 0x020 → Tab.has s.ecl page.val = false →
    Tab.has s.ecl (page.val + 64) = false →
    Completes (.eclosionCancel r page) s fun t => t = s.mbxStageWrite r page.val) ∧
  (∀ (page : Fin 47) (k : Fin 2) (e : EclReq) (s : State),
    s.ecl = [(page.val + 64 * k.val, e)] → s.commitDue (page.val + 64 * k.val) e = true → e.older = false →
    Completes (.eclosionCommit page) s fun t =>
      (∀ g ∈ groupList e.groups, ∀ f ∈ groupFields g, t.rdA f = s.rd f) ∧
      t.rd (HDR.STAGE_STATUS_PENDING page.val) = 0 ∧ t.rd (HDR.STAGE_STATUS_DONE page.val) = 1 ∧
      t.on (HDR.STAGE_STATUS_EARLY page.val) = e.late ∧ t.ecl = []) ∧
  (∀ (page : Fin 47) (e x : EclReq) (s : State), s.ecl = [(page.val, e), (page.val + 64, x)] →
    s.commitDue page.val e = false → s.commitDue (page.val + 64) x = true → (∀ g ∈ groupList x.groups, g = 6 ∨ g = 7) →
    Completes (.eclosionCommit page) s fun t =>
      (∀ g ∈ groupList x.groups, ∀ f ∈ groupFields g, t.rdA f = s.rd f) ∧
      t.rd (HDR.STAGE_STATUS_PENDING page.val) = 1 ∧ t.ecl = [(page.val, e)]) ∧
  (∀ (page : Fin 47) (s : State),
    (∀ e ∈ s.ecl, e.1 = page.val ∨ e.1 = page.val + 64 → s.commitDue e.1 e.2 = false) →
    Completes (.eclosionCommit page) s fun t => t = s)

/-- A taken write to an RW-SH field changes its staged value and no active value; where its group is pending or an RW-LK
field is locked, a write that would change it changes nothing of it and sets LOCK_VIOL; a partial write is dropped
with cause 5 and counted. Rests on spec/16_register_conventions.md (R468, R475). -/
def Obligations.RegisterWritesUnderAccessCodes : Prop :=
  (∀ (r : Requester) (off : BitVec 24) (data : Word) (f : Field) (s : State),
    f ∈ pageFields (off.toNat / 4096) → f.off = off.toNat % 4096 → f.acc = .rwSh → s.Takes r (off.toNat / 4096) f.off →
    s.pendingField f = false →
    Completes (.registerWrite r off data) s fun t => t.rd f = bits data.toNat f.lsb f.width ∧ t.act = s.act) ∧
  (∀ (r : Requester) (off : BitVec 24) (data : Word) (f : Field) (s : State),
    f ∈ pageFields (off.toNat / 4096) → f.off = off.toNat % 4096 → f.acc = .rwSh → s.Takes r (off.toNat / 4096) f.off →
    s.pendingField f = true → bits data.toNat f.lsb f.width ≠ s.rd f →
    Completes (.registerWrite r off data) s fun t =>
      t.rd f = s.rd f ∧ t.act = s.act ∧ t.on (HDR.LOCK_VIOL_VIOL f.page) = true) ∧
  (∀ (r : Requester) (off : BitVec 24) (data : Word) (f : Field) (s : State),
    f ∈ pageFields (off.toNat / 4096) → f.off = off.toNat % 4096 → f.acc = .rwLk → s.Takes r (off.toNat / 4096) f.off →
    s.fieldLocked f = true → bits data.toNat f.lsb f.width ≠ s.rd f →
    Completes (.registerWrite r off data) s fun t => t.rd f = s.rd f ∧ t.on (HDR.LOCK_VIOL_VIOL f.page) = true) ∧
  (∀ (r : Requester) (off : BitVec 24) (s : State), off.toNat < 0x2F000 →
    s.Takes r (off.toNat / 4096) (off.toNat % 4096 / 4 * 4) →
    Completes (.partialBar0Write r off) s fun t =>
      t.rd (HDR.LOCK_VIOL_VIOL (off.toNat / 4096)) = 1 ∧ t.rd (HDR.LOCK_VIOL_CAUSE (off.toNat / 4096)) = 5 ∧
      t.rd (HDR.LOCK_VIOL_MASTER (off.toNat / 4096)) = r.toNat ∧ Counted Ev.MG_ID.partialWrite s t ∧
      KeepsFieldsBut [HDR.LOCK_VIOL_VIOL (off.toNat / 4096), HDR.LOCK_VIOL_CAUSE (off.toNat / 4096),
        HDR.LOCK_VIOL_MASTER (off.toNat / 4096), HDR.LOCK_VIOL_LOCATION (off.toNat / 4096)] s t ∧ s.EventFrame t)

/-- An access that R469 refuses logs cause, offset, master and direction and counts an error response, and a read answers
with an error; an uncorrectable read has cause 3; SMBus reads answer status and value or an error, writes act as
register writes or are refused with cause 4 and counted, and the status command gives the last status. Rests on
spec/16_register_conventions.md (R469, R470, R475). -/
def Obligations.ErrorResponsesAndSmbus : Prop :=
  (∀ (a : BusAccess) (ue : Bool) (s : State), s.clock.stopped = false → a.bar2 = false → a.offset.toNat < 0x2F000 →
    s.accessCause a.master (a.offset.toNat / 4096) (a.offset.toNat % 4096 / 4 * 4) a.write ≠ 0 →
    Completes (.errorResponseAccess a ue) s fun t =>
      t.rd MG_ID.ERR_LOG_CAUSE =
        s.accessCause a.master (a.offset.toNat / 4096) (a.offset.toNat % 4096 / 4 * 4) a.write ∧
      t.rd MG_ID.ERR_LOG_OFFSET = a.offset.toNat ∧ t.rd MG_ID.ERR_LOG_MASTER = a.master.toNat ∧
      t.on MG_ID.ERR_LOG_WRITE = a.write ∧ Counted Ev.MG_ID.errorResponse s t ∧
      (a.write = false → t.out = .read a.master 0 true :: s.out) ∧ (a.write = true → t.out = s.out)) ∧
  (∀ (a : BusAccess) (s : State), s.clock.stopped = false → a.bar2 = false → a.offset.toNat < 0x2F000 → a.write = false →
    s.accessCause a.master (a.offset.toNat / 4096) (a.offset.toNat % 4096 / 4 * 4) false = 0 →
    Completes (.errorResponseAccess a true) s fun t =>
      t.rd MG_ID.ERR_LOG_CAUSE = 3 ∧ Counted Ev.MG_MEM.uncorrectable s t ∧ Counted Ev.MG_ID.errorResponse s t ∧
      t.out = .read a.master 0 true :: s.out) ∧
  (∀ (off : BitVec 24) (n : Nat) (s : State), off.toNat < 0x2F000 → off.toNat % 4 = 0 →
    s.Answers .smbus (off.toNat / 4096) (off.toNat % 4096) →
    Completes (.smbusRead off n) s fun t =>
      let v := ((s.toInstant n).readEffect .smbus (off.toNat / 4096) (off.toNat % 4096)).2
      t.out = .smbus [0, v % 256, v / 256 % 256, v / 65536 % 256, v / 16777216 % 256] :: s.out) ∧
  (∀ (off : BitVec 24) (n : Nat) (s : State), off.toNat < 0x2F000 → off.toNat % 4 = 0 → s.clock.stopped = false →
    s.accessCause .smbus (off.toNat / 4096) (off.toNat % 4096) false ≠ 0 →
    Completes (.smbusRead off n) s fun t =>
      t.out = .smbus [1, 0, 0, 0, 0] :: s.out ∧ Counted Ev.MG_ID.errorResponse s t) ∧
  (∀ (off : BitVec 24) (data : Word) (s : State), off.toNat < 0x2F000 → off.toNat % 4 = 0 →
    s.Takes .smbus (off.toNat / 4096) (off.toNat % 4096) →
    Completes (.smbusWrite off data) s fun t => t.smbLast = 0 ∧
      Completes (.registerWrite .smbus off data) s fun u => t = { u with smbLast := 0 }) ∧
  (∀ (off : BitVec 24) (data : Word) (s : State), off.toNat < 0x2F000 → off.toNat % 4 = 0 → s.clock.stopped = false →
    s.accessCause .smbus (off.toNat / 4096) (off.toNat % 4096) true = 4 →
    Completes (.smbusWrite off data) s fun t => t.smbLast = 2 ∧ t.rd MG_ID.ERR_LOG_CAUSE = 4 ∧
      Counted Ev.MG_ID.smbusRefused s t ∧ Counted Ev.MG_ID.errorResponse s t ∧
      KeepsFieldsBut [MG_ID.ERR_LOG_OFFSET, MG_ID.ERR_LOG_BAR, MG_ID.ERR_LOG_CAUSE, MG_ID.ERR_LOG_MASTER,
        MG_ID.ERR_LOG_WRITE] s t) ∧
  (∀ s : State, s.clock.stopped = false →
    Completes .smbusStatus s fun t => t.out = .smbus [s.smbLast] :: s.out ∧ t = { s with out := t.out })

/-- The bytes of the word at a window offset take the enabled bytes of the data, every other byte of the windows stays. -/
def WordStored (s t : State) (off data be : Nat) : Prop :=
  (∀ i, i < 4 → Memory.read t.bar2 (off / 4 * 4 + i) =
    if bitOf be i then some (BitVec.ofNat 8 (data / 256 ^ i)) else Memory.read s.bar2 (off / 4 * 4 + i)) ∧
  (∀ a, a < off / 4 * 4 ∨ off / 4 * 4 + 4 ≤ a → Memory.read t.bar2 a = Memory.read s.bar2 a) ∧
  t = { s with bar2 := t.bar2 }

/-- A write to an entry in force: dropped, with a lock violation of cause 2 on the page. -/
def EntryLocked (r : Requester) (s t : State) (page : Nat) : Prop :=
  t.rd (HDR.LOCK_VIOL_VIOL page) = 1 ∧ t.rd (HDR.LOCK_VIOL_CAUSE page) = 2 ∧ t.rd (HDR.LOCK_VIOL_MASTER page) = r.toNat ∧
  t = { s with regs := t.regs }

/-- A table write stores exactly the enabled bytes of its word, outside the flow counters and locked entries; a write to a
channel in force, a slot bank in use, a crypto entry in force or a reserved descriptor ring is dropped with its lock
violation; a swap request with no cause starts the swap at the port's frame counter, one with a cause is refused with
it and counted. Rests on spec/00_scope.md (R2); spec/07_host_interface_flows.md (R208, R218). -/
def Obligations.TableWritesAndBankSwaps : Prop :=
  (∀ (r : Requester) (off : Fin 4194304) (data : Word) (be : BitVec 4) (s : State), r ≠ .smbus → s.clock.stopped = false →
    off.val < chanWin →
    Completes (.tableEntryWrite r off data be) s fun t => WordStored s t off.val data.toNat be.toNat) ∧
  (∀ (r : Requester) (off : Fin 4194304) (data : Word) (be : BitVec 4) (s : State), r ≠ .smbus → s.clock.stopped = false →
    chanWin ≤ off.val → off.val < chanWin + 4 * 192 →
    Completes (.tableEntryWrite r off data be) s fun t =>
      if s.chInForce ((off.val - chanWin) / 4) then EntryLocked r s t 22 else WordStored s t off.val data.toNat be.toNat) ∧
  (∀ (r : Requester) (off : Fin 4194304) (data : Word) (be : BitVec 4) (s : State), r ≠ .smbus → s.clock.stopped = false →
    txSlotWin ≤ off.val → off.val < txSlotWin + 4 * 384 →
    Completes (.tableEntryWrite r off data be) s fun t =>
      if (off.val - txSlotWin) / 4 / 192 = s.txBank (Port.ofBit ((off.val - txSlotWin) / 4 / 96)) then EntryLocked r s t 23
      else WordStored s t off.val data.toNat be.toNat) ∧
  (∀ (r : Requester) (off : Fin 4194304) (data : Word) (be : BitVec 4) (s : State), r ≠ .smbus → s.clock.stopped = false →
    rxSlotWin ≤ off.val → off.val < rxSlotWin + 4 * 384 →
    Completes (.tableEntryWrite r off data be) s fun t =>
      if (off.val - rxSlotWin) / 4 / 192 = s.rxBank (Port.ofBit ((off.val - rxSlotWin) / 4 / 96)) then EntryLocked r s t 23
      else WordStored s t off.val data.toNat be.toNat) ∧
  (∀ (r : Requester) (off : Fin 4194304) (data : Word) (be : BitVec 4) (s : State), r ≠ .smbus → s.clock.stopped = false →
    cryptoWin ≤ off.val → off.val < cryptoWin + 32 * 192 →
    Completes (.tableEntryWrite r off data be) s fun t =>
      if 4 ≤ (off.val - cryptoWin) % 32 then t = s
      else if s.chInForce ((off.val - cryptoWin) / 32) = true ∧ bitOf be.toNat 0 = true then EntryLocked r s t 30
      else WordStored s t off.val data.toNat be.toNat) ∧
  (∀ (r : Requester) (off : Fin 4194304) (data : Word) (be : BitVec 4) (s : State), r ≠ .smbus → s.clock.stopped = false →
    descWin ≤ off.val → off.val < descWin + 32768 →
    Completes (.tableEntryWrite r off data be) s fun t =>
      if r = .pcie ∧ 14 ≤ (off.val - descWin) / 2048 then
        t.rd (HDR.LOCK_VIOL_VIOL 6) = 1 ∧ t.rd (HDR.LOCK_VIOL_CAUSE 6) = 6 ∧ t = { s with regs := t.regs }
      else WordStored s t off.val data.toNat be.toNat) ∧
  (∀ (r : Requester) (p : Port) (s : State), s.Takes r 23 0x040 → s.swapCause p = 0 →
    Completes (.swapRequest r (p == .E) (p == .W)) s fun t => t.swapSt p = 1 ∧
      t.rd (match p with | .E => HB_SLOT.SWAP_STATUS_REFUSE_E | .W => HB_SLOT.SWAP_STATUS_REFUSE_W) = 0 ∧
      (t.frame.get p).swapReq = (s.frame.get p).fcTx ∧ t.frame.get p.other = s.frame.get p.other ∧ t.bar2 = s.bar2) ∧
  (∀ (r : Requester) (p : Port) (s : State), s.Takes r 23 0x040 → s.swapCause p ≠ 0 →
    Completes (.swapRequest r (p == .E) (p == .W)) s fun t => t.swapSt p = s.swapSt p ∧
      t.rd (match p with | .E => HB_SLOT.SWAP_STATUS_REFUSE_E | .W => HB_SLOT.SWAP_STATUS_REFUSE_W) = s.swapCause p ∧
      Counted Ev.HB_SLOT.swapRefused s t ∧ t.frame = s.frame ∧ t.bar2 = s.bar2)

/-- A failing line can be met: the clocks of its block run, and it lies in no storage that is withdrawn. -/
abbrev LineInUse (s : State) (f : MemFault) : Prop :=
  s.clock.stopped = false ∧ (rclkPage (memPage f) = true → s.Clocked) ∧
    ¬ (f.deskew.isSome = true ∧ s.hbmOut.contains (rowKey f) = true)

/-- The page decode cannot give the content: the store has no page code, or more bits are wrong than the page's strength. -/
abbrev NoPageDecode (s : State) (f : MemFault) : Prop :=
  f.pageBits = none ∨ 5 ≤ f.store.val ∨ s.pageStrengthOf (faultKind f) < f.pageBits.getD 0

/-- A row is recorded as retired, and beside it only events have changed the state. -/
abbrev RowRetired (s t : State) (f : MemFault) : Prop :=
  t.mem = { s.mem with retired := addSorted s.mem.retired (rowKey f) } ∧ State.EventFrame { s with mem := t.mem } t

/-- A failed line whose refetch is good is TRANSIENT, or LASTING where it repeats and a spare row is left, and is counted
so, a LASTING row being recorded as retired; one that no correction saves records its store and index and counts as
uncorrectable, and a host's read of it answers with an error of cause 3; a scrub pass counts itself and its
corrections and takes over the configured strengths. Rests on spec/13_dma_arbitration_memory.md (R404 to R407). -/
def Obligations.MemoryProtection : Prop :=
  (∀ (f : MemFault) (who : MemReader) (s : State), LineInUse s f →
    f.refetchOk = true → f.lasting = false →
    Completes (.memoryLineCrcFail f who) s fun t =>
      t.counter (memPage f) (transientOff (memPage f)) =
        (s.counter (memPage f) (transientOff (memPage f)) + 1) % 2 ^ 64 ∧ Counted Ev.MG_MEM.lineTransient s t ∧
      s.EventFrame t ∧ KeepsFieldsBut [] s t) ∧
  (∀ (f : MemFault) (who : MemReader) (s : State), LineInUse s f →
    f.refetchOk = true → f.lasting = true → f.spareRow = true →
    Completes (.memoryLineCrcFail f who) s fun t =>
      t.counter (memPage f) (lastingOff (memPage f)) = (s.counter (memPage f) (lastingOff (memPage f)) + 1) % 2 ^ 64 ∧
      Counted Ev.MG_MEM.lineLasting s t ∧ RowRetired s t f ∧ KeepsFieldsBut [] s t) ∧
  (∀ (f : MemFault) (s : State), LineInUse s f →
    f.refetchOk = false → f.spareRow = true → NoPageDecode s f →
    Completes (.memoryLineCrcFail f .scrub) s fun t =>
      t.rd MG_MEM.UE_INFO_STORE = f.store.val ∧ t.rd MG_MEM.UE_INFO_INDEX = f.index.toNat ∧
      Counted Ev.MG_MEM.uncorrectable s t ∧ RowRetired s t f ∧
      KeepsFieldsBut [MG_MEM.UE_INFO_STORE, MG_MEM.UE_INFO_INDEX] s t) ∧
  (∀ (f : MemFault) (a : BusAccess) (s : State), LineInUse s f →
    f.refetchOk = false → NoPageDecode s f →
    Completes (.memoryLineCrcFail f (.host a)) s fun t =>
      t.rd MG_ID.ERR_LOG_CAUSE = 3 ∧ Counted Ev.MG_ID.errorResponse s t ∧ t.out = .read a.master 0 true :: s.out) ∧
  (∀ (f : MemFault) (who : MemReader) (s : State), s.clock.stopped = false → f.deskew.isSome = true →
    s.hbmOut.contains (rowKey f) = true →
    Completes (.memoryLineCrcFail f who) s fun t => t = s) ∧
  (∀ (f : MemFault) (who : MemReader) (s : State), LineInUse s f → f.refetchOk = true → f.lasting = true → f.spareRow = false →
    Completes (.memoryLineCrcFail f who) s fun t =>
      t.counter (memPage f) (exhaustedOff (memPage f)) = (s.counter (memPage f) (exhaustedOff (memPage f)) + 1) % 2 ^ 64 ∧
      Counted Ev.MG_MEM.lineLasting s t ∧ t.on MG_CTL.NMI_CAUSE_EXHAUSTED = true ∧ t.nmiLow = true ∧
      t.mem.retired = addSorted s.mem.retired (rowKey f) ∧
      ∀ chs, f.deskew = some chs → t.hbmOut.contains (rowKey f) = true ∧
        ∀ c ∈ chs, s.dpEn c.val = true → t.on (HB_PROT.DP_STATUS_SINGLE c.val) = true) ∧
  (∀ (f : MemFault) (who : MemReader) (n : Nat) (s : State), LineInUse s f → f.refetchOk = false → f.spareRow = true →
    f.pageBits = some n → f.store.val < 5 → n ≤ s.pageStrengthOf (faultKind f) → n ≠ 0 →
    Completes (.memoryLineCrcFail f who) s fun t =>
      CountedN Ev.MG_MEM.pageCorrected n s t ∧ Counted Ev.MG_MEM.lineLasting s t ∧ RowRetired s t f ∧ KeepsFieldsBut [] s t) ∧
  (∀ (f : MemFault) (slot : Nat) (s : State), LineInUse s f → f.refetchOk = false → NoPageDecode s f → slot < 512 →
    Completes (.memoryLineCrcFail f (.keyStore slot)) s fun t =>
      (t.keySlot slot).state = .empty ∧ (∀ n, n ≠ slot → t.keySlot n = s.keySlot n) ∧ t.keks = s.keks ∧ t.masters = s.masters) ∧
  (∀ (f : MemFault) (m : Nat) (s : State), LineInUse s f → f.refetchOk = false → NoPageDecode s f →
    Completes (.memoryLineCrcFail f (.masterKey m)) s fun t =>
      Tab.get [] t.masters m = [] ∧ (∀ n, n ≠ m → Tab.get [] t.masters n = Tab.get [] s.masters n) ∧ t.keySlots = s.keySlots) ∧
  (∀ (f : MemFault) (k : Fin 4) (s : State), LineInUse s f → f.refetchOk = false → NoPageDecode s f →
    Completes (.memoryLineCrcFail f (.kekKey k.val)) s fun t => t.kekValid k.val = false ∧ Tab.get [] t.keks k.val = []) ∧
  (∀ (f : MemFault) (b : Bool) (s : State), LineInUse s f → f.refetchOk = false → NoPageDecode s f →
    Completes (.memoryLineCrcFail f (.flashSlot b)) s fun t => t.validSlot (bit b) = none) ∧
  (∀ (f : MemFault) (x : Fin 4) (s : State), LineInUse s f → s.Clocked → f.refetchOk = false → NoPageDecode s f →
    Completes (.memoryLineCrcFail f (.lookup x)) s fun t =>
      Counted Ev.HB_FLOW.tableCheck s t ∧ t.rd HB_FLOW.CHK_ERR_TABLE = x.val) ∧
  (∀ (n : Nat) (s : State), s.clock.stopped = false →
    Completes (.scrubPass n) s fun t =>
      t.rd MG_MEM.SCRUB_STATUS_PASSES = (s.rd MG_MEM.SCRUB_STATUS_PASSES + 1) % 2 ^ 16 ∧ Counted Ev.MG_MEM.scrubDone s t ∧
      (0 < n → t.counter Ev.MG_MEM.pageCorrected.page Ev.MG_MEM.pageCorrected.off =
        (s.counter Ev.MG_MEM.pageCorrected.page Ev.MG_MEM.pageCorrected.off + n) % 2 ^ 64) ∧
      Tab.get 16 t.mem.strength 0 = max 4 (min 32 (s.rdA MG_MEM.PBCH_CFG_T_SRAM)) ∧
      Tab.get 16 t.mem.strength 1 = max 4 (min 32 (s.rdA MG_MEM.PBCH_CFG_T_KEY)) ∧
      Tab.get 16 t.mem.strength 2 = max 4 (min 32 (s.rdA MG_MEM.PBCH_CFG_T_CAL)) ∧
      KeepsFieldsBut [MG_MEM.SCRUB_STATUS_PASSES] s t)

/-- The rows that write `KEY_CMD`, with the OP each writes (R305). -/
def keyRows (r : Requester) (a : KeyArgs) : List (Instr × Nat) :=
  [(.unwrapSet r a, 1), (.unwrapMaster r a, 2), (.unwrapKek r a, 3), (.plainKek r a, 4), (.derive r a, 5), (.setAct r a, 6),
   (.setNxt r a, 7), (.switchKey r a, 8), (.eraseSlot r a, 9), (.eraseMaster r a, 10), (.eraseKek r a, 11)]

/-- Each of the eleven key rows, written while the engine is free, sets BUSY and gives the engine the operation code,
operands, EPOCH_IN and wrapped blob, and changes nothing else; written while it is busy, it is dropped and counted;
SEAL_SET sets SEALED and nothing else. Rests on spec/09_channel_encryption.md (R300, R301, R305). -/
def Obligations.KeyCommandWritesStartOrAreDropped : Prop :=
  (∀ (r : Requester) (a : KeyArgs) (s : State), s.Takes r 29 0x040 → s.on CY_KEY.KEY_STATUS_BUSY = false →
    ∀ x ∈ keyRows r a, Completes x.1 s fun t =>
      t.on CY_KEY.KEY_STATUS_BUSY = true ∧
      t.keyCmd = some ⟨x.2, a.kek.val, a.drop, a.slot.toNat, a.ch.toNat, s.rd CY_KEY.EPOCH_IN_EPOCH,
        s.wrapBlob (if x.2 = 1 then 104 else if x.2 = 4 then 32 else 40), r⟩ ∧
      KeepsFieldsBut [CY_KEY.KEY_STATUS_BUSY] s t ∧ t = { s with regs := t.regs, keyCmd := t.keyCmd }) ∧
  (∀ (r : Requester) (a : KeyArgs) (s : State), s.Takes r 29 0x040 → s.on CY_KEY.KEY_STATUS_BUSY = true →
    ∀ x ∈ keyRows r a, Completes x.1 s fun t =>
      Counted Ev.CY_KEY.cmdDropped s t ∧ t.keyCmd = s.keyCmd ∧ KeepsFieldsBut [] s t ∧ s.EventFrame t) ∧
  (∀ (r : Requester) (s : State), s.Takes r 29 0x048 →
    Completes (.sealSet r) s fun t => t.on CY_KEY.KEK_CTRL_SEALED = true ∧ KeepsFieldsBut [CY_KEY.KEK_CTRL_SEALED] s t ∧
      t = { s with regs := t.regs })

/-- What every completed key command leaves: the engine free, its RESULT shown. -/
def KeyResult (s t : State) (code : Nat) : Prop :=
  t.keyCmd = none ∧ t.on CY_KEY.KEY_STATUS_BUSY = false ∧ t.rd CY_KEY.KEY_STATUS_RESULT = code ∧
  Counted (if code = 0 then Ev.CY_KEY.completed else Ev.CY_KEY.refused) s t

/-- When the key command in the engine completes, the engine is free and RESULT shows 0 or the refusal code: unwrapped
sets, master keys and KEKs are stored where their integrity check passes (code 2 where not, 3 where the slot is taken,
10 where the KEK is missing or sealed, 11 without entropy, 12 for a reserved operation), active and next keys are set,
an add switch is announced, and erasures erase exactly their key. Rests on spec/09_channel_encryption.md (R279, R282,
R284, R286, R300, R301, R305). -/
def Obligations.KeyCommandsTakeEffectAsTheyComplete : Prop :=
  ∀ (c : KeyCmd) (s : State), s.Clocked → s.keyCmd = some c →
    (c.op = 0 ∨ 12 ≤ c.op → Completes .keyCommandDone s fun t =>
      KeyResult s t 12 ∧ t.keySlots = s.keySlots ∧ t.chanKeys = s.chanKeys ∧ t.keks = s.keks ∧ t.masters = s.masters) ∧
    (c.op = 1 ∨ c.op = 5 ∨ (c.op = 2 ∧ c.slot < 192) ∨ (c.op = 3 ∧ c.slot < 4) → s.entropyFail = true →
      Completes .keyCommandDone s fun t =>
        KeyResult s t 11 ∧ t.keySlots = s.keySlots ∧ t.keks = s.keks ∧ t.masters = s.masters) ∧
    (c.op = 1 → s.entropyFail = false → c.ch < 192 → (s.keySlot c.slot).state ≠ .empty →
      Completes .keyCommandDone s fun t => KeyResult s t 3 ∧ t.keySlots = s.keySlots ∧
        t.rd (HDR.LOCK_VIOL_CAUSE 29) = 4 ∧ t.rd (HDR.LOCK_VIOL_MASTER 29) = c.by_.toNat) ∧
    (∀ code, ({ s with keyCmd := none }.keyEffect c).2 = code → code ≠ 0 →
      Completes .keyCommandDone s fun t => KeyResult s t code ∧ t.keySlots = s.keySlots ∧ t.chanKeys = s.chanKeys ∧
        t.keks = s.keks ∧ t.masters = s.masters) ∧
    (∀ set : List Nat, c.op = 1 → s.entropyFail = false → c.ch < 192 → (s.keySlot c.slot).state = .empty → s.kekValid c.kek = true →
      unwrap (Tab.get [] s.keks c.kek) c.blob = some set → set.take 32 ≠ (set.drop 32).take 32 →
      Completes .keyCommandDone s fun t => KeyResult s t 0 ∧ (t.keySlot c.slot).state = .loaded ∧
        (t.keySlot c.slot).k1 = set.take 32 ∧ (t.keySlot c.slot).k2 = (set.drop 32).take 32 ∧
        (t.keySlot c.slot).ki = set.drop 64 ∧ (t.keySlot c.slot).epoch = c.epoch ∧ (t.keySlot c.slot).ch = c.ch ∧
        (t.keySlot c.slot).drop = c.drop ∧ (∀ n, n ≠ c.slot → t.keySlot n = s.keySlot n) ∧ t.chanKeys = s.chanKeys) ∧
    (∀ set : List Nat, c.op = 1 → s.entropyFail = false → c.ch < 192 → (s.keySlot c.slot).state = .empty → s.kekValid c.kek = true →
      unwrap (Tab.get [] s.keks c.kek) c.blob = some set → set.take 32 = (set.drop 32).take 32 →
      Completes .keyCommandDone s fun t => KeyResult s t 5 ∧ t.keySlots = s.keySlots) ∧
    (∀ set : List Nat, c.op = 5 → s.entropyFail = false → c.ch < 192 → Tab.has s.masters c.ch = true →
      (s.keySlot c.slot).state = .empty → s.derivedSet c.ch c.drop c.epoch (Tab.get [] s.masters c.ch) = set →
      set.take 32 ≠ (set.drop 32).take 32 →
      Completes .keyCommandDone s fun t => KeyResult s t 0 ∧ Counted Ev.CY_KEY.derived s t ∧
        t.keySlot c.slot =
          { KeySlot.init with
            state := .loaded, k1 := set.take 32, k2 := (set.drop 32).take 32, ki := set.drop 64, epoch := c.epoch, ch := c.ch,
            drop := c.drop, derived := true } ∧
        (∀ n, n ≠ c.slot → t.keySlot n = s.keySlot n) ∧ t.chanKeys = s.chanKeys ∧ t.masters = s.masters) ∧
    (c.op = 5 → s.entropyFail = false → (192 ≤ c.ch ∨ Tab.has s.masters c.ch = false) →
      Completes .keyCommandDone s fun t => KeyResult s t 12 ∧ t.keySlots = s.keySlots) ∧
    (c.op = 1 ∧ c.ch < 192 ∧ (s.keySlot c.slot).state = .empty ∨ c.op = 2 ∧ c.slot < 192 ∨
        c.op = 3 ∧ c.slot < 4 ∧ c.slot ≠ c.kek → s.entropyFail = false → s.kekValid c.kek = false →
      Completes .keyCommandDone s fun t => KeyResult s t 10 ∧ t.keySlots = s.keySlots ∧ t.keks = s.keks ∧ t.masters = s.masters) ∧
    (∀ key : List Nat, c.op = 2 → s.entropyFail = false → c.slot < 192 → s.kekValid c.kek = true →
      unwrap (Tab.get [] s.keks c.kek) c.blob = some key →
      Completes .keyCommandDone s fun t => KeyResult s t 0 ∧ Tab.get [] t.masters c.slot = key ∧
        (∀ m, m ≠ c.slot → Tab.get [] t.masters m = Tab.get [] s.masters m) ∧ t.keySlots = s.keySlots ∧ t.keks = s.keks) ∧
    (∀ key : List Nat, c.op = 3 → s.entropyFail = false → c.slot < 4 → c.slot ≠ c.kek → s.kekValid c.kek = true →
      unwrap (Tab.get [] s.keks c.kek) c.blob = some key →
      Completes .keyCommandDone s fun t => KeyResult s t 0 ∧ Tab.get [] t.keks c.slot = key ∧ t.kekValid c.slot = true ∧
        (∀ k, k ≠ c.slot → Tab.get [] t.keks k = Tab.get [] s.keks k) ∧ t.keySlots = s.keySlots) ∧
    (c.op = 1 ∧ c.ch < 192 ∧ (s.keySlot c.slot).state = .empty ∨ c.op = 2 ∧ c.slot < 192 ∨
        c.op = 3 ∧ c.slot < 4 ∧ c.slot ≠ c.kek →
      s.entropyFail = false → s.kekValid c.kek = true → unwrap (Tab.get [] s.keks c.kek) c.blob = none →
      Completes .keyCommandDone s fun t => KeyResult s t 2 ∧ Counted Ev.CY_KEY.checkFailed s t ∧
        t.keySlots = s.keySlots ∧ t.keks = s.keks ∧ t.masters = s.masters) ∧
    (c.op = 4 → c.slot < 4 → s.on CY_KEY.KEK_CTRL_SEALED = false →
      Completes .keyCommandDone s fun t => KeyResult s t 0 ∧ Tab.get [] t.keks c.slot = c.blob ∧ t.kekValid c.slot = true) ∧
    (c.op = 4 → c.slot < 4 → s.on CY_KEY.KEK_CTRL_SEALED = true →
      Completes .keyCommandDone s fun t => KeyResult s t 10 ∧ t.keks = s.keks) ∧
    (c.op = 6 ∨ c.op = 7 → (s.keySlot c.slot).state = .locked →
      Completes .keyCommandDone s fun t => KeyResult s t 4 ∧ t.chanKeys = s.chanKeys) ∧
    (c.op = 6 ∨ c.op = 7 → (s.keySlot c.slot).state ≠ .locked →
      (c.slot = noSlot ∨ 192 ≤ c.ch ∨ (s.keySlot c.slot).state ≠ .loaded ∨ (s.keySlot c.slot).ch ≠ c.ch ∨
        (s.keySlot c.slot).drop ≠ c.drop) →
      Completes .keyCommandDone s fun t => KeyResult s t 12 ∧ t.chanKeys = s.chanKeys) ∧
    (c.op = 6 → c.slot ≠ noSlot → c.ch < 192 → (s.keySlot c.slot).state = .loaded → (s.keySlot c.slot).ch = c.ch →
      (s.keySlot c.slot).drop = c.drop → (s.chanKey c.ch).act c.drop = noSlot →
      Completes .keyCommandDone s fun t => KeyResult s t 0 ∧ (t.keySlot c.slot).state = .active ∧
        (t.chanKey c.ch).act c.drop = c.slot ∧ (∀ n, n ≠ c.slot → t.keySlot n = s.keySlot n) ∧
        (∀ x, x ≠ c.ch → t.chanKey x = s.chanKey x)) ∧
    (c.op = 6 ∧ (s.chanKey c.ch).act c.drop ≠ noSlot ∨ c.op = 7 ∧ (s.chanKey c.ch).act c.drop = noSlot →
      c.slot ≠ noSlot → c.ch < 192 → (s.keySlot c.slot).state = .loaded → (s.keySlot c.slot).ch = c.ch →
      (s.keySlot c.slot).drop = c.drop →
      Completes .keyCommandDone s fun t => KeyResult s t 6 ∧ t.keySlots = s.keySlots ∧ t.chanKeys = s.chanKeys) ∧
    (c.op = 7 → c.slot ≠ noSlot → c.ch < 192 → (s.keySlot c.slot).state = .loaded → (s.keySlot c.slot).ch = c.ch →
      (s.keySlot c.slot).drop = c.drop → (s.chanKey c.ch).act c.drop ≠ noSlot →
      (s.keySlot c.slot).epoch = (s.keySlot ((s.chanKey c.ch).act c.drop)).epoch + 1 →
      (c.drop = true ∨ (s.chanKey c.ch).annSs = none) →
      Completes .keyCommandDone s fun t => KeyResult s t 0 ∧ (t.chanKey c.ch).nxt c.drop = c.slot ∧
        t.keySlots = s.keySlots ∧ (∀ x, x ≠ c.ch → t.chanKey x = s.chanKey x)) ∧
    (c.op = 8 → c.drop = false → c.ch < 192 → (s.chanKey c.ch).annSs = none → (s.chanKey c.ch).txNxt ≠ noSlot →
      (s.chanKey c.ch).txEpoch ≠ 0xFFFFFFFF →
      Completes .keyCommandDone s fun t => KeyResult s t 0 ∧ Counted Ev.CY_KEY.announced s t ∧
        (t.keySlot (s.chanKey c.ch).txNxt).state = .locked ∧
        (t.chanKey c.ch).annSs = some ((s.addSs c.ch + max 40 (s.rd CY_KEY.ANN_CFG_ANN_LEAD)) % 2 ^ 40)) ∧
    (c.op = 8 → c.drop = true ∨ 192 ≤ c.ch → Completes .keyCommandDone s fun t => KeyResult s t 12 ∧ t.chanKeys = s.chanKeys) ∧
    (c.op = 8 → c.drop = false → c.ch < 192 → (s.chanKey c.ch).txNxt = noSlot →
      Completes .keyCommandDone s fun t => KeyResult s t 7 ∧ t.chanKeys = s.chanKeys) ∧
    (c.op = 8 → c.drop = false → c.ch < 192 → (s.chanKey c.ch).txNxt ≠ noSlot → (s.chanKey c.ch).annSs ≠ none →
      Completes .keyCommandDone s fun t => KeyResult s t 8 ∧ t.chanKeys = s.chanKeys) ∧
    (c.op = 8 → c.drop = false → c.ch < 192 → (s.chanKey c.ch).txNxt ≠ noSlot → (s.chanKey c.ch).annSs = none →
      (s.chanKey c.ch).txEpoch = 0xFFFFFFFF →
      Completes .keyCommandDone s fun t => KeyResult s t 9 ∧ t.chanKeys = s.chanKeys) ∧
    (c.op = 9 → Completes .keyCommandDone s fun t => KeyResult s t 0 ∧ t.keySlot c.slot = KeySlot.init ∧
      (∀ n, n ≠ c.slot → t.keySlot n = s.keySlot n) ∧
      ((s.keySlot c.slot).state = .active → Counted Ev.CY_KEY.activeErased s t)) ∧
    (c.op = 10 → c.slot < 192 → Completes .keyCommandDone s fun t =>
      KeyResult s t 0 ∧ Tab.get [] t.masters c.slot = [] ∧ t.keySlots = s.keySlots ∧ t.keks = s.keks) ∧
    (c.op = 11 → c.slot < 4 → Completes .keyCommandDone s fun t =>
      KeyResult s t 0 ∧ Tab.get [] t.keks c.slot = [] ∧ t.kekValid c.slot = false ∧ t.keySlots = s.keySlots)

/-- At the announced superframe the add direction takes the next key and erases the old one; the drop direction takes its
next key and retires the old one, which its expiry erases, its epoch staying at its last value; the rotation timer
announces the prepared switch at the lead of ANN_CFG, or at superframe 0 where the count wraps before; a reseed makes
the DRBG ready or declares the entropy failure. Rests on spec/09_channel_encryption.md (R277, R278, R281 to R283,
R299, R303, R304). -/
def Obligations.KeySwitchesAndExpiry : Prop :=
  (∀ (ch : Fin 192) (b : Nat) (s : State), s.Clocked → (s.chanKey ch.val).annSs = some b →
    ssReached (((s.frame.get (match s.addPlaces ch.val with | (p, _) :: _ => p | [] => Port.E)).fcTx + 1) % 2 ^ 48 / 256) b =
      true →
    (s.chanKey ch.val).txNxt ≠ noSlot → (s.chanKey ch.val).txAct ≠ (s.chanKey ch.val).txNxt →
    Completes (.addSwitchBoundary ch) s fun t =>
      (t.chanKey ch.val).txAct = (s.chanKey ch.val).txNxt ∧ (t.chanKey ch.val).txNxt = noSlot ∧
      (t.chanKey ch.val).annSs = none ∧ (t.keySlot (s.chanKey ch.val).txNxt).state = .active ∧
      (t.chanKey ch.val).txEpoch = (s.keySlot (s.chanKey ch.val).txNxt).epoch ∧
      ((s.chanKey ch.val).txAct ≠ noSlot → t.keySlot (s.chanKey ch.val).txAct = KeySlot.init) ∧
      Counted Ev.CY_KEY.addTaken s t ∧ (∀ x, x ≠ ch.val → t.chanKey x = s.chanKey x)) ∧
  (∀ (ch : Fin 192) (b : Nat) (s : State), (s.chanKey ch.val).annSs = some b →
    ssReached (((s.frame.get (match s.addPlaces ch.val with | (p, _) :: _ => p | [] => Port.E)).fcTx + 1) % 2 ^ 48 / 256) b =
      false → Completes (.addSwitchBoundary ch) s fun t => t = s) ∧
  (∀ (ch : Fin 192) (b : Nat) (s : State), s.Clocked → (s.chanKey ch.val).rxAnnSs = some b →
    s.dropSsReached ch.val b = true → (s.chanKey ch.val).rxNxt ≠ noSlot → (s.chanKey ch.val).rxAct ≠ (s.chanKey ch.val).rxNxt →
    Completes (.dropSwitchBoundary ch) s fun t =>
      (t.chanKey ch.val).rxAct = (s.chanKey ch.val).rxNxt ∧ (t.chanKey ch.val).rxNxt = noSlot ∧
      (t.chanKey ch.val).rxAnnSs = none ∧ (t.chanKey ch.val).rxRetiring = (s.chanKey ch.val).rxAct ∧
      (t.chanKey ch.val).rxLastSs = some b ∧ (t.keySlot (s.chanKey ch.val).rxNxt).state = .active ∧
      ((s.chanKey ch.val).rxAct ≠ noSlot → (t.keySlot (s.chanKey ch.val).rxAct).state = .retiring) ∧
      (t.chanKey ch.val).rxEpoch = min ((s.chanKey ch.val).rxEpoch + 1) 0xFFFFFFFF ∧
      ((s.chanKey ch.val).rxRetiring ≠ noSlot → (s.chanKey ch.val).rxRetiring ≠ (s.chanKey ch.val).rxAct →
        (s.chanKey ch.val).rxRetiring ≠ (s.chanKey ch.val).rxNxt → t.keySlot (s.chanKey ch.val).rxRetiring = KeySlot.init) ∧
      Counted Ev.CY_KEY.dropTaken s t) ∧
  (∀ (ch : Fin 192) (b : Nat) (s : State), (s.chanKey ch.val).rxAnnSs = some b → s.dropSsReached ch.val b = false →
    Completes (.dropSwitchBoundary ch) s fun t => t = s) ∧
  (∀ (ch : Fin 192) (s : State), s.Clocked → (s.chanKey ch.val).rxRetiring ≠ noSlot →
    (∀ b, (s.chanKey ch.val).rxLastSs = some b → s.dropSsReached ch.val (b + 16) = true ∨ s.dropLost ch.val = true) →
    Completes (.retiringKeyExpiry ch) s fun t =>
      t.keySlot (s.chanKey ch.val).rxRetiring = KeySlot.init ∧ (t.chanKey ch.val).rxRetiring = noSlot ∧
      (∀ n, n ≠ (s.chanKey ch.val).rxRetiring → t.keySlot n = s.keySlot n) ∧
      t = { s with keySlots := t.keySlots, chanKeys := t.chanKeys }) ∧
  (∀ (ch : Fin 192) (s : State), s.coreUp = true → s.Clocked → s.kdfEn ch.val = true → (s.chanKey ch.val).annSs = none →
    (s.chanKey ch.val).txNxt ≠ noSlot → (s.chanKey ch.val).rxNxt ≠ noSlot → (s.chanKey ch.val).txEpoch ≠ 0xFFFFFFFF →
    Completes (.keyRotationTimer ch) s fun t =>
      (t.chanKey ch.val).annSs = some (if 2 ^ 40 ≤ s.addSs ch.val + max 40 (s.rd CY_KEY.ANN_CFG_ANN_LEAD) then 0
        else s.addSs ch.val + max 40 (s.rd CY_KEY.ANN_CFG_ANN_LEAD)) ∧
      (t.chanKey ch.val).rotDue = false ∧ (t.keySlot (s.chanKey ch.val).txNxt).state = .locked ∧
      Counted Ev.CY_KEY.announced s t) ∧
  (∀ s : State, s.Clocked → s.entropyFail = false →
    Completes (.drbgReseed true) s fun t => t.on CY_KEY.RNG_STATUS_DRBG_READY = true ∧
      KeepsFieldsBut [CY_KEY.RNG_STATUS_DRBG_READY] s t ∧ t = { s with regs := t.regs }) ∧
  (∀ s : State, s.Clocked → s.entropyFail = false →
    Completes (.drbgReseed false) s fun t => t.entropyFail = true ∧ t.on CY_KEY.RNG_STATUS_HEALTH_OK = false ∧
      Counted Ev.CY_KEY.entropyFail s t ∧ KeepsFieldsBut [CY_KEY.RNG_STATUS_HEALTH_OK] s t)

/-- A verdict deadline that is due counts a failure, extends the fail run and squelches the channel at FAIL_LIMIT, also
for a superframe of which no unit came; one that is not due does nothing; a waiting verdict report is sent and counted
where its client sends; RESUME ends an integrity squelch; the first held unit whose superframe has its verdict leaves
the hold, whichever waits before it. Rests on spec/09_channel_encryption.md (R289, R290, R292, R293). -/
def Obligations.IntegrityVerdicts : Prop :=
  (∀ (ch : Fin 192) (n : Nat) (a : Nat × Nat × Bool) (s : State), s.Clocked → s.verdictDue ch.val n = true →
    (s.dropOf ch.val).ss ≠ some n →
    ((s.dropOf ch.val).awaiting.find? fun x => x.1 = n) = some a →
    (∀ m, (s.dropOf ch.val).newest = some m → ssReached n (m + 1) = false) →
    Completes (.verdictDeadline ch n) s fun t =>
      Counted Ev.CY_PIPE.fail s t ∧ (t.chanKey ch.val).fail = ((s.chanKey ch.val).fail + 1) % 2 ^ 32 ∧
      (t.dropOf ch.val).failRun = (s.dropOf ch.val).failRun + 1 ∧
      (t.dropOf ch.val).awaiting = (s.dropOf ch.val).awaiting.filter (fun x => x.1 != n) ∧
      ((t.chanKey ch.val).integSquelch =
        ((s.chanKey ch.val).integSquelch ||
          decide (max 1 (s.rd CY_PIPE.INTEG_CFG_FAIL_LIMIT) ≤ (s.dropOf ch.val).failRun + 1)))) ∧
  (∀ (ch : Fin 192) (m : Nat) (s : State), s.Clocked → s.rxInteg ch.val = true → s.verdictDue ch.val (m + 1) = true →
    (s.dropOf ch.val).ss = none → (s.dropOf ch.val).newest = some m → (s.dropOf ch.val).awaiting = [] → m + 2 < 2 ^ 40 →
    Completes (.verdictDeadline ch (m + 1)) s fun t =>
      Counted Ev.CY_PIPE.fail s t ∧ (t.chanKey ch.val).fail = ((s.chanKey ch.val).fail + 1) % 2 ^ 32 ∧
      (t.dropOf ch.val).awaiting = [] ∧ (t.dropOf ch.val).newest = some (m + 1)) ∧
  (∀ (ch : Fin 192) (n : Nat) (s : State), s.verdictDue ch.val n = false →
    Completes (.verdictDeadline ch n) s fun t => t = s) ∧
  (∀ (ch : Fin 192) (v : VerdictReport) (rest : List VerdictReport) (s : State), s.Clocked →
    (s.dropOf ch.val).reports = v :: rest → s.clientSends v.client = true →
    Completes (.verdictReportSend ch) s fun t =>
      (∃ l, t.out = l ++ (if s.clientReplaced v.client then s.out
          else .verdict v.client (if s.clientIanen v.client then verdictSet ch.val v else s.verdictFrame ch.val v) :: s.out) ∧
        ((s.clientOf v.client).egress = [] → l = [])) ∧
      (t.dropOf ch.val).reports = rest ∧ Counted Ev.CY_PIPE.reports s t ∧ KeepsFieldsBut [] s t) ∧
  (∀ (ch : Fin 192) (v : VerdictReport) (rest : List VerdictReport) (s : State),
    (s.dropOf ch.val).reports = v :: rest → s.clientSends v.client = false →
    Completes (.verdictReportSend ch) s fun t => t = s) ∧
  (∀ (r : Requester) (ch : Byte) (s : State), s.Takes r 30 0x06C → ch.toNat < 192 →
    (s.chanKey ch.toNat).integSquelch = true →
    Completes (.resume r ch) s fun t => (t.chanKey ch.toNat).integSquelch = false ∧ (t.dropOf ch.toNat).failRun = 0 ∧
      Counted Ev.CY_PIPE.squelchCleared s t ∧ KeepsFieldsBut [] s t ∧ t.keySlots = s.keySlots) ∧
  (∀ (ch : Fin 192) (u : SourceUnit × Nat) (s : State), s.Clocked →
    ((s.dropOf ch.val).held.find? fun x => ((s.dropOf ch.val).passed ++ (s.dropOf ch.val).failed).contains (x.1.sfc / 256)) = some u →
    Completes (.heldUnitRelease ch) s fun t => (t.dropOf ch.val).held = (s.dropOf ch.val).held.erase u ∧
      t = (s.onDrop ch.val fun d => { d with held := (s.dropOf ch.val).held.erase u }).deliverUnit ch.val u.1) ∧
  (∀ (ch : Fin 192) (s : State),
    ((s.dropOf ch.val).held.all fun x => !((s.dropOf ch.val).passed ++ (s.dropOf ch.val).failed).contains (x.1.sfc / 256)) = true →
    Completes (.heldUnitRelease ch) s fun t => t = s)

/-- The doorbell rows, with the code that each writes to `MBX_CMD` (R373). -/
def mailboxRows (r : Requester) (x : Fin 2) (tag words : Byte) (image : List Byte) (data : List Word) : List (Instr × Nat) :=
  [(.ping r x tag words, 0x0001), (.getInfo r x tag words, 0x0002), (.fwWrite r x tag words image, 0x0101),
   (.fwVerify r x tag words, 0x0102), (.fwMoult r x tag words, 0x0103), (.fwSetBoot r x tag words, 0x0104),
   (.fwCommitSvn r x tag words, 0x0105), (.fwBoot r x tag words, 0x0106), (.cfgSave r x tag words, 0x0201),
   (.cfgClear r x tag words, 0x0202), (.linkUp r x tag words, 0x0301), (.linkDown r x tag words, 0x0302),
   (.glide r x tag words, 0x0303), (.planLoad r x tag words data, 0x0401), (.planDelete r x tag words, 0x0402),
   (.planList r x tag words, 0x0403), (.protStatus r x tag words, 0x0404), (.protHold r x tag words, 0x0405),
   (.ptpPortCfg r x tag words, 0x0501), (.ptpClockCfg r x tag words, 0x0502), (.ptpDataset r x tag words, 0x0503),
   (.pmRead r x tag words, 0x0601), (.pmReadBulk r x tag words, 0x0602), (.pmRestart r x tag words, 0x0603),
   (.krStatus r x tag words, 0x0701), (.krRotateNow r x tag words, 0x0702), (.calRun r x tag words, 0x0801),
   (.calStatus r x tag words, 0x0802), (.pwrCap r x tag words, 0x0901), (.pwrReport r x tag words, 0x0902),
   (.telStart r x tag words, 0x0A01), (.telStop r x tag words, 0x0A02)]

/-- Each of the 32 mailbox rows written to a free mailbox sets BUSY, clears PROGRESS (log entry 48) and queues its code,
tag and request words in order of arrival; to a busy mailbox it is dropped and counted; an unknown code is prepared to
end with status 1, and a wrong number of words with status 2. Rests on spec/12_control_complex.md (R370 to R373). -/
def Obligations.DoorbellsAreTakenOrDropped : Prop :=
  (∀ (r : Requester) (x : Fin 2) (tag words : Byte) (image : List Byte) (data : List Word) (s : State),
    s.Takes r (2 + x.val) 0x040 → s.on (MG_MBX.MBX_STATUS_BUSY x.val) = false →
    ∀ row ∈ mailboxRows r x tag words image data, Completes row.1 s fun t =>
      t.on (MG_MBX.MBX_STATUS_BUSY x.val) = true ∧ t.rd (MG_MBX.MBX_PROGRESS_PERCENT x.val) = 0 ∧
      t.mbxOrder = s.mbxOrder + 1 ∧
      ∃ c, t.mbxOf x.val = some c ∧ c.op = row.2 ∧ c.tag = tag.toNat ∧ c.order = s.mbxOrder ∧
        c.words = (List.range words.toNat).map (fun i => s.rd (MG_MBX.REQ_WORD x.val i)) ∧
        (row.2 = 0x0101 → c.data = image.map (·.toNat)) ∧ (row.2 = 0x0401 → c.data = data.map (·.toNat)) ∧
        (s.mbxServed x.val = true → s.mbxOf (1 - x.val) = none → c.started = true)) ∧
  (∀ (r : Requester) (x : Fin 2) (tag words : Byte) (image : List Byte) (data : List Word) (s : State),
    s.Takes r (2 + x.val) 0x040 → s.on (MG_MBX.MBX_STATUS_BUSY x.val) = true →
    ∀ row ∈ mailboxRows r x tag words image data, Completes row.1 s fun t =>
      Counted (Ev.MG_MBX.dropped x.val) s t ∧ t.mbx = s.mbx ∧ KeepsFieldsBut [] s t ∧ s.EventFrame t) ∧
  (∀ (r : Requester) (x : Fin 2) (op : BitVec 16) (tag words : Byte) (s : State), s.Takes r (2 + x.val) 0x040 →
    s.on (MG_MBX.MBX_STATUS_BUSY x.val) = false → reqWords op.toNat = none → s.mbxServed x.val = true →
    s.inRecovery = false → s.mbxOf (1 - x.val) = none →
    Completes (.unknownOp r x op tag words) s fun t =>
      t.on (MG_MBX.MBX_STATUS_BUSY x.val) = true ∧ ∃ c, t.mbxOf x.val = some c ∧ c.op = op.toNat ∧ c.ended = some (1, 0, [])) ∧
  (∀ (r : Requester) (x : Fin 2) (tag words : Byte) (s : State), s.Takes r (2 + x.val) 0x040 →
    s.on (MG_MBX.MBX_STATUS_BUSY x.val) = false → s.coreUp = true → s.mbxOf (1 - x.val) = none → words.toNat ≠ 0 →
    Completes (.ping r x tag words) s fun t => ∃ c, t.mbxOf x.val = some c ∧ c.ended = some (2, 0, [])) ∧
  (∀ (r : Requester) (tag words : Byte) (image : List Byte) (data : List Word) (s : State), s.Takes r 2 0x040 →
    s.on (MG_MBX.MBX_STATUS_BUSY 0) = false → s.inRecovery = true → s.mbxOf 1 = none →
    ∀ row ∈ mailboxRows r 0 tag words image data, recoveryOp row.2 = false → Completes row.1 s fun t =>
      ∃ c, t.mbxOf 0 = some c ∧ c.ended = some (4, 0, []))

/-- What the end of a mailbox command leaves: status, detail, tag and response; BUSY clear and DONE set (R370). -/
def MailboxEnded (x : Fin 2) (c : MbxCmd) (s t : State) (status detail : Nat) (rsp : List Nat) : Prop :=
  t.on (MG_MBX.MBX_STATUS_BUSY x.val) = false ∧ t.on (MG_MBX.MBX_STATUS_DONE x.val) = true ∧
  t.rd (MG_MBX.MBX_STATUS_STATUS x.val) = status ∧ t.rd (MG_MBX.MBX_DETAIL_DETAIL x.val) = detail ∧
  t.rd (MG_MBX.MBX_STATUS_TAG x.val) = c.tag % 2 ^ 8 ∧ t.rd (MG_MBX.MBX_RSP_RSP_WORDS x.val) = rsp.length ∧
  (∀ i, i < rsp.length → t.rd (MG_MBX.RSP_WORD x.val i) = rsp.getD i 0 % 2 ^ 32) ∧ t.mbxOf x.val = none ∧
  Counted (Ev.MG_MBX.done x.val) s t ∧ (status ≠ 0 → Counted (Ev.MG_MBX.failed x.val) s t)

/-- A started command of a mailbox whose service runs, while the other mailbox has none waiting. -/
def MailboxReady (x : Fin 2) (c : MbxCmd) (s : State) : Prop :=
  s.mbxOf x.val = some c ∧ c.started = true ∧ s.mbxServed x.val = true ∧ ∀ d, s.mbxOf (1 - x.val) = some d → d.started = true

/-- A started command of a served mailbox ends with BUSY clear, DONE set, its status, detail, tag and response words: one
ended before with that status, one whose data failed with 12 and the DMA error, one whose data waits for channel 15
not yet, PING, GET_INFO, FW_WRITE, FW_VERIFY, FW_SET_BOOT, FW_COMMIT_SVN, FW_BOOT, CFG_SAVE and CFG_CLEAR with their
effect on the flash and the cores. Rests on spec/12_control_complex.md (R363 to R366, R370 to R373). -/
def Obligations.MailboxCommandsEndWithTheirResult : Prop :=
  ∀ (x : Fin 2) (c : MbxCmd) (s : State), MailboxReady x c s →
    (∀ (o : MbxServed) (st : Nat), c.ended = some (st, 0, []) → st < 256 →
      Completes (.mailboxCommandDone x o) s fun t => MailboxEnded x c s t st 0 []) ∧
    (∀ e : Fin 8, c.ended = none → c.op = 0x0101 ∨ c.op = 0x0401 ∨ c.op = 0x0602 →
      Completes (.mailboxCommandDone x (.dmaError e.val)) s fun t =>
        MailboxEnded x c s t 12 e.val [] ∧ t.flash = s.flash ∧ t.prot = s.prot) ∧
    (∀ n : Nat, c.ended = none → c.op = 0x0101 ∨ c.op = 0x0102 ∨ c.op = 0x0104 ∨ c.op = 0x0106 ∨ c.op = 0x0201 ∨ c.op = 0x0202 →
      n < 2 ^ 32 → Completes (.mailboxCommandDone x (.flashError n)) s fun t => MailboxEnded x c s t 8 n [] ∧ t.flash = s.flash) ∧
    (c.ended = none → c.op = 0x0101 ∨ c.op = 0x0401 ∨ c.op = 0x0602 →
      (s.linkUp = false ∨ s.on DMA_ENG.ENG_STATUS_HALTED = true) →
      Completes (.mailboxCommandDone x .ok) s fun t => MailboxEnded x c s t 12 1 [] ∧ t.flash = s.flash ∧ t.prot = s.prot) ∧
    (c.ended = none → c.op = 0x0101 ∨ c.op = 0x0401 ∨ c.op = 0x0602 → s.serviceError 15 = none → s.serviceRuns 15 = false →
      Completes (.mailboxCommandDone x .ok) s fun t => t = s) ∧
    (c.ended = none →
      (c.op = 0x0001 → Completes (.mailboxCommandDone x .ok) s fun t =>
        MailboxEnded x c s t 0 0 [s.rd MG_CTL.FW_VERSION_VERSION, s.rd MG_CTL.FW_SVN_SVN + 2 ^ 8 * s.rd MG_CTL.CORE_STATUS_ACTIVE]) ∧
      (c.op = 0x0002 → Completes (.mailboxCommandDone x .ok) s fun t => ∃ a b k, MailboxEnded x c s t 0 0
        [a, b, k, s.rd MG_CTL.FW_SVN_MIN_SVN] ∧ (∀ i, s.validSlot 0 = some i → a = i.version.toNat) ∧
        (s.validSlot 0 = none → a = 0) ∧ (∀ i, s.validSlot 1 = some i → b = i.version.toNat) ∧ (s.validSlot 1 = none → b = 0)) ∧
      (c.op = 0x0101 → c.w 0 < 2 → s.serviceError 15 = none → s.serviceRuns 15 = true → c.w 3 ≤ c.data.length →
        Completes (.mailboxCommandDone x .ok) s fun t =>
        MailboxEnded x c s t 0 0 [] ∧ t.flashSlot (c.w 0) = ⟨c.data.take (c.w 3), false⟩ ∧
        t.flashSlot (1 - c.w 0) = s.flashSlot (1 - c.w 0) ∧
        t.out = (requestCuts 512 (c.w 3) (c.w 1 + 2 ^ 32 * c.w 2) (c.w 3)).reverse.map (fun e => Out.hostRead e.1 e.2) ++ s.out) ∧
      (∀ i : FwImage, c.op = 0x0102 → s.validSlot (c.w 0) = some i → Completes (.mailboxCommandDone x .ok) s fun t =>
        MailboxEnded x c s t 0 0 [i.version.toNat, i.svn.toNat] ∧ t.flash = s.flash) ∧
      (c.op = 0x0102 → s.validSlot (c.w 0) = none → Completes (.mailboxCommandDone x .ok) s fun t =>
        MailboxEnded x c s t 7 0 [] ∧ t.flash = s.flash) ∧
      (c.op = 0x0103 → s.validSlot (c.w 0) = none → Completes (.mailboxCommandDone x .ok) s fun t =>
        MailboxEnded x c s t 7 0 [] ∧ t.core.moult = none ∧ t.on MG_CTL.CORE_STATUS_MOULT_BUSY = false ∧
        t.coreSt (1 - s.activeCore) = 2 ∧ t.coreImage (1 - s.activeCore) = s.coreImage s.activeCore) ∧
      (∀ i run : FwImage, c.op = 0x0103 → s.validSlot (c.w 0) = some i → s.coreImage s.activeCore = some run →
        run.stateVer.toNat < i.stateMin.toNat → Completes (.mailboxCommandDone x .ok) s fun t =>
        MailboxEnded x c s t 4 run.stateVer.toNat [] ∧ t.core.moult = none ∧ t.coreSt (1 - s.activeCore) = 2) ∧
      (∀ i run : FwImage, c.op = 0x0103 → s.validSlot (c.w 0) = some i → s.coreImage s.activeCore = some run →
        i.stateMin.toNat ≤ run.stateVer.toNat → Completes (.mailboxCommandDone x .ok) s fun t => t = s) ∧
      (∀ i : FwImage, c.op = 0x0104 → s.validSlot (c.w 0) = some i → Completes (.mailboxCommandDone x .ok) s fun t =>
        MailboxEnded x c s t 0 0 [] ∧ t.flash = { s.flash with dir := dirImage (c.w 0) }) ∧
      (c.op = 0x0104 → s.validSlot (c.w 0) = none → Completes (.mailboxCommandDone x .ok) s fun t =>
        MailboxEnded x c s t 4 0 [] ∧ t.flash = s.flash) ∧
      (c.op = 0x0105 → Completes (.mailboxCommandDone x .ok) s fun t =>
        MailboxEnded x c s t 0 0 [max (s.rd MG_CTL.FW_SVN_MIN_SVN) (s.rd MG_CTL.FW_SVN_SVN)] ∧
        t.rd MG_CTL.FW_SVN_MIN_SVN = max (s.rd MG_CTL.FW_SVN_MIN_SVN) (s.rd MG_CTL.FW_SVN_SVN)) ∧
      (∀ i : FwImage, c.op = 0x0106 → s.validSlot (c.w 0) = some i → c.w 0 < 2 → s.coreQuarantined 0 = false →
        s.coreQuarantined 1 = false → Completes (.mailboxCommandDone x .ok) s fun t =>
        MailboxEnded x c s t 0 0 [] ∧ t.coreImage 0 = some i ∧ t.coreImage 1 = some i ∧ t.coreSt 0 = 1 ∧ t.coreSt 1 = 2 ∧
        t.rd MG_CTL.CORE_STATUS_RUN_SLOT = c.w 0 ∧ t.rd MG_CTL.FW_VERSION_VERSION = i.version.toNat) ∧
      (c.op = 0x0201 → Completes (.mailboxCommandDone x .ok) s fun t => ∃ seq copy, MailboxEnded x c s t 0 0 [seq] ∧
        (s.cfgNewest = some 0 → t.flash.copy1 = some copy ∧ t.flash.copy0 = s.flash.copy0) ∧
        (s.cfgNewest ≠ some 0 → t.flash.copy0 = some copy ∧ t.flash.copy1 = s.flash.copy1) ∧ copy.seq = seq ∧
        copy.valid = true ∧ copy.policy = c.w 0 ∧ copy.records = s.cfgRecords ∧ (s.cfgNewest = none → seq = 1)) ∧
      (c.op = 0x0202 → Completes (.mailboxCommandDone x .ok) s fun t =>
        MailboxEnded x c s t 0 0 [] ∧ t.flash = { s.flash with copy0 := none, copy1 := none }))

/-- LINK_UP, LINK_DOWN, GLIDE, the PLAN and PROT rows, the PTP rows, the PM rows, the KR rows, the CAL rows, the PWR rows
and the TEL rows each end with the status, response words and effect of their description; LINK_DOWN does not end
while the port is not DARK (log entry 62). Rests on spec/08_ring_operation.md (R249, R250, R255);
spec/11_time_distribution.md (R341); spec/12_control_complex.md (R369, R370, R372, R373, R376). -/
def Obligations.LinkAndProtectionCommandsEnd : Prop :=
  ∀ (x : Fin 2) (c : MbxCmd) (s : State), MailboxReady x c s → c.ended = none →
    (c.op = 0x0301 → s.acqSt (Port.ofBit (c.w 0)) = acqAcquired → Completes (.mailboxCommandDone x .ok) s fun t =>
      MailboxEnded x c s t 0 0 [s.rd (RXFE.ACQ_STATUS_ACQ_TIME (Port.ofBit (c.w 0)))]) ∧
    (c.op = 0x0301 → s.acqSt (Port.ofBit (c.w 0)) ≠ acqAcquired → Completes (.mailboxCommandDone x .ok) s fun t =>
      MailboxEnded x c s t 11 (s.acqSt (Port.ofBit (c.w 0))) []) ∧
    (c.op = 0x0302 → s.txSt (Port.ofBit (c.w 0)) = txDark → Completes (.mailboxCommandDone x .ok) s fun t =>
      MailboxEnded x c s t 0 0 []) ∧
    (c.op = 0x0302 → s.txSt (Port.ofBit (c.w 0)) ≠ txDark → Completes (.mailboxCommandDone x .ok) s fun t => t = s) ∧
    (c.op = 0x0303 → (s.neg.get (Port.ofBit (c.w 0))).ended = 2 → Completes (.mailboxCommandDone x .ok) s fun t =>
      MailboxEnded x c s t 14 (s.rd (HB_RING.NEG_STATUS_LAST_CAUSE (Port.ofBit (c.w 0)))) []) ∧
    (c.op = 0x0303 → (s.neg.get (Port.ofBit (c.w 0))).ended = 1 → Completes (.mailboxCommandDone x .ok) s fun t =>
      MailboxEnded x c s t 0 0 ([s.rd (HB_RING.NEG_STATUS_TXN (Port.ofBit (c.w 0)))] ++
        twoWords (s.neg.get (Port.ofBit (c.w 0))).atF ++ twoWords (s.neg.get (Port.ofBit (c.w 0))).atR)) ∧
    (c.op = 0x0303 → 3 ≤ (s.neg.get (Port.ofBit (c.w 0))).ended → Completes (.mailboxCommandDone x .ok) s fun t =>
      MailboxEnded x c s t 11 (s.negSt (Port.ofBit (c.w 0))) []) ∧
    (c.op = 0x0303 → (s.neg.get (Port.ofBit (c.w 0))).ended = 0 → Completes (.mailboxCommandDone x .ok) s fun t => t = s) ∧
    (c.op = 0x0401 → s.serviceError 15 = none → s.serviceRuns 15 = true → 384 ≤ c.data.length → Completes (.mailboxCommandDone x .ok) s fun t => MailboxEnded x c s t 0 0 [] ∧
      Tab.get ⟨[], [], []⟩ t.prot.plans (c.w 0) = planOf ((List.range (c.w 1)).map fun i => c.w (2 + i)) (c.data.take 384) ∧
      t.prot.inForce = s.prot.inForce ∧ t.bar2 = s.bar2) ∧
    (c.op = 0x0402 → s.prot.inForce ≠ c.w 0 → Completes (.mailboxCommandDone x .ok) s fun t => MailboxEnded x c s t 0 0 [] ∧
      t.prot = { s.prot with plans := Tab.erase s.prot.plans (c.w 0) }) ∧
    (c.op = 0x0402 → s.prot.inForce = c.w 0 → Completes (.mailboxCommandDone x .ok) s fun t =>
      MailboxEnded x c s t 4 0 [] ∧ t.prot = s.prot) ∧
    (c.op = 0x0403 → Completes (.mailboxCommandDone x .ok) s fun t => ∃ l, MailboxEnded x c s t 0 0 l ∧ l.length = 8 ∧
      ∀ n, 0 < n → n < 256 → bitOf (l.getD (n / 32) 0) (n % 32) = Tab.has s.prot.plans n) ∧
    (c.op = 0x0404 → Completes (.mailboxCommandDone x .ok) s fun t => MailboxEnded x c s t 0 0 s.protStatus) ∧
    (c.op = 0x0405 → Completes (.mailboxCommandDone x .ok) s fun t => MailboxEnded x c s t 0 0 [] ∧
      t.prot = { s.prot with hold := bitOf (c.w 0) 0 }) ∧
    (c.op = 0x0501 → Completes (.mailboxCommandDone x .ok) s fun t => MailboxEnded x c s t 0 0 [] ∧
      (t.servoOf (c.w 0 % 4) (bitOf (c.w 0) 4)).kind = bits (c.w 0) 8 2 ∧
      (t.servoOf (c.w 0 % 4) (bitOf (c.w 0) 4)).twoStep = bitOf (c.w 0) 10 ∧
      (t.servoOf (c.w 0 % 4) (bitOf (c.w 0) 4)).localPriority = bits (c.w 0) 16 8) ∧
    (c.op = 0x0502 → Completes (.mailboxCommandDone x .ok) s fun t => MailboxEnded x c s t 0 0 [] ∧
      (t.tbOf (c.w 0)).clockQual = c.w 1 ∧ (t.tbOf (c.w 0)).clockVar = c.w 2 % 65536) ∧
    (c.op = 0x0503 → Completes (.mailboxCommandDone x .ok) s fun t => ∃ l, MailboxEnded x c s t 0 0 l ∧ l.length = 10 ∧
      t.tb = s.tb) ∧
    (c.op = 0x0601 → Completes (.mailboxCommandDone x .ok) s fun t =>
      MailboxEnded x c s t 0 0 (wordsOf ((s.binsOf ((pmEntityOf (c.w 0)).getD 0) (bitOf (c.w 0) 10)).record (bits (c.w 0) 16 8)))) ∧
    (c.op = 0x0602 → s.serviceError 15 = none → s.serviceRuns 15 = true →
      Completes (.mailboxCommandDone x .ok) s fun t => MailboxEnded x c s t 0 0 [] ∧
      t.out = (s.serviceWrite 15 (c.w 1 + 2 ^ 32 * c.w 2)
        ((List.range (if bitOf (c.w 0) 10 then 8 else 97)).flatMap
          (s.binsOf ((pmEntityOf (c.w 0)).getD 0) (bitOf (c.w 0) 10)).record)).out ∧ t.bar2 = s.bar2 ∧ t.sram = s.sram) ∧
    (c.op = 0x0603 → Completes (.mailboxCommandDone x .ok) s fun t => MailboxEnded x c s t 0 0 [] ∧
      (t.pmOf ((pmEntityOf (c.w 0)).getD 0)).quarter.cur.suspect = true ∧
      (t.pmOf ((pmEntityOf (c.w 0)).getD 0)).day.cur.suspect = true) ∧
    (c.op = 0x0701 → Completes (.mailboxCommandDone x .ok) s fun t => ∃ m, MailboxEnded x c s t 0 0
      [bit (s.kdfEn (c.w 0)), m, (s.chanKey (c.w 0)).refusals]) ∧
    (c.op = 0x0702 → s.Clocked → (s.chanKey (c.w 0)).annSs = none → (s.chanKey (c.w 0)).txNxt ≠ noSlot →
      (s.chanKey (c.w 0)).txEpoch ≠ 0xFFFFFFFF → Completes (.mailboxCommandDone x .ok) s fun t =>
      MailboxEnded x c s t 0 0 [] ∧ (t.chanKey (c.w 0)).annSs = some ((s.addSs (c.w 0) + s.annLead) % 2 ^ 40)) ∧
    (c.op = 0x0702 → s.Clocked → (s.chanKey (c.w 0)).txNxt = noSlot → Completes (.mailboxCommandDone x .ok) s fun t =>
      MailboxEnded x c s t 6 7 [] ∧ t.chanKeys = s.chanKeys) ∧
    (c.op = 0x0702 → s.rclkStopped = true → Completes (.mailboxCommandDone x .ok) s fun t =>
      MailboxEnded x c s t 4 0 [] ∧ t.chanKeys = s.chanKeys) ∧
    (c.op = 0x0801 → s.calRunOver (c.w 0) = true → Completes (.mailboxCommandDone x .ok) s fun t => MailboxEnded x c s t 0 0 []) ∧
    (c.op = 0x0801 → s.calRunOver (c.w 0) = false → Completes (.mailboxCommandDone x .ok) s fun t =>
      ∃ d, MailboxEnded x c s t 11 d []) ∧
    (c.op = 0x0802 → Completes (.mailboxCommandDone x .ok) s fun t => MailboxEnded x c s t 0 0
      [(s.calRun.get (Port.ofBit (c.w 0))).sinceMs / 1000,
       unsigned 32 (s.rdI (RXCONV.CAL_STATUS_T_REF (Port.ofBit (c.w 0)))), bit (s.calRun.get (Port.ofBit (c.w 0))).implausible]) ∧
    (c.op = 0x0901 → Completes (.mailboxCommandDone x .ok) s fun t => MailboxEnded x c s t 0 0 [] ∧
      t.rd PWR_MGR.CAP_CFG_CAP_W = bits (c.w 0) 0 12) ∧
    (c.op = 0x0902 → Completes (.mailboxCommandDone x .ok) s fun t => MailboxEnded x c s t 0 0 s.pwrReport) ∧
    (c.op = 0x0A01 → Completes (.mailboxCommandDone x .ok) s fun t => MailboxEnded x c s t 0 0 [] ∧
      t.tel = some ⟨c.w 0, c.w 1, c.w 2 + 2 ^ 32 * c.w 3, c.w 4, 0, c.w 1⟩) ∧
    (c.op = 0x0A02 → Completes (.mailboxCommandDone x .ok) s fun t => MailboxEnded x c s t 0 0 [] ∧ t.tel = none)

/-- A taken abort of a command in FW_WRITE, LINK_UP, PM_READ_BULK or CAL_RUN ends it with status 13 and counts an abort;
an abort of any other command changes nothing. Rests on spec/12_control_complex.md (R374). -/
def Obligations.MailboxAborts : Prop :=
  ∀ (r : Requester) (x : Fin 2) (c : MbxCmd) (s : State), s.Takes r (2 + x.val) 0x054 → s.mbxOf x.val = some c →
    (∀ d, s.mbxOf (1 - x.val) = some d → d.started = true) → c.ended = none →
    (c.op = 0x0101 ∨ c.op = 0x0301 ∨ c.op = 0x0602 ∨ c.op = 0x0801 → Completes (.mbxAbort r x) s fun t =>
      MailboxEnded x c s t 13 0 [] ∧ Counted (Ev.MG_MBX.aborted x.val) s t) ∧
    (c.op ≠ 0x0101 ∧ c.op ≠ 0x0301 ∧ c.op ≠ 0x0602 ∧ c.op ≠ 0x0801 → Completes (.mbxAbort r x) s fun t => t = s)

/-- Setting TX_ENABLE starts the ramp of a DARK port with a valid configuration and is refused and counted otherwise;
clearing it starts the ramp down; each ramp step moves the attenuation by one step and ends in ALIGN or DARK, where no
symbols follow; the end marker turns the port ON, where payload follows; preambles are sent when asked or forced; the
cluster rotation exchanges a spare that has passed its self-test with the next unit, and does nothing without one or
in a redo. Rests on spec/01_architecture.md (R25); spec/02_transmit_path.md (R52, R56, R57, R59);
spec/12_control_complex.md (R377). -/
def Obligations.TransmitterFollowsItsStateMachine : Prop :=
  (∀ (r : Requester) (p : Port) (s : State), s.Takes r (31 + 8 * p.toNat) 0x058 → s.txSt p = txDark → s.txValid p = true →
    Completes (.txEnableSet r p) s fun t => t.txSt p = txRampUp ∧ t.on (TX.TX_CTRL_TX_ENABLE p) = true ∧
      (t.tx.get p).atten = s.rd (TX.RAMP_DEPTH_TOTAL_DB p) * 1000 * s.rampMs p ∧ (t.tx.get p).zeroed = false ∧
      (t.tx.get p).repeating = true ∧ t.tx.get p.other = s.tx.get p.other ∧
      KeepsFieldsBut [TX.TX_STATUS_TX_STATE p, TX.TX_CTRL_TX_ENABLE p] s t) ∧
  (∀ (r : Requester) (p : Port) (s : State), s.Takes r (31 + 8 * p.toNat) 0x058 → s.txSt p = txDark → s.txValid p = false →
    Completes (.txEnableSet r p) s fun t => t.txSt p = txDark ∧ t.on (TX.TX_CTRL_TX_ENABLE p) = false ∧
      Counted (Ev.TX.cfgRefused p) s t ∧ KeepsFieldsBut [TX.TX_CTRL_TX_ENABLE p] s t) ∧
  (∀ (r : Requester) (p : Port) (s : State), s.Takes r (31 + 8 * p.toNat) 0x058 → s.txSt p = txRampDown →
    Completes (.txEnableSet r p) s fun t => t.txSt p = txRampUp ∧ t.on (TX.TX_CTRL_TX_ENABLE p) = true) ∧
  (∀ (r : Requester) (p : Port) (s : State), s.Takes r (31 + 8 * p.toNat) 0x058 → s.txSt p ≠ txResetWait → s.txSt p ≠ txDark →
    s.txSt p < 6 →
    Completes (.txEnableClear r p) s fun t => t.txSt p = txRampDown ∧ t.on (TX.TX_CTRL_TX_ENABLE p) = false ∧
      (s.txSt p = txOn → (t.tx.get p).atten = 0) ∧
      KeepsFieldsBut [TX.TX_STATUS_TX_STATE p, TX.TX_CTRL_TX_ENABLE p, PWR_MGR.CAL_STATE_ACTIVE, PWR_MGR.CAL_STATE_PENDING] s t ∧
      (bitOf (s.rd PWR_MGR.CAL_STATE_ACTIVE) p.toNat = false →
        KeepsFieldsBut [TX.TX_STATUS_TX_STATE p, TX.TX_CTRL_TX_ENABLE p] s t)) ∧
  (∀ (r : Requester) (p : Port) (s : State), s.Takes r (31 + 8 * p.toNat) 0x058 → s.txSt p = txOn →
    Completes (.forcePreamble r p) s fun t => (t.tx.get p).forced = true ∧ t = { s with tx := t.tx }) ∧
  (∀ (r : Requester) (p : Port) (s : State), s.Takes r (31 + 8 * p.toNat) 0x058 → s.txSt p ≠ txOn →
    Completes (.forcePreamble r p) s fun t => t = s) ∧
  (∀ (p : Port) (s : State), s.Clocked → s.txSt p = txRampUp →
    Completes (.rampStep p) s fun t =>
      (t.tx.get p).atten = (s.tx.get p).atten - s.rd (TX.RAMP_DEPTH_TOTAL_DB p) ∧
      t.txSt p = (if (s.tx.get p).atten ≤ s.rd (TX.RAMP_DEPTH_TOTAL_DB p) then txAlign else txRampUp) ∧
      KeepsFieldsBut [TX.TX_STATUS_TX_STATE p] s t) ∧
  (∀ (p : Port) (s : State), s.Clocked → s.txSt p = txRampDown →
    (s.tx.get p).atten + s.rd (TX.RAMP_DEPTH_TOTAL_DB p) < s.rd (TX.RAMP_DEPTH_TOTAL_DB p) * 1000 * (s.tx.get p).rampMs →
    Completes (.rampStep p) s fun t => t.txSt p = txRampDown ∧ (t.tx.get p).sent = (s.tx.get p).sent ∧
      (t.tx.get p).atten = (s.tx.get p).atten + s.rd (TX.RAMP_DEPTH_TOTAL_DB p) ∧ t = { s with tx := t.tx }) ∧
  (∀ (p : Port) (s : State), s.Clocked → s.txSt p = txRampDown →
    s.rd (TX.RAMP_DEPTH_TOTAL_DB p) * 1000 * (s.tx.get p).rampMs ≤ (s.tx.get p).atten + s.rd (TX.RAMP_DEPTH_TOTAL_DB p) →
    Completes (.rampStep p) s fun t => t.txSt p = txDark ∧ (t.tx.get p).zeroed = true ∧ (t.tx.get p).repeating = false ∧
      (t.tx.get p).sent.getLast? = some (s.nextFrame p, .dark) ∧
      Counted (Ev.TX.dark p) s t) ∧
  (∀ (p : Port) (s : State), s.Clocked → s.txSt p = txAlign →
    Completes (.preambleEndMarkerDone p) s fun t => t.txSt p = txOn ∧ (t.tx.get p).repeating = false ∧
      (t.tx.get p).sent.getLast? = some (s.nextFrame p, .payload) ∧
      Counted (Ev.TX.on p) s t ∧ Counted (Ev.TX.preambleSent p) s t ∧ KeepsFieldsBut [TX.TX_STATUS_TX_STATE p] s t) ∧
  (∀ (p : Port) (s : State), s.Clocked → s.txSt p = txOn →
    ((s.preambleAsked p && decide (s.preInterval p ≤ (s.tx.get p).preCount)) = true ∨ (s.tx.get p).forced = true) →
    Completes (.preambleScheduled p) s fun t => (t.frame.get p).preamble = true ∧ (t.tx.get p).forced = false ∧
      Counted (Ev.TX.preambleSent p) s t ∧ KeepsFieldsBut [] s t) ∧
  (∀ (p : Port) (s : State), s.Clocked → s.txSt p = txOn →
    (s.preambleAsked p && decide (s.preInterval p ≤ (s.tx.get p).preCount)) = false → (s.tx.get p).forced = false →
    Completes (.preambleScheduled p) s fun t => t = s) ∧
  (∀ (p : Port) (u pl : Nat) (s : State), s.Clocked → (s.tx.get p).abandoned = false → (s.block (.txCluster p)).spares (.txCluster p) ≠ 0 →
    (s.block (.txCluster p)).mayEclose (s.rd (TX.CLU_ROT_CHRYS_CLU p)) = true →
    nextCluster (s.block (.txCluster p)) (.txCluster p) (s.rd (TX.CLU_ROT_CHRYS_CLU p)) 9 = some u →
    (s.block (.txCluster p)).placeOf (.txCluster p) u = some pl →
    Completes (.txClusterRotation p) s fun t => t.rd (TX.CLU_ROT_CHRYS_CLU p) = u ∧
      (t.block (.txCluster p)).unitAt pl = s.rd (TX.CLU_ROT_CHRYS_CLU p) ∧
      (∀ q, q ≠ pl → (t.block (.txCluster p)).unitAt q = (s.block (.txCluster p)).unitAt q) ∧
      KeepsFieldsBut [TX.CLU_ROT_CHRYS_CLU p] s t) ∧
  (∀ (p : Port) (s : State), s.Clocked → ((s.tx.get p).abandoned = true ∨ (s.block (.txCluster p)).spares (.txCluster p) = 0 ∨
    (s.block (.txCluster p)).mayEclose (s.rd (TX.CLU_ROT_CHRYS_CLU p)) = false) →
    Completes (.txClusterRotation p) s fun t => t = s)

/-- A region reset request makes the receiver IDLE, sends the transmitter to RESET_WAIT or leaves it DARK, and ends
pending eclosions of the port with result 8; a second request changes nothing; the reset ends once the transmitter is
DARK, with both enables clear and counted. Rests on spec/03_receive_front_end.md (R76); spec/04_equaliser_and_retry.md
(R118). -/
def Obligations.RegionResetOfAPort : Prop :=
  (∀ (r : Requester) (p : Port) (s : State), s.Takes r (35 + 8 * p.toNat) 0x040 →
    s.on (RXEQ.REGION_CTRL_RESET_BUSY p) = false →
    Completes (.regionResetRequest r p) s fun t => t.on (RXEQ.REGION_CTRL_RESET_BUSY p) = true ∧ t.acqSt p = acqIdle ∧
      (s.txSt p = txDark → t.txSt p = txDark) ∧ (s.txSt p = txOn ∨ s.txSt p = txAlign → t.txSt p = txResetWait) ∧
      (∀ e ∈ s.ecl, e.2.groups &&& portGroups p ≠ 0 → t.rd (HDR.STAGE_STATUS_RESULT (eclPage e.1)) = 8 ∧
        Tab.has t.ecl e.1 = false)) ∧
  (∀ (r : Requester) (p : Port) (s : State), s.Takes r (35 + 8 * p.toNat) 0x040 →
    s.on (RXEQ.REGION_CTRL_RESET_BUSY p) = true → Completes (.regionResetRequest r p) s fun t => t = s) ∧
  (∀ (p : Port) (s : State), s.Clocked → s.on (RXEQ.REGION_CTRL_RESET_BUSY p) = true → s.txSt p = txDark →
    Completes (.regionResetDone p) s fun t => t.on (RXEQ.REGION_CTRL_RESET_BUSY p) = false ∧
      t.on (RXFE.RX_CTRL_RX_ENABLE p) = false ∧ t.on (TX.TX_CTRL_TX_ENABLE p) = false ∧
      Counted (Ev.RXEQ.regionReset p) s t) ∧
  (∀ (p : Port) (s : State), s.Clocked → s.on (RXEQ.REGION_CTRL_RESET_BUSY p) = true → s.txSt p ≠ txDark →
    Completes (.regionResetDone p) s fun t => t = s)

/-- The hypothesis that the last symbols of a port's preamble resolve to, with the coarse offset F̂ taken off (R112). -/
def trainingHypothesis (s : State) (p : Port) (kept : List (List Int)) : Nat :=
  let trace := fun i =>
    let l := derotate 0 (phaseStep (10 * s.rdI (RXFE.CFC_F_HAT p)) (s.rxMode p).rateQ)
      (kept.map fun v => (v.getD i 0, v.getD (i + 1) 0))
    l.zipWith unphase (unwrapPhases 0 (phaseSearch (fun _ => 0) (s.bpsWin p) l))
  bestHypothesis (trace 0) (trace 2) (preambleTail kept.length)

/-- The symbols of the preamble that are held once those of a hop up to the boundary have left (R112). -/
def keptSymbols (s : State) (p : Port) (h : Hop) (left : Nat) : List (List Int) :=
  newest 8192 ((s.rx.get p).retained ++ (h.symbols.take (h.before left)).map (onGrid preamblePower64))

/-- RX_ENABLE starts and ends acquisition and is ignored during a region reset (log entry 90), loss of signal is declared
after 10 and cleared after 100 power intervals, a scan whose best metric reaches the threshold goes to TIMING with the
best fine candidate as dispersion and one below it to NO_CARRIER, the preamble peak and end marker lead to EQ_TRAIN
with the superframe lock taken, the hop that holds the boundary gives the best hypothesis of the last symbols of the
preamble, an offset beyond 5000 MHz returns to PRE_HUNT, and every timed state that runs out returns to CD_SCAN with
its cause. Rests on spec/03_receive_front_end.md (R83 to R86, R88, R89); spec/04_equaliser_and_retry.md (R99, R102,
R108, R112, R116); spec/05_soft_decision_coding.md (R142); spec/12_control_complex.md (R377). -/
def Obligations.AcquisitionFollowsItsStateMachine : Prop :=
  (∀ (r : Requester) (p : Port) (s : State), s.Takes r (33 + 8 * p.toNat) 0x040 → s.acqSt p = acqIdle → s.rxValid p = true →
    s.on (RXEQ.REGION_CTRL_RESET_BUSY p) = false →
    Completes (.rxEnableSet r p) s fun t => t.acqSt p = acqNoSignal ∧ t.on (RXFE.RX_CTRL_RX_ENABLE p) = true ∧
      t.on (RXFE.ACQ_STATUS_LOS p) = true ∧
      (s.on (RXCONV.CAL_CFG_CAL_HOLD p) = false → t.on (RXCONV.CAL_STATUS_RUN_ACTIVE p) = true)) ∧
  (∀ (r : Requester) (p : Port) (s : State), s.Takes r (33 + 8 * p.toNat) 0x040 → s.acqSt p = acqIdle → s.rxValid p = false →
    s.on (RXEQ.REGION_CTRL_RESET_BUSY p) = false →
    Completes (.rxEnableSet r p) s fun t => t.acqSt p = acqIdle ∧ t.on (RXFE.RX_CTRL_RX_ENABLE p) = false ∧
      Counted (Ev.RXFE.cfgRefused p) s t) ∧
  (∀ (r : Requester) (p : Port) (s : State), s.Takes r (33 + 8 * p.toNat) 0x040 →
    (s.on (RXEQ.REGION_CTRL_RESET_BUSY p) = true ∨ s.acqSt p ≠ acqIdle) →
    Completes (.rxEnableSet r p) s fun t => t.acqSt p = s.acqSt p ∧ t.rx = s.rx ∧ KeepsFieldsBut [] s t) ∧
  (∀ (r : Requester) (p : Port) (s : State), s.Takes r (33 + 8 * p.toNat) 0x040 → s.acqSt p ≠ acqIdle →
    Completes (.rxEnableClear r p) s fun t => t.acqSt p = acqIdle ∧ t.on (RXFE.RX_CTRL_RX_ENABLE p) = false ∧
      t.on (RXFE.ACQ_STATUS_CARRIER p) = false ∧ (t.rx.get p).hops = [] ∧ t.on (RXEQ.CLU_ROT_SPARE_BUSY p) = false ∧
      t.on (FEC.SF_STATUS_SF_LOCK p) = false) ∧
  (∀ (p : Port) (px py m : Nat) (s : State), s.Clocked → s.acqSt p ≠ acqIdle → s.on (RXFE.ACQ_STATUS_LOS p) = false →
    s.rd (RXFE.ACQ_CFG_SIG_THRESH p) < px → s.rd (RXFE.ACQ_CFG_SIG_THRESH p) < py → (s.rx.get p).lowRun < 9 →
    Completes (.signalPowerInterval p px py m) s fun t => t.acqSt p = s.acqSt p ∧ t.on (RXFE.ACQ_STATUS_LOS p) = false ∧
      (t.rx.get p).lowRun = (s.rx.get p).lowRun + 1 ∧ (t.rx.get p).highRun = 0) ∧
  (∀ (p : Port) (px py m : Nat) (s : State), s.Clocked → s.acqSt p ≠ acqIdle → s.on (RXFE.ACQ_STATUS_LOS p) = false →
    s.rd (RXFE.ACQ_CFG_SIG_THRESH p) < px → s.rd (RXFE.ACQ_CFG_SIG_THRESH p) < py → 9 ≤ (s.rx.get p).lowRun →
    Completes (.signalPowerInterval p px py m) s fun t => t.acqSt p = acqNoSignal ∧
      t.on (RXFE.ACQ_STATUS_LOS p) = true ∧
      t.on (RXFE.ACQ_STATUS_CARRIER p) = decide (s.rd (RXFE.ACQ_CFG_CARRIER_THRESH p) ≤
        (if (s.rx.get p).scanned then m else (s.rx.get p).scanMetric)) ∧
      Counted (Ev.RXFE.losDeclared p) s t) ∧
  (∀ (p : Port) (px py m : Nat) (s : State), s.Clocked → s.acqSt p = acqNoSignal → s.on (RXFE.ACQ_STATUS_LOS p) = true →
    (px ≤ s.rd (RXFE.ACQ_CFG_SIG_THRESH p) ∨ py ≤ s.rd (RXFE.ACQ_CFG_SIG_THRESH p)) → 99 ≤ (s.rx.get p).highRun →
    Completes (.signalPowerInterval p px py m) s fun t => t.acqSt p = acqCdScan ∧ t.on (RXFE.ACQ_STATUS_LOS p) = false ∧
      Counted (Ev.RXFE.losCleared p) s t) ∧
  (∀ (r : Requester) (p : Port) (s : State), s.Takes r (33 + 8 * p.toNat) 0x040 → s.acqSt p ≠ acqIdle →
    Completes (.forceReacq r p) s fun t => t.acqSt p = acqCdScan ∧
      (s.acqSt p = acqAcquired → Counted (Ev.RXFE.acqLost p) s t)) ∧
  (∀ (p : Port) (coarse fine : List Nat) (c d : Int) (m n : Nat) (s : State), s.Clocked → s.acqSt p = acqCdScan →
    bestCand (s.coarseCands p) coarse = some (c, m) → bestCand (fineCands c) fine = some (d, n) →
    s.rd (RXFE.ACQ_CFG_CARRIER_THRESH p) ≤ max m n →
    Completes (.cdScanDone p coarse fine) s fun t => t.acqSt p = acqTiming ∧ t.on (RXFE.ACQ_STATUS_CARRIER p) = true ∧
      t.rd (RXFE.CD_EST_D_HAT p) = unsigned (RXFE.CD_EST_D_HAT p).width d ∧ (t.rx.get p).timingOn = true ∧
      (t.rx.get p).mimo = Mimo.identity) ∧
  (∀ (p : Port) (coarse fine : List Nat) (c d : Int) (m n : Nat) (s : State), s.Clocked → s.acqSt p = acqCdScan →
    bestCand (s.coarseCands p) coarse = some (c, m) → bestCand (fineCands c) fine = some (d, n) →
    max m n < s.rd (RXFE.ACQ_CFG_CARRIER_THRESH p) →
    Completes (.cdScanDone p coarse fine) s fun t => t.acqSt p = acqNoCarrier ∧ t.on (RXFE.ACQ_STATUS_CARRIER p) = false ∧
      t.rd (RXFE.CD_EST_D_HAT p) = s.rd (RXFE.CD_EST_D_HAT p) ∧
      t.rd (RXFE.ACQ_STATUS_FAIL_CAUSE p) = 1 ∧ Counted (Ev.RXFE.noCarrier p) s t) ∧
  (∀ (p : Port) (x y : Int) (s : State), s.Clocked → s.acqSt p = acqNoCarrier →
    Completes (.noCarrierRetry p x y) s fun t => t.acqSt p = acqCdScan) ∧
  (∀ (p : Port) (q : Nat) (s : State), s.Clocked → s.acqSt p = acqPreHunt →
    Completes (.preamblePeakDetected p q) s fun t => t.acqSt p = acqPreTrack ∧
      t.rd (RXFE.CFC_QUALITY p) = q % 2 ^ (RXFE.CFC_QUALITY p).width) ∧
  (∀ (p : Port) (f : Int) (q before : Nat) (s : State), s.Clocked → s.acqSt p = acqPreTrack → f.natAbs ≤ 5000 →
    Completes (.endMarkerDetected p f q before) s fun t => t.acqSt p = acqEqTrain ∧
      t.on (FEC.SF_STATUS_SF_LOCK p) = true ∧ t.rdI (RXFE.CFC_F_HAT p) = f ∧
      t.on (RXEQ.EQ_STATUS_DD_MODE p) = true ∧ (t.rx.get p).fHatOn = true ∧ (t.rx.get p).marker = some (s.markerAt p before) ∧
      (t.rx.get p).skip = 4096 + (s.rxMode p).pad ∧ (t.fec.get p).block = 1 ∧ (t.fec.get p).store = [] ∧
      Counted (Ev.FEC.boundaryTaken p) s t) ∧
  (∀ (p : Port) (h : Hop) (rest : List Hop) (left : Nat) (s : State), s.Clocked → (s.rx.get p).hops = h :: rest →
    s.acqSt p = acqEqTrain → (s.rx.get p).marker = some left → left < hopLen →
    Completes (.hopRelease p) s fun t => (t.rx.get p).marker = none ∧
      t.on (RXEQ.EQ_STATUS_POL_SWAP p) = decide (trainingHypothesis s p (keptSymbols s p h left) / 16 % 2 = 1) ∧
      t.rd (RXEQ.EQ_STATUS_ROT_X p) = trainingHypothesis s p (keptSymbols s p h left) / 4 % 4 ∧
      t.rd (RXEQ.EQ_STATUS_ROT_Y p) = trainingHypothesis s p (keptSymbols s p h left) % 4 ∧
      Counted (Ev.DEMAP.hypothesis p) s t) ∧
  (∀ (p : Port) (f : Int) (q before : Nat) (s : State), s.Clocked → s.acqSt p = acqPreTrack → 5000 < f.natAbs →
    Completes (.endMarkerDetected p f q before) s fun t => t.acqSt p = acqPreHunt ∧
      t.rd (RXFE.ACQ_STATUS_FAIL_CAUSE p) = 7 ∧ t.rd (RXFE.CFC_F_HAT p) = s.rd (RXFE.CFC_F_HAT p) ∧
      Counted (Ev.RXFE.fHatRange p) s t) ∧
  (∀ (p : Port) (s : State), s.Clocked → acqTiming ≤ s.acqSt p → s.acqSt p ≤ acqFrameWait →
    Completes (.acqStateTimeout p) s fun t => t.acqSt p = acqCdScan ∧
      t.rd (RXFE.ACQ_STATUS_FAIL_CAUSE p) = s.acqSt p - 2 ∧ Counted (Ev.RXFE.acqFailure p) s t)

/-- A rotation is marked due where a tested spare is free, and nothing without one; at the next hop of the lane whose turn
it is the spare takes the lane and the lane's unit enters chrysalis, and it waits while the spare is busy or the lane
is to be exchanged; a handed-off hop goes to its lane's cluster or to the spare that is to take the lane, and swaps in
coefficients that wait unless frozen; a release removes the oldest hop, counting an erased one, and sets the noise
variances from its decision errors; a coefficient update computes the standby coefficients of the four filters from
its hop unless frozen. Rests on spec/03_receive_front_end.md (R68, R79, R84); spec/04_equaliser_and_retry.md (R97,
R99, R100, R102, R104, R105, R108, R116, R124). -/
def Obligations.EqualiserHopsAndRotation : Prop :=
  (∀ (p : Port) (s : State), s.Clocked → s.eqMayRotate p = true →
    Completes (.eqClusterRotation p) s fun t => (t.rx.get p).rotateDue = true ∧ t = { s with rx := t.rx } ∧
      t.rx.get p.other = s.rx.get p.other) ∧
  (∀ (p : Port) (s : State), s.Clocked → s.eqMayRotate p = false → Completes (.eqClusterRotation p) s fun t => t = s) ∧
  (∀ (p : Port) (codes : List (List Byte)) (s : State), s.Clocked → s.acqSt p ≠ acqIdle →
    (s.rx.get p).rotateDue = true → s.eqMayRotate p = true → s.eqRotateWaits p = false →
    (s.rx.get p).nextHop % 16 = (s.rx.get p).nextLane →
    Completes (.hopHandoff p codes) s fun t =>
      (t.block (.eqCluster p)).unitAt (s.rx.get p).nextLane = s.rd (RXEQ.CLU_ROT_CHRYS_CLU p) ∧
      t.rd (RXEQ.CLU_ROT_CHRYS_CLU p) = (s.block (.eqCluster p)).unitAt (s.rx.get p).nextLane % 32 ∧
      (t.rx.get p).nextLane = ((s.rx.get p).nextLane + 1) % 16 ∧ (t.rx.get p).rotateDue = false ∧
      ((t.rx.get p).hops.getLast?.map fun h => (h.num, h.cluster)) =
        some ((s.rx.get p).nextHop, s.rd (RXEQ.CLU_ROT_CHRYS_CLU p)) ∧
      Counted (Ev.RXEQ.spareEclosion p) s t) ∧
  (∀ (p : Port) (codes : List (List Byte)) (s : State), s.Clocked → s.acqSt p ≠ acqIdle →
    (s.rx.get p).rotateDue = true → (s.block (.eqCluster p)).spares (.eqCluster p) ≠ 0 →
    ((s.rx.get p).nextHop % 16 ≠ (s.rx.get p).nextLane ∨ s.eqRotateWaits p = true) →
    (s.rx.get p).exchange.contains (s.rx.get p).nextHop = false →
    Completes (.hopHandoff p codes) s fun t => (t.rx.get p).rotateDue = true ∧ (t.rx.get p).nextLane = (s.rx.get p).nextLane ∧
      t.block (.eqCluster p) = s.block (.eqCluster p) ∧ t.rd (RXEQ.CLU_ROT_CHRYS_CLU p) = s.rd (RXEQ.CLU_ROT_CHRYS_CLU p)) ∧
  (∀ (p : Port) (codes : List (List Byte)) (s : State), s.Clocked → s.acqSt p ≠ acqIdle → (s.rx.get p).rotateDue = false →
    (s.rx.get p).exchange.contains (s.rx.get p).nextHop = false →
    Completes (.hopHandoff p codes) s fun t => (t.rx.get p).nextHop = (s.rx.get p).nextHop + 1 ∧
      ((t.rx.get p).hops.map fun h => (h.num, h.cluster, h.erased)) =
        ((s.rx.get p).hops.map fun h => (h.num, h.cluster, h.erased)) ++
          [((s.rx.get p).nextHop, (s.block (.eqCluster p)).unitAt ((s.rx.get p).nextHop % 16), false)] ∧
      (t.rx.get p).mimo =
        (if (s.rx.get p).mimoStandby && !(s.rx.get p).mimoFrozen && !s.on (RXEQ.EQ_CFG_FREEZE_EQ p) then (s.rx.get p).mimoNext
          else (s.rx.get p).mimo) ∧
      t.spared = s.spared ∧ t.rx.get p.other = s.rx.get p.other ∧
      ((s.rx.get p).timingOn = false ∨ (s.rx.get p).timingHeld = true →
        KeepsFieldsBut [RXFE.QUAD_EST_RHO_X p, RXFE.QUAD_EST_RHO_Y p] s t ∧ (s.corrHeld p = true → KeepsFieldsBut [] s t))) ∧
  (∀ (p : Port) (codes : List (List Byte)) (s : State), s.Clocked → s.acqSt p ≠ acqIdle → (s.rx.get p).rotateDue = false →
    (s.rx.get p).exchange.contains (s.rx.get p).nextHop = true → s.rd (RXEQ.CLU_ROT_CHRYS_CLU p) ≠ 31 →
    s.on (RXEQ.CLU_ROT_SPARE_BUSY p) = false →
    (s.block (.eqCluster p)).testing.contains (s.rd (RXEQ.CLU_ROT_CHRYS_CLU p)) = false →
    Completes (.hopHandoff p codes) s fun t =>
      (t.block (.eqCluster p)).unitAt ((s.rx.get p).nextHop % 16) = s.rd (RXEQ.CLU_ROT_CHRYS_CLU p) ∧
      t.rd (RXEQ.CLU_ROT_CHRYS_CLU p) = 31 ∧
      ((t.rx.get p).hops.getLast?.map fun h => (h.num, h.cluster)) =
        some ((s.rx.get p).nextHop, s.rd (RXEQ.CLU_ROT_CHRYS_CLU p)) ∧
      (t.rx.get p).leaving = (s.rx.get p).leaving ++
        [((s.rx.get p).nextHop - 16, (s.block (.eqCluster p)).unitAt ((s.rx.get p).nextHop % 16))]) ∧
  (∀ (p : Port) (codes : List (List Byte)) (s : State), s.Clocked → s.acqSt p = acqIdle →
    Completes (.hopHandoff p codes) s fun t => t = s) ∧
  (∀ (p : Port) (s : State), s.Clocked → (s.rx.get p).hops = [] → Completes (.hopRelease p) s fun t => t = s) ∧
  (∀ (p : Port) (h : Hop) (rest : List Hop) (s : State), s.Clocked → (s.rx.get p).hops = h :: rest →
    Completes (.hopRelease p) s fun t => (t.rx.get p).hops = rest ∧
      (h.erased = true → Occurs s (Ev.RXEQ.hopErased p) → Counted (Ev.RXEQ.hopErased p) s t) ∧
      (s.tracking p = true → h.erased = false →
        t.rd (DEMAP.NOISE_VAR_VAR_X p) = varField (energies (s.symbolMode p) (s.stitched p h.step h.symbols).x) ∧
        t.rd (DEMAP.NOISE_VAR_VAR_Y p) = varField (energies (s.symbolMode p) (s.stitched p h.step h.symbols).y)) ∧
      ((s.rx.get p).marker = none → (s.tracking p = false ∨ h.erased = true) →
        t.rd (DEMAP.NOISE_VAR_VAR_X p) = s.rd (DEMAP.NOISE_VAR_VAR_X p) ∧
        t.rd (DEMAP.NOISE_VAR_VAR_Y p) = s.rd (DEMAP.NOISE_VAR_VAR_Y p))) ∧
  (∀ (p : Port) (h : Hop) (s : State), s.Clocked → s.on (RXEQ.EQ_CFG_FREEZE_EQ p) = false → (s.rx.get p).mimoFrozen = false →
    acqTiming ≤ s.acqSt p → s.coefHop p = some h →
    Completes (.coefUpdateDone p) s fun t => (t.rx.get p).mimoStandby = true ∧ (t.rx.get p).mimo = (s.rx.get p).mimo ∧
      (t.rx.get p).mimoNext =
        h.update (max 1 (s.rd (if s.on (RXEQ.EQ_STATUS_DD_MODE p) then RXEQ.EQ_CFG_MU_DD p else RXEQ.EQ_CFG_MU_CMA p)))
          (h.errors (s.on (RXEQ.EQ_STATUS_DD_MODE p)) (s.bpsWin p)) (s.rx.get p).mimo ∧
      t = { s with rx := t.rx } ∧ t.rx.get p.other = s.rx.get p.other) ∧
  (∀ (p : Port) (s : State), s.Clocked →
    (s.on (RXEQ.EQ_CFG_FREEZE_EQ p) = true ∨ (s.rx.get p).mimoFrozen = true ∨ s.acqSt p < acqTiming ∨ s.coefHop p = none) →
    Completes (.coefUpdateDone p) s fun t => t = s)

/-- A flagged position takes the first idle unit that can serve it, or the unit in chrysalis with its earlier trims; a
failed transmit sense flags its position; CAL_NOW starts a run or leaves one pending, CAL_HOLD ends both, a run after
the comparison in progress (log entry 87); a run ends with its trims and map stored, and a pending one follows; a
rotation step takes over the trims measured and starts a compare, and a compare within the limit exchanges the units,
or leaves a position flagged meanwhile to its takeover, while one beyond it counts a failure. Rests on
spec/02_transmit_path.md (R53); spec/03_receive_front_end.md (R68, R71, R72, R74 to R76). -/
def Obligations.CalibrationRunsAndTakeovers : Prop :=
  (∀ (tx : Bool) (p : Port) (c : Fin 4) (pos : Fin 256) (u : Nat) (s : State), s.Clocked →
    (s.conv tx p c).flagged.contains pos.val = true → (s.conv tx p c).deferred.contains pos.val = false →
    ((s.conv tx p c).idle.find? fun u => (s.conv tx p c).canServe pos u) = some u → (s.conv tx p c).unitAt pos.val < 512 →
    Completes (.subconverterTakeover tx p c pos) s fun t =>
      (t.conv tx p c).unitAt pos.val = u ∧ (t.conv tx p c).flagged.contains pos.val = false ∧
      t.rd (chrysField tx p c) =
        (if (s.block (convBlock tx p c)).quarantine.contains ((s.conv tx p c).unitAt pos.val) then s.rd (chrysField tx p c)
          else (s.conv tx p c).unitAt pos.val) ∧
      (∀ q, q ≠ pos.val → (t.conv tx p c).unitAt q = (s.conv tx p c).unitAt q) ∧
      Counted (takeoverEvt tx p c) s t ∧ KeepsFieldsBut [chrysField tx p c] s t) ∧
  (∀ (tx : Bool) (p : Port) (c : Fin 4) (pos : Fin 256) (s : State), s.Clocked →
    (s.conv tx p c).flagged.contains pos.val = true → (s.conv tx p c).deferred.contains pos.val = false →
    ((s.conv tx p c).idle.find? fun u => (s.conv tx p c).canServe pos u) = none →
    s.rd (chrysField tx p c) ≠ noUnit → (s.conv tx p c).canServe pos (s.rd (chrysField tx p c)) = true →
    Completes (.subconverterTakeover tx p c pos) s fun t =>
      (t.conv tx p c).unitAt pos.val = s.rd (chrysField tx p c) ∧
      Tab.get 0 (t.conv tx p c).offset (s.rd (chrysField tx p c)) = (s.conv tx p c).oldOffset ∧
      Tab.get 0 (t.conv tx p c).gain (s.rd (chrysField tx p c)) = (s.conv tx p c).oldGain ∧
      (t.conv tx p c).flagged.contains pos.val = false ∧ Counted (takeoverEvt tx p c) s t) ∧
  (∀ (tx : Bool) (p : Port) (c : Fin 4) (pos : Fin 256) (s : State), s.Clocked →
    ((s.conv tx p c).flagged.contains pos.val = false ∨ (s.conv tx p c).deferred.contains pos.val = true) →
    Completes (.subconverterTakeover tx p c pos) s fun t => t = s) ∧
  (∀ (p : Port) (c : Fin 4) (pos : Fin 256) (cycle : Nat) (s : State), s.Clocked →
    Completes (.txSubconverterSenseFail p c pos cycle) s fun t => (t.conv true p c).flagged.contains pos.val = true ∧
      (∀ q, q ≠ pos.val → (t.conv true p c).flagged.contains q = (s.conv true p c).flagged.contains q) ∧
      KeepsFieldsBut [] s t) ∧
  (∀ (r : Requester) (p : Port) (s : State), s.Takes r (33 + 8 * p.toNat) 0x040 → s.on (RXCONV.CAL_CFG_CAL_HOLD p) = false →
    s.on (RXCONV.CAL_STATUS_RUN_ACTIVE p) = false →
    Completes (.calNow r p) s fun t => t.on (RXCONV.CAL_STATUS_RUN_ACTIVE p) = true ∧
      t.on (RXCONV.CAL_STATUS_SKEW_SKIPPED p) = false ∧
      t.rd (RXCONV.CAL_STATUS_T_REF p) = s.rd (RXCONV.CAL_TEMP_T_NOW p) ∧ (t.calRun.get p).rotating = true ∧
      (t.calRun.get p).skewing = true ∧ (t.calRun.get p).first = (s.calRun.get p).unrun ∧ (t.calRun.get p).unrun = false ∧
      t.calRun.get p.other = s.calRun.get p.other) ∧
  (∀ (r : Requester) (p : Port) (s : State), s.Takes r (33 + 8 * p.toNat) 0x040 → s.on (RXCONV.CAL_CFG_CAL_HOLD p) = false →
    s.on (RXCONV.CAL_STATUS_RUN_ACTIVE p) = true →
    Completes (.calNow r p) s fun t => t.on (RXCONV.CAL_STATUS_RUN_PENDING p) = true ∧ t = { s with regs := t.regs } ∧
      KeepsFieldsBut [RXCONV.CAL_STATUS_RUN_PENDING p] s t) ∧
  (∀ (r : Requester) (p : Port) (s : State), s.Takes r (34 + 8 * p.toNat) 0x040 →
    (s.on (RXCONV.CAL_STATUS_RUN_ACTIVE p) = false ∨ s.comparing p = true) →
    Completes (.calHoldSet r p) s fun t => t.on (RXCONV.CAL_CFG_CAL_HOLD p) = true ∧
      t.on (RXCONV.CAL_STATUS_RUN_PENDING p) = false ∧ t.rxConv = s.rxConv ∧ t.txConv = s.txConv ∧
      (s.on (RXCONV.CAL_STATUS_RUN_ACTIVE p) = true → (t.calRun.get p).stopping = true) ∧
      KeepsFieldsBut [RXCONV.CAL_CFG_CAL_HOLD p, RXCONV.CAL_STATUS_RUN_PENDING p] s t) ∧
  (∀ (r : Requester) (p : Port) (s : State), s.Takes r (34 + 8 * p.toNat) 0x040 →
    s.on (RXCONV.CAL_STATUS_RUN_ACTIVE p) = true → s.comparing p = false →
    Completes (.calHoldSet r p) s fun t => t.on (RXCONV.CAL_CFG_CAL_HOLD p) = true ∧
      t.on (RXCONV.CAL_STATUS_RUN_ACTIVE p) = false ∧ t.on (RXCONV.CAL_STATUS_RUN_PENDING p) = false ∧
      (∀ tx c, (t.conv tx p c).offset = (s.conv tx p c).offset ∧ (t.conv tx p c).storeOffset = (s.conv tx p c).offset ∧
        (t.conv tx p c).storeGain = (s.conv tx p c).gain ∧ (t.conv tx p c).storeMap = (s.conv tx p c).map) ∧
      KeepsFieldsBut [RXCONV.CAL_CFG_CAL_HOLD p, RXCONV.CAL_STATUS_RUN_ACTIVE p, RXCONV.CAL_STATUS_RUN_PENDING p] s t) ∧
  (∀ (p : Port) (s : State), s.Clocked → s.on (RXCONV.CAL_STATUS_RUN_ACTIVE p) = true → (s.calRun.get p).skewing = true →
    s.on (RXFE.ACQ_STATUS_CARRIER p) = false →
    Completes (.skewPhaseTimeout p) s fun t => t.on (RXCONV.CAL_STATUS_SKEW_SKIPPED p) = true ∧
      (t.calRun.get p).skewing = false ∧ KeepsFieldsBut [RXCONV.CAL_STATUS_SKEW_SKIPPED p] s t) ∧
  (∀ (p : Port) (s : State), s.Clocked → s.on (RXCONV.CAL_STATUS_RUN_ACTIVE p) = true →
    ((s.calRun.get p).rotating = false ∨ s.rotationOver p = true) → (s.calRun.get p).skewing = false →
    (s.calRun.get p).stopping = false → s.on (RXCONV.CAL_STATUS_RUN_PENDING p) = false →
    Completes (.calRunEnd p) s fun t => t.on (RXCONV.CAL_STATUS_RUN_ACTIVE p) = false ∧ (t.calRun.get p).sinceMs = 0 ∧
      (∀ tx c, (t.conv tx p c).storeMap = (s.conv tx p c).map ∧ (t.conv tx p c).storeOffset = (s.conv tx p c).offset ∧
        (t.conv tx p c).storeGain = (s.conv tx p c).gain ∧ (t.conv tx p c).storeSkew = (s.conv tx p c).skew) ∧
      t.mem.calInvalid = [] ∧
      Counted (Ev.RXCONV.calCompleted p) s t ∧ KeepsFieldsBut [RXCONV.CAL_STATUS_RUN_ACTIVE p] s t) ∧
  (∀ (p : Port) (s : State), s.Clocked → s.on (RXCONV.CAL_STATUS_RUN_ACTIVE p) = true →
    ((s.calRun.get p).rotating = false ∨ s.rotationOver p = true) → (s.calRun.get p).skewing = false →
    (s.calRun.get p).stopping = false → s.on (RXCONV.CAL_STATUS_RUN_PENDING p) = true →
    s.on (RXCONV.CAL_CFG_CAL_HOLD p) = false →
    Completes (.calRunEnd p) s fun t => t.on (RXCONV.CAL_STATUS_RUN_ACTIVE p) = true ∧
      t.on (RXCONV.CAL_STATUS_RUN_PENDING p) = false ∧ (t.calRun.get p).rotating = true ∧ (t.calRun.get p).skewing = true ∧
      Counted (Ev.RXCONV.calCompleted p) s t) ∧
  (∀ (tx : Bool) (p : Port) (c : Fin 4) (m : CalMeas) (u : Nat) (rest : List Nat) (s : State), s.Clocked →
    s.rd (chrysField tx p c) = noUnit → (s.conv tx p c).idle = u :: rest → (s.conv tx p c).compare = none →
    (s.conv tx p c).returning = [] →
    Completes (.calStep tx p c m) s fun t => (t.conv tx p c).compare = some (u, (s.conv tx p c).stepPos) ∧
      (t.conv tx p c).idle = u :: rest ∧ t.regs = s.regs) ∧
  (∀ (tx : Bool) (p : Port) (c : Fin 4) (m : CalMeas) (s : State), s.Clocked →
    s.rd (chrysField tx p c) ≠ noUnit → (s.conv tx p c).compare = none → (s.conv tx p c).returning = [] →
    (s.conv tx p c).classing = false → (s.calRun.get p).rotating = true → m.selfTest = true →
    plausible (s.plaus p (RXCONV.CAL_LIMITS_OFFSET_PLAUS p)) (Tab.get 0 (s.conv tx p c).offset (s.rd (chrysField tx p c)))
      m.offset = true →
    plausible (s.plaus p (RXCONV.CAL_LIMITS_GAIN_PLAUS p)) (Tab.get 0 (s.conv tx p c).gain (s.rd (chrysField tx p c)))
      m.gain = true →
    Completes (.calStep tx p c m) s fun t =>
      Tab.get 0 (t.conv tx p c).offset (s.rd (chrysField tx p c)) = m.offset ∧
      Tab.get 0 (t.conv tx p c).gain (s.rd (chrysField tx p c)) = m.gain ∧
      (t.conv tx p c).idle = (s.conv tx p c).idle ++ [s.rd (chrysField tx p c)] ∧
      (t.conv tx p c).compare = some ((((s.conv tx p c).idle ++ [s.rd (chrysField tx p c)]).head?).getD 0,
        (s.conv tx p c).stepPos) ∧
      t.rd (chrysField tx p c) = noUnit ∧ KeepsFieldsBut [chrysField tx p c] s t) ∧
  (∀ (tx : Bool) (p : Port) (c : Fin 4) (diff u pos : Nat) (s : State), s.Clocked →
    (s.conv tx p c).compare = some (u, pos) → diff ≤ s.rd (RXCONV.CAL_LIMITS_ECL_LIMIT p) →
    (s.conv tx p c).flagged.contains pos = false →
    Completes (.calEclosionCompareDone tx p c diff) s fun t => (t.conv tx p c).unitAt pos = u ∧
      (∀ q, q ≠ pos → (t.conv tx p c).unitAt q = (s.conv tx p c).unitAt q) ∧
      (t.conv tx p c).compare = none ∧ (t.conv tx p c).nextPos = (pos + 1) % 256 ∧
      t.rd (chrysField tx p c) = (s.conv tx p c).unitAt pos % 2 ^ 9 ∧
      KeepsFieldsBut [chrysField tx p c, RXCONV.CAL_STATUS_RUN_ACTIVE p] s t) ∧
  (∀ (tx : Bool) (p : Port) (c : Fin 4) (diff u pos : Nat) (s : State), s.Clocked →
    (s.conv tx p c).compare = some (u, pos) → diff ≤ s.rd (RXCONV.CAL_LIMITS_ECL_LIMIT p) →
    (s.conv tx p c).flagged.contains pos = true →
    Completes (.calEclosionCompareDone tx p c diff) s fun t => (t.conv tx p c).compare = none ∧
      (t.conv tx p c).nextPos = (s.conv tx p c).nextPos) ∧
  (∀ (tx : Bool) (p : Port) (c : Fin 4) (diff u pos : Nat) (s : State), s.Clocked →
    (s.conv tx p c).compare = some (u, pos) → s.rd (RXCONV.CAL_LIMITS_ECL_LIMIT p) < diff →
    Completes (.calEclosionCompareDone tx p c diff) s fun t => (t.conv tx p c).map = (s.conv tx p c).map ∧
      (t.conv tx p c).compare = none ∧ t.rd (chrysField tx p c) = u % 2 ^ 9 ∧ (t.conv tx p c).classing = true ∧
      Counted (Ev.RXCONV.compareFailed p) s t)

/-- The configuration of the codeword that a port's decoder pool dispatches next (R142): that of the demapper for the first codeword
of a superframe, and then that of the superframe. -/
abbrev dispatchMode (s : State) (p : Port) : Mode :=
  if (s.fec.get p).block = 1 ∧ (s.fec.get p).index = 0 then s.demapMode p else (s.fec.get p).mode

/-- The codeword of a port that is dispatched next has its label bits and room in the store (R142, R152). -/
abbrev MayDispatch (s : State) (p : Port) : Prop :=
  s.on (FEC.SF_STATUS_SF_LOCK p) = true ∧ 8192 ≤ (s.rx.get p).labels.length ∧ (s.fec.get p).store.length < 2048

/-- With superframe lock, the label bits of two blocks and room in the store each dispatched codeword takes the next
number, slot and decoder or waits, and a rotation that is due is made at its slot; a decode ends by min-sum at the
codeword's ceiling and changes that codeword alone; a release removes the oldest, counts it by its status and hands
its bits on; a BCH block leaves corrected and counted, or uncorrectable where the decoder fails or its bits are
marked; a pool rotation is marked due where a tested spare is free. Rests on spec/05_soft_decision_coding.md (R134,
R142 to R146, R149, R151, R152, R154, R155, R157); spec/15_observability.md (R457). -/
def Obligations.CodewordsThroughTheDecoderPool : Prop :=
  (∀ (p : Port) (i : Instant) (s : State), s.Clocked → MayDispatch s p → (s.fec.get p).rotateDue = false →
    Completes (.codewordDispatch p i) s fun t =>
      (t.fec.get p).nextCw = (s.fec.get p).nextCw + 1 ∧
      (∃ c : Codeword, (t.fec.get p).store = (s.fec.get p).store ++ [c] ∧ c.num = (s.fec.get p).nextCw ∧
        c.slot = (s.fec.get p).nextCw % 96 ∧ c.ceiling = s.ceiling p ∧ c.mode = dispatchMode s p ∧
        c.block = (s.fec.get p).block ∧ c.index = (s.fec.get p).index ∧ c.llrs = s.gathered p (dispatchMode s p) ∧
        (∀ u, s.decoderFor p ((s.fec.get p).nextCw % 96) = some u → c.decoder = u ∧ c.status = .decoding) ∧
        (s.decoderFor p ((s.fec.get p).nextCw % 96) = none → c.status = .waiting)) ∧
      ((s.fec.get p).index + 1 < (dispatchMode s p).codewords →
        (t.fec.get p).index = (s.fec.get p).index + 1 ∧ (t.fec.get p).block = (s.fec.get p).block ∧ t.rx = s.rx) ∧
      ((dispatchMode s p).codewords ≤ (s.fec.get p).index + 1 → (t.fec.get p).index = 0 ∧
        (t.fec.get p).block = (if (dispatchMode s p).blocks ≤ (s.fec.get p).block + 1 then 1 else (s.fec.get p).block + 1)) ∧
      t.rd (FEC.STORE_PEAK p) =
        max ((s.fec.get p).store.length + 1) (s.rd (FEC.STORE_PEAK p)) % 2 ^ (FEC.STORE_PEAK p).width ∧
      t.fec.get p.other = s.fec.get p.other ∧ KeepsFieldsBut [FEC.STORE_PEAK p] s t) ∧
  (∀ (p : Port) (i : Instant) (u : Nat) (s : State), s.Clocked → MayDispatch s p → (s.fec.get p).rotateDue = true →
    (s.fec.get p).nextSlot = (s.fec.get p).nextCw % 96 → s.testedSpare p = some u →
    Completes (.codewordDispatch p i) s fun t => (t.fec.get p).rotateDue = false ∧
      (t.fec.get p).nextSlot = ((s.fec.get p).nextSlot + 1) % 96 ∧
      (t.block (.decoder p)).unitAt ((s.fec.get p).nextCw % 96) = u ∧
      ((t.fec.get p).store.getLast?.map fun c => (c.num, c.decoder)) = some ((s.fec.get p).nextCw, u) ∧
      Counted (Ev.FEC.spareEclosion p) s t) ∧
  (∀ (p : Port) (i : Instant) (s : State), s.Clocked → ¬ MayDispatch s p →
    Completes (.codewordDispatch p i) s fun t => t = s) ∧
  (∀ (p : Port) (num : Nat) (s : State), s.Clocked → (∀ c ∈ (s.fec.get p).store, c.status ≠ .waiting) →
    Completes (.decodeDone p num) s fun t => t = { s with fec := t.fec } ∧
      (t.fec.get p).store = (s.fec.get p).store.map (fun c =>
        let d := ldpcDecode c.mode (s.rd (FEC.MS_CFG_OFFSET p)) c.ceiling c.llrs
        if c.num = num ∧ c.status = .decoding then
          (if d.ok then { c with status := .converged, iters := d.iters, decoded := d.bits,
                                 corrected := differing d.bits (hardBits c.llrs) }
           else { c with status := .uncorrectable, decoded := d.bits })
        else c) ∧ t.fec.get p.other = s.fec.get p.other) ∧
  (∀ (p : Port) (iters : Nat) (c : Codeword) (rest : List Codeword) (s : State), s.Clocked →
    (s.fec.get p).store = c :: rest → (c.tail = true ∨ s.rd (RXEQ.CR_CFG_SLIP_CW p) = 0) → c.status = .converged →
    Completes (.codewordRelease p iters) s fun t => (t.fec.get p).store.map (·.num) = rest.map (·.num) ∧
      (t.fec.get p).tickCw = (s.fec.get p).tickCw + 1 ∧ (t.fec.get p).tickUncorr = (s.fec.get p).tickUncorr ∧
      (t.fec.get p).tickLdpc = (s.fec.get p).tickLdpc + c.corrected ∧
      Tab.get 0 (t.fec.get p).tickHist c.iters = Tab.get 0 (s.fec.get p).tickHist c.iters + 1 ∧
      ((s.fec.get p).gather.length + 1 < c.mode.codewords →
        (t.fec.get p).gather = (s.fec.get p).gather ++ [c.decoded] ∧ (t.fec.get p).data = (s.fec.get p).data) ∧
      (c.mode.codewords ≤ (s.fec.get p).gather.length + 1 → (t.fec.get p).gather = [] ∧
        CountedN (Ev.FEC.invalidComposition p) (blockData c.mode ((s.fec.get p).gather ++ [c.decoded])).2 s t) ∧
      Counted (Ev.FEC.decoded p) s t ∧ CountedN (Ev.FEC.ldpcBits p) c.corrected s t ∧ KeepsFieldsBut [] s t) ∧
  (∀ (p : Port) (iters : Nat) (c : Codeword) (rest : List Codeword) (s : State), s.Clocked →
    (s.fec.get p).store = c :: rest → (c.tail = true ∨ s.rd (RXEQ.CR_CFG_SLIP_CW p) = 0) → c.status ≠ .converged →
    Completes (.codewordRelease p iters) s fun t => (t.fec.get p).store.map (·.num) = rest.map (·.num) ∧
      (t.fec.get p).tickUncorr = (s.fec.get p).tickUncorr + 1 ∧
      Tab.get 0 (t.fec.get p).tickHist 0 = Tab.get 0 (s.fec.get p).tickHist 0 + 1 ∧
      ((s.fec.get p).gather.length + 1 < c.mode.codewords → (t.fec.get p).gather = (s.fec.get p).gather ++
        [if c.status = .uncorrectable then c.decoded
         else if c.status = .decoding ∧ iters ≠ 0 then
           (ldpcDecode c.mode (s.rd (FEC.MS_CFG_OFFSET p)) (min iters c.ceiling) c.llrs).bits
         else hardBits c.llrs]) ∧
      (c.status = .uncorrectable → Counted (Ev.FEC.decoded p) s t ∧ Counted (Ev.FEC.uncorrectable p) s t) ∧
      (c.status = .undecoded → Counted (Ev.FEC.undecoded p) s t) ∧
      (c.status = .decoding ∨ c.status = .waiting → Counted (Ev.FEC.unfinished p) s t) ∧ KeepsFieldsBut [] s t) ∧
  (∀ (p : Port) (l : List Bool) (n : Nat) (s : State), s.Clocked → 9344 ≤ (s.fec.get p).data.length →
    ((s.fec.get p).bchBad || ((s.fec.get p).data.take 9344).any (·.2)) = false →
    bchDecode (((s.fec.get p).data.take 9344).map (·.1)) = some (l, n) →
    Completes (.bchDecodeDone p) s fun t => (t.fec.get p).tickBch = (s.fec.get p).tickBch + n ∧
      (t.fec.get p).data = (s.fec.get p).data.drop 9344 ∧
      (∃ k, (t.fec.get p).line.map (fun e => (e.bit, e.bad)) =
        (s.fec.get p).line.map (fun e => (e.bit, e.bad)) ++ ((l.take 9232).take k).map fun b => (b, false)) ∧
      CountedN (Ev.FEC.bchBits p) n s t ∧ KeepsFieldsBut [] s t) ∧
  (∀ (p : Port) (s : State), s.Clocked → 9344 ≤ (s.fec.get p).data.length →
    (((s.fec.get p).bchBad || ((s.fec.get p).data.take 9344).any (·.2)) = true ∨
      bchDecode (((s.fec.get p).data.take 9344).map (·.1)) = none) →
    Completes (.bchDecodeDone p) s fun t => (t.fec.get p).tickBchUncorr = (s.fec.get p).tickBchUncorr + 1 ∧
      (t.fec.get p).data = (s.fec.get p).data.drop 9344 ∧ (t.fec.get p).bchBad = false ∧
      (∃ k, (t.fec.get p).line.map (fun e => (e.bit, e.bad)) =
        (s.fec.get p).line.map (fun e => (e.bit, e.bad)) ++
          ((((s.fec.get p).data.take 9344).map (·.1)).take 9232 |>.take k).map fun b => (b, true)) ∧
      Counted (Ev.FEC.bchUncorrectable p) s t ∧ KeepsFieldsBut [] s t) ∧
  (∀ (p : Port) (s : State), s.Clocked → (s.fec.get p).data.length < 9344 →
    Completes (.bchDecodeDone p) s fun t => t = s) ∧
  (∀ (p : Port) (s : State), s.Clocked → (s.testedSpare p).isSome = true →
    Completes (.decoderSpareRotation p) s fun t => (t.fec.get p).rotateDue = true ∧ t = { s with fec := t.fec } ∧
      t.fec.get p.other = s.fec.get p.other) ∧
  (∀ (p : Port) (s : State), s.Clocked → s.testedSpare p = none →
    Completes (.decoderSpareRotation p) s fun t => t = s)

/-- The FC that the next frame of a port carries (R162). -/
abbrev nextFc (s : State) (p : Port) : Nat :=
  if (s.frame.get p).started then ((s.frame.get p).fcTx + 1) % 2 ^ 48 else 0

/-- Each frame start advances the frame counter and the error injections, sends a frame of that number, shows the cause of
its RDI and changes no bank inside a superframe, and does nothing while RCLK is stopped; the two injection writes set
their counts; received messages are handed out and counted. Rests on spec/06_line_frame.md (R162, R175, R184);
spec/08_ring_operation.md (R236); spec/10_clocks_references.md (R316). -/
def Obligations.FramesSent : Prop :=
  (∀ (p : Port) (x : Instant) (part : Nat) (s : State), s.Clocked →
    Completes (.frameStart p x part) s fun t => (t.frame.get p).started = true ∧
      (t.frame.get p).fcTx = nextFc s p ∧ (∃ oh, Out.frame p (nextFc s p) oh ∈ t.out) ∧
      t.rd (HB_FRAME.FRM_STATUS_RDI_CAUSE_TX p) = s.rdiCause p ∧
      (nextFc s p % 256 ≠ 0 → t.rd (HB_FRAME.FRM_STATUS_TX_BANK p) = s.rd (HB_FRAME.FRM_STATUS_TX_BANK p)) ∧
      (t.frame.get p.other).fcTx = (s.frame.get p.other).fcTx ∧ (t.frame.get p).injFaw = (s.frame.get p).injFaw - 1 ∧
      (t.frame.get p).injFcs = (s.frame.get p).injFcs - 1) ∧
  (∀ (p : Port) (x : Instant) (part : Nat) (s : State), s.rclkStopped = true →
    Completes (.frameStart p x part) s fun t => t = s) ∧
  (∀ (r : Requester) (p : Port) (n : Byte) (s : State), s.Takes r (19 + p.toNat) 0x044 →
    Completes (.fawErrorInject r p n) s fun t => (t.frame.get p).injFaw = n.toNat ∧
      (t.frame.get p).injFcs = (s.frame.get p).injFcs ∧ t.frame.get p.other = s.frame.get p.other ∧
      t = { s with frame := t.frame }) ∧
  (∀ (r : Requester) (p : Port) (n : Byte) (s : State), s.Takes r (19 + p.toNat) 0x044 →
    Completes (.fcsErrorInject r p n) s fun t => (t.frame.get p).injFcs = n.toNat ∧
      (t.frame.get p).injFaw = (s.frame.get p).injFaw ∧ t.frame.get p.other = s.frame.get p.other ∧
      t = { s with frame := t.frame }) ∧
  (∀ (p : Port) (q : Port) (c : Nat) (body : List Nat) (s : State), s.Clocked →
    (s.dvInbox.find? fun m => m.1 = p) = some (q, c, body) →
    Completes (.dvorrovMessageReceived p) s fun t => t.out = .dvorrov p c body :: s.out ∧
      Counted (Ev.HB_FRAME.dvReceived p) s t ∧ (t.dvInbox = s.dvInbox.eraseP fun m => m.1 = p) ∧ KeepsFieldsBut [] s t)

/-- The frame that the deframer of a port takes next, in SYNC (R167, R176). -/
abbrev nextFrameIn (s : State) (p : Port) (x : RxFrame) : FrameIn :=
  FrameIn.ofLine ((s.fec.get p).line.take (s.rxMode p).frameLen) x

/-- In SYNC with a boundary, a whole frame of the present length has come. -/
abbrev FrameDue (s : State) (p : Port) : Prop :=
  s.on (FEC.SF_STATUS_SF_LOCK p) = true ∧ s.on (HB_FRAME.FRM_STATUS_SYNC p) = true ∧
    (s.frame.get p).lenRx = (s.rxMode p).frameLen ∧ (s.rxMode p).frameLen ≤ (s.fec.get p).line.length

/-- The frame alignment word of the next frame has more errors than `FAW_TOL`. -/
abbrev FawMissed (s : State) (p : Port) (x : RxFrame) : Prop :=
  s.fawTol p < hamming64 (fieldAt (nextFrameIn s p x).bits 0 64) fawWord

/-- The check sequence of the next frame holds and none of its bits lies in an uncorrectable block (R167). -/
abbrev FrameGood (s : State) (p : Port) (x : RxFrame) : Prop :=
  let f := nextFrameIn s p x
  f.bad = [] ∧ ofBits (f.bits.drop (f.bits.length - 32)) = crc32 ((f.bits.take (f.bits.length - 32)).drop 64)

/-- Without a superframe boundary no frame is received; a hunt that confirms a frame enters SYNC and one that does not
goes on; a good frame in SYNC advances the receive counter and is no errored block; one that misses its alignment word
or is not good is an errored block; the fourth miss leaves SYNC; a microsecond in OOF is an errored block; the loss-
of-frame timers set and clear LOF in their states and do nothing in others. Rests on spec/03_receive_front_end.md
(R88); spec/06_line_frame.md (R167, R176, R177, R179). -/
def Obligations.FramesReceived : Prop :=
  (∀ (p : Port) (x : RxFrame) (s : State), s.Clocked → s.on (FEC.SF_STATUS_SF_LOCK p) = false →
    Completes (.receivedFrame p x) s fun t => t = s) ∧
  (∀ (p : Port) (x : RxFrame) (k : Nat) (s : State), s.Clocked → s.on (FEC.SF_STATUS_SF_LOCK p) = true →
    s.on (HB_FRAME.FRM_STATUS_SYNC p) = false →
    (huntOver (s.rxMode p).frameLen (min x.stretch ((s.fec.get p).line.length - 63)) (s.frame.get p).huntPos
      ((s.fec.get p).line.map (·.bit)) (s.frame.get p).cands).2 = some k →
    Completes (.receivedFrame p x) s fun t => t.on (HB_FRAME.FRM_STATUS_SYNC p) = true ∧
      t.on (HB_FRAME.FRM_STATUS_OOF p) = false ∧ t.on (HB_FRAME.DVR_STATUS_UP p) = true ∧
      t.rd (HB_FRAME.FRM_STATUS_MISSES p) = 0 ∧ (t.fec.get p).line = (s.fec.get p).line.drop k ∧
      (t.frame.get p).loadFc = true ∧ (s.acqSt p = acqFrameWait → t.acqSt p = acqAcquired ∧ Counted (Ev.RXFE.acquired p) s t) ∧
      Counted (Ev.HB_FRAME.inFrame p) s t) ∧
  (∀ (p : Port) (x : RxFrame) (c : List Nat) (s : State), s.Clocked → s.on (FEC.SF_STATUS_SF_LOCK p) = true →
    s.on (HB_FRAME.FRM_STATUS_SYNC p) = false →
    huntOver (s.rxMode p).frameLen (min x.stretch ((s.fec.get p).line.length - 63)) (s.frame.get p).huntPos
      ((s.fec.get p).line.map (·.bit)) (s.frame.get p).cands = (c, none) →
    Completes (.receivedFrame p x) s fun t => (t.frame.get p).cands = c ∧
      (t.fec.get p).line = (s.fec.get p).line.drop (min x.stretch ((s.fec.get p).line.length - 63)) ∧ KeepsFieldsBut [] s t) ∧
  (∀ (p : Port) (x : RxFrame) (s : State), s.Clocked → s.on (FEC.SF_STATUS_SF_LOCK p) = true →
    s.on (HB_FRAME.FRM_STATUS_SYNC p) = true → (s.frame.get p).lenRx = (s.rxMode p).frameLen →
    (s.fec.get p).line.length < (s.rxMode p).frameLen →
    Completes (.receivedFrame p x) s fun t => t = s) ∧
  (∀ (p : Port) (x : RxFrame) (s : State), s.Clocked → FrameDue s p → (s.frame.get p).loadFc = false →
    ¬ FawMissed s p x → FrameGood s p x →
    fieldAt (nextFrameIn s p x).bits 64 48 = ((s.frame.get p).fcRx + 1) % 2 ^ 48 →
    Completes (.receivedFrame p x) s fun t => (t.frame.get p).fcRx = ((s.frame.get p).fcRx + 1) % 2 ^ 48 ∧
      (t.fec.get p).line = (s.fec.get p).line.drop (s.rxMode p).frameLen ∧
      t.rd (HB_FRAME.FRM_STATUS_MISSES p) = 0 ∧ t.on (HB_FRAME.FRM_STATUS_SYNC p) = true ∧
      t.counter (Ev.HB_FRAME.erroredBlock p).page (Ev.HB_FRAME.erroredBlock p).off =
        s.counter (Ev.HB_FRAME.erroredBlock p).page (Ev.HB_FRAME.erroredBlock p).off) ∧
  (∀ (p : Port) (x : RxFrame) (s : State), s.Clocked → FrameDue s p → s.rd (HB_FRAME.FRM_STATUS_MISSES p) < 3 →
    (FawMissed s p x ∨ ¬ FrameGood s p x) →
    Completes (.receivedFrame p x) s fun t => Counted (Ev.HB_FRAME.erroredBlock p) s t ∧
      t.on (HB_FRAME.FRM_STATUS_SYNC p) = true ∧ (t.frame.get p).reiCount = (s.frame.get p).reiCount + 1 ∧
      (FawMissed s p x → Counted (Ev.HB_FRAME.fawMiss p) s t ∧
        t.rd (HB_FRAME.FRM_STATUS_MISSES p) = s.rd (HB_FRAME.FRM_STATUS_MISSES p) + 1)) ∧
  (∀ (p : Port) (x : RxFrame) (s : State), s.Clocked → FrameDue s p → s.rd (HB_FRAME.FRM_STATUS_MISSES p) = 3 →
    FawMissed s p x →
    Completes (.receivedFrame p x) s fun t => t.on (HB_FRAME.FRM_STATUS_SYNC p) = false ∧
      t.on (HB_FRAME.FRM_STATUS_OOF p) = true ∧ t.on (HB_FRAME.DVR_STATUS_UP p) = false ∧
      (t.fec.get p).line = (s.fec.get p).line.drop 64 ∧
      Counted (Ev.HB_FRAME.fawMiss p) s t ∧ Counted (Ev.HB_FRAME.oof p) s t) ∧
  (∀ (p : Port) (s : State), s.Clocked → s.on (HB_FRAME.FRM_STATUS_OOF p) = true →
    Completes (.oofMicrosecond p) s fun t => Counted (Ev.HB_FRAME.erroredBlock p) s t ∧
      (t.frame.get p).reiCount = (s.frame.get p).reiCount + 1 ∧
      (s.on (HB_FRAME.PM_CFG_PM_EN p) = true → (t.pmOf p.toNat).eb = (s.pmOf p.toNat).eb + 1) ∧ KeepsFieldsBut [] s t) ∧
  (∀ (p : Port) (s : State), s.Clocked → s.on (HB_FRAME.FRM_STATUS_OOF p) = false →
    Completes (.oofMicrosecond p) s fun t => t = s) ∧
  (∀ (p : Port) (s : State), s.Clocked → s.acqSt p = acqAcquired → s.on (HB_FRAME.FRM_STATUS_OOF p) = true →
    s.on (HB_FRAME.FRM_STATUS_LOF p) = false →
    Completes (.lofTimer p) s fun t => t.on (HB_FRAME.FRM_STATUS_LOF p) = true ∧ t.acqSt p = acqCdScan ∧
      Counted (Ev.HB_FRAME.lofDeclared p) s t ∧ Counted (Ev.RXFE.acqLost p) s t ∧ (t.pmOf p.toNat).defect = true) ∧
  (∀ (p : Port) (s : State), s.Clocked → (s.acqSt p ≠ acqAcquired ∨ s.on (HB_FRAME.FRM_STATUS_OOF p) = false) →
    Completes (.lofTimer p) s fun t => t = s) ∧
  (∀ (p : Port) (s : State), s.Clocked → s.on (HB_FRAME.FRM_STATUS_SYNC p) = true → s.on (HB_FRAME.FRM_STATUS_LOF p) = true →
    Completes (.lofClearTimer p) s fun t => t.on (HB_FRAME.FRM_STATUS_LOF p) = false ∧
      Counted (Ev.HB_FRAME.lofCleared p) s t ∧ t.on (HB_FRAME.FRM_STATUS_SYNC p) = true) ∧
  (∀ (p : Port) (s : State), s.Clocked → (s.on (HB_FRAME.FRM_STATUS_SYNC p) = false ∨ s.on (HB_FRAME.FRM_STATUS_LOF p) = false) →
    Completes (.lofClearTimer p) s fun t => t = s)

/-- A second that is due shows its errored blocks, its defect and its severity and starts anew with the defects present,
while one that is not due changes no more than the known instant, and one without PM_EN keeps its bins and notes the
defects present; a dual-path release selects the other copy where that alone is good, counts a lost unit where neither
is, keeps the forced copy, and holds to the later copy while SINGLE (log entry 71). Rests on spec/06_line_frame.md
(R180, R183); spec/08_ring_operation.md (R245, R247). -/
def Obligations.SecondsAndProtectedUnits : Prop :=
  (∀ (p : Port) (n : Nat) (s : State), s.Clocked → (s.toInstant n).pmDue p n = true → s.on (HB_FRAME.PM_CFG_PM_EN p) = true →
    Completes (.pmSecond p n) s fun t => t.on (HB_FRAME.PM_STATUS_TB_ALIGNED p) = s.pmLocked p ∧
      t.rd (HB_FRAME.PM_LAST_EB p) = min 1048575 (s.pmOf p.toNat).eb ∧
      t.on (HB_FRAME.PM_LAST_DEFECT p) = s.portDefectSecond p ∧
      t.on (HB_FRAME.PM_LAST_SES p) = (decide (150000 ≤ (s.pmOf p.toNat).eb) || s.portDefectSecond p) ∧
      (t.pmOf p.toNat).eb = 0 ∧ (t.pmOf p.toNat).feb = 0 ∧ (t.pmOf p.toNat).defect = s.portDefect p ∧
      (t.pmClock.get p).at_ = n ∧ t.tclk = max s.tclk n) ∧
  (∀ (p : Port) (n : Nat) (s : State), s.Clocked → (s.toInstant n).pmDue p n = true → s.on (HB_FRAME.PM_CFG_PM_EN p) = false →
    Completes (.pmSecond p n) s fun t => t.on (HB_FRAME.PM_STATUS_TB_ALIGNED p) = s.pmLocked p ∧
      (t.pmOf p.toNat).quarter = (s.pmOf p.toNat).quarter ∧ (t.pmOf p.toNat).day = (s.pmOf p.toNat).day ∧
      (t.pmOf p.toNat).near = (s.pmOf p.toNat).near ∧ (t.pmOf p.toNat).far = (s.pmOf p.toNat).far ∧
      (t.pmOf p.toNat).defect = s.portDefect p ∧ (t.pmClock.get p).lastDefect = s.portDefectSecond p ∧
      (∀ e, e ≠ p.toNat → t.pmOf e = s.pmOf e) ∧
      KeepsFieldsBut [HB_FRAME.PM_STATUS_TB_ALIGNED p] s t) ∧
  (∀ (p : Port) (n : Nat) (s : State), s.Clocked → (s.toInstant n).pmDue p n = false →
    Completes (.pmSecond p n) s fun t => t = { s with tclk := max s.tclk n }) ∧
  (∀ (ch : Fin 192) (sfc : Nat) (diff : Int) (s : State), s.Clocked → s.dpEn ch.val = false →
    Completes (.dpUnitRelease ch sfc diff) s fun t => t = s) ∧
  (∀ (ch : Fin 192) (sfc : Nat) (diff : Int) (s : State), s.Clocked → s.dpEn ch.val = true →
    s.on (HB_PROT.DP_CFG_FORCE_SEL ch.val) = false → s.on (HB_PROT.DP_STATUS_SINGLE ch.val) = false →
    Completes (.dpUnitRelease ch sfc diff) s fun t =>
      let good := fun par => ((s.selectorDiff ch.val diff).copyJudge ch.val par sfc).1 &&
        !((s.selectorDiff ch.val diff).copyJudge ch.val par sfc).2
      let cur := s.on (HB_PROT.DP_STATUS_SEL ch.val)
      t.on (HB_PROT.DP_STATUS_SEL ch.val) = (if good cur = false ∧ good (!cur) = true then !cur else cur) ∧
      (good cur = false → good (!cur) = true → Counted Ev.HB_PROT.selection s t) ∧
      (good cur = false → good (!cur) = false → Counted Ev.HB_PROT.lostUnit s t) ∧
      t.liveField (HB_PROT.DP_STATUS_PRI_UP ch.val) = bit (t.dpEn ch.val && t.copyUp ch.val false) ∧
      t.liveField (HB_PROT.DP_STATUS_PAR_UP ch.val) = bit (t.dpEn ch.val && t.copyUp ch.val true) ∧
      (∃ q, t.out.head? = some (.unit ch.val sfc q))) ∧
  (∀ (ch : Fin 192) (sfc : Nat) (diff : Int) (s : State), s.Clocked → s.dpEn ch.val = true →
    s.on (HB_PROT.DP_CFG_FORCE_SEL ch.val) = false → s.on (HB_PROT.DP_STATUS_SINGLE ch.val) = true →
    Completes (.dpUnitRelease ch sfc diff) s fun t =>
      let x := s.selectorDiff ch.val diff
      let later := decide (0 < (x.selectorOf ch.val).d)
      t.on (HB_PROT.DP_STATUS_SEL ch.val) = (if x.copyUp ch.val later then later else !later) ∧
      (∃ q, t.out.head? = some (.unit ch.val sfc q))) ∧
  (∀ (ch : Fin 192) (sfc : Nat) (diff : Int) (s : State), s.Clocked → s.dpEn ch.val = true →
    s.on (HB_PROT.DP_CFG_FORCE_SEL ch.val) = true →
    Completes (.dpUnitRelease ch sfc diff) s fun t =>
      t.on (HB_PROT.DP_STATUS_SEL ch.val) = s.on (HB_PROT.DP_STATUS_SEL ch.val) ∧
      (∃ q, t.out.head? = some (.unit ch.val sfc q)))

/-- The bits of levels that arrive on a lane. -/
abbrev laneBits (s : State) (n : Fin 24) (levels : List (Fin 4)) : List Bool :=
  levelBits (s.on (HL_LANE.LANE_CFG_RX_INV n.val)) levels

/-- On an Ianen lane with clock lock and block lock, levels that make one block with a valid sync header, which is to join the lane
frame in progress (R198). -/
abbrev LaneBlockDue (s : State) (n : Fin 24) (levels : List (Fin 4)) : Prop :=
  s.clientIanen n.val = true ∧ s.on (HL_LANE.LANE_STATUS_CDR_LOCK n.val) = true ∧ (s.hostLane n.val).align ≠ inBlockHunt ∧
    (s.hostLane n.val).rxBits = [] ∧ (s.hostLane n.val).skip = 0 ∧ (s.hostLane n.val).invalid < 24 ∧ levels.length = 33 ∧
    (laneBits s n levels).getD 0 false ≠ (laneBits s n levels).getD 1 false

/-- No SYNCE input of the clock references rests on lane `n` (R326). -/
abbrev NoSynce (s : State) (n : Nat) : Prop := ∀ i ∈ [6, 7], s.rd (CK_REF.REF_CFG_LANE i) ≠ n

/-- A lane enable is refused where the headroom exceeds the buffer; an Ethernet client whose lanes are all enabled sends
its stream, idle first, and one that is disabled ends it; clock lock of a lane in use sets the status and starts the
peaking sweep in AUTO, whose end shows its code, or puts the written code in force; loss of lock clears the status and
counts, ends the Ianen packet in progress, and gives an Ethernet client local fault and a remote fault sent; the
pattern generator puts out one level for each that arrives, and the checker counts its locks and errors; an enabled
Ianen lane sends a lane frame with the next FSEQ; a block that arrives joins the lane frame in progress; a correctable
codeword keeps FRAME_LOCK and its control word is acted on, and the fourth uncorrectable one in a row leaves it (log
entry 96). Rests on spec/07_host_interface_flows.md (R187 to R192, R195, R198, R200 to R202, R221, R227). -/
def Obligations.HostLanesFollowTheirReceivers : Prop :=
  (∀ (r : Requester) (n : Fin 24) (s : State), s.Takes r 27 (0x040 + 0x20 * n.val) →
    s.totalHeadroom (s.laneClient n.val) + s.rd HB_BUF.BUF_CFG_DROP_RESERVE ≤ bufferCells →
    Completes (.laneEnable r n) s fun t => t.on (HL_LANE.LANE_CFG_ENABLE n.val) = true ∧
      t.on HB_BUF.BUF_STATUS_HR_REFUSED = false ∧
      (s.laneClient n.val = none → NoSynce s n.val → t = { s with regs := t.regs }) ∧
      (∀ k, s.laneClient n.val = some k → s.clientIanen k = false → s.clientWhole k = true →
        (∀ m ∈ s.clientLanes k, m ≠ n.val → s.laneOn m = true) → s.laneOn n.val = false → s.clientReplaced k = false →
        s.on (HL_CLIENT.CLIENT_STATUS_LF k) = false → Out.ethernet k .idle ∈ t.out) ∧
      KeepsFieldsButRefs [HL_LANE.LANE_CFG_ENABLE n.val, HB_BUF.BUF_STATUS_HR_REFUSED] s t ∧
      (NoSynce s n.val → KeepsFieldsBut [HL_LANE.LANE_CFG_ENABLE n.val, HB_BUF.BUF_STATUS_HR_REFUSED] s t)) ∧
  (∀ (r : Requester) (n : Fin 24) (s : State), s.Takes r 27 (0x040 + 0x20 * n.val) →
    bufferCells < s.totalHeadroom (s.laneClient n.val) + s.rd HB_BUF.BUF_CFG_DROP_RESERVE →
    Completes (.laneEnable r n) s fun t => t.on (HL_LANE.LANE_CFG_ENABLE n.val) = false ∧
      t.on HB_BUF.BUF_STATUS_HR_REFUSED = true ∧ Counted Ev.HB_BUF.enableRefused s t ∧
      KeepsFieldsBut [HL_LANE.LANE_CFG_ENABLE n.val, HB_BUF.BUF_STATUS_HR_REFUSED] s t) ∧
  (∀ (r : Requester) (n : Fin 24) (s : State), s.Takes r 27 (0x040 + 0x20 * n.val) →
    Completes (.laneDisable r n) s fun t => t.on (HL_LANE.LANE_CFG_ENABLE n.val) = false ∧ (t.hostLane n.val).txq = [] ∧
      (∀ m, m ≠ n.val → t.hostLane m = s.hostLane m) ∧
      (∀ k, s.laneClient n.val = some k → s.ethStream k ≠ .off → Out.ethernet k .off ∈ t.out) ∧
      KeepsFieldsButRefs [HL_LANE.LANE_CFG_ENABLE n.val] s t ∧
      (NoSynce s n.val → KeepsFieldsBut [HL_LANE.LANE_CFG_ENABLE n.val] s t)) ∧
  (∀ (n : Fin 24) (s : State), s.Clocked → s.laneUsed n.val = true → s.on (HL_LANE.RX_EQ_AUTO n.val) = true →
    Completes (.cdrLockAcquired n) s fun t => t.rd (HL_LANE.LANE_STATUS_SIG n.val) = 1 ∧
      t.rd (HL_LANE.LANE_STATUS_CDR_LOCK n.val) = 1 ∧ (t.hostLane n.val).sweeping = true ∧
      KeepsFieldsButRefs [HL_LANE.LANE_STATUS_SIG n.val, HL_LANE.LANE_STATUS_CDR_LOCK n.val] s t) ∧
  (∀ (n : Fin 24) (s : State), s.Clocked → s.laneUsed n.val = false → Completes (.cdrLockAcquired n) s fun t => t = s) ∧
  (∀ (n : Fin 24) (s : State), s.Clocked → s.laneUsed n.val = true → s.on (HL_LANE.RX_EQ_AUTO n.val) = false →
    Completes (.cdrLockAcquired n) s fun t => t.rd (HL_LANE.LANE_STATUS_CDR_LOCK n.val) = 1 ∧
      t.rd (HL_LANE.RX_EQ_PEAK_USED n.val) = min 36 (s.rd (HL_LANE.RX_EQ_PEAK n.val)) ∧ t.lane = s.lane) ∧
  (∀ (n : Fin 24) (code : Fin 37) (s : State), s.Clocked → (s.hostLane n.val).sweeping = true →
    Completes (.peakingSweepDone n code) s fun t => t.rd (HL_LANE.RX_EQ_PEAK_USED n.val) = code.val ∧
      (t.hostLane n.val).sweeping = false ∧ KeepsFieldsBut [HL_LANE.RX_EQ_PEAK_USED n.val] s t) ∧
  (∀ (n : Fin 24) (code : Fin 37) (s : State), s.Clocked → (s.hostLane n.val).sweeping = false →
    Completes (.peakingSweepDone n code) s fun t => t = s) ∧
  (∀ (n : Fin 24) (sig : Bool) (part : List Byte) (ns : Nat) (first : Bool) (s : State), s.Clocked →
    s.on (HL_LANE.LANE_STATUS_CDR_LOCK n.val) = true →
    Completes (.cdrLockLost n sig part ns first) s fun t => t.on (HL_LANE.LANE_STATUS_CDR_LOCK n.val) = false ∧
      t.on (HL_LANE.LANE_STATUS_SIG n.val) = (sig && s.laneUsed n.val) ∧ (t.hostLane n.val).sweeping = false ∧
      t.counter 27 (laneCnt n.val 0) = (s.counter 27 (laneCnt n.val 0) + 1) % 2 ^ 64 ∧
      (s.laneClient n.val = none →
        KeepsFieldsButRefs [HL_LANE.LANE_STATUS_SIG n.val, HL_LANE.LANE_STATUS_CDR_LOCK n.val] s t) ∧
      (∀ k, s.laneClient n.val = some k → s.clientIanen k = true → (t.hostLane n.val).packet = none) ∧
      (∀ k, s.laneClient n.val = some k → s.clientIanen k = false → t.on (HL_CLIENT.CLIENT_STATUS_LF k) = true ∧
        t.on (HL_CLIENT.CLIENT_STATUS_UP k) = false ∧
        (s.on (HL_CLIENT.CLIENT_STATUS_LF k) = false → s.clientWhole k = true → (s.clientLanes k).all s.laneOn = true →
          s.clientReplaced k = false → Out.ethernet k .remoteFault ∈ t.out) ∧
        (part = [] → KeepsFieldsButRefs [HL_LANE.LANE_STATUS_SIG n.val, HL_LANE.LANE_STATUS_CDR_LOCK n.val,
          HL_CLIENT.CLIENT_STATUS_LF k, HL_CLIENT.CLIENT_STATUS_UP k] s t))) ∧
  (∀ (n : Fin 24) (sig : Bool) (part : List Byte) (ns : Nat) (first : Bool) (s : State), s.Clocked →
    s.on (HL_LANE.LANE_STATUS_CDR_LOCK n.val) = false →
    Completes (.cdrLockLost n sig part ns first) s fun t =>
      t.on (HL_LANE.LANE_STATUS_SIG n.val) = (sig && s.laneUsed n.val) ∧ t.out = s.out ∧
      KeepsFieldsButRefs [HL_LANE.LANE_STATUS_SIG n.val] s t) ∧
  (∀ (r : Requester) (n : Fin 24) (w : Byte) (s : State), s.Takes r 27 (0x050 + 0x20 * n.val) →
    Completes (.lanePrbsErrorInject r n w) s fun t => (t.hostLane n.val).inject = w.toNat ∧ t = { s with lane := t.lane } ∧
      ∀ m, m ≠ n.val → t.hostLane m = s.hostLane m) ∧
  (∀ (n : Fin 24) (levels : List (Fin 4)) (s : State), s.Clocked → s.on (HL_LANE.PRBS_CFG_CHK_EN n.val) = true →
    s.on (HL_LANE.LANE_STATUS_CDR_LOCK n.val) = true → s.on (HL_LANE.PRBS_CFG_GEN_EN n.val) = false → s.laneUsed n.val = true →
    Completes (.lanePrbsLockChange n levels) s fun t =>
      let r := (s.hostLane n.val).test.checkAll (s.rd (HL_LANE.PRBS_CFG_CHK_PAT n.val)) (s.laneUser n.val)
        (s.on (HL_LANE.LANE_STATUS_PRBS_LOCK n.val)) (levelBits (s.on (HL_LANE.LANE_CFG_RX_INV n.val)) levels)
      t.on (HL_LANE.LANE_STATUS_PRBS_LOCK n.val) = r.lock ∧ (t.hostLane n.val).test = r.test ∧
      t.counter 27 (laneCnt n.val 5) = (s.counter 27 (laneCnt n.val 5) + r.errs) % 2 ^ 64 ∧
      t.counter 27 (laneCnt n.val 6) = (s.counter 27 (laneCnt n.val 6) + r.units) % 2 ^ 64 ∧
      t.counter 27 (laneCnt n.val 7) = (s.counter 27 (laneCnt n.val 7) + r.lost) % 2 ^ 64 ∧
      (s.clientIanen n.val = false → KeepsFieldsBut [HL_LANE.LANE_STATUS_PRBS_LOCK n.val] s t)) ∧
  (∀ (n : Fin 24) (levels : List (Fin 4)) (s : State), s.Clocked → LaneBlockDue s n levels →
    (s.hostLane n.val).rxBlocks.length < 79 →
    Completes (.lanePrbsLockChange n levels) s fun t =>
      (t.hostLane n.val).rxBlocks = (s.hostLane n.val).rxBlocks ++ [laneBits s n levels]) ∧
  (∀ (n : Fin 24) (levels : List (Fin 4)) (s : State), s.Clocked → s.on (HL_LANE.PRBS_CFG_GEN_EN n.val) = true →
    s.laneOn n.val = true → s.laneUsed n.val = true →
    Completes (.lanePrbsLockChange n levels) s fun t =>
      ∃ l, t.out = .lane n.val l :: s.out ∧ l.length = levels.length) ∧
  (∀ (n : Fin 24) (levels : List (Fin 4)) (s : State), s.Clocked → s.on (HL_LANE.PRBS_CFG_GEN_EN n.val) = false →
    (s.laneUsed n.val = false ∨ s.on (HL_LANE.LANE_STATUS_CDR_LOCK n.val) = false ∨
      (s.on (HL_LANE.PRBS_CFG_CHK_EN n.val) = false ∧ s.clientIanen n.val = false)) →
    Completes (.lanePrbsLockChange n levels) s fun t => t = s) ∧
  (∀ (k : Fin 24) (al lf rf : Bool) (s : State), s.Clocked → s.clientIanen k.val = false → s.clientWhole k.val = true →
    Completes (.pcsAlignmentChange k al lf rf) s fun t => t.on (HL_CLIENT.CLIENT_STATUS_UP k.val) = (al && !lf && !rf) ∧
      t.on (HL_CLIENT.CLIENT_STATUS_LF k.val) = lf ∧ t.on (HL_CLIENT.CLIENT_STATUS_RF k.val) = rf ∧
      (lf = true → s.on (HL_CLIENT.CLIENT_STATUS_LF k.val) = false → (s.clientLanes k.val).all s.laneOn = true →
        s.clientReplaced k.val = false → Out.ethernet k.val .remoteFault ∈ t.out) ∧
      KeepsFieldsBut [HL_CLIENT.CLIENT_STATUS_LF k.val, HL_CLIENT.CLIENT_STATUS_RF k.val, HL_CLIENT.CLIENT_STATUS_UP k.val] s t) ∧
  (∀ (k : Fin 24) (al lf rf : Bool) (s : State), s.Clocked → (s.clientIanen k.val = true ∨ s.clientWhole k.val = false) →
    Completes (.pcsAlignmentChange k al lf rf) s fun t => t = s) ∧
  (∀ (n : Fin 24) (levels : List (Fin 4)) (s : State), s.Clocked → s.clientIanen n.val = false →
    Completes (.ianenLaneFrame n levels) s fun t => t = s) ∧
  (∀ (n : Fin 24) (levels : List (Fin 4)) (s : State), s.Clocked → s.clientIanen n.val = true → s.laneOn n.val = true →
    s.on (HL_LANE.PRBS_CFG_GEN_EN n.val) = false →
    Completes (.ianenLaneFrame n levels) s fun t =>
      Out.lane n.val (levelsOf (s.on (HL_LANE.LANE_CFG_TX_INV n.val))
        (laneFrameBits (encodeBlocks ((s.laneBlocks laneDataBlocks n.val).1.hostLane n.val).scr
          (s.laneBlocks laneDataBlocks n.val).2).1 (s.laneControlWord n.val))) ∈ t.out ∧
      (t.hostLane n.val).fseqTx = ((s.hostLane n.val).fseqTx + 1) % 256) ∧
  (∀ (n : Fin 24) (levels : List (Fin 4)) (s : State), s.Clocked → LaneBlockDue s n levels →
    (s.hostLane n.val).rxBlocks.length < 79 →
    Completes (.ianenLaneFrame n levels) s fun t =>
      (t.hostLane n.val).rxBlocks = (s.hostLane n.val).rxBlocks ++ [laneBits s n levels] ∧
      (t.hostLane n.val).align = (s.hostLane n.val).align) ∧
  (∀ (n : Fin 24) (levels : List (Fin 4)) (w : List Nat) (k : Nat) (s : State), s.Clocked → LaneBlockDue s n levels →
    (s.hostLane n.val).rxBlocks.length = 79 → (s.hostLane n.val).align = inFrameLock →
    rsDecode (laneCodeword ((s.hostLane n.val).rxBlocks ++ [laneBits s n levels])) = some (w, k) →
    Completes (.ianenLaneFrame n levels) s fun t => (t.hostLane n.val).align = inFrameLock ∧ (t.hostLane n.val).uncorr = 0 ∧
      t.on (HL_LANE.LANE_STATUS_FAR_RX_OK n.val) = bitOf (codewordControl w) 43 ∧
      (bitOf (codewordControl w) 43 = true → bitOf (codewordControl w) 39 = true →
        Tab.get 0 (t.hostLane n.val).granted (bits (codewordControl w) 40 3) = 65536 + bits (codewordControl w) 23 16) ∧
      (bitOf (codewordControl w) 43 = false → (t.hostLane n.val).granted = [] ∧ (t.hostLane n.val).sent = []) ∧
      t.counter 27 (laneCnt n.val 3) = (s.counter 27 (laneCnt n.val 3) + k) % 2 ^ 64) ∧
  (∀ (n : Fin 24) (levels : List (Fin 4)) (s : State), s.Clocked → LaneBlockDue s n levels →
    (s.hostLane n.val).rxBlocks.length = 79 → (s.hostLane n.val).align = inFrameLock →
    rsDecode (laneCodeword ((s.hostLane n.val).rxBlocks ++ [laneBits s n levels])) = none → (s.hostLane n.val).uncorr = 3 →
    Completes (.ianenLaneFrame n levels) s fun t => (t.hostLane n.val).align = inFrameHunt ∧
      (t.hostLane n.val).packet = none ∧
      t.on (HL_LANE.LANE_STATUS_FRAME_LOCK n.val) = false ∧ t.on (HL_CLIENT.CLIENT_STATUS_UP n.val) = false ∧
      t.counter 27 (laneCnt n.val 2) = (s.counter 27 (laneCnt n.val 2) + 1) % 2 ^ 64 ∧
      t.counter 27 (laneCnt n.val 4) = (s.counter 27 (laneCnt n.val 4) + 1) % 2 ^ 64)

/-- A good frame of a valid VLAN entry and flow within its policer is queued to its channel and class and charged to the
shared buffer; one that misses is counted and queued nowhere; a client that is off takes none, and an Ianen client
takes the oldest packet that its lane has received; a delivered packet goes to the flow's client, an Ethernet one with
its preamble and gap, or is counted as a tag miss; PFC frames set and expiries clear pauses; XOFF repeats while the
buffer stays above XON and the client sends; an Ianen packet starts only on credit. Rests on
spec/07_host_interface_flows.md (R192, R193, R198, R200, R207, R209, R222); spec/09_channel_encryption.md (R291). -/
def Obligations.HostPacketsAndFlowControl : Prop :=
  (∀ (k : Fin 24) (bytes : List Byte) (broken : Bool) (ns : Nat) (first : Bool) (corr uncorr : Nat) (s : State), s.Clocked →
    (s.clientOn k.val && s.clientWhole k.val) = false →
    Completes (.ingressFrame k bytes broken ns first corr uncorr) s fun t => t = s) ∧
  (∀ (k : Fin 24) (bytes : List Byte) (broken : Bool) (ns : Nat) (first : Bool) (corr uncorr : Nat) (s : State), s.Clocked →
    s.clientOn k.val = true → s.clientIanen k.val = true → (s.hostLane k.val).due = [] →
    Completes (.ingressFrame k bytes broken ns first corr uncorr) s fun t => t = s) ∧
  (∀ (k : Fin 24) (bytes : List Byte) (broken : Bool) (ns : Nat) (first : Bool) (corr uncorr : Nat) (b : List Nat) (e : Bool)
    (era : Nat) (rest : List (List Nat × Bool × Nat)) (s : State), s.Clocked →
    s.clientOn k.val = true → s.clientIanen k.val = true → (s.hostLane k.val).due = (b, e, era) :: rest →
    Completes (.ingressFrame k bytes broken ns first corr uncorr) s fun t => (t.hostLane k.val).due = rest ∧
      t.counter 28 (clientCnt k.val 4) = s.counter 28 (clientCnt k.val 4) ∧
      ((e = true ∨ b.length < 64) →
        t.counter 28 (clientCnt k.val 0) = (s.counter 28 (clientCnt k.val 0) + 1) % 2 ^ 64)) ∧
  (∀ (k : Fin 24) (bytes : List Byte) (ns : Nat) (first : Bool) (corr uncorr w : Nat) (s : State), s.Clocked →
    s.clientOn k.val = true → s.clientWhole k.val = true → s.clientIanen k.val = false → s.on HB_FLOW.FLOW_CTRL_ADD_EN = true →
    let b := bytes.map (·.toNat)
    64 ≤ b.length → b.length ≤ s.maxFrame k.val → b.drop (b.length - 4) = ethFcs (b.take (b.length - 4)) →
    word16 b 12 ≠ 0x8808 → s.vlanWord (s.vlanIndex k.val b).1 = some w → bitOf w 0 = true →
    let flow := (bits w 2 14 + (if bitOf w 1 then (s.vlanIndex k.val b).2 else 0)) % 16384
    s.flowWritten flow = true → s.flowValid flow = true → s.flowClient flow = k.val →
    (s.police flow b.length ns first).2 = true → (s.addPlaces (s.flowChannel flow)).isEmpty = false →
    s.cellPlan k.val (s.flowClass flow) (cellsOf b.length) = .shared →
    Completes (.ingressFrame k bytes false ns first corr uncorr) s fun t =>
      t.shared = s.shared + cellsOf b.length ∧ t.headUsed = s.headUsed ∧
      ∃ x : Packet, Tab.get [] (t.addOf (s.flowChannel flow)).queues (s.flowClass flow) =
          Tab.get [] (s.addOf (s.flowChannel flow)).queues (s.flowClass flow) ++ [x] ∧
        x.bytes = b ∧ x.error = false ∧ x.flow = flow ∧ x.tag = s.flowTag flow ∧ x.client = k.val ∧
        x.shared = cellsOf b.length ∧ x.head = 0) ∧
  (∀ (k : Fin 24) (bytes : List Byte) (broken : Bool) (ns : Nat) (first : Bool) (corr uncorr w : Nat) (s : State), s.Clocked →
    s.clientOn k.val = true → s.clientWhole k.val = true → s.clientIanen k.val = false →
    s.on HB_FLOW.FLOW_CTRL_ADD_EN = true → word16 (bytes.map (·.toNat)) 12 ≠ 0x8808 →
    s.vlanWord (s.vlanIndex k.val (bytes.map (·.toNat))).1 = some w → bitOf w 0 = false →
    Completes (.ingressFrame k bytes broken ns first corr uncorr) s fun t => Counted Ev.HB_FLOW.vlanMiss s t ∧
      t.add = s.add ∧ t.shared = s.shared ∧ KeepsFieldsBut [] s t) ∧
  (∀ (ch : Fin 192) (tag : Nat) (bytes : List Nat) (err : Bool) (ss : Nat) (rest : List (Nat × List Nat × Bool × Nat))
    (s : State), s.Clocked → (s.dropOf ch.val).due = (tag, bytes, err, ss) :: rest →
    s.on HB_FLOW.FLOW_CTRL_DROP_EN = true → s.flowWritten tag = true → s.flowValid tag = true →
    s.flowChannel tag = ch.val → s.mayStart (s.flowClient tag) (s.flowClass tag) = true →
    ((s.clientOf (s.flowClient tag)).egress.any fun x => x.tclass == s.flowClass tag) = false →
    Completes (.dropPacketDelivery ch) s fun t => (t.dropOf ch.val).due = rest ∧
      t.out = (if s.clientReplaced (s.flowClient tag) then s.out
        else if s.clientIanen (s.flowClient tag) then .packet (s.flowClient tag) 0 bytes err :: s.out
        else .packet (s.flowClient tag) 12 (ethPreamble ++ bytes) err :: s.out) ∧
      (s.clientIanen (s.flowClient tag) = true → (t.hostLane (s.flowClient tag)).txq.map (·.1) =
        (s.hostLane (s.flowClient tag)).txq.map (·.1) ++ packetBlocks (s.flowTag tag) bytes err) ∧
      KeepsFieldsBut [] s t) ∧
  (∀ (ch : Fin 192) (tag : Nat) (bytes : List Nat) (err : Bool) (ss : Nat) (rest : List (Nat × List Nat × Bool × Nat))
    (s : State), s.Clocked → (s.dropOf ch.val).due = (tag, bytes, err, ss) :: rest →
    s.on HB_FLOW.FLOW_CTRL_DROP_EN = true → s.flowWritten tag = true →
    (s.flowValid tag = false ∨ s.flowChannel tag ≠ ch.val) →
    Completes (.dropPacketDelivery ch) s fun t => t.out = s.out ∧ (t.dropOf ch.val).due = rest ∧
      Counted Ev.HB_FLOW.dropTagMiss s t ∧ KeepsFieldsBut [] s t) ∧
  (∀ (k : Fin 24) (vec : Byte) (times : List (BitVec 16)) (s : State), s.Clocked →
    Completes (.pfcFrameReceived k vec times) s fun t =>
      (∀ c, c < 8 → bitOf (t.rd (HL_CLIENT.CLIENT_STATUS_PAUSED k.val)) c =
        if bitOf vec.toNat c then decide ((times.map (·.toNat)).getD c 0 ≠ 0)
        else bitOf (s.rd (HL_CLIENT.CLIENT_STATUS_PAUSED k.val)) c) ∧
      t.counter 28 (clientCnt k.val 3) = (s.counter 28 (clientCnt k.val 3) + 1) % 2 ^ 64 ∧
      KeepsFieldsBut [HL_CLIENT.CLIENT_STATUS_PAUSED k.val] s t) ∧
  (∀ (k : Fin 24) (c : Fin 8) (s : State), s.Clocked →
    Completes (.pfcPauseExpiry k c) s fun t =>
      bitOf (t.rd (HL_CLIENT.CLIENT_STATUS_PAUSED k.val)) c.val = false ∧
      (∀ d, d < 8 → d ≠ c.val → bitOf (t.rd (HL_CLIENT.CLIENT_STATUS_PAUSED k.val)) d =
        bitOf (s.rd (HL_CLIENT.CLIENT_STATUS_PAUSED k.val)) d) ∧ KeepsFieldsBut [HL_CLIENT.CLIENT_STATUS_PAUSED k.val] s t) ∧
  (∀ (k : Fin 24) (c : Fin 8) (s : State), s.Clocked → (s.xoffOn k.val c.val = false ∨ s.clientSends k.val = false) →
    Completes (.pfcRepeatTimer k c) s fun t => t = s) ∧
  (∀ (k : Fin 24) (c : Fin 8) (s : State), s.Clocked → s.xoffOn k.val c.val = true → s.clientSends k.val = true →
    s.clientReplaced k.val = false →
    Completes (.pfcRepeatTimer k c) s fun t =>
      t.out = .pfc k.val (2 ^ c.val)
        (if s.rd HB_BUF.PFC_THR_XON < Tab.get 0 (s.clientOf k.val).shared c.val then 0xFFFF else 0) :: s.out ∧
      t.xoffOn k.val c.val = decide (s.rd HB_BUF.PFC_THR_XON < Tab.get 0 (s.clientOf k.val).shared c.val)) ∧
  (∀ (n : Fin 24) (c : Fin 8) (x : Packet) (s : State), s.Clocked → s.clientIanen n.val = true →
    s.mayStart n.val c.val = true → ((s.clientOf n.val).egress.find? fun y => y.tclass == c.val) = some x → x.client = n.val →
    Completes (.ianenPacketStart n c) s fun t =>
      t.out = (if s.clientReplaced n.val then s.out else .packet n.val 0 x.bytes x.error :: s.out) ∧
      (t.hostLane n.val).txq = (s.hostLane n.val).txq ++ s.chargedBlocks x ∧
      ((t.clientOf n.val).egress = (s.clientOf n.val).egress.eraseP fun y => y.tclass == c.val) ∧
      t.shared = s.shared - x.shared ∧ t.dropUsed = s.dropUsed - x.head ∧ KeepsFieldsBut [] s t) ∧
  (∀ (n : Fin 24) (c : Fin 8) (s : State), s.Clocked → (s.clientIanen n.val = false ∨ s.mayStart n.val c.val = false ∨
    ((s.clientOf n.val).egress.find? fun y => y.tclass == c.val) = none) →
    Completes (.ianenPacketStart n c) s fun t => t = s)

/-- The requesters among which an arbiter draws: of arbiters 0 to 2 those the command names, of arbiter 3 the high DMA channels that
are ready, of arbiter 4 the low ones while no high one is (R396, R397). -/
abbrev Sys2Proof.Machine.State.arbAskers (s : State) (a : Fin 5) (q : BitVec 6) : List Nat :=
  if a.val < 3 then (List.range (arbRequesters a.val)).filter (bitOf q.toNat)
  else if a.val = 3 then s.dmaAskers true
  else if (s.dmaAskers true).isEmpty then s.dmaAskers false else []

/-- A draw of an unfrozen arbiter advances its LFSR by 32, grants the asker that the tickets give, or the next in turn
where all tickets are 0, and parks a sole asker in native mode; a park is used without a draw; a draw of a DMA arbiter
starts the burst of the channel it grants, and a low burst that is cut short resumes at the beat where it stopped; an
arbiter that is frozen or has no asker draws nothing; SEED 0 is ignored, MODE and FREEZE release a park, and the
freeze expires with a count (log entries 60 and 66). Rests on spec/13_dma_arbitration_memory.md (R396, R398, R401,
R403). -/
def Obligations.ArbitersDrawByLottery : Prop :=
  (∀ (a : Fin 5) (q : BitVec 6) (len : Nat) (s : State), s.clock.stopped = false →
    (s.on (MG_MEM.ARB_CFG_FREEZE a.val) = true ∨ s.arbAskers a q = []) →
    Completes (.arbiterDraw a q len) s fun t => t = s) ∧
  (∀ (a : Fin 5) (q : BitVec 6) (len : Nat) (s : State), s.clock.stopped = false → a.val < 3 →
    s.on (MG_MEM.ARB_CFG_FREEZE a.val) = false → s.on (MG_MEM.ARB_CFG_PARKED a.val) = true →
    (List.range (arbRequesters a.val)).filter (bitOf q.toNat) = [s.rd (MG_MEM.ARB_CFG_OWNER a.val)] →
    Completes (.arbiterDraw a q len) s fun t => t = { s with cnt := t.cnt } ∧
      t.counter 4 (0x504 + 0x10 * a.val) = (s.counter 4 (0x504 + 0x10 * a.val) + 1) % 2 ^ 64) ∧
  (∀ (a : Fin 5) (q : BitVec 6) (len w : Nat) (s : State), s.clock.stopped = false → a.val < 3 →
    s.on (MG_MEM.ARB_CFG_FREEZE a.val) = false →
    let l := (List.range (arbRequesters a.val)).filter (bitOf q.toNat)
    (s.on (MG_MEM.ARB_CFG_PARKED a.val) = false ∨ l ≠ [s.rd (MG_MEM.ARB_CFG_OWNER a.val)]) → (l.map (s.tickets a.val)).sum ≠ 0 →
    lottery (l.map fun x => (x, s.tickets a.val x))
      (lfsrSteps 32 (s.rd (MG_MEM.ARB_SEED_STATE a.val)) * (l.map (s.tickets a.val)).sum / 2 ^ 32) = some w →
    Completes (.arbiterDraw a q len) s fun t =>
      t.rd (MG_MEM.ARB_SEED_STATE a.val) = lfsrSteps 32 (s.rd (MG_MEM.ARB_SEED_STATE a.val)) % 2 ^ 32 ∧
      t.on (MG_MEM.ARB_CFG_PARKED a.val) =
        (decide (l.length = 1) && !s.on (MG_MEM.ARB_CFG_MODE a.val) && decide (s.tickets a.val w ≠ 0)) ∧
      t.rd (MG_MEM.ARB_CFG_OWNER a.val) = (if t.on (MG_MEM.ARB_CFG_PARKED a.val) then w % 2 ^ 5 else 31) ∧
      t.counter 4 (0x500 + 0x10 * a.val) = (s.counter 4 (0x500 + 0x10 * a.val) + 1) % 2 ^ 64 ∧
      KeepsFieldsBut [MG_MEM.ARB_SEED_STATE a.val, MG_MEM.ARB_CFG_PARKED a.val, MG_MEM.ARB_CFG_OWNER a.val] s t) ∧
  (∀ (a : Fin 5) (q : BitVec 6) (len w : Nat) (s : State), s.clock.stopped = false → a.val < 3 →
    s.on (MG_MEM.ARB_CFG_FREEZE a.val) = false →
    (s.on (MG_MEM.ARB_CFG_PARKED a.val) = false ∨ s.arbAskers a q ≠ [s.rd (MG_MEM.ARB_CFG_OWNER a.val)]) →
    ((s.arbAskers a q).map (s.tickets a.val)).sum = 0 →
    roundRobin (s.arbAskers a q) (Tab.get 0 s.mem.lastZero a.val) = some w →
    Completes (.arbiterDraw a q len) s fun t => Tab.get 0 t.mem.lastZero a.val = w + 1 ∧
      t.rd (MG_MEM.ARB_SEED_STATE a.val) = lfsrSteps 32 (s.rd (MG_MEM.ARB_SEED_STATE a.val)) % 2 ^ 32 ∧
      t.on (MG_MEM.ARB_CFG_PARKED a.val) = false ∧ t.rd (MG_MEM.ARB_CFG_OWNER a.val) = 31 ∧
      t.counter 4 (0x500 + 0x10 * a.val) = (s.counter 4 (0x500 + 0x10 * a.val) + 1) % 2 ^ 64) ∧
  (∀ (a : Fin 5) (q : BitVec 6) (len w : Nat) (d : Descr) (s : State), s.clock.stopped = false → 3 ≤ a.val →
    s.on (MG_MEM.ARB_CFG_FREEZE a.val) = false →
    (s.on (MG_MEM.ARB_CFG_PARKED a.val) = false ∨ s.arbAskers a q ≠ [s.rd (MG_MEM.ARB_CFG_OWNER a.val)]) →
    ((s.arbAskers a q).map (s.tickets a.val)).sum ≠ 0 →
    lottery ((s.arbAskers a q).map fun x => (x, s.tickets a.val x))
      (lfsrSteps 32 (s.rd (MG_MEM.ARB_SEED_STATE a.val)) * ((s.arbAskers a q).map (s.tickets a.val)).sum / 2 ^ 32) = some w →
    (s.dmaOf w).cur = some d → (s.dmaOf w).held = [] → d.toHost = false → s.linkUp = true → w < 16 →
    s.rd (DMA_ENG.REMAIN_BYTES w) ≠ 0 →
    Completes (.arbiterDraw a q len) s fun t =>
      t.out = .hostRead (d.host + d.len - s.rd (DMA_ENG.REMAIN_BYTES w)) (s.burstLen w d) :: s.out ∧
      (t.dmaOf w).outstanding = s.burstLen w d ∧
      (t.dmaOf w).request = d.host + d.len - s.rd (DMA_ENG.REMAIN_BYTES w) ∧
      t.rd (DMA_ENG.REMAIN_BYTES w) = s.rd (DMA_ENG.REMAIN_BYTES w) - s.burstLen w d ∧
      t.counter 4 (0x500 + 0x10 * a.val) = (s.counter 4 (0x500 + 0x10 * a.val) + 1) % 2 ^ 64 ∧
      t.bar2 = s.bar2 ∧ t.sram = s.sram) ∧
  (∀ (q : BitVec 6) (len w : Nat) (d : Descr) (s : State), s.clock.stopped = false → s.on (MG_MEM.ARB_CFG_FREEZE 4) = false →
    (s.on (MG_MEM.ARB_CFG_PARKED 4) = false ∨ s.arbAskers 4 q ≠ [s.rd (MG_MEM.ARB_CFG_OWNER 4)]) →
    ((s.arbAskers 4 q).map (s.tickets 4)).sum ≠ 0 →
    lottery ((s.arbAskers 4 q).map fun x => (x, s.tickets 4 x))
      (lfsrSteps 32 (s.rd (MG_MEM.ARB_SEED_STATE 4)) * ((s.arbAskers 4 q).map (s.tickets 4)).sum / 2 ^ 32) = some w →
    (s.dmaOf w).cur = some d → d.toHost = false → (s.dmaOf w).held ≠ [] → s.dmaPerBeat w = false →
    max 1 len < s.burstBeats w → d.swap = 0 → 0x20000000 ≤ d.dev →
    Completes (.arbiterDraw 4 q len) s fun t =>
      (t.dmaOf w).held = (s.dmaOf w).held.drop (32 * max 1 len) ∧ (t.dmaOf w).moved = (s.dmaOf w).moved + 32 * max 1 len ∧
      (∀ i, i < 32 * max 1 len → Memory.read t.sram (d.dev + (s.dmaOf w).moved - 0x20000000 + i) =
        ((s.dmaOf w).held[i]?).map (BitVec.ofNat 8)) ∧
      t.counter 6 (0x908 + 0x10 * w) = (s.counter 6 (0x908 + 0x10 * w) + 1) % 2 ^ 64) ∧
  (∀ (r : Requester) (a : Fin 5) (v : Word) (s : State), s.Takes r 4 (0x044 + 0x10 * a.val) → v ≠ 0 →
    Completes (.arbSeed r a v) s fun t => t.rd (MG_MEM.ARB_SEED_STATE a.val) = v.toNat ∧ t = { s with regs := t.regs } ∧
      KeepsFieldsBut [MG_MEM.ARB_SEED_STATE a.val] s t) ∧
  (∀ (r : Requester) (a : Fin 5) (s : State), s.Takes r 4 (0x044 + 0x10 * a.val) →
    Completes (.arbSeed r a 0) s fun t => t = s) ∧
  (∀ (r : Requester) (a : Fin 5) (m : Bool) (s : State), s.Takes r 4 (0x040 + 0x10 * a.val) →
    Completes (.arbMode r a m) s fun t => t.on (MG_MEM.ARB_CFG_MODE a.val) = m ∧
      t.on (MG_MEM.ARB_CFG_PARKED a.val) = false ∧
      t.rd (MG_MEM.ARB_CFG_OWNER a.val) =
        (if s.on (MG_MEM.ARB_CFG_PARKED a.val) then 31 else s.rd (MG_MEM.ARB_CFG_OWNER a.val)) ∧
      KeepsFieldsBut [MG_MEM.ARB_CFG_MODE a.val, MG_MEM.ARB_CFG_PARKED a.val, MG_MEM.ARB_CFG_OWNER a.val] s t ∧
      t = { s with regs := t.regs }) ∧
  (∀ (r : Requester) (a : Fin 5) (s : State), s.Takes r 4 (0x040 + 0x10 * a.val) →
    Completes (.arbFreeze r a) s fun t => t.on (MG_MEM.ARB_CFG_FREEZE a.val) = true ∧
      t.on (MG_MEM.ARB_CFG_PARKED a.val) = false ∧
      KeepsFieldsBut [MG_MEM.ARB_CFG_FREEZE a.val, MG_MEM.ARB_CFG_PARKED a.val, MG_MEM.ARB_CFG_OWNER a.val] s t ∧
      t = { s with regs := t.regs }) ∧
  (∀ (a : Fin 5) (s : State), s.on (MG_MEM.ARB_CFG_FREEZE a.val) = true →
    Completes (.arbFreezeExpiry a) s fun t => t.on (MG_MEM.ARB_CFG_FREEZE a.val) = false ∧
      Counted (Ev.MG_MEM.freezeExpired a.val) s t ∧ KeepsFieldsBut [MG_MEM.ARB_CFG_FREEZE a.val] s t ∧ s.EventFrame t) ∧
  (∀ (a : Fin 5) (s : State), s.on (MG_MEM.ARB_CFG_FREEZE a.val) = false →
    Completes (.arbFreezeExpiry a) s fun t => t = s)

/-- The descriptors that a channel may fetch from the host: from `HEAD` on, as far as they are posted, and `PREFETCH` ahead of the one
in progress (R389). -/
abbrev fetchList (s : State) (c : Nat) : List Nat :=
  (List.range (min (s.dmaPosted c) (min 4 (s.rd DMA_ENG.ENG_CFG_PREFETCH) + 1))).map fun i =>
    (s.dmaHead c + i) % s.ringSize c

/-- A channel of a host ring that has nothing fetched and nothing in progress. -/
abbrev DmaIdle (s : State) (c : Nat) : Prop :=
  s.ringLocal c = false ∧ (s.dmaOf c).cur = none ∧ (s.dmaOf c).ahead = [] ∧ (s.dmaOf c).fetching = []

/-- What fetching puts out: a read of 32 bytes for each descriptor. -/
abbrev fetchOut (s : State) (c : Nat) (l : List Nat) : List Out := (l.map fun i => Out.hostRead (s.descrAt c i) 32).reverse

/-- RUN, a doorbell and CH_RESET act on channels their requester may write and are dropped with cause 6 on the others; a
doorbell that would empty a ring is dropped; on a live idle channel of a host ring each of them starts the fetches of
the posted descriptors, PREFETCH ahead; CH_RESET clears the channel and no other; HALT_CLR ends a halt while no
request is outstanding. Rests on spec/13_dma_arbitration_memory.md (R384, R395). -/
def Obligations.DmaRingsRunDoorbellAndReset : Prop :=
  (∀ (r : Requester) (c : Fin 16) (s : State), s.Takes r 6 (0x100 + 0x40 * c.val) → reservedChannel r c.val = false →
    (s.on DMA_ENG.ENG_CTRL_ENABLE = false ∨ s.dmaHalted = true) →
    Completes (.dmaChannelRun r c) s fun t => t.on (DMA_ENG.CH_CTRL_RUN c.val) = true ∧ t = { s with regs := t.regs } ∧
      KeepsFieldsBut [DMA_ENG.CH_CTRL_RUN c.val, DMA_ENG.CH_STATUS_STATE c.val] s t) ∧
  (∀ (r : Requester) (c : Fin 16) (s : State), s.Takes r 6 (0x100 + 0x40 * c.val) → reservedChannel r c.val = false →
    s.on DMA_ENG.ENG_CTRL_ENABLE = true → s.dmaHalted = false → s.linkUp = true → DmaIdle s c.val →
    Completes (.dmaChannelRun r c) s fun t => t.on (DMA_ENG.CH_CTRL_RUN c.val) = true ∧
      (t.dmaOf c.val).fetching = fetchList s c.val ∧ t.out = fetchOut s c.val (fetchList s c.val) ++ s.out ∧
      KeepsFieldsBut [DMA_ENG.CH_CTRL_RUN c.val, DMA_ENG.CH_STATUS_STATE c.val] s t ∧
      t = { s with regs := t.regs, out := t.out, dma := t.dma }) ∧
  (∀ (r : Requester) (c : Fin 16) (s : State), s.Takes r 6 (0x100 + 0x40 * c.val) → reservedChannel r c.val = true →
    ∀ x ∈ [Instr.dmaChannelRun r c, Instr.chReset r c], Completes x s fun t =>
      t.rd (HDR.LOCK_VIOL_VIOL 6) = 1 ∧ t.rd (HDR.LOCK_VIOL_CAUSE 6) = 6 ∧ t.dma = s.dma ∧ t = { s with regs := t.regs } ∧
      KeepsFieldsBut [HDR.LOCK_VIOL_VIOL 6, HDR.LOCK_VIOL_CAUSE 6, HDR.LOCK_VIOL_MASTER 6, HDR.LOCK_VIOL_LOCATION 6] s t) ∧
  (∀ (r : Requester) (c : Fin 16) (tail : BitVec 15) (s : State), s.Takes r 6 (0x110 + 0x40 * c.val) →
    reservedChannel r c.val = true →
    Completes (.dmaDoorbell r c tail) s fun t => t.rd (HDR.LOCK_VIOL_VIOL 6) = 1 ∧ t.rd (HDR.LOCK_VIOL_CAUSE 6) = 6 ∧
      t = { s with regs := t.regs } ∧
      KeepsFieldsBut [HDR.LOCK_VIOL_VIOL 6, HDR.LOCK_VIOL_CAUSE 6, HDR.LOCK_VIOL_MASTER 6, HDR.LOCK_VIOL_LOCATION 6] s t) ∧
  (∀ (r : Requester) (c : Fin 16) (tail : BitVec 15) (s : State), s.Takes r 6 (0x110 + 0x40 * c.val) →
    reservedChannel r c.val = false →
    tail.toNat % s.ringSize c.val = s.dmaHead c.val % s.ringSize c.val → s.dmaPosted c.val ≠ 0 →
    Completes (.dmaDoorbell r c tail) s fun t => Counted Ev.DMA_ENG.doorbellDropped s t ∧ t.dma = s.dma ∧
      KeepsFieldsBut [] s t ∧ s.EventFrame t) ∧
  (∀ (r : Requester) (c : Fin 16) (tail : BitVec 15) (s : State), s.Takes r 6 (0x110 + 0x40 * c.val) →
    reservedChannel r c.val = false →
    ¬ (tail.toNat % s.ringSize c.val = s.dmaHead c.val % s.ringSize c.val ∧ s.dmaPosted c.val ≠ 0) →
    s.dmaLive c.val = true → s.linkUp = true → DmaIdle s c.val →
    Completes (.dmaDoorbell r c tail) s fun t => t.rd (DMA_ENG.TAIL_TAIL c.val) = tail.toNat ∧
      (t.dmaOf c.val).fetching = fetchList t c.val ∧ t.out = fetchOut s c.val (fetchList t c.val) ++ s.out ∧
      KeepsFieldsBut [DMA_ENG.TAIL_TAIL c.val, DMA_ENG.CH_STATUS_STATE c.val] s t ∧
      t = { s with regs := t.regs, out := t.out, dma := t.dma }) ∧
  (∀ (r : Requester) (c : Fin 16) (s : State), s.Takes r 6 (0x100 + 0x40 * c.val) → reservedChannel r c.val = false →
    s.dmaLive c.val = false →
    Completes (.chReset r c) s fun t => t.rd (DMA_ENG.CH_STATUS_STATE c.val) = 0 ∧
      t.rd (DMA_ENG.CH_STATUS_ERR c.val) = 0 ∧ t.on (DMA_ENG.CH_STATUS_FAILED c.val) = false ∧
      t.rd (DMA_ENG.REMAIN_BYTES c.val) = 0 ∧ t.dmaOf c.val = { DmaChan.init with bytes := (s.dmaOf c.val).bytes } ∧
      (∀ d, d ≠ c.val → t.dmaOf d = s.dmaOf d) ∧ t = { s with regs := t.regs, dma := t.dma } ∧
      KeepsFieldsBut [DMA_ENG.CH_STATUS_STATE c.val, DMA_ENG.CH_STATUS_ERR c.val, DMA_ENG.CH_STATUS_FAILED c.val,
        DMA_ENG.REMAIN_BYTES c.val] s t) ∧
  (∀ (r : Requester) (c : Fin 16) (s : State), s.Takes r 6 (0x100 + 0x40 * c.val) → reservedChannel r c.val = false →
    s.dmaLive c.val = true → s.ringLocal c.val = false → s.linkUp = true →
    Completes (.chReset r c) s fun t => t.rd (DMA_ENG.CH_STATUS_ERR c.val) = 0 ∧
      t.on (DMA_ENG.CH_STATUS_FAILED c.val) = false ∧ t.rd (DMA_ENG.REMAIN_BYTES c.val) = 0 ∧
      (t.dmaOf c.val).cur = none ∧ (t.dmaOf c.val).held = [] ∧ (t.dmaOf c.val).fetching = fetchList s c.val ∧
      t.out = fetchOut s c.val (fetchList s c.val) ++ s.out ∧ (∀ d, d ≠ c.val → t.dmaOf d = s.dmaOf d) ∧
      KeepsFieldsBut [DMA_ENG.CH_STATUS_STATE c.val, DMA_ENG.CH_STATUS_ERR c.val, DMA_ENG.CH_STATUS_FAILED c.val,
        DMA_ENG.REMAIN_BYTES c.val] s t) ∧
  (∀ (r : Requester) (s : State), s.Takes r 6 0x040 → s.dmaHalted = true → s.dmaActive = false → s.linkUp = true →
    Completes (.haltClr r) s fun t => t.dmaHalted = false ∧ t.rd DMA_ENG.ENG_STATUS_HALT_CAUSE = 0 ∧
      t.on DMA_ENG.ENG_STATUS_FINAL_BEAT = false) ∧
  (∀ (r : Requester) (s : State), s.Takes r 6 0x040 → (s.dmaHalted = false ∨ s.dmaActive = true) →
    Completes (.haltClr r) s fun t => t = s)

/-- A fetched descriptor waits behind the one in progress or starts, and an invalid one halts its channel alone; data of a
high channel is stored where its descriptor says and nowhere else, that of a pre-empted or beat-by-beat channel is
kept and counted (log entry 55), that of a halted engine is drained; a completed descriptor advances HEAD with its
count, completion event and write-back. Rests on spec/13_dma_arbitration_memory.md (R390 to R392). -/
def Obligations.DmaCompletionsDeliverData : Prop :=
  (∀ (c : Fin 16) (b : List Byte) (i : Nat) (rest : List Nat) (s : State), s.clock.stopped = false → s.dmaHalted = false →
    s.rd (DMA_ENG.CH_STATUS_STATE c.val) ≠ 4 → (s.dmaOf c.val).fetching = i :: rest → (s.dmaOf c.val).cur.isSome = true →
    Completes (.dmaReadCompletion c true (.data b)) s fun t =>
      (t.dmaOf c.val).ahead = (s.dmaOf c.val).ahead ++ [descrOf i (swapWords 0 (b.map (·.toNat)))] ∧
      (t.dmaOf c.val).cur = (s.dmaOf c.val).cur) ∧
  (∀ (c : Fin 16) (b : List Byte) (i : Nat) (rest : List Nat) (s : State), s.clock.stopped = false → s.dmaLive c.val = true →
    s.rd (DMA_ENG.CH_STATUS_STATE c.val) ≠ 4 → s.ringLocal c.val = false → s.linkUp = true →
    (s.dmaOf c.val).fetching = i :: rest → (s.dmaOf c.val).cur = none → (s.dmaOf c.val).ahead = [] →
    (descrOf i (swapWords 0 (b.map (·.toNat)))).valid c.val = true →
    Completes (.dmaReadCompletion c true (.data b)) s fun t =>
      (t.dmaOf c.val).cur = some (descrOf i (swapWords 0 (b.map (·.toNat)))) ∧ (t.dmaOf c.val).moved = 0 ∧
      t.rd (DMA_ENG.REMAIN_BYTES c.val) = (descrOf i (swapWords 0 (b.map (·.toNat)))).len) ∧
  (∀ (c : Fin 16) (b : List Byte) (i : Nat) (rest : List Nat) (s : State), s.clock.stopped = false → s.dmaLive c.val = true →
    s.rd (DMA_ENG.CH_STATUS_STATE c.val) ≠ 4 → s.ringLocal c.val = false → s.linkUp = true →
    (s.dmaOf c.val).fetching = i :: rest → (s.dmaOf c.val).cur = none → (s.dmaOf c.val).ahead = [] →
    (descrOf i (swapWords 0 (b.map (·.toNat)))).valid c.val = false →
    Completes (.dmaReadCompletion c true (.data b)) s fun t => (t.dmaOf c.val).cur = none ∧
      t.rd (DMA_ENG.CH_STATUS_STATE c.val) = 4 ∧ t.rd (DMA_ENG.CH_STATUS_ERR c.val) = 3 ∧
      t.on (DMA_ENG.CH_STATUS_FAILED c.val) = true ∧ t.on (DMA_ENG.CH_CTRL_RUN c.val) = false ∧ t.dmaHalted = false ∧
      Counted Ev.DMA_ENG.channelHalt s t) ∧
  (∀ (c : Fin 16) (b : List Byte) (d : Descr) (s : State), s.clock.stopped = false → s.dmaHalted = false →
    (s.dmaOf c.val).cur = some d → d.swap = 0 → 0x20000000 ≤ d.dev → b ≠ [] → b.length % 4 = 0 →
    b.length ≤ (s.dmaOf c.val).outstanding → s.dmaHigh c.val = true → s.dmaPerBeat c.val = false →
    Completes (.dmaReadCompletion c false (.data b)) s fun t =>
      (∀ i, i < b.length → Memory.read t.sram (d.dev + (s.dmaOf c.val).moved - 0x20000000 + i) = b[i]?) ∧
      (∀ a, a < d.dev + (s.dmaOf c.val).moved - 0x20000000 ∨
        d.dev + (s.dmaOf c.val).moved - 0x20000000 + b.length ≤ a → Memory.read t.sram a = Memory.read s.sram a) ∧
      (t.dmaOf c.val).moved = (s.dmaOf c.val).moved + b.length ∧
      (t.dmaOf c.val).outstanding = (s.dmaOf c.val).outstanding - b.length ∧ t.bar2 = s.bar2 ∧
      KeepsFieldsBut [DMA_ENG.CH_STATUS_STATE c.val] s t) ∧
  (∀ (c : Fin 16) (b : List Byte) (d : Descr) (s : State), s.clock.stopped = false → s.dmaHalted = false →
    (s.dmaOf c.val).cur = some d → b ≠ [] → b.length % 4 = 0 → b.length ≤ (s.dmaOf c.val).outstanding →
    (s.dmaPerBeat c.val = true ∨ (s.dmaHigh c.val = false ∧ ((s.dmaOf c.val).held ≠ [] ∨ s.dmaAskers true ≠ []))) →
    Completes (.dmaReadCompletion c false (.data b)) s fun t =>
      (t.dmaOf c.val).held = (s.dmaOf c.val).held ++ b.map (·.toNat) ∧ (t.dmaOf c.val).moved = (s.dmaOf c.val).moved ∧
      (t.dmaOf c.val).outstanding = (s.dmaOf c.val).outstanding - b.length ∧ t.bar2 = s.bar2 ∧ t.sram = s.sram ∧
      ((s.dmaOf c.val).held = [] → s.dmaPerBeat c.val = false →
        t.counter 6 (0x908 + 0x10 * c.val) = (s.counter 6 (0x908 + 0x10 * c.val) + 1) % 2 ^ 64) ∧
      KeepsFieldsBut [DMA_ENG.CH_STATUS_STATE c.val] s t) ∧
  (∀ (c : Fin 16) (b : List Byte) (s : State), s.clock.stopped = false → s.dmaHalted = true →
    Completes (.dmaReadCompletion c false (.data b)) s fun t =>
      (t.dmaOf c.val).outstanding =
        (s.dmaOf c.val).outstanding - min (s.dmaOf c.val).outstanding b.length / 4 * 4 ∧ t = { s with dma := t.dma }) ∧
  (∀ (c : Fin 16) (d : Descr) (s : State), s.clock.stopped = false → (s.dmaOf c.val).cur = some d →
    s.dmaComplete c.val = true → s.linkUp = true →
    Completes (.dmaDescriptorDone c) s fun t =>
      t.rd (DMA_ENG.HEAD_HEAD c.val) = (s.dmaHead c.val + 1) % s.ringSize c.val ∧
      t.counter 6 (0x900 + 0x10 * c.val) = (s.counter 6 (0x900 + 0x10 * c.val) + 1) % 2 ^ 64 ∧
      (d.irq = true → Counted (Ev.DMA_ENG.completion c.val) s t) ∧
      (d.wb = true → s.ringLocal c.val = false → Out.host (s.descrAt c.val (s.dmaHead c.val) + 20) (le 4 1) ∈ t.out)) ∧
  (∀ (c : Fin 16) (s : State), ((s.dmaOf c.val).cur = none ∨ s.dmaComplete c.val = false) →
    Completes (.dmaDescriptorDone c) s fun t => t = s)

/-- A completion with an error, or none in time, of a data request or of a descriptor fetch halts the engine with its
cause and the address of the request, the last beat of a descriptor as FINAL_BEAT, and fails the descriptors in
progress with ERR 1; with the engine halted, or without an outstanding request, it changes nothing but what is
outstanding. Rests on spec/13_dma_arbitration_memory.md (R391, R392). -/
def Obligations.DmaRequestsThatFailHaltTheEngine : Prop :=
  (∀ (c : Fin 16) (e : Fin 5) (s : State), s.clock.stopped = false → s.dmaHalted = false → (s.dmaOf c.val).outstanding ≠ 0 →
    Completes (.dmaReadCompletion c false (.error e)) s fun t => t.dmaHalted = true ∧
      t.rd DMA_ENG.ENG_STATUS_HALT_CAUSE = (if e.val = 3 ∨ e.val = 4 then e.val else 1) ∧
      t.rd DMA_ENG.HALT_ADDR_LO_ADDR = (s.dmaOf c.val).request % 2 ^ 32 ∧
      t.on DMA_ENG.ENG_STATUS_FINAL_BEAT =
        (s.on DMA_ENG.ENG_STATUS_FINAL_BEAT || decide (s.rd (DMA_ENG.REMAIN_BYTES c.val) = 0)) ∧
      Counted Ev.DMA_ENG.engineHalt s t ∧ (t.dmaOf c.val).outstanding = 0) ∧
  (∀ (c : Fin 16) (s : State), s.clock.stopped = false → s.dmaHalted = false → (s.dmaOf c.val).outstanding ≠ 0 →
    Completes (.dmaCompletionTimeout c false) s fun t => t.dmaHalted = true ∧
      t.rd DMA_ENG.ENG_STATUS_HALT_CAUSE = 2 ∧ t.rd DMA_ENG.HALT_ADDR_LO_ADDR = (s.dmaOf c.val).request % 2 ^ 32 ∧
      Counted Ev.DMA_ENG.engineHalt s t ∧ (t.dmaOf c.val).outstanding = 0) ∧
  (∀ (c : Fin 16) (d : Fin 16) (s : State), s.clock.stopped = false → s.dmaHalted = false → (s.dmaOf c.val).outstanding ≠ 0 →
    s.rd (DMA_ENG.REMAIN_BYTES c.val) ≠ 0 → ((s.dmaOf d.val).cur.isSome = true ∨ (s.dmaOf d.val).fetching ≠ []) →
    Completes (.dmaCompletionTimeout c false) s fun t => t.on (DMA_ENG.CH_STATUS_FAILED d.val) = true ∧
      t.rd (DMA_ENG.CH_STATUS_ERR d.val) = 1 ∧ t.rd (DMA_ENG.CH_STATUS_STATE d.val) = 4 ∧
      t.on (DMA_ENG.CH_CTRL_RUN d.val) = false ∧ t.rd (DMA_ENG.CH_STATUS_FAILED_IDX d.val) = s.dmaHead d.val) ∧
  (∀ (c : Fin 16) (i : Nat) (rest : List Nat) (s : State), s.clock.stopped = false → s.dmaHalted = false →
    (s.dmaOf c.val).fetching = i :: rest →
    Completes (.dmaCompletionTimeout c true) s fun t => t.dmaHalted = true ∧
      t.rd DMA_ENG.ENG_STATUS_HALT_CAUSE = 2 ∧ t.rd DMA_ENG.HALT_ADDR_LO_ADDR = s.descrAt c.val i % 2 ^ 32 ∧
      Counted Ev.DMA_ENG.engineHalt s t ∧ (t.dmaOf c.val).fetching = rest) ∧
  (∀ (c : Fin 16) (e : Fin 5) (i : Nat) (rest : List Nat) (s : State), s.clock.stopped = false → s.dmaHalted = false →
    (s.dmaOf c.val).fetching = i :: rest →
    Completes (.dmaReadCompletion c true (.error e)) s fun t => t.dmaHalted = true ∧
      t.rd DMA_ENG.ENG_STATUS_HALT_CAUSE = (if e.val = 3 ∨ e.val = 4 then e.val else 1) ∧
      t.rd DMA_ENG.HALT_ADDR_LO_ADDR = s.descrAt c.val i % 2 ^ 32 ∧
      Counted Ev.DMA_ENG.engineHalt s t ∧ (t.dmaOf c.val).fetching = rest) ∧
  (∀ (c : Fin 16) (e : Fin 5) (s : State), s.clock.stopped = false → s.dmaHalted = true →
    Completes (.dmaReadCompletion c false (.error e)) s fun t => (t.dmaOf c.val).outstanding = 0 ∧ t = { s with dma := t.dma }) ∧
  (∀ (c : Fin 16) (e : Fin 5) (s : State), s.clock.stopped = false → (s.dmaOf c.val).outstanding = 0 →
    Completes (.dmaReadCompletion c false (.error e)) s fun t => t = s) ∧
  (∀ (c : Fin 16) (s : State), s.clock.stopped = false → (s.dmaOf c.val).outstanding = 0 →
    Completes (.dmaCompletionTimeout c false) s fun t => t = s) ∧
  (∀ (c : Fin 16) (s : State), s.clock.stopped = false → (s.dmaOf c.val).fetching = [] →
    Completes (.dmaCompletionTimeout c true) s fun t => t = s)

/-- What an RCLK failure that the monitor declares leaves (R316). -/
def RclkFailed (s t : State) : Prop :=
  t.on CK_SYN.SYN_STATUS_RCLK_OK = false ∧ t.clock.failed = true ∧ t.clock.watched = false ∧
  t.on MG_CTL.NMI_CAUSE_RCLK_FAIL = true ∧ Counted Ev.CK_SYN.rclkFailure s t ∧
    ∀ p, t.acqSt p = acqIdle ∧ t.txSt p = txDark ∧ t.on (TX.TX_CTRL_TX_ENABLE p) = false

/-- FOSC qualifies within its limits, is retried once and then FAILED; RCLK qualifies after two good windows and fails
after two bad ones, or at start-up timeout, which keeps the start-up clock; a failure idles both receivers, makes both
transmitters DARK with their enables clear, signals NMI and counts; XREF loss, control clock switches, the return
timer and RETURN_NOW, and the hold refresh act as their rules say (log entries 20 and 69). Rests on
spec/10_clocks_references.md (R313 to R315, R317 to R320); spec/11_time_distribution.md (R356). -/
def Obligations.ClockQualificationAndFailure : Prop :=
  (∀ (n : Nat) (s : State), s.clock.released = true → s.on CK_SYN.SYN_STATUS_MON_ARMED = false → 1024 ≤ n →
    64226 ≤ n → n ≤ 66846 →
    Completes (.foscQualWindow n false) s fun t => t.on CK_SYN.SYN_STATUS_FOSC_QUAL = true ∧
      t.on CK_SYN.SYN_STATUS_XREF_OK = true ∧ t.on CK_SYN.SYN_STATUS_MON_ARMED = true ∧
      t.rd CK_SYN.SYN_STATUS_CTRL_CLK = ctrlFosc ∧
      (s.on CK_SYN.SYN_STATUS_PRE_ARM_FAIL = true → Counted Ev.CK_SYN.rclkFailure s t)) ∧
  (∀ (n : Nat) (s : State), s.clock.released = true → s.on CK_SYN.SYN_STATUS_MON_ARMED = false → 1024 ≤ n →
    (n < 64226 ∨ 66846 < n) → s.rd CK_SYN.FOSC_QUAL_ATTEMPTS = 0 →
    Completes (.foscQualWindow n false) s fun t => t.rd CK_SYN.FOSC_QUAL_ATTEMPTS = 1 ∧
      Counted Ev.CK_SYN.foscFailed s t ∧ t.on CK_SYN.SYN_STATUS_MON_ARMED = false ∧ t.freeCount = s.freeCount + 1 ∧
      KeepsFieldsBut [CK_SYN.FOSC_QUAL_COUNT, CK_SYN.FOSC_QUAL_ATTEMPTS, CK_SYN.SYN_STATUS_XREF_OK, CK_SYN.FOSC_QUAL_TRIM]
        s t) ∧
  (∀ (n : Nat) (s : State), s.clock.released = true → s.on CK_SYN.SYN_STATUS_MON_ARMED = false → 1024 ≤ n →
    (n < 64226 ∨ 66846 < n) → s.rd CK_SYN.FOSC_QUAL_ATTEMPTS ≠ 0 →
    Completes (.foscQualWindow n false) s fun t => t.on CK_SYN.SYN_STATUS_FOSC_FAILED = true ∧
      t.rd CK_SYN.SYN_STATUS_CTRL_CLK = ctrlXref ∧ t.on CK_SYN.SYN_STATUS_MON_ARMED = true ∧
      Counted Ev.CK_SYN.foscFailed s t ∧ Counted Ev.CK_SYN.foscLasting s t) ∧
  (∀ (n : Nat) (gap : Bool) (s : State),
    (s.clock.released = false ∨ s.on CK_SYN.SYN_STATUS_MON_ARMED = true ∨ n < 1024 ∨ gap = true) →
    Completes (.foscQualWindow n gap) s fun t => t = s) ∧
  (∀ s : State, s.clock.released = true → s.clock.startupJudged = false → s.on CK_SYN.SYN_STATUS_RCLK_OK = false →
    s.clock.failed = false → s.on CK_SYN.SYN_STATUS_MON_ARMED = false →
    Completes .rclkStartupTimeout s fun t => t.on CK_SYN.SYN_STATUS_PRE_ARM_FAIL = true ∧ t.clock.startupJudged = true ∧ t.clock.failed = true ∧
      KeepsFieldsBut [CK_SYN.SYN_STATUS_PRE_ARM_FAIL] s t ∧ t.cnt = s.cnt) ∧
  (∀ s : State, s.clock.released = true → s.clock.startupJudged = false → s.on CK_SYN.SYN_STATUS_RCLK_OK = false →
    s.clock.failed = false → s.on CK_SYN.SYN_STATUS_MON_ARMED = true →
    Completes .rclkStartupTimeout s fun t => RclkFailed s t ∧ t.clock.startupJudged = true) ∧
  (∀ s : State, Completes .apllLock s fun t => t.on CK_SYN.SYN_STATUS_APLL_LOCK = true ∧ t.clock.watched = true ∧
    t.clock.goodRun = 0 ∧ t.clock.badRun = 0 ∧ KeepsFieldsBut [CK_SYN.SYN_STATUS_APLL_LOCK] s t ∧
    t = { s with regs := t.regs, clock := t.clock }) ∧
  (∀ s : State, s.on CK_SYN.SYN_STATUS_APLL_LOCK = true → s.foscFailed = false →
    Completes .apllLockLost s fun t => t.on CK_SYN.SYN_STATUS_APLL_LOCK = false ∧ Counted Ev.CK_SYN.apllLost s t ∧
      KeepsFieldsBut [CK_SYN.SYN_STATUS_APLL_LOCK] s t ∧ s.EventFrame t) ∧
  (∀ s : State, s.foscFailed = true → s.clock.watched = true → s.failable = true →
    s.on CK_SYN.SYN_STATUS_MON_ARMED = true →
    Completes .apllLockLost s fun t => RclkFailed s t ∧ t.on CK_SYN.SYN_STATUS_APLL_LOCK = false) ∧
  (∀ (rclk xref : Nat) (bad : Bool) (s : State), s.clock.released = false →
    Completes (.clockMonitorWindow rclk xref bad) s fun t => t = s) ∧
  (∀ (rclk xref : Nat) (s : State), s.clock.released = true → rclkInLimits rclk = true →
    s.on CK_SYN.SYN_STATUS_APLL_LOCK = true → 1 ≤ s.clock.goodRun → s.on CK_SYN.SYN_STATUS_MON_ARMED = true →
    s.on CK_SYN.SYN_STATUS_RCLK_OK = false →
    Completes (.clockMonitorWindow rclk xref false) s fun t => t.on CK_SYN.SYN_STATUS_RCLK_OK = true ∧
      t.clock.watched = true ∧ t.pins.txZero = ⟨false, false⟩ ∧ Counted Ev.CK_SYN.rclkQualified s t ∧
      t.rd CK_SYN.MON_COUNT_RCLK = rclk % 2 ^ CK_SYN.MON_COUNT_RCLK.width) ∧
  (∀ (rclk xref : Nat) (bad : Bool) (s : State), s.clock.released = true →
    (rclkInLimits rclk = false ∨ s.on CK_SYN.SYN_STATUS_APLL_LOCK = false ∨ bad = true) → 1 ≤ s.clock.badRun →
    s.clock.watched = true → s.failable = true → s.on CK_SYN.SYN_STATUS_MON_ARMED = true →
    Completes (.clockMonitorWindow rclk xref bad) s fun t => RclkFailed s t) ∧
  (∀ s : State, s.foscFailed = true → s.on CK_SYN.SYN_STATUS_XREF_OK = true →
    Completes .xrefGap s fun t => t.on CK_SYN.SYN_STATUS_XREF_OK = false ∧ t.rd MON_SEQ.RES_VALID_VALID = 0 ∧
      Counted Ev.CK_SYN.xrefLost s t ∧
      t.clock.stopped = (s.clock.stopped || s.usesClk ctrlXref) ∧
      KeepsFieldsBut [CK_SYN.SYN_STATUS_XREF_OK, MON_SEQ.RES_VALID_VALID] s t) ∧
  (∀ s : State, (s.foscFailed = false ∨ s.on CK_SYN.SYN_STATUS_XREF_OK = false) → Completes .xrefGap s fun t => t = s) ∧
  (∀ (c : Nat) (s : State), s.clock.switchTo = some c →
    Completes .controlClockSwitchDone s fun t => t.rd CK_SYN.SYN_STATUS_CTRL_CLK = c % 2 ^ CK_SYN.SYN_STATUS_CTRL_CLK.width ∧
      Counted Ev.CK_SYN.switched s t ∧ t.clock.switchTo = s.clock.switchNext ∧ t.clock.switchNext = none ∧
      (c = ctrlMclk → s.on CK_SYN.SYN_STATUS_RCLK_OK = true → t.clock.failed = false)) ∧
  (∀ s : State, s.clock.switchTo = none → Completes .controlClockSwitchDone s fun t => t = s) ∧
  (∀ s : State, s.mayReturn = true → s.clock.switchTo = none → s.clock.switchNext = none →
    s.rd CK_SYN.MON_CFG_RESTORE_MS ≠ 0 → s.rd CK_SYN.MON_CFG_RESTORE_MS ≤ s.clock.qualifiedMs + 1 →
    Completes .restoreTimer s fun t => t = s.onClock fun k => { k with switchTo := some ctrlMclk }) ∧
  (∀ s : State, (s.mayReturn = false ∨ s.rd CK_SYN.MON_CFG_RESTORE_MS = 0 ∨
      s.clock.qualifiedMs + 1 < s.rd CK_SYN.MON_CFG_RESTORE_MS) →
    Completes .restoreTimer s fun t => t = s) ∧
  (∀ (r : Requester) (s : State), s.Takes r 7 0x048 → s.mayReturn = true → s.clock.switchTo = none →
    s.clock.switchNext = none →
    Completes (.returnNow r) s fun t => t = s.onClock fun k => { k with switchTo := some ctrlMclk }) ∧
  (∀ (r : Requester) (s : State), s.Takes r 7 0x048 → s.mayReturn = false → Completes (.returnNow r) s fun t => t = s) ∧
  (∀ s : State, s.clock.stopped = true →
    Completes .holdRefreshTimeout s fun t => t.pins.txZero = ⟨true, true⟩ ∧ t.pins.bypassHold = ⟨false, false⟩ ∧
      t.rd HB_RING.RING_STATUS_BYPASS_HOLD = 0 ∧ KeepsFieldsBut [HB_RING.RING_STATUS_BYPASS_HOLD] s t ∧
      t = { s with regs := t.regs, pins := t.pins }) ∧
  (∀ s : State, s.rclkStopped = false → s.clock.stopped = false → Completes .holdRefreshTimeout s fun t => t = s)

/-- A gate request is dropped while one is busy, answered 3 for no domain and 2 for a domain in use, and is otherwise
taken; its completion closes or opens exactly that domain (one opened while RCLK is stopped answers no access until
RCLK returns), forced with an error response where an access is in progress; a probe setting is taken at or above its
minimum division and refused below it. Rests on spec/10_clocks_references.md (R321 to R324). -/
def Obligations.ClockGatesAndProbe : Prop :=
  (∀ (r : Requester) (d : Fin 32) (s : State), s.Takes r 7 0x050 → s.on CK_SYN.GATE_STATUS_BUSY = true →
    ∀ x ∈ [Instr.gateClose r d, Instr.gateOpen r d], Completes x s fun t => Counted Ev.CK_SYN.gateDropped s t ∧
      t.clock = s.clock ∧ KeepsFieldsBut [] s t ∧ s.EventFrame t) ∧
  (∀ (r : Requester) (d : Fin 32) (s : State), s.Takes r 7 0x050 → s.on CK_SYN.GATE_STATUS_BUSY = false → 28 ≤ d.val →
    ∀ x ∈ [Instr.gateClose r d, Instr.gateOpen r d], Completes x s fun t => t.rd CK_SYN.GATE_STATUS_RESULT = 3 ∧
      KeepsFieldsBut [CK_SYN.GATE_STATUS_RESULT] s t ∧ t = { s with regs := t.regs }) ∧
  (∀ (r : Requester) (d : Fin 32) (s : State), s.Takes r 7 0x050 → s.on CK_SYN.GATE_STATUS_BUSY = false → d.val < 28 →
    s.gateInUse d.val = true →
    Completes (.gateClose r d) s fun t => t.rd CK_SYN.GATE_STATUS_RESULT = 2 ∧ Counted Ev.CK_SYN.gateRefused s t ∧
      t.clock = s.clock ∧ KeepsFieldsBut [CK_SYN.GATE_STATUS_RESULT] s t ∧ s.EventFrame t) ∧
  (∀ (r : Requester) (d : Fin 32) (s : State), s.Takes r 7 0x050 → s.on CK_SYN.GATE_STATUS_BUSY = false → d.val < 28 →
    s.gateInUse d.val = false →
    Completes (.gateClose r d) s fun t => t.on CK_SYN.GATE_STATUS_BUSY = true ∧ t.clock = { s.clock with gate := some ⟨d.val, true⟩ } ∧
      KeepsFieldsBut [CK_SYN.GATE_STATUS_BUSY] s t ∧ t = { s with regs := t.regs, clock := t.clock }) ∧
  (∀ (r : Requester) (d : Fin 32) (s : State), s.Takes r 7 0x050 → s.on CK_SYN.GATE_STATUS_BUSY = false → d.val < 28 →
    Completes (.gateOpen r d) s fun t => t.on CK_SYN.GATE_STATUS_BUSY = true ∧ t.clock = { s.clock with gate := some ⟨d.val, false⟩ } ∧
      KeepsFieldsBut [CK_SYN.GATE_STATUS_BUSY] s t ∧ t = { s with regs := t.regs, clock := t.clock }) ∧
  (∀ (d : Nat) (a : BusAccess) (s : State), s.clock.gate = some ⟨d, true⟩ → d < 28 →
    Completes (.gateCloseComplete true a) s fun t => bitOf (t.rd CK_SYN.GATE_STATE_CLOSED) d = true ∧
      t.on CK_SYN.GATE_STATUS_BUSY = false ∧ t.rd CK_SYN.GATE_STATUS_RESULT = 0 ∧ t.clock.gate = none ∧ t.cnt = s.cnt ∧
      KeepsFieldsBut [CK_SYN.GATE_STATE_CLOSED, CK_SYN.GATE_STATUS_BUSY, CK_SYN.GATE_STATUS_RESULT,
        PWR_MGR.ANALOG_READY_READY] s t) ∧
  (∀ (d : Nat) (a : BusAccess) (s : State), s.clock.gate = some ⟨d, true⟩ → d < 28 →
    Completes (.gateCloseComplete false a) s fun t => bitOf (t.rd CK_SYN.GATE_STATE_CLOSED) d = true ∧
      t.on CK_SYN.GATE_STATUS_BUSY = false ∧ t.rd CK_SYN.GATE_STATUS_RESULT = 1 ∧
      t.rd CK_SYN.GATE_STATUS_LAST_FORCED = d ∧ t.rd MG_ID.ERR_LOG_CAUSE = 1 ∧ t.clock.gate = none ∧
      Counted Ev.CK_SYN.gateForced s t ∧ Counted Ev.MG_ID.errorResponse s t ∧
      t.out = (if a.write then s.out else .read a.master 0 true :: s.out)) ∧
  (∀ (d : Nat) (s : State), s.clock.gate = some ⟨d, false⟩ → d < 28 →
    Completes .gateOpenComplete s fun t => bitOf (t.rd CK_SYN.GATE_STATE_CLOSED) d = false ∧
      t.on CK_SYN.GATE_STATUS_BUSY = false ∧ t.rd CK_SYN.GATE_STATUS_RESULT = 0 ∧ t.clock.gate = none ∧
      bitOf t.clock.restarting d = s.rclkStopped ∧
      (∀ e, e ≠ d → e < 28 → bitOf (t.rd CK_SYN.GATE_STATE_CLOSED) e = bitOf (s.rd CK_SYN.GATE_STATE_CLOSED) e) ∧
      KeepsFieldsBut [CK_SYN.GATE_STATE_CLOSED, CK_SYN.GATE_STATUS_BUSY, CK_SYN.GATE_STATUS_RESULT] s t) ∧
  (∀ (a : BusAccess) (i : Bool) (s : State), s.clock.gate = none →
    ∀ x ∈ [Instr.gateCloseComplete i a, Instr.gateOpenComplete], Completes x s fun t => t = s) ∧
  (∀ (r : Requester) (v : Word) (m : Nat) (s : State), s.Takes r 7 0x05C → s.probeMin (bits v.toNat 0 4) = some m →
    m ≤ probeDiv (bits v.toNat 4 4) →
    Completes (.probeCfgWrite r v) s fun t => t.rd CK_SYN.PROBE_CFG_SRC = bits v.toNat 0 4 ∧
      t.rd CK_SYN.PROBE_CFG_DIV = bits v.toNat 4 4 ∧ t.on CK_SYN.PROBE_CFG_EN = bitOf v.toNat 8 ∧
      t.on CK_SYN.PROBE_CFG_REFUSED = false ∧
      KeepsFieldsBut [CK_SYN.PROBE_CFG_SRC, CK_SYN.PROBE_CFG_DIV, CK_SYN.PROBE_CFG_EN, CK_SYN.PROBE_CFG_REFUSED] s t) ∧
  (∀ (r : Requester) (v : Word) (s : State), s.Takes r 7 0x05C →
    (∀ m, s.probeMin (bits v.toNat 0 4) = some m → probeDiv (bits v.toNat 4 4) < m) →
    Completes (.probeCfgWrite r v) s fun t => t.on CK_SYN.PROBE_CFG_REFUSED = true ∧ Counted Ev.CK_SYN.probeRefused s t ∧
      KeepsFieldsBut [CK_SYN.PROBE_CFG_REFUSED] s t ∧ s.EventFrame t)

/-- A reference enters MEASURE on presence and FAILED on its loss, is judged after 64 samples, waits to restore and
becomes QUALIFIED; FORCE selects a candidate or is refused and counted; DPLL0 locks, loses lock, and leaves MEASURE
for SWITCHING or, with slope 0, for LOCKING at once; out of those states the commands change nothing. Rests on
spec/10_clocks_references.md (R326 to R328, R331 to R333). -/
def Obligations.ReferencesAndTheDpll : Prop :=
  (∀ (i : Fin 12) (e : Bool) (s : State), (i.val < 4 ∧ e = true ∨ 4 ≤ i.val ∧ s.refPresent i.val = true) →
    s.refSt i.val = refFailed →
    Completes (.referencePresenceChange i e) s fun t => t.refSt i.val = refMeasure ∧ (t.refOf i.val).samples = [] ∧
      (∀ j, j < 12 → j ≠ i.val → t.refSt j = s.refSt j)) ∧
  (∀ (i : Fin 12) (e : Bool) (s : State), (i.val < 4 ∧ e = false ∨ 4 ≤ i.val ∧ s.refPresent i.val = false) →
    s.refSt i.val ≠ refFailed →
    Completes (.referencePresenceChange i e) s fun t => t.refSt i.val = refFailed ∧ (t.refOf i.val).wtrMs = 0 ∧
      (∀ j, j < 12 → j ≠ i.val → t.refSt j = s.refSt j)) ∧
  (∀ (i : Fin 12) (s : State), s.refSt i.val = refMeasure → (s.refOf i.val).samples.length = 64 →
    Completes (.refMeasureComplete i) s fun t => t.refSt i.val =
      (if s.refInWindow i.val = false then refOut
        else if s.on (CK_REF.REF_STATUS_EVER_QUAL i.val) = false ∨ s.refWtr i.val = 0 then refQualified else refWtrSt)) ∧
  (∀ (i : Fin 12) (s : State), (s.refSt i.val ≠ refMeasure ∨ (s.refOf i.val).samples.length ≠ 64) →
    Completes (.refMeasureComplete i) s fun t => t = s) ∧
  (∀ (i : Fin 12) (s : State), s.refSt i.val = refWtrSt →
    Completes (.refWtrExpiry i) s fun t => t.refSt i.val = refQualified ∧ t.on (CK_REF.REF_STATUS_EVER_QUAL i.val) = true ∧
      t.rd (CK_REF.REF_STATUS_WTR_LEFT i.val) = 0) ∧
  (∀ (i : Fin 12) (s : State), s.refSt i.val ≠ refWtrSt → Completes (.refWtrExpiry i) s fun t => t = s) ∧
  (∀ (r : Requester) (i : Fin 16) (s : State), s.Takes r 8 0x100 → i.val < 12 → s.refCand i.val = true →
    Completes (.forceEnSet r i) s fun t => t.on CK_REF.SEL_CFG_FORCE_EN = true ∧ t.rd CK_REF.SEL_CFG_FORCE_IDX = i.val ∧
      t.on CK_REF.SEL_STATUS_FORCE_REFUSED = false ∧ t.rd CK_REF.SEL_STATUS_SELECTED = i.val) ∧
  (∀ (r : Requester) (i : Fin 16) (s : State), s.Takes r 8 0x100 → (12 ≤ i.val ∨ s.refCand i.val = false) →
    Completes (.forceEnSet r i) s fun t => t.on CK_REF.SEL_CFG_FORCE_EN = true ∧ t.rd CK_REF.SEL_CFG_FORCE_IDX = i.val ∧
      t.on CK_REF.SEL_STATUS_FORCE_REFUSED = true ∧ Counted Ev.CK_REF.forceRefused s t) ∧
  (∀ s : State, s.dpSt = dpLocking → s.lockDue = true →
    Completes .dpllLockAchieved s fun t => t.dpSt = dpLocked ∧ t.on (CK_DPLL.DPLL_STATUS_EVER_LOCKED 0) = true ∧
      Counted (Ev.CK_DPLL.locked 0) s t ∧ s.EventFrame t ∧
      KeepsFieldsBut [CK_DPLL.DPLL_STATUS_STATE 0, CK_DPLL.DPLL_STATUS_EVER_LOCKED 0] s t) ∧
  (∀ (phase : Int) (s : State), s.dpSt = dpLocked → 2 * s.lockWindow 0 < phase.natAbs →
    Completes (.dpllLockLoss phase) s fun t => t.dpSt = dpLocking ∧ Counted (Ev.CK_DPLL.lockLost 0) s t ∧
      t.dpll = s.dpll ∧ KeepsFieldsBut [CK_DPLL.DPLL_STATUS_STATE 0, CK_DPLL.PHASE_ERR_ERR 0] s t) ∧
  (∀ (d : Int) (s : State), s.dpSt = dpMeasure → s.slope ≠ 0 →
    Completes (.dpllMeasureDone d) s fun t => t.dpSt = dpSwitching ∧ t.dpll.residual = 100 * d ∧ t.cnt = s.cnt ∧
      KeepsFieldsBut [CK_DPLL.DPLL_STATUS_STATE 0, CK_DPLL.PULL_LEFT_RESIDUAL 0] s t) ∧
  (∀ (d : Int) (s : State), s.dpSt = dpMeasure → s.slope = 0 →
    Completes (.dpllMeasureDone d) s fun t => t.dpSt = dpLocking ∧ t.dpll.residual = 100 * d ∧ Counted (Ev.CK_DPLL.switchCompleted 0) s t ∧
      KeepsFieldsBut [CK_DPLL.DPLL_STATUS_STATE 0, CK_DPLL.PULL_LEFT_RESIDUAL 0] s t) ∧
  (∀ s : State, s.dpSt = dpSwitching → s.dpll.residual = 0 →
    Completes .dpllSwitchComplete s fun t => t.dpSt = dpLocking ∧ Counted (Ev.CK_DPLL.switchCompleted 0) s t ∧
      KeepsFieldsBut [CK_DPLL.DPLL_STATUS_STATE 0] s t ∧ s.EventFrame t) ∧
  (∀ s : State, (s.dpSt ≠ dpLocking ∨ s.lockDue = false) → Completes .dpllLockAchieved s fun t => t = s) ∧
  (∀ (phase : Int) (s : State), (s.dpSt ≠ dpLocked ∨ phase.natAbs ≤ 2 * s.lockWindow 0) →
    Completes (.dpllLockLoss phase) s fun t => t = s) ∧
  (∀ (d : Int) (s : State), s.dpSt ≠ dpMeasure → Completes (.dpllMeasureDone d) s fun t => t = s) ∧
  (∀ s : State, (s.dpSt ≠ dpSwitching ∨ s.dpll.residual ≠ 0) → Completes .dpllSwitchComplete s fun t => t = s)

/-- An announce timeout of the steering servo puts the time base into holdover once, stops its slew and clears its locks,
one of the shadow clears SHADOW_LOCK, and one without a servo or a core does nothing; unlock timers, steps and time
latches change exactly the time base and the status that their rules give, a grandmaster switch waits for the next
servo update, and they are refused and counted where TIME_LOCK or SHADOW_LOCK forbids them. Rests on
spec/11_time_distribution.md (R340, R342, R345, R358); spec/12_control_complex.md (R361). -/
def Obligations.TimeBasesStepSwitchAndUnlock : Prop :=
  (∀ (x : Fin 4) (sh : Bool) (s : State), s.Clocked → s.coreUp = true → s.servoOn x.val sh = true → s.steers x.val sh = true →
    s.on (TS_TB.TB_STATUS_HOLDOVER x.val) = false →
    Completes (.announceTimeout x sh) s fun t => t.on (TS_TB.TB_STATUS_HOLDOVER x.val) = true ∧
      t.on (TS_TB.TB_STATUS_TIME_LOCK x.val) = false ∧ t.on (TS_TB.TB_STATUS_FREQ_LOCK x.val) = false ∧
      (t.servoOf x.val sh).heard = false ∧ (t.tbOf x.val).slewRate = 0 ∧ Counted (Ev.TS_TB.holdover x.val) s t ∧
      ((s.tbOf x.val).slewRate = 0 → t.rd (TS_TB.TB_RATE_ADJ x.val) = s.rd (TS_TB.TB_RATE_ADJ x.val)) ∧
      KeepsFieldsButRefs [TS_TB.TB_STATUS_HOLDOVER x.val, TS_TB.TB_STATUS_TIME_LOCK x.val, TS_TB.TB_STATUS_FREQ_LOCK x.val,
        TS_TB.TB_RATE_ADJ x.val] s t) ∧
  (∀ (x : Fin 4) (sh : Bool) (s : State), s.Clocked → s.coreUp = true → s.servoOn x.val sh = true → s.steers x.val sh = true →
    s.on (TS_TB.TB_STATUS_HOLDOVER x.val) = true →
    Completes (.announceTimeout x sh) s fun t => (t.servoOf x.val sh).heard = false ∧ t.cnt = s.cnt ∧ KeepsFieldsBut [] s t) ∧
  (∀ (x : Fin 4) (sh : Bool) (s : State), s.Clocked → (s.coreUp = false ∨ s.servoOn x.val sh = false) →
    Completes (.announceTimeout x sh) s fun t => t = s) ∧
  (∀ (x : Fin 4) (sh : Bool) (s : State), s.Clocked → s.coreUp = true → s.servoOn x.val sh = true → s.steers x.val sh = false →
    Completes (.announceTimeout x sh) s fun t => t.on (TS_TB.TB_STATUS_SHADOW_LOCK x.val) = false ∧
      (t.servoOf x.val sh).heard = false ∧ KeepsFieldsBut [TS_TB.TB_STATUS_SHADOW_LOCK x.val] s t) ∧
  (∀ (x : Fin 4) (s : State), s.Clocked → 1999 ≤ (s.tbOf x.val).idleMs →
    Completes (.servoUpdateTimeout x) s fun t => t.on (TS_TB.TB_STATUS_TIME_LOCK x.val) = false ∧
      t.on (TS_TB.TB_STATUS_FREQ_LOCK x.val) = false ∧
      (s.on (TS_TB.TB_STATUS_TIME_LOCK x.val) = true → Counted (Ev.TS_TB.timeLockCleared x.val) s t) ∧
      (∀ y, y ≠ x.val → t.tbOf y = s.tbOf y) ∧
      KeepsFieldsButRefs [TS_TB.TB_STATUS_TIME_LOCK x.val, TS_TB.TB_STATUS_FREQ_LOCK x.val] s t) ∧
  (∀ (x : Fin 4) (s : State), s.Clocked → (s.tbOf x.val).idleMs < 1999 →
    Completes (.servoUpdateTimeout x) s fun t => t = s) ∧
  (∀ (r : Requester) (x : Fin 4) (s : State), s.Takes r (11 + x.val) 0x040 → s.on (TS_TB.TB_STATUS_SHADOW_LOCK x.val) = true →
    Completes (.grandmasterSwitch r x) s fun t => t = s.onTb x.val fun b => { b with switching := true }) ∧
  (∀ (r : Requester) (x : Fin 4) (s : State), s.Takes r (11 + x.val) 0x040 → s.on (TS_TB.TB_STATUS_SHADOW_LOCK x.val) = false →
    Completes (.grandmasterSwitch r x) s fun t => Counted (Ev.TS_TB.switchRefused x.val) s t ∧ s.EventFrame t ∧
      KeepsFieldsBut [] s t) ∧
  (∀ (r : Requester) (x : Fin 4) (s : State), s.Takes r (11 + x.val) 0x040 → s.on (TS_TB.TB_STATUS_TIME_LOCK x.val) = false →
    Completes (.stepTime r x) s fun t => t.on (TS_TB.TB_STATUS_VALID x.val) = true ∧
      (let b := (s.tbSettle x.val).tbOf x.val
       t.tbOf x.val = { b.setTotal ((b.total : Int) + (s.rdI (TS_TB.STEP_S_S x.val) * (secU : Int) +
         s.rdI (TS_TB.STEP_NS_NS x.val) * (nsU : Int))) with stepAt := s.tclk }) ∧
      (∀ y, y ≠ x.val → t.tbOf y = s.tbOf y) ∧ Counted (Ev.TS_TB.stepApplied x.val) s t ∧
      KeepsFieldsBut [TS_TB.TB_STATUS_VALID x.val] s t) ∧
  (∀ (r : Requester) (x : Fin 4) (s : State), s.Takes r (11 + x.val) 0x040 → s.on (TS_TB.TB_STATUS_TIME_LOCK x.val) = true →
    Completes (.stepTime r x) s fun t => Counted (Ev.TS_TB.stepRefused x.val) s t ∧ s.EventFrame t ∧ KeepsFieldsBut [] s t) ∧
  (∀ (r : Requester) (n : Nat) (s : State), s.Takes r 15 0x054 →
    Completes (.latchTime r n) s fun t => (∀ x, x < 4 →
        t.getLatch r (timeLatch x 0) = (s.tbAt x n).sub % nsU ∧ t.getLatch r (timeLatch x 1) = (s.tbAt x n).sec % 2 ^ 32 ∧
        t.getLatch r (timeLatch x 2) = (s.tbAt x n).sec / 2 ^ 32 ∧
        t.getLatch r (timeLatch x 3) = 2 ^ 32 + (s.tbAt x n).sub / nsU) ∧
      t = { s with latch := t.latch, tclk := max s.tclk n })

/-- Crossings that are closed do nothing; a Sync to a locked slave gives the measured offset and makes a switch that
waits, one of a master not heard changes nothing, a Delay_Req to a master port gets its Delay_Resp, an Announce its
grandmaster, management and signalling messages nothing; Sync, Delay_Req and Announce are sent by the ports of their
role; PPS_OUT falls where a running VALID base passes a whole second by no step, and not elsewhere; PPS_IN is stamped
in its time base; time-of-day messages are sent when due, and accepted or discarded by their time, length, start and
check. Message formats rest on log entry 44. Rests on spec/11_time_distribution.md (R341, R346, R352 to R355). -/
def Obligations.PtpMessagesPulsesAndTimeOfDay : Prop :=
  (∀ (c : Crossing) (m : PtpMsg) (s : State), s.Clocked → s.crossingOpen c = false →
    Completes (.ptpMessageReceived c m) s fun t => t = s) ∧
  (∀ (k : Fin 24) (st : Stamp) (m : PtpMsg) (x : Nat) (s : State), s.Clocked → s.coreUp = true →
    s.crossingOpen (.host k st) = true → s.listeners k.val m.domain.toNat = [(x, false)] → x < 4 → m.kind = .sync →
    m.twoStep = false → (s.servoOf x false).slave = true → (s.servoOf x false).heard = true → s.steers x false = true →
    s.on (TS_TB.TB_STATUS_TIME_LOCK x) = true →
    Completes (.ptpMessageReceived (.host k st) m) s fun t =>
      let t2 := (s.toInstant st.tclk).tbStamp x st + picoU (hostCorrection (s.rd (HL_CLIENT.CLIENT_CFG_RATE k.val))).1
      (t.servoOf x false).offset = t2 - m.time * 65536 - (s.servoOf x false).delay ∧
      t.rd (TS_TB.TB_OFFSET_OFS x) = unsigned 32 (toCenti (t2 - m.time * 65536 - (s.servoOf x false).delay)) % 2 ^ 32 ∧
      t.on (TS_TB.TB_STATUS_HOLDOVER x) = false ∧ Counted Ev.TS_STAMP.hostStamped s t ∧
      ((s.tbOf x).switching = true → t.on (TS_TB.TB_STATUS_ACTIVE_GM x) = true ∧ t.on (TS_TB.TB_STATUS_SHADOW_LOCK x) = true ∧
        t.rd (TS_TB.TB_RATE_ADJ x) = unsigned 32 (s.servoOf x true).est % 2 ^ 32 ∧
        (t.tbOf x).slew = (s.servoOf x true).offset * 10000 / (nsU : Int) ∧ (t.tbOf x).switching = false ∧
        Counted (Ev.TS_TB.gmSwitch x) s t)) ∧
  (∀ (k : Fin 24) (st : Stamp) (m : PtpMsg) (x : Nat) (s : State), s.Clocked → s.coreUp = true →
    s.crossingOpen (.host k st) = true → s.listeners k.val m.domain.toNat = [(x, false)] → m.kind = .sync →
    (s.servoOf x false).heard = false →
    Completes (.ptpMessageReceived (.host k st) m) s fun t => t.tb = s.tb ∧ Counted Ev.TS_STAMP.hostStamped s t ∧
      KeepsFieldsBut [] s t) ∧
  (∀ (k : Fin 24) (st : Stamp) (m : PtpMsg) (x : Nat) (sh : Bool) (s : State), s.Clocked → s.coreUp = true →
    s.crossingOpen (.host k st) = true → s.answerers k.val m.domain.toNat = [(x, sh)] → m.kind = .delayReq →
    Completes (.ptpMessageReceived (.host k st) m) s fun t =>
      let u := (s.toInstant st.tclk).tbStamp x st + picoU (hostCorrection (s.rd (HL_CLIENT.CLIENT_CFG_RATE k.val))).1
      t.out = .ptp x .delayResp k.val (s.servoOf x sh).dest (s.tbDomain x) (u / 65536)
        [m.source.toNat, m.seq.toNat, (m.corr.toNat + 2 ^ 64 - subNs u) % 2 ^ 64] :: s.out ∧ KeepsFieldsBut [] s t) ∧
  (∀ (k : Fin 24) (st : Stamp) (m : PtpMsg) (x : Nat) (s : State), s.Clocked → s.coreUp = true →
    s.crossingOpen (.host k st) = true → s.listeners k.val m.domain.toNat = [(x, false)] → m.kind = .announce →
    Completes (.ptpMessageReceived (.host k st) m) s fun t => (t.servoOf x false).heard = true ∧
      (t.servoOf x false).gmId = m.gmId.toNat ∧ (t.servoOf x false).gmQual = m.gmQual.toNat ∧
      (t.servoOf x false).steps = m.steps.toNat + 1 ∧ t = { s with tb := t.tb, tclk := max s.tclk st.tclk }) ∧
  (∀ (c : Crossing) (m : PtpMsg) (s : State), s.Clocked → s.coreUp = true → (m.kind = .management ∨ m.kind = .signalling) →
    s.crossingOpen c = true →
    Completes (.ptpMessageReceived c m) s fun t => t = s.toInstant (crossingAt c).tclk) ∧
  (∀ (x : Fin 4) (sh : Bool) (k : Fin 24) (st : Stamp) (s : State), s.Clocked → s.coreUp = true →
    s.masterPort x.val sh k.val = true → s.crossingOpen (.host k st) = true → (s.servoOf x.val sh).twoStep = false →
    Completes (.ptpSyncSend x sh (.host k st)) s fun t =>
      t.out = .ptp x.val .sync k.val (s.servoOf x.val sh).dest (s.tbDomain x.val)
        (((s.toInstant st.tclk).tbStamp x.val st + picoU (hostCorrection (s.rd (HL_CLIENT.CLIENT_CFG_RATE k.val))).2) / 65536)
        [] :: s.out ∧ Counted Ev.TS_STAMP.hostStamped s t ∧ KeepsFieldsBut [] s t) ∧
  (∀ (x : Fin 4) (sh : Bool) (k : Fin 24) (st : Stamp) (s : State), s.Clocked → s.coreUp = true → s.servoOn x.val sh = true →
    s.crossingOpen (.host k st) = true → (s.servoOf x.val sh).slave = true → k.val = s.servoPort x.val sh →
    Completes (.delayReqSend x sh (.host k st)) s fun t =>
      t.out = .ptp x.val .delayReq k.val (s.servoOf x.val sh).dest (s.tbDomain x.val) 0 [] :: s.out ∧
      (t.servoOf x.val sh).req = some ((s.toInstant st.tclk).tbStamp x.val st +
        picoU (hostCorrection (s.rd (HL_CLIENT.CLIENT_CFG_RATE k.val))).2) ∧ KeepsFieldsBut [] s t) ∧
  (∀ (x : Fin 4) (sh : Bool) (port : Fin 26) (s : State), s.Clocked → s.coreUp = true → s.masterPort x.val sh port.val = true →
    s.ptpOpen port.val = true →
    Completes (.announceSend x sh port) s fun t => KeepsFieldsBut [] s t ∧
      t.out = .ptp x.val .announce port.val (if port.val < 24 then (s.servoOf x.val sh).dest else 0) (s.tbDomain x.val) 0
        (s.announceContent x.val sh) :: s.out ∧
      (port.val < 24 → t = { s with out := t.out })) ∧
  (∀ (x : Fin 4) (sh : Bool) (port : Fin 26) (s : State), s.Clocked → s.coreUp = true →
    (s.masterPort x.val sh port.val = false ∨ s.ptpOpen port.val = false) →
    Completes (.announceSend x sh port) s fun t => t = s) ∧
  (∀ (n : Nat) (s : State), s.Clocked →
    let x := s.rd TS_STAMP.PPS_CFG_TB_SEL
    let u := s.tbRead x n + centiU (s.rdI TS_STAMP.PPS_CFG_PPS_OUT_COMP)
    s.on TS_STAMP.PPS_CFG_OUT_EN = true → s.on (TS_TB.TB_STATUS_VALID x) = true → (s.tbOf x).stopped = false →
    ((s.tbOf x).stepAt = 0 ∨ (s.tbOf x).stepAt < n) → crossedSecond (s.tbAdj x) u = true →
    Completes (.ppsOutEdge n) s fun t =>
      t.out = .pps (wholeSec u) (atLeast1 (s.rd TS_STAMP.PPS_CFG_WIDTH)) :: s.out ∧
      t.todDue = some (nearestSec (s.tbRead (s.rd TS_STAMP.TOD_CFG_OUT_TB) n)) ∧
      t = { s with out := t.out, todDue := t.todDue, tclk := max s.tclk n }) ∧
  (∀ (n : Nat) (s : State), s.Clocked →
    let x := s.rd TS_STAMP.PPS_CFG_TB_SEL
    (s.on TS_STAMP.PPS_CFG_OUT_EN = false ∨ s.on (TS_TB.TB_STATUS_VALID x) = false ∨ (s.tbOf x).stopped = true ∨
      ((s.tbOf x).stepAt ≠ 0 ∧ n ≤ (s.tbOf x).stepAt) ∨ crossedSecond (s.tbAdj x) (s.tbRead x n + centiU (s.rdI TS_STAMP.PPS_CFG_PPS_OUT_COMP)) = false) →
    Completes (.ppsOutEdge n) s fun t => t = s.toInstant n) ∧
  (∀ (n : Nat) (part : Fin 64) (falling : Bool) (s : State), s.Clocked → s.on TS_STAMP.PPS_IN_CFG_EN = true →
    s.on TS_STAMP.PPS_IN_CFG_EDGE = falling →
    Completes (.ppsInEdge n part falling) s fun t =>
      let u := s.tbRead (s.rd TS_STAMP.PPS_IN_CFG_TB_SEL) n + (part.val * nsU / 34 : Nat) +
        centiU (s.rdI TS_STAMP.PPS_IN_CFG_PPS_IN_COMP)
      let v := (u % ((2 ^ 48 * secU : Nat) : Int)).toNat
      t.rd TS_STAMP.PPS_IN_NS_NS = v % secU / nsU % 2 ^ TS_STAMP.PPS_IN_NS_NS.width ∧
      t.rd TS_STAMP.PPS_IN_S_S = v / secU % 2 ^ TS_STAMP.PPS_IN_S_S.width ∧ Counted Ev.TS_STAMP.ppsIn s t ∧
      t.ppsInAt = some n ∧ KeepsFieldsBut [TS_STAMP.PPS_IN_NS_NS, TS_STAMP.PPS_IN_S_S] s t) ∧
  (∀ (n : Nat) (part : Fin 64) (falling : Bool) (s : State), s.Clocked →
    (s.on TS_STAMP.PPS_IN_CFG_EN = false ∨ s.on TS_STAMP.PPS_IN_CFG_EDGE ≠ falling) →
    Completes (.ppsInEdge n part falling) s fun t => t = s.toInstant n) ∧
  (∀ (sec : Nat) (s : State), s.Clocked → s.todDue = some sec → s.on TS_STAMP.TOD_CFG_OUT_EN = true →
    Completes .todOutSend s fun t => t.todDue = none ∧ Counted Ev.TS_STAMP.todSent s t ∧ KeepsFieldsBut [] s t ∧
      ∃ body, t.out = .tod body :: s.out ∧ body.take 8 = [0xA5, 0x5A] ++ bytesOf 6 sec ∧
        body.drop 12 = bytesOf 2 (crc16 (byteBits (body.take 12)))) ∧
  (∀ s : State, s.Clocked → s.todDue = none → Completes .todOutSend s fun t => t = s) ∧
  (∀ (bytes : List Byte) (n : Nat) (s : State), s.Clocked → s.on TS_STAMP.TOD_CFG_IN_EN = false →
    Completes (.todInReceived bytes n) s fun t => t = s.toInstant n) ∧
  (∀ (bytes : List Byte) (n : Nat) (s : State), s.Clocked → s.on TS_STAMP.TOD_CFG_IN_EN = true →
    (s.todLate n = true ∨ bytes.length ≠ 14 ∨ (bytes.map (·.toNat)).take 2 ≠ [0xA5, 0x5A] ∨
      ofBytes ((bytes.map (·.toNat)).drop 12) ≠ crc16 (byteBits ((bytes.map (·.toNat)).take 12))) →
    Completes (.todInReceived bytes n) s fun t => Counted Ev.TS_STAMP.todDiscarded s t ∧ (s.toInstant n).EventFrame t ∧
      KeepsFieldsBut [] s t) ∧
  (∀ (bytes : List Byte) (n : Nat) (s : State), s.Clocked → s.on TS_STAMP.TOD_CFG_IN_EN = true → s.todLate n = false →
    bytes.length = 14 → (bytes.map (·.toNat)).take 2 = [0xA5, 0x5A] →
    ofBytes ((bytes.map (·.toNat)).drop 12) = crc16 (byteBits ((bytes.map (·.toNat)).take 12)) →
    Completes (.todInReceived bytes n) s fun t => Counted Ev.TS_STAMP.todAccepted s t ∧
      ∀ x, x < 4 → (t.tbOf x).edge = none ∧
        ((s.tbOf x).edge ≠ none → (t.tbOf x).utc = ofBytes (((bytes.map (·.toNat)).drop 8).take 2)))

/-- A conversion's results are taken: the sequencer runs, or `RUN` has been cleared in the slot that holds all of the entry (R417). -/
abbrev Sys2Proof.Machine.State.Converts (s : State) (e : Nat) (x : ConvCodes) : Prop :=
  s.monRuns = true ∨ s.mon.lastSlot = true ∧ s.monClocked = true ∧ s.oneSlot e x = true

/-- A round start counts and latches the entries; a conversion is taken while the sequencer runs or in the slot in which
RUN is cleared; a differential one gives both values, a single one the value of the converter that its entry names,
and an agreeing check entry the mean of both (log entry 82); a checked conversion outside its window twice counts a
disagreement and clears VALID; an urgent conversion is taken, dropped, completed or left waiting; a filter bank swap
is pending until its fade (log entry 67). Rests on spec/14_monitor_power.md (R414 to R417, R419, R422). -/
def Obligations.MonitoringRoundsAndConversions : Prop :=
  (∀ (late : Bool) (s : State), s.monRuns = true →
    Completes (.seqRoundStart late) s fun t =>
      t.rd MON_SEQ.SEQ_STATUS_ROUNDS = (s.rd MON_SEQ.SEQ_STATUS_ROUNDS + 1) % 2 ^ MON_SEQ.SEQ_STATUS_ROUNDS.width ∧
      t.mon.round = s.mon.round + 1 ∧ (late = true → Counted Ev.MON_SEQ.overrun s t) ∧
      ∀ e, e < 32 → (t.monEntry e).ch = s.rdA (MON_SEQ.ENTRY_CH e) ∧ (t.monEntry e).mode = s.rdA (MON_SEQ.ENTRY_MODE e) ∧
        (t.monEntry e).ch2 = s.rdA (MON_SEQ.ENTRY_CH2 e)) ∧
  (∀ (late : Bool) (s : State), s.monRuns = false → Completes (.seqRoundStart late) s fun t => t = s) ∧
  (∀ (e : Fin 32) (x : ConvCodes) (s : State), s.Converts e.val x → s.monLeft.isEmpty = false →
    e.val ≤ s.rd MON_SEQ.SEQ_CTRL_LAST → s.mon.round ≠ 0 → (s.monEntry e.val).mode = 2 →
    s.rd (MON_FILT.FCFG_BANK0 e.val) = 0 → s.rd (MON_FILT.FCFG_BANK1 e.val) = 0 → s.on (MON_FILT.FSTAT_FADING e.val) = false →
    Completes (.conversionDone e x) s fun t =>
      t.rd (MON_SEQ.RESULT_VALUE_A e.val) = unsigned 16 (codeValue (s.monEntry e.val).ch x.a.toNat) % 2 ^ 16 ∧
      t.rd (MON_SEQ.RESULT_VALUE_B e.val) = unsigned 16 (codeValue (s.monEntry e.val).ch2 x.b.toNat) % 2 ^ 16 ∧
      bitOf (t.rd MON_SEQ.RES_VALID_VALID) e.val = true ∧
      KeepsFieldsBut [MON_SEQ.RESULT_VALUE_A e.val, MON_SEQ.RESULT_VALUE_B e.val, MON_SEQ.RES_VALID_VALID,
        MON_FILT.FSTAT_ALM_LO e.val, MON_FILT.FSTAT_ALM_HI e.val] s t) ∧
  (∀ (e : Fin 32) (x : ConvCodes) (s : State), s.Converts e.val x → s.monLeft.isEmpty = false →
    e.val ≤ s.rd MON_SEQ.SEQ_CTRL_LAST → s.mon.round ≠ 0 → (s.monEntry e.val).mode ≤ 1 →
    s.rd (MON_FILT.FCFG_BANK0 e.val) = 0 → s.rd (MON_FILT.FCFG_BANK1 e.val) = 0 → s.on (MON_FILT.FSTAT_FADING e.val) = false →
    Completes (.conversionDone e x) s fun t =>
      let code := if (s.monEntry e.val).mode = 1 ∧ s.monLeft.length = 2 then x.b else x.a
      t.rd (MON_SEQ.RESULT_VALUE_A e.val) = unsigned 16 (codeValue (s.monEntry e.val).ch code.toNat) % 2 ^ 16 ∧
      t.rd (MON_SEQ.RESULT_VALUE_B e.val) = 0 ∧ bitOf (t.rd MON_SEQ.RES_VALID_VALID) e.val = true ∧
      KeepsFieldsBut [MON_SEQ.RESULT_VALUE_A e.val, MON_SEQ.RESULT_VALUE_B e.val, MON_SEQ.RES_VALID_VALID,
        MON_FILT.FSTAT_ALM_LO e.val, MON_FILT.FSTAT_ALM_HI e.val] s t) ∧
  (∀ (e : Fin 32) (x : ConvCodes) (s : State), s.Converts e.val x → s.monLeft.isEmpty = false →
    e.val ≤ s.rd MON_SEQ.SEQ_CTRL_LAST → s.mon.round ≠ 0 → (s.monEntry e.val).mode = 3 →
    s.rd (MON_FILT.FCFG_BANK0 e.val) = 0 → s.rd (MON_FILT.FCFG_BANK1 e.val) = 0 → s.on (MON_FILT.FSTAT_FADING e.val) = false →
    (let ch := (s.monEntry e.val).ch
     s.inCheckWin (codeValue ch x.a.toNat) (codeValue ch x.b.toNat) = true) →
    Completes (.conversionDone e x) s fun t =>
      let ch := (s.monEntry e.val).ch
      let mean := unsigned 16 ((codeValue ch x.a.toNat + codeValue ch x.b.toNat) / 2) % 2 ^ 16
      t.rd (MON_SEQ.RESULT_VALUE_A e.val) = mean ∧ t.rd (MON_SEQ.RESULT_VALUE_B e.val) = mean ∧
      bitOf (t.rd MON_SEQ.RES_VALID_VALID) e.val = true) ∧
  (∀ (e : Fin 32) (x : ConvCodes) (s : State), s.monRuns = true → s.monLeft = [0, 1] →
    e.val ≤ s.rd MON_SEQ.SEQ_CTRL_LAST → s.mon.round ≠ 0 → 3 ≤ (s.monEntry e.val).mode →
    (let ch := (s.monEntry e.val).ch
     s.inCheckWin (codeValue ch x.a.toNat) (codeValue ch x.b.toNat) = false ∧
     s.inCheckWin (codeValue ch x.ra.toNat) (codeValue ch x.rb.toNat) = false) →
    s.refBad x.refA.toNat = false → s.refBad x.refB.toNat = false →
    Completes (.conversionDone e x) s fun t => Counted Ev.MON_SEQ.disagreement s t ∧
      bitOf (t.rd MON_SEQ.RES_VALID_VALID) e.val = false ∧ KeepsFieldsBut [MON_SEQ.RES_VALID_VALID] s t) ∧
  (∀ (e : Fin 32) (x : ConvCodes) (s : State), (¬ s.Converts e.val x ∨ s.rd MON_SEQ.SEQ_CTRL_LAST < e.val) →
    Completes (.conversionDone e x) s fun t => t = s.onMon fun m => { m with lastSlot := false }) ∧
  (∀ (r : Requester) (ch : BitVec 6) (b : Bool) (s : State), s.Takes r 17 0x050 → s.on MON_SEQ.URG_RESULT_PENDING = false →
    Completes (.urgentConversionRequest r ch b) s fun t => t.on MON_SEQ.URG_RESULT_PENDING = true ∧
      t.mon.urgent = some (ch.toNat, if s.monLeft.contains (bit b) then bit b else 1 - bit b) ∧
      KeepsFieldsBut [MON_SEQ.URG_RESULT_PENDING] s t ∧ t = { s with regs := t.regs, mon := t.mon }) ∧
  (∀ (r : Requester) (ch : BitVec 6) (b : Bool) (s : State), s.Takes r 17 0x050 → s.on MON_SEQ.URG_RESULT_PENDING = true →
    Completes (.urgentConversionRequest r ch b) s fun t => Counted Ev.MON_SEQ.urgentDropped s t ∧ s.EventFrame t ∧
      KeepsFieldsBut [] s t) ∧
  (∀ (code : BitVec 16) (s : State), s.on MON_SEQ.URG_RESULT_PENDING = true → s.monClocked = true →
    s.monLeft.isEmpty = false →
    Completes (.urgentConversionDone code) s fun t => t.rd MON_SEQ.URG_RESULT_VALUE = code.toNat ∧
      t.rd MON_SEQ.URG_RESULT_DONE = 1 ∧ t.on MON_SEQ.URG_RESULT_PENDING = false ∧ t.mon.urgent = none ∧
      Counted Ev.MON_SEQ.urgentDone s t ∧
      KeepsFieldsBut [MON_SEQ.URG_RESULT_VALUE, MON_SEQ.URG_RESULT_DONE, MON_SEQ.URG_RESULT_PENDING] s t) ∧
  (∀ (code : BitVec 16) (s : State),
    (s.on MON_SEQ.URG_RESULT_PENDING = false ∨ s.monClocked = false ∨ s.monLeft.isEmpty = true) →
    Completes (.urgentConversionDone code) s fun t => t = s) ∧
  (∀ (r : Requester) (e : Fin 32) (b : Bool) (s : State), s.Takes r 18 (0x044 + 0x10 * e.val) →
    s.on (MON_FILT.FSTAT_FADING e.val) = false → s.on (MON_FILT.FSTAT_ACTIVE e.val) ≠ b →
    Completes (.filterBankSwapRequest r e b) s fun t => t.on (MON_FILT.FSTAT_PENDING e.val) = true ∧
      t.on (MON_FILT.FSTAT_PEND_BANK e.val) = b ∧ t = { s with regs := t.regs } ∧
      KeepsFieldsBut [MON_FILT.FSTAT_PENDING e.val, MON_FILT.FSTAT_PEND_BANK e.val] s t) ∧
  (∀ (r : Requester) (e : Fin 32) (b : Bool) (s : State), s.Takes r 18 (0x044 + 0x10 * e.val) →
    s.on (MON_FILT.FSTAT_FADING e.val) = false → s.on (MON_FILT.FSTAT_ACTIVE e.val) = b →
    Completes (.filterBankSwapRequest r e b) s fun t => t = s) ∧
  (∀ (r : Requester) (e : Fin 32) (b : Bool) (s : State), s.Takes r 18 (0x044 + 0x10 * e.val) →
    s.on (MON_FILT.FSTAT_FADING e.val) = true →
    Completes (.filterBankSwapRequest r e b) s fun t => t.on (MON_FILT.FSTAT_PENDING e.val) = true ∧
      t.on (MON_FILT.FSTAT_PEND_BANK e.val) = b ∧
      (s.on (MON_FILT.FSTAT_PENDING e.val) = true → Counted Ev.MON_FILT.swapReplaced s t))

/-- A task run ends with its first plausible measurement, with its second and a count, or, where neither is plausible,
with its target kept and the detector lasting; PMBALERT reads the status of every rail that is on and counts; negative
slack raises the core voltage within its limits, and is only counted where no rail or controller carries it; an
analogue die that is ready and not gated shows so. Rests on spec/12_control_complex.md (R361);
spec/14_monitor_power.md (R425, R426, R428, R430, R432). -/
def Obligations.CalibrationTasksAndRails : Prop :=
  (∀ (k : Fin 4) (a b : List Int) (s : State), s.coreUp = true → bitOf (s.rd PWR_MGR.CAL_STATE_ACTIVE) k.val = true →
    bitOf (s.rd PWR_MGR.CAL_STATE_PENDING) k.val = false → s.taskPlausible k.val a = true →
    Completes (.calTaskRunEnd k a b) s fun t => bitOf (t.rd PWR_MGR.CAL_STATE_ACTIVE) k.val = false ∧
      (t.taskOf k.val).target = a ∧ Counted Ev.PWR_MGR.calCompleted s t ∧
      KeepsFieldsBut [PWR_MGR.CAL_STATE_ACTIVE] s t) ∧
  (∀ (k : Fin 4) (a b : List Int) (s : State), s.coreUp = true → bitOf (s.rd PWR_MGR.CAL_STATE_ACTIVE) k.val = true →
    bitOf (s.rd PWR_MGR.CAL_STATE_PENDING) k.val = false → s.taskPlausible k.val a = false →
    s.taskPlausible k.val b = true →
    Completes (.calTaskRunEnd k a b) s fun t => bitOf (t.rd PWR_MGR.CAL_STATE_ACTIVE) k.val = false ∧
      (t.taskOf k.val).target = b ∧ Counted Ev.PWR_MGR.calImplausible s t ∧ Counted Ev.PWR_MGR.calCompleted s t) ∧
  (∀ (k : Fin 4) (a b : List Int) (s : State), s.coreUp = true → bitOf (s.rd PWR_MGR.CAL_STATE_ACTIVE) k.val = true →
    bitOf (s.rd PWR_MGR.CAL_STATE_PENDING) k.val = false → s.taskPlausible k.val a = false →
    s.taskPlausible k.val b = false →
    Completes (.calTaskRunEnd k a b) s fun t => bitOf (t.rd PWR_MGR.CAL_STATE_ACTIVE) k.val = false ∧
      bitOf (t.rd PWR_MGR.CAL_STATE_SPARE_LEFT) k.val = false ∧
      ((t.taskOf k.val).frozen = true ↔
        (s.taskOf k.val).frozen = true ∨ (s.block (taskDetector k.val)).spares (taskDetector k.val) = 0) ∧
      (t.taskOf k.val).target = (s.taskOf k.val).target ∧
      Counted Ev.PWR_MGR.calImplausible s t ∧ Counted Ev.PWR_MGR.calCompleted s t) ∧
  (∀ (k : Fin 4) (a b : List Int) (s : State),
    (s.coreUp = false ∨ bitOf (s.rd PWR_MGR.CAL_STATE_ACTIVE) k.val = false) →
    Completes (.calTaskRunEnd k a b) s fun t => t = s) ∧
  (∀ s : State, s.on PWR_MGR.PMB_CFG_ENABLE = true →
    Completes .pmbusAlert s fun t => t.out = (s.railsOn.map fun r => Out.pmbusRead (s.pmbusTo r) 0x79).reverse ++ s.out ∧
      Counted Ev.PWR_MGR.pmbAlert s t ∧ KeepsFieldsBut [] s t) ∧
  (∀ s : State, s.on PWR_MGR.PMB_CFG_ENABLE = false →
    Completes .pmbusAlert s fun t => Counted Ev.PWR_MGR.pmbAlert s t ∧ s.EventFrame t ∧ KeepsFieldsBut [] s t) ∧
  (∀ (r : Nat) (s : State), s.on PWR_MGR.AVS_CFG_AVS_EN = true → s.on PWR_MGR.PMB_CFG_ENABLE = true →
    s.avsRail = some r →
    Completes .avsNegativeSlack s fun t =>
      let v := clampNat (2 * s.rd PWR_MGR.AVS_CFG_AVS_MIN) (2 * s.rd PWR_MGR.AVS_CFG_AVS_MAX) (s.voutNow + 40)
      t.out = .pmbus (s.pmbusTo r) 0x21 (s.linear16 r v).2.toNat :: s.out ∧ t.power.vout = v ∧ t.power.slackRun = 0 ∧
      t.rd PWR_MGR.AVS_STATUS_VOUT_MV = v / 2 % 2 ^ PWR_MGR.AVS_STATUS_VOUT_MV.width ∧
      Counted Ev.PWR_MGR.avsRaise s t ∧ KeepsFieldsBut [PWR_MGR.AVS_STATUS_VOUT_MV] s t) ∧
  (∀ s : State, s.on PWR_MGR.AVS_CFG_AVS_EN = true → (s.on PWR_MGR.PMB_CFG_ENABLE = false ∨ s.avsRail = none) →
    Completes .avsNegativeSlack s fun t => t.out = s.out ∧ t.power = { s.power with slackRun := 0 } ∧
      Counted Ev.PWR_MGR.avsRaise s t ∧ KeepsFieldsBut [] s t) ∧
  (∀ s : State, s.on PWR_MGR.AVS_CFG_AVS_EN = false → Completes .avsNegativeSlack s fun t => t = s) ∧
  (∀ (d : Fin 26) (s : State), (bitOf (s.rd CK_SYN.GATE_STATE_CLOSED) d.val = false ∨
      s.on PWR_MGR.PWR_CFG_GATE_UNUSED = false) →
    Completes (.analogReady d) s fun t => bitOf (t.rd PWR_MGR.ANALOG_READY_READY) d.val = true ∧
      (∀ e, e < 26 → e ≠ d.val → bitOf (t.rd PWR_MGR.ANALOG_READY_READY) e = bitOf (s.rd PWR_MGR.ANALOG_READY_READY) e) ∧
      t = { s with regs := t.regs } ∧ KeepsFieldsBut [PWR_MGR.ANALOG_READY_READY] s t) ∧
  (∀ (d : Fin 26) (s : State), bitOf (s.rd CK_SYN.GATE_STATE_CLOSED) d.val = true →
    s.on PWR_MGR.PWR_CFG_GATE_UNUSED = true →
    Completes (.analogReady d) s fun t => t = s)

/-- An emergency moult to the STANDBY core (R369). -/
def EmergencyMoulted (s t : State) : Prop :=
  t.activeCore = 1 - s.activeCore ∧ t.coreSt s.activeCore = 0 ∧ t.coreSt (1 - s.activeCore) = 1 ∧
  t.core.selfTest = some s.activeCore ∧ t.on MG_CTL.CORE_STATUS_MOULT_BUSY = false ∧ Counted Ev.MG_CTL.emergency s t ∧
  t.mbxOf 0 = none ∧ t.mbxOf 1 = none

/-- The boot ROM starts both cores on a valid image or enters recovery; a watchdog expiry or MOULT_REQ makes an emergency
moult to a STANDBY core, or FATAL without one; self-tests, handovers and reloads end as their rules say; NMI causes
clear by bit; telemetry is published, waits while channel 15 does not run, or is stopped; hold-off and wait-to-restore
timers change the local report. Rests on spec/08_ring_operation.md (R251); spec/12_control_complex.md (R364, R368,
R369, R376 to R378); spec/13_dma_arbitration_memory.md (R383); spec/17_lifecycle.md (R488). -/
def Obligations.ControlCoresBootMoultAndReport : Prop :=
  (∀ (i : FwImage) (s : State), s.clock.ctrlRun = true → s.clock.stopped = false → s.coreSt 0 ≠ 1 → s.coreSt 1 ≠ 1 →
    s.rd MG_CTL.CORE_STATUS_RUN_SLOT ≠ 2 → s.on MG_CTL.CORE_STATUS_FATAL = false → s.coreQuarantined 0 = false →
    s.coreQuarantined 1 = false → s.validSlot (if s.flash.dirOk then s.flash.pref % 2 else 0) = some i →
    Completes .bootRomStart s fun t => t.coreSt 0 = 1 ∧ t.coreSt 1 = 2 ∧ t.activeCore = 0 ∧
      t.rd MG_CTL.CORE_STATUS_RUN_SLOT = (if s.flash.dirOk then s.flash.pref % 2 else 0) ∧
      t.on MG_CTL.CORE_STATUS_LAST_FALLBACK = false ∧ t.coreImage 0 = some i ∧ t.coreImage 1 = some i ∧
      t.on (DMA_ENG.CH_CTRL_RUN 14) = true ∧ t.on (DMA_ENG.CH_CTRL_RUN 15) = true ∧
      t.rd MG_CTL.FW_VERSION_VERSION = i.version.toNat % 2 ^ MG_CTL.FW_VERSION_VERSION.width) ∧
  (∀ s : State, s.clock.ctrlRun = true → s.clock.stopped = false → s.coreSt 0 ≠ 1 → s.coreSt 1 ≠ 1 →
    s.rd MG_CTL.CORE_STATUS_RUN_SLOT ≠ 2 → s.on MG_CTL.CORE_STATUS_FATAL = false → s.validSlot 0 = none →
    s.validSlot 1 = none →
    Completes .bootRomStart s fun t => t.rd MG_CTL.CORE_STATUS_RUN_SLOT = 2 ∧
      KeepsFieldsBut [MG_CTL.CORE_STATUS_RUN_SLOT] s t) ∧
  (∀ s : State, (s.clock.ctrlRun = false ∨ s.clock.stopped = true ∨ s.coreSt 0 = 1 ∨ s.coreSt 1 = 1) →
    Completes .bootRomStart s fun t => t = s) ∧
  (∀ s : State, s.clock.stopped = false → s.coreSt s.activeCore = 1 → s.coreSt (1 - s.activeCore) = 2 →
    Completes .watchdogExpiry s fun t => EmergencyMoulted s t ∧ Counted Ev.MG_CTL.watchdog s t) ∧
  (∀ s : State, s.clock.stopped = false → s.coreSt s.activeCore = 1 → s.coreSt (1 - s.activeCore) ≠ 2 →
    Completes .watchdogExpiry s fun t => t.coreSt s.activeCore = 3 ∧ t.on MG_CTL.CORE_STATUS_FATAL = true ∧
      t.on MG_CTL.NMI_CAUSE_FATAL = true ∧ t.msixLatch.contains 0 = true ∧ Counted Ev.MG_CTL.watchdog s t) ∧
  (∀ (r : Requester) (s : State), s.Takes r 1 0x050 → s.coreSt s.activeCore = 1 → s.coreSt (1 - s.activeCore) = 2 →
    Completes (.moultReq r) s fun t => EmergencyMoulted s t) ∧
  (∀ (c : Nat) (s : State), s.core.selfTest = some c → s.core.reload = false →
    Completes (.coreSelfTestDone true) s fun t => t.coreSt c = 2 ∧ t.core.selfTest = none ∧
      t.coreImage c = s.coreImage s.activeCore) ∧
  (∀ (c : Nat) (s : State), s.core.selfTest = some c →
    Completes (.coreSelfTestDone false) s fun t => t.coreSt c = 3 ∧ t.core.selfTest = none ∧
      t.coreQuarantined c = true) ∧
  (∀ (b : Bool) (s : State), s.core.selfTest = none → Completes (.coreSelfTestDone b) s fun t => t = s) ∧
  (∀ (slot x : Nat) (i : FwImage) (s : State), s.coreUp = true → s.core.moult = some (slot, x) → x < 2 →
    s.moultCheck slot = none → s.validSlot slot = some i →
    Completes .moultHandover s fun t => t.activeCore = 1 - s.activeCore ∧ t.coreSt s.activeCore = 0 ∧
      t.coreSt (1 - s.activeCore) = 1 ∧ t.coreImage (1 - s.activeCore) = some i ∧
      t.on MG_CTL.CORE_STATUS_MOULT_BUSY = false ∧ t.core.moult = none ∧ t.core.selfTest = some s.activeCore ∧
      t.core.mirror.isSome = true ∧
      Counted Ev.MG_CTL.moult s t ∧ t.mbxOf x = none) ∧
  (∀ s : State, s.coreUp = true → s.core.moult = none → Completes .moultHandover s fun t => t = s) ∧
  (∀ (c : Nat) (s : State), s.core.selfTest = some c → s.core.reload = true →
    Completes .moultStandbyReady s fun t => t.coreSt c = 2 ∧ t.core.selfTest = none ∧ t.core.reload = false ∧
      t.coreImage c = s.coreImage s.activeCore ∧ KeepsFieldsBut [MG_CTL.CORE_STATUS_CORE0, MG_CTL.CORE_STATUS_CORE1] s t) ∧
  (∀ (r : Requester) (b : BitVec 3) (s : State), s.Takes r 1 0x054 →
    Completes (.nmiCauseClear r b) s fun t =>
      t.on MG_CTL.NMI_CAUSE_EXHAUSTED = (s.on MG_CTL.NMI_CAUSE_EXHAUSTED && !bitOf b.toNat 0) ∧
      t.on MG_CTL.NMI_CAUSE_RCLK_FAIL = (s.on MG_CTL.NMI_CAUSE_RCLK_FAIL && !bitOf b.toNat 1) ∧
      t.on MG_CTL.NMI_CAUSE_FATAL = (s.on MG_CTL.NMI_CAUSE_FATAL && !bitOf b.toNat 2) ∧
      KeepsFieldsBut [MG_CTL.NMI_CAUSE_FATAL] s t ∧ t = { s with regs := t.regs }) ∧
  (∀ (x : Telemetry) (s : State), s.coreUp = true → s.tel = some x → x.left = 0 → s.serviceError 15 = none →
    s.serviceRuns 15 = true →
    Completes (.telemetryRecord true) s fun t =>
      let seq := (x.seq + 1) % 2 ^ 32
      let addr := x.addr + 512 * (seq % x.len)
      let data := (s.telRecord x.mask seq).flatMap (le 4)
      t.out = ((requestCuts s.payload data.length addr data.length).map fun e =>
        Out.host e.1 ((data.drop (e.1 - addr)).take e.2)).reverse ++ s.out ∧
      t.tel = some { x with seq := seq, left := x.period } ∧ Counted Ev.MG_CTL.telPublished s t ∧ KeepsFieldsBut [] s t) ∧
  (∀ (x : Telemetry) (s : State), s.coreUp = true → s.tel = some x → x.left = 0 → s.serviceError 15 = none →
    s.serviceRuns 15 = false →
    Completes (.telemetryRecord true) s fun t => t = s) ∧
  (∀ (x : Telemetry) (ok : Bool) (s : State), s.coreUp = true → s.tel = some x → x.left = 0 →
    (ok = false ∨ s.serviceError 15 ≠ none) →
    Completes (.telemetryRecord ok) s fun t => t.tel = none ∧ Counted Ev.MG_CTL.telStopped s t ∧ t.out = s.out ∧
      KeepsFieldsBut [] s t) ∧
  (∀ (p : Port) (s : State), s.Clocked → s.sfCause p = true →
    (s.report? p = rptOk ∨ s.report? p = rptSd ∨ s.report? p = rptWtr) →
    Completes (.holdoffExpiry p) s fun t => t.report? p = rptSf ∧ t.rd (wtrLeftField p) = 0 ∧
      t.rd HB_RING.RPT_LOCAL_SEQ = (s.rd HB_RING.RPT_LOCAL_SEQ + 1) % 2 ^ HB_RING.RPT_LOCAL_SEQ.width ∧
      Counted (reqEvt p) s t ∧ KeepsFieldsBut [reqField p, wtrLeftField p, HB_RING.RPT_LOCAL_SEQ] s t) ∧
  (∀ (p : Port) (s : State), s.Clocked → (s.sfCause p = false ∨ s.report? p = rptForced) →
    Completes (.holdoffExpiry p) s fun t => t = s) ∧
  (∀ (p : Port) (s : State), s.Clocked → s.report? p = rptWtr →
    Completes (.reportWtrExpiry p) s fun t => t.report? p = rptOk ∧ t.rd (wtrLeftField p) = 0 ∧
      t.rd HB_RING.RPT_LOCAL_SEQ = (s.rd HB_RING.RPT_LOCAL_SEQ + 1) % 2 ^ HB_RING.RPT_LOCAL_SEQ.width ∧
      Counted (reqEvt p) s t ∧ KeepsFieldsBut [reqField p, wtrLeftField p, HB_RING.RPT_LOCAL_SEQ] s t) ∧
  (∀ (p : Port) (s : State), s.Clocked → s.report? p ≠ rptWtr →
    Completes (.reportWtrExpiry p) s fun t => t = s)

/-- EMERGE raises both bypass outputs where no cause refuses it and shows the cause otherwise; ENTER lowers them and
prevails where one write has both; a force sets and clears the local report; a change of the spans that have failed or
lost slots to the bridge puts the plan for them in force, keeps the normal banks as plan 0 and writes the banks that
are not in use, or shows that there is none; the end of every failure puts plan 0 back; a waiting swap is requested at
its timeout, and not under HOLD. Rests on spec/08_ring_operation.md (R251, R253, R260);
spec/16_register_conventions.md (R475). -/
def Obligations.RingEntryReportsAndPlans : Prop :=
  (∀ (r : Requester) (s : State), s.Takes r 25 0x044 → s.inRing = false → s.emergeRefuse = 0 →
    Completes (.emerge r) s fun t => t.inRing = true ∧ t.pins.bypassHold = ⟨true, true⟩ ∧
      t.on HB_RING.RING_STATUS_BYPASS_HOLD = true ∧ t.rd HB_RING.RING_STATUS_EMERGE_REFUSE = 0 ∧
      Counted Ev.HB_RING.inRing s t ∧
      KeepsFieldsButRefs [HB_RING.RING_STATUS_IN_RING, HB_RING.RING_STATUS_BYPASS_HOLD, HB_RING.RING_STATUS_EMERGE_REFUSE] s t) ∧
  (∀ (r : Requester) (s : State), s.Takes r 25 0x044 → s.inRing = false → s.emergeRefuse ≠ 0 →
    Completes (.emerge r) s fun t => t.inRing = false ∧ t.pins = s.pins ∧
      t.rd HB_RING.RING_STATUS_EMERGE_REFUSE = s.emergeRefuse ∧ Counted Ev.HB_RING.emergeRefused s t ∧
      KeepsFieldsBut [HB_RING.RING_STATUS_EMERGE_REFUSE] s t ∧ s.EventFrame t) ∧
  (∀ (r : Requester) (s : State), s.Takes r 25 0x044 → s.inRing = true → Completes (.emerge r) s fun t => t = s) ∧
  (∀ (r : Requester) (s : State), s.Takes r 25 0x044 → s.inRing = true →
    Completes (.enterRing r) s fun t => t.inRing = false ∧ t.pins.bypassHold = ⟨false, false⟩ ∧
      t.on HB_RING.RING_STATUS_BYPASS_HOLD = false ∧ t.rd HB_RING.RING_STATUS_ENTRY_CAUSE = 1 ∧
      Counted Ev.HB_RING.chrysalis s t ∧ t.pins.txZero = s.pins.txZero ∧
      KeepsFieldsButRefs [HB_RING.RING_STATUS_IN_RING, HB_RING.RING_STATUS_BYPASS_HOLD, HB_RING.RING_STATUS_ENTRY_CAUSE] s t) ∧
  (∀ (r : Requester) (s : State), s.Takes r 25 0x044 → s.inRing = false → Completes (.enterRing r) s fun t => t = s) ∧
  (∀ (r : Requester) (data : Word) (s : State), s.Takes r 25 0x044 → bitOf data.toNat 0 = true → bitOf data.toNat 1 = true →
    Completes (.registerWrite r 0x19044 data) s fun t => t.inRing = false ∧
      t.rd HB_RING.RING_STATUS_EMERGE_REFUSE = s.rd HB_RING.RING_STATUS_EMERGE_REFUSE ∧
      t.counter 25 Ev.HB_RING.emergeRefused.off = s.counter 25 Ev.HB_RING.emergeRefused.off ∧
      (s.inRing = true → t.rd HB_RING.RING_STATUS_ENTRY_CAUSE = 1 ∧ Counted Ev.HB_RING.chrysalis s t)) ∧
  (∀ (r : Requester) (p : Port) (s : State), s.Takes r 25 0x050 →
    Completes (.reportForce r p true) s fun t => t.report? p = rptForced ∧ t.on (forceField p) = true ∧
      t.rd (wtrLeftField p) = 0 ∧ (s.report? p ≠ rptForced → Counted (reqEvt p) s t) ∧
      KeepsFieldsBut [forceField p, reqField p, wtrLeftField p, HB_RING.RPT_LOCAL_SEQ] s t) ∧
  (∀ (r : Requester) (p : Port) (s : State), s.Takes r 25 0x050 → s.report? p = rptForced →
    Completes (.reportForce r p false) s fun t => t.on (forceField p) = false ∧
      t.report? p = (if s.sfCause p then rptSf else if s.sdCond p then rptSd else rptOk) ∧
      KeepsFieldsBut [forceField p, reqField p, HB_RING.RPT_LOCAL_SEQ] s t) ∧
  (∀ s : State, s.coreUp = true → s.Clocked →
    (s.prot.hold = true ∨ (s.movedSpans = s.prot.failed ∧ s.prot.waiting = [])) →
    Completes .restorationPlanApply s fun t => t = s) ∧
  (∀ s : State, s.coreUp = true → s.Clocked → s.prot.hold = false → s.movedSpans = [] → s.prot.failed ≠ [] →
    s.spansOk s.prot.failed = true → s.prot.inForce ≠ 0 →
    Completes .restorationPlanApply s fun t => t.prot.inForce = 0 ∧ t.prot.failed = [] ∧ t.prot.noPlan = false ∧
      t.prot.plans = s.prot.plans ∧ t.rd HB_RING.RPT_LOCAL_PLAN = 0) ∧
  (∀ s : State, s.coreUp = true → s.Clocked → s.prot.hold = false → s.movedSpans ≠ s.prot.failed →
    s.movedSpans.isEmpty = false → s.planFor s.movedSpans = none →
    Completes .restorationPlanApply s fun t => t.prot.noPlan = true ∧ t.prot.failed = s.movedSpans ∧
      t.prot.inForce = s.prot.inForce ∧ t.bar2 = s.bar2) ∧
  (∀ (n : Nat) (s : State), s.coreUp = true → s.Clocked → s.prot.hold = false → s.movedSpans ≠ s.prot.failed →
    s.movedSpans.isEmpty = false → s.planFor s.movedSpans = some n →
    Completes .restorationPlanApply s fun t => t.prot.inForce = n ∧ t.prot.failed = s.movedSpans ∧
      t.prot.noPlan = false ∧ (s.prot.inForce = 0 → Tab.get Plan.init t.prot.plans 0 = s.normalBanks) ∧
      t.rd HB_RING.RPT_LOCAL_PLAN = (if s.rd HB_RING.RPT_LOCAL_PLAN = n then n
        else n % 2 ^ HB_RING.RPT_LOCAL_PLAN.width) ∧
      (∀ p i, i < 96 → s.txBank p < 2 → s.rxBank p < 2 → s.txBank p.other < 2 → s.rxBank p.other < 2 →
        t.txSlotWord (1 - s.txBank p) p i = some (Tab.get 0 (Tab.get Plan.init s.prot.plans n).tx (p.toNat * 96 + i) % 2 ^ 32) ∧
        t.rxSlotWord (1 - s.rxBank p) p i = some (Tab.get 0 (Tab.get Plan.init s.prot.plans n).rx (p.toNat * 96 + i) % 2 ^ 32) ∧
        t.txSlotWord (s.txBank p) p i = s.txSlotWord (s.txBank p) p i ∧
        t.rxSlotWord (s.rxBank p) p i = s.rxSlotWord (s.rxBank p) p i)) ∧
  (∀ (p : Port) (s : State), s.coreUp = true → s.prot.hold = false → s.prot.waiting.contains p.toNat = true →
    s.swapCause p = 0 →
    Completes (.planSwapTimeout p) s fun t => t.swapSt p = 1 ∧ t.prot.waiting.contains p.toNat = false ∧ t.bar2 = s.bar2) ∧
  (∀ (p : Port) (s : State), s.coreUp = true → (s.prot.hold = true ∨ s.prot.waiting.contains p.toNat = false) →
    Completes (.planSwapTimeout p) s fun t => t = s)

/-- A negotiation message, with its CRC, is queued behind the others of its class (R174, R255). -/
def Sends (p : Port) (typ : Nat) (m : NegMsg) (s t : State) : Prop :=
  (t.dvOf p 2).queue = (s.dvOf p 2).queue ++ [negBody typ m ++ bytesOf 4 (crc32 (byteBits (negBody typ m)))]

/-- A proposal is answered with ACCEPT or REJECT and its cause; ACCEPT, REJECT, CONFIRM and ABORT act only in their state
and transaction; ACCEPT and CONFIRM stage their changes where the groups are free, and leave the state where one is
pending (log entry 99); the timeouts, the passed boundaries and the retry timer leave their states with their count
(log entries 40 and 74). Rests on spec/08_ring_operation.md (R256, R257). -/
def Obligations.RateGlideNegotiation : Prop :=
  (∀ (p : Port) (m : NegMsg) (n : Nat) (s : State), s.coreUp = true → s.Clocked → s.rejectCause p m n = 0 →
    Completes (.proposeReceived p m n) s fun t => t.negSt p = negWaitConfirm ∧
      t.rd (HB_RING.NEG_STATUS_TXN p) = m.txn % 2 ^ (HB_RING.NEG_STATUS_TXN p).width ∧ (t.neg.get p).dir = m.dir ∧
      (t.neg.get p).atF = m.atF ∧ (t.neg.get p).atR = s.responderAt p m n ∧
      Sends p negAccept { m with atR := s.responderAt p m n } s t ∧ Counted Ev.HB_RING.negSent s t ∧
      KeepsFieldsBut [HB_RING.NEG_STATUS_STATE p, HB_RING.NEG_STATUS_TXN p] s t) ∧
  (∀ (p : Port) (m : NegMsg) (n : Nat) (s : State), s.coreUp = true → s.Clocked → s.rejectCause p m n ≠ 0 →
    Completes (.proposeReceived p m n) s fun t => t.negSt p = s.negSt p ∧
      (t.neg.get p).crossed = ((s.neg.get p).crossed || decide (s.negSt p = negWaitAccept)) ∧
      Sends p negReject { m with cause := if s.negSt p = negIdle then s.rejectCause p m n else 3 } s t ∧ Counted Ev.HB_RING.negSent s t ∧
      Counted Ev.HB_RING.rejectSent s t ∧ KeepsFieldsBut [] s t) ∧
  (∀ (p : Port) (m : NegMsg) (u s : State), s.coreUp = true → s.Clocked → s.negSt p = negWaitAccept →
    m.txn = s.rd (HB_RING.NEG_STATUS_TXN p) →
    (let n := { s.neg.get p with atR := m.atR, confirms := 3 }
     (s.onNeg p fun _ => n).stageGlide p n.fwd n.rev = some u) →
    Completes (.acceptReceived p m) s fun t => t = u.setNeg p negCommitted ∧ t.negSt p = negCommitted ∧
      (t.neg.get p).atR = m.atR ∧ (t.neg.get p).confirms = 3 ∧
      (bitOf (s.neg.get p).dir 0 = true → t.groupPending p.toNat = true) ∧
      (bitOf (s.neg.get p).dir 1 = true → t.groupPending (4 + p.toNat) = true)) ∧
  (∀ (p : Port) (m : NegMsg) (s : State), s.coreUp = true → s.Clocked →
    ((bitOf (s.neg.get p).dir 0 = true ∧ s.groupPending p.toNat = true) ∨
      (bitOf (s.neg.get p).dir 1 = true ∧ s.groupPending (4 + p.toNat) = true)) →
    Completes (.acceptReceived p m) s fun t => t = s) ∧
  (∀ (p : Port) (m : NegMsg) (s : State), s.coreUp = true → s.Clocked →
    (s.negSt p ≠ negWaitAccept ∨ m.txn ≠ s.rd (HB_RING.NEG_STATUS_TXN p)) →
    Completes (.acceptReceived p m) s fun t => t = s) ∧
  (∀ (p : Port) (m : NegMsg) (s : State), s.coreUp = true → s.Clocked → s.negSt p = negWaitAccept →
    m.txn = s.rd (HB_RING.NEG_STATUS_TXN p) →
    Completes (.rejectReceived p m) s fun t => t.negSt p = negIdle ∧
      t.rd (HB_RING.NEG_STATUS_LAST_CAUSE p) = m.cause % 2 ^ (HB_RING.NEG_STATUS_LAST_CAUSE p).width ∧
      (t.neg.get p).retry = ((s.neg.get p).crossed && decide (m.cause = 3)) ∧ (t.neg.get p).crossed = false ∧
      Counted Ev.HB_RING.rejectReceived s t ∧
      KeepsFieldsBut [HB_RING.NEG_STATUS_STATE p, HB_RING.NEG_STATUS_LAST_CAUSE p] s t) ∧
  (∀ (p : Port) (m : NegMsg) (s : State), s.coreUp = true → s.Clocked →
    (s.negSt p ≠ negWaitAccept ∨ m.txn ≠ s.rd (HB_RING.NEG_STATUS_TXN p)) →
    Completes (.rejectReceived p m) s fun t => Counted Ev.HB_RING.rejectReceived s t ∧ s.EventFrame t ∧ KeepsFieldsBut [] s t) ∧
  (∀ (p : Port) (m : NegMsg) (u s : State), s.coreUp = true → s.Clocked → s.negSt p = negWaitConfirm →
    m.txn = s.rd (HB_RING.NEG_STATUS_TXN p) → s.stageGlide p (s.neg.get p).rev (s.neg.get p).fwd = some u →
    Completes (.confirmReceived p m) s fun t => t = u.setNeg p negStaged ∧ t.negSt p = negStaged ∧
      (bitOf (s.neg.get p).dir 1 = true → t.groupPending p.toNat = true) ∧
      (bitOf (s.neg.get p).dir 0 = true → t.groupPending (4 + p.toNat) = true)) ∧
  (∀ (p : Port) (m : NegMsg) (s : State), s.coreUp = true → s.Clocked →
    ((bitOf (s.neg.get p).dir 1 = true ∧ s.groupPending p.toNat = true) ∨
      (bitOf (s.neg.get p).dir 0 = true ∧ s.groupPending (4 + p.toNat) = true)) →
    Completes (.confirmReceived p m) s fun t => t = s) ∧
  (∀ (p : Port) (m : NegMsg) (s : State), s.coreUp = true → s.Clocked →
    (s.negSt p ≠ negWaitConfirm ∨ m.txn ≠ s.rd (HB_RING.NEG_STATUS_TXN p)) →
    Completes (.confirmReceived p m) s fun t => t = s) ∧
  (∀ (p : Port) (m : NegMsg) (s : State), s.coreUp = true → s.Clocked → s.negSt p = negCommitted →
    m.txn = s.rd (HB_RING.NEG_STATUS_TXN p) →
    Completes (.abortReceived p m) s fun t => t.negSt p = negIdle ∧ (t.neg.get p).ended = 4 ∧
      t.rd (HB_RING.NEG_STATUS_LAST_CAUSE p) = m.cause % 2 ^ (HB_RING.NEG_STATUS_LAST_CAUSE p).width ∧
      Counted Ev.HB_RING.abortReceived s t) ∧
  (∀ (p : Port) (m : NegMsg) (s : State), s.coreUp = true → s.Clocked →
    (s.negSt p ≠ negCommitted ∨ m.txn ≠ s.rd (HB_RING.NEG_STATUS_TXN p)) →
    Completes (.abortReceived p m) s fun t => Counted Ev.HB_RING.abortReceived s t ∧ s.EventFrame t ∧ KeepsFieldsBut [] s t) ∧
  (∀ (p : Port) (s : State), s.coreUp = true → s.negSt p = negWaitAccept →
    fcReached ((s.frame.get p).fcTx + 2048) (s.neg.get p).atF = true →
    Completes (.proposerTimeout p) s fun t => t.negSt p = negIdle ∧ (t.neg.get p).ended = 3 ∧
      Counted Ev.HB_RING.proposerTimeout s t ∧ KeepsFieldsBut [HB_RING.NEG_STATUS_STATE p] s t) ∧
  (∀ (p : Port) (s : State),
    (s.negSt p ≠ negWaitAccept ∨ fcReached ((s.frame.get p).fcTx + 2048) (s.neg.get p).atF = false) →
    Completes (.proposerTimeout p) s fun t => t = s) ∧
  (∀ (p : Port) (s : State),
    (s.negSt p ≠ negWaitConfirm ∨ fcReached ((s.frame.get p).fcRx + 512) (s.neg.get p).atF = false) →
    Completes (.responderConfirmTimeout p) s fun t => t = s) ∧
  (∀ (p : Port) (s : State), s.coreUp = true → s.negSt p = negWaitConfirm →
    fcReached ((s.frame.get p).fcRx + 512) (s.neg.get p).atF = true →
    Completes (.responderConfirmTimeout p) s fun t => t.negSt p = negIdle ∧ Counted Ev.HB_RING.abortSent s t ∧
      Sends p negAbort (s.negMsg p 6) s t ∧ KeepsFieldsBut [HB_RING.NEG_STATUS_STATE p] s t) ∧
  (∀ (p : Port) (s : State), s.coreUp = true → s.Clocked → s.negSt p = negCommitted → s.boundariesPassed p = true →
    Completes (.glideBoundariesPassed p) s fun t => t.negSt p = negIdle ∧ (t.neg.get p).ended = 1 ∧
      Counted Ev.HB_RING.glide s t ∧ KeepsFieldsBut [HB_RING.NEG_STATUS_STATE p] s t) ∧
  (∀ (p : Port) (s : State), s.coreUp = true → s.Clocked → s.negSt p = negStaged → s.boundariesPassed p = true →
    Completes (.glideBoundariesPassed p) s fun t => t.negSt p = negIdle ∧ t.neg = s.neg ∧ t.cnt = s.cnt) ∧
  (∀ (p : Port) (s : State), s.coreUp = true → s.Clocked → s.boundariesPassed p = false →
    Completes (.glideBoundariesPassed p) s fun t => t = s) ∧
  (∀ (p : Port) (s : State), s.coreUp = true → s.Clocked → (s.neg.get p).retry = true → s.negSt p = negIdle →
    Completes (.proposeRetryTimer p) s fun t => t.negSt p = negWaitAccept ∧ (t.neg.get p).retry = false ∧
      t.rd (HB_RING.NEG_STATUS_TXN p) =
        (s.rd (HB_RING.NEG_STATUS_TXN p) + 1) % 256 % 2 ^ (HB_RING.NEG_STATUS_TXN p).width ∧
      (t.neg.get p).atF = ((s.frame.get p).fcTx / 256 + max 16 (min 4096 (s.neg.get p).lead)) % 2 ^ 40 * 256 ∧
      Sends p negPropose { t.negMsg p 0 with atR := 0 } s t ∧ Counted Ev.HB_RING.negSent s t) ∧
  (∀ (p : Port) (s : State), s.coreUp = true → (s.neg.get p).retry = true → s.negSt p ≠ negIdle →
    Completes (.proposeRetryTimer p) s fun t => (t.neg.get p).retry = false ∧ t.negSt p = s.negSt p ∧ t.regs = s.regs ∧
      t.out = s.out ∧ (t.dvOf p 2).queue = (s.dvOf p 2).queue) ∧
  (∀ (p : Port) (s : State), s.coreUp = true → (s.neg.get p).retry = false →
    Completes (.proposeRetryTimer p) s fun t => t = s)

/-- What every reset of the device leaves (R16, R20, R484): the volatile keys gone, the transmitters dark, the outputs low,
the quarantine, the rows and the storage withdrawn, the flash, the fused counter and the fused key kept. -/
def DeviceReset (s t : State) : Prop :=
  t.pending = s.pending ∧ t.out = s.out ∧ t.flash = s.flash ∧ t.keks = [] ∧ t.masters = [] ∧ t.keySlots = [] ∧
  t.pins = Pins.init ∧ t.clock.released = false ∧ t.linkUp = false ∧ t.on CK_SYN.SYN_STATUS_RCLK_OK = false ∧
  t.rd MG_CTL.TICK_COUNT_TICKS = 0 ∧ t.on CY_KEY.KEK_CTRL_SEALED = false ∧ t.inRing = false ∧
  (∀ p, t.acqSt p = acqIdle ∧ t.txSt p = txDark ∧ t.on (RXFE.RX_CTRL_RX_ENABLE p) = false ∧
    t.on (TX.TX_CTRL_TX_ENABLE p) = false) ∧
  t.rd MG_CTL.FW_SVN_MIN_SVN = s.rd MG_CTL.FW_SVN_MIN_SVN % 2 ^ MG_CTL.FW_SVN_MIN_SVN.width ∧
  t.fuses = s.fuses ∧ t.hbmOut = s.hbmOut ∧ t.mem.retired = s.mem.retired ∧
  (Tab.sorted s.spared = true → ∀ b, (t.block b).quarantine = (s.block b).quarantine) ∧
  (Tab.sorted s.rxConv = true → ∀ p c, (t.conv false p c).storeMap = (s.conv false p c).storeMap ∧
    (t.conv false p c).storeOffset = (s.conv false p c).storeOffset ∧
    (t.conv false p c).storeGain = (s.conv false p c).storeGain ∧ (t.conv false p c).lostFronts = (s.conv false p c).lostFronts)

/-- What a reset other than the power-on one keeps beside that: the windows and the memories (R248, R484). -/
def KeptByResetN (s t : State) : Prop :=
  t.bar2 = s.bar2 ∧ t.sram = s.sram ∧ t.snapPage = s.snapPage ∧ t.snapFlow = s.snapFlow ∧
  ∀ c, c < 192 → t.on (HB_PROT.DP_STATUS_SINGLE c) = s.on (HB_PROT.DP_STATUS_SINGLE c)

/-- Power-on reset and loss of power clear keys, outputs, clocks, ring and enables, and every memory; RESET_N of at least
1000 ns and the internal power-on reset do so but keep memories and windows; all keep quarantines, the rows and the
storage withdrawn, the converters' stored trims, the flash and the fuses; a pulse under 100 ns does nothing, and one
between is or is not a reset, as a free value says; a supply out of tolerance stops the clocks and lowers the outputs
(log entry 2); release and the power-on retest, which gives back the units and rows that pass it, act once (log
entries 12 to 15). Rests on spec/01_architecture.md (R16, R20); spec/02_transmit_path.md (R58, R59);
spec/08_ring_operation.md (R260); spec/10_clocks_references.md (R313); spec/16_register_conventions.md (R484);
spec/17_lifecycle.md (R488 to R490); spec/18_electrical_package.md (R520, R521, R524). -/
def Obligations.ResetsAndTheirRelease : Prop :=
  (∀ s : State, ∀ c ∈ [Instr.powerOnReset, Instr.lossOfPower], Completes c s fun t => DeviceReset s t ∧ t.bar2 = [] ∧
    t.sram = [] ∧ t.snapPage = [] ∧ t.snapFlow = [] ∧
    ∀ c, c < 192 → t.on (HB_PROT.DP_STATUS_SINGLE c) = false) ∧
  (∀ (n : Nat) (s : State), 1000 ≤ n →
    Completes (.resetN n) s fun t => DeviceReset s t ∧ KeptByResetN s t) ∧
  (∀ (n : Nat) (s : State), n < 100 → Completes (.resetN n) s fun t => t = s) ∧
  (∀ s : State, Completes .internalPowerOnReset s fun t =>
    DeviceReset s t ∧ KeptByResetN s t) ∧
  (∀ (n : Nat) (s : State), 100 ≤ n → n < 1000 →
    Completes (.resetN n) s fun t => if s.freeVal 1 = 1 then DeviceReset s.useFree t ∧ KeptByResetN s t else t = s.useFree) ∧
  (∀ s : State, Completes .supplyOutOfTolerance s fun t => t.clock.stopped = true ∧ t.pins = Pins.init ∧
    t.on HB_RING.RING_STATUS_BYPASS_HOLD = false ∧ t.on CK_SYN.SYN_STATUS_RCLK_OK = false ∧
    KeepsFieldsBut [HB_RING.RING_STATUS_BYPASS_HOLD, CK_SYN.SYN_STATUS_RCLK_OK] s t ∧
    t = { s with regs := t.regs, pins := t.pins, clock := t.clock }) ∧
  (∀ s : State, s.clock.released = false → Completes .resetRelease s fun t => t.clock = { s.clock with released := true } ∧
    t.linkUp = (!s.perstLow) ∧ t.crs = true ∧ t.pins = { s.pins with txZero := ⟨false, false⟩ } ∧
    t = { s with clock := t.clock, linkUp := t.linkUp, crs := t.crs, pins := t.pins }) ∧
  (∀ s : State, s.clock.released = true → Completes .resetRelease s fun t => t = s) ∧
  (∀ (l : List (Block × Nat)) (rows : List (Fin 47 × BitVec 24)) (s : State), s.core.retested = false → s.Clocked → s.clock.stopped = false →
    s.core.retestDue = true →
    Completes (.powerOnRetestDone l rows) s fun t => t.core.retested = true ∧ t.core.retestDue = false ∧
      (let back := rows.map fun e => e.1.val * 2 ^ 24 + e.2.toNat
       t.mem.retired = s.mem.retired.filter (fun k => !back.contains k) ∧ t.hbmOut = s.hbmOut.filter fun k => !back.contains k) ∧
      (∀ e ∈ l, (t.block e.1).quarantine.contains e.2 = false) ∧
      (∀ b u, (b, u) ∉ l → (t.block b).quarantine.contains u = (s.block b).quarantine.contains u)) ∧
  (∀ (l : List (Block × Nat)) (rows : List (Fin 47 × BitVec 24)) (s : State), s.core.retested = false → s.Clocked → s.clock.stopped = false →
    s.core.retestDue = false →
    Completes (.powerOnRetestDone l rows) s fun t => t = { s with core := { s.core with retested := true, retestDue := false } }) ∧
  (∀ (l : List (Block × Nat)) (rows : List (Fin 47 × BitVec 24)) (s : State), s.core.retested = true →
    Completes (.powerOnRetestDone l rows) s fun t => t = s)

/-- A PCIe reset clears the MSI-X state, telemetry, trace ring and DMA channels, of which a serving core starts 14 and 15
again, and keeps memories and keys; a loss of the link with a request outstanding halts the engine with cause 4; the
end of configuration retry takes the host's settings; the restore runs once: without a copy its result is 2, with
another policy it only shows it, with policy 1 or 2 it restores; the wait for emergence ends in the ring or with
result 3 (log entries 16 to 18). Rests on spec/12_control_complex.md (R367, R373, R377, R379);
spec/13_dma_arbitration_memory.md (R395); spec/15_observability.md (R456, R462); spec/17_lifecycle.md (R489, R490,
R496, R497); spec/18_electrical_package.md (R521). -/
def Obligations.HostSideResetsAndTheRestore : Prop :=
  (∀ (k : PcieReset) (s : State),
    Completes (.pcieHotReset k) s fun t => t.msixEnable = false ∧ t.msixFnMask = false ∧ t.msixTable = [] ∧
      t.msixLatch = [] ∧ t.maxPayload = 128 ∧ t.tel = none ∧ t.on MG_OBS.TRACE_RING_CFG_RING_EN = false ∧
      (∀ c, c < 16 → t.on (DMA_ENG.CH_CTRL_RUN c) = (s.coreUp && decide (14 ≤ c)) ∧
        t.rd (DMA_ENG.CH_STATUS_STATE c) = (if s.coreUp ∧ 14 ≤ c then 0 else 4) ∧ t.dmaOf c = DmaChan.init ∧ (c < 14 → t.rd (DMA_ENG.HEAD_HEAD c) = 0 ∧ t.rd (DMA_ENG.TAIL_TAIL c) = 0)) ∧
      t.linkUp = (s.linkUp && decide (k ≠ PcieReset.linkDown ∧ k ≠ PcieReset.perst)) ∧
      t.perstLow = (s.perstLow || decide (k = PcieReset.perst)) ∧ KeepsMemory s t ∧ t.out = s.out ∧ t.keySlots = s.keySlots) ∧
  (∀ (k : PcieReset) (c : Nat) (s : State), (k = .linkDown ∨ k = .perst) → s.linkUp = true → s.dmaHalted = false → c < 16 →
    (∀ d, d < c → s.dmaPendingRequest d = none) → s.dmaPendingRequest c ≠ none →
    Completes (.pcieHotReset k) s fun t => t.dmaHalted = true ∧ t.rd DMA_ENG.ENG_STATUS_HALT_CAUSE = 4 ∧
      t.on (DMA_ENG.CH_STATUS_FAILED c) = true ∧ Counted Ev.DMA_ENG.engineHalt s t ∧
      ∀ addr last, s.dmaPendingRequest c = some (addr, last) →
        t.rd DMA_ENG.HALT_ADDR_LO_ADDR = addr % 2 ^ 32 ∧ t.rd (DMA_ENG.CH_STATUS_ERR c) = if last then 5 else 1) ∧
  (∀ s : State, Completes .smbusBusReset s fun t => t = s) ∧
  (∀ s : State, s.perstLow = true → Completes .pciePerstNRelease s fun t =>
    t = { s with perstLow := false, linkUp := s.clock.released, crs := true }) ∧
  (∀ s : State, s.perstLow = false → Completes .pciePerstNRelease s fun t => t = s) ∧
  (∀ (x : HostConfig) (s : State), s.clock.released = true → s.perstLow = false →
    Completes (.configurationRequestRetryEnd x) s fun t => t.crs = false ∧ t.linkUp = true ∧ t.msixEnable = x.msixEnable ∧
      t.msixFnMask = x.fnMask ∧
      t.maxPayload = (if x.maxPayload = 128 ∨ x.maxPayload = 256 ∨ x.maxPayload = 512 then x.maxPayload else s.maxPayload) ∧
      t = { s with crs := t.crs, linkUp := t.linkUp, msixEnable := t.msixEnable, msixFnMask := t.msixFnMask,
                   maxPayload := t.maxPayload }) ∧
  (∀ (x : HostConfig) (s : State), (s.clock.released = false ∨ s.perstLow = true) →
    Completes (.configurationRequestRetryEnd x) s fun t => t = s) ∧
  (∀ s : State, s.coreUp = true → s.Clocked → s.core.restored = false → s.cfgNewest.bind s.cfgCopy = none →
    Completes .configRestore s fun t => t.core.restored = true ∧ t.rd MG_CTL.RESTORE_STATUS_RESTORE_RESULT = 2 ∧
      KeepsFieldsBut [MG_CTL.RESTORE_STATUS_RESTORE_RESULT] s t ∧ t.bar2 = s.bar2) ∧
  (∀ (c : CfgCopy) (s : State), s.coreUp = true → s.Clocked → s.core.restored = false →
    s.cfgNewest.bind s.cfgCopy = some c → c.policy ≠ 1 → c.policy ≠ 2 →
    Completes .configRestore s fun t => t.core.restored = true ∧
      t.rd MG_CTL.RESTORE_STATUS_POLICY = c.policy % 2 ^ MG_CTL.RESTORE_STATUS_POLICY.width ∧
      KeepsFieldsBut [MG_CTL.RESTORE_STATUS_POLICY] s t ∧ t.bar2 = s.bar2) ∧
  (∀ (c : CfgCopy) (s : State), s.coreUp = true → s.Clocked → s.core.restored = false →
    s.cfgNewest.bind s.cfgCopy = some c → (c.policy = 1 ∨ c.policy = 2) →
    Completes .configRestore s fun t => t.core.restored = true ∧ t.rd MG_CTL.RESTORE_STATUS_RESTORE_RESULT = 1 ∧
      t.core.emergeWait = decide (c.policy = 2) ∧ Counted Ev.MG_CTL.configRestored s t) ∧
  (∀ s : State, s.coreUp = true → s.core.restored = true → Completes .configRestore s fun t => t = s) ∧
  (∀ s : State, s.coreUp = true → s.core.emergeWait = true → s.inRing = false → s.enabledPorts.isEmpty = false →
    (∀ p ∈ s.enabledPorts, s.acqSt p = acqAcquired ∧ s.txSt p = txOn) →
    Completes .restoreEmergeWaitEnd s fun t => t.core.emergeWait = false ∧ t.inRing = true ∧
      t.pins.bypassHold = ⟨true, true⟩ ∧ ∀ p ∈ s.enabledPorts, t.acqSt p = acqCdScan) ∧
  (∀ s : State, s.coreUp = true → s.core.emergeWait = true →
    (s.enabledPorts.isEmpty = true ∨ ∃ p ∈ s.enabledPorts, s.acqSt p ≠ acqAcquired ∨ s.txSt p ≠ txOn) →
    Completes .restoreEmergeWaitEnd s fun t => t.core.emergeWait = false ∧ t.inRing = s.inRing ∧
      t.rd MG_CTL.RESTORE_STATUS_RESTORE_RESULT = 3 ∧ t.pins = s.pins) ∧
  (∀ s : State, s.coreUp = true → s.core.emergeWait = false → Completes .restoreEmergeWaitEnd s fun t => t = s)

/-- A failed check of an encryption pipeline is redone, or spoils its word: as a double fault on the spare or beside
another, as no double fault without a spare that is free; one that waits to be classed is LASTING; a second fault of a
window on a lane of P1 or P2 zeroes the work of the lane and counts; one of a decoder moves its codeword to a free
spare, or leaves it undecoded as a double fault; one of a matcher or BCH decoder without a spare spoils its work and
waits to be classed (log entry 83); one of the ACTIVE core moults and counts the failed fetch; a classifying attempt
gives TRANSIENT or LASTING with quarantine; a self-test lets its unit eclose or quarantines it; units whose clock is
stopped do nothing; the management tick counts itself and the telemetry sequence. Rests on spec/01_architecture.md
(R19, R20, R25); spec/03_receive_front_end.md (R66); spec/10_clocks_references.md (R312, R316). -/
def Obligations.ChecksRetriesAndSelfTests : Prop :=
  (∀ (b : Block) (u : Nat) (i : CheckInfo) (s : State), (s.blockClocked b = false ∨ s.works b u = false) →
    Completes (.unitCheckFail b u i) s fun t => t = s) ∧
  (∀ (d : Fin 2) (u : Nat) (i : CheckInfo) (s : State), s.blockClocked (.aes d) = true → s.works (.aes d) u = true →
    i.onSpare = false → s.aesNear d i.cycle = false → (s.block (.aes d)).canRedo (.aes d) = true →
    (s.block (.aes d)).unclassified.contains u = false →
    Completes (.unitCheckFail (.aes d) u i) s fun t => Counted (Ev.CY_PIPE.redo d.val) s t ∧ t.aesBad = s.aesBad ∧
      t.block (.aes d) = s.block (.aes d) ∧ KeepsFieldsBut [] s t) ∧
  (∀ (d : Fin 2) (u : Nat) (i : CheckInfo) (s : State), s.blockClocked (.aes d) = true → s.works (.aes d) u = true →
    i.onSpare = true →
    Completes (.unitCheckFail (.aes d) u i) s fun t => Counted (Ev.CY_PIPE.doubleFault d.val) s t ∧
      t.aesBad = s.aesBad ++ [(decide (d = 1), i.num / 192, i.num % 192, i.stage)] ∧
      (t.block (.aes d)).testing.contains u = true ∧ KeepsFieldsBut [] s t) ∧
  (∀ (d : Fin 2) (u : Nat) (i : CheckInfo) (s : State), s.blockClocked (.aes d) = true → s.works (.aes d) u = true →
    i.onSpare = false → s.aesNear d i.cycle = true → s.deferred (.aes d) u = false →
    (s.block (.aes d)).quarantine.contains u = false →
    Completes (.unitCheckFail (.aes d) u i) s fun t => Counted (Ev.CY_PIPE.doubleFault d.val) s t ∧
      t.aesBad = s.aesBad ++ [(decide (d = 1), i.num / 192, i.num % 192, i.stage)] ∧
      t.deferred (.aes d) u = true ∧ KeepsFieldsBut [] s t) ∧
  (∀ (d : Fin 2) (u : Nat) (i : CheckInfo) (s : State), s.blockClocked (.aes d) = true → s.works (.aes d) u = true →
    i.onSpare = false → s.aesNear d i.cycle = true → s.deferred (.aes d) u = true →
    Completes (.unitCheckFail (.aes d) u i) s fun t => Counted (Ev.CY_PIPE.doubleFault d.val) s t ∧
      t.aesBad = s.aesBad ++ [(decide (d = 1), i.num / 192, i.num % 192, i.stage)] ∧
      (t.block (.aes d)).quarantine.contains u = true ∧ Counted Ev.CY_PIPE.lasting s t) ∧
  (∀ (d : Fin 2) (u : Nat) (i : CheckInfo) (s : State), s.blockClocked (.aes d) = true → s.works (.aes d) u = true →
    i.onSpare = false → s.aesNear d i.cycle = false → (s.block (.aes d)).canRedo (.aes d) = false →
    s.deferred (.aes d) u = false → (s.block (.aes d)).quarantine.contains u = false →
    Completes (.unitCheckFail (.aes d) u i) s fun t => t.cnt = s.cnt ∧
      t.aesBad = s.aesBad ++ [(decide (d = 1), i.num / 192, i.num % 192, i.stage)] ∧
      t.deferred (.aes d) u = true ∧ KeepsFieldsBut [] s t) ∧
  (∀ (p : Port) (b : Block) (u lane : Nat) (i : CheckInfo) (s : State), s.blockClocked b = true → s.works b u = true →
    b = .p1Lane p ∨ b = .p2Lane p → i.onSpare = false → (s.block b).placeOf b u = some lane → s.inWindow b i.cycle = true →
    s.deferred b u = false → (s.block b).quarantine.contains u = false →
    Completes (.unitCheckFail b u i) s fun t => Counted (Ev.RXEQ.doubleFault p) s t ∧ t.deferred b u = true ∧
      (t.rx.get p).zeroOnce.contains lane = true ∧ t.window = s.window ∧ KeepsFieldsBut [] s t) ∧
  (∀ (p : Port) (u v : Nat) (c : Codeword) (i : CheckInfo) (s : State), s.blockClocked (.decoder p) = true →
    s.works (.decoder p) u = true → ((s.fec.get p).store.find? fun c => c.num == i.num && c.decoder == u) = some c →
    c.redo = false → s.inWindow (.decoder p) i.cycle = false →
    s.deferred (.decoder p) u = false → s.freeSpare p = some v →
    Completes (.unitCheckFail (.decoder p) u i) s fun t => Counted (Ev.FEC.decoderRedo p) s t ∧
      (t.fec.get p).store = (s.fec.get p).store.map (fun c =>
        if c.num = i.num then { c with decoder := v, redo := true, status := .decoding } else c) ∧
      (t.fec.get p).repeating.contains u = true ∧ KeepsFieldsBut [] s t) ∧
  (∀ (p : Port) (u : Nat) (c : Codeword) (i : CheckInfo) (s : State), s.blockClocked (.decoder p) = true →
    s.works (.decoder p) u = true → ((s.fec.get p).store.find? fun c => c.num == i.num && c.decoder == u) = some c →
    (c.redo = true ∨ s.inWindow (.decoder p) i.cycle = true) →
    Completes (.unitCheckFail (.decoder p) u i) s fun t => Counted (Ev.FEC.doubleFault p) s t ∧
      (∀ w ∈ (t.fec.get p).store, w.num = i.num → w.status = .undecoded ∧ w.double = true) ∧
      (c.redo = true → (t.block (.decoder p)).testing.contains u = true)) ∧
  (∀ (p : Port) (u : Nat) (i : CheckInfo) (s : State),
    ((s.fec.get p).store.find? fun c => c.num == i.num && c.decoder == u) = none →
    Completes (.unitCheckFail (.decoder p) u i) s fun t => t = s) ∧
  (∀ (p : Port) (b : Block) (u : Nat) (i : CheckInfo) (s : State), s.blockClocked b = true → s.works b u = true →
    b = .matcher p ∨ b = .bchDecoder p → i.onSpare = false → s.inWindow b i.cycle = false →
    (s.block b).canRedo b = false →
    (s.block b).quarantine.contains u = false → s.deferred b u = false →
    Completes (.unitCheckFail b u i) s fun t => t.deferred b u = true ∧ t.inWindow b i.cycle = true ∧
      (b = .matcher p → (t.fec.get p).matcherBad = true) ∧ (b = .bchDecoder p → (t.fec.get p).bchBad = true) ∧
      KeepsFieldsBut [] s t ∧ t.cnt = s.cnt) ∧
  (∀ (u : Nat) (i : CheckInfo) (s : State), s.blockClocked .core = true → s.works .core u = true → u = s.activeCore →
    s.coreSt u = 1 → s.coreSt (1 - u) = 2 →
    Completes (.unitCheckFail .core u i) s fun t => t.activeCore = 1 - u ∧ t.coreSt u = 0 ∧ t.coreSt (1 - u) = 1 ∧
      Counted Ev.MG_CTL.emergency s t ∧ Counted Ev.MG_CTL.ueFetch s t) ∧
  (∀ (b : Block) (u : Nat) (i : CheckInfo) (s : State), s.blockClocked b = true → u < b.units →
    (s.block b).quarantine.contains u = false →
    (∃ p, b = .coefEngine p ∨ b = .p1Lane p ∨ b = .p2Lane p ∨ b = .matcher p ∨ b = .bchDecoder p) →
    Completes (.classifyingAttemptDone b u true i) s fun t =>
      t.counter b.page (transientOff b.page) = (s.counter b.page (transientOff b.page) + 1) % 2 ^ 64 ∧
      (t.block b).quarantine = (s.block b).quarantine ∧ t.deferred b u = false ∧ t.regs = s.regs) ∧
  (∀ (b : Block) (u : Nat) (i : CheckInfo) (s : State), s.blockClocked b = true → u < b.units →
    (s.block b).quarantine.contains u = false →
    (∃ p, b = .coefEngine p ∨ b = .p1Lane p ∨ b = .p2Lane p ∨ b = .matcher p ∨ b = .bchDecoder p) →
    Completes (.classifyingAttemptDone b u false i) s fun t =>
      t.counter b.page (lastingOff b.page) = (s.counter b.page (lastingOff b.page) + 1) % 2 ^ 64 ∧
      (t.block b).quarantine.contains u = true) ∧
  (∀ (b : Block) (u : Nat) (ok : Bool) (i : CheckInfo) (s : State), s.blockClocked b = false →
    ∀ c ∈ [Instr.classifyingAttemptDone b u ok i, Instr.spareSelfTestDone b u ok], Completes c s fun t => t = s) ∧
  (∀ (b : Block) (u : Nat) (s : State), s.blockClocked b = true → isConv b = false → u < b.units →
    (s.block b).quarantine.contains u = false → (s.block b).placeOf b u = none →
    Completes (.spareSelfTestDone b u true) s fun t => (t.block b).mayEclose u = true ∧
      (∀ c, c ≠ b → t.block c = s.block c) ∧ t = { s with spared := t.spared }) ∧
  (∀ (b : Block) (u : Nat) (s : State), s.blockClocked b = true → isConv b = false → u < b.units →
    (s.block b).quarantine.contains u = false → (s.block b).placeOf b u = none →
    Completes (.spareSelfTestDone b u false) s fun t => (t.block b).quarantine.contains u = true ∧
      t.counter b.page (lastingOff b.page) = (s.counter b.page (lastingOff b.page) + 1) % 2 ^ 64) ∧
  (∀ (x : TickInputs) (s : State), s.clock.stopped = true → Completes (.managementTick x) s fun t => t = s) ∧
  (∀ (x : TickInputs) (s : State), s.clock.stopped = false →
    Completes (.managementTick x) s fun t =>
      t.rd MG_CTL.TICK_COUNT_TICKS = (s.rd MG_CTL.TICK_COUNT_TICKS + 1) % 2 ^ MG_CTL.TICK_COUNT_TICKS.width ∧
      (s.Clocked → ∀ p,
        t.rd (SPAN.TEL_SEQ_SEQ p) = (s.rd (SPAN.TEL_SEQ_SEQ p) + 1) % 2 ^ 31 ∧
        t.rd (FEC.TEL_SEQ_SEQ p) = t.rd (SPAN.TEL_SEQ_SEQ p)))
end

