-- ==== Sys2Proof/Laws/Bits.lean ====
section
/-! SUPPORT. The laws of the bit helpers. -/

namespace Sys2Proof.Machine

theorem bitOf_eq_testBit (n i : Nat) : bitOf n i = n.testBit i := by
  simp [bitOf, Nat.testBit_eq_decide_div_mod_eq]

/-- A number as what lies above a bit, the bit, and what lies below. -/
theorem nat_split_at (n i : Nat) : n = (n / 2 ^ i / 2 * 2 + n / 2 ^ i % 2) * 2 ^ i + n % 2 ^ i := by
  have h1 := Nat.div_add_mod n (2 ^ i)
  have h2 := Nat.div_add_mod (n / 2 ^ i) 2
  have h3 : n / 2 ^ i / 2 * 2 + n / 2 ^ i % 2 = n / 2 ^ i := by omega
  rw [h3, Nat.mul_comm]; exact h1.symm

theorem setBit_eq (n i : Nat) (b : Bool) : setBit n i b = (n / 2 ^ i / 2 * 2 + bit b) * 2 ^ i + n % 2 ^ i := by
  have h := nat_split_at n i
  unfold setBit
  generalize hq : n / 2 ^ i = q at *
  generalize hr : n % 2 ^ i = r at *
  generalize hp : 2 ^ i = p at *
  have e1 : (q / 2 * 2 + q % 2) * p = q / 2 * 2 * p + q % 2 * p := Nat.add_mul _ _ _
  have e2 : (q / 2 * 2 + bit b) * p = q / 2 * 2 * p + bit b * p := Nat.add_mul _ _ _
  omega

theorem testBit_mul_add (q r p i : Nat) (h : r < 2 ^ i) : (q * 2 ^ i + r).testBit p = if p < i then r.testBit p else q.testBit (p - i) := by
  rw [Nat.mul_comm]; exact Nat.testBit_two_pow_mul_add q h p

/-- The bit just set. -/
@[simp] theorem bitOf_setBit_same (n i : Nat) (b : Bool) : bitOf (setBit n i b) i = b := by
  rw [bitOf_eq_testBit, setBit_eq, testBit_mul_add _ _ _ _ (Nat.mod_lt _ (Nat.two_pow_pos i))]
  cases b <;> simp [bit, Nat.testBit_zero]

/-- The other bits. -/
theorem bitOf_setBit_ne (n i j : Nat) (b : Bool) (h : i ≠ j) : bitOf (setBit n i b) j = bitOf n j := by
  rw [bitOf_eq_testBit, bitOf_eq_testBit, setBit_eq, testBit_mul_add _ _ _ _ (Nat.mod_lt _ (Nat.two_pow_pos i))]
  have hn := Nat.div_add_mod' n (2 ^ i)
  conv_rhs => rw [← hn, testBit_mul_add _ _ _ _ (Nat.mod_lt _ (Nat.two_pow_pos i))]
  split
  · rfl
  · have : j - i = (j - i - 1) + 1 := by omega
    rw [this, Nat.testBit_succ, Nat.testBit_succ]
    congr 1
    cases b <;> simp [bit]; omega

/-- A cut to `w` bits keeps the bits below `w`. -/
theorem bitOf_mod (n w i : Nat) (h : i < w) : bitOf (n % 2 ^ w) i = bitOf n i := by
  simp [bitOf_eq_testBit, Nat.testBit_mod_two_pow, h]

theorem bitOf_and (a b i : Nat) : bitOf (a &&& b) i = (bitOf a i && bitOf b i) := by
  simp [bitOf_eq_testBit]

theorem bitOf_xor (a b i : Nat) : bitOf (a ^^^ b) i = Bool.xor (bitOf a i) (bitOf b i) := by
  simp [bitOf_eq_testBit]

/-- The bits of a field of ones. -/
theorem bitOf_ones (w i : Nat) (h : i < w) : bitOf (2 ^ w - 1) i = true := by
  simp [bitOf_eq_testBit, Nat.testBit_two_pow_sub_one, h]

theorem bit_lt (b : Bool) : bit b < 2 := by cases b <;> decide

@[simp] theorem bit_true : bit true = 1 := rfl
@[simp] theorem bit_false : bit false = 0 := rfl

end Sys2Proof.Machine
end

