-- ==== Sys2Proof/Laws/State.lean ====
section
/-! SUPPORT. What each basic update leaves: one lemma per field of State and update, so that no proof unfolds a record. -/

namespace Sys2Proof.Machine

variable (s : State)


/-! ### `wr` -/

@[simp] theorem State.wr_pending (f : Field) (v : Nat) : (s.wr f v).pending = s.pending := rfl
@[simp] theorem State.wr_freeCount (f : Field) (v : Nat) : (s.wr f v).freeCount = s.freeCount := rfl
@[simp] theorem State.wr_out (f : Field) (v : Nat) : (s.wr f v).out = s.out := rfl
@[simp] theorem State.wr_act (f : Field) (v : Nat) : (s.wr f v).act = s.act := rfl
@[simp] theorem State.wr_held (f : Field) (v : Nat) : (s.wr f v).held = s.held := rfl
@[simp] theorem State.wr_cnt (f : Field) (v : Nat) : (s.wr f v).cnt = s.cnt := rfl
@[simp] theorem State.wr_latch (f : Field) (v : Nat) : (s.wr f v).latch = s.latch := rfl
@[simp] theorem State.wr_bar2 (f : Field) (v : Nat) : (s.wr f v).bar2 = s.bar2 := rfl
@[simp] theorem State.wr_flowCnt (f : Field) (v : Nat) : (s.wr f v).flowCnt = s.flowCnt := rfl
@[simp] theorem State.wr_snapPage (f : Field) (v : Nat) : (s.wr f v).snapPage = s.snapPage := rfl
@[simp] theorem State.wr_snapFlow (f : Field) (v : Nat) : (s.wr f v).snapFlow = s.snapFlow := rfl
@[simp] theorem State.wr_snapCap (f : Field) (v : Nat) : (s.wr f v).snapCap = s.snapCap := rfl
@[simp] theorem State.wr_snapCapFlow (f : Field) (v : Nat) : (s.wr f v).snapCapFlow = s.snapCapFlow := rfl
@[simp] theorem State.wr_snapReq (f : Field) (v : Nat) : (s.wr f v).snapReq = s.snapReq := rfl
@[simp] theorem State.wr_ecl (f : Field) (v : Nat) : (s.wr f v).ecl = s.ecl := rfl
@[simp] theorem State.wr_settling (f : Field) (v : Nat) : (s.wr f v).settling = s.settling := rfl
@[simp] theorem State.wr_msixLatch (f : Field) (v : Nat) : (s.wr f v).msixLatch = s.msixLatch := rfl
@[simp] theorem State.wr_msixTable (f : Field) (v : Nat) : (s.wr f v).msixTable = s.msixTable := rfl
@[simp] theorem State.wr_msixEnable (f : Field) (v : Nat) : (s.wr f v).msixEnable = s.msixEnable := rfl
@[simp] theorem State.wr_msixFnMask (f : Field) (v : Nat) : (s.wr f v).msixFnMask = s.msixFnMask := rfl
@[simp] theorem State.wr_linkUp (f : Field) (v : Nat) : (s.wr f v).linkUp = s.linkUp := rfl
@[simp] theorem State.wr_crs (f : Field) (v : Nat) : (s.wr f v).crs = s.crs := rfl
@[simp] theorem State.wr_perstLow (f : Field) (v : Nat) : (s.wr f v).perstLow = s.perstLow := rfl
@[simp] theorem State.wr_smbLast (f : Field) (v : Nat) : (s.wr f v).smbLast = s.smbLast := rfl
@[simp] theorem State.wr_pcieDevice (f : Field) (v : Nat) : (s.wr f v).pcieDevice = s.pcieDevice := rfl
@[simp] theorem State.wr_reported (f : Field) (v : Nat) : (s.wr f v).reported = s.reported := rfl
@[simp] theorem State.wr_spared (f : Field) (v : Nat) : (s.wr f v).spared = s.spared := rfl
@[simp] theorem State.wr_window (f : Field) (v : Nat) : (s.wr f v).window = s.window := rfl
@[simp] theorem State.wr_intLow (f : Field) (v : Nat) : (s.wr f v).intLow = s.intLow := rfl
@[simp] theorem State.wr_tx (f : Field) (v : Nat) : (s.wr f v).tx = s.tx := rfl
@[simp] theorem State.wr_rx (f : Field) (v : Nat) : (s.wr f v).rx = s.rx := rfl
@[simp] theorem State.wr_rxConv (f : Field) (v : Nat) : (s.wr f v).rxConv = s.rxConv := rfl
@[simp] theorem State.wr_txConv (f : Field) (v : Nat) : (s.wr f v).txConv = s.txConv := rfl
@[simp] theorem State.wr_calRun (f : Field) (v : Nat) : (s.wr f v).calRun = s.calRun := rfl
@[simp] theorem State.wr_fec (f : Field) (v : Nat) : (s.wr f v).fec = s.fec := rfl
@[simp] theorem State.wr_frame (f : Field) (v : Nat) : (s.wr f v).frame = s.frame := rfl
@[simp] theorem State.wr_pm (f : Field) (v : Nat) : (s.wr f v).pm = s.pm := rfl
@[simp] theorem State.wr_pmClock (f : Field) (v : Nat) : (s.wr f v).pmClock = s.pmClock := rfl
@[simp] theorem State.wr_dvInbox (f : Field) (v : Nat) : (s.wr f v).dvInbox = s.dvInbox := rfl
@[simp] theorem State.wr_lane (f : Field) (v : Nat) : (s.wr f v).lane = s.lane := rfl
@[simp] theorem State.wr_client (f : Field) (v : Nat) : (s.wr f v).client = s.client := rfl
@[simp] theorem State.wr_add (f : Field) (v : Nat) : (s.wr f v).add = s.add := rfl
@[simp] theorem State.wr_line (f : Field) (v : Nat) : (s.wr f v).line = s.line := rfl
@[simp] theorem State.wr_transit (f : Field) (v : Nat) : (s.wr f v).transit = s.transit := rfl
@[simp] theorem State.wr_drop (f : Field) (v : Nat) : (s.wr f v).drop = s.drop := rfl
@[simp] theorem State.wr_concat (f : Field) (v : Nat) : (s.wr f v).concat = s.concat := rfl
@[simp] theorem State.wr_chtest (f : Field) (v : Nat) : (s.wr f v).chtest = s.chtest := rfl
@[simp] theorem State.wr_bucket (f : Field) (v : Nat) : (s.wr f v).bucket = s.bucket := rfl
@[simp] theorem State.wr_shared (f : Field) (v : Nat) : (s.wr f v).shared = s.shared := rfl
@[simp] theorem State.wr_poolOver (f : Field) (v : Nat) : (s.wr f v).poolOver = s.poolOver := rfl
@[simp] theorem State.wr_poolUnder (f : Field) (v : Nat) : (s.wr f v).poolUnder = s.poolUnder := rfl
@[simp] theorem State.wr_headUsed (f : Field) (v : Nat) : (s.wr f v).headUsed = s.headUsed := rfl
@[simp] theorem State.wr_dropUsed (f : Field) (v : Nat) : (s.wr f v).dropUsed = s.dropUsed := rfl
@[simp] theorem State.wr_report (f : Field) (v : Nat) : (s.wr f v).report = s.report := rfl
@[simp] theorem State.wr_ring (f : Field) (v : Nat) : (s.wr f v).ring = s.ring := rfl
@[simp] theorem State.wr_neg (f : Field) (v : Nat) : (s.wr f v).neg = s.neg := rfl
@[simp] theorem State.wr_selector (f : Field) (v : Nat) : (s.wr f v).selector = s.selector := rfl
@[simp] theorem State.wr_hbmOut (f : Field) (v : Nat) : (s.wr f v).hbmOut = s.hbmOut := rfl
@[simp] theorem State.wr_prot (f : Field) (v : Nat) : (s.wr f v).prot = s.prot := rfl
@[simp] theorem State.wr_keySlots (f : Field) (v : Nat) : (s.wr f v).keySlots = s.keySlots := rfl
@[simp] theorem State.wr_chanKeys (f : Field) (v : Nat) : (s.wr f v).chanKeys = s.chanKeys := rfl
@[simp] theorem State.wr_keks (f : Field) (v : Nat) : (s.wr f v).keks = s.keks := rfl
@[simp] theorem State.wr_masters (f : Field) (v : Nat) : (s.wr f v).masters = s.masters := rfl
@[simp] theorem State.wr_wrapData (f : Field) (v : Nat) : (s.wr f v).wrapData = s.wrapData := rfl
@[simp] theorem State.wr_keyCmd (f : Field) (v : Nat) : (s.wr f v).keyCmd = s.keyCmd := rfl
@[simp] theorem State.wr_entropyFail (f : Field) (v : Nat) : (s.wr f v).entropyFail = s.entropyFail := rfl
@[simp] theorem State.wr_aesBad (f : Field) (v : Nat) : (s.wr f v).aesBad = s.aesBad := rfl
@[simp] theorem State.wr_tb (f : Field) (v : Nat) : (s.wr f v).tb = s.tb := rfl
@[simp] theorem State.wr_ppsInAt (f : Field) (v : Nat) : (s.wr f v).ppsInAt = s.ppsInAt := rfl
@[simp] theorem State.wr_todDue (f : Field) (v : Nat) : (s.wr f v).todDue = s.todDue := rfl
@[simp] theorem State.wr_fuses (f : Field) (v : Nat) : (s.wr f v).fuses = s.fuses := rfl
@[simp] theorem State.wr_flash (f : Field) (v : Nat) : (s.wr f v).flash = s.flash := rfl
@[simp] theorem State.wr_core (f : Field) (v : Nat) : (s.wr f v).core = s.core := rfl
@[simp] theorem State.wr_mbx (f : Field) (v : Nat) : (s.wr f v).mbx = s.mbx := rfl
@[simp] theorem State.wr_mbxOrder (f : Field) (v : Nat) : (s.wr f v).mbxOrder = s.mbxOrder := rfl
@[simp] theorem State.wr_tel (f : Field) (v : Nat) : (s.wr f v).tel = s.tel := rfl
@[simp] theorem State.wr_dma (f : Field) (v : Nat) : (s.wr f v).dma = s.dma := rfl
@[simp] theorem State.wr_sram (f : Field) (v : Nat) : (s.wr f v).sram = s.sram := rfl
@[simp] theorem State.wr_mem (f : Field) (v : Nat) : (s.wr f v).mem = s.mem := rfl
@[simp] theorem State.wr_maxPayload (f : Field) (v : Nat) : (s.wr f v).maxPayload = s.maxPayload := rfl
@[simp] theorem State.wr_mon (f : Field) (v : Nat) : (s.wr f v).mon = s.mon := rfl
@[simp] theorem State.wr_power (f : Field) (v : Nat) : (s.wr f v).power = s.power := rfl
@[simp] theorem State.wr_clock (f : Field) (v : Nat) : (s.wr f v).clock = s.clock := rfl
@[simp] theorem State.wr_ref (f : Field) (v : Nat) : (s.wr f v).ref = s.ref := rfl
@[simp] theorem State.wr_dpll (f : Field) (v : Nat) : (s.wr f v).dpll = s.dpll := rfl
@[simp] theorem State.wr_pins (f : Field) (v : Nat) : (s.wr f v).pins = s.pins := rfl
@[simp] theorem State.wr_trace (f : Field) (v : Nat) : (s.wr f v).trace = s.trace := rfl
@[simp] theorem State.wr_tickAt (f : Field) (v : Nat) : (s.wr f v).tickAt = s.tickAt := rfl
@[simp] theorem State.wr_tclk (f : Field) (v : Nat) : (s.wr f v).tclk = s.tclk := rfl

/-! ### `wrA` -/

@[simp] theorem State.wrA_pending (f : Field) (v : Nat) : (s.wrA f v).pending = s.pending := rfl
@[simp] theorem State.wrA_freeCount (f : Field) (v : Nat) : (s.wrA f v).freeCount = s.freeCount := rfl
@[simp] theorem State.wrA_out (f : Field) (v : Nat) : (s.wrA f v).out = s.out := rfl
@[simp] theorem State.wrA_regs (f : Field) (v : Nat) : (s.wrA f v).regs = s.regs := rfl
@[simp] theorem State.wrA_held (f : Field) (v : Nat) : (s.wrA f v).held = s.held := rfl
@[simp] theorem State.wrA_cnt (f : Field) (v : Nat) : (s.wrA f v).cnt = s.cnt := rfl
@[simp] theorem State.wrA_latch (f : Field) (v : Nat) : (s.wrA f v).latch = s.latch := rfl
@[simp] theorem State.wrA_bar2 (f : Field) (v : Nat) : (s.wrA f v).bar2 = s.bar2 := rfl
@[simp] theorem State.wrA_flowCnt (f : Field) (v : Nat) : (s.wrA f v).flowCnt = s.flowCnt := rfl
@[simp] theorem State.wrA_snapPage (f : Field) (v : Nat) : (s.wrA f v).snapPage = s.snapPage := rfl
@[simp] theorem State.wrA_snapFlow (f : Field) (v : Nat) : (s.wrA f v).snapFlow = s.snapFlow := rfl
@[simp] theorem State.wrA_snapCap (f : Field) (v : Nat) : (s.wrA f v).snapCap = s.snapCap := rfl
@[simp] theorem State.wrA_snapCapFlow (f : Field) (v : Nat) : (s.wrA f v).snapCapFlow = s.snapCapFlow := rfl
@[simp] theorem State.wrA_snapReq (f : Field) (v : Nat) : (s.wrA f v).snapReq = s.snapReq := rfl
@[simp] theorem State.wrA_ecl (f : Field) (v : Nat) : (s.wrA f v).ecl = s.ecl := rfl
@[simp] theorem State.wrA_settling (f : Field) (v : Nat) : (s.wrA f v).settling = s.settling := rfl
@[simp] theorem State.wrA_msixLatch (f : Field) (v : Nat) : (s.wrA f v).msixLatch = s.msixLatch := rfl
@[simp] theorem State.wrA_msixTable (f : Field) (v : Nat) : (s.wrA f v).msixTable = s.msixTable := rfl
@[simp] theorem State.wrA_msixEnable (f : Field) (v : Nat) : (s.wrA f v).msixEnable = s.msixEnable := rfl
@[simp] theorem State.wrA_msixFnMask (f : Field) (v : Nat) : (s.wrA f v).msixFnMask = s.msixFnMask := rfl
@[simp] theorem State.wrA_linkUp (f : Field) (v : Nat) : (s.wrA f v).linkUp = s.linkUp := rfl
@[simp] theorem State.wrA_crs (f : Field) (v : Nat) : (s.wrA f v).crs = s.crs := rfl
@[simp] theorem State.wrA_perstLow (f : Field) (v : Nat) : (s.wrA f v).perstLow = s.perstLow := rfl
@[simp] theorem State.wrA_smbLast (f : Field) (v : Nat) : (s.wrA f v).smbLast = s.smbLast := rfl
@[simp] theorem State.wrA_pcieDevice (f : Field) (v : Nat) : (s.wrA f v).pcieDevice = s.pcieDevice := rfl
@[simp] theorem State.wrA_reported (f : Field) (v : Nat) : (s.wrA f v).reported = s.reported := rfl
@[simp] theorem State.wrA_spared (f : Field) (v : Nat) : (s.wrA f v).spared = s.spared := rfl
@[simp] theorem State.wrA_window (f : Field) (v : Nat) : (s.wrA f v).window = s.window := rfl
@[simp] theorem State.wrA_intLow (f : Field) (v : Nat) : (s.wrA f v).intLow = s.intLow := rfl
@[simp] theorem State.wrA_tx (f : Field) (v : Nat) : (s.wrA f v).tx = s.tx := rfl
@[simp] theorem State.wrA_rx (f : Field) (v : Nat) : (s.wrA f v).rx = s.rx := rfl
@[simp] theorem State.wrA_rxConv (f : Field) (v : Nat) : (s.wrA f v).rxConv = s.rxConv := rfl
@[simp] theorem State.wrA_txConv (f : Field) (v : Nat) : (s.wrA f v).txConv = s.txConv := rfl
@[simp] theorem State.wrA_calRun (f : Field) (v : Nat) : (s.wrA f v).calRun = s.calRun := rfl
@[simp] theorem State.wrA_fec (f : Field) (v : Nat) : (s.wrA f v).fec = s.fec := rfl
@[simp] theorem State.wrA_frame (f : Field) (v : Nat) : (s.wrA f v).frame = s.frame := rfl
@[simp] theorem State.wrA_pm (f : Field) (v : Nat) : (s.wrA f v).pm = s.pm := rfl
@[simp] theorem State.wrA_pmClock (f : Field) (v : Nat) : (s.wrA f v).pmClock = s.pmClock := rfl
@[simp] theorem State.wrA_dvInbox (f : Field) (v : Nat) : (s.wrA f v).dvInbox = s.dvInbox := rfl
@[simp] theorem State.wrA_lane (f : Field) (v : Nat) : (s.wrA f v).lane = s.lane := rfl
@[simp] theorem State.wrA_client (f : Field) (v : Nat) : (s.wrA f v).client = s.client := rfl
@[simp] theorem State.wrA_add (f : Field) (v : Nat) : (s.wrA f v).add = s.add := rfl
@[simp] theorem State.wrA_line (f : Field) (v : Nat) : (s.wrA f v).line = s.line := rfl
@[simp] theorem State.wrA_transit (f : Field) (v : Nat) : (s.wrA f v).transit = s.transit := rfl
@[simp] theorem State.wrA_drop (f : Field) (v : Nat) : (s.wrA f v).drop = s.drop := rfl
@[simp] theorem State.wrA_concat (f : Field) (v : Nat) : (s.wrA f v).concat = s.concat := rfl
@[simp] theorem State.wrA_chtest (f : Field) (v : Nat) : (s.wrA f v).chtest = s.chtest := rfl
@[simp] theorem State.wrA_bucket (f : Field) (v : Nat) : (s.wrA f v).bucket = s.bucket := rfl
@[simp] theorem State.wrA_shared (f : Field) (v : Nat) : (s.wrA f v).shared = s.shared := rfl
@[simp] theorem State.wrA_poolOver (f : Field) (v : Nat) : (s.wrA f v).poolOver = s.poolOver := rfl
@[simp] theorem State.wrA_poolUnder (f : Field) (v : Nat) : (s.wrA f v).poolUnder = s.poolUnder := rfl
@[simp] theorem State.wrA_headUsed (f : Field) (v : Nat) : (s.wrA f v).headUsed = s.headUsed := rfl
@[simp] theorem State.wrA_dropUsed (f : Field) (v : Nat) : (s.wrA f v).dropUsed = s.dropUsed := rfl
@[simp] theorem State.wrA_report (f : Field) (v : Nat) : (s.wrA f v).report = s.report := rfl
@[simp] theorem State.wrA_ring (f : Field) (v : Nat) : (s.wrA f v).ring = s.ring := rfl
@[simp] theorem State.wrA_neg (f : Field) (v : Nat) : (s.wrA f v).neg = s.neg := rfl
@[simp] theorem State.wrA_selector (f : Field) (v : Nat) : (s.wrA f v).selector = s.selector := rfl
@[simp] theorem State.wrA_hbmOut (f : Field) (v : Nat) : (s.wrA f v).hbmOut = s.hbmOut := rfl
@[simp] theorem State.wrA_prot (f : Field) (v : Nat) : (s.wrA f v).prot = s.prot := rfl
@[simp] theorem State.wrA_keySlots (f : Field) (v : Nat) : (s.wrA f v).keySlots = s.keySlots := rfl
@[simp] theorem State.wrA_chanKeys (f : Field) (v : Nat) : (s.wrA f v).chanKeys = s.chanKeys := rfl
@[simp] theorem State.wrA_keks (f : Field) (v : Nat) : (s.wrA f v).keks = s.keks := rfl
@[simp] theorem State.wrA_masters (f : Field) (v : Nat) : (s.wrA f v).masters = s.masters := rfl
@[simp] theorem State.wrA_wrapData (f : Field) (v : Nat) : (s.wrA f v).wrapData = s.wrapData := rfl
@[simp] theorem State.wrA_keyCmd (f : Field) (v : Nat) : (s.wrA f v).keyCmd = s.keyCmd := rfl
@[simp] theorem State.wrA_entropyFail (f : Field) (v : Nat) : (s.wrA f v).entropyFail = s.entropyFail := rfl
@[simp] theorem State.wrA_aesBad (f : Field) (v : Nat) : (s.wrA f v).aesBad = s.aesBad := rfl
@[simp] theorem State.wrA_tb (f : Field) (v : Nat) : (s.wrA f v).tb = s.tb := rfl
@[simp] theorem State.wrA_ppsInAt (f : Field) (v : Nat) : (s.wrA f v).ppsInAt = s.ppsInAt := rfl
@[simp] theorem State.wrA_todDue (f : Field) (v : Nat) : (s.wrA f v).todDue = s.todDue := rfl
@[simp] theorem State.wrA_fuses (f : Field) (v : Nat) : (s.wrA f v).fuses = s.fuses := rfl
@[simp] theorem State.wrA_flash (f : Field) (v : Nat) : (s.wrA f v).flash = s.flash := rfl
@[simp] theorem State.wrA_core (f : Field) (v : Nat) : (s.wrA f v).core = s.core := rfl
@[simp] theorem State.wrA_mbx (f : Field) (v : Nat) : (s.wrA f v).mbx = s.mbx := rfl
@[simp] theorem State.wrA_mbxOrder (f : Field) (v : Nat) : (s.wrA f v).mbxOrder = s.mbxOrder := rfl
@[simp] theorem State.wrA_tel (f : Field) (v : Nat) : (s.wrA f v).tel = s.tel := rfl
@[simp] theorem State.wrA_dma (f : Field) (v : Nat) : (s.wrA f v).dma = s.dma := rfl
@[simp] theorem State.wrA_sram (f : Field) (v : Nat) : (s.wrA f v).sram = s.sram := rfl
@[simp] theorem State.wrA_mem (f : Field) (v : Nat) : (s.wrA f v).mem = s.mem := rfl
@[simp] theorem State.wrA_maxPayload (f : Field) (v : Nat) : (s.wrA f v).maxPayload = s.maxPayload := rfl
@[simp] theorem State.wrA_mon (f : Field) (v : Nat) : (s.wrA f v).mon = s.mon := rfl
@[simp] theorem State.wrA_power (f : Field) (v : Nat) : (s.wrA f v).power = s.power := rfl
@[simp] theorem State.wrA_clock (f : Field) (v : Nat) : (s.wrA f v).clock = s.clock := rfl
@[simp] theorem State.wrA_ref (f : Field) (v : Nat) : (s.wrA f v).ref = s.ref := rfl
@[simp] theorem State.wrA_dpll (f : Field) (v : Nat) : (s.wrA f v).dpll = s.dpll := rfl
@[simp] theorem State.wrA_pins (f : Field) (v : Nat) : (s.wrA f v).pins = s.pins := rfl
@[simp] theorem State.wrA_trace (f : Field) (v : Nat) : (s.wrA f v).trace = s.trace := rfl
@[simp] theorem State.wrA_tickAt (f : Field) (v : Nat) : (s.wrA f v).tickAt = s.tickAt := rfl
@[simp] theorem State.wrA_tclk (f : Field) (v : Nat) : (s.wrA f v).tclk = s.tclk := rfl

/-! ### `emit` -/

@[simp] theorem State.emit_pending (o : Out) : (s.emit o).pending = s.pending := rfl
@[simp] theorem State.emit_freeCount (o : Out) : (s.emit o).freeCount = s.freeCount := rfl
@[simp] theorem State.emit_regs (o : Out) : (s.emit o).regs = s.regs := rfl
@[simp] theorem State.emit_act (o : Out) : (s.emit o).act = s.act := rfl
@[simp] theorem State.emit_held (o : Out) : (s.emit o).held = s.held := rfl
@[simp] theorem State.emit_cnt (o : Out) : (s.emit o).cnt = s.cnt := rfl
@[simp] theorem State.emit_latch (o : Out) : (s.emit o).latch = s.latch := rfl
@[simp] theorem State.emit_bar2 (o : Out) : (s.emit o).bar2 = s.bar2 := rfl
@[simp] theorem State.emit_flowCnt (o : Out) : (s.emit o).flowCnt = s.flowCnt := rfl
@[simp] theorem State.emit_snapPage (o : Out) : (s.emit o).snapPage = s.snapPage := rfl
@[simp] theorem State.emit_snapFlow (o : Out) : (s.emit o).snapFlow = s.snapFlow := rfl
@[simp] theorem State.emit_snapCap (o : Out) : (s.emit o).snapCap = s.snapCap := rfl
@[simp] theorem State.emit_snapCapFlow (o : Out) : (s.emit o).snapCapFlow = s.snapCapFlow := rfl
@[simp] theorem State.emit_snapReq (o : Out) : (s.emit o).snapReq = s.snapReq := rfl
@[simp] theorem State.emit_ecl (o : Out) : (s.emit o).ecl = s.ecl := rfl
@[simp] theorem State.emit_settling (o : Out) : (s.emit o).settling = s.settling := rfl
@[simp] theorem State.emit_msixLatch (o : Out) : (s.emit o).msixLatch = s.msixLatch := rfl
@[simp] theorem State.emit_msixTable (o : Out) : (s.emit o).msixTable = s.msixTable := rfl
@[simp] theorem State.emit_msixEnable (o : Out) : (s.emit o).msixEnable = s.msixEnable := rfl
@[simp] theorem State.emit_msixFnMask (o : Out) : (s.emit o).msixFnMask = s.msixFnMask := rfl
@[simp] theorem State.emit_linkUp (o : Out) : (s.emit o).linkUp = s.linkUp := rfl
@[simp] theorem State.emit_crs (o : Out) : (s.emit o).crs = s.crs := rfl
@[simp] theorem State.emit_perstLow (o : Out) : (s.emit o).perstLow = s.perstLow := rfl
@[simp] theorem State.emit_smbLast (o : Out) : (s.emit o).smbLast = s.smbLast := rfl
@[simp] theorem State.emit_pcieDevice (o : Out) : (s.emit o).pcieDevice = s.pcieDevice := rfl
@[simp] theorem State.emit_reported (o : Out) : (s.emit o).reported = s.reported := rfl
@[simp] theorem State.emit_spared (o : Out) : (s.emit o).spared = s.spared := rfl
@[simp] theorem State.emit_window (o : Out) : (s.emit o).window = s.window := rfl
@[simp] theorem State.emit_intLow (o : Out) : (s.emit o).intLow = s.intLow := rfl
@[simp] theorem State.emit_tx (o : Out) : (s.emit o).tx = s.tx := rfl
@[simp] theorem State.emit_rx (o : Out) : (s.emit o).rx = s.rx := rfl
@[simp] theorem State.emit_rxConv (o : Out) : (s.emit o).rxConv = s.rxConv := rfl
@[simp] theorem State.emit_txConv (o : Out) : (s.emit o).txConv = s.txConv := rfl
@[simp] theorem State.emit_calRun (o : Out) : (s.emit o).calRun = s.calRun := rfl
@[simp] theorem State.emit_fec (o : Out) : (s.emit o).fec = s.fec := rfl
@[simp] theorem State.emit_frame (o : Out) : (s.emit o).frame = s.frame := rfl
@[simp] theorem State.emit_pm (o : Out) : (s.emit o).pm = s.pm := rfl
@[simp] theorem State.emit_pmClock (o : Out) : (s.emit o).pmClock = s.pmClock := rfl
@[simp] theorem State.emit_dvInbox (o : Out) : (s.emit o).dvInbox = s.dvInbox := rfl
@[simp] theorem State.emit_lane (o : Out) : (s.emit o).lane = s.lane := rfl
@[simp] theorem State.emit_client (o : Out) : (s.emit o).client = s.client := rfl
@[simp] theorem State.emit_add (o : Out) : (s.emit o).add = s.add := rfl
@[simp] theorem State.emit_line (o : Out) : (s.emit o).line = s.line := rfl
@[simp] theorem State.emit_transit (o : Out) : (s.emit o).transit = s.transit := rfl
@[simp] theorem State.emit_drop (o : Out) : (s.emit o).drop = s.drop := rfl
@[simp] theorem State.emit_concat (o : Out) : (s.emit o).concat = s.concat := rfl
@[simp] theorem State.emit_chtest (o : Out) : (s.emit o).chtest = s.chtest := rfl
@[simp] theorem State.emit_bucket (o : Out) : (s.emit o).bucket = s.bucket := rfl
@[simp] theorem State.emit_shared (o : Out) : (s.emit o).shared = s.shared := rfl
@[simp] theorem State.emit_poolOver (o : Out) : (s.emit o).poolOver = s.poolOver := rfl
@[simp] theorem State.emit_poolUnder (o : Out) : (s.emit o).poolUnder = s.poolUnder := rfl
@[simp] theorem State.emit_headUsed (o : Out) : (s.emit o).headUsed = s.headUsed := rfl
@[simp] theorem State.emit_dropUsed (o : Out) : (s.emit o).dropUsed = s.dropUsed := rfl
@[simp] theorem State.emit_report (o : Out) : (s.emit o).report = s.report := rfl
@[simp] theorem State.emit_ring (o : Out) : (s.emit o).ring = s.ring := rfl
@[simp] theorem State.emit_neg (o : Out) : (s.emit o).neg = s.neg := rfl
@[simp] theorem State.emit_selector (o : Out) : (s.emit o).selector = s.selector := rfl
@[simp] theorem State.emit_hbmOut (o : Out) : (s.emit o).hbmOut = s.hbmOut := rfl
@[simp] theorem State.emit_prot (o : Out) : (s.emit o).prot = s.prot := rfl
@[simp] theorem State.emit_keySlots (o : Out) : (s.emit o).keySlots = s.keySlots := rfl
@[simp] theorem State.emit_chanKeys (o : Out) : (s.emit o).chanKeys = s.chanKeys := rfl
@[simp] theorem State.emit_keks (o : Out) : (s.emit o).keks = s.keks := rfl
@[simp] theorem State.emit_masters (o : Out) : (s.emit o).masters = s.masters := rfl
@[simp] theorem State.emit_wrapData (o : Out) : (s.emit o).wrapData = s.wrapData := rfl
@[simp] theorem State.emit_keyCmd (o : Out) : (s.emit o).keyCmd = s.keyCmd := rfl
@[simp] theorem State.emit_entropyFail (o : Out) : (s.emit o).entropyFail = s.entropyFail := rfl
@[simp] theorem State.emit_aesBad (o : Out) : (s.emit o).aesBad = s.aesBad := rfl
@[simp] theorem State.emit_tb (o : Out) : (s.emit o).tb = s.tb := rfl
@[simp] theorem State.emit_ppsInAt (o : Out) : (s.emit o).ppsInAt = s.ppsInAt := rfl
@[simp] theorem State.emit_todDue (o : Out) : (s.emit o).todDue = s.todDue := rfl
@[simp] theorem State.emit_fuses (o : Out) : (s.emit o).fuses = s.fuses := rfl
@[simp] theorem State.emit_flash (o : Out) : (s.emit o).flash = s.flash := rfl
@[simp] theorem State.emit_core (o : Out) : (s.emit o).core = s.core := rfl
@[simp] theorem State.emit_mbx (o : Out) : (s.emit o).mbx = s.mbx := rfl
@[simp] theorem State.emit_mbxOrder (o : Out) : (s.emit o).mbxOrder = s.mbxOrder := rfl
@[simp] theorem State.emit_tel (o : Out) : (s.emit o).tel = s.tel := rfl
@[simp] theorem State.emit_dma (o : Out) : (s.emit o).dma = s.dma := rfl
@[simp] theorem State.emit_sram (o : Out) : (s.emit o).sram = s.sram := rfl
@[simp] theorem State.emit_mem (o : Out) : (s.emit o).mem = s.mem := rfl
@[simp] theorem State.emit_maxPayload (o : Out) : (s.emit o).maxPayload = s.maxPayload := rfl
@[simp] theorem State.emit_mon (o : Out) : (s.emit o).mon = s.mon := rfl
@[simp] theorem State.emit_power (o : Out) : (s.emit o).power = s.power := rfl
@[simp] theorem State.emit_clock (o : Out) : (s.emit o).clock = s.clock := rfl
@[simp] theorem State.emit_ref (o : Out) : (s.emit o).ref = s.ref := rfl
@[simp] theorem State.emit_dpll (o : Out) : (s.emit o).dpll = s.dpll := rfl
@[simp] theorem State.emit_pins (o : Out) : (s.emit o).pins = s.pins := rfl
@[simp] theorem State.emit_trace (o : Out) : (s.emit o).trace = s.trace := rfl
@[simp] theorem State.emit_tickAt (o : Out) : (s.emit o).tickAt = s.tickAt := rfl
@[simp] theorem State.emit_tclk (o : Out) : (s.emit o).tclk = s.tclk := rfl

/-! ### `useFree` -/

@[simp] theorem State.useFree_pending : (s.useFree).pending = s.pending := rfl
@[simp] theorem State.useFree_out : (s.useFree).out = s.out := rfl
@[simp] theorem State.useFree_regs : (s.useFree).regs = s.regs := rfl
@[simp] theorem State.useFree_act : (s.useFree).act = s.act := rfl
@[simp] theorem State.useFree_held : (s.useFree).held = s.held := rfl
@[simp] theorem State.useFree_cnt : (s.useFree).cnt = s.cnt := rfl
@[simp] theorem State.useFree_latch : (s.useFree).latch = s.latch := rfl
@[simp] theorem State.useFree_bar2 : (s.useFree).bar2 = s.bar2 := rfl
@[simp] theorem State.useFree_flowCnt : (s.useFree).flowCnt = s.flowCnt := rfl
@[simp] theorem State.useFree_snapPage : (s.useFree).snapPage = s.snapPage := rfl
@[simp] theorem State.useFree_snapFlow : (s.useFree).snapFlow = s.snapFlow := rfl
@[simp] theorem State.useFree_snapCap : (s.useFree).snapCap = s.snapCap := rfl
@[simp] theorem State.useFree_snapCapFlow : (s.useFree).snapCapFlow = s.snapCapFlow := rfl
@[simp] theorem State.useFree_snapReq : (s.useFree).snapReq = s.snapReq := rfl
@[simp] theorem State.useFree_ecl : (s.useFree).ecl = s.ecl := rfl
@[simp] theorem State.useFree_settling : (s.useFree).settling = s.settling := rfl
@[simp] theorem State.useFree_msixLatch : (s.useFree).msixLatch = s.msixLatch := rfl
@[simp] theorem State.useFree_msixTable : (s.useFree).msixTable = s.msixTable := rfl
@[simp] theorem State.useFree_msixEnable : (s.useFree).msixEnable = s.msixEnable := rfl
@[simp] theorem State.useFree_msixFnMask : (s.useFree).msixFnMask = s.msixFnMask := rfl
@[simp] theorem State.useFree_linkUp : (s.useFree).linkUp = s.linkUp := rfl
@[simp] theorem State.useFree_crs : (s.useFree).crs = s.crs := rfl
@[simp] theorem State.useFree_perstLow : (s.useFree).perstLow = s.perstLow := rfl
@[simp] theorem State.useFree_smbLast : (s.useFree).smbLast = s.smbLast := rfl
@[simp] theorem State.useFree_pcieDevice : (s.useFree).pcieDevice = s.pcieDevice := rfl
@[simp] theorem State.useFree_reported : (s.useFree).reported = s.reported := rfl
@[simp] theorem State.useFree_spared : (s.useFree).spared = s.spared := rfl
@[simp] theorem State.useFree_window : (s.useFree).window = s.window := rfl
@[simp] theorem State.useFree_intLow : (s.useFree).intLow = s.intLow := rfl
@[simp] theorem State.useFree_tx : (s.useFree).tx = s.tx := rfl
@[simp] theorem State.useFree_rx : (s.useFree).rx = s.rx := rfl
@[simp] theorem State.useFree_rxConv : (s.useFree).rxConv = s.rxConv := rfl
@[simp] theorem State.useFree_txConv : (s.useFree).txConv = s.txConv := rfl
@[simp] theorem State.useFree_calRun : (s.useFree).calRun = s.calRun := rfl
@[simp] theorem State.useFree_fec : (s.useFree).fec = s.fec := rfl
@[simp] theorem State.useFree_frame : (s.useFree).frame = s.frame := rfl
@[simp] theorem State.useFree_pm : (s.useFree).pm = s.pm := rfl
@[simp] theorem State.useFree_pmClock : (s.useFree).pmClock = s.pmClock := rfl
@[simp] theorem State.useFree_dvInbox : (s.useFree).dvInbox = s.dvInbox := rfl
@[simp] theorem State.useFree_lane : (s.useFree).lane = s.lane := rfl
@[simp] theorem State.useFree_client : (s.useFree).client = s.client := rfl
@[simp] theorem State.useFree_add : (s.useFree).add = s.add := rfl
@[simp] theorem State.useFree_line : (s.useFree).line = s.line := rfl
@[simp] theorem State.useFree_transit : (s.useFree).transit = s.transit := rfl
@[simp] theorem State.useFree_drop : (s.useFree).drop = s.drop := rfl
@[simp] theorem State.useFree_concat : (s.useFree).concat = s.concat := rfl
@[simp] theorem State.useFree_chtest : (s.useFree).chtest = s.chtest := rfl
@[simp] theorem State.useFree_bucket : (s.useFree).bucket = s.bucket := rfl
@[simp] theorem State.useFree_shared : (s.useFree).shared = s.shared := rfl
@[simp] theorem State.useFree_poolOver : (s.useFree).poolOver = s.poolOver := rfl
@[simp] theorem State.useFree_poolUnder : (s.useFree).poolUnder = s.poolUnder := rfl
@[simp] theorem State.useFree_headUsed : (s.useFree).headUsed = s.headUsed := rfl
@[simp] theorem State.useFree_dropUsed : (s.useFree).dropUsed = s.dropUsed := rfl
@[simp] theorem State.useFree_report : (s.useFree).report = s.report := rfl
@[simp] theorem State.useFree_ring : (s.useFree).ring = s.ring := rfl
@[simp] theorem State.useFree_neg : (s.useFree).neg = s.neg := rfl
@[simp] theorem State.useFree_selector : (s.useFree).selector = s.selector := rfl
@[simp] theorem State.useFree_hbmOut : (s.useFree).hbmOut = s.hbmOut := rfl
@[simp] theorem State.useFree_prot : (s.useFree).prot = s.prot := rfl
@[simp] theorem State.useFree_keySlots : (s.useFree).keySlots = s.keySlots := rfl
@[simp] theorem State.useFree_chanKeys : (s.useFree).chanKeys = s.chanKeys := rfl
@[simp] theorem State.useFree_keks : (s.useFree).keks = s.keks := rfl
@[simp] theorem State.useFree_masters : (s.useFree).masters = s.masters := rfl
@[simp] theorem State.useFree_wrapData : (s.useFree).wrapData = s.wrapData := rfl
@[simp] theorem State.useFree_keyCmd : (s.useFree).keyCmd = s.keyCmd := rfl
@[simp] theorem State.useFree_entropyFail : (s.useFree).entropyFail = s.entropyFail := rfl
@[simp] theorem State.useFree_aesBad : (s.useFree).aesBad = s.aesBad := rfl
@[simp] theorem State.useFree_tb : (s.useFree).tb = s.tb := rfl
@[simp] theorem State.useFree_ppsInAt : (s.useFree).ppsInAt = s.ppsInAt := rfl
@[simp] theorem State.useFree_todDue : (s.useFree).todDue = s.todDue := rfl
@[simp] theorem State.useFree_fuses : (s.useFree).fuses = s.fuses := rfl
@[simp] theorem State.useFree_flash : (s.useFree).flash = s.flash := rfl
@[simp] theorem State.useFree_core : (s.useFree).core = s.core := rfl
@[simp] theorem State.useFree_mbx : (s.useFree).mbx = s.mbx := rfl
@[simp] theorem State.useFree_mbxOrder : (s.useFree).mbxOrder = s.mbxOrder := rfl
@[simp] theorem State.useFree_tel : (s.useFree).tel = s.tel := rfl
@[simp] theorem State.useFree_dma : (s.useFree).dma = s.dma := rfl
@[simp] theorem State.useFree_sram : (s.useFree).sram = s.sram := rfl
@[simp] theorem State.useFree_mem : (s.useFree).mem = s.mem := rfl
@[simp] theorem State.useFree_maxPayload : (s.useFree).maxPayload = s.maxPayload := rfl
@[simp] theorem State.useFree_mon : (s.useFree).mon = s.mon := rfl
@[simp] theorem State.useFree_power : (s.useFree).power = s.power := rfl
@[simp] theorem State.useFree_clock : (s.useFree).clock = s.clock := rfl
@[simp] theorem State.useFree_ref : (s.useFree).ref = s.ref := rfl
@[simp] theorem State.useFree_dpll : (s.useFree).dpll = s.dpll := rfl
@[simp] theorem State.useFree_pins : (s.useFree).pins = s.pins := rfl
@[simp] theorem State.useFree_trace : (s.useFree).trace = s.trace := rfl
@[simp] theorem State.useFree_tickAt : (s.useFree).tickAt = s.tickAt := rfl
@[simp] theorem State.useFree_tclk : (s.useFree).tclk = s.tclk := rfl

/-! ### `latchVec` -/

@[simp] theorem State.latchVec_pending (v : Nat) : (s.latchVec v).pending = s.pending := rfl
@[simp] theorem State.latchVec_freeCount (v : Nat) : (s.latchVec v).freeCount = s.freeCount := rfl
@[simp] theorem State.latchVec_out (v : Nat) : (s.latchVec v).out = s.out := rfl
@[simp] theorem State.latchVec_regs (v : Nat) : (s.latchVec v).regs = s.regs := rfl
@[simp] theorem State.latchVec_act (v : Nat) : (s.latchVec v).act = s.act := rfl
@[simp] theorem State.latchVec_held (v : Nat) : (s.latchVec v).held = s.held := rfl
@[simp] theorem State.latchVec_cnt (v : Nat) : (s.latchVec v).cnt = s.cnt := rfl
@[simp] theorem State.latchVec_latch (v : Nat) : (s.latchVec v).latch = s.latch := rfl
@[simp] theorem State.latchVec_bar2 (v : Nat) : (s.latchVec v).bar2 = s.bar2 := rfl
@[simp] theorem State.latchVec_flowCnt (v : Nat) : (s.latchVec v).flowCnt = s.flowCnt := rfl
@[simp] theorem State.latchVec_snapPage (v : Nat) : (s.latchVec v).snapPage = s.snapPage := rfl
@[simp] theorem State.latchVec_snapFlow (v : Nat) : (s.latchVec v).snapFlow = s.snapFlow := rfl
@[simp] theorem State.latchVec_snapCap (v : Nat) : (s.latchVec v).snapCap = s.snapCap := rfl
@[simp] theorem State.latchVec_snapCapFlow (v : Nat) : (s.latchVec v).snapCapFlow = s.snapCapFlow := rfl
@[simp] theorem State.latchVec_snapReq (v : Nat) : (s.latchVec v).snapReq = s.snapReq := rfl
@[simp] theorem State.latchVec_ecl (v : Nat) : (s.latchVec v).ecl = s.ecl := rfl
@[simp] theorem State.latchVec_settling (v : Nat) : (s.latchVec v).settling = s.settling := rfl
@[simp] theorem State.latchVec_msixTable (v : Nat) : (s.latchVec v).msixTable = s.msixTable := rfl
@[simp] theorem State.latchVec_msixEnable (v : Nat) : (s.latchVec v).msixEnable = s.msixEnable := rfl
@[simp] theorem State.latchVec_msixFnMask (v : Nat) : (s.latchVec v).msixFnMask = s.msixFnMask := rfl
@[simp] theorem State.latchVec_linkUp (v : Nat) : (s.latchVec v).linkUp = s.linkUp := rfl
@[simp] theorem State.latchVec_crs (v : Nat) : (s.latchVec v).crs = s.crs := rfl
@[simp] theorem State.latchVec_perstLow (v : Nat) : (s.latchVec v).perstLow = s.perstLow := rfl
@[simp] theorem State.latchVec_smbLast (v : Nat) : (s.latchVec v).smbLast = s.smbLast := rfl
@[simp] theorem State.latchVec_pcieDevice (v : Nat) : (s.latchVec v).pcieDevice = s.pcieDevice := rfl
@[simp] theorem State.latchVec_reported (v : Nat) : (s.latchVec v).reported = s.reported := rfl
@[simp] theorem State.latchVec_spared (v : Nat) : (s.latchVec v).spared = s.spared := rfl
@[simp] theorem State.latchVec_window (v : Nat) : (s.latchVec v).window = s.window := rfl
@[simp] theorem State.latchVec_intLow (v : Nat) : (s.latchVec v).intLow = s.intLow := rfl
@[simp] theorem State.latchVec_tx (v : Nat) : (s.latchVec v).tx = s.tx := rfl
@[simp] theorem State.latchVec_rx (v : Nat) : (s.latchVec v).rx = s.rx := rfl
@[simp] theorem State.latchVec_rxConv (v : Nat) : (s.latchVec v).rxConv = s.rxConv := rfl
@[simp] theorem State.latchVec_txConv (v : Nat) : (s.latchVec v).txConv = s.txConv := rfl
@[simp] theorem State.latchVec_calRun (v : Nat) : (s.latchVec v).calRun = s.calRun := rfl
@[simp] theorem State.latchVec_fec (v : Nat) : (s.latchVec v).fec = s.fec := rfl
@[simp] theorem State.latchVec_frame (v : Nat) : (s.latchVec v).frame = s.frame := rfl
@[simp] theorem State.latchVec_pm (v : Nat) : (s.latchVec v).pm = s.pm := rfl
@[simp] theorem State.latchVec_pmClock (v : Nat) : (s.latchVec v).pmClock = s.pmClock := rfl
@[simp] theorem State.latchVec_dvInbox (v : Nat) : (s.latchVec v).dvInbox = s.dvInbox := rfl
@[simp] theorem State.latchVec_lane (v : Nat) : (s.latchVec v).lane = s.lane := rfl
@[simp] theorem State.latchVec_client (v : Nat) : (s.latchVec v).client = s.client := rfl
@[simp] theorem State.latchVec_add (v : Nat) : (s.latchVec v).add = s.add := rfl
@[simp] theorem State.latchVec_line (v : Nat) : (s.latchVec v).line = s.line := rfl
@[simp] theorem State.latchVec_transit (v : Nat) : (s.latchVec v).transit = s.transit := rfl
@[simp] theorem State.latchVec_drop (v : Nat) : (s.latchVec v).drop = s.drop := rfl
@[simp] theorem State.latchVec_concat (v : Nat) : (s.latchVec v).concat = s.concat := rfl
@[simp] theorem State.latchVec_chtest (v : Nat) : (s.latchVec v).chtest = s.chtest := rfl
@[simp] theorem State.latchVec_bucket (v : Nat) : (s.latchVec v).bucket = s.bucket := rfl
@[simp] theorem State.latchVec_shared (v : Nat) : (s.latchVec v).shared = s.shared := rfl
@[simp] theorem State.latchVec_poolOver (v : Nat) : (s.latchVec v).poolOver = s.poolOver := rfl
@[simp] theorem State.latchVec_poolUnder (v : Nat) : (s.latchVec v).poolUnder = s.poolUnder := rfl
@[simp] theorem State.latchVec_headUsed (v : Nat) : (s.latchVec v).headUsed = s.headUsed := rfl
@[simp] theorem State.latchVec_dropUsed (v : Nat) : (s.latchVec v).dropUsed = s.dropUsed := rfl
@[simp] theorem State.latchVec_report (v : Nat) : (s.latchVec v).report = s.report := rfl
@[simp] theorem State.latchVec_ring (v : Nat) : (s.latchVec v).ring = s.ring := rfl
@[simp] theorem State.latchVec_neg (v : Nat) : (s.latchVec v).neg = s.neg := rfl
@[simp] theorem State.latchVec_selector (v : Nat) : (s.latchVec v).selector = s.selector := rfl
@[simp] theorem State.latchVec_hbmOut (v : Nat) : (s.latchVec v).hbmOut = s.hbmOut := rfl
@[simp] theorem State.latchVec_prot (v : Nat) : (s.latchVec v).prot = s.prot := rfl
@[simp] theorem State.latchVec_keySlots (v : Nat) : (s.latchVec v).keySlots = s.keySlots := rfl
@[simp] theorem State.latchVec_chanKeys (v : Nat) : (s.latchVec v).chanKeys = s.chanKeys := rfl
@[simp] theorem State.latchVec_keks (v : Nat) : (s.latchVec v).keks = s.keks := rfl
@[simp] theorem State.latchVec_masters (v : Nat) : (s.latchVec v).masters = s.masters := rfl
@[simp] theorem State.latchVec_wrapData (v : Nat) : (s.latchVec v).wrapData = s.wrapData := rfl
@[simp] theorem State.latchVec_keyCmd (v : Nat) : (s.latchVec v).keyCmd = s.keyCmd := rfl
@[simp] theorem State.latchVec_entropyFail (v : Nat) : (s.latchVec v).entropyFail = s.entropyFail := rfl
@[simp] theorem State.latchVec_aesBad (v : Nat) : (s.latchVec v).aesBad = s.aesBad := rfl
@[simp] theorem State.latchVec_tb (v : Nat) : (s.latchVec v).tb = s.tb := rfl
@[simp] theorem State.latchVec_ppsInAt (v : Nat) : (s.latchVec v).ppsInAt = s.ppsInAt := rfl
@[simp] theorem State.latchVec_todDue (v : Nat) : (s.latchVec v).todDue = s.todDue := rfl
@[simp] theorem State.latchVec_fuses (v : Nat) : (s.latchVec v).fuses = s.fuses := rfl
@[simp] theorem State.latchVec_flash (v : Nat) : (s.latchVec v).flash = s.flash := rfl
@[simp] theorem State.latchVec_core (v : Nat) : (s.latchVec v).core = s.core := rfl
@[simp] theorem State.latchVec_mbx (v : Nat) : (s.latchVec v).mbx = s.mbx := rfl
@[simp] theorem State.latchVec_mbxOrder (v : Nat) : (s.latchVec v).mbxOrder = s.mbxOrder := rfl
@[simp] theorem State.latchVec_tel (v : Nat) : (s.latchVec v).tel = s.tel := rfl
@[simp] theorem State.latchVec_dma (v : Nat) : (s.latchVec v).dma = s.dma := rfl
@[simp] theorem State.latchVec_sram (v : Nat) : (s.latchVec v).sram = s.sram := rfl
@[simp] theorem State.latchVec_mem (v : Nat) : (s.latchVec v).mem = s.mem := rfl
@[simp] theorem State.latchVec_maxPayload (v : Nat) : (s.latchVec v).maxPayload = s.maxPayload := rfl
@[simp] theorem State.latchVec_mon (v : Nat) : (s.latchVec v).mon = s.mon := rfl
@[simp] theorem State.latchVec_power (v : Nat) : (s.latchVec v).power = s.power := rfl
@[simp] theorem State.latchVec_clock (v : Nat) : (s.latchVec v).clock = s.clock := rfl
@[simp] theorem State.latchVec_ref (v : Nat) : (s.latchVec v).ref = s.ref := rfl
@[simp] theorem State.latchVec_dpll (v : Nat) : (s.latchVec v).dpll = s.dpll := rfl
@[simp] theorem State.latchVec_pins (v : Nat) : (s.latchVec v).pins = s.pins := rfl
@[simp] theorem State.latchVec_trace (v : Nat) : (s.latchVec v).trace = s.trace := rfl
@[simp] theorem State.latchVec_tickAt (v : Nat) : (s.latchVec v).tickAt = s.tickAt := rfl
@[simp] theorem State.latchVec_tclk (v : Nat) : (s.latchVec v).tclk = s.tclk := rfl

/-! ### `setTabWord` -/

@[simp] theorem State.setTabWord_pending (off v : Nat) : (s.setTabWord off v).pending = s.pending := rfl
@[simp] theorem State.setTabWord_freeCount (off v : Nat) : (s.setTabWord off v).freeCount = s.freeCount := rfl
@[simp] theorem State.setTabWord_out (off v : Nat) : (s.setTabWord off v).out = s.out := rfl
@[simp] theorem State.setTabWord_regs (off v : Nat) : (s.setTabWord off v).regs = s.regs := rfl
@[simp] theorem State.setTabWord_act (off v : Nat) : (s.setTabWord off v).act = s.act := rfl
@[simp] theorem State.setTabWord_held (off v : Nat) : (s.setTabWord off v).held = s.held := rfl
@[simp] theorem State.setTabWord_cnt (off v : Nat) : (s.setTabWord off v).cnt = s.cnt := rfl
@[simp] theorem State.setTabWord_latch (off v : Nat) : (s.setTabWord off v).latch = s.latch := rfl
@[simp] theorem State.setTabWord_flowCnt (off v : Nat) : (s.setTabWord off v).flowCnt = s.flowCnt := rfl
@[simp] theorem State.setTabWord_snapPage (off v : Nat) : (s.setTabWord off v).snapPage = s.snapPage := rfl
@[simp] theorem State.setTabWord_snapFlow (off v : Nat) : (s.setTabWord off v).snapFlow = s.snapFlow := rfl
@[simp] theorem State.setTabWord_snapCap (off v : Nat) : (s.setTabWord off v).snapCap = s.snapCap := rfl
@[simp] theorem State.setTabWord_snapCapFlow (off v : Nat) : (s.setTabWord off v).snapCapFlow = s.snapCapFlow := rfl
@[simp] theorem State.setTabWord_snapReq (off v : Nat) : (s.setTabWord off v).snapReq = s.snapReq := rfl
@[simp] theorem State.setTabWord_ecl (off v : Nat) : (s.setTabWord off v).ecl = s.ecl := rfl
@[simp] theorem State.setTabWord_settling (off v : Nat) : (s.setTabWord off v).settling = s.settling := rfl
@[simp] theorem State.setTabWord_msixLatch (off v : Nat) : (s.setTabWord off v).msixLatch = s.msixLatch := rfl
@[simp] theorem State.setTabWord_msixTable (off v : Nat) : (s.setTabWord off v).msixTable = s.msixTable := rfl
@[simp] theorem State.setTabWord_msixEnable (off v : Nat) : (s.setTabWord off v).msixEnable = s.msixEnable := rfl
@[simp] theorem State.setTabWord_msixFnMask (off v : Nat) : (s.setTabWord off v).msixFnMask = s.msixFnMask := rfl
@[simp] theorem State.setTabWord_linkUp (off v : Nat) : (s.setTabWord off v).linkUp = s.linkUp := rfl
@[simp] theorem State.setTabWord_crs (off v : Nat) : (s.setTabWord off v).crs = s.crs := rfl
@[simp] theorem State.setTabWord_perstLow (off v : Nat) : (s.setTabWord off v).perstLow = s.perstLow := rfl
@[simp] theorem State.setTabWord_smbLast (off v : Nat) : (s.setTabWord off v).smbLast = s.smbLast := rfl
@[simp] theorem State.setTabWord_pcieDevice (off v : Nat) : (s.setTabWord off v).pcieDevice = s.pcieDevice := rfl
@[simp] theorem State.setTabWord_reported (off v : Nat) : (s.setTabWord off v).reported = s.reported := rfl
@[simp] theorem State.setTabWord_spared (off v : Nat) : (s.setTabWord off v).spared = s.spared := rfl
@[simp] theorem State.setTabWord_window (off v : Nat) : (s.setTabWord off v).window = s.window := rfl
@[simp] theorem State.setTabWord_intLow (off v : Nat) : (s.setTabWord off v).intLow = s.intLow := rfl
@[simp] theorem State.setTabWord_tx (off v : Nat) : (s.setTabWord off v).tx = s.tx := rfl
@[simp] theorem State.setTabWord_rx (off v : Nat) : (s.setTabWord off v).rx = s.rx := rfl
@[simp] theorem State.setTabWord_rxConv (off v : Nat) : (s.setTabWord off v).rxConv = s.rxConv := rfl
@[simp] theorem State.setTabWord_txConv (off v : Nat) : (s.setTabWord off v).txConv = s.txConv := rfl
@[simp] theorem State.setTabWord_calRun (off v : Nat) : (s.setTabWord off v).calRun = s.calRun := rfl
@[simp] theorem State.setTabWord_fec (off v : Nat) : (s.setTabWord off v).fec = s.fec := rfl
@[simp] theorem State.setTabWord_frame (off v : Nat) : (s.setTabWord off v).frame = s.frame := rfl
@[simp] theorem State.setTabWord_pm (off v : Nat) : (s.setTabWord off v).pm = s.pm := rfl
@[simp] theorem State.setTabWord_pmClock (off v : Nat) : (s.setTabWord off v).pmClock = s.pmClock := rfl
@[simp] theorem State.setTabWord_dvInbox (off v : Nat) : (s.setTabWord off v).dvInbox = s.dvInbox := rfl
@[simp] theorem State.setTabWord_lane (off v : Nat) : (s.setTabWord off v).lane = s.lane := rfl
@[simp] theorem State.setTabWord_client (off v : Nat) : (s.setTabWord off v).client = s.client := rfl
@[simp] theorem State.setTabWord_add (off v : Nat) : (s.setTabWord off v).add = s.add := rfl
@[simp] theorem State.setTabWord_line (off v : Nat) : (s.setTabWord off v).line = s.line := rfl
@[simp] theorem State.setTabWord_transit (off v : Nat) : (s.setTabWord off v).transit = s.transit := rfl
@[simp] theorem State.setTabWord_drop (off v : Nat) : (s.setTabWord off v).drop = s.drop := rfl
@[simp] theorem State.setTabWord_concat (off v : Nat) : (s.setTabWord off v).concat = s.concat := rfl
@[simp] theorem State.setTabWord_chtest (off v : Nat) : (s.setTabWord off v).chtest = s.chtest := rfl
@[simp] theorem State.setTabWord_bucket (off v : Nat) : (s.setTabWord off v).bucket = s.bucket := rfl
@[simp] theorem State.setTabWord_shared (off v : Nat) : (s.setTabWord off v).shared = s.shared := rfl
@[simp] theorem State.setTabWord_poolOver (off v : Nat) : (s.setTabWord off v).poolOver = s.poolOver := rfl
@[simp] theorem State.setTabWord_poolUnder (off v : Nat) : (s.setTabWord off v).poolUnder = s.poolUnder := rfl
@[simp] theorem State.setTabWord_headUsed (off v : Nat) : (s.setTabWord off v).headUsed = s.headUsed := rfl
@[simp] theorem State.setTabWord_dropUsed (off v : Nat) : (s.setTabWord off v).dropUsed = s.dropUsed := rfl
@[simp] theorem State.setTabWord_report (off v : Nat) : (s.setTabWord off v).report = s.report := rfl
@[simp] theorem State.setTabWord_ring (off v : Nat) : (s.setTabWord off v).ring = s.ring := rfl
@[simp] theorem State.setTabWord_neg (off v : Nat) : (s.setTabWord off v).neg = s.neg := rfl
@[simp] theorem State.setTabWord_selector (off v : Nat) : (s.setTabWord off v).selector = s.selector := rfl
@[simp] theorem State.setTabWord_hbmOut (off v : Nat) : (s.setTabWord off v).hbmOut = s.hbmOut := rfl
@[simp] theorem State.setTabWord_prot (off v : Nat) : (s.setTabWord off v).prot = s.prot := rfl
@[simp] theorem State.setTabWord_keySlots (off v : Nat) : (s.setTabWord off v).keySlots = s.keySlots := rfl
@[simp] theorem State.setTabWord_chanKeys (off v : Nat) : (s.setTabWord off v).chanKeys = s.chanKeys := rfl
@[simp] theorem State.setTabWord_keks (off v : Nat) : (s.setTabWord off v).keks = s.keks := rfl
@[simp] theorem State.setTabWord_masters (off v : Nat) : (s.setTabWord off v).masters = s.masters := rfl
@[simp] theorem State.setTabWord_wrapData (off v : Nat) : (s.setTabWord off v).wrapData = s.wrapData := rfl
@[simp] theorem State.setTabWord_keyCmd (off v : Nat) : (s.setTabWord off v).keyCmd = s.keyCmd := rfl
@[simp] theorem State.setTabWord_entropyFail (off v : Nat) : (s.setTabWord off v).entropyFail = s.entropyFail := rfl
@[simp] theorem State.setTabWord_aesBad (off v : Nat) : (s.setTabWord off v).aesBad = s.aesBad := rfl
@[simp] theorem State.setTabWord_tb (off v : Nat) : (s.setTabWord off v).tb = s.tb := rfl
@[simp] theorem State.setTabWord_ppsInAt (off v : Nat) : (s.setTabWord off v).ppsInAt = s.ppsInAt := rfl
@[simp] theorem State.setTabWord_todDue (off v : Nat) : (s.setTabWord off v).todDue = s.todDue := rfl
@[simp] theorem State.setTabWord_fuses (off v : Nat) : (s.setTabWord off v).fuses = s.fuses := rfl
@[simp] theorem State.setTabWord_flash (off v : Nat) : (s.setTabWord off v).flash = s.flash := rfl
@[simp] theorem State.setTabWord_core (off v : Nat) : (s.setTabWord off v).core = s.core := rfl
@[simp] theorem State.setTabWord_mbx (off v : Nat) : (s.setTabWord off v).mbx = s.mbx := rfl
@[simp] theorem State.setTabWord_mbxOrder (off v : Nat) : (s.setTabWord off v).mbxOrder = s.mbxOrder := rfl
@[simp] theorem State.setTabWord_tel (off v : Nat) : (s.setTabWord off v).tel = s.tel := rfl
@[simp] theorem State.setTabWord_dma (off v : Nat) : (s.setTabWord off v).dma = s.dma := rfl
@[simp] theorem State.setTabWord_sram (off v : Nat) : (s.setTabWord off v).sram = s.sram := rfl
@[simp] theorem State.setTabWord_mem (off v : Nat) : (s.setTabWord off v).mem = s.mem := rfl
@[simp] theorem State.setTabWord_maxPayload (off v : Nat) : (s.setTabWord off v).maxPayload = s.maxPayload := rfl
@[simp] theorem State.setTabWord_mon (off v : Nat) : (s.setTabWord off v).mon = s.mon := rfl
@[simp] theorem State.setTabWord_power (off v : Nat) : (s.setTabWord off v).power = s.power := rfl
@[simp] theorem State.setTabWord_clock (off v : Nat) : (s.setTabWord off v).clock = s.clock := rfl
@[simp] theorem State.setTabWord_ref (off v : Nat) : (s.setTabWord off v).ref = s.ref := rfl
@[simp] theorem State.setTabWord_dpll (off v : Nat) : (s.setTabWord off v).dpll = s.dpll := rfl
@[simp] theorem State.setTabWord_pins (off v : Nat) : (s.setTabWord off v).pins = s.pins := rfl
@[simp] theorem State.setTabWord_trace (off v : Nat) : (s.setTabWord off v).trace = s.trace := rfl
@[simp] theorem State.setTabWord_tickAt (off v : Nat) : (s.setTabWord off v).tickAt = s.tickAt := rfl
@[simp] theorem State.setTabWord_tclk (off v : Nat) : (s.setTabWord off v).tclk = s.tclk := rfl

end Sys2Proof.Machine
end

