-- ==== Sys2Proof/Laws/Tab.lean ====
section
/-! SUPPORT. The laws of sparse tables: reading what was written, other keys, and the canonical form. -/

namespace Sys2Proof.Machine

variable {α : Type}

theorem Tab.get_erase_same (d : α) (t : Tab α) (k : Nat) : Tab.get d (Tab.erase t k) k = d := by
  induction t with
  | nil => rfl
  | cons e t ih =>
    obtain ⟨k', v⟩ := e
    simp only [Tab.erase]
    split
    · exact ih
    · simp [Tab.get, *]

theorem Tab.get_erase_ne (d : α) (t : Tab α) {k j : Nat} (h : k ≠ j) : Tab.get d (Tab.erase t k) j = Tab.get d t j := by
  induction t with
  | nil => rfl
  | cons e t ih =>
    obtain ⟨k', v⟩ := e
    simp only [Tab.erase]
    split
    · next hk => subst hk; simp [Tab.get, ih, h]
    · simp [Tab.get, ih]

theorem Tab.get_insert_same (d : α) (t : Tab α) (k : Nat) (v : α) : Tab.get d (Tab.insert t k v) k = v := by
  induction t with
  | nil => simp [Tab.insert, Tab.get]
  | cons e t ih =>
    obtain ⟨k', v'⟩ := e
    simp only [Tab.insert]
    split
    · simp [Tab.get]
    · split
      · simp [Tab.get]
      · next h1 h2 => simp [Tab.get, ih, Ne.symm h2]

theorem Tab.get_insert_ne (d : α) (t : Tab α) {k j : Nat} (v : α) (h : k ≠ j) :
    Tab.get d (Tab.insert t k v) j = Tab.get d t j := by
  induction t with
  | nil => simp [Tab.insert, Tab.get, h]
  | cons e t ih =>
    obtain ⟨k', v'⟩ := e
    simp only [Tab.insert]
    split
    · simp [Tab.get, h]
    · split
      · next h1 h2 => subst h2; simp [Tab.get, h]
      · simp [Tab.get, ih]

/-- Reading a key just written. -/
@[simp] theorem Tab.get_set_same [DecidableEq α] (d : α) (t : Tab α) (k : Nat) (v : α) :
    Tab.get d (Tab.set d t k v) k = v := by
  unfold Tab.set
  split
  · next h => rw [Tab.get_erase_same, h]
  · exact Tab.get_insert_same d t k v

/-- Writing one key leaves the others. -/
theorem Tab.get_set_ne [DecidableEq α] (d e : α) (t : Tab α) {k j : Nat} (v : α) (h : k ≠ j) :
    Tab.get d (Tab.set e t k v) j = Tab.get d t j := by
  unfold Tab.set
  split
  · exact Tab.get_erase_ne d t h
  · exact Tab.get_insert_ne d t v h

@[simp] theorem Tab.get_upd_same [DecidableEq α] (d : α) (t : Tab α) (k : Nat) (f : α → α) :
    Tab.get d (Tab.upd d t k f) k = f (Tab.get d t k) := Tab.get_set_same d t k _

theorem Tab.get_upd_ne [DecidableEq α] (d : α) (t : Tab α) {k j : Nat} (f : α → α) (h : k ≠ j) :
    Tab.get d (Tab.upd d t k f) j = Tab.get d t j := Tab.get_set_ne d d t _ h

/-! ### The canonical form -/

theorem Tab.sorted_cons {k : Nat} {v : α} {t : Tab α} :
    Tab.sorted ((k, v) :: t) = true ↔ (∀ e ∈ t, k < e.1) ∧ Tab.sorted t = true := by
  induction t generalizing k v with
  | nil => simp [Tab.sorted]
  | cons e t ih =>
    obtain ⟨k', v'⟩ := e
    simp only [Tab.sorted, Bool.and_eq_true, decide_eq_true_eq, List.mem_cons]
    constructor
    · rintro ⟨h, hs⟩
      refine ⟨?_, hs⟩
      rintro e (rfl | he)
      · exact h
      · exact Nat.lt_trans h ((ih.1 hs).1 e he)
    · rintro ⟨h, hs⟩
      exact ⟨h _ (Or.inl rfl), hs⟩

theorem Tab.mem_insert {t : Tab α} {k : Nat} {v : α} {e : Nat × α} (h : e ∈ Tab.insert t k v) : e = (k, v) ∨ e ∈ t := by
  induction t with
  | nil => simpa [Tab.insert] using h
  | cons a t ih =>
    obtain ⟨k', v'⟩ := a
    simp only [Tab.insert] at h
    split at h
    · simpa using h
    · split at h
      · simp only [List.mem_cons] at h ⊢
        rcases h with h | h
        · exact Or.inl h
        · exact Or.inr (Or.inr h)
      · simp only [List.mem_cons] at h ⊢
        rcases h with h | h
        · exact Or.inr (Or.inl h)
        · rcases ih h with h | h
          · exact Or.inl h
          · exact Or.inr (Or.inr h)

theorem Tab.mem_erase {t : Tab α} {k : Nat} {e : Nat × α} (h : e ∈ Tab.erase t k) : e ∈ t := by
  induction t with
  | nil => simp [Tab.erase] at h
  | cons a t ih =>
    obtain ⟨k', v'⟩ := a
    simp only [Tab.erase] at h
    split at h
    · exact List.mem_cons_of_mem _ (ih h)
    · simp only [List.mem_cons] at h ⊢
      exact h.imp id ih

theorem Tab.sorted_insert (t : Tab α) (k : Nat) (v : α) (h : Tab.sorted t = true) : Tab.sorted (Tab.insert t k v) = true := by
  induction t with
  | nil => rfl
  | cons a t ih =>
    obtain ⟨k', v'⟩ := a
    have hs := Tab.sorted_cons.1 h
    simp only [Tab.insert]
    split
    · next hlt =>
      refine Tab.sorted_cons.2 ⟨?_, h⟩
      intro e he
      simp only [List.mem_cons] at he
      rcases he with rfl | he
      · exact hlt
      · exact Nat.lt_trans hlt (hs.1 e he)
    · split
      · next hk => subst hk; exact Tab.sorted_cons.2 hs
      · next h1 h2 =>
        refine Tab.sorted_cons.2 ⟨?_, ih hs.2⟩
        intro e he
        rcases Tab.mem_insert he with rfl | he
        · simp only; omega
        · exact hs.1 e he

theorem Tab.sorted_erase (t : Tab α) (k : Nat) (h : Tab.sorted t = true) : Tab.sorted (Tab.erase t k) = true := by
  induction t with
  | nil => rfl
  | cons a t ih =>
    obtain ⟨k', v'⟩ := a
    have hs := Tab.sorted_cons.1 h
    simp only [Tab.erase]
    split
    · exact ih hs.2
    · exact Tab.sorted_cons.2 ⟨fun e he => hs.1 e (Tab.mem_erase he), ih hs.2⟩

/-- A write keeps the canonical form. -/
theorem Tab.wf_set [DecidableEq α] (d : α) (t : Tab α) (k : Nat) (v : α) (h : Tab.wf d t = true) :
    Tab.wf d (Tab.set d t k v) = true := by
  simp only [Tab.wf, Bool.and_eq_true, List.all_eq_true, decide_eq_true_eq] at h ⊢
  unfold Tab.set
  split
  · exact ⟨Tab.sorted_erase t k h.1, fun e he => h.2 e (Tab.mem_erase he)⟩
  · next hv =>
    refine ⟨Tab.sorted_insert t k v h.1, fun e he => ?_⟩
    rcases Tab.mem_insert he with rfl | he
    · exact hv
    · exact h.2 e he

theorem Tab.sorted_filter (t : Tab α) (p : Nat × α → Bool) (h : Tab.sorted t = true) : Tab.sorted (t.filter p) = true := by
  induction t with
  | nil => rfl
  | cons a t ih =>
    obtain ⟨k, v⟩ := a
    have hs := Tab.sorted_cons.1 h
    rw [List.filter_cons]
    split
    · exact Tab.sorted_cons.2 ⟨fun e he => hs.1 e (List.mem_of_mem_filter he), ih hs.2⟩
    · exact ih hs.2

theorem Tab.sorted_map (t : Tab α) (f : α → α) (h : Tab.sorted t = true) :
    Tab.sorted (t.map fun e => (e.1, f e.2)) = true := by
  induction t with
  | nil => rfl
  | cons a t ih =>
    obtain ⟨k, v⟩ := a
    have hs := Tab.sorted_cons.1 h
    rw [List.map_cons]
    refine Tab.sorted_cons.2 ⟨fun e he => ?_, ih hs.2⟩
    obtain ⟨b, hb, rfl⟩ := List.mem_map.1 he
    exact hs.1 b hb

/-- A change made to every value keeps the canonical form. -/
theorem Tab.wf_each [DecidableEq α] (d : α) (t : Tab α) (f : α → α) (h : Tab.wf d t = true) :
    Tab.wf d (Tab.each d t f) = true := by
  simp only [Tab.wf, Bool.and_eq_true, List.all_eq_true, decide_eq_true_eq] at h ⊢
  exact ⟨Tab.sorted_filter _ _ (Tab.sorted_map t f h.1), fun e he => of_decide_eq_true (List.mem_filter.1 he).2⟩

end Sys2Proof.Machine
end

