-- ==== Sys2Proof/Laws/Events.lean ====
section
/-! SUPPORT. The laws of register fields, counters and events: what a write, a count and an event change, and what they
leave. -/

namespace Sys2Proof.Machine

open F

/-! ### Fields -/

/-- A field just written reads as the value, cut to its width. -/
@[simp] theorem State.rd_wr_same (s : State) (f : Field) (v : Nat) : (s.wr f v).rd f = v % 2 ^ f.width := by
  simp [State.rd, State.wr]

/-- Writing a field leaves the fields at other places. -/
theorem State.rd_wr_ne (s : State) {f g : Field} (v : Nat) (h : f.key ≠ g.key) : (s.wr f v).rd g = s.rd g := by
  simp [State.rd, State.wr, Tab.get_set_ne _ _ _ _ h]

@[simp] theorem State.rdA_wrA_same (s : State) (f : Field) (v : Nat) : (s.wrA f v).rdA f = v % 2 ^ f.width := by
  simp [State.rdA, State.wrA]

theorem State.rdA_wrA_ne (s : State) {f g : Field} (v : Nat) (h : f.key ≠ g.key) : (s.wrA f v).rdA g = s.rdA g := by
  simp [State.rdA, State.wrA, Tab.get_set_ne _ _ _ _ h]

@[simp] theorem State.rdA_wr (s : State) (f g : Field) (v : Nat) : (s.wr f v).rdA g = s.rdA g := rfl
@[simp] theorem State.rd_wrA (s : State) (f g : Field) (v : Nat) : (s.wrA f v).rd g = s.rd g := rfl
@[simp] theorem State.rd_emit (s : State) (o : Out) (g : Field) : (s.emit o).rd g = s.rd g := rfl
@[simp] theorem State.rd_useFree (s : State) (g : Field) : s.useFree.rd g = s.rd g := rfl
@[simp] theorem State.rd_latchVec (s : State) (v : Nat) (g : Field) : (s.latchVec v).rd g = s.rd g := rfl

/-- A field's value is below 2 to its width. -/
theorem State.rd_lt (s : State) (f : Field) : s.rd f < 2 ^ f.width := Nat.mod_lt _ (Nat.two_pow_pos _)

/-- Fields at different places have different keys. -/
theorem Field.key_ne {f g : Field} (hf : f.off < 4096 ∧ f.lsb < 32) (hg : g.off < 4096 ∧ g.lsb < 32)
    (h : ¬ (f.page = g.page ∧ f.off = g.off ∧ f.lsb = g.lsb)) : f.key ≠ g.key := by
  unfold Field.key; omega

/-- Every field outside `EVT_STATUS` and `MG_CTL` is quiet. -/
theorem Field.quiet_of {f : Field} (hf : f.off < 4096 ∧ f.lsb < 32) (ho : f.off ≠ 0x010) (hp : f.page ≠ 1) : f.quiet = true := by
  have h1 : f.key / 32 % 4096 ≠ 0x010 := by unfold Field.key; omega
  have h2 : ∀ g : Field, g.page = 1 → g.off < 4096 → g.lsb < 32 → f.key ≠ g.key := fun g a b c => Field.key_ne hf ⟨b, c⟩ (by omega)
  unfold Field.quiet
  rw [decide_eq_true h1, decide_eq_true (h2 MG_CTL.NMI_CAUSE_EXHAUSTED rfl (by decide) (by decide)),
    decide_eq_true (h2 MG_CTL.NMI_CAUSE_RCLK_FAIL rfl (by decide) (by decide)),
    decide_eq_true (h2 MG_CTL.NMI_PAGE_PAGE rfl (by decide) (by decide))]
  rfl

/-! ### Conditions and loops -/

@[simp] theorem State.cond_true (s : State) (f : State → State) : s.cond true f = f s := rfl
@[simp] theorem State.cond_false (s : State) (f : State → State) : s.cond false f = s := rfl
@[simp] theorem State.forEach_nil {α : Type} (s : State) (f : α → State → State) : s.forEach [] f = s := rfl
@[simp] theorem State.forEach_cons {α : Type} (s : State) (a : α) (l : List α) (f : α → State → State) :
    s.forEach (a :: l) f = (f a s).forEach l f := rfl

/-- What each pass of a loop keeps, the loop keeps. -/
theorem State.forEach_keeps {α β : Type} (g : State → β) (l : List α) (f : α → State → State)
    (h : ∀ a s, g (f a s) = g s) (s : State) : g (s.forEach l f) = g s := by
  induction l generalizing s with
  | nil => rfl
  | cons a l ih => rw [State.forEach_cons, ih, h]

/-! ### Counters -/

/-- A counter just added to (R443), where RCLK does not hold it (R440). -/
theorem State.counter_count (s : State) (page off n : Nat) (h : (otherDie page && s.rclkStopped) = false) :
    (s.count page off n).counter page off = (s.counter page off + n) % 2 ^ 64 := by
  simp [State.count, h, State.counter]

theorem State.counter_count_ne (s : State) (page off n page' off' : Nat) (h : page * 4096 + off ≠ page' * 4096 + off') :
    (s.count page off n).counter page' off' = s.counter page' off' := by
  unfold State.count State.counter
  split
  · rfl
  · exact Tab.get_set_ne _ _ _ _ h

@[simp] theorem State.rd_count (s : State) (page off n : Nat) (g : Field) : (s.count page off n).rd g = s.rd g := by
  unfold State.count; split <;> rfl

/-! ### Events -/

theorem State.EventFrame.refl (s : State) : s.EventFrame s := rfl

theorem State.EventFrame.trans {s t u : State} (h : s.EventFrame t) (k : t.EventFrame u) : s.EventFrame u := by
  unfold State.EventFrame at *
  rw [k, h]

theorem State.wr_eventFrame (s : State) (f : Field) (v : Nat) : s.EventFrame (s.wr f v) := rfl
theorem State.latchVec_eventFrame (s : State) (v : Nat) : s.EventFrame (s.latchVec v) := rfl

theorem State.count_eventFrame (s : State) (page off n : Nat) : s.EventFrame (s.count page off n) := by
  unfold State.count; split <;> rfl

theorem State.forEach_eventFrame {α : Type} (l : List α) (f : α → State → State) (h : ∀ a s, State.EventFrame s (f a s))
    (s : State) : s.EventFrame (s.forEach l f) := by
  induction l generalizing s with
  | nil => rfl
  | cons a l ih => exact (h a s).trans (ih _)

theorem State.cond_eventFrame (s : State) (b : Bool) (f : State → State) (h : s.EventFrame (f s)) : s.EventFrame (s.cond b f) := by
  cases b
  · rfl
  · exact h

theorem State.edges_eventFrame (s t : State) (page : Nat) : t.EventFrame (State.edges s t page) := by
  have h : ∀ (b : Bool) (t : State) (v : State → Nat), t.EventFrame (t.cond b fun s => s.latchVec (v s)) :=
    fun b t v => State.cond_eventFrame t b _ (State.latchVec_eventFrame t (v t))
  unfold State.edges
  split
  · exact (h _ t _).trans (State.forEach_eventFrame _ _ (fun c s => h _ s _) _)
  · exact h _ t _

theorem State.nonMaskable_eventFrame (s : State) (page b : Nat) : s.EventFrame (s.nonMaskable page b) := by
  unfold State.nonMaskable
  split
  · split <;> rfl
  · rfl

theorem State.setStatus_eventFrame (s : State) (page b : Nat) : s.EventFrame (s.setStatus page b) :=
  ((State.wr_eventFrame _ _ _).trans (State.nonMaskable_eventFrame _ _ _)).trans (State.edges_eventFrame _ _ _)

theorem State.raiseRaw_eventFrame (s : State) (e : Evt) (n : Nat) : s.EventFrame (s.raiseRaw e n) := by
  unfold State.raiseRaw
  split
  · rfl
  · exact (State.count_eventFrame _ _ _ _).trans (State.setStatus_eventFrame _ _ _)

theorem State.settleInt_eventFrame (s : State) : s.EventFrame s.settleInt := by
  unfold State.settleInt
  split
  · split
    · rfl
    · exact State.EventFrame.trans (t := { s with intLow := true }) rfl (State.raiseRaw_eventFrame _ _ _)
  · rfl

/-- All that an event changes (R452 to R456, R378): register fields, counters, MSI-X latches and INT_N. -/
theorem State.raiseN_eventFrame (s : State) (e : Evt) (n : Nat) : s.EventFrame (s.raiseN e n) :=
  (State.raiseRaw_eventFrame s e n).trans (State.settleInt_eventFrame _)

theorem State.edges_rd (s t : State) (page : Nat) (f : Field) : (State.edges s t page).rd f = t.rd f := by
  have h : ∀ (b : Bool) (t : State) (v : State → Nat), (t.cond b fun s => s.latchVec (v s)).rd f = t.rd f := by
    intro b t v; cases b <;> rfl
  unfold State.edges
  dsimp only
  split
  · exact (State.forEach_keeps (fun s => s.rd f) _ _ (fun c s => h _ s _) _).trans (h _ t _)
  · exact h _ t _

theorem State.setStatus_rd (s : State) (page b : Nat) (f : Field) (h : f.quiet = true) : (s.setStatus page b).rd f = s.rd f := by
  simp only [Field.quiet, Bool.and_eq_true, decide_eq_true_eq] at h
  obtain ⟨⟨⟨h1, h2⟩, h3⟩, h4⟩ := h
  have hk : (HDR.EVT_STATUS_EVENTS page).key ≠ f.key := by
    intro he; apply h1; rw [← he]; simp only [Field.key, HDR.EVT_STATUS_EVENTS]; omega
  unfold State.setStatus
  rw [State.edges_rd]
  unfold State.nonMaskable
  split
  · split
    · rw [State.rd_latchVec, State.rd_wr_ne _ _ (Ne.symm h3), State.rd_wr_ne _ _ hk]
    · rw [State.rd_latchVec, State.rd_wr_ne _ _ (Ne.symm h4), State.rd_wr_ne _ _ (Ne.symm h2), State.rd_wr_ne _ _ hk]
  · rw [State.rd_wr_ne _ _ hk]

theorem State.raiseRaw_rd (s : State) (e : Evt) (n : Nat) (f : Field) (h : f.quiet = true) :
    (s.raiseRaw e n).rd f = s.rd f := by
  unfold State.raiseRaw
  split
  · rfl
  · rw [State.setStatus_rd _ _ _ _ h, State.rd_count]

theorem State.settleInt_rd (s : State) (f : Field) (h : f.quiet = true) : s.settleInt.rd f = s.rd f := by
  unfold State.settleInt
  split
  · split
    · rfl
    · rw [State.raiseRaw_rd _ _ _ _ h]; rfl
  · rfl

/-- An event leaves every quiet field. -/
theorem State.raiseN_rd (s : State) (e : Evt) (n : Nat) (f : Field) (h : f.quiet = true) : (s.raiseN e n).rd f = s.rd f := by
  unfold State.raiseN
  rw [State.settleInt_rd _ _ h, State.raiseRaw_rd _ _ _ _ h]

theorem State.raise_rd (s : State) (e : Evt) (f : Field) (h : f.quiet = true) : (s.raise e).rd f = s.rd f :=
  State.raiseN_rd s e 1 f h

theorem State.raiseIf_rd (s : State) (b : Bool) (e : Evt) (f : Field) (h : f.quiet = true) : (s.raiseIf b e).rd f = s.rd f := by
  cases b
  · rfl
  · exact State.raise_rd s e f h

@[simp] theorem State.raiseN_poolOver (s : State) (e : Evt) (n : Nat) : (s.raiseN e n).poolOver = s.poolOver := by
  rw [State.raiseN_eventFrame s e n]
@[simp] theorem State.raise_poolOver (s : State) (e : Evt) : (s.raise e).poolOver = s.poolOver := State.raiseN_poolOver s e 1
@[simp] theorem State.raiseN_poolUnder (s : State) (e : Evt) (n : Nat) : (s.raiseN e n).poolUnder = s.poolUnder := by
  rw [State.raiseN_eventFrame s e n]
@[simp] theorem State.raise_poolUnder (s : State) (e : Evt) : (s.raise e).poolUnder = s.poolUnder := State.raiseN_poolUnder s e 1
@[simp] theorem State.raiseN_fuses (s : State) (e : Evt) (n : Nat) : (s.raiseN e n).fuses = s.fuses := by
  rw [State.raiseN_eventFrame s e n]
@[simp] theorem State.raise_fuses (s : State) (e : Evt) : (s.raise e).fuses = s.fuses := State.raiseN_fuses s e 1
@[simp] theorem State.raiseN_pending (s : State) (e : Evt) (n : Nat) : (s.raiseN e n).pending = s.pending := by
  rw [State.raiseN_eventFrame s e n]
@[simp] theorem State.raise_pending (s : State) (e : Evt) : (s.raise e).pending = s.pending := State.raiseN_pending s e 1
@[simp] theorem State.raiseN_freeCount (s : State) (e : Evt) (n : Nat) : (s.raiseN e n).freeCount = s.freeCount := by
  rw [State.raiseN_eventFrame s e n]
@[simp] theorem State.raise_freeCount (s : State) (e : Evt) : (s.raise e).freeCount = s.freeCount := State.raiseN_freeCount s e 1
@[simp] theorem State.raiseN_out (s : State) (e : Evt) (n : Nat) : (s.raiseN e n).out = s.out := by
  rw [State.raiseN_eventFrame s e n]
@[simp] theorem State.raise_out (s : State) (e : Evt) : (s.raise e).out = s.out := State.raiseN_out s e 1
@[simp] theorem State.raiseN_act (s : State) (e : Evt) (n : Nat) : (s.raiseN e n).act = s.act := by
  rw [State.raiseN_eventFrame s e n]
@[simp] theorem State.raise_act (s : State) (e : Evt) : (s.raise e).act = s.act := State.raiseN_act s e 1
@[simp] theorem State.raiseN_held (s : State) (e : Evt) (n : Nat) : (s.raiseN e n).held = s.held := by
  rw [State.raiseN_eventFrame s e n]
@[simp] theorem State.raise_held (s : State) (e : Evt) : (s.raise e).held = s.held := State.raiseN_held s e 1
@[simp] theorem State.raiseN_latch (s : State) (e : Evt) (n : Nat) : (s.raiseN e n).latch = s.latch := by
  rw [State.raiseN_eventFrame s e n]
@[simp] theorem State.raise_latch (s : State) (e : Evt) : (s.raise e).latch = s.latch := State.raiseN_latch s e 1
@[simp] theorem State.raiseN_bar2 (s : State) (e : Evt) (n : Nat) : (s.raiseN e n).bar2 = s.bar2 := by
  rw [State.raiseN_eventFrame s e n]
@[simp] theorem State.raise_bar2 (s : State) (e : Evt) : (s.raise e).bar2 = s.bar2 := State.raiseN_bar2 s e 1
@[simp] theorem State.raiseN_flowCnt (s : State) (e : Evt) (n : Nat) : (s.raiseN e n).flowCnt = s.flowCnt := by
  rw [State.raiseN_eventFrame s e n]
@[simp] theorem State.raise_flowCnt (s : State) (e : Evt) : (s.raise e).flowCnt = s.flowCnt := State.raiseN_flowCnt s e 1
@[simp] theorem State.raiseN_snapPage (s : State) (e : Evt) (n : Nat) : (s.raiseN e n).snapPage = s.snapPage := by
  rw [State.raiseN_eventFrame s e n]
@[simp] theorem State.raise_snapPage (s : State) (e : Evt) : (s.raise e).snapPage = s.snapPage := State.raiseN_snapPage s e 1
@[simp] theorem State.raiseN_snapFlow (s : State) (e : Evt) (n : Nat) : (s.raiseN e n).snapFlow = s.snapFlow := by
  rw [State.raiseN_eventFrame s e n]
@[simp] theorem State.raise_snapFlow (s : State) (e : Evt) : (s.raise e).snapFlow = s.snapFlow := State.raiseN_snapFlow s e 1
@[simp] theorem State.raiseN_snapCap (s : State) (e : Evt) (n : Nat) : (s.raiseN e n).snapCap = s.snapCap := by
  rw [State.raiseN_eventFrame s e n]
@[simp] theorem State.raise_snapCap (s : State) (e : Evt) : (s.raise e).snapCap = s.snapCap := State.raiseN_snapCap s e 1
@[simp] theorem State.raiseN_snapCapFlow (s : State) (e : Evt) (n : Nat) : (s.raiseN e n).snapCapFlow = s.snapCapFlow := by
  rw [State.raiseN_eventFrame s e n]
@[simp] theorem State.raise_snapCapFlow (s : State) (e : Evt) : (s.raise e).snapCapFlow = s.snapCapFlow := State.raiseN_snapCapFlow s e 1
@[simp] theorem State.raiseN_snapReq (s : State) (e : Evt) (n : Nat) : (s.raiseN e n).snapReq = s.snapReq := by
  rw [State.raiseN_eventFrame s e n]
@[simp] theorem State.raise_snapReq (s : State) (e : Evt) : (s.raise e).snapReq = s.snapReq := State.raiseN_snapReq s e 1
@[simp] theorem State.raiseN_ecl (s : State) (e : Evt) (n : Nat) : (s.raiseN e n).ecl = s.ecl := by
  rw [State.raiseN_eventFrame s e n]
@[simp] theorem State.raise_ecl (s : State) (e : Evt) : (s.raise e).ecl = s.ecl := State.raiseN_ecl s e 1
@[simp] theorem State.raiseN_settling (s : State) (e : Evt) (n : Nat) : (s.raiseN e n).settling = s.settling := by
  rw [State.raiseN_eventFrame s e n]
@[simp] theorem State.raise_settling (s : State) (e : Evt) : (s.raise e).settling = s.settling := State.raiseN_settling s e 1
@[simp] theorem State.raiseN_msixTable (s : State) (e : Evt) (n : Nat) : (s.raiseN e n).msixTable = s.msixTable := by
  rw [State.raiseN_eventFrame s e n]
@[simp] theorem State.raise_msixTable (s : State) (e : Evt) : (s.raise e).msixTable = s.msixTable := State.raiseN_msixTable s e 1
@[simp] theorem State.raiseN_msixEnable (s : State) (e : Evt) (n : Nat) : (s.raiseN e n).msixEnable = s.msixEnable := by
  rw [State.raiseN_eventFrame s e n]
@[simp] theorem State.raise_msixEnable (s : State) (e : Evt) : (s.raise e).msixEnable = s.msixEnable := State.raiseN_msixEnable s e 1
@[simp] theorem State.raiseN_msixFnMask (s : State) (e : Evt) (n : Nat) : (s.raiseN e n).msixFnMask = s.msixFnMask := by
  rw [State.raiseN_eventFrame s e n]
@[simp] theorem State.raise_msixFnMask (s : State) (e : Evt) : (s.raise e).msixFnMask = s.msixFnMask := State.raiseN_msixFnMask s e 1
@[simp] theorem State.raiseN_linkUp (s : State) (e : Evt) (n : Nat) : (s.raiseN e n).linkUp = s.linkUp := by
  rw [State.raiseN_eventFrame s e n]
@[simp] theorem State.raise_linkUp (s : State) (e : Evt) : (s.raise e).linkUp = s.linkUp := State.raiseN_linkUp s e 1
@[simp] theorem State.raiseN_crs (s : State) (e : Evt) (n : Nat) : (s.raiseN e n).crs = s.crs := by
  rw [State.raiseN_eventFrame s e n]
@[simp] theorem State.raise_crs (s : State) (e : Evt) : (s.raise e).crs = s.crs := State.raiseN_crs s e 1
@[simp] theorem State.raiseN_perstLow (s : State) (e : Evt) (n : Nat) : (s.raiseN e n).perstLow = s.perstLow := by
  rw [State.raiseN_eventFrame s e n]
@[simp] theorem State.raise_perstLow (s : State) (e : Evt) : (s.raise e).perstLow = s.perstLow := State.raiseN_perstLow s e 1
@[simp] theorem State.raiseN_smbLast (s : State) (e : Evt) (n : Nat) : (s.raiseN e n).smbLast = s.smbLast := by
  rw [State.raiseN_eventFrame s e n]
@[simp] theorem State.raise_smbLast (s : State) (e : Evt) : (s.raise e).smbLast = s.smbLast := State.raiseN_smbLast s e 1
@[simp] theorem State.raiseN_pcieDevice (s : State) (e : Evt) (n : Nat) : (s.raiseN e n).pcieDevice = s.pcieDevice := by
  rw [State.raiseN_eventFrame s e n]
@[simp] theorem State.raise_pcieDevice (s : State) (e : Evt) : (s.raise e).pcieDevice = s.pcieDevice := State.raiseN_pcieDevice s e 1
@[simp] theorem State.raiseN_reported (s : State) (e : Evt) (n : Nat) : (s.raiseN e n).reported = s.reported := by
  rw [State.raiseN_eventFrame s e n]
@[simp] theorem State.raise_reported (s : State) (e : Evt) : (s.raise e).reported = s.reported := State.raiseN_reported s e 1
@[simp] theorem State.raiseN_spared (s : State) (e : Evt) (n : Nat) : (s.raiseN e n).spared = s.spared := by
  rw [State.raiseN_eventFrame s e n]
@[simp] theorem State.raise_spared (s : State) (e : Evt) : (s.raise e).spared = s.spared := State.raiseN_spared s e 1
@[simp] theorem State.raiseN_window (s : State) (e : Evt) (n : Nat) : (s.raiseN e n).window = s.window := by
  rw [State.raiseN_eventFrame s e n]
@[simp] theorem State.raise_window (s : State) (e : Evt) : (s.raise e).window = s.window := State.raiseN_window s e 1
@[simp] theorem State.raiseN_tx (s : State) (e : Evt) (n : Nat) : (s.raiseN e n).tx = s.tx := by
  rw [State.raiseN_eventFrame s e n]
@[simp] theorem State.raise_tx (s : State) (e : Evt) : (s.raise e).tx = s.tx := State.raiseN_tx s e 1
@[simp] theorem State.raiseN_rx (s : State) (e : Evt) (n : Nat) : (s.raiseN e n).rx = s.rx := by
  rw [State.raiseN_eventFrame s e n]
@[simp] theorem State.raise_rx (s : State) (e : Evt) : (s.raise e).rx = s.rx := State.raiseN_rx s e 1
@[simp] theorem State.raiseN_rxConv (s : State) (e : Evt) (n : Nat) : (s.raiseN e n).rxConv = s.rxConv := by
  rw [State.raiseN_eventFrame s e n]
@[simp] theorem State.raise_rxConv (s : State) (e : Evt) : (s.raise e).rxConv = s.rxConv := State.raiseN_rxConv s e 1
@[simp] theorem State.raiseN_txConv (s : State) (e : Evt) (n : Nat) : (s.raiseN e n).txConv = s.txConv := by
  rw [State.raiseN_eventFrame s e n]
@[simp] theorem State.raise_txConv (s : State) (e : Evt) : (s.raise e).txConv = s.txConv := State.raiseN_txConv s e 1
@[simp] theorem State.raiseN_calRun (s : State) (e : Evt) (n : Nat) : (s.raiseN e n).calRun = s.calRun := by
  rw [State.raiseN_eventFrame s e n]
@[simp] theorem State.raise_calRun (s : State) (e : Evt) : (s.raise e).calRun = s.calRun := State.raiseN_calRun s e 1
@[simp] theorem State.raiseN_fec (s : State) (e : Evt) (n : Nat) : (s.raiseN e n).fec = s.fec := by
  rw [State.raiseN_eventFrame s e n]
@[simp] theorem State.raise_fec (s : State) (e : Evt) : (s.raise e).fec = s.fec := State.raiseN_fec s e 1
@[simp] theorem State.raiseN_frame (s : State) (e : Evt) (n : Nat) : (s.raiseN e n).frame = s.frame := by
  rw [State.raiseN_eventFrame s e n]
@[simp] theorem State.raise_frame (s : State) (e : Evt) : (s.raise e).frame = s.frame := State.raiseN_frame s e 1
@[simp] theorem State.raiseN_pm (s : State) (e : Evt) (n : Nat) : (s.raiseN e n).pm = s.pm := by
  rw [State.raiseN_eventFrame s e n]
@[simp] theorem State.raise_pm (s : State) (e : Evt) : (s.raise e).pm = s.pm := State.raiseN_pm s e 1
@[simp] theorem State.raiseN_pmClock (s : State) (e : Evt) (n : Nat) : (s.raiseN e n).pmClock = s.pmClock := by
  rw [State.raiseN_eventFrame s e n]
@[simp] theorem State.raise_pmClock (s : State) (e : Evt) : (s.raise e).pmClock = s.pmClock := State.raiseN_pmClock s e 1
@[simp] theorem State.raiseN_dvInbox (s : State) (e : Evt) (n : Nat) : (s.raiseN e n).dvInbox = s.dvInbox := by
  rw [State.raiseN_eventFrame s e n]
@[simp] theorem State.raise_dvInbox (s : State) (e : Evt) : (s.raise e).dvInbox = s.dvInbox := State.raiseN_dvInbox s e 1
@[simp] theorem State.raiseN_lane (s : State) (e : Evt) (n : Nat) : (s.raiseN e n).lane = s.lane := by
  rw [State.raiseN_eventFrame s e n]
@[simp] theorem State.raise_lane (s : State) (e : Evt) : (s.raise e).lane = s.lane := State.raiseN_lane s e 1
@[simp] theorem State.raiseN_client (s : State) (e : Evt) (n : Nat) : (s.raiseN e n).client = s.client := by
  rw [State.raiseN_eventFrame s e n]
@[simp] theorem State.raise_client (s : State) (e : Evt) : (s.raise e).client = s.client := State.raiseN_client s e 1
@[simp] theorem State.raiseN_add (s : State) (e : Evt) (n : Nat) : (s.raiseN e n).add = s.add := by
  rw [State.raiseN_eventFrame s e n]
@[simp] theorem State.raise_add (s : State) (e : Evt) : (s.raise e).add = s.add := State.raiseN_add s e 1
@[simp] theorem State.raiseN_line (s : State) (e : Evt) (n : Nat) : (s.raiseN e n).line = s.line := by
  rw [State.raiseN_eventFrame s e n]
@[simp] theorem State.raise_line (s : State) (e : Evt) : (s.raise e).line = s.line := State.raiseN_line s e 1
@[simp] theorem State.raiseN_transit (s : State) (e : Evt) (n : Nat) : (s.raiseN e n).transit = s.transit := by
  rw [State.raiseN_eventFrame s e n]
@[simp] theorem State.raise_transit (s : State) (e : Evt) : (s.raise e).transit = s.transit := State.raiseN_transit s e 1
@[simp] theorem State.raiseN_drop (s : State) (e : Evt) (n : Nat) : (s.raiseN e n).drop = s.drop := by
  rw [State.raiseN_eventFrame s e n]
@[simp] theorem State.raise_drop (s : State) (e : Evt) : (s.raise e).drop = s.drop := State.raiseN_drop s e 1
@[simp] theorem State.raiseN_concat (s : State) (e : Evt) (n : Nat) : (s.raiseN e n).concat = s.concat := by
  rw [State.raiseN_eventFrame s e n]
@[simp] theorem State.raise_concat (s : State) (e : Evt) : (s.raise e).concat = s.concat := State.raiseN_concat s e 1
@[simp] theorem State.raiseN_chtest (s : State) (e : Evt) (n : Nat) : (s.raiseN e n).chtest = s.chtest := by
  rw [State.raiseN_eventFrame s e n]
@[simp] theorem State.raise_chtest (s : State) (e : Evt) : (s.raise e).chtest = s.chtest := State.raiseN_chtest s e 1
@[simp] theorem State.raiseN_bucket (s : State) (e : Evt) (n : Nat) : (s.raiseN e n).bucket = s.bucket := by
  rw [State.raiseN_eventFrame s e n]
@[simp] theorem State.raise_bucket (s : State) (e : Evt) : (s.raise e).bucket = s.bucket := State.raiseN_bucket s e 1
@[simp] theorem State.raiseN_shared (s : State) (e : Evt) (n : Nat) : (s.raiseN e n).shared = s.shared := by
  rw [State.raiseN_eventFrame s e n]
@[simp] theorem State.raise_shared (s : State) (e : Evt) : (s.raise e).shared = s.shared := State.raiseN_shared s e 1
@[simp] theorem State.raiseN_headUsed (s : State) (e : Evt) (n : Nat) : (s.raiseN e n).headUsed = s.headUsed := by
  rw [State.raiseN_eventFrame s e n]
@[simp] theorem State.raise_headUsed (s : State) (e : Evt) : (s.raise e).headUsed = s.headUsed := State.raiseN_headUsed s e 1
@[simp] theorem State.raiseN_dropUsed (s : State) (e : Evt) (n : Nat) : (s.raiseN e n).dropUsed = s.dropUsed := by
  rw [State.raiseN_eventFrame s e n]
@[simp] theorem State.raise_dropUsed (s : State) (e : Evt) : (s.raise e).dropUsed = s.dropUsed := State.raiseN_dropUsed s e 1
@[simp] theorem State.raiseN_report (s : State) (e : Evt) (n : Nat) : (s.raiseN e n).report = s.report := by
  rw [State.raiseN_eventFrame s e n]
@[simp] theorem State.raise_report (s : State) (e : Evt) : (s.raise e).report = s.report := State.raiseN_report s e 1
@[simp] theorem State.raiseN_ring (s : State) (e : Evt) (n : Nat) : (s.raiseN e n).ring = s.ring := by
  rw [State.raiseN_eventFrame s e n]
@[simp] theorem State.raise_ring (s : State) (e : Evt) : (s.raise e).ring = s.ring := State.raiseN_ring s e 1
@[simp] theorem State.raiseN_neg (s : State) (e : Evt) (n : Nat) : (s.raiseN e n).neg = s.neg := by
  rw [State.raiseN_eventFrame s e n]
@[simp] theorem State.raise_neg (s : State) (e : Evt) : (s.raise e).neg = s.neg := State.raiseN_neg s e 1
@[simp] theorem State.raiseN_selector (s : State) (e : Evt) (n : Nat) : (s.raiseN e n).selector = s.selector := by
  rw [State.raiseN_eventFrame s e n]
@[simp] theorem State.raise_selector (s : State) (e : Evt) : (s.raise e).selector = s.selector := State.raiseN_selector s e 1
@[simp] theorem State.raiseN_hbmOut (s : State) (e : Evt) (n : Nat) : (s.raiseN e n).hbmOut = s.hbmOut := by
  rw [State.raiseN_eventFrame s e n]
@[simp] theorem State.raise_hbmOut (s : State) (e : Evt) : (s.raise e).hbmOut = s.hbmOut := State.raiseN_hbmOut s e 1
@[simp] theorem State.raiseN_prot (s : State) (e : Evt) (n : Nat) : (s.raiseN e n).prot = s.prot := by
  rw [State.raiseN_eventFrame s e n]
@[simp] theorem State.raise_prot (s : State) (e : Evt) : (s.raise e).prot = s.prot := State.raiseN_prot s e 1
@[simp] theorem State.raiseN_keySlots (s : State) (e : Evt) (n : Nat) : (s.raiseN e n).keySlots = s.keySlots := by
  rw [State.raiseN_eventFrame s e n]
@[simp] theorem State.raise_keySlots (s : State) (e : Evt) : (s.raise e).keySlots = s.keySlots := State.raiseN_keySlots s e 1
@[simp] theorem State.raiseN_chanKeys (s : State) (e : Evt) (n : Nat) : (s.raiseN e n).chanKeys = s.chanKeys := by
  rw [State.raiseN_eventFrame s e n]
@[simp] theorem State.raise_chanKeys (s : State) (e : Evt) : (s.raise e).chanKeys = s.chanKeys := State.raiseN_chanKeys s e 1
@[simp] theorem State.raiseN_keks (s : State) (e : Evt) (n : Nat) : (s.raiseN e n).keks = s.keks := by
  rw [State.raiseN_eventFrame s e n]
@[simp] theorem State.raise_keks (s : State) (e : Evt) : (s.raise e).keks = s.keks := State.raiseN_keks s e 1
@[simp] theorem State.raiseN_masters (s : State) (e : Evt) (n : Nat) : (s.raiseN e n).masters = s.masters := by
  rw [State.raiseN_eventFrame s e n]
@[simp] theorem State.raise_masters (s : State) (e : Evt) : (s.raise e).masters = s.masters := State.raiseN_masters s e 1
@[simp] theorem State.raiseN_wrapData (s : State) (e : Evt) (n : Nat) : (s.raiseN e n).wrapData = s.wrapData := by
  rw [State.raiseN_eventFrame s e n]
@[simp] theorem State.raise_wrapData (s : State) (e : Evt) : (s.raise e).wrapData = s.wrapData := State.raiseN_wrapData s e 1
@[simp] theorem State.raiseN_keyCmd (s : State) (e : Evt) (n : Nat) : (s.raiseN e n).keyCmd = s.keyCmd := by
  rw [State.raiseN_eventFrame s e n]
@[simp] theorem State.raise_keyCmd (s : State) (e : Evt) : (s.raise e).keyCmd = s.keyCmd := State.raiseN_keyCmd s e 1
@[simp] theorem State.raiseN_entropyFail (s : State) (e : Evt) (n : Nat) : (s.raiseN e n).entropyFail = s.entropyFail := by
  rw [State.raiseN_eventFrame s e n]
@[simp] theorem State.raise_entropyFail (s : State) (e : Evt) : (s.raise e).entropyFail = s.entropyFail := State.raiseN_entropyFail s e 1
@[simp] theorem State.raiseN_aesBad (s : State) (e : Evt) (n : Nat) : (s.raiseN e n).aesBad = s.aesBad := by
  rw [State.raiseN_eventFrame s e n]
@[simp] theorem State.raise_aesBad (s : State) (e : Evt) : (s.raise e).aesBad = s.aesBad := State.raiseN_aesBad s e 1
@[simp] theorem State.raiseN_tb (s : State) (e : Evt) (n : Nat) : (s.raiseN e n).tb = s.tb := by
  rw [State.raiseN_eventFrame s e n]
@[simp] theorem State.raise_tb (s : State) (e : Evt) : (s.raise e).tb = s.tb := State.raiseN_tb s e 1
@[simp] theorem State.raiseN_ppsInAt (s : State) (e : Evt) (n : Nat) : (s.raiseN e n).ppsInAt = s.ppsInAt := by
  rw [State.raiseN_eventFrame s e n]
@[simp] theorem State.raise_ppsInAt (s : State) (e : Evt) : (s.raise e).ppsInAt = s.ppsInAt := State.raiseN_ppsInAt s e 1
@[simp] theorem State.raiseN_todDue (s : State) (e : Evt) (n : Nat) : (s.raiseN e n).todDue = s.todDue := by
  rw [State.raiseN_eventFrame s e n]
@[simp] theorem State.raise_todDue (s : State) (e : Evt) : (s.raise e).todDue = s.todDue := State.raiseN_todDue s e 1
@[simp] theorem State.raiseN_flash (s : State) (e : Evt) (n : Nat) : (s.raiseN e n).flash = s.flash := by
  rw [State.raiseN_eventFrame s e n]
@[simp] theorem State.raise_flash (s : State) (e : Evt) : (s.raise e).flash = s.flash := State.raiseN_flash s e 1
@[simp] theorem State.raiseN_core (s : State) (e : Evt) (n : Nat) : (s.raiseN e n).core = s.core := by
  rw [State.raiseN_eventFrame s e n]
@[simp] theorem State.raise_core (s : State) (e : Evt) : (s.raise e).core = s.core := State.raiseN_core s e 1
@[simp] theorem State.raiseN_mbx (s : State) (e : Evt) (n : Nat) : (s.raiseN e n).mbx = s.mbx := by
  rw [State.raiseN_eventFrame s e n]
@[simp] theorem State.raise_mbx (s : State) (e : Evt) : (s.raise e).mbx = s.mbx := State.raiseN_mbx s e 1
@[simp] theorem State.raiseN_mbxOrder (s : State) (e : Evt) (n : Nat) : (s.raiseN e n).mbxOrder = s.mbxOrder := by
  rw [State.raiseN_eventFrame s e n]
@[simp] theorem State.raise_mbxOrder (s : State) (e : Evt) : (s.raise e).mbxOrder = s.mbxOrder := State.raiseN_mbxOrder s e 1
@[simp] theorem State.raiseN_tel (s : State) (e : Evt) (n : Nat) : (s.raiseN e n).tel = s.tel := by
  rw [State.raiseN_eventFrame s e n]
@[simp] theorem State.raise_tel (s : State) (e : Evt) : (s.raise e).tel = s.tel := State.raiseN_tel s e 1
@[simp] theorem State.raiseN_dma (s : State) (e : Evt) (n : Nat) : (s.raiseN e n).dma = s.dma := by
  rw [State.raiseN_eventFrame s e n]
@[simp] theorem State.raise_dma (s : State) (e : Evt) : (s.raise e).dma = s.dma := State.raiseN_dma s e 1
@[simp] theorem State.raiseN_sram (s : State) (e : Evt) (n : Nat) : (s.raiseN e n).sram = s.sram := by
  rw [State.raiseN_eventFrame s e n]
@[simp] theorem State.raise_sram (s : State) (e : Evt) : (s.raise e).sram = s.sram := State.raiseN_sram s e 1
@[simp] theorem State.raiseN_mem (s : State) (e : Evt) (n : Nat) : (s.raiseN e n).mem = s.mem := by
  rw [State.raiseN_eventFrame s e n]
@[simp] theorem State.raise_mem (s : State) (e : Evt) : (s.raise e).mem = s.mem := State.raiseN_mem s e 1
@[simp] theorem State.raiseN_maxPayload (s : State) (e : Evt) (n : Nat) : (s.raiseN e n).maxPayload = s.maxPayload := by
  rw [State.raiseN_eventFrame s e n]
@[simp] theorem State.raise_maxPayload (s : State) (e : Evt) : (s.raise e).maxPayload = s.maxPayload := State.raiseN_maxPayload s e 1
@[simp] theorem State.raiseN_mon (s : State) (e : Evt) (n : Nat) : (s.raiseN e n).mon = s.mon := by
  rw [State.raiseN_eventFrame s e n]
@[simp] theorem State.raise_mon (s : State) (e : Evt) : (s.raise e).mon = s.mon := State.raiseN_mon s e 1
@[simp] theorem State.raiseN_power (s : State) (e : Evt) (n : Nat) : (s.raiseN e n).power = s.power := by
  rw [State.raiseN_eventFrame s e n]
@[simp] theorem State.raise_power (s : State) (e : Evt) : (s.raise e).power = s.power := State.raiseN_power s e 1
@[simp] theorem State.raiseN_clock (s : State) (e : Evt) (n : Nat) : (s.raiseN e n).clock = s.clock := by
  rw [State.raiseN_eventFrame s e n]
@[simp] theorem State.raise_clock (s : State) (e : Evt) : (s.raise e).clock = s.clock := State.raiseN_clock s e 1
@[simp] theorem State.raiseN_ref (s : State) (e : Evt) (n : Nat) : (s.raiseN e n).ref = s.ref := by
  rw [State.raiseN_eventFrame s e n]
@[simp] theorem State.raise_ref (s : State) (e : Evt) : (s.raise e).ref = s.ref := State.raiseN_ref s e 1
@[simp] theorem State.raiseN_dpll (s : State) (e : Evt) (n : Nat) : (s.raiseN e n).dpll = s.dpll := by
  rw [State.raiseN_eventFrame s e n]
@[simp] theorem State.raise_dpll (s : State) (e : Evt) : (s.raise e).dpll = s.dpll := State.raiseN_dpll s e 1
@[simp] theorem State.raiseN_pins (s : State) (e : Evt) (n : Nat) : (s.raiseN e n).pins = s.pins := by
  rw [State.raiseN_eventFrame s e n]
@[simp] theorem State.raise_pins (s : State) (e : Evt) : (s.raise e).pins = s.pins := State.raiseN_pins s e 1
@[simp] theorem State.raiseN_trace (s : State) (e : Evt) (n : Nat) : (s.raiseN e n).trace = s.trace := by
  rw [State.raiseN_eventFrame s e n]
@[simp] theorem State.raise_trace (s : State) (e : Evt) : (s.raise e).trace = s.trace := State.raiseN_trace s e 1
@[simp] theorem State.raiseN_tickAt (s : State) (e : Evt) (n : Nat) : (s.raiseN e n).tickAt = s.tickAt := by
  rw [State.raiseN_eventFrame s e n]
@[simp] theorem State.raise_tickAt (s : State) (e : Evt) : (s.raise e).tickAt = s.tickAt := State.raiseN_tickAt s e 1
@[simp] theorem State.raiseN_tclk (s : State) (e : Evt) (n : Nat) : (s.raiseN e n).tclk = s.tclk := by
  rw [State.raiseN_eventFrame s e n]
@[simp] theorem State.raise_tclk (s : State) (e : Evt) : (s.raise e).tclk = s.tclk := State.raiseN_tclk s e 1

/-! ### Counters and status bits of an event -/

@[simp] theorem State.counter_wr (s : State) (f : Field) (v page off : Nat) : (s.wr f v).counter page off = s.counter page off := rfl
@[simp] theorem State.counter_wrA (s : State) (f : Field) (v page off : Nat) : (s.wrA f v).counter page off = s.counter page off := rfl
@[simp] theorem State.counter_emit (s : State) (o : Out) (page off : Nat) : (s.emit o).counter page off = s.counter page off := rfl
@[simp] theorem State.counter_latchVec (s : State) (v page off : Nat) : (s.latchVec v).counter page off = s.counter page off := rfl
@[simp] theorem State.counter_useFree (s : State) (page off : Nat) : s.useFree.counter page off = s.counter page off := rfl

theorem State.setStatus_counter (s : State) (page b q o : Nat) : (s.setStatus page b).counter q o = s.counter q o := by
  have h : ∀ (b : Bool) (t : State) (v : State → Nat), (t.cond b fun s => s.latchVec (v s)).counter q o = t.counter q o := by
    intro b t v; cases b <;> rfl
  have hn : ∀ t : State, (t.nonMaskable page b).counter q o = t.counter q o := by
    intro t; unfold State.nonMaskable; split
    · split <;> rfl
    · rfl
  unfold State.setStatus State.edges
  dsimp only
  split
  · rw [State.forEach_keeps (fun s => s.counter q o) _ _ (fun c s => h _ s _) _, h _ _ _, hn]; rfl
  · rw [h _ _ _, hn]; rfl

theorem State.settleInt_counter (s : State) (q o : Nat) (h : q * 4096 + o ≠ 5 * 4096 + 0x41C) :
    s.settleInt.counter q o = s.counter q o := by
  unfold State.settleInt
  split
  · split
    · rfl
    · unfold State.raiseRaw
      split
      · rfl
      · rw [State.setStatus_counter]
        exact State.counter_count_ne _ _ _ _ _ _ (Ne.symm h)
  · rfl

/-- An event that occurs counts its quantity (R443, R444). -/
theorem State.raiseN_counts (s : State) (e : Evt) (n : Nat) (hl : (otherDie e.page && s.rclkStopped) = false)
    (hi : e.page * 4096 + e.off ≠ 5 * 4096 + 0x41C) :
    (s.raiseN e n).counter e.page e.off = (s.counter e.page e.off + n) % 2 ^ 64 ∨ n = 0 := by
  by_cases h0 : n = 0
  · exact .inr h0
  · left
    unfold State.raiseN State.raiseRaw
    rw [State.settleInt_counter _ _ _ hi, if_neg (by simp [h0, hl]), State.setStatus_counter, State.counter_count _ _ _ _ hl]

/-- An event that occurs counts 1. -/
theorem State.raise_counts (s : State) (e : Evt) (hl : (otherDie e.page && s.rclkStopped) = false)
    (hi : e.page * 4096 + e.off ≠ 5 * 4096 + 0x41C) :
    (s.raise e).counter e.page e.off = (s.counter e.page e.off + 1) % 2 ^ 64 :=
  (State.raiseN_counts s e 1 hl hi).resolve_right (by decide)

/-- The counters that an event leaves: all but its own and the one of INT_N. -/
theorem State.raiseN_counter_ne (s : State) (e : Evt) (n q o : Nat) (h : q * 4096 + o ≠ e.page * 4096 + e.off)
    (hi : q * 4096 + o ≠ 5 * 4096 + 0x41C) : (s.raiseN e n).counter q o = s.counter q o := by
  unfold State.raiseN State.raiseRaw
  rw [State.settleInt_counter _ _ _ hi]
  split
  · rfl
  · rw [State.setStatus_counter, State.counter_count_ne _ _ _ _ _ _ (Ne.symm h)]

theorem State.raise_counter_ne (s : State) (e : Evt) (q o : Nat) (h : q * 4096 + o ≠ e.page * 4096 + e.off)
    (hi : q * 4096 + o ≠ 5 * 4096 + 0x41C) : (s.raise e).counter q o = s.counter q o :=
  State.raiseN_counter_ne s e 1 q o h hi

theorem HDR_EVT_STATUS_quietless (p q : Nat) (h : p ≠ q) : (HDR.EVT_STATUS_EVENTS p).key ≠ (HDR.EVT_STATUS_EVENTS q).key := by
  simp only [Field.key, HDR.EVT_STATUS_EVENTS]; omega

/-- `EVT_STATUS` of a page after a bit of a page is set (R452). -/
theorem State.setStatus_evt (s : State) (page b q i : Nat) (hp : page < 47) (hb : b < 32) (hi : i < 32) :
    bitOf ((s.setStatus page b).rd (HDR.EVT_STATUS_EVENTS q)) i =
      (bitOf (s.rd (HDR.EVT_STATUS_EVENTS q)) i || decide (q = page ∧ i = b)) := by
  have hk : ∀ f : Field, f.off ≠ 0x010 → f.off < 4096 → f.lsb < 32 → f.key ≠ (HDR.EVT_STATUS_EVENTS q).key := by
    intro f h1 h2 h3 h4; simp only [Field.key, HDR.EVT_STATUS_EVENTS] at h4; omega
  have hn : ∀ t : State, (t.nonMaskable page b).rd (HDR.EVT_STATUS_EVENTS q) = t.rd (HDR.EVT_STATUS_EVENTS q) := by
    intro t; unfold State.nonMaskable; split
    · split
      · rw [State.rd_latchVec, State.rd_wr_ne _ _ (hk _ (by decide) (by decide) (by decide))]
      · rw [State.rd_latchVec, State.rd_wr_ne _ _ (hk _ (by decide) (by decide) (by decide)),
          State.rd_wr_ne _ _ (hk _ (by decide) (by decide) (by decide))]
    · rfl
  unfold State.setStatus
  rw [State.edges_rd, hn]
  by_cases hq : q = page
  · subst hq
    rw [State.rd_wr_same, show (HDR.EVT_STATUS_EVENTS q).width = 32 from rfl, bitOf_mod _ _ _ hi]
    by_cases hib : i = b
    · subst hib; simp
    · rw [bitOf_setBit_ne _ _ _ _ (Ne.symm hib)]; simp [hib]
  · rw [State.rd_wr_ne _ _ (HDR_EVT_STATUS_quietless _ _ (Ne.symm hq))]; simp [hq]

/-- `EVT_STATUS` of a page as INT_N settles: only the bit of INT_N's own event can become set. -/
theorem State.settleInt_evt (s : State) (q i : Nat) (hi : i < 32) (h : ¬ (q = 5 ∧ i = 7)) :
    bitOf (s.settleInt.rd (HDR.EVT_STATUS_EVENTS q)) i = bitOf (s.rd (HDR.EVT_STATUS_EVENTS q)) i := by
  unfold State.settleInt
  split
  · split
    · rfl
    · unfold State.raiseRaw
      split
      · rfl
      · rw [State.setStatus_evt _ _ _ _ _ (by decide) (by decide) hi, State.rd_count]
        have : decide (q = Ev.MG_OBS.intN.page ∧ i = Ev.MG_OBS.intN.bit) = false := by
          exact decide_eq_false h
        rw [this, Bool.or_false]; rfl
  · rfl

/-- The status bits after an event that occurs: its own is set, the others stay (R452). -/
theorem State.raise_evt (s : State) (e : Evt) (q i : Nat) (hp : e.page < 47) (hb : e.bit < 32) (hi : i < 32)
    (h : ¬ (q = 5 ∧ i = 7)) (hl : (otherDie e.page && s.rclkStopped) = false) :
    bitOf ((s.raise e).rd (HDR.EVT_STATUS_EVENTS q)) i =
      (bitOf (s.rd (HDR.EVT_STATUS_EVENTS q)) i || decide (q = e.page ∧ i = e.bit)) := by
  unfold State.raise State.raiseN State.raiseRaw
  rw [State.settleInt_evt _ _ _ hi h, if_neg (by simp [hl]), State.setStatus_evt _ _ _ _ _ hp hb hi, State.rd_count]

end Sys2Proof.Machine
end

