-- ==== Sys2Proof/Laws/Memory.lean ====
section
/-! SUPPORT. The laws of the byte memory behind BAR2: a read after a write, other addresses, and the canonical form. -/

namespace Sys2Proof.Machine

theorem Memory.read_write_same (m : Memory) (a : Nat) (v : Byte) : Memory.read (Memory.write m a v) a = some v := by
  unfold Memory.write
  induction m with
  | nil => simp [Tab.insert, Memory.read]
  | cons e t ih =>
    obtain ⟨k, w⟩ := e
    simp only [Tab.insert]
    split
    · simp [Memory.read]
    · split
      · simp [Memory.read]
      · next h1 h2 => simp [Memory.read, ih, Ne.symm h2]

theorem Memory.read_write_ne (m : Memory) {a b : Nat} (v : Byte) (h : a ≠ b) :
    Memory.read (Memory.write m a v) b = Memory.read m b := by
  unfold Memory.write
  induction m with
  | nil => simp [Tab.insert, Memory.read, h]
  | cons e t ih =>
    obtain ⟨k, w⟩ := e
    simp only [Tab.insert]
    split
    · simp [Memory.read, h]
    · split
      · next h1 h2 => subst h2; simp [Memory.read, h]
      · simp [Memory.read, ih]

/-- A wider write leaves every byte outside it. -/
theorem Memory.read_writeN_out (m : Memory) (a n v b : Nat) (h : b < a ∨ a + n ≤ b) :
    Memory.read (Memory.writeN m a n v) b = Memory.read m b := by
  induction n generalizing m a v with
  | zero => rfl
  | succ n ih =>
    simp only [Memory.writeN]
    rw [ih _ _ _ (by omega), Memory.read_write_ne _ _ (by omega)]

/-- What was written is read back. -/
theorem Memory.readN_writeN (m : Memory) (a n v : Nat) : Memory.readN (Memory.writeN m a n v) a n = some (v % 256 ^ n) := by
  induction n generalizing m a v with
  | zero => simp [Memory.readN, Nat.mod_one]
  | succ n ih =>
    simp only [Memory.writeN, Memory.readN]
    rw [Memory.read_writeN_out _ _ _ _ _ (by omega), Memory.read_write_same, ih]
    simp only [BitVec.toNat_ofNat, Option.some.injEq]
    have h : 256 ^ (n + 1) = 256 * 256 ^ n := by rw [Nat.pow_succ, Nat.mul_comm]
    rw [h, Nat.mod_mul]

theorem Memory.wf_write (m : Memory) (a : Nat) (v : Byte) (h : Memory.wf m = true) : Memory.wf (Memory.write m a v) = true :=
  Tab.sorted_insert m a v h

theorem Memory.wf_writeN (m : Memory) (a n v : Nat) (h : Memory.wf m = true) : Memory.wf (Memory.writeN m a n v) = true := by
  induction n generalizing m a v with
  | zero => exact h
  | succ n ih => exact ih _ _ _ (Memory.wf_write m a _ h)

end Sys2Proof.Machine
end

