-- ==== Sys2Proof/WellFormed.lean ====
section
/-! DEFINITION. Well-formed commands: what a command's data must be for it to say something that can happen. The types
bound most operands; the checks here bound the rest. -/

namespace Sys2Proof

/-- A number fits in a field of `w` bits. -/
def fits (w n : Nat) : Bool := decide (n < 2 ^ w)

/-- A check's cycle window names distinct positions (R68), its stage is one of the block's (R97). -/
def CheckInfo.wf (i : CheckInfo) : Bool := decide (i.positions.map (·.1)).Nodup && decide (i.stage < 197)

/-- The fields of a negotiation message fit (R255). -/
def NegMsg.wf (m : NegMsg) : Bool :=
  fits 8 m.txn && fits 8 m.cause && fits 8 m.dir && fits 32 m.modF && fits 16 m.rateF && fits 8 m.rollF && fits 48 m.atF &&
    fits 32 m.modR && fits 16 m.rateR && fits 8 m.rollR && fits 48 m.atR

/-- A tick measures at most twelve references and reads each rail at most once (R326, R429). -/
def TickInputs.wf (x : TickInputs) : Bool :=
  decide (x.refs.length ≤ 12) && decide (x.rails.length ≤ 16) && decide ((x.rails.map (·.rail)).Nodup)

/-- At most nine stamps are taken on the way, each of 32 bits (R459). -/
def Instant.wf (t : Instant) : Bool := decide (t.stamps.length ≤ 9) && t.stamps.all (fits 32)


/-- A page decode corrects 32 bits at most (R404). -/
def MemFault.wf (f : MemFault) : Bool := f.pageBits.all fun b => decide (b ≤ 32)

/-- Well-formed commands. -/
def Instr.wf : Instr → Bool
  | .powerOnReset => true
  | .resetN .. => true
  | .internalPowerOnReset => true
  | .lossOfPower => true
  | .supplyOutOfTolerance => true
  | .pcieHotReset .. => true
  | .smbusBusReset => true
  | .powerOnRetestDone passed _ => passed.all fun e => decide (e.2 < 296)
  | .managementTick x => x.wf
  | .unitCheckFail _ u i => decide (u < 264) && i.wf
  | .classifyingAttemptDone _ u _ i => decide (u < 264) && i.wf
  | .spareSelfTestDone _ u _ => decide (u < 264)
  | .subconverterTakeover .. => true
  | .txSubconverterSenseFail .. => true
  | .txClusterRotation .. => true
  | .eqClusterRotation .. => true
  | .decoderSpareRotation .. => true
  | .txEnableSet .. => true
  | .txEnableClear .. => true
  | .forcePreamble .. => true
  | .rampStep .. => true
  | .preambleEndMarkerDone .. => true
  | .preambleScheduled .. => true
  | .regionResetRequest .. => true
  | .regionResetDone .. => true
  | .calStep .. => true
  | .calEclosionCompareDone .. => true
  | .calNow .. => true
  | .calHoldSet .. => true
  | .skewPhaseTimeout .. => true
  | .calRunEnd .. => true
  | .rxEnableSet .. => true
  | .rxEnableClear .. => true
  | .forceReacq .. => true
  | .signalPowerInterval _ powX powY metric => fits 16 powX && fits 16 powY && fits 16 metric
  | .cdScanDone _ coarse fine => coarse.all (fits 16) && fine.all (fits 16)
  | .noCarrierRetry .. => true
  | .preamblePeakDetected _ quality => fits 16 quality
  | .endMarkerDetected _ _ quality before => fits 16 quality && fits 16 before
  | .acqStateTimeout .. => true
  | .hopHandoff _ codes => decide (codes.length = 4) && codes.all fun c => decide (c.length = 16384 ∨ c.length = 32768)
  | .hopRelease .. => true
  | .coefUpdateDone .. => true
  | .codewordDispatch _ t => t.wf
  | .decodeDone .. => true
  | .codewordRelease _ iters => decide (iters ≤ 16)
  | .bchDecodeDone .. => true
  | .frameStart _ t part => t.wf && decide (part ≤ 3126)
  | .receivedFrame _ x => x.inst.wf
  | .oofMicrosecond .. => true
  | .lofTimer .. => true
  | .lofClearTimer .. => true
  | .dvorrovMessageReceived .. => true
  | .fawErrorInject .. => true
  | .fcsErrorInject .. => true
  | .pmSecond .. => true
  | .swapRequest .. => true
  | .laneEnable .. => true
  | .laneDisable .. => true
  | .cdrLockAcquired .. => true
  | .peakingSweepDone .. => true
  | .cdrLockLost .. => true
  | .ingressFrame _ bytes _ _ _ _ _ => decide (bytes ≠ [])
  | .pfcFrameReceived _ _ times => decide (times.length = 8)
  | .pfcRepeatTimer .. => true
  | .ianenLaneFrame _ levels => decide (levels.length ≤ 2640)
  | .ianenPacketStart .. => true
  | .lanePrbsErrorInject .. => true
  | .dropPacketDelivery .. => true
  | .tableEntryWrite .. => true
  | .emerge .. => true
  | .enterRing .. => true
  | .holdoffExpiry .. => true
  | .reportWtrExpiry .. => true
  | .reportForce .. => true
  | .restorationPlanApply => true
  | .planSwapTimeout .. => true
  | .dpUnitRelease .. => true
  | .proposeReceived _ m atR => fits 16 atR && m.wf
  | .acceptReceived _ m => m.wf
  | .rejectReceived _ m => m.wf
  | .confirmReceived _ m => m.wf
  | .abortReceived _ m => m.wf
  | .proposerTimeout .. => true
  | .responderConfirmTimeout .. => true
  | .glideBoundariesPassed .. => true
  | .proposeRetryTimer .. => true
  | .unwrapSet .. => true
  | .unwrapMaster .. => true
  | .unwrapKek .. => true
  | .plainKek .. => true
  | .derive .. => true
  | .setAct .. => true
  | .setNxt .. => true
  | .switchKey .. => true
  | .eraseSlot .. => true
  | .eraseMaster .. => true
  | .eraseKek .. => true
  | .sealSet .. => true
  | .keyCommandDone => true
  | .addSwitchBoundary .. => true
  | .dropSwitchBoundary .. => true
  | .retiringKeyExpiry .. => true
  | .verdictDeadline .. => true
  | .verdictReportSend .. => true
  | .resume .. => true
  | .heldUnitRelease .. => true
  | .keyRotationTimer .. => true
  | .drbgReseed .. => true
  | .foscQualWindow count _ => fits 24 count
  | .rclkStartupTimeout => true
  | .apllLock => true
  | .apllLockLost => true
  | .clockMonitorWindow rclk xref _ => fits 16 rclk && fits 16 xref
  | .xrefGap => true
  | .controlClockSwitchDone => true
  | .restoreTimer => true
  | .returnNow .. => true
  | .holdRefreshTimeout => true
  | .gateClose .. => true
  | .gateCloseComplete .. => true
  | .gateOpen .. => true
  | .gateOpenComplete => true
  | .probeCfgWrite .. => true
  | .referencePresenceChange .. => true
  | .refMeasureComplete .. => true
  | .refWtrExpiry .. => true
  | .forceEnSet .. => true
  | .dpllLockAchieved => true
  | .dpllMeasureDone .. => true
  | .dpllSwitchComplete => true
  | .stepTime .. => true
  | .ptpMessageReceived .. => true
  | .ptpSyncSend .. => true
  | .announceTimeout .. => true
  | .grandmasterSwitch .. => true
  | .servoUpdateTimeout .. => true
  | .ppsOutEdge .. => true
  | .ppsInEdge .. => true
  | .todOutSend => true
  | .todInReceived bytes _ => decide (bytes.length ≤ 32)
  | .latchTime .. => true
  | .bootRomStart => true
  | .configRestore => true
  | .restoreEmergeWaitEnd => true
  | .ping .. => true
  | .getInfo .. => true
  | .fwWrite _ _ _ _ image => decide (image.length ≤ 1048576)
  | .fwVerify .. => true
  | .fwMoult .. => true
  | .moultHandover => true
  | .moultStandbyReady => true
  | .fwSetBoot .. => true
  | .fwCommitSvn .. => true
  | .fwBoot .. => true
  | .cfgSave .. => true
  | .cfgClear .. => true
  | .linkUp .. => true
  | .linkDown .. => true
  | .glide .. => true
  | .planLoad _ _ _ _ data => decide (data.length ≤ 1024)
  | .planDelete .. => true
  | .planList .. => true
  | .protStatus .. => true
  | .protHold .. => true
  | .ptpPortCfg .. => true
  | .ptpClockCfg .. => true
  | .ptpDataset .. => true
  | .pmRead .. => true
  | .pmReadBulk .. => true
  | .pmRestart .. => true
  | .krStatus .. => true
  | .krRotateNow .. => true
  | .calRun .. => true
  | .calStatus .. => true
  | .pwrCap .. => true
  | .pwrReport .. => true
  | .telStart .. => true
  | .telStop .. => true
  | .unknownOp .. => true
  | .mailboxCommandDone .. => true
  | .mbxAbort .. => true
  | .telemetryRecord .. => true
  | .watchdogExpiry => true
  | .moultReq .. => true
  | .coreSelfTestDone .. => true
  | .nmiCauseClear .. => true
  | .dmaChannelRun .. => true
  | .dmaDoorbell .. => true
  | .dmaReadCompletion .. => true
  | .dmaDescriptorDone .. => true
  | .dmaCompletionTimeout .. => true
  | .haltClr .. => true
  | .chReset .. => true
  | .arbiterDraw .. => true
  | .arbSeed .. => true
  | .arbMode .. => true
  | .arbFreeze .. => true
  | .arbFreezeExpiry .. => true
  | .memoryLineCrcFail f _ => f.wf
  | .scrubPass .. => true
  | .seqRoundStart .. => true
  | .conversionDone .. => true
  | .urgentConversionRequest .. => true
  | .urgentConversionDone .. => true
  | .filterBankSwapRequest .. => true
  | .calTaskRunEnd _ first second => decide (first.length = second.length)
  | .pmbusAlert => true
  | .avsNegativeSlack => true
  | .evtStatusClear .. => true
  | .evtForce .. => true
  | .msixMessageSend .. => true
  | .counterLowRead .. => true
  | .flowCounterRead .. => true
  | .flowWrappedClear .. => true
  | .fcTxLoRead .. => true
  | .fcRxLoRead .. => true
  | .timeNsRead .. => true
  | .ppsInNsRead .. => true
  | .rcFieldRead .. => true
  | .snapshotRequest .. => true
  | .snapshotCapture .. => true
  | .snapshotDrainDone => true
  | .eyespotComplete _ stamps _ _ => decide (stamps.length ≤ 9) && stamps.all (fits 32)
  | .traceRecordDeliver => true
  | .traceSeed .. => true
  | .eclosionRequest .. => true
  | .eclosionCancel .. => true
  | .eclosionCommit .. => true
  | .pageSoftReset .. => true
  | .softResetSettleDone .. => true
  | .pageFreeze .. => true
  | .pageFreezeExpiry .. => true
  | .partialBar0Write .. => true
  | .errorResponseAccess .. => true
  | .smbusRead .. => true
  | .smbusWrite .. => true
  | .smbusStatus => true
  | .registerWrite .. => true
  | .resetRelease => true
  | .pciePerstNRelease => true
  | .configurationRequestRetryEnd x => [128, 256, 512].contains x.maxPayload
  | .analogReady .. => true
  | .dpllLockLoss .. => true
  | .pfcPauseExpiry .. => true
  | .pcsAlignmentChange .. => true
  | .lanePrbsLockChange _ levels => decide (levels.length ≤ 2640)
  | .delayReqSend .. => true
  | .announceSend .. => true

end Sys2Proof
end

