-- ==== Sys2Proof/Tests/Slice0.lean ====
section
/-! SUPPORT. Tests: ill-formed commands are refused by the check; worked examples of spec/ and of FIPS 197; what single commands do;
and for every statement with hypotheses a witness that meets them, clause by clause. -/

open Sys2Proof Sys2Proof.Machine Sys2Proof.Machine.F

namespace Sys2Proof.Tests

set_option maxRecDepth 10000
set_option Elab.async false

/-! ### States and data that the tests start from -/

/-- The device in operation: reset released, RCLK qualified, the link up, core 0 ACTIVE and core 1 STANDBY. -/
def up : State :=
  let s : State := State.reset
  let s : State := { s with perstLow := false, linkUp := true, crs := false }
  let s : State := { s with clock := { s.clock with released := true, ctrlRun := true, stopped := false, watched := true } }
  let s : State := { s with core := { s.core with retested := true } }
  let s := (((s.wr CK_SYN.SYN_STATUS_RCLK_OK 1).wr CK_SYN.SYN_STATUS_APLL_LOCK 1).wr CK_SYN.SYN_STATUS_MON_ARMED 1).wr CK_SYN.SYN_STATUS_XREF_OK 1
  ((s.wr MG_CTL.CORE_STATUS_CORE0 1).wr MG_CTL.CORE_STATUS_CORE1 2).wr MG_CTL.CORE_STATUS_RUN_SLOT 0

/-- Every slot table entry written. -/
def fillSlots (s : State) : State :=
  { s with bar2 := ((List.range 384).map fun i => (txSlotWin + 768 + i, (0 : Byte))) ++ (List.range 384).map fun i => (rxSlotWin + 768 + i, (0 : Byte)) }

/-- A KEK: the bytes 0 to 31. -/
def kekT : List Nat := List.range 32

/-- KEK 2 held and valid. -/
def KEK2 (s : State) : State := { s.wr CY_KEY.KEK_CTRL_KEK_VALID 15 with keks := [(2, kekT)] }

/-- Key rotation on for a channel. -/
def kdf (s : State) (ch : Nat) : State := s.setTabWord (cryptoWin + 32 * ch) 0x3F

/-- The header of an image as it stands in flash: MAGIC, VERSION 1.2.3, SVN 63, STATE_MIN 1, STATE_VER 2, LENGTH 4. -/
def goodHead : List Nat := [73, 77, 88, 81, 3, 2, 1, 0, 63, 1, 2, 0, 4, 0, 0, 0]

/-- The image of that header. -/
def goodImg : FwImage := ⟨0x10203, 63, 1, 2, [1, 2, 3, 4]⟩

/-- A slot with that header, its CMAC under a key of zeros, and a body of 4 bytes. -/
def goodSlot : FlashSlot :=
  ⟨goodHead ++ [180, 127, 67, 101, 184, 181, 18, 12, 106, 67, 245, 217, 248, 24, 116, 94] ++ List.replicate 224 0xFF ++ [1, 2, 3, 4], false⟩

/-- Both flash slots hold that image, and the fused key is 0. -/
def FLASH (s : State) : State :=
  { s with fuses := List.replicate 32 0, flash := { s.flash with slotA := goodSlot, slotB := goodSlot } }

/-- A line frame with this frame counter and a right check sequence. -/
def rxBits (fc : Nat) : List Bool :=
  let body := bitsOf 48 fc ++ bitsOf 200 0
  bitsOf 64 fawWord ++ body ++ bitsOf 32 (crc32 body)

/-- A client lane enabled. -/
def clientUp (s : State) (k : Nat) : State :=
  ((s.wr (HL_LANE.LANE_CFG_MODE k) 1).wr (HL_LANE.LANE_CFG_ENABLE k) 1).wr (HL_CLIENT.CLIENT_CFG_RATE k) 1

/-- An Ethernet frame of 78 bytes. -/
def goodFrame : List Byte :=
  let b := List.replicate 12 0x11 ++ [0x08, 0x00] ++ List.replicate 60 0x22
  (b ++ ethFcs b).map fun x => BitVec.ofNat 8 x

/-- A flow entry: client, channel, class 0. -/
def putFlow (s : State) (f k ch : Nat) : State :=
  let w0 := 1 + 2 * k + 64 * ch
  (((s.setTabWord (flowWin + 16 * f) w0).setTabWord (flowWin + 16 * f + 4) 0).setTabWord (flowWin + 16 * f + 8) 0).setTabWord (flowWin + 16 * f + 12) 0

/-- A time base with a slave on a port. -/
def tbSlave (s : State) (x k : Nat) : State :=
  let s := s.forEach [0, 1, 2, 3] fun y s => ((s.wr (TS_TB.TB_CTRL_EN y) (if y = x then 1 else 0)).wr (TS_TB.TB_CTRL_SHADOW_EN y) 0)
  let s := ((s.wr (TS_TB.TB_SRC_PORT x) k).wr (TS_TB.TB_SRC_DOMAIN x) 24).wr (TS_TB.TB_STATUS_ACTIVE_GM x) 0
  (s.wr (TS_TB.TB_STATUS_TIME_LOCK x) 1).onServo x false fun v => { v with kind := 3 }

/-- Both ports ACQUIRED and ON. -/
def portsOn (s : State) : State :=
  (s.forEach [Port.E, Port.W] fun p s => (((s.wr (RXFE.RX_CTRL_RX_ENABLE p) 1).wr (RXFE.ACQ_STATUS_ACQ_STATE p) acqAcquired).wr (TX.TX_STATUS_TX_STATE p) txOn))

/-- LINE-E reports signal failure. -/
def failE (s : State) : State := ((s.wr HB_RING.RING_CFG_MODE 1).wr (reqField .E) rptSf).wr (reqField .W) rptOk

/-- A time-of-day message that checks. -/
def todGood : List Byte :=
  let b := [0xA5, 0x5A] ++ bytesOf 6 1234567 ++ bytesOf 2 37 ++ [0, 0]
  (b ++ bytesOf 2 (crc16 (byteBits b))).map fun x => BitVec.ofNat 8 x

/-- A slot of LINE-E sends the channel. -/
def addSlot (s : State) (ch : Nat) : State :=
  (s.wr (HB_FRAME.FRM_STATUS_TX_BANK .E) 0).setTabWord txSlotWin (1 + 4 * 7 + 1024 * ch)

/-- Key data of one block: the byte 7, eight times. -/
def keyData : List Nat := List.replicate 8 7

/-- A swap of LINE-E passes every check, and waits for its plan. -/
def swapReady : State := { fillSlots up with prot := { up.prot with waiting := [0] } }

/-- A line frame of `len` bits with this frame counter and a right check sequence, without marks. -/
def lineFrameOf (fc len : Nat) : List LineBit :=
  let body := bitsOf 48 fc ++ List.replicate (len - 144) false
  let bits := bitsOf 64 fawWord ++ body ++ bitsOf 32 (crc32 body)
  bits.map fun b => ⟨b, false, false⟩

/-- The receive mode with the shortest frame. -/
def smallRx (s : State) (p : Port) : State :=
  ((s.wrA (RXFE.SYM_RATE_RATE_Q p) 1).wrA (DEMAP.MOD_CFG_BASE p) 0).wrA (DEMAP.MOD_CFG_SHAPED p) 0 |>.wrA (DEMAP.MOD_CFG_CODE_RATE p) 0

/-- A synchronised receiver with these line bits. -/
def lineUp (s : State) (p : Port) (l : List LineBit) : State :=
  let s := ((smallRx s p).wr (FEC.SF_STATUS_SF_LOCK p) 1).wr (HB_FRAME.FRM_STATUS_SYNC p) 1
  let s := s.onFrame p fun f => { f with lenRx := (s.rxMode p).frameLen }
  s.onFec p fun f => { f with line := l }

/-- The blocks of a lane frame of idle blocks. -/
def frameBlocks (ctl : Nat) : List (List Bool) :=
  let b := laneFrameBits (encodeBlocks 12345 (List.replicate 77 idleBlock)).1 ctl
  (List.range 80).map fun i => (b.drop (66 * i)).take 66

/-- Bits as the levels that arrive on a lane. -/
def asLevels (inv : Bool) (b : List Bool) : List (Fin 4) := (levelsOf inv b).map fun v => Fin.ofNat 4 v

/-- An enabled Ianen lane with clock lock, its aligner in a state, and the blocks of the frame in progress. -/
def laneRxUp (s : State) (n : Nat) (al : Nat) (blocks : List (List Bool)) : State :=
  let s := (((s.wr (HL_LANE.LANE_CFG_MODE n) 2).wr (HL_LANE.LANE_CFG_ENABLE n) 1).wr (HL_LANE.LANE_STATUS_CDR_LOCK n) 1).wr (HL_LANE.PRBS_CFG_GEN_EN n) 0
  s.onLane n fun l => { l with align := al, rxBits := [], skip := 0, invalid := 3, rxBlocks := blocks }

/-- An arbiter all of whose tickets are 0. -/
def noTickets (s : State) (a : Nat) : State :=
  s.forEach [MG_MEM.TICKETS_LO_T0 a, MG_MEM.TICKETS_LO_T1 a, MG_MEM.TICKETS_LO_T2 a, MG_MEM.TICKETS_LO_T3 a, MG_MEM.TICKETS_HI_T0 a, MG_MEM.TICKETS_HI_T1 a] fun f s => s.wr f 0

/-- A DMA channel runs with this descriptor, and no other does. -/
def chanUp (s : State) (c : Nat) (d : Descr) : State :=
  let s := { s with dma := [] }
  let s := s.forEach (List.range 16) fun c s => s.wr (DMA_ENG.CH_CTRL_RUN c) 0
  let s := (((s.wr DMA_ENG.ENG_CTRL_ENABLE 1).wr DMA_ENG.ENG_STATUS_HALTED 0).wr (DMA_ENG.CH_CTRL_RUN c) 1).wr (DMA_ENG.CH_CTRL_TICKETS c) 9
  ({ s with linkUp := true }.wr (DMA_ENG.REMAIN_BYTES c) 700).onDma c fun x => { x with cur := some d, held := [], outstanding := 0, fetching := [] }

/-- The shortest frame. -/
def smallLen : Nat := ((smallRx State.reset .E).rxMode .E).frameLen

/-- A block of zeros waits for the BCH decoder. -/
def bchWaits : State := up.onFec .E fun f => { f with data := List.replicate 9344 (false, false) }

/-- A lane frame whose data is 0 and whose codeword holds these symbols from symbol 508 on. -/
def laneTail (w : List Nat) : List (List Bool) :=
  let b := rsBits w ++ List.replicate 200 false
  List.replicate 77 (List.replicate 66 false) ++
    (List.range 3).map fun k => (b.drop (2 + 2 * k)).take 2 ++ (b.drop (8 + 64 * k)).take 64

/-- With them the codeword is clean: 4 times the generator of R196. -/
def codeTail : List Nat := [4, 571, 24, 742, 128, 594, 623, 523, 394, 533, 338, 45, 735, 129, 713]

/-- With them it is not, and no 7 corrections make it so. -/
def farTail : List Nat := [4, 508, 1012, 811, 366, 561, 112, 520]

/-- The DMA channel of a service runs, without an error. -/
def svcUp (s : State) (c : Nat) : State :=
  { (((s.wr DMA_ENG.ENG_CTRL_ENABLE 1).wr DMA_ENG.ENG_STATUS_HALTED 0).wr (DMA_ENG.CH_CTRL_RUN c) 1).wr (DMA_ENG.CH_STATUS_STATE c) 0 with linkUp := true }

/-- The key data wrapped under the KEK `kekT`. -/
def blob8 : List Nat := [116, 234, 54, 142, 231, 18, 61, 197, 21, 93, 196, 81, 95, 9, 103, 106]

/-! ### Well-formedness: an ill-formed command for each check -/

theorem test_wf_accepts : (Instr.cdScanDone .E [5] [65535]).wf = true := by decide

theorem test_wf_refuses_retest : (Instr.powerOnRetestDone [(.aes 0, 296)] []).wf = false := by decide

theorem test_wf_refuses_tick :
    (Instr.managementTick ⟨0, 0, List.replicate 13 0, 0, 0, 0, 0, 0, ⟨(0, 0), (0, 0)⟩, ⟨0, 0⟩, [], [], [], 0⟩).wf = false ∧
    (Instr.managementTick ⟨0, 0, [], 0, 0, 0, 0, 0, ⟨(0, 0), (0, 0)⟩, ⟨0, 0⟩, [], [],
      [⟨3, true, 0, 0, 0⟩, ⟨3, true, 1, 0, 0⟩], 0⟩).wf = false := by decide

theorem test_wf_refuses_units :
    (Instr.unitCheckFail (.aes 0) 264 ⟨0, 0, 0, [], false⟩).wf = false ∧
    (Instr.unitCheckFail (.aes 0) 0 ⟨0, 197, 0, [], false⟩).wf = false ∧
    (Instr.unitCheckFail (.aes 0) 0 ⟨0, 0, 0, [(4, 0), (4, 1)], false⟩).wf = false ∧
    (Instr.classifyingAttemptDone (.aes 0) 264 true ⟨0, 0, 0, [], false⟩).wf = false ∧
    (Instr.spareSelfTestDone (.aes 0) 264 true).wf = false := by decide

theorem test_wf_refuses_line :
    (Instr.signalPowerInterval .E 65536 0 0).wf = false ∧ (Instr.cdScanDone .E [] [65536]).wf = false ∧
    (Instr.preamblePeakDetected .W 65536).wf = false ∧ (Instr.endMarkerDetected .W 0 65536 0).wf = false ∧
    (Instr.endMarkerDetected .W 0 0 65536).wf = false ∧ (Instr.hopHandoff .E [[1], [], [], []]).wf = false ∧
    (Instr.frameStart .E ⟨0, []⟩ 3127).wf = false ∧
    (Instr.codewordDispatch .E ⟨0, List.replicate 10 0⟩).wf = false ∧ (Instr.codewordRelease .E 17).wf = false ∧
    (Instr.receivedFrame .E ⟨0, ⟨0, [2 ^ 32]⟩⟩).wf = false := by decide

theorem test_wf_refuses_messages :
    (Instr.acceptReceived .E ⟨256, 0, 0, 0, 0, 0, 0, 0, 0, 0, 0⟩).wf = false ∧
    (Instr.rejectReceived .E ⟨0, 256, 0, 0, 0, 0, 0, 0, 0, 0, 0⟩).wf = false ∧
    (Instr.confirmReceived .E ⟨0, 0, 0, 0, 0, 256, 0, 0, 0, 0, 0⟩).wf = false ∧
    (Instr.abortReceived .E ⟨0, 0, 0, 0, 0, 0, 0, 0, 0, 0, 2 ^ 48⟩).wf = false ∧
    (Instr.proposeReceived .E ⟨0, 0, 0, 0, 0, 0, 0, 0, 0, 0, 0⟩ 65536).wf = false ∧
    (Instr.ingressFrame 0 [] false 0 true 0 0).wf = false ∧ (Instr.pfcFrameReceived 0 1 [5]).wf = false ∧
    (Instr.todInReceived (List.replicate 33 0) 0).wf = false ∧ (Instr.eyespotComplete 0 (List.replicate 10 0) 0 0).wf = false ∧
    (Instr.ianenLaneFrame 0 (List.replicate 2641 0)).wf = false := by decide +kernel

theorem test_wf_refuses_clocks_and_tasks :
    (Instr.foscQualWindow 16777216 false).wf = false ∧ (Instr.clockMonitorWindow 65536 0 false).wf = false ∧
    (Instr.clockMonitorWindow 0 65536 false).wf = false ∧ (Instr.calTaskRunEnd 0 [1] []).wf = false ∧
    (Instr.memoryLineCrcFail ⟨0, 0, true, false, some 33, true, 4, none⟩ .scrub).wf = false ∧
    (Instr.planLoad .pcie 0 0 0 (List.replicate 1025 0)).wf = false ∧
    (Instr.lanePrbsLockChange 0 (List.replicate 2641 0)).wf = false ∧
    (Instr.configurationRequestRetryEnd ⟨true, false, 64⟩).wf = false := by decide +kernel

theorem test_wf_refuses_long_image : (Instr.fwWrite .pcie 0 0 0 (List.replicate 1048577 0)).wf = false := by
  show decide ((List.replicate 1048577 (0 : Byte)).length ≤ 1048576) = false
  rw [List.length_replicate]
  decide

/-! ### Worked examples of the specification -/

/-- The reference modes M96, M64 and M32, and the other settings of the text (R35). -/
theorem test_slots_of_reference_modes :
    (Mode.mk 2 true 346 2 1088 10).slots = 96 ∧ (Mode.mk 2 true 259 1 1088 10).slots = 64 ∧
    (Mode.mk 1 true 150 0 1088 10).slots = 32 ∧ (Mode.mk 1 false 0 0 1088 10).slots = 66 ∧
    (Mode.mk 2 true 346 2 544 10).slots = 48 ∧ (Mode.mk 2 true 358 2 1088 10).slots = 96 := by decide

/-- The matcher block of M32: k = 22, s = 0, and the numbers of sequences with four and with three 3s (the example after
R45). -/
theorem test_matcher_of_m32 :
    (Mode.mk 1 true 150 0 1088 10).k = 22 ∧ (Mode.mk 1 true 150 0 1088 10).s = 0 ∧
    Composition.count ⟨124, 4, 0, 0⟩ = 10668000 ∧ Composition.count ⟨125, 3, 0, 0⟩ = 341376 := by decide +kernel

/-- I_SF of M96, M64 and M32 (the example after R135). -/
theorem test_information_bits :
    (Mode.mk 2 true 346 2 1088 10).infoSf = 636500240 ∧ (Mode.mk 2 true 259 1 1088 10).infoSf = 424727392 ∧
    (Mode.mk 1 true 150 0 1088 10).infoSf = 212391392 := by decide +kernel

/-- W_max in 100 ps/nm at 193,400 GHz (the table after R81). -/
theorem test_w_max :
    wMax (Mode.mk 2 true 346 2 1088 10) 193400 = 210 ∧ wMax (Mode.mk 2 true 346 2 1088 20) 193400 = 200 ∧
    wMax (Mode.mk 2 true 346 2 1088 50) 193400 = 176 ∧ wMax (Mode.mk 2 true 346 2 544 50) 193400 = 600 := by decide +kernel

/-- The draws of arbiter 0: core 0, DMA and the key engine ask; then DMA has no tickets (the example after R403). -/
theorem test_lottery :
    lottery [(0, 64), (2, 128), (3, 32)] (0x9E3779B9 * 224 / 2 ^ 32) = some 2 ∧
    lottery [(0, 64), (3, 32), (2, 0)] (0x2A000000 * 96 / 2 ^ 32) = some 0 := by decide

/-- AES-256 of FIPS 197, appendix C.3, the cipher of R270 and R301. -/
theorem test_aes256 : aesEnc kekT ((List.range 16).map (17 * ·)) =
    [0x8E, 0xA2, 0xB7, 0xCA, 0x51, 0x67, 0x45, 0xBF, 0xEA, 0xFC, 0x49, 0x90, 0x4B, 0x49, 0x60, 0x89] := by decide +kernel

/-- A wrapped block unwraps: its integrity check passes (R301). -/
theorem test_unwrap : unwrap kekT blob8 = some keyData := by decide +kernel

/-- With every standby entry written and no channel in it, a swap of LINE-E passes (R218). -/
theorem swap_ready : swapReady.swapCause .E = 0 := by decide +kernel

/-! ### Single commands -/

/-- After reset the status command answers 0 (R470). -/
theorem test_smbus_status : ∃ t, exec .smbusStatus State.reset = .next t ∧ t.out = [.smbus [0]] := ⟨_, rfl, rfl⟩

/-- An empty queue idles. -/
theorem test_idle : step State.reset = .next State.reset := rfl

/-- Setting TX_ENABLE of a DARK port starts its ramp (R57). -/
theorem test_tx_enable : ∃ t, exec (.txEnableSet .pcie .E) up = .next t ∧ t.txSt .E = txRampUp ∧ t.txSt .W = txDark :=
  ⟨_, rfl, by decide +kernel⟩

/-- A pulse of 99 ns on RESET_N does nothing, one of 1 us erases the keys (R520, R284). -/
theorem test_reset_n : exec (.resetN 99) (KEK2 up) = .next (KEK2 up) ∧
    ∃ t, exec (.resetN 1000) (KEK2 up) = .next t ∧ t.keks = [] :=
  ⟨rfl, _, rfl, by decide +kernel⟩

/-- Forcing bit 2 of `CK_SYN` drives NMI_N and leaves RCLK qualified (R454). -/
theorem test_force_rclk_failure : ∃ t, exec (.evtForce .pcie 7 4) up = .next t ∧ t.nmiLow = true ∧
    t.on CK_SYN.SYN_STATUS_RCLK_OK = true ∧ t.counter 7 0x408 = 0 := ⟨_, rfl, by decide +kernel⟩

/-- A write over SMBus to a page outside its reach is refused (R470). -/
theorem test_smbus_refusal : ∃ t, exec (.smbusWrite 0x05040 1) up = .next t ∧ t.smbLast = 2 := ⟨_, rfl, by decide +kernel⟩

/-- A partial write of BAR0 changes no field but the lock violation (R468). -/
theorem test_partial_write : ∃ t, exec (.partialBar0Write .pcie 0x04044) up = .next t ∧
    t.rd (HDR.LOCK_VIOL_CAUSE 4) = 5 ∧ t.rd (MG_MEM.ARB_SEED_STATE 0) = up.rd (MG_MEM.ARB_SEED_STATE 0) := ⟨_, rfl, by decide +kernel⟩

/-! ### The hypotheses of the statements are met -/

/-- A state whose queue has a front command, and one whose queue is empty. -/
theorem witness_aStepRunsTheFrontCommand :
    (∃ (c : Instr) (rest : List Instr) (s : State), s.pending = c :: rest) ∧ ∃ s : State, s.pending = [] :=
  ⟨⟨.smbusStatus, [.keyCommandDone], { up with pending := [.smbusStatus, .keyCommandDone] }, rfl⟩, State.reset, rfl⟩

/-- A command answers a next state. -/
theorem witness_commandsLeaveTheQueue : ∃ (c : Instr) (s t : State), exec c s = .next t := ⟨.smbusStatus, up, _, rfl⟩

/-- A step from canonical memories answers a next state. -/
theorem witness_memoryStaysCanonical : ∃ s t : State, (Memory.wf s.bar2 = true ∧ Memory.wf s.sram = true) ∧ step s = .next t :=
  ⟨{ up with pending := [.smbusStatus], bar2 := [(4, 1), (9, 7)] }, _, by decide, rfl⟩

/-- A step from agreeing bypass outputs answers a next state. -/
theorem witness_bypassOutputsAgree : ∃ s t : State, s.pins.bypassHold.e = s.pins.bypassHold.w ∧ step s = .next t :=
  ⟨{ up with pending := [.enterRing .pcie] }, _, by decide +kernel, rfl⟩

/-- A command that stores nothing answers a next state. -/
theorem witness_memoryChangesOnlyByItsWriters : ∃ (c : Instr) (s t : State), storesMemory c = false ∧ exec c s = .next t :=
  ⟨.emerge .pcie, up, _, rfl, rfl⟩

/-- A command that changes no key answers a next state. -/
theorem witness_keysChangeOnlyByKeyCommands : ∃ (c : Instr) (s t : State), changesKeys c = false ∧ exec c s = .next t :=
  ⟨.pcieHotReset .hot, KEK2 up, _, rfl, rfl⟩

/-- A command that changes no flash answers a next state. -/
theorem witness_flashChangesOnlyThroughMailboxes : ∃ (c : Instr) (s t : State), changesFlash c = false ∧ exec c s = .next t :=
  ⟨.powerOnReset, FLASH up, _, rfl, rfl⟩

/-- Every page of the directory has fields: 47 pages. -/
theorem witness_resetRegisterValues : ∃ page, page < 47 ∧ ∃ f, f ∈ pageFields page := ⟨17, by decide, MON_SEQ.SEQ_CTRL_RUN, by decide +kernel⟩

/-- The data that waits for the BCH decoder. -/
theorem bchWaits_data : (bchWaits.fec.get .E).data = List.replicate 9344 (false, false) := rfl

theorem bchWaits_bad : (bchWaits.fec.get .E).bchBad = false := by decide +kernel

/-- A product of 0 in the field is 0, and so are the syndromes of zeros. -/
theorem gf14Mul_zero (b : Nat) : gf14Mul 0 b = 0 :=
  List.foldl_fixed' (fun i => by cases h : bitOf b i <;> simp) _

theorem bchSyndrome_zeros (n i : Nat) : bchSyndrome (List.replicate n false) i = 0 := by
  unfold bchSyndrome
  induction n with
  | zero => rfl
  | succ n ih => simpa [List.replicate_succ, gf14Mul_zero, bit] using ih

/-- A block of zeros is a codeword (R134). -/
theorem bchDecode_zeros (n : Nat) : bchDecode (List.replicate n false) = some (List.replicate n false, 0) := by
  simp [bchDecode, bchSyndrome_zeros]

/-- What waits is long enough, without a mark, and all zeros. -/
theorem bchWaits_length : 9344 ≤ (bchWaits.fec.get .E).data.length := by rw [bchWaits_data, List.length_replicate]

theorem zeros_unmarked (n : Nat) : (List.replicate n (false, false)).any (·.2) = false := by simp

theorem bchWaits_unmarked : ((bchWaits.fec.get .E).bchBad || ((bchWaits.fec.get .E).data.take 9344).any (·.2)) = false := by
  rw [bchWaits_data, bchWaits_bad, List.take_replicate, zeros_unmarked]; rfl

theorem bchWaits_decodes : bchDecode (((bchWaits.fec.get .E).data.take 9344).map (·.1)) = some (List.replicate 9344 false, 0) := by
  rw [bchWaits_data, List.take_replicate, List.map_replicate]
  exact bchDecode_zeros 9344

/-- The hypotheses of `EventsCountAndShow` are met, case by case. -/
theorem witness_eventsCountAndShow :
    (∃ (e : Evt) (n : Nat) (s : State), n ≠ 0 ∧ Occurs s e ∧ e.bit < 32 ∧ e.page * 4096 + e.off ≠ 5 * 4096 + Ev.MG_OBS.intN.off) ∧
    (∃ (e : Evt) (s : State), (otherDie e.page && s.rclkStopped) = true) :=
  ⟨⟨(⟨0, 0, 0x400 + 4 * 0, false⟩ : Evt), (1 : Nat), (up : State), by decide +kernel⟩,
   ⟨(Ev.TX.exhausted .E : Evt), ((fun s => s.wr CK_SYN.SYN_STATUS_RCLK_OK 0) up : State), by decide +kernel⟩⟩

/-- The hypotheses of `ForcedEvents` are met, case by case. -/
theorem witness_forcedEvents :
    (∃ (r : Requester) (page : Fin 47) (b : Word) (s : State) (i : Nat), s.Takes r page.val 0x018 ∧ i < 32 ∧ page.val ≠ 7 ∧ bitOf b.toNat i = true ∧ bitOf (Ev.nonMaskable page.val) i = true) ∧
    (∃ (r : Requester) (b : Word) (s : State), s.Takes r 7 0x018 ∧ bitOf b.toNat 2 = true) ∧
    (∃ (r : Requester) (page : Fin 47) (b : Word) (s : State), s.Takes r page.val 0x018 ∧ page.val ≠ 5 ∧ b.toNat &&& Ev.defined page.val = 0) :=
  ⟨⟨(.pcie : Requester), (Fin.ofNat 47 ([1,16,17,30,31,39,32,35,46].getD 0 1) : Fin 47), (BitVec.ofNat 32 (2^([5,12,4,5,10,10,3,5,3].getD ([1,16,17,30,31,39,32,35,46].findIdx (· == (Fin.ofNat 47 ([1,16,17,30,31,39,32,35,46].getD 0 1) : Fin 47).val)) 0 : Nat) + 1) : Word), (up : State), ([5,12,4,5,10,10,3,5,3].getD ([1,16,17,30,31,39,32,35,46].findIdx (· == (Fin.ofNat 47 ([1,16,17,30,31,39,32,35,46].getD 0 1) : Fin 47).val)) 0 : Nat), by decide +kernel⟩,
   ⟨(.pcie : Requester), (5 : Word), (up : State), by decide +kernel⟩,
   ⟨(.pcie : Requester), (Fin.ofNat 47 ([0,1,2,18,21].getD 0 1) : Fin 47), (0xFFF00000 : Word), (up : State), by decide +kernel⟩⟩

/-- The hypotheses of `NonMaskableEvents` are met, case by case. -/
theorem witness_nonMaskableEvents :
    (∃ (e : Evt) (s : State), Occurs s e ∧ e.bit < 32 ∧ e.page < 47 ∧ e.page ≠ 7 ∧ bitOf (Ev.nonMaskable e.page) e.bit = true) ∧
    (∃ (e : Evt) (s : State) (_mask _sel : Nat), Occurs s e ∧ e.bit < 32 ∧ e.page < 47 ∧ e.page ≠ 7 ∧ bitOf (Ev.nonMaskable e.page) e.bit = true) :=
  ⟨⟨([Ev.CY_PIPE.redo 5, Ev.TX.exhausted .E, Ev.TXCONV.exhausted .W 2, Ev.FEC.exhausted .E, Ev.RXEQ.exhausted .W, ⟨1, 5, 0x414, true⟩].getD 0 (Ev.DEMAP.exhausted .E) : Evt), (up : State), by decide +kernel⟩,
   ⟨([Ev.CY_PIPE.redo 5, Ev.TX.exhausted .E, Ev.TXCONV.exhausted .W 2, Ev.FEC.exhausted .E, Ev.RXEQ.exhausted .W, ⟨1, 5, 0x414, true⟩].getD 0 (Ev.DEMAP.exhausted .E) : Evt), (up : State), (1 : Nat), (1 : Nat), by decide +kernel⟩⟩

/-- The hypotheses of `ResetsEraseTheKeys` are met, case by case. -/
theorem witness_resetsEraseTheKeys :
    (∃ (n : Nat), 1000 ≤ n) :=
  ⟨(1000 + 0 : Nat), by decide +kernel⟩

/-- The hypotheses of `StagedConfigurationsThatAreInvalid` are met, case by case. -/
theorem witness_stagedConfigurationsThatAreInvalid :
    (∃ (p : Port) (s : State), s.rd (TX.MOD_CFG_BASE p) = 3) ∧
    (∃ (p : Port) (s : State), s.rd (TX.MOD_CFG_CODE_RATE p) = 3) ∧
    (∃ (p : Port) (s : State), s.rd (TX.MOD_CFG_SHAPED p) = 1 ∧ s.rd (TX.MOD_CFG_BASE p) = 0) ∧
    (∃ (p : Port) (s : State), s.rd (TX.MOD_CFG_SHAPED p) = 1 ∧ s.rd (TX.MOD_CFG_BASE p) = 1 ∧ (s.rd (TX.MOD_CFG_ENTROPY_E p) < 96 ∨ 252 < s.rd (TX.MOD_CFG_ENTROPY_E p))) ∧
    (∃ (p : Port) (s : State), s.rd (TX.MOD_CFG_SHAPED p) = 1 ∧ s.rd (TX.MOD_CFG_BASE p) = 2 ∧ (s.rd (TX.MOD_CFG_ENTROPY_E p) < 128 ∨ 358 < s.rd (TX.MOD_CFG_ENTROPY_E p))) ∧
    (∃ (p : Port) (s : State), (s.rd (TX.SYM_RATE_RATE_Q p) < 240 ∨ 1088 < s.rd (TX.SYM_RATE_RATE_Q p))) ∧
    (∃ (p : Port) (s : State), (s.rd (TX.SHAPE_CFG_ROLLOFF p) = 0 ∨ 50 < s.rd (TX.SHAPE_CFG_ROLLOFF p))) ∧
    (∃ (p : Port) (s : State), (s.txModeStaged p).slots = 0) ∧
    (∃ (p : Port) (s : State), s.on (HDR.CTRL_FREEZE (31 + 8 * p.toNat)) = false ∧ s.txStagedValid p = false) ∧
    (∃ (p : Port) (s : State), (s.rd (RXFE.SYM_RATE_RATE_Q p) < 240 ∨ 1088 < s.rd (RXFE.SYM_RATE_RATE_Q p))) ∧
    (∃ (p : Port) (s : State), (s.rd (RXFE.SHAPE_CFG_ROLLOFF p) = 0 ∨ 50 < s.rd (RXFE.SHAPE_CFG_ROLLOFF p))) ∧
    (∃ (p : Port) (s : State), wMax (s.rxModeStaged p) (s.rd (RXFE.CARRIER_FREQ_GHZ p)) < s.rd (RXFE.CD_WINDOW_W p)) ∧
    (∃ (p : Port) (s : State), (s.rd (RXFE.CARRIER_FREQ_GHZ p) < 186000 ∨ 197000 < s.rd (RXFE.CARRIER_FREQ_GHZ p))) ∧
    (∃ (p : Port) (s : State), s.rd (RXFE.CD_WINDOW_W p) < (s.rdI (RXFE.CD_SCAN_CENTRE p)).natAbs + s.rd (RXFE.CD_SCAN_HALF p)) ∧
    (∃ (p : Port) (s : State), s.on (HDR.CTRL_FREEZE (33 + 8 * p.toNat)) = false ∧ s.rxStagedValid p = false) :=
  ⟨⟨(.E : Port), ((fun s => s.wr ((TX.MOD_CFG_BASE (.E : Port))) (3)) up : State), by decide +kernel⟩,
   ⟨(.E : Port), ((fun s => s.wr ((TX.MOD_CFG_CODE_RATE (.E : Port))) (3)) up : State), by decide +kernel⟩,
   ⟨(.E : Port), ((fun s => s.wr ((TX.MOD_CFG_BASE (.E : Port))) (0)) up : State), by decide +kernel⟩,
   ⟨(.E : Port), ((fun s => s.wr ((TX.MOD_CFG_BASE (.E : Port))) (1)) up : State), by decide +kernel⟩,
   ⟨(.E : Port), ((fun s => s.wr (TX.MOD_CFG_ENTROPY_E (.E : Port)) 127) up : State), by decide +kernel⟩,
   ⟨(.E : Port), ((fun s => s.wr (TX.SYM_RATE_RATE_Q (.E : Port)) 100) up : State), by decide +kernel⟩,
   ⟨(.E : Port), ((fun s => s.wr (TX.SHAPE_CFG_ROLLOFF (.E : Port)) 51) up : State), by decide +kernel⟩,
   ⟨(.E : Port), ((fun s => (s.wr (TX.MOD_CFG_ENTROPY_E (.E : Port)) 1).wr (TX.MOD_CFG_SHAPED (.E : Port)) 1) up : State), by decide +kernel⟩,
   ⟨(.E : Port), ((fun s => s.wr (TX.MOD_CFG_BASE (.E : Port)) 3) up : State), by decide +kernel⟩,
   ⟨(.E : Port), ((fun s => s.wr (RXFE.SYM_RATE_RATE_Q (.E : Port)) 100) up : State), by decide +kernel⟩,
   ⟨(.E : Port), ((fun s => s.wr (RXFE.SHAPE_CFG_ROLLOFF (.E : Port)) 51) up : State), by decide +kernel⟩,
   ⟨(.E : Port), ((fun s => s.wr (RXFE.CD_WINDOW_W (.E : Port)) 1000) up : State), by decide +kernel⟩,
   ⟨(.E : Port), ((fun s => s.wr (RXFE.CARRIER_FREQ_GHZ (.E : Port)) 197001) up : State), by decide +kernel⟩,
   ⟨(.E : Port), ((fun s => s.wr (RXFE.CD_SCAN_HALF (.E : Port)) 255) up : State), by decide +kernel⟩,
   ⟨(.E : Port), ((fun s => s.wr (RXFE.SHAPE_CFG_ROLLOFF (.E : Port)) 0) up : State), by decide +kernel⟩⟩

/-- The hypotheses of `EventRegistersAndMsix` are met, case by case. -/
theorem witness_eventRegistersAndMsix :
    (∃ (r : Requester) (page : Fin 47) (s : State) (i : Nat), s.Takes r page.val 0x010 ∧ i < 32 ∧ (page.val = 5 → i ≠ Ev.MG_OBS.latchByClear.bit ∧ i ≠ Ev.MG_OBS.intN.bit)) ∧
    (∃ (r : Requester) (page : Fin 47) (s : State) (i : Nat), s.Takes r page.val 0x018 ∧ i < 32 ∧ (page.val = 5 → i ≠ Ev.MG_OBS.intN.bit)) ∧
    (∃ (v : Fin 64) (s : State), s.msixLatch.contains v.val = true ∧ s.linkUp = true ∧ s.msixEnable = true ∧ s.msixFnMask = false ∧ bitOf (s.msixWord (4 * v.val + 3)) 0 = false) :=
  ⟨⟨(.pcie : Requester), (1 : Fin 47), (up : State), (0 : Nat), by decide +kernel⟩,
   ⟨(.pcie : Requester), (1 : Fin 47), (up : State), (0 : Nat), by decide +kernel⟩,
   ⟨(1 : Fin 64), ((fun s => { s with msixTable := Tab.set 1 s.msixTable (4 * (1 : Fin 64).val + 3) 0 }) ((fun s => { s with msixLatch := addSorted s.msixLatch (1 : Fin 64).val }) ((fun s => { s with msixEnable := true }) up)) : State), by decide +kernel⟩⟩

/-- The hypotheses of `ReadsThatLatchOrClear` are met, case by case. -/
theorem witness_readsThatLatchOrClear :
    (∃ (r : Requester) (page : Fin 47) (off : BitVec 12) (s : State), isCounter page.val off.toNat = true ∧ s.Answers r page.val off.toNat) ∧
    (∃ (r : Requester) (s : State), r ≠ .smbus ∧ s.clock.stopped = false) ∧
    (∃ (r : Requester) (p : Port) (s : State), s.Answers r (19 + p.toNat) 0x05C ∧ s.on (HDR.CTRL_FREEZE (19 + p.toNat)) = false) ∧
    (∃ (r : Requester) (p : Port) (s : State), s.Answers r (19 + p.toNat) 0x064 ∧ s.on (HDR.CTRL_FREEZE (19 + p.toNat)) = false) ∧
    (∃ (r : Requester) (x : Fin 4) (s : State), s.Answers r (11 + x.val) 0x070 ∧ s.getLatch r (timeLatch x.val 3) < 2 ^ 32) ∧
    (∃ (r : Requester) (s : State), s.Answers r 15 0x048 ∧ s.on (HDR.CTRL_FREEZE 15) = false) ∧
    (∃ (r : Requester) (p : Port) (s : State), s.Answers r (38 + 8 * p.toNat) 0x050) ∧
    (∃ (r : Requester) (s : State), s.Answers r 17 0x054) :=
  ⟨⟨(.pcie : Requester), (5 : Fin 47), (0x404 : BitVec 12), (up : State), by decide +kernel⟩,
   ⟨(.pcie : Requester), (up : State), by decide +kernel⟩,
   ⟨(.pcie : Requester), (.E : Port), (up : State), by decide +kernel⟩,
   ⟨(.pcie : Requester), (.E : Port), (up : State), by decide +kernel⟩,
   ⟨(.pcie : Requester), (1 : Fin 4), (up : State), by decide +kernel⟩,
   ⟨(.pcie : Requester), (up : State), by decide +kernel⟩,
   ⟨(.pcie : Requester), (.E : Port), (up : State), by decide +kernel⟩,
   ⟨(.pcie : Requester), (up : State), by decide +kernel⟩⟩

/-- The hypotheses of `SnapshotsAndTraceRecords` are met, case by case. -/
theorem witness_snapshotsAndTraceRecords :
    (∃ (r : Requester) (s : State), s.Takes r 5 0x040 ∧ s.on MG_OBS.SNAP_STATUS_BUSY = false) ∧
    (∃ (r : Requester) (s : State), s.Takes r 5 0x040 ∧ s.on MG_OBS.SNAP_STATUS_BUSY = true) ∧
    (∃ (s : State), s.Clocked ∧ s.on MG_OBS.SNAP_STATUS_BUSY = true ∧ bitOf s.snapReq 2 = false ∧ (if bitOf s.snapReq 0 then bitOf s.snapReq 3 = true else s.on (MG_MEM.ARB_CFG_FREEZE 2) = false)) ∧
    (∃ (s : State), s.on MG_OBS.SNAP_STATUS_BUSY = true ∧ bitOf s.snapReq 2 = true) ∧
    (∃ (src : Fin 6) (e : Eyespot) (s : State), s.Clocked ∧ s.flightOf src.val = some e ∧ s.trace.buffer.length < 256) ∧
    (∃ (e : Eyespot) (rest : List Eyespot) (s : State), s.trace.buffer = e :: rest ∧ s.serviceRuns 14 = true ∧ s.serviceError 14 = none ∧ (s.rd MG_OBS.TRACE_WR_WR % s.traceSize + 1) % s.traceSize ≠ s.rd MG_OBS.TRACE_RD_RD % s.traceSize) ∧
    (∃ (s : State), (s.serviceRuns 14 = false ∨ s.serviceError 14 ≠ none)) ∧
    (∃ (e : Eyespot) (rest : List Eyespot) (s : State), s.trace.buffer = e :: rest ∧ s.serviceRuns 14 = true ∧ s.serviceError 14 = none ∧ (s.rd MG_OBS.TRACE_WR_WR % s.traceSize + 1) % s.traceSize = s.rd MG_OBS.TRACE_RD_RD % s.traceSize) ∧
    (∃ (r : Requester) (s : State), s.Takes r 5 0x088) :=
  ⟨⟨(.pcie : Requester), (up : State), by decide +kernel⟩,
   ⟨(.pcie : Requester), ((fun s => s.wr (MG_OBS.SNAP_STATUS_BUSY) (1)) up : State), by decide +kernel⟩,
   ⟨((fun s => s.wr (MG_OBS.SNAP_STATUS_BUSY) (1)) up : State), by decide +kernel⟩,
   ⟨((fun s => { s with snapReq := s.snapReq / 8 * 8 + 4 }) ((fun s => s.wr (MG_OBS.SNAP_STATUS_BUSY) (1)) up) : State), by decide +kernel⟩,
   ⟨(1 : Fin 6), (⟨0, 0, 0, 0, 0, 0, 0, 0, 0, []⟩ : Eyespot), ((fun s => { s with trace := { s.trace with flight := [((1 : Fin 6).val, (⟨0, 0, 0, 0, 0, 0, 0, 0, 0, []⟩ : Eyespot))], buffer := [] } }) up : State), by decide +kernel⟩,
   ⟨(⟨0, 0, 0, 0, 0, 0, 0, 0, 0, []⟩ : Eyespot), ([] : List Eyespot), ((fun s => svcUp s 14) ((fun s => { s with trace := { s.trace with buffer := (⟨0, 0, 0, 0, 0, 0, 0, 0, 0, []⟩ : Eyespot) :: ([] : List Eyespot) } }) up) : State), by decide +kernel⟩,
   ⟨(up : State), by decide +kernel⟩,
   ⟨(⟨0, 0, 0, 0, 0, 0, 0, 0, 0, []⟩ : Eyespot), ([] : List Eyespot), ((fun s => s.wr MG_OBS.TRACE_RD_RD ((s.rd MG_OBS.TRACE_WR_WR % s.traceSize + 1) % s.traceSize)) ((fun s => svcUp s 14) ((fun s => { s with trace := { s.trace with buffer := (⟨0, 0, 0, 0, 0, 0, 0, 0, 0, []⟩ : Eyespot) :: ([] : List Eyespot) } }) up)) : State), by decide +kernel⟩,
   ⟨(.pcie : Requester), (up : State), by decide +kernel⟩⟩

/-- The hypotheses of `SoftResetAndFreezeOfAPage` are met, case by case. -/
theorem witness_softResetAndFreezeOfAPage :
    (∃ (r : Requester) (page : Fin 47) (s : State), s.Takes r page.val 0x008 ∧ softResetOk page.val = true ∧ s.pageEnabled page.val = false) ∧
    (∃ (r : Requester) (page : Fin 47) (s : State), s.Takes r page.val 0x008 ∧ (softResetOk page.val = false ∨ s.pageEnabled page.val = true)) ∧
    (∃ (page : Fin 47) (s : State), s.clock.stopped = false ∧ (rclkPage page.val = true → s.Clocked)) ∧
    (∃ (r : Requester) (page : Fin 47) (s : State), s.Takes r page.val 0x008 ∧ s.on (HDR.CTRL_FREEZE page.val) = false) :=
  ⟨⟨(.pcie : Requester), (17 : Fin 47), ((fun s => s.wr MON_SEQ.SEQ_CTRL_RUN 0) up : State), by decide +kernel⟩,
   ⟨(.pcie : Requester), (1 : Fin 47), (up : State), by decide +kernel⟩,
   ⟨(1 : Fin 47), (up : State), by decide +kernel⟩,
   ⟨(.pcie : Requester), (1 : Fin 47), (up : State), by decide +kernel⟩⟩

/-- The hypotheses of `EclosionRequestsAndCommits` are met, case by case. -/
theorem witness_eclosionRequestsAndCommits :
    (∃ (r : Requester) (page : Fin 47) (groups : BitVec 10) (b : BitVec 3) (at_ : BitVec 16) (s : State), s.Takes r page.val 0x020 ∧ s.eclosionCode page.val groups.toNat b.toNat at_.toNat = 0) ∧
    (∃ (r : Requester) (page : Fin 47) (groups : BitVec 10) (b : BitVec 3) (at_ : BitVec 16) (s : State), s.Takes r page.val 0x020 ∧ s.eclosionCode page.val groups.toNat b.toNat at_.toNat ≠ 0) ∧
    (∃ (r : Requester) (page : Fin 47) (k : Fin 2) (s : State), s.Takes r page.val 0x020 ∧ Tab.has s.ecl (page.val + 64 * k.val) = true ∧ (∀ e ∈ s.ecl, e.1 % 64 = page.val → e.1 = page.val ∨ e.1 = page.val + 64)) ∧
    (∃ (r : Requester) (page : Fin 47) (s : State), s.Takes r page.val 0x020 ∧ Tab.has s.ecl page.val = false ∧ Tab.has s.ecl (page.val + 64) = false) ∧
    (∃ (page : Fin 47) (k : Fin 2) (e : EclReq) (s : State), s.ecl = [(page.val + 64 * k.val, e)] ∧ s.commitDue (page.val + 64 * k.val) e = true ∧ e.older = false) ∧
    (∃ (page : Fin 47) (e x : EclReq) (s : State), s.ecl = [(page.val, e), (page.val + 64, x)] ∧ s.commitDue page.val e = false ∧ s.commitDue (page.val + 64) x = true ∧ (∀ g ∈ groupList x.groups, g = 6 ∨ g = 7)) ∧
    (∃ (page : Fin 47) (s : State), (∀ e ∈ s.ecl, e.1 = page.val ∨ e.1 = page.val + 64 → s.commitDue e.1 e.2 = false)) :=
  ⟨⟨(.pcie : Requester), (17 : Fin 47), (0x200 : BitVec 10), (0 : BitVec 3), (1 : BitVec 16), (up : State), by decide +kernel⟩,
   ⟨(.pcie : Requester), (1 : Fin 47), (1 : BitVec 10), (1 : BitVec 3), (1 : BitVec 16), (up : State), by decide +kernel⟩,
   ⟨(.pcie : Requester), (17 : Fin 47), (0 : Fin 2), ((fun s => { s with ecl := [(17, ⟨0x200, 0, 0, false, false⟩)] }) up : State), by decide +kernel⟩,
   ⟨(.pcie : Requester), (1 : Fin 47), (up : State), by decide +kernel⟩,
   ⟨(17 : Fin 47), (0 : Fin 2), (⟨0x200, 0, 0, false, false⟩ : EclReq), ((fun s => { s with ecl := [(17, (⟨0x200, 0, 0, false, false⟩ : EclReq))] }) up : State), by decide +kernel⟩,
   ⟨(33 : Fin 47), (⟨0x10, 3, 9999, false, false⟩ : EclReq), (⟨0x40, 1, 0, false, true⟩ : EclReq), ((fun s => { s with ecl := [(33, (⟨0x10, 3, 9999, false, false⟩ : EclReq)), (97, (⟨0x40, 1, 0, false, true⟩ : EclReq))] }) up : State), by decide +kernel⟩,
   ⟨(1 : Fin 47), (up : State), by decide +kernel⟩⟩

/-- The hypotheses of `RegisterWritesUnderAccessCodes` are met, case by case. -/
theorem witness_registerWritesUnderAccessCodes :
    (∃ (r : Requester) (off : BitVec 24) (f : Field) (s : State), f ∈ pageFields (off.toNat / 4096) ∧ f.off = off.toNat % 4096 ∧ f.acc = .rwSh ∧ s.Takes r (off.toNat / 4096) f.off ∧ s.pendingField f = false) ∧
    (∃ (r : Requester) (off : BitVec 24) (data : Word) (f : Field) (s : State), f ∈ pageFields (off.toNat / 4096) ∧ f.off = off.toNat % 4096 ∧ f.acc = .rwSh ∧ s.Takes r (off.toNat / 4096) f.off ∧ s.pendingField f = true ∧ bits data.toNat f.lsb f.width ≠ s.rd f) ∧
    (∃ (r : Requester) (off : BitVec 24) (data : Word) (f : Field) (s : State), f ∈ pageFields (off.toNat / 4096) ∧ f.off = off.toNat % 4096 ∧ f.acc = .rwLk ∧ s.Takes r (off.toNat / 4096) f.off ∧ s.fieldLocked f = true ∧ bits data.toNat f.lsb f.width ≠ s.rd f) ∧
    (∃ (r : Requester) (off : BitVec 24) (s : State), off.toNat < 0x2F000 ∧ s.Takes r (off.toNat / 4096) (off.toNat % 4096 / 4 * 4)) :=
  ⟨⟨(.pcie : Requester), (BitVec.ofNat 24 (((if (1 : Word).toNat % 2 = 0 then MG_MEM.PBCH_CFG_T_SRAM else MON_SEQ.ENTRY_CH 3) : Field).page * 4096 + ((if (1 : Word).toNat % 2 = 0 then MG_MEM.PBCH_CFG_T_SRAM else MON_SEQ.ENTRY_CH 3) : Field).off) : BitVec 24), ((if (1 : Word).toNat % 2 = 0 then MG_MEM.PBCH_CFG_T_SRAM else MON_SEQ.ENTRY_CH 3) : Field), (up : State), by decide +kernel⟩,
   ⟨(.pcie : Requester), (BitVec.ofNat 24 ((MG_MEM.PBCH_CFG_T_SRAM : Field).page * 4096 + (MG_MEM.PBCH_CFG_T_SRAM : Field).off) : BitVec 24), (1 : Word), (MG_MEM.PBCH_CFG_T_SRAM : Field), ((fun s => { s with ecl := [(4, ⟨0x100, 0, 0, false, false⟩)] }) up : State), by decide +kernel⟩,
   ⟨(.pcie : Requester), (BitVec.ofNat 24 ((MON_SEQ.SEQ_PERIOD_PERIOD_US : Field).page * 4096 + (MON_SEQ.SEQ_PERIOD_PERIOD_US : Field).off) : BitVec 24), (1 : Word), (MON_SEQ.SEQ_PERIOD_PERIOD_US : Field), (up : State), by decide +kernel⟩,
   ⟨(.pcie : Requester), (1 : BitVec 24), (up : State), by decide +kernel⟩⟩

/-- The hypotheses of `ErrorResponsesAndSmbus` are met, case by case. -/
theorem witness_errorResponsesAndSmbus :
    (∃ (a : BusAccess) (s : State), s.clock.stopped = false ∧ a.bar2 = false ∧ a.offset.toNat < 0x2F000 ∧ s.accessCause a.master (a.offset.toNat / 4096) (a.offset.toNat % 4096 / 4 * 4) a.write ≠ 0) ∧
    (∃ (a : BusAccess) (s : State), s.clock.stopped = false ∧ a.bar2 = false ∧ a.offset.toNat < 0x2F000 ∧ a.write = false ∧ s.accessCause a.master (a.offset.toNat / 4096) (a.offset.toNat % 4096 / 4 * 4) false = 0) ∧
    (∃ (off : BitVec 24) (s : State), off.toNat < 0x2F000 ∧ off.toNat % 4 = 0 ∧ s.Answers .smbus (off.toNat / 4096) (off.toNat % 4096)) ∧
    (∃ (off : BitVec 24) (s : State), off.toNat < 0x2F000 ∧ off.toNat % 4 = 0 ∧ s.clock.stopped = false ∧ s.accessCause .smbus (off.toNat / 4096) (off.toNat % 4096) false ≠ 0) ∧
    (∃ (off : BitVec 24) (s : State), off.toNat < 0x2F000 ∧ off.toNat % 4 = 0 ∧ s.Takes .smbus (off.toNat / 4096) (off.toNat % 4096)) ∧
    (∃ (off : BitVec 24) (s : State), off.toNat < 0x2F000 ∧ off.toNat % 4 = 0 ∧ s.clock.stopped = false ∧ s.accessCause .smbus (off.toNat / 4096) (off.toNat % 4096) true = 4) ∧
    (∃ (s : State), s.clock.stopped = false) :=
  ⟨⟨({ (⟨.pcie, false, 0, false⟩ : BusAccess) with bar2 := false, offset := 0x13040, write := false } : BusAccess), ((fun s => s.wr CK_SYN.SYN_STATUS_RCLK_OK (s.tclk % 2)) up : State), by decide +kernel⟩,
   ⟨(⟨.pcie, false, 0x1008, false⟩ : BusAccess), (up : State), by decide +kernel⟩,
   ⟨(0x1008 : BitVec 24), (up : State), by decide +kernel⟩,
   ⟨(0x13040 : BitVec 24), ((fun s => s.wr CK_SYN.SYN_STATUS_RCLK_OK 0) up : State), by decide +kernel⟩,
   ⟨(0x10040 : BitVec 24), (up : State), by decide +kernel⟩,
   ⟨(0x05040 : BitVec 24), (up : State), by decide +kernel⟩,
   ⟨(up : State), by decide +kernel⟩⟩

/-- The hypotheses of `TableWritesAndBankSwaps` are met, case by case. -/
theorem witness_tableWritesAndBankSwaps :
    (∃ (r : Requester) (off : Fin 4194304) (s : State), r ≠ .smbus ∧ s.clock.stopped = false ∧ off.val < chanWin) ∧
    (∃ (r : Requester) (off : Fin 4194304) (s : State), r ≠ .smbus ∧ s.clock.stopped = false ∧ chanWin ≤ off.val ∧ off.val < chanWin + 4 * 192) ∧
    (∃ (r : Requester) (off : Fin 4194304) (s : State), r ≠ .smbus ∧ s.clock.stopped = false ∧ txSlotWin ≤ off.val ∧ off.val < txSlotWin + 4 * 384) ∧
    (∃ (r : Requester) (off : Fin 4194304) (s : State), r ≠ .smbus ∧ s.clock.stopped = false ∧ rxSlotWin ≤ off.val ∧ off.val < rxSlotWin + 4 * 384) ∧
    (∃ (r : Requester) (off : Fin 4194304) (s : State), r ≠ .smbus ∧ s.clock.stopped = false ∧ cryptoWin ≤ off.val ∧ off.val < cryptoWin + 32 * 192) ∧
    (∃ (r : Requester) (off : Fin 4194304) (s : State), r ≠ .smbus ∧ s.clock.stopped = false ∧ descWin ≤ off.val ∧ off.val < descWin + 32768) ∧
    (∃ (r : Requester) (p : Port) (s : State), s.Takes r 23 0x040 ∧ s.swapCause p = 0) ∧
    (∃ (r : Requester) (p : Port) (s : State), s.Takes r 23 0x040 ∧ s.swapCause p ≠ 0) :=
  ⟨⟨(.pcie : Requester), (1 : Fin 4194304), (up : State), by decide +kernel⟩,
   ⟨(.pcie : Requester), (⟨chanWin + (1 : Word).toNat % 768, by have : chanWin = 0xA0000 := rfl; omega⟩ : Fin 4194304), (up : State), by decide +kernel⟩,
   ⟨(.pcie : Requester), (⟨txSlotWin + (1 : Word).toNat % 1536, by have : txSlotWin = 0xA1000 := rfl; omega⟩ : Fin 4194304), (up : State), by decide +kernel⟩,
   ⟨(.pcie : Requester), (⟨rxSlotWin + (1 : Word).toNat % 1536, by have : rxSlotWin = 0xA2000 := rfl; omega⟩ : Fin 4194304), (up : State), by decide +kernel⟩,
   ⟨(.pcie : Requester), (⟨cryptoWin + (1 : Word).toNat % 6144, by have : cryptoWin = 0xA4000 := rfl; omega⟩ : Fin 4194304), (up : State), by decide +kernel⟩,
   ⟨(.pcie : Requester), (⟨descWin + (1 : Word).toNat % 32768, by have : descWin = 0xA8000 := rfl; omega⟩ : Fin 4194304), (up : State), by decide +kernel⟩,
   ⟨(.pcie : Requester), (.E : Port), ((fun _ => swapReady) up : State), by decide +kernel, swap_ready⟩,
   ⟨(.pcie : Requester), (.E : Port), (up : State), by decide +kernel⟩⟩

/-- The hypotheses of `MemoryProtection` are met, case by case. -/
theorem witness_memoryProtection :
    (∃ (f : MemFault) (s : State), LineInUse s f ∧ f.refetchOk = true ∧ f.lasting = false) ∧
    (∃ (f : MemFault) (s : State), LineInUse s f ∧ f.refetchOk = true ∧ f.lasting = true ∧ f.spareRow = true) ∧
    (∃ (f : MemFault) (s : State), LineInUse s f ∧ f.refetchOk = false ∧ f.spareRow = true ∧ NoPageDecode s f) ∧
    (∃ (f : MemFault) (s : State), LineInUse s f ∧ f.refetchOk = false ∧ NoPageDecode s f) ∧
    (∃ (f : MemFault) (s : State), s.clock.stopped = false ∧ f.deskew.isSome = true ∧ s.hbmOut.contains (rowKey f) = true) ∧
    (∃ (f : MemFault) (s : State), LineInUse s f ∧ f.refetchOk = true ∧ f.lasting = true ∧ f.spareRow = false) ∧
    (∃ (f : MemFault) (n : Nat) (s : State), LineInUse s f ∧ f.refetchOk = false ∧ f.spareRow = true ∧ f.pageBits = some n ∧ f.store.val < 5 ∧ n ≤ s.pageStrengthOf (faultKind f) ∧ n ≠ 0) ∧
    (∃ (f : MemFault) (slot : Nat) (s : State), LineInUse s f ∧ f.refetchOk = false ∧ NoPageDecode s f ∧ slot < 512) ∧
    (∃ (f : MemFault) (s : State), LineInUse s f ∧ s.Clocked ∧ f.refetchOk = false ∧ NoPageDecode s f) ∧
    (∃ (s : State), s.clock.stopped = false) :=
  ⟨⟨(⟨0, 0, true, false, none, true, 4, none⟩ : MemFault), (up : State), by decide +kernel⟩,
   ⟨({ (⟨0, 0, true, false, none, true, 4, none⟩ : MemFault) with refetchOk := true, lasting := true, spareRow := true } : MemFault), (up : State), by decide +kernel⟩,
   ⟨({ (⟨0, 0, true, false, none, true, 4, none⟩ : MemFault) with refetchOk := false, pageBits := none, spareRow := true } : MemFault), (up : State), by decide +kernel⟩,
   ⟨(⟨0, 0, false, true, none, true, 4, none⟩ : MemFault), (up : State), by decide +kernel⟩,
   ⟨({ (⟨0, 0, true, false, none, true, 4, none⟩ : MemFault) with deskew := some [3] } : MemFault), ((fun s => { s with hbmOut := addSorted s.hbmOut (memPage ({ (⟨0, 0, true, false, none, true, 4, none⟩ : MemFault) with deskew := some [3] } : MemFault) * 2 ^ 24 + ({ (⟨0, 0, true, false, none, true, 4, none⟩ : MemFault) with deskew := some [3] } : MemFault).index.toNat) }) up : State), by decide +kernel⟩,
   ⟨({ (⟨0, 0, true, false, none, true, 4, none⟩ : MemFault) with refetchOk := true, lasting := true, spareRow := false, deskew := some [3, 7] } : MemFault), (up : State), by decide +kernel⟩,
   ⟨({ (⟨0, 0, true, false, none, true, 4, none⟩ : MemFault) with refetchOk := false, spareRow := true, pageBits := some (0 + 1 : Nat), store := 3 } : MemFault), (0 + 1 : Nat), (up : State), by decide +kernel⟩,
   ⟨(⟨0, 0, false, true, none, true, 4, none⟩ : MemFault), (1 : Nat), (up : State), by decide +kernel⟩,
   ⟨(⟨0, 0, false, true, none, true, 4, none⟩ : MemFault), (up : State), by decide +kernel⟩,
   ⟨(up : State), by decide +kernel⟩⟩

/-- The hypotheses of `KeyCommandWritesStartOrAreDropped` are met, case by case. -/
theorem witness_keyCommandWritesStartOrAreDropped :
    (∃ (r : Requester) (s : State), s.Takes r 29 0x040 ∧ s.on CY_KEY.KEY_STATUS_BUSY = false) ∧
    (∃ (r : Requester) (s : State), s.Takes r 29 0x040 ∧ s.on CY_KEY.KEY_STATUS_BUSY = true) ∧
    (∃ (r : Requester) (s : State), s.Takes r 29 0x048) :=
  ⟨⟨(.pcie : Requester), (up : State), by decide +kernel⟩,
   ⟨(.pcie : Requester), ((fun s => s.wr (CY_KEY.KEY_STATUS_BUSY) (1)) up : State), by decide +kernel⟩,
   ⟨(.pcie : Requester), (up : State), by decide +kernel⟩⟩

/-- The hypotheses of `KeyCommandsTakeEffectAsTheyComplete` are met, case by case. -/
theorem witness_keyCommandsTakeEffectAsTheyComplete :
    (∃ (c : KeyCmd) (s : State), s.Clocked ∧ s.keyCmd = some c ∧ (c.op = 0 ∨ 12 ≤ c.op)) ∧
    (∃ (c : KeyCmd) (s : State), s.Clocked ∧ s.keyCmd = some c ∧ (c.op = 1 ∨ c.op = 5 ∨ (c.op = 2 ∧ c.slot < 192) ∨ (c.op = 3 ∧ c.slot < 4)) ∧ s.entropyFail = true) ∧
    (∃ (c : KeyCmd) (s : State), s.Clocked ∧ s.keyCmd = some c ∧ c.op = 1 ∧ s.entropyFail = false ∧ c.ch < 192 ∧ (s.keySlot c.slot).state ≠ .empty) ∧
    (∃ (c : KeyCmd) (s : State), s.Clocked ∧ s.keyCmd = some c) ∧
    (∃ (c : KeyCmd) (s : State) (set : List Nat), s.Clocked ∧ s.keyCmd = some c ∧ c.op = 1 ∧ s.entropyFail = false ∧ c.ch < 192 ∧ (s.keySlot c.slot).state = .empty ∧ s.kekValid c.kek = true ∧ unwrap (Tab.get [] s.keks c.kek) c.blob = some set ∧ set.take 32 ≠ (set.drop 32).take 32) ∧
    (∃ (c : KeyCmd) (s : State) (set : List Nat), s.Clocked ∧ s.keyCmd = some c ∧ c.op = 1 ∧ s.entropyFail = false ∧ c.ch < 192 ∧ (s.keySlot c.slot).state = .empty ∧ s.kekValid c.kek = true ∧ unwrap (Tab.get [] s.keks c.kek) c.blob = some set ∧ set.take 32 = (set.drop 32).take 32) ∧
    (∃ (c : KeyCmd) (s : State) (set : List Nat), s.Clocked ∧ s.keyCmd = some c ∧ c.op = 5 ∧ s.entropyFail = false ∧ c.ch < 192 ∧ Tab.has s.masters c.ch = true ∧ (s.keySlot c.slot).state = .empty ∧ s.derivedSet c.ch c.drop c.epoch (Tab.get [] s.masters c.ch) = set ∧ set.take 32 ≠ (set.drop 32).take 32) ∧
    (∃ (c : KeyCmd) (s : State), s.Clocked ∧ s.keyCmd = some c ∧ c.op = 5 ∧ s.entropyFail = false ∧ (192 ≤ c.ch ∨ Tab.has s.masters c.ch = false)) ∧
    (∃ (c : KeyCmd) (s : State), s.Clocked ∧ s.keyCmd = some c ∧ (c.op = 1 ∧ c.ch < 192 ∧ (s.keySlot c.slot).state = .empty ∨ c.op = 2 ∧ c.slot < 192 ∨ c.op = 3 ∧ c.slot < 4 ∧ c.slot ≠ c.kek) ∧ s.entropyFail = false ∧ s.kekValid c.kek = false) ∧
    (∃ (c : KeyCmd) (s : State) (key : List Nat), s.Clocked ∧ s.keyCmd = some c ∧ c.op = 2 ∧ s.entropyFail = false ∧ c.slot < 192 ∧ s.kekValid c.kek = true ∧ unwrap (Tab.get [] s.keks c.kek) c.blob = some key) ∧
    (∃ (c : KeyCmd) (s : State) (key : List Nat), s.Clocked ∧ s.keyCmd = some c ∧ c.op = 3 ∧ s.entropyFail = false ∧ c.slot < 4 ∧ c.slot ≠ c.kek ∧ s.kekValid c.kek = true ∧ unwrap (Tab.get [] s.keks c.kek) c.blob = some key) ∧
    (∃ (c : KeyCmd) (s : State), s.Clocked ∧ s.keyCmd = some c ∧ (c.op = 1 ∧ c.ch < 192 ∧ (s.keySlot c.slot).state = .empty ∨ c.op = 2 ∧ c.slot < 192 ∨ c.op = 3 ∧ c.slot < 4 ∧ c.slot ≠ c.kek) ∧ s.entropyFail = false ∧ s.kekValid c.kek = true ∧ unwrap (Tab.get [] s.keks c.kek) c.blob = none) ∧
    (∃ (c : KeyCmd) (s : State), s.Clocked ∧ s.keyCmd = some c ∧ c.op = 4 ∧ c.slot < 4 ∧ s.on CY_KEY.KEK_CTRL_SEALED = false) ∧
    (∃ (c : KeyCmd) (s : State), s.Clocked ∧ s.keyCmd = some c ∧ c.op = 4 ∧ c.slot < 4 ∧ s.on CY_KEY.KEK_CTRL_SEALED = true) ∧
    (∃ (c : KeyCmd) (s : State), s.Clocked ∧ s.keyCmd = some c ∧ (c.op = 6 ∨ c.op = 7) ∧ (s.keySlot c.slot).state = .locked) ∧
    (∃ (c : KeyCmd) (s : State), s.Clocked ∧ s.keyCmd = some c ∧ (c.op = 6 ∨ c.op = 7) ∧ (s.keySlot c.slot).state ≠ .locked ∧ (c.slot = noSlot ∨ 192 ≤ c.ch ∨ (s.keySlot c.slot).state ≠ .loaded ∨ (s.keySlot c.slot).ch ≠ c.ch ∨ (s.keySlot c.slot).drop ≠ c.drop)) ∧
    (∃ (c : KeyCmd) (s : State), s.Clocked ∧ s.keyCmd = some c ∧ c.op = 6 ∧ c.slot ≠ noSlot ∧ c.ch < 192 ∧ (s.keySlot c.slot).state = .loaded ∧ (s.keySlot c.slot).ch = c.ch ∧ (s.keySlot c.slot).drop = c.drop ∧ (s.chanKey c.ch).act c.drop = noSlot) ∧
    (∃ (c : KeyCmd) (s : State), s.Clocked ∧ s.keyCmd = some c ∧ (c.op = 6 ∧ (s.chanKey c.ch).act c.drop ≠ noSlot ∨ c.op = 7 ∧ (s.chanKey c.ch).act c.drop = noSlot) ∧ c.slot ≠ noSlot ∧ c.ch < 192 ∧ (s.keySlot c.slot).state = .loaded ∧ (s.keySlot c.slot).ch = c.ch ∧ (s.keySlot c.slot).drop = c.drop) ∧
    (∃ (c : KeyCmd) (s : State), s.Clocked ∧ s.keyCmd = some c ∧ c.op = 7 ∧ c.slot ≠ noSlot ∧ c.ch < 192 ∧ (s.keySlot c.slot).state = .loaded ∧ (s.keySlot c.slot).ch = c.ch ∧ (s.keySlot c.slot).drop = c.drop ∧ (s.chanKey c.ch).act c.drop ≠ noSlot ∧ (s.keySlot c.slot).epoch = (s.keySlot ((s.chanKey c.ch).act c.drop)).epoch + 1 ∧ (c.drop = true ∨ (s.chanKey c.ch).annSs = none)) ∧
    (∃ (c : KeyCmd) (s : State), s.Clocked ∧ s.keyCmd = some c ∧ c.op = 8 ∧ c.drop = false ∧ c.ch < 192 ∧ (s.chanKey c.ch).annSs = none ∧ (s.chanKey c.ch).txNxt ≠ noSlot ∧ (s.chanKey c.ch).txEpoch ≠ 0xFFFFFFFF) ∧
    (∃ (c : KeyCmd) (s : State), s.Clocked ∧ s.keyCmd = some c ∧ c.op = 8 ∧ (c.drop = true ∨ 192 ≤ c.ch)) ∧
    (∃ (c : KeyCmd) (s : State), s.Clocked ∧ s.keyCmd = some c ∧ c.op = 8 ∧ c.drop = false ∧ c.ch < 192 ∧ (s.chanKey c.ch).txNxt = noSlot) ∧
    (∃ (c : KeyCmd) (s : State), s.Clocked ∧ s.keyCmd = some c ∧ c.op = 8 ∧ c.drop = false ∧ c.ch < 192 ∧ (s.chanKey c.ch).txNxt ≠ noSlot ∧ (s.chanKey c.ch).annSs ≠ none) ∧
    (∃ (c : KeyCmd) (s : State), s.Clocked ∧ s.keyCmd = some c ∧ c.op = 8 ∧ c.drop = false ∧ c.ch < 192 ∧ (s.chanKey c.ch).txNxt ≠ noSlot ∧ (s.chanKey c.ch).annSs = none ∧ (s.chanKey c.ch).txEpoch = 0xFFFFFFFF) ∧
    (∃ (c : KeyCmd) (s : State), s.Clocked ∧ s.keyCmd = some c ∧ c.op = 9) ∧
    (∃ (c : KeyCmd) (s : State), s.Clocked ∧ s.keyCmd = some c ∧ c.op = 10 ∧ c.slot < 192) ∧
    (∃ (c : KeyCmd) (s : State), s.Clocked ∧ s.keyCmd = some c ∧ c.op = 11 ∧ c.slot < 4) :=
  ⟨⟨({ (⟨0, 0, false, 0, 0, 0, [], .pcie⟩ : KeyCmd) with op := [0, 12, 15].getD 0 0 } : KeyCmd), ((fun s => { s with keyCmd := some ({ (⟨0, 0, false, 0, 0, 0, [], .pcie⟩ : KeyCmd) with op := [0, 12, 15].getD 0 0 } : KeyCmd) }) up : State), by decide +kernel⟩,
   ⟨({ (⟨0, 0, false, 0, 0, 0, [], .pcie⟩ : KeyCmd) with op := [1,5,2,3].getD 0 1, slot := 0 } : KeyCmd), ((fun s => { s with entropyFail := true }) ((fun s => { s with keyCmd := some ({ (⟨0, 0, false, 0, 0, 0, [], .pcie⟩ : KeyCmd) with op := [1,5,2,3].getD 0 1, slot := 0 } : KeyCmd) }) up) : State), by decide +kernel⟩,
   ⟨({ (⟨0, 0, false, 0, 0, 0, [], .pcie⟩ : KeyCmd) with op := 1 } : KeyCmd), ((fun s => s.onKey ({ (⟨0, 0, false, 0, 0, 0, [], .pcie⟩ : KeyCmd) with op := 1 } : KeyCmd).slot fun q_ => { q_ with state := .active }) ((fun s => { s with keyCmd := some ({ (⟨0, 0, false, 0, 0, 0, [], .pcie⟩ : KeyCmd) with op := 1 } : KeyCmd) }) up) : State), by decide +kernel⟩,
   ⟨(⟨0, 0, false, 0, 0, 0, [], .pcie⟩ : KeyCmd), ((fun s => { s with keyCmd := some (⟨0, 0, false, 0, 0, 0, [], .pcie⟩ : KeyCmd) }) up : State), by decide +kernel⟩,
   ⟨(⟨1, 2, false, 0, 0, 0, blob8, .pcie⟩ : KeyCmd), ((KEK2) ((fun s => { s with keyCmd := some (⟨1, 2, false, 0, 0, 0, blob8, .pcie⟩ : KeyCmd) }) up) : State), (keyData : List Nat), by decide +kernel, by decide +kernel, by decide +kernel, by decide +kernel, by decide +kernel, by decide +kernel, by decide +kernel, test_unwrap, by decide +kernel⟩,
   ⟨(⟨1, 2, false, 0, 0, 0, List.replicate 8 0xA6, .pcie⟩ : KeyCmd), ((KEK2) ((fun s => { s with keyCmd := some (⟨1, 2, false, 0, 0, 0, List.replicate 8 0xA6, .pcie⟩ : KeyCmd) }) up) : State), ([] : List Nat), by decide +kernel, by decide +kernel, by decide +kernel, by decide +kernel, by decide +kernel, by decide +kernel, by decide +kernel, by decide +kernel, by decide +kernel⟩,
   ⟨({ (⟨0, 0, false, 0, 0, 0, [], .pcie⟩ : KeyCmd) with op := 5, ch := 3, slot := 5 } : KeyCmd), ((fun s => { s with masters := [(3, List.range 32)], keySlots := [] }) ((fun s => { s with keyCmd := some ({ (⟨0, 0, false, 0, 0, 0, [], .pcie⟩ : KeyCmd) with op := 5, ch := 3, slot := 5 } : KeyCmd) }) up) : State), (((fun s => { s with masters := [(3, List.range 32)], keySlots := [] }) ((fun s => { s with keyCmd := some ({ (⟨0, 0, false, 0, 0, 0, [], .pcie⟩ : KeyCmd) with op := 5, ch := 3, slot := 5 } : KeyCmd) }) up) : State).derivedSet ({ (⟨0, 0, false, 0, 0, 0, [], .pcie⟩ : KeyCmd) with op := 5, ch := 3, slot := 5 } : KeyCmd).ch ({ (⟨0, 0, false, 0, 0, 0, [], .pcie⟩ : KeyCmd) with op := 5, ch := 3, slot := 5 } : KeyCmd).drop ({ (⟨0, 0, false, 0, 0, 0, [], .pcie⟩ : KeyCmd) with op := 5, ch := 3, slot := 5 } : KeyCmd).epoch (Tab.get [] ((fun s => { s with masters := [(3, List.range 32)], keySlots := [] }) ((fun s => { s with keyCmd := some ({ (⟨0, 0, false, 0, 0, 0, [], .pcie⟩ : KeyCmd) with op := 5, ch := 3, slot := 5 } : KeyCmd) }) up) : State).masters ({ (⟨0, 0, false, 0, 0, 0, [], .pcie⟩ : KeyCmd) with op := 5, ch := 3, slot := 5 } : KeyCmd).ch) : List Nat), by decide +kernel⟩,
   ⟨({ (⟨0, 0, false, 0, 0, 0, [], .pcie⟩ : KeyCmd) with op := 5, ch := 3 } : KeyCmd), ((fun s => { s with keyCmd := some ({ (⟨0, 0, false, 0, 0, 0, [], .pcie⟩ : KeyCmd) with op := 5, ch := 3 } : KeyCmd) }) up : State), by decide +kernel⟩,
   ⟨(⟨3, 2, false, 0, 0, 0, [], .pcie⟩ : KeyCmd), ((fun s => { s with keyCmd := some (⟨3, 2, false, 0, 0, 0, [], .pcie⟩ : KeyCmd) }) up : State), by decide +kernel⟩,
   ⟨(⟨2, 2, false, 0, 0, 0, blob8, .pcie⟩ : KeyCmd), ((KEK2) ((fun s => { s with keyCmd := some (⟨2, 2, false, 0, 0, 0, blob8, .pcie⟩ : KeyCmd) }) up) : State), (keyData : List Nat), by decide +kernel, by decide +kernel, by decide +kernel, by decide +kernel, by decide +kernel, by decide +kernel, test_unwrap⟩,
   ⟨(⟨3, 2, false, 1, 0, 0, blob8, .pcie⟩ : KeyCmd), ((KEK2) ((fun s => { s with keyCmd := some (⟨3, 2, false, 1, 0, 0, blob8, .pcie⟩ : KeyCmd) }) up) : State), (keyData : List Nat), by decide +kernel, by decide +kernel, by decide +kernel, by decide +kernel, by decide +kernel, by decide +kernel, by decide +kernel, test_unwrap⟩,
   ⟨(⟨1, 2, false, 0, 0, 0, List.replicate 8 5, .pcie⟩ : KeyCmd), ((KEK2) ((fun s => { s with keyCmd := some (⟨1, 2, false, 0, 0, 0, List.replicate 8 5, .pcie⟩ : KeyCmd) }) up) : State), by decide +kernel, by decide +kernel, by decide +kernel, by decide +kernel, by decide +kernel, by decide +kernel⟩,
   ⟨({ (⟨0, 0, false, 0, 0, 0, [], .pcie⟩ : KeyCmd) with op := 4, slot := 0, blob := List.replicate 32 5 } : KeyCmd), ((fun s => { s with keyCmd := some ({ (⟨0, 0, false, 0, 0, 0, [], .pcie⟩ : KeyCmd) with op := 4, slot := 0, blob := List.replicate 32 5 } : KeyCmd) }) up : State), by decide +kernel⟩,
   ⟨({ (⟨0, 0, false, 0, 0, 0, [], .pcie⟩ : KeyCmd) with op := 4, slot := 0, blob := List.replicate 32 5 } : KeyCmd), ((fun s => s.wr (CY_KEY.KEK_CTRL_SEALED) (1)) ((fun s => { s with keyCmd := some ({ (⟨0, 0, false, 0, 0, 0, [], .pcie⟩ : KeyCmd) with op := 4, slot := 0, blob := List.replicate 32 5 } : KeyCmd) }) up) : State), by decide +kernel⟩,
   ⟨(⟨6, 2, false, 0, 0, 0, [], .pcie⟩ : KeyCmd), ((fun s => { s with keyCmd := some (⟨6, 2, false, 0, 0, 0, [], .pcie⟩ : KeyCmd) }.onKey (⟨6, 2, false, 0, 0, 0, [], .pcie⟩ : KeyCmd).slot fun q_ => { q_ with state := .locked }) up : State), by decide +kernel⟩,
   ⟨(⟨6, 2, false, 0, 0, 0, [], .pcie⟩ : KeyCmd), ((fun s => { s with keyCmd := some (⟨6, 2, false, 0, 0, 0, [], .pcie⟩ : KeyCmd) }) up : State), by decide +kernel⟩,
   ⟨({ (⟨0, 0, false, 0, 0, 0, [], .pcie⟩ : KeyCmd) with op := 6 } : KeyCmd), ((fun s => s.onKey (({ (⟨0, 0, false, 0, 0, 0, [], .pcie⟩ : KeyCmd) with op := 6 } : KeyCmd).slot) fun q_ => { q_ with state := .loaded }) ((fun s => { s with keyCmd := some ({ (⟨0, 0, false, 0, 0, 0, [], .pcie⟩ : KeyCmd) with op := 6 } : KeyCmd) }) up) : State), by decide +kernel⟩,
   ⟨(⟨6, 2, false, 3, 0, 0, [], .pcie⟩ : KeyCmd), ((fun s => ({ s with keyCmd := some (⟨6, 2, false, 3, 0, 0, [], .pcie⟩ : KeyCmd) }.onKey 3 fun q_ => { q_ with state := .loaded, ch := 0, drop := false }).onChanKey 0 fun q_ => { q_ with txAct := 5 }) up : State), by decide +kernel⟩,
   ⟨({ (⟨0, 0, false, 0, 0, 0, [], .pcie⟩ : KeyCmd) with op := 7, slot := 3 } : KeyCmd), ((fun s => s.onKey 3 fun q_ => { q_ with epoch := (s.keySlot 5).epoch + 1 }) ((fun s => s.onChanKey ({ (⟨0, 0, false, 0, 0, 0, [], .pcie⟩ : KeyCmd) with op := 7, slot := 3 } : KeyCmd).ch fun q_ => { q_ with txAct := 5, rxAct := 5, annSs := none }) ((fun s => s.onKey (({ (⟨0, 0, false, 0, 0, 0, [], .pcie⟩ : KeyCmd) with op := 7, slot := 3 } : KeyCmd).slot) fun q_ => { q_ with state := .loaded }) ((fun s => { s with keyCmd := some ({ (⟨0, 0, false, 0, 0, 0, [], .pcie⟩ : KeyCmd) with op := 7, slot := 3 } : KeyCmd) }) up))) : State), by decide +kernel⟩,
   ⟨({ (⟨0, 0, false, 0, 0, 0, [], .pcie⟩ : KeyCmd) with op := 8, drop := false } : KeyCmd), ((fun s => s.onChanKey ({ (⟨0, 0, false, 0, 0, 0, [], .pcie⟩ : KeyCmd) with op := 8, drop := false } : KeyCmd).ch fun q_ => { q_ with txNxt := 9, txEpoch := 4 }) ((fun s => { s with keyCmd := some ({ (⟨0, 0, false, 0, 0, 0, [], .pcie⟩ : KeyCmd) with op := 8, drop := false } : KeyCmd) }) up) : State), by decide +kernel⟩,
   ⟨({ (⟨0, 0, false, 0, 0, 0, [], .pcie⟩ : KeyCmd) with op := 8, drop := true } : KeyCmd), ((fun s => { s with keyCmd := some ({ (⟨0, 0, false, 0, 0, 0, [], .pcie⟩ : KeyCmd) with op := 8, drop := true } : KeyCmd) }) up : State), by decide +kernel⟩,
   ⟨({ (⟨0, 0, false, 0, 0, 0, [], .pcie⟩ : KeyCmd) with op := 8, drop := false, ch := 3 } : KeyCmd), ((fun s => { s with keyCmd := some ({ (⟨0, 0, false, 0, 0, 0, [], .pcie⟩ : KeyCmd) with op := 8, drop := false, ch := 3 } : KeyCmd) }) up : State), by decide +kernel⟩,
   ⟨({ (⟨0, 0, false, 0, 0, 0, [], .pcie⟩ : KeyCmd) with op := 8, drop := false, ch := 3 } : KeyCmd), ((fun s => s.onChanKey 3 fun k => { k with txNxt := 7, annSs := some 8 }) ((fun s => { s with keyCmd := some ({ (⟨0, 0, false, 0, 0, 0, [], .pcie⟩ : KeyCmd) with op := 8, drop := false, ch := 3 } : KeyCmd) }) up) : State), by decide +kernel⟩,
   ⟨({ (⟨0, 0, false, 0, 0, 0, [], .pcie⟩ : KeyCmd) with op := 8, drop := false, ch := 3 } : KeyCmd), ((fun s => s.onChanKey 3 fun k => { k with txNxt := 7, annSs := none, txEpoch := 0xFFFFFFFF }) ((fun s => { s with keyCmd := some ({ (⟨0, 0, false, 0, 0, 0, [], .pcie⟩ : KeyCmd) with op := 8, drop := false, ch := 3 } : KeyCmd) }) up) : State), by decide +kernel⟩,
   ⟨({ (⟨0, 0, false, 0, 0, 0, [], .pcie⟩ : KeyCmd) with op := 9 } : KeyCmd), ((fun s => { s with keyCmd := some ({ (⟨0, 0, false, 0, 0, 0, [], .pcie⟩ : KeyCmd) with op := 9 } : KeyCmd) }) up : State), by decide +kernel⟩,
   ⟨({ (⟨0, 0, false, 0, 0, 0, [], .pcie⟩ : KeyCmd) with op := 10 } : KeyCmd), ((fun s => { s with keyCmd := some ({ (⟨0, 0, false, 0, 0, 0, [], .pcie⟩ : KeyCmd) with op := 10 } : KeyCmd) }) up : State), by decide +kernel⟩,
   ⟨({ (⟨0, 0, false, 0, 0, 0, [], .pcie⟩ : KeyCmd) with op := 11, slot := 0 } : KeyCmd), ((fun s => { s with keyCmd := some ({ (⟨0, 0, false, 0, 0, 0, [], .pcie⟩ : KeyCmd) with op := 11, slot := 0 } : KeyCmd) }) up : State), by decide +kernel⟩⟩

/-- The hypotheses of `KeySwitchesAndExpiry` are met, case by case. -/
theorem witness_keySwitchesAndExpiry :
    (∃ (ch : Fin 192) (b : Nat) (s : State), s.Clocked ∧ (s.chanKey ch.val).annSs = some b ∧ ssReached (((s.frame.get (match s.addPlaces ch.val with | (p, _) :: _ => p | [] => Port.E)).fcTx + 1) % 2 ^ 48 / 256) b = true ∧ (s.chanKey ch.val).txNxt ≠ noSlot ∧ (s.chanKey ch.val).txAct ≠ (s.chanKey ch.val).txNxt) ∧
    (∃ (ch : Fin 192) (b : Nat) (s : State), (s.chanKey ch.val).annSs = some b ∧ ssReached (((s.frame.get (match s.addPlaces ch.val with | (p, _) :: _ => p | [] => Port.E)).fcTx + 1) % 2 ^ 48 / 256) b = false) ∧
    (∃ (ch : Fin 192) (b : Nat) (s : State), s.Clocked ∧ (s.chanKey ch.val).rxAnnSs = some b ∧ s.dropSsReached ch.val b = true ∧ (s.chanKey ch.val).rxNxt ≠ noSlot ∧ (s.chanKey ch.val).rxAct ≠ (s.chanKey ch.val).rxNxt) ∧
    (∃ (ch : Fin 192) (b : Nat) (s : State), (s.chanKey ch.val).rxAnnSs = some b ∧ s.dropSsReached ch.val b = false) ∧
    (∃ (ch : Fin 192) (s : State), s.Clocked ∧ (s.chanKey ch.val).rxRetiring ≠ noSlot ∧ (∀ b, (s.chanKey ch.val).rxLastSs = some b → s.dropSsReached ch.val (b + 16) = true ∨ s.dropLost ch.val = true)) ∧
    (∃ (ch : Fin 192) (s : State), s.coreUp = true ∧ s.Clocked ∧ s.kdfEn ch.val = true ∧ (s.chanKey ch.val).annSs = none ∧ (s.chanKey ch.val).txNxt ≠ noSlot ∧ (s.chanKey ch.val).rxNxt ≠ noSlot ∧ (s.chanKey ch.val).txEpoch ≠ 0xFFFFFFFF) ∧
    (∃ (s : State), s.Clocked ∧ s.entropyFail = false) :=
  ⟨⟨(1 : Fin 192), (0 : Nat), ((fun s => s.onChanKey (1 : Fin 192).val fun q_ => { q_ with txNxt := 7, txAct := if s.tclk % 2 = 0 then noSlot else 8 }) ((fun s => s.onChanKey ((1 : Fin 192).val) fun q_ => { q_ with annSs := some (0 : Nat) }) up) : State), by decide +kernel⟩,
   ⟨(1 : Fin 192), (1 : Nat), ((fun s => s.onChanKey ((1 : Fin 192).val) fun q_ => { q_ with annSs := some (1 : Nat) }) up : State), by decide +kernel⟩,
   ⟨(3 : Fin 192), (2 : Nat), ((fun s => s.onChanKey 3 fun q_ => { q_ with rxNxt := 7, rxAct := 8, rxAnnSs := some 2 }) ((fun s => s.onLine .E 7 fun l => { l with known := true, pos := 3125 * 256 * 4 }) ((fun s => (s.wr (HB_PROT.DP_CFG_DP_EN 3) 0).setTabWord (rxSlotWin) (1 + 4 * 7 + 1024 * 3)) up)) : State), by decide +kernel⟩,
   ⟨(1 : Fin 192), (1 : Nat), ((fun s => s.onChanKey ((1 : Fin 192).val) fun q_ => { q_ with rxAnnSs := some (1 : Nat) }) up : State), by decide +kernel⟩,
   ⟨(1 : Fin 192), ((fun s => s.onChanKey (1 : Fin 192).val fun q_ => { q_ with rxRetiring := 11 }) up : State), by decide +kernel, by decide +kernel, by decide +kernel⟩,
   ⟨(1 : Fin 192), ((fun s => s.onChanKey (1 : Fin 192).val fun q_ => { q_ with rxNxt := 7, txNxt := 8, txEpoch := 5 }) ((fun s => kdf s (1 : Fin 192).val) up) : State), by decide +kernel⟩,
   ⟨(up : State), by decide +kernel⟩⟩

/-- The hypotheses of `IntegrityVerdicts` are met, case by case. -/
theorem witness_integrityVerdicts :
    (∃ (ch : Fin 192) (n : Nat) (a : Nat × Nat × Bool) (s : State), s.Clocked ∧ s.verdictDue ch.val n = true ∧ (s.dropOf ch.val).ss ≠ some n ∧ ((s.dropOf ch.val).awaiting.find? fun x => x.1 = n) = some a ∧ (∀ m, (s.dropOf ch.val).newest = some m → ssReached n (m + 1) = false)) ∧
    (∃ (ch : Fin 192) (m : Nat) (s : State), s.Clocked ∧ s.rxInteg ch.val = true ∧ s.verdictDue ch.val (m + 1) = true ∧ (s.dropOf ch.val).ss = none ∧ (s.dropOf ch.val).newest = some m ∧ (s.dropOf ch.val).awaiting = [] ∧ m + 2 < 2 ^ 40) ∧
    (∃ (ch : Fin 192) (n : Nat) (s : State), s.verdictDue ch.val n = false) ∧
    (∃ (ch : Fin 192) (v : VerdictReport) (rest : List VerdictReport) (s : State), s.Clocked ∧ (s.dropOf ch.val).reports = v :: rest ∧ s.clientSends v.client = true) ∧
    (∃ (ch : Fin 192) (v : VerdictReport) (rest : List VerdictReport) (s : State), (s.dropOf ch.val).reports = v :: rest ∧ s.clientSends v.client = false) ∧
    (∃ (r : Requester) (ch : Byte) (s : State), s.Takes r 30 0x06C ∧ ch.toNat < 192 ∧ (s.chanKey ch.toNat).integSquelch = true) ∧
    (∃ (ch : Fin 192) (u : SourceUnit × Nat) (s : State), s.Clocked ∧ ((s.dropOf ch.val).held.find? fun x => ((s.dropOf ch.val).passed ++ (s.dropOf ch.val).failed).contains (x.1.sfc / 256)) = some u) ∧
    (∃ (ch : Fin 192) (s : State), ((s.dropOf ch.val).held.all fun x => !((s.dropOf ch.val).passed ++ (s.dropOf ch.val).failed).contains (x.1.sfc / 256)) = true) :=
  ⟨⟨(1 : Fin 192), (1 : Nat), (((1 : Nat), 3, true) : Nat × Nat × Bool), ((fun s => s.onDrop (1 : Fin 192).val fun q_ => { q_ with awaiting := [((1 : Nat), 3, true)], ss := none }) up : State), by decide +kernel, by decide +kernel, by decide +kernel, by decide +kernel, by decide +kernel⟩,
   ⟨(1 : Fin 192), (1 : Nat), ((fun s => s.onDrop (1 : Fin 192).val fun d => { d with newest := some (1 : Nat), awaiting := [], ss := none, tagPri := some ((1 : Nat) + 3) }) ((fun s => s.setTabWord (cryptoWin + 32 * (1 : Fin 192).val) 0x3F) up) : State), by decide +kernel⟩,
   ⟨(3 : Fin 192), (5 : Nat), ((fun s => ((s.wr (HB_FRAME.FRM_STATUS_RX_BANK .E) 0).setTabWord rxSlotWin (1 + 4 * 7 + 1024 * 3)).onLine .E 7 fun l => { l with known := true, locked := true, pos := 0 }) up : State), by decide +kernel⟩,
   ⟨(3 : Fin 192), ({ (⟨0, 0, 0, 0, 0, 0⟩ : VerdictReport) with client := 3 } : VerdictReport), ([] : List VerdictReport), ((fun s => s.onDrop 3 fun d => { d with reports := ({ (⟨0, 0, 0, 0, 0, 0⟩ : VerdictReport) with client := 3 } : VerdictReport) :: ([] : List VerdictReport) }) ((fun s => clientUp s 3) up) : State), by decide +kernel⟩,
   ⟨(1 : Fin 192), (⟨0, 0, 0, 0, 0, 0⟩ : VerdictReport), ([] : List VerdictReport), ((fun s => s.onDrop ((1 : Fin 192).val) fun q_ => { q_ with reports := (⟨0, 0, 0, 0, 0, 0⟩ : VerdictReport) :: ([] : List VerdictReport) }) up : State), by decide +kernel⟩,
   ⟨(.pcie : Requester), (0 : Byte), ((fun s => s.onChanKey ((0 : Byte).toNat) fun q_ => { q_ with integSquelch := true }) up : State), by decide +kernel⟩,
   ⟨(1 : Fin 192), ((⟨0, []⟩, 0) : SourceUnit × Nat), ((fun s => s.onDrop (1 : Fin 192).val fun q_ => { q_ with passed := [((⟨0, []⟩, 0) : SourceUnit × Nat).1.sfc / 256], held := ((⟨0, []⟩, 0) : SourceUnit × Nat) :: q_.held }) up : State), by decide +kernel⟩,
   ⟨(1 : Fin 192), (up : State), by decide +kernel⟩⟩

/-- The hypotheses of `DoorbellsAreTakenOrDropped` are met, case by case. -/
theorem witness_doorbellsAreTakenOrDropped :
    (∃ (r : Requester) (x : Fin 2) (s : State), s.Takes r (2 + x.val) 0x040 ∧ s.on (MG_MBX.MBX_STATUS_BUSY x.val) = false) ∧
    (∃ (r : Requester) (x : Fin 2) (s : State), s.Takes r (2 + x.val) 0x040 ∧ s.on (MG_MBX.MBX_STATUS_BUSY x.val) = true) ∧
    (∃ (r : Requester) (x : Fin 2) (op : BitVec 16) (s : State), s.Takes r (2 + x.val) 0x040 ∧ s.on (MG_MBX.MBX_STATUS_BUSY x.val) = false ∧ reqWords op.toNat = none ∧ s.mbxServed x.val = true ∧ s.inRecovery = false ∧ s.mbxOf (1 - x.val) = none) ∧
    (∃ (r : Requester) (x : Fin 2) (words : Byte) (s : State), s.Takes r (2 + x.val) 0x040 ∧ s.on (MG_MBX.MBX_STATUS_BUSY x.val) = false ∧ s.coreUp = true ∧ s.mbxOf (1 - x.val) = none ∧ words.toNat ≠ 0) ∧
    (∃ (r : Requester) (s : State), s.Takes r 2 0x040 ∧ s.on (MG_MBX.MBX_STATUS_BUSY 0) = false ∧ s.inRecovery = true ∧ s.mbxOf 1 = none) :=
  ⟨⟨(.pcie : Requester), (1 : Fin 2), (up : State), by decide +kernel⟩,
   ⟨(.pcie : Requester), (1 : Fin 2), ((fun s => s.wr ((MG_MBX.MBX_STATUS_BUSY (1 : Fin 2).val)) (1)) up : State), by decide +kernel⟩,
   ⟨(.pcie : Requester), (1 : Fin 2), (0xBEEF : BitVec 16), (up : State), by decide +kernel⟩,
   ⟨(.pcie : Requester), (1 : Fin 2), (1 : Byte), (up : State), by decide +kernel⟩,
   ⟨(.pcie : Requester), ((fun s => { s.wr MG_CTL.CORE_STATUS_RUN_SLOT 2 with mbx := [] }) up : State), by decide +kernel⟩⟩

/-- The hypotheses of `MailboxCommandsEndWithTheirResult` are met, case by case. -/
theorem witness_mailboxCommandsEndWithTheirResult :
    (∃ (x : Fin 2) (c : MbxCmd) (s : State) (st : Nat), MailboxReady x c s ∧ c.ended = some (st, 0, []) ∧ st < 256) ∧
    (∃ (x : Fin 2) (c : MbxCmd) (s : State), MailboxReady x c s ∧ c.ended = none ∧ (c.op = 0x0101 ∨ c.op = 0x0401 ∨ c.op = 0x0602)) ∧
    (∃ (x : Fin 2) (c : MbxCmd) (s : State) (n : Nat), MailboxReady x c s ∧ c.ended = none ∧ (c.op = 0x0101 ∨ c.op = 0x0102 ∨ c.op = 0x0104 ∨ c.op = 0x0106 ∨ c.op = 0x0201 ∨ c.op = 0x0202) ∧ n < 2 ^ 32) ∧
    (∃ (x : Fin 2) (c : MbxCmd) (s : State), MailboxReady x c s ∧ c.ended = none ∧ (c.op = 0x0101 ∨ c.op = 0x0401 ∨ c.op = 0x0602) ∧ (s.linkUp = false ∨ s.on DMA_ENG.ENG_STATUS_HALTED = true)) ∧
    (∃ (x : Fin 2) (c : MbxCmd) (s : State), MailboxReady x c s ∧ c.ended = none ∧ (c.op = 0x0101 ∨ c.op = 0x0401 ∨ c.op = 0x0602) ∧ s.serviceError 15 = none ∧ s.serviceRuns 15 = false) ∧
    (∃ (x : Fin 2) (c : MbxCmd) (s : State), MailboxReady x c s ∧ c.ended = none ∧ c.op = 0x0001) ∧
    (∃ (x : Fin 2) (c : MbxCmd) (s : State), MailboxReady x c s ∧ c.ended = none ∧ c.op = 0x0002) ∧
    (∃ (x : Fin 2) (c : MbxCmd) (s : State), MailboxReady x c s ∧ c.ended = none ∧ c.op = 0x0101 ∧ c.w 0 < 2 ∧ s.serviceError 15 = none ∧ s.serviceRuns 15 = true ∧ c.w 3 ≤ c.data.length) ∧
    (∃ (x : Fin 2) (c : MbxCmd) (s : State) (i : FwImage), MailboxReady x c s ∧ c.ended = none ∧ c.op = 0x0102 ∧ s.validSlot (c.w 0) = some i) ∧
    (∃ (x : Fin 2) (c : MbxCmd) (s : State), MailboxReady x c s ∧ c.ended = none ∧ c.op = 0x0102 ∧ s.validSlot (c.w 0) = none) ∧
    (∃ (x : Fin 2) (c : MbxCmd) (s : State), MailboxReady x c s ∧ c.ended = none ∧ c.op = 0x0103 ∧ s.validSlot (c.w 0) = none) ∧
    (∃ (x : Fin 2) (c : MbxCmd) (s : State) (i run : FwImage), MailboxReady x c s ∧ c.ended = none ∧ c.op = 0x0103 ∧ s.validSlot (c.w 0) = some i ∧ s.coreImage s.activeCore = some run ∧ run.stateVer.toNat < i.stateMin.toNat) ∧
    (∃ (x : Fin 2) (c : MbxCmd) (s : State) (i run : FwImage), MailboxReady x c s ∧ c.ended = none ∧ c.op = 0x0103 ∧ s.validSlot (c.w 0) = some i ∧ s.coreImage s.activeCore = some run ∧ i.stateMin.toNat ≤ run.stateVer.toNat) ∧
    (∃ (x : Fin 2) (c : MbxCmd) (s : State) (i : FwImage), MailboxReady x c s ∧ c.ended = none ∧ c.op = 0x0104 ∧ s.validSlot (c.w 0) = some i) ∧
    (∃ (x : Fin 2) (c : MbxCmd) (s : State), MailboxReady x c s ∧ c.ended = none ∧ c.op = 0x0104 ∧ s.validSlot (c.w 0) = none) ∧
    (∃ (x : Fin 2) (c : MbxCmd) (s : State), MailboxReady x c s ∧ c.ended = none ∧ c.op = 0x0105) ∧
    (∃ (x : Fin 2) (c : MbxCmd) (s : State) (i : FwImage), MailboxReady x c s ∧ c.ended = none ∧ c.op = 0x0106 ∧ s.validSlot (c.w 0) = some i ∧ c.w 0 < 2 ∧ s.coreQuarantined 0 = false ∧ s.coreQuarantined 1 = false) ∧
    (∃ (x : Fin 2) (c : MbxCmd) (s : State), MailboxReady x c s ∧ c.ended = none ∧ c.op = 0x0201) ∧
    (∃ (x : Fin 2) (c : MbxCmd) (s : State), MailboxReady x c s ∧ c.ended = none ∧ c.op = 0x0202) :=
  ⟨⟨(1 : Fin 2), ({ (⟨1, 7, [], 0, [], false, none⟩ : MbxCmd) with started := true, ended := some ((0 : Nat), 0, []) } : MbxCmd), ((fun s => { s with mbx := [((1 : Fin 2).val, ({ (⟨1, 7, [], 0, [], false, none⟩ : MbxCmd) with started := true, ended := some ((0 : Nat), 0, []) } : MbxCmd))] }) up : State), (0 : Nat), ⟨by decide +kernel, by decide +kernel, by decide +kernel, by decide +kernel⟩, by decide +kernel, by decide +kernel⟩,
   ⟨(1 : Fin 2), ({ (⟨1, 7, [], 0, [], false, none⟩ : MbxCmd) with started := true, ended := none, op := [0x0101, 0x0401, 0x0602].getD ((1 : Fin 8).val % 3) 0 } : MbxCmd), ((fun s => { s with mbx := [((1 : Fin 2).val, ({ (⟨1, 7, [], 0, [], false, none⟩ : MbxCmd) with started := true, ended := none, op := [0x0101, 0x0401, 0x0602].getD ((1 : Fin 8).val % 3) 0 } : MbxCmd))] }) up : State), ⟨by decide +kernel, by decide +kernel, by decide +kernel, by decide +kernel⟩, by decide +kernel, by decide +kernel⟩,
   ⟨(1 : Fin 2), ({ (⟨1, 7, [], 0, [], false, none⟩ : MbxCmd) with started := true, ended := none, op := 0x0104, words := [1] } : MbxCmd), ((fun s => { s with mbx := [((1 : Fin 2).val, ({ (⟨1, 7, [], 0, [], false, none⟩ : MbxCmd) with started := true, ended := none, op := 0x0104, words := [1] } : MbxCmd))] }) up : State), (1 : Nat), ⟨by decide +kernel, by decide +kernel, by decide +kernel, by decide +kernel⟩, by decide +kernel, by decide +kernel, by decide +kernel⟩,
   ⟨(1 : Fin 2), ({ (⟨1, 7, [], 0, [], false, none⟩ : MbxCmd) with started := true, ended := none, op := 0x0401, words := [1] } : MbxCmd), ((fun s => { s with linkUp := false }) ((fun s => { s with mbx := [((1 : Fin 2).val, ({ (⟨1, 7, [], 0, [], false, none⟩ : MbxCmd) with started := true, ended := none, op := 0x0401, words := [1] } : MbxCmd))] }) up) : State), ⟨by decide +kernel, by decide +kernel, by decide +kernel, by decide +kernel⟩, by decide +kernel, by decide +kernel, by decide +kernel⟩,
   ⟨(1 : Fin 2), ({ (⟨1, 7, [], 0, [], false, none⟩ : MbxCmd) with started := true, ended := none, op := [0x0101, 0x0401, 0x0602].getD ((1 : Fin 2).val % 3) 0 } : MbxCmd), ((fun s => { s with mbx := [((1 : Fin 2).val, ({ (⟨1, 7, [], 0, [], false, none⟩ : MbxCmd) with started := true, ended := none, op := [0x0101, 0x0401, 0x0602].getD ((1 : Fin 2).val % 3) 0 } : MbxCmd))] }) up : State), ⟨by decide +kernel, by decide +kernel, by decide +kernel, by decide +kernel⟩, by decide +kernel, by decide +kernel, by decide +kernel, by decide +kernel⟩,
   ⟨(1 : Fin 2), ({ (⟨1, 7, [], 0, [], false, none⟩ : MbxCmd) with started := true, ended := none, op := 0x0001 } : MbxCmd), ((fun s => { s with mbx := [((1 : Fin 2).val, ({ (⟨1, 7, [], 0, [], false, none⟩ : MbxCmd) with started := true, ended := none, op := 0x0001 } : MbxCmd))] }) up : State), ⟨by decide +kernel, by decide +kernel, by decide +kernel, by decide +kernel⟩, by decide +kernel, by decide +kernel⟩,
   ⟨(1 : Fin 2), ({ (⟨1, 7, [], 0, [], false, none⟩ : MbxCmd) with started := true, ended := none, op := 0x0002 } : MbxCmd), ((fun s => { s with mbx := [((1 : Fin 2).val, ({ (⟨1, 7, [], 0, [], false, none⟩ : MbxCmd) with started := true, ended := none, op := 0x0002 } : MbxCmd))] }) up : State), ⟨by decide +kernel, by decide +kernel, by decide +kernel, by decide +kernel⟩, by decide +kernel, by decide +kernel⟩,
   ⟨(1 : Fin 2), ({ (⟨1, 7, [], 0, [], false, none⟩ : MbxCmd) with started := true, ended := none, op := 0x0101, words := [0, 1, 2, 3], data := [1,2,3,4] } : MbxCmd), ((fun s => svcUp s 15) ((fun s => { s with mbx := [((1 : Fin 2).val, ({ (⟨1, 7, [], 0, [], false, none⟩ : MbxCmd) with started := true, ended := none, op := 0x0101, words := [0, 1, 2, 3], data := [1,2,3,4] } : MbxCmd))] }) up) : State), ⟨by decide +kernel, by decide +kernel, by decide +kernel, by decide +kernel⟩, by decide +kernel, by decide +kernel, by decide +kernel, by decide +kernel, by decide +kernel, by decide +kernel⟩,
   ⟨(1 : Fin 2), ({ (⟨1, 7, [], 0, [], false, none⟩ : MbxCmd) with started := true, ended := none, op := 0x0102, words := [0] } : MbxCmd), ((FLASH) ((fun s => { s with mbx := [((1 : Fin 2).val, ({ (⟨1, 7, [], 0, [], false, none⟩ : MbxCmd) with started := true, ended := none, op := 0x0102, words := [0] } : MbxCmd))] }) up) : State), (goodImg : FwImage), ⟨by decide +kernel, by decide +kernel, by decide +kernel, by decide +kernel⟩, by decide +kernel, by decide +kernel, by decide +kernel⟩,
   ⟨(1 : Fin 2), ({ (⟨1, 7, [], 0, [], false, none⟩ : MbxCmd) with started := true, ended := none, op := 0x0102, words := [0] } : MbxCmd), ((fun s => { s with mbx := [((1 : Fin 2).val, ({ (⟨1, 7, [], 0, [], false, none⟩ : MbxCmd) with started := true, ended := none, op := 0x0102, words := [0] } : MbxCmd))] }) up : State), ⟨by decide +kernel, by decide +kernel, by decide +kernel, by decide +kernel⟩, by decide +kernel, by decide +kernel, by decide +kernel⟩,
   ⟨(1 : Fin 2), ({ (⟨1, 7, [], 0, [], false, none⟩ : MbxCmd) with started := true, ended := none, op := 0x0103, words := [1] } : MbxCmd), ((fun s => { s with mbx := [((1 : Fin 2).val, ({ (⟨1, 7, [], 0, [], false, none⟩ : MbxCmd) with started := true, ended := none, op := 0x0103, words := [1] } : MbxCmd))] }) up : State), ⟨by decide +kernel, by decide +kernel, by decide +kernel, by decide +kernel⟩, by decide +kernel, by decide +kernel, by decide +kernel⟩,
   ⟨(1 : Fin 2), (⟨0x0103, 7, [1], 0, [], true, none⟩ : MbxCmd), ((fun s => s.loadCore 0 (some { goodImg with stateVer := 0 }) 0) ((FLASH) ((fun s => { s with mbx := [((1 : Fin 2).val, (⟨0x0103, 7, [1], 0, [], true, none⟩ : MbxCmd))] }) up)) : State), (goodImg : FwImage), ({ goodImg with stateVer := 0 } : FwImage), ⟨by decide +kernel, by decide +kernel, by decide +kernel, by decide +kernel⟩, by decide +kernel, by decide +kernel, by decide +kernel, by decide +kernel, by decide +kernel⟩,
   ⟨(1 : Fin 2), ({ (⟨1, 7, [], 0, [], false, none⟩ : MbxCmd) with started := true, ended := none, op := 0x0103, words := [1] } : MbxCmd), ((fun s => s.loadCore 0 (some goodImg) 0) ((FLASH) ((fun s => { s with mbx := [((1 : Fin 2).val, ({ (⟨1, 7, [], 0, [], false, none⟩ : MbxCmd) with started := true, ended := none, op := 0x0103, words := [1] } : MbxCmd))] }) up)) : State), (goodImg : FwImage), (goodImg : FwImage), ⟨by decide +kernel, by decide +kernel, by decide +kernel, by decide +kernel⟩, by decide +kernel, by decide +kernel, by decide +kernel, by decide +kernel, by decide +kernel⟩,
   ⟨(1 : Fin 2), ({ (⟨1, 7, [], 0, [], false, none⟩ : MbxCmd) with started := true, ended := none, op := 0x0104, words := [0] } : MbxCmd), ((FLASH) ((fun s => { s with mbx := [((1 : Fin 2).val, ({ (⟨1, 7, [], 0, [], false, none⟩ : MbxCmd) with started := true, ended := none, op := 0x0104, words := [0] } : MbxCmd))] }) up) : State), (goodImg : FwImage), ⟨by decide +kernel, by decide +kernel, by decide +kernel, by decide +kernel⟩, by decide +kernel, by decide +kernel, by decide +kernel⟩,
   ⟨(1 : Fin 2), ({ (⟨1, 7, [], 0, [], false, none⟩ : MbxCmd) with started := true, ended := none, op := 0x0104, words := [0] } : MbxCmd), ((fun s => { s with mbx := [((1 : Fin 2).val, ({ (⟨1, 7, [], 0, [], false, none⟩ : MbxCmd) with started := true, ended := none, op := 0x0104, words := [0] } : MbxCmd))] }) up : State), ⟨by decide +kernel, by decide +kernel, by decide +kernel, by decide +kernel⟩, by decide +kernel, by decide +kernel, by decide +kernel⟩,
   ⟨(1 : Fin 2), ({ (⟨1, 7, [], 0, [], false, none⟩ : MbxCmd) with started := true, ended := none, op := 0x0105 } : MbxCmd), ((fun s => { s with mbx := [((1 : Fin 2).val, ({ (⟨1, 7, [], 0, [], false, none⟩ : MbxCmd) with started := true, ended := none, op := 0x0105 } : MbxCmd))] }) up : State), ⟨by decide +kernel, by decide +kernel, by decide +kernel, by decide +kernel⟩, by decide +kernel, by decide +kernel⟩,
   ⟨(1 : Fin 2), ({ (⟨1, 7, [], 0, [], false, none⟩ : MbxCmd) with started := true, ended := none, op := 0x0106, words := [0] } : MbxCmd), ((FLASH) ((fun s => { s with mbx := [((1 : Fin 2).val, ({ (⟨1, 7, [], 0, [], false, none⟩ : MbxCmd) with started := true, ended := none, op := 0x0106, words := [0] } : MbxCmd))] }) up) : State), (goodImg : FwImage), ⟨by decide +kernel, by decide +kernel, by decide +kernel, by decide +kernel⟩, by decide +kernel, by decide +kernel, by decide +kernel, by decide +kernel, by decide +kernel, by decide +kernel⟩,
   ⟨(1 : Fin 2), ({ (⟨1, 7, [], 0, [], false, none⟩ : MbxCmd) with started := true, ended := none, op := 0x0201 } : MbxCmd), ((fun s => { s with mbx := [((1 : Fin 2).val, ({ (⟨1, 7, [], 0, [], false, none⟩ : MbxCmd) with started := true, ended := none, op := 0x0201 } : MbxCmd))] }) up : State), ⟨by decide +kernel, by decide +kernel, by decide +kernel, by decide +kernel⟩, by decide +kernel, by decide +kernel⟩,
   ⟨(1 : Fin 2), ({ (⟨1, 7, [], 0, [], false, none⟩ : MbxCmd) with started := true, ended := none, op := 0x0202 } : MbxCmd), ((fun s => { s with mbx := [((1 : Fin 2).val, ({ (⟨1, 7, [], 0, [], false, none⟩ : MbxCmd) with started := true, ended := none, op := 0x0202 } : MbxCmd))] }) up : State), ⟨by decide +kernel, by decide +kernel, by decide +kernel, by decide +kernel⟩, by decide +kernel, by decide +kernel⟩⟩

/-- The hypotheses of `LinkAndProtectionCommandsEnd` are met, case by case. -/
theorem witness_linkAndProtectionCommandsEnd :
    (∃ (x : Fin 2) (c : MbxCmd) (s : State), MailboxReady x c s ∧ c.ended = none ∧ c.op = 0x0301 ∧ s.acqSt (Port.ofBit (c.w 0)) = acqAcquired) ∧
    (∃ (x : Fin 2) (c : MbxCmd) (s : State), MailboxReady x c s ∧ c.ended = none ∧ c.op = 0x0301 ∧ s.acqSt (Port.ofBit (c.w 0)) ≠ acqAcquired) ∧
    (∃ (x : Fin 2) (c : MbxCmd) (s : State), MailboxReady x c s ∧ c.ended = none ∧ c.op = 0x0302 ∧ s.txSt (Port.ofBit (c.w 0)) = txDark) ∧
    (∃ (x : Fin 2) (c : MbxCmd) (s : State), MailboxReady x c s ∧ c.ended = none ∧ c.op = 0x0302 ∧ s.txSt (Port.ofBit (c.w 0)) ≠ txDark) ∧
    (∃ (x : Fin 2) (c : MbxCmd) (s : State), MailboxReady x c s ∧ c.ended = none ∧ c.op = 0x0303 ∧ (s.neg.get (Port.ofBit (c.w 0))).ended = 2) ∧
    (∃ (x : Fin 2) (c : MbxCmd) (s : State), MailboxReady x c s ∧ c.ended = none ∧ c.op = 0x0303 ∧ (s.neg.get (Port.ofBit (c.w 0))).ended = 1) ∧
    (∃ (x : Fin 2) (c : MbxCmd) (s : State), MailboxReady x c s ∧ c.ended = none ∧ c.op = 0x0303 ∧ 3 ≤ (s.neg.get (Port.ofBit (c.w 0))).ended) ∧
    (∃ (x : Fin 2) (c : MbxCmd) (s : State), MailboxReady x c s ∧ c.ended = none ∧ c.op = 0x0303 ∧ (s.neg.get (Port.ofBit (c.w 0))).ended = 0) ∧
    (∃ (x : Fin 2) (c : MbxCmd) (s : State), MailboxReady x c s ∧ c.ended = none ∧ c.op = 0x0401 ∧ s.serviceError 15 = none ∧ s.serviceRuns 15 = true ∧ 384 ≤ c.data.length) ∧
    (∃ (x : Fin 2) (c : MbxCmd) (s : State), MailboxReady x c s ∧ c.ended = none ∧ c.op = 0x0402 ∧ s.prot.inForce ≠ c.w 0) ∧
    (∃ (x : Fin 2) (c : MbxCmd) (s : State), MailboxReady x c s ∧ c.ended = none ∧ c.op = 0x0402 ∧ s.prot.inForce = c.w 0) ∧
    (∃ (x : Fin 2) (c : MbxCmd) (s : State), MailboxReady x c s ∧ c.ended = none ∧ c.op = 0x0403) ∧
    (∃ (x : Fin 2) (c : MbxCmd) (s : State), MailboxReady x c s ∧ c.ended = none ∧ c.op = 0x0404) ∧
    (∃ (x : Fin 2) (c : MbxCmd) (s : State), MailboxReady x c s ∧ c.ended = none ∧ c.op = 0x0405) ∧
    (∃ (x : Fin 2) (c : MbxCmd) (s : State), MailboxReady x c s ∧ c.ended = none ∧ c.op = 0x0501) ∧
    (∃ (x : Fin 2) (c : MbxCmd) (s : State), MailboxReady x c s ∧ c.ended = none ∧ c.op = 0x0502) ∧
    (∃ (x : Fin 2) (c : MbxCmd) (s : State), MailboxReady x c s ∧ c.ended = none ∧ c.op = 0x0503) ∧
    (∃ (x : Fin 2) (c : MbxCmd) (s : State), MailboxReady x c s ∧ c.ended = none ∧ c.op = 0x0601) ∧
    (∃ (x : Fin 2) (c : MbxCmd) (s : State), MailboxReady x c s ∧ c.ended = none ∧ c.op = 0x0602 ∧ s.serviceError 15 = none ∧ s.serviceRuns 15 = true) ∧
    (∃ (x : Fin 2) (c : MbxCmd) (s : State), MailboxReady x c s ∧ c.ended = none ∧ c.op = 0x0603) ∧
    (∃ (x : Fin 2) (c : MbxCmd) (s : State), MailboxReady x c s ∧ c.ended = none ∧ c.op = 0x0701) ∧
    (∃ (x : Fin 2) (c : MbxCmd) (s : State), MailboxReady x c s ∧ c.ended = none ∧ c.op = 0x0702 ∧ s.Clocked ∧ (s.chanKey (c.w 0)).annSs = none ∧ (s.chanKey (c.w 0)).txNxt ≠ noSlot ∧ (s.chanKey (c.w 0)).txEpoch ≠ 0xFFFFFFFF) ∧
    (∃ (x : Fin 2) (c : MbxCmd) (s : State), MailboxReady x c s ∧ c.ended = none ∧ c.op = 0x0702 ∧ s.Clocked ∧ (s.chanKey (c.w 0)).txNxt = noSlot) ∧
    (∃ (x : Fin 2) (c : MbxCmd) (s : State), MailboxReady x c s ∧ c.ended = none ∧ c.op = 0x0702 ∧ s.rclkStopped = true) ∧
    (∃ (x : Fin 2) (c : MbxCmd) (s : State), MailboxReady x c s ∧ c.ended = none ∧ c.op = 0x0801 ∧ s.calRunOver (c.w 0) = true) ∧
    (∃ (x : Fin 2) (c : MbxCmd) (s : State), MailboxReady x c s ∧ c.ended = none ∧ c.op = 0x0801 ∧ s.calRunOver (c.w 0) = false) ∧
    (∃ (x : Fin 2) (c : MbxCmd) (s : State), MailboxReady x c s ∧ c.ended = none ∧ c.op = 0x0802) ∧
    (∃ (x : Fin 2) (c : MbxCmd) (s : State), MailboxReady x c s ∧ c.ended = none ∧ c.op = 0x0901) ∧
    (∃ (x : Fin 2) (c : MbxCmd) (s : State), MailboxReady x c s ∧ c.ended = none ∧ c.op = 0x0902) ∧
    (∃ (x : Fin 2) (c : MbxCmd) (s : State), MailboxReady x c s ∧ c.ended = none ∧ c.op = 0x0A01) ∧
    (∃ (x : Fin 2) (c : MbxCmd) (s : State), MailboxReady x c s ∧ c.ended = none ∧ c.op = 0x0A02) :=
  ⟨⟨(1 : Fin 2), ({ (⟨1, 7, [], 0, [], false, none⟩ : MbxCmd) with started := true, ended := none, op := 0x0301, words := [0, 3] } : MbxCmd), ((fun s => s.wr (RXFE.ACQ_STATUS_ACQ_STATE (Port.ofBit (({ (⟨1, 7, [], 0, [], false, none⟩ : MbxCmd) with started := true, ended := none, op := 0x0301, words := [0, 3] } : MbxCmd).w 0))) acqAcquired) ((fun s => { s with mbx := [((1 : Fin 2).val, ({ (⟨1, 7, [], 0, [], false, none⟩ : MbxCmd) with started := true, ended := none, op := 0x0301, words := [0, 3] } : MbxCmd))] }) up) : State), ⟨by decide +kernel, by decide +kernel, by decide +kernel, by decide +kernel⟩, by decide +kernel, by decide +kernel, by decide +kernel⟩,
   ⟨(1 : Fin 2), ({ (⟨1, 7, [], 0, [], false, none⟩ : MbxCmd) with started := true, ended := none, op := 0x0301, words := [0, 3] } : MbxCmd), ((fun s => { s with mbx := [((1 : Fin 2).val, ({ (⟨1, 7, [], 0, [], false, none⟩ : MbxCmd) with started := true, ended := none, op := 0x0301, words := [0, 3] } : MbxCmd))] }) up : State), ⟨by decide +kernel, by decide +kernel, by decide +kernel, by decide +kernel⟩, by decide +kernel, by decide +kernel, by decide +kernel⟩,
   ⟨(1 : Fin 2), ({ (⟨1, 7, [], 0, [], false, none⟩ : MbxCmd) with started := true, ended := none, op := 0x0302, words := [0] } : MbxCmd), ((fun s => { s with mbx := [((1 : Fin 2).val, ({ (⟨1, 7, [], 0, [], false, none⟩ : MbxCmd) with started := true, ended := none, op := 0x0302, words := [0] } : MbxCmd))] }) up : State), ⟨by decide +kernel, by decide +kernel, by decide +kernel, by decide +kernel⟩, by decide +kernel, by decide +kernel, by decide +kernel⟩,
   ⟨(1 : Fin 2), ({ (⟨1, 7, [], 0, [], false, none⟩ : MbxCmd) with started := true, ended := none, op := 0x0302, words := [0] } : MbxCmd), ((fun s => s.wr (TX.TX_STATUS_TX_STATE (Port.ofBit (({ (⟨1, 7, [], 0, [], false, none⟩ : MbxCmd) with started := true, ended := none, op := 0x0302, words := [0] } : MbxCmd).w 0))) txOn) ((fun s => { s with mbx := [((1 : Fin 2).val, ({ (⟨1, 7, [], 0, [], false, none⟩ : MbxCmd) with started := true, ended := none, op := 0x0302, words := [0] } : MbxCmd))] }) up) : State), ⟨by decide +kernel, by decide +kernel, by decide +kernel, by decide +kernel⟩, by decide +kernel, by decide +kernel, by decide +kernel⟩,
   ⟨(1 : Fin 2), ({ (⟨1, 7, [], 0, [], false, none⟩ : MbxCmd) with started := true, ended := none, op := 0x0303, words := [0, 3] } : MbxCmd), ((fun s => { s with neg := s.neg.upd (Port.ofBit (({ (⟨1, 7, [], 0, [], false, none⟩ : MbxCmd) with started := true, ended := none, op := 0x0303, words := [0, 3] } : MbxCmd).w 0)) fun q_ => { q_ with ended := 2 } }) ((fun s => { s with mbx := [((1 : Fin 2).val, ({ (⟨1, 7, [], 0, [], false, none⟩ : MbxCmd) with started := true, ended := none, op := 0x0303, words := [0, 3] } : MbxCmd))] }) up) : State), ⟨by decide +kernel, by decide +kernel, by decide +kernel, by decide +kernel⟩, by decide +kernel, by decide +kernel, by decide +kernel⟩,
   ⟨(1 : Fin 2), ({ (⟨1, 7, [], 0, [], false, none⟩ : MbxCmd) with started := true, ended := none, op := 0x0303, words := [1, 3] } : MbxCmd), ((fun s => { s with neg := s.neg.upd .W fun q => { q with ended := 1 } }) ((fun s => { s with mbx := [((1 : Fin 2).val, ({ (⟨1, 7, [], 0, [], false, none⟩ : MbxCmd) with started := true, ended := none, op := 0x0303, words := [1, 3] } : MbxCmd))] }) up) : State), ⟨by decide +kernel, by decide +kernel, by decide +kernel, by decide +kernel⟩, by decide +kernel, by decide +kernel, by decide +kernel⟩,
   ⟨(1 : Fin 2), ({ (⟨1, 7, [], 0, [], false, none⟩ : MbxCmd) with started := true, ended := none, op := 0x0303, words := [1, 3] } : MbxCmd), ((fun s => { s with neg := s.neg.upd .W fun q => { q with ended := 3 } }) ((fun s => { s with mbx := [((1 : Fin 2).val, ({ (⟨1, 7, [], 0, [], false, none⟩ : MbxCmd) with started := true, ended := none, op := 0x0303, words := [1, 3] } : MbxCmd))] }) up) : State), ⟨by decide +kernel, by decide +kernel, by decide +kernel, by decide +kernel⟩, by decide +kernel, by decide +kernel, by decide +kernel⟩,
   ⟨(1 : Fin 2), ({ (⟨1, 7, [], 0, [], false, none⟩ : MbxCmd) with started := true, ended := none, op := 0x0303, words := [1, 3] } : MbxCmd), ((fun s => { s with mbx := [((1 : Fin 2).val, ({ (⟨1, 7, [], 0, [], false, none⟩ : MbxCmd) with started := true, ended := none, op := 0x0303, words := [1, 3] } : MbxCmd))] }) up : State), ⟨by decide +kernel, by decide +kernel, by decide +kernel, by decide +kernel⟩, by decide +kernel, by decide +kernel, by decide +kernel⟩,
   ⟨(1 : Fin 2), ({ (⟨1, 7, [], 0, [], false, none⟩ : MbxCmd) with started := true, ended := none, op := 0x0401, data := List.replicate 400 3 } : MbxCmd), ((fun s => svcUp s 15) ((fun s => { s with mbx := [((1 : Fin 2).val, ({ (⟨1, 7, [], 0, [], false, none⟩ : MbxCmd) with started := true, ended := none, op := 0x0401, data := List.replicate 400 3 } : MbxCmd))] }) up) : State), ⟨by decide +kernel, by decide +kernel, by decide +kernel, by decide +kernel⟩, by decide +kernel, by decide +kernel, by decide +kernel, by decide +kernel, by decide +kernel⟩,
   ⟨(1 : Fin 2), (⟨0x0402, 7, [5], 0, [], true, none⟩ : MbxCmd), ((fun s => { s with mbx := [((1 : Fin 2).val, (⟨0x0402, 7, [5], 0, [], true, none⟩ : MbxCmd))] }) up : State), ⟨by decide +kernel, by decide +kernel, by decide +kernel, by decide +kernel⟩, by decide +kernel, by decide +kernel, by decide +kernel⟩,
   ⟨(1 : Fin 2), ({ (⟨1, 7, [], 0, [], false, none⟩ : MbxCmd) with started := true, ended := none, op := 0x0402 } : MbxCmd), ((fun s => { s with mbx := [((1 : Fin 2).val, ({ (⟨1, 7, [], 0, [], false, none⟩ : MbxCmd) with started := true, ended := none, op := 0x0402 } : MbxCmd))] }) up : State), ⟨by decide +kernel, by decide +kernel, by decide +kernel, by decide +kernel⟩, by decide +kernel, by decide +kernel, by decide +kernel⟩,
   ⟨(1 : Fin 2), ({ (⟨1, 7, [], 0, [], false, none⟩ : MbxCmd) with started := true, ended := none, op := 0x0403 } : MbxCmd), ((fun s => { s with mbx := [((1 : Fin 2).val, ({ (⟨1, 7, [], 0, [], false, none⟩ : MbxCmd) with started := true, ended := none, op := 0x0403 } : MbxCmd))] }) up : State), ⟨by decide +kernel, by decide +kernel, by decide +kernel, by decide +kernel⟩, by decide +kernel, by decide +kernel⟩,
   ⟨(1 : Fin 2), ({ (⟨1, 7, [], 0, [], false, none⟩ : MbxCmd) with started := true, ended := none, op := 0x0404 } : MbxCmd), ((fun s => { s with mbx := [((1 : Fin 2).val, ({ (⟨1, 7, [], 0, [], false, none⟩ : MbxCmd) with started := true, ended := none, op := 0x0404 } : MbxCmd))] }) up : State), ⟨by decide +kernel, by decide +kernel, by decide +kernel, by decide +kernel⟩, by decide +kernel, by decide +kernel⟩,
   ⟨(1 : Fin 2), ({ (⟨1, 7, [], 0, [], false, none⟩ : MbxCmd) with started := true, ended := none, op := 0x0405 } : MbxCmd), ((fun s => { s with mbx := [((1 : Fin 2).val, ({ (⟨1, 7, [], 0, [], false, none⟩ : MbxCmd) with started := true, ended := none, op := 0x0405 } : MbxCmd))] }) up : State), ⟨by decide +kernel, by decide +kernel, by decide +kernel, by decide +kernel⟩, by decide +kernel, by decide +kernel⟩,
   ⟨(1 : Fin 2), ({ (⟨1, 7, [], 0, [], false, none⟩ : MbxCmd) with started := true, ended := none, op := 0x0501 } : MbxCmd), ((fun s => { s with mbx := [((1 : Fin 2).val, ({ (⟨1, 7, [], 0, [], false, none⟩ : MbxCmd) with started := true, ended := none, op := 0x0501 } : MbxCmd))] }) up : State), ⟨by decide +kernel, by decide +kernel, by decide +kernel, by decide +kernel⟩, by decide +kernel, by decide +kernel⟩,
   ⟨(1 : Fin 2), ({ (⟨1, 7, [], 0, [], false, none⟩ : MbxCmd) with started := true, ended := none, op := 0x0502 } : MbxCmd), ((fun s => { s with mbx := [((1 : Fin 2).val, ({ (⟨1, 7, [], 0, [], false, none⟩ : MbxCmd) with started := true, ended := none, op := 0x0502 } : MbxCmd))] }) up : State), ⟨by decide +kernel, by decide +kernel, by decide +kernel, by decide +kernel⟩, by decide +kernel, by decide +kernel⟩,
   ⟨(1 : Fin 2), ({ (⟨1, 7, [], 0, [], false, none⟩ : MbxCmd) with started := true, ended := none, op := 0x0503 } : MbxCmd), ((fun s => { s with mbx := [((1 : Fin 2).val, ({ (⟨1, 7, [], 0, [], false, none⟩ : MbxCmd) with started := true, ended := none, op := 0x0503 } : MbxCmd))] }) up : State), ⟨by decide +kernel, by decide +kernel, by decide +kernel, by decide +kernel⟩, by decide +kernel, by decide +kernel⟩,
   ⟨(1 : Fin 2), ({ (⟨1, 7, [], 0, [], false, none⟩ : MbxCmd) with started := true, ended := none, op := 0x0601 } : MbxCmd), ((fun s => { s with mbx := [((1 : Fin 2).val, ({ (⟨1, 7, [], 0, [], false, none⟩ : MbxCmd) with started := true, ended := none, op := 0x0601 } : MbxCmd))] }) up : State), ⟨by decide +kernel, by decide +kernel, by decide +kernel, by decide +kernel⟩, by decide +kernel, by decide +kernel⟩,
   ⟨(1 : Fin 2), (⟨0x0602, 7, [5], 0, [], true, none⟩ : MbxCmd), ((fun s => svcUp s 15) ((fun s => { s with mbx := [((1 : Fin 2).val, (⟨0x0602, 7, [5], 0, [], true, none⟩ : MbxCmd))] }) up) : State), ⟨by decide +kernel, by decide +kernel, by decide +kernel, by decide +kernel⟩, by decide +kernel, by decide +kernel, by decide +kernel, by decide +kernel⟩,
   ⟨(1 : Fin 2), ({ (⟨1, 7, [], 0, [], false, none⟩ : MbxCmd) with started := true, ended := none, op := 0x0603 } : MbxCmd), ((fun s => { s with mbx := [((1 : Fin 2).val, ({ (⟨1, 7, [], 0, [], false, none⟩ : MbxCmd) with started := true, ended := none, op := 0x0603 } : MbxCmd))] }) up : State), ⟨by decide +kernel, by decide +kernel, by decide +kernel, by decide +kernel⟩, by decide +kernel, by decide +kernel⟩,
   ⟨(1 : Fin 2), ({ (⟨1, 7, [], 0, [], false, none⟩ : MbxCmd) with started := true, ended := none, op := 0x0701 } : MbxCmd), ((fun s => { s with mbx := [((1 : Fin 2).val, ({ (⟨1, 7, [], 0, [], false, none⟩ : MbxCmd) with started := true, ended := none, op := 0x0701 } : MbxCmd))] }) up : State), ⟨by decide +kernel, by decide +kernel, by decide +kernel, by decide +kernel⟩, by decide +kernel, by decide +kernel⟩,
   ⟨(1 : Fin 2), ({ (⟨1, 7, [], 0, [], false, none⟩ : MbxCmd) with started := true, ended := none, op := 0x0702 } : MbxCmd), ((fun s => s.onChanKey (({ (⟨1, 7, [], 0, [], false, none⟩ : MbxCmd) with started := true, ended := none, op := 0x0702 } : MbxCmd).w 0) fun q_ => { q_ with annSs := none, txNxt := 8, txEpoch := 5 }) ((fun s => { s with mbx := [((1 : Fin 2).val, ({ (⟨1, 7, [], 0, [], false, none⟩ : MbxCmd) with started := true, ended := none, op := 0x0702 } : MbxCmd))] }) up) : State), ⟨by decide +kernel, by decide +kernel, by decide +kernel, by decide +kernel⟩, by decide +kernel, by decide +kernel, by decide +kernel, by decide +kernel, by decide +kernel, by decide +kernel⟩,
   ⟨(1 : Fin 2), ({ (⟨1, 7, [], 0, [], false, none⟩ : MbxCmd) with started := true, ended := none, op := 0x0702, words := [5] } : MbxCmd), ((fun s => { s with mbx := [((1 : Fin 2).val, ({ (⟨1, 7, [], 0, [], false, none⟩ : MbxCmd) with started := true, ended := none, op := 0x0702, words := [5] } : MbxCmd))] }) up : State), ⟨by decide +kernel, by decide +kernel, by decide +kernel, by decide +kernel⟩, by decide +kernel, by decide +kernel, by decide +kernel, by decide +kernel⟩,
   ⟨(1 : Fin 2), ({ (⟨1, 7, [], 0, [], false, none⟩ : MbxCmd) with started := true, ended := none, op := 0x0702, words := [5] } : MbxCmd), ((fun s => s.wr CK_SYN.SYN_STATUS_RCLK_OK 0) ((fun s => { s with mbx := [((1 : Fin 2).val, ({ (⟨1, 7, [], 0, [], false, none⟩ : MbxCmd) with started := true, ended := none, op := 0x0702, words := [5] } : MbxCmd))] }) up) : State), ⟨by decide +kernel, by decide +kernel, by decide +kernel, by decide +kernel⟩, by decide +kernel, by decide +kernel, by decide +kernel⟩,
   ⟨(1 : Fin 2), ({ (⟨1, 7, [], 0, [], false, none⟩ : MbxCmd) with started := true, ended := none, op := 0x0801 } : MbxCmd), ((fun s => { s with mbx := [((1 : Fin 2).val, ({ (⟨1, 7, [], 0, [], false, none⟩ : MbxCmd) with started := true, ended := none, op := 0x0801 } : MbxCmd))] }) up : State), ⟨by decide +kernel, by decide +kernel, by decide +kernel, by decide +kernel⟩, by decide +kernel, by decide +kernel, by decide +kernel⟩,
   ⟨(1 : Fin 2), (⟨0x0801, 7, [1], 0, [], true, none⟩ : MbxCmd), ((fun s => s.wr (RXCONV.CAL_STATUS_RUN_ACTIVE .E) 1) ((fun s => { s with mbx := [((1 : Fin 2).val, (⟨0x0801, 7, [1], 0, [], true, none⟩ : MbxCmd))] }) up) : State), ⟨by decide +kernel, by decide +kernel, by decide +kernel, by decide +kernel⟩, by decide +kernel, by decide +kernel, by decide +kernel⟩,
   ⟨(1 : Fin 2), ({ (⟨1, 7, [], 0, [], false, none⟩ : MbxCmd) with started := true, ended := none, op := 0x0802 } : MbxCmd), ((fun s => { s with mbx := [((1 : Fin 2).val, ({ (⟨1, 7, [], 0, [], false, none⟩ : MbxCmd) with started := true, ended := none, op := 0x0802 } : MbxCmd))] }) up : State), ⟨by decide +kernel, by decide +kernel, by decide +kernel, by decide +kernel⟩, by decide +kernel, by decide +kernel⟩,
   ⟨(1 : Fin 2), ({ (⟨1, 7, [], 0, [], false, none⟩ : MbxCmd) with started := true, ended := none, op := 0x0901 } : MbxCmd), ((fun s => { s with mbx := [((1 : Fin 2).val, ({ (⟨1, 7, [], 0, [], false, none⟩ : MbxCmd) with started := true, ended := none, op := 0x0901 } : MbxCmd))] }) up : State), ⟨by decide +kernel, by decide +kernel, by decide +kernel, by decide +kernel⟩, by decide +kernel, by decide +kernel⟩,
   ⟨(1 : Fin 2), ({ (⟨1, 7, [], 0, [], false, none⟩ : MbxCmd) with started := true, ended := none, op := 0x0902 } : MbxCmd), ((fun s => { s with mbx := [((1 : Fin 2).val, ({ (⟨1, 7, [], 0, [], false, none⟩ : MbxCmd) with started := true, ended := none, op := 0x0902 } : MbxCmd))] }) up : State), ⟨by decide +kernel, by decide +kernel, by decide +kernel, by decide +kernel⟩, by decide +kernel, by decide +kernel⟩,
   ⟨(1 : Fin 2), ({ (⟨1, 7, [], 0, [], false, none⟩ : MbxCmd) with started := true, ended := none, op := 0x0A01 } : MbxCmd), ((fun s => { s with mbx := [((1 : Fin 2).val, ({ (⟨1, 7, [], 0, [], false, none⟩ : MbxCmd) with started := true, ended := none, op := 0x0A01 } : MbxCmd))] }) up : State), ⟨by decide +kernel, by decide +kernel, by decide +kernel, by decide +kernel⟩, by decide +kernel, by decide +kernel⟩,
   ⟨(1 : Fin 2), ({ (⟨1, 7, [], 0, [], false, none⟩ : MbxCmd) with started := true, ended := none, op := 0x0A02 } : MbxCmd), ((fun s => { s with mbx := [((1 : Fin 2).val, ({ (⟨1, 7, [], 0, [], false, none⟩ : MbxCmd) with started := true, ended := none, op := 0x0A02 } : MbxCmd))] }) up : State), ⟨by decide +kernel, by decide +kernel, by decide +kernel, by decide +kernel⟩, by decide +kernel, by decide +kernel⟩⟩

/-- The hypotheses of `MailboxAborts` are met, case by case. -/
theorem witness_mailboxAborts :
    (∃ (r : Requester) (x : Fin 2) (c : MbxCmd) (s : State), s.Takes r (2 + x.val) 0x054 ∧ s.mbxOf x.val = some c ∧ (∀ d, s.mbxOf (1 - x.val) = some d → d.started = true) ∧ c.ended = none ∧ (c.op = 0x0101 ∨ c.op = 0x0301 ∨ c.op = 0x0602 ∨ c.op = 0x0801)) ∧
    (∃ (r : Requester) (x : Fin 2) (c : MbxCmd) (s : State), s.Takes r (2 + x.val) 0x054 ∧ s.mbxOf x.val = some c ∧ (∀ d, s.mbxOf (1 - x.val) = some d → d.started = true) ∧ c.ended = none ∧ c.op ≠ 0x0101 ∧ c.op ≠ 0x0301 ∧ c.op ≠ 0x0602 ∧ c.op ≠ 0x0801) :=
  ⟨⟨(.pcie : Requester), (1 : Fin 2), ({ (⟨1, 7, [], 0, [], false, none⟩ : MbxCmd) with started := true, ended := none, op := [0x0101, 0x0301, 0x0602, 0x0801].getD ((1 : Fin 2).val + 2 * ((.pcie : Requester).toNat % 2)) 0 } : MbxCmd), ((fun s => { s with mbx := [((1 : Fin 2).val, ({ (⟨1, 7, [], 0, [], false, none⟩ : MbxCmd) with started := true, ended := none, op := [0x0101, 0x0301, 0x0602, 0x0801].getD ((1 : Fin 2).val + 2 * ((.pcie : Requester).toNat % 2)) 0 } : MbxCmd))] }) up : State), by decide +kernel, by decide +kernel, by decide +kernel, by decide +kernel, by decide +kernel⟩,
   ⟨(.pcie : Requester), (1 : Fin 2), ({ (⟨1, 7, [], 0, [], false, none⟩ : MbxCmd) with started := true, ended := none, op := 0x0302 } : MbxCmd), ((fun s => { s with mbx := [((1 : Fin 2).val, ({ (⟨1, 7, [], 0, [], false, none⟩ : MbxCmd) with started := true, ended := none, op := 0x0302 } : MbxCmd))] }) up : State), by decide +kernel, by decide +kernel, by decide +kernel, by decide +kernel, by decide +kernel⟩⟩

/-- The hypotheses of `TransmitterFollowsItsStateMachine` are met, case by case. -/
theorem witness_transmitterFollowsItsStateMachine :
    (∃ (r : Requester) (p : Port) (s : State), s.Takes r (31 + 8 * p.toNat) 0x058 ∧ s.txSt p = txDark ∧ s.txValid p = true) ∧
    (∃ (r : Requester) (p : Port) (s : State), s.Takes r (31 + 8 * p.toNat) 0x058 ∧ s.txSt p = txDark ∧ s.txValid p = false) ∧
    (∃ (r : Requester) (p : Port) (s : State), s.Takes r (31 + 8 * p.toNat) 0x058 ∧ s.txSt p = txRampDown) ∧
    (∃ (r : Requester) (p : Port) (s : State), s.Takes r (31 + 8 * p.toNat) 0x058 ∧ s.txSt p ≠ txResetWait ∧ s.txSt p ≠ txDark ∧ s.txSt p < 6) ∧
    (∃ (r : Requester) (p : Port) (s : State), s.Takes r (31 + 8 * p.toNat) 0x058 ∧ s.txSt p = txOn) ∧
    (∃ (r : Requester) (p : Port) (s : State), s.Takes r (31 + 8 * p.toNat) 0x058 ∧ s.txSt p ≠ txOn) ∧
    (∃ (p : Port) (s : State), s.Clocked ∧ s.txSt p = txRampUp) ∧
    (∃ (p : Port) (s : State), s.Clocked ∧ s.txSt p = txRampDown ∧ (s.tx.get p).atten + s.rd (TX.RAMP_DEPTH_TOTAL_DB p) < s.rd (TX.RAMP_DEPTH_TOTAL_DB p) * 1000 * (s.tx.get p).rampMs) ∧
    (∃ (p : Port) (s : State), s.Clocked ∧ s.txSt p = txRampDown ∧ s.rd (TX.RAMP_DEPTH_TOTAL_DB p) * 1000 * (s.tx.get p).rampMs ≤ (s.tx.get p).atten + s.rd (TX.RAMP_DEPTH_TOTAL_DB p)) ∧
    (∃ (p : Port) (s : State), s.Clocked ∧ s.txSt p = txAlign) ∧
    (∃ (p : Port) (s : State), s.Clocked ∧ s.txSt p = txOn ∧ ((s.preambleAsked p && decide (s.preInterval p ≤ (s.tx.get p).preCount)) = true ∨ (s.tx.get p).forced = true)) ∧
    (∃ (p : Port) (s : State), s.Clocked ∧ s.txSt p = txOn ∧ (s.preambleAsked p && decide (s.preInterval p ≤ (s.tx.get p).preCount)) = false ∧ (s.tx.get p).forced = false) ∧
    (∃ (p : Port) (u pl : Nat) (s : State), s.Clocked ∧ (s.tx.get p).abandoned = false ∧ (s.block (.txCluster p)).spares (.txCluster p) ≠ 0 ∧ (s.block (.txCluster p)).mayEclose (s.rd (TX.CLU_ROT_CHRYS_CLU p)) = true ∧ nextCluster (s.block (.txCluster p)) (.txCluster p) (s.rd (TX.CLU_ROT_CHRYS_CLU p)) 9 = some u ∧ (s.block (.txCluster p)).placeOf (.txCluster p) u = some pl) ∧
    (∃ (p : Port) (s : State), s.Clocked ∧ ((s.tx.get p).abandoned = true ∨ (s.block (.txCluster p)).spares (.txCluster p) = 0 ∨ (s.block (.txCluster p)).mayEclose (s.rd (TX.CLU_ROT_CHRYS_CLU p)) = false)) :=
  ⟨⟨(.pcie : Requester), (.E : Port), (up : State), by decide +kernel⟩,
   ⟨(.pcie : Requester), (.E : Port), ((fun s => s.wrA (TX.SYM_RATE_RATE_Q (.E : Port)) 0) up : State), by decide +kernel⟩,
   ⟨(.pcie : Requester), (.E : Port), ((fun s => s.wr (TX.TX_STATUS_TX_STATE (.E : Port)) (txRampDown)) up : State), by decide +kernel⟩,
   ⟨(.pcie : Requester), (.E : Port), ((fun s => s.wr (TX.TX_STATUS_TX_STATE (.E : Port)) ((if (txDark) = 0 then 9 else 0))) up : State), by decide +kernel⟩,
   ⟨(.pcie : Requester), (.E : Port), ((fun s => s.wr (TX.TX_STATUS_TX_STATE (.E : Port)) (txOn)) up : State), by decide +kernel⟩,
   ⟨(.pcie : Requester), (.E : Port), (up : State), by decide +kernel⟩,
   ⟨(.E : Port), ((fun s => s.wr (TX.TX_STATUS_TX_STATE (.E : Port)) (txRampUp)) up : State), by decide +kernel⟩,
   ⟨(.E : Port), ((fun s => { s with tx := s.tx.upd (.E : Port) fun q_ => { q_ with rampMs := 2, atten := 0 } }) ((fun s => s.wr (TX.TX_STATUS_TX_STATE (.E : Port)) (txRampDown)) up) : State), by decide +kernel⟩,
   ⟨(.E : Port), ((fun s => s.wr (TX.TX_STATUS_TX_STATE (.E : Port)) (txRampDown)) up : State), by decide +kernel⟩,
   ⟨(.E : Port), ((fun s => s.wr (TX.TX_STATUS_TX_STATE (.E : Port)) (txAlign)) up : State), by decide +kernel⟩,
   ⟨(.E : Port), ((fun s => s.wr (TX.TX_STATUS_TX_STATE (.E : Port)) (txOn)) up : State), by decide +kernel⟩,
   ⟨(.E : Port), ((fun s => s.wr (RXFE.ACQ_STATUS_ACQ_STATE (.E : Port)) acqAcquired) ((fun s => s.wr (TX.TX_STATUS_TX_STATE (.E : Port)) (txOn)) up) : State), by decide +kernel⟩,
   ⟨(.E : Port), ((nextCluster (((fun s => s.testPassed (.txCluster (.E : Port)) 8) up : State).block (.txCluster (.E : Port))) (.txCluster (.E : Port)) (((fun s => s.testPassed (.txCluster (.E : Port)) 8) up : State).rd (TX.CLU_ROT_CHRYS_CLU (.E : Port))) 9).getD 0 : Nat), (((((fun s => s.testPassed (.txCluster (.E : Port)) 8) up : State).block (.txCluster (.E : Port))).placeOf (.txCluster (.E : Port)) ((nextCluster (((fun s => s.testPassed (.txCluster (.E : Port)) 8) up : State).block (.txCluster (.E : Port))) (.txCluster (.E : Port)) (((fun s => s.testPassed (.txCluster (.E : Port)) 8) up : State).rd (TX.CLU_ROT_CHRYS_CLU (.E : Port))) 9).getD 0 : Nat)).getD 0 : Nat), ((fun s => s.testPassed (.txCluster (.E : Port)) 8) up : State), by decide +kernel⟩,
   ⟨(.E : Port), (up : State), by decide +kernel⟩⟩

/-- The hypotheses of `RegionResetOfAPort` are met, case by case. -/
theorem witness_regionResetOfAPort :
    (∃ (r : Requester) (p : Port) (s : State), s.Takes r (35 + 8 * p.toNat) 0x040 ∧ s.on (RXEQ.REGION_CTRL_RESET_BUSY p) = false) ∧
    (∃ (r : Requester) (p : Port) (s : State), s.Takes r (35 + 8 * p.toNat) 0x040 ∧ s.on (RXEQ.REGION_CTRL_RESET_BUSY p) = true) ∧
    (∃ (p : Port) (s : State), s.Clocked ∧ s.on (RXEQ.REGION_CTRL_RESET_BUSY p) = true ∧ s.txSt p = txDark) ∧
    (∃ (p : Port) (s : State), s.Clocked ∧ s.on (RXEQ.REGION_CTRL_RESET_BUSY p) = true ∧ s.txSt p ≠ txDark) :=
  ⟨⟨(.pcie : Requester), (.E : Port), (up : State), by decide +kernel⟩,
   ⟨(.pcie : Requester), (.E : Port), ((fun s => s.wr ((RXEQ.REGION_CTRL_RESET_BUSY (.E : Port))) (1)) up : State), by decide +kernel⟩,
   ⟨(.E : Port), ((fun s => s.wr ((RXEQ.REGION_CTRL_RESET_BUSY (.E : Port))) (1)) up : State), by decide +kernel⟩,
   ⟨(.E : Port), ((fun s => s.wr (TX.TX_STATUS_TX_STATE (.E : Port)) ((if (txDark) = 0 then 9 else 0))) ((fun s => s.wr ((RXEQ.REGION_CTRL_RESET_BUSY (.E : Port))) (1)) up) : State), by decide +kernel⟩⟩

/-- The hypotheses of `AcquisitionFollowsItsStateMachine` are met, case by case. -/
theorem witness_acquisitionFollowsItsStateMachine :
    (∃ (r : Requester) (p : Port) (s : State), s.Takes r (33 + 8 * p.toNat) 0x040 ∧ s.acqSt p = acqIdle ∧ s.rxValid p = true ∧ s.on (RXEQ.REGION_CTRL_RESET_BUSY p) = false) ∧
    (∃ (r : Requester) (p : Port) (s : State), s.Takes r (33 + 8 * p.toNat) 0x040 ∧ s.acqSt p = acqIdle ∧ s.rxValid p = false ∧ s.on (RXEQ.REGION_CTRL_RESET_BUSY p) = false) ∧
    (∃ (r : Requester) (p : Port) (s : State), s.Takes r (33 + 8 * p.toNat) 0x040 ∧ (s.on (RXEQ.REGION_CTRL_RESET_BUSY p) = true ∨ s.acqSt p ≠ acqIdle)) ∧
    (∃ (r : Requester) (p : Port) (s : State), s.Takes r (33 + 8 * p.toNat) 0x040 ∧ s.acqSt p ≠ acqIdle) ∧
    (∃ (p : Port) (px py : Nat) (s : State), s.Clocked ∧ s.acqSt p ≠ acqIdle ∧ s.on (RXFE.ACQ_STATUS_LOS p) = false ∧ s.rd (RXFE.ACQ_CFG_SIG_THRESH p) < px ∧ s.rd (RXFE.ACQ_CFG_SIG_THRESH p) < py ∧ (s.rx.get p).lowRun < 9) ∧
    (∃ (p : Port) (px py : Nat) (s : State), s.Clocked ∧ s.acqSt p ≠ acqIdle ∧ s.on (RXFE.ACQ_STATUS_LOS p) = false ∧ s.rd (RXFE.ACQ_CFG_SIG_THRESH p) < px ∧ s.rd (RXFE.ACQ_CFG_SIG_THRESH p) < py ∧ 9 ≤ (s.rx.get p).lowRun) ∧
    (∃ (p : Port) (px py : Nat) (s : State), s.Clocked ∧ s.acqSt p = acqNoSignal ∧ s.on (RXFE.ACQ_STATUS_LOS p) = true ∧ (px ≤ s.rd (RXFE.ACQ_CFG_SIG_THRESH p) ∨ py ≤ s.rd (RXFE.ACQ_CFG_SIG_THRESH p)) ∧ 99 ≤ (s.rx.get p).highRun) ∧
    (∃ (p : Port) (coarse fine : List Nat) (c d : Int) (m n : Nat) (s : State), s.Clocked ∧ s.acqSt p = acqCdScan ∧ bestCand (s.coarseCands p) coarse = some (c, m) ∧ bestCand (fineCands c) fine = some (d, n) ∧ s.rd (RXFE.ACQ_CFG_CARRIER_THRESH p) ≤ max m n) ∧
    (∃ (p : Port) (coarse fine : List Nat) (c d : Int) (m n : Nat) (s : State), s.Clocked ∧ s.acqSt p = acqCdScan ∧ bestCand (s.coarseCands p) coarse = some (c, m) ∧ bestCand (fineCands c) fine = some (d, n) ∧ max m n < s.rd (RXFE.ACQ_CFG_CARRIER_THRESH p)) ∧
    (∃ (p : Port) (s : State), s.Clocked ∧ s.acqSt p = acqNoCarrier) ∧
    (∃ (p : Port) (s : State), s.Clocked ∧ s.acqSt p = acqPreHunt) ∧
    (∃ (p : Port) (f : Int) (s : State), s.Clocked ∧ s.acqSt p = acqPreTrack ∧ f.natAbs ≤ 5000) ∧
    (∃ (p : Port) (h : Hop) (rest : List Hop) (left : Nat) (s : State), s.Clocked ∧ (s.rx.get p).hops = h :: rest ∧ s.acqSt p = acqEqTrain ∧ (s.rx.get p).marker = some left ∧ left < hopLen) ∧
    (∃ (p : Port) (f : Int) (s : State), s.Clocked ∧ s.acqSt p = acqPreTrack ∧ 5000 < f.natAbs) ∧
    (∃ (p : Port) (s : State), s.Clocked ∧ acqTiming ≤ s.acqSt p ∧ s.acqSt p ≤ acqFrameWait) :=
  ⟨⟨(.pcie : Requester), (.E : Port), (up : State), by decide +kernel⟩,
   ⟨(.pcie : Requester), (.E : Port), ((fun s => s.wrA (RXFE.SYM_RATE_RATE_Q (.E : Port)) 0) up : State), by decide +kernel⟩,
   ⟨(.pcie : Requester), (.E : Port), ((fun s => s.wr (RXEQ.REGION_CTRL_RESET_BUSY (.E : Port)) 1) up : State), by decide +kernel⟩,
   ⟨(.pcie : Requester), (.E : Port), ((fun s => s.wr (RXFE.ACQ_STATUS_ACQ_STATE (.E : Port)) ((if (acqIdle) = 0 then 9 else 0))) up : State), by decide +kernel⟩,
   ⟨(.E : Port), (((fun s => s.wr ((RXFE.ACQ_STATUS_LOS (.E : Port))) (0)) ((fun s => s.wr (RXFE.ACQ_STATUS_ACQ_STATE (.E : Port)) ((if (acqIdle) = 0 then 9 else 0))) up) : State).rd (RXFE.ACQ_CFG_SIG_THRESH (.E : Port)) + 1 : Nat), (((fun s => s.wr ((RXFE.ACQ_STATUS_LOS (.E : Port))) (0)) ((fun s => s.wr (RXFE.ACQ_STATUS_ACQ_STATE (.E : Port)) ((if (acqIdle) = 0 then 9 else 0))) up) : State).rd (RXFE.ACQ_CFG_SIG_THRESH (.E : Port)) + 5 : Nat), ((fun s => s.wr ((RXFE.ACQ_STATUS_LOS (.E : Port))) (0)) ((fun s => s.wr (RXFE.ACQ_STATUS_ACQ_STATE (.E : Port)) ((if (acqIdle) = 0 then 9 else 0))) up) : State), by decide +kernel⟩,
   ⟨(.E : Port), (((fun s => { s with rx := s.rx.upd (.E : Port) fun q_ => { q_ with lowRun := 9 } }) ((fun s => s.wr ((RXFE.ACQ_STATUS_LOS (.E : Port))) (0)) ((fun s => s.wr (RXFE.ACQ_STATUS_ACQ_STATE (.E : Port)) ((if (acqIdle) = 0 then 9 else 0))) up)) : State).rd (RXFE.ACQ_CFG_SIG_THRESH (.E : Port)) + 1 : Nat), (((fun s => { s with rx := s.rx.upd (.E : Port) fun q_ => { q_ with lowRun := 9 } }) ((fun s => s.wr ((RXFE.ACQ_STATUS_LOS (.E : Port))) (0)) ((fun s => s.wr (RXFE.ACQ_STATUS_ACQ_STATE (.E : Port)) ((if (acqIdle) = 0 then 9 else 0))) up)) : State).rd (RXFE.ACQ_CFG_SIG_THRESH (.E : Port)) + 5 : Nat), ((fun s => { s with rx := s.rx.upd (.E : Port) fun q_ => { q_ with lowRun := 9 } }) ((fun s => s.wr ((RXFE.ACQ_STATUS_LOS (.E : Port))) (0)) ((fun s => s.wr (RXFE.ACQ_STATUS_ACQ_STATE (.E : Port)) ((if (acqIdle) = 0 then 9 else 0))) up)) : State), by decide +kernel⟩,
   ⟨(.E : Port), (1 : Nat), (1 : Nat), ((fun s => { s with rx := s.rx.upd (.E : Port) fun q_ => { q_ with highRun := 99 } }) ((fun s => s.wr (RXFE.ACQ_STATUS_ACQ_STATE (.E : Port)) (acqNoSignal)) up) : State), by decide +kernel⟩,
   ⟨(.E : Port), ((((fun s => s.wr (RXFE.ACQ_STATUS_ACQ_STATE (.E : Port)) (acqCdScan)) up : State).coarseCands (.E : Port)).map fun x => x.natAbs + 5 : List Nat), ((fineCands ((((bestCand (((fun s => s.wr (RXFE.ACQ_STATUS_ACQ_STATE (.E : Port)) (acqCdScan)) up : State).coarseCands (.E : Port)) ((((fun s => s.wr (RXFE.ACQ_STATUS_ACQ_STATE (.E : Port)) (acqCdScan)) up : State).coarseCands (.E : Port)).map fun x => x.natAbs + 5 : List Nat)).getD (0,0)).1 : Int) + 0 * ((fun s => s.wr (RXFE.ACQ_STATUS_ACQ_STATE (.E : Port)) (acqCdScan)) up : State).tclk)).map fun x => x.natAbs : List Nat), (((bestCand (((fun s => s.wr (RXFE.ACQ_STATUS_ACQ_STATE (.E : Port)) (acqCdScan)) up : State).coarseCands (.E : Port)) ((((fun s => s.wr (RXFE.ACQ_STATUS_ACQ_STATE (.E : Port)) (acqCdScan)) up : State).coarseCands (.E : Port)).map fun x => x.natAbs + 5 : List Nat)).getD (0,0)).1 : Int), (((bestCand (fineCands ((((bestCand (((fun s => s.wr (RXFE.ACQ_STATUS_ACQ_STATE (.E : Port)) (acqCdScan)) up : State).coarseCands (.E : Port)) ((((fun s => s.wr (RXFE.ACQ_STATUS_ACQ_STATE (.E : Port)) (acqCdScan)) up : State).coarseCands (.E : Port)).map fun x => x.natAbs + 5 : List Nat)).getD (0,0)).1 : Int) + 0 * ((fun s => s.wr (RXFE.ACQ_STATUS_ACQ_STATE (.E : Port)) (acqCdScan)) up : State).tclk)) ((fineCands ((((bestCand (((fun s => s.wr (RXFE.ACQ_STATUS_ACQ_STATE (.E : Port)) (acqCdScan)) up : State).coarseCands (.E : Port)) ((((fun s => s.wr (RXFE.ACQ_STATUS_ACQ_STATE (.E : Port)) (acqCdScan)) up : State).coarseCands (.E : Port)).map fun x => x.natAbs + 5 : List Nat)).getD (0,0)).1 : Int) + 0 * ((fun s => s.wr (RXFE.ACQ_STATUS_ACQ_STATE (.E : Port)) (acqCdScan)) up : State).tclk)).map fun x => x.natAbs : List Nat)).getD (0,0)).1 : Int), (((bestCand (((fun s => s.wr (RXFE.ACQ_STATUS_ACQ_STATE (.E : Port)) (acqCdScan)) up : State).coarseCands (.E : Port)) ((((fun s => s.wr (RXFE.ACQ_STATUS_ACQ_STATE (.E : Port)) (acqCdScan)) up : State).coarseCands (.E : Port)).map fun x => x.natAbs + 5 : List Nat)).getD (0,0)).2 : Nat), (((bestCand (fineCands ((((bestCand (((fun s => s.wr (RXFE.ACQ_STATUS_ACQ_STATE (.E : Port)) (acqCdScan)) up : State).coarseCands (.E : Port)) ((((fun s => s.wr (RXFE.ACQ_STATUS_ACQ_STATE (.E : Port)) (acqCdScan)) up : State).coarseCands (.E : Port)).map fun x => x.natAbs + 5 : List Nat)).getD (0,0)).1 : Int) + 0 * ((fun s => s.wr (RXFE.ACQ_STATUS_ACQ_STATE (.E : Port)) (acqCdScan)) up : State).tclk)) ((fineCands ((((bestCand (((fun s => s.wr (RXFE.ACQ_STATUS_ACQ_STATE (.E : Port)) (acqCdScan)) up : State).coarseCands (.E : Port)) ((((fun s => s.wr (RXFE.ACQ_STATUS_ACQ_STATE (.E : Port)) (acqCdScan)) up : State).coarseCands (.E : Port)).map fun x => x.natAbs + 5 : List Nat)).getD (0,0)).1 : Int) + 0 * ((fun s => s.wr (RXFE.ACQ_STATUS_ACQ_STATE (.E : Port)) (acqCdScan)) up : State).tclk)).map fun x => x.natAbs : List Nat)).getD (0,0)).2 : Nat), ((fun s => s.wr (RXFE.ACQ_STATUS_ACQ_STATE (.E : Port)) (acqCdScan)) up : State), by decide +kernel⟩,
   ⟨(.E : Port), ((((fun s => s.wr (RXFE.ACQ_STATUS_ACQ_STATE (.E : Port)) (acqCdScan)) up : State).coarseCands (.E : Port)).map fun x => x.natAbs % 2 : List Nat), ((fineCands ((((bestCand (((fun s => s.wr (RXFE.ACQ_STATUS_ACQ_STATE (.E : Port)) (acqCdScan)) up : State).coarseCands (.E : Port)) ((((fun s => s.wr (RXFE.ACQ_STATUS_ACQ_STATE (.E : Port)) (acqCdScan)) up : State).coarseCands (.E : Port)).map fun x => x.natAbs % 2 : List Nat)).getD (0,0)).1 : Int) + 0 * ((fun s => s.wr (RXFE.ACQ_STATUS_ACQ_STATE (.E : Port)) (acqCdScan)) up : State).tclk)).map fun x => x.natAbs % 3 : List Nat), (((bestCand (((fun s => s.wr (RXFE.ACQ_STATUS_ACQ_STATE (.E : Port)) (acqCdScan)) up : State).coarseCands (.E : Port)) ((((fun s => s.wr (RXFE.ACQ_STATUS_ACQ_STATE (.E : Port)) (acqCdScan)) up : State).coarseCands (.E : Port)).map fun x => x.natAbs % 2 : List Nat)).getD (0,0)).1 : Int), (((bestCand (fineCands ((((bestCand (((fun s => s.wr (RXFE.ACQ_STATUS_ACQ_STATE (.E : Port)) (acqCdScan)) up : State).coarseCands (.E : Port)) ((((fun s => s.wr (RXFE.ACQ_STATUS_ACQ_STATE (.E : Port)) (acqCdScan)) up : State).coarseCands (.E : Port)).map fun x => x.natAbs % 2 : List Nat)).getD (0,0)).1 : Int) + 0 * ((fun s => s.wr (RXFE.ACQ_STATUS_ACQ_STATE (.E : Port)) (acqCdScan)) up : State).tclk)) ((fineCands ((((bestCand (((fun s => s.wr (RXFE.ACQ_STATUS_ACQ_STATE (.E : Port)) (acqCdScan)) up : State).coarseCands (.E : Port)) ((((fun s => s.wr (RXFE.ACQ_STATUS_ACQ_STATE (.E : Port)) (acqCdScan)) up : State).coarseCands (.E : Port)).map fun x => x.natAbs % 2 : List Nat)).getD (0,0)).1 : Int) + 0 * ((fun s => s.wr (RXFE.ACQ_STATUS_ACQ_STATE (.E : Port)) (acqCdScan)) up : State).tclk)).map fun x => x.natAbs % 3 : List Nat)).getD (0,0)).1 : Int), (((bestCand (((fun s => s.wr (RXFE.ACQ_STATUS_ACQ_STATE (.E : Port)) (acqCdScan)) up : State).coarseCands (.E : Port)) ((((fun s => s.wr (RXFE.ACQ_STATUS_ACQ_STATE (.E : Port)) (acqCdScan)) up : State).coarseCands (.E : Port)).map fun x => x.natAbs % 2 : List Nat)).getD (0,0)).2 : Nat), (((bestCand (fineCands ((((bestCand (((fun s => s.wr (RXFE.ACQ_STATUS_ACQ_STATE (.E : Port)) (acqCdScan)) up : State).coarseCands (.E : Port)) ((((fun s => s.wr (RXFE.ACQ_STATUS_ACQ_STATE (.E : Port)) (acqCdScan)) up : State).coarseCands (.E : Port)).map fun x => x.natAbs % 2 : List Nat)).getD (0,0)).1 : Int) + 0 * ((fun s => s.wr (RXFE.ACQ_STATUS_ACQ_STATE (.E : Port)) (acqCdScan)) up : State).tclk)) ((fineCands ((((bestCand (((fun s => s.wr (RXFE.ACQ_STATUS_ACQ_STATE (.E : Port)) (acqCdScan)) up : State).coarseCands (.E : Port)) ((((fun s => s.wr (RXFE.ACQ_STATUS_ACQ_STATE (.E : Port)) (acqCdScan)) up : State).coarseCands (.E : Port)).map fun x => x.natAbs % 2 : List Nat)).getD (0,0)).1 : Int) + 0 * ((fun s => s.wr (RXFE.ACQ_STATUS_ACQ_STATE (.E : Port)) (acqCdScan)) up : State).tclk)).map fun x => x.natAbs % 3 : List Nat)).getD (0,0)).2 : Nat), ((fun s => s.wr (RXFE.ACQ_STATUS_ACQ_STATE (.E : Port)) (acqCdScan)) up : State), by decide +kernel⟩,
   ⟨(.E : Port), ((fun s => s.wr (RXFE.ACQ_STATUS_ACQ_STATE (.E : Port)) (acqNoCarrier)) up : State), by decide +kernel⟩,
   ⟨(.E : Port), ((fun s => s.wr (RXFE.ACQ_STATUS_ACQ_STATE (.E : Port)) (acqPreHunt)) up : State), by decide +kernel⟩,
   ⟨(.E : Port), (0 : Int), ((fun s => s.wr (RXFE.ACQ_STATUS_ACQ_STATE (.E : Port)) (acqPreTrack)) up : State), by decide +kernel⟩,
   ⟨(.E : Port), (⟨0, 0, false, false, false, none, 0, [], Mode.mk 2 true 346 2 1088 10, 0, 0, 0, 0, 0, 0, Mimo.identity, 0, 0, 0⟩ : Hop), ([] : List Hop), (1 : Nat), ((fun s => { s with rx := s.rx.upd (.E : Port) fun q_ => { q_ with marker := some (1 : Nat) } }) ((fun s => s.wr (RXFE.ACQ_STATUS_ACQ_STATE (.E : Port)) (acqEqTrain)) ((fun s => { s with rx := s.rx.upd (.E : Port) fun q_ => { q_ with hops := (⟨0, 0, false, false, false, none, 0, [], Mode.mk 2 true 346 2 1088 10, 0, 0, 0, 0, 0, 0, Mimo.identity, 0, 0, 0⟩ : Hop) :: ([] : List Hop) } }) up)) : State), by decide +kernel⟩,
   ⟨(.E : Port), (-6000 : Int), ((fun s => s.wr (RXFE.ACQ_STATUS_ACQ_STATE (.E : Port)) (acqPreTrack)) up : State), by decide +kernel⟩,
   ⟨(.E : Port), ((fun s => s.wr (RXFE.ACQ_STATUS_ACQ_STATE (.E : Port)) 5) up : State), by decide +kernel⟩⟩

/-- The hypotheses of `EqualiserHopsAndRotation` are met, case by case. -/
theorem witness_equaliserHopsAndRotation :
    (∃ (p : Port) (s : State), s.Clocked ∧ s.eqMayRotate p = true) ∧
    (∃ (p : Port) (s : State), s.Clocked ∧ s.eqMayRotate p = false) ∧
    (∃ (p : Port) (s : State), s.Clocked ∧ s.acqSt p ≠ acqIdle ∧ (s.rx.get p).rotateDue = true ∧ s.eqMayRotate p = true ∧ s.eqRotateWaits p = false ∧ (s.rx.get p).nextHop % 16 = (s.rx.get p).nextLane) ∧
    (∃ (p : Port) (s : State), s.Clocked ∧ s.acqSt p ≠ acqIdle ∧ (s.rx.get p).rotateDue = true ∧ (s.block (.eqCluster p)).spares (.eqCluster p) ≠ 0 ∧ ((s.rx.get p).nextHop % 16 ≠ (s.rx.get p).nextLane ∨ s.eqRotateWaits p = true) ∧ (s.rx.get p).exchange.contains (s.rx.get p).nextHop = false) ∧
    (∃ (p : Port) (s : State), s.Clocked ∧ s.acqSt p ≠ acqIdle ∧ (s.rx.get p).rotateDue = false ∧ (s.rx.get p).exchange.contains (s.rx.get p).nextHop = false) ∧
    (∃ (p : Port) (s : State), s.Clocked ∧ s.acqSt p ≠ acqIdle ∧ (s.rx.get p).rotateDue = false ∧ (s.rx.get p).exchange.contains (s.rx.get p).nextHop = true ∧ s.rd (RXEQ.CLU_ROT_CHRYS_CLU p) ≠ 31 ∧ s.on (RXEQ.CLU_ROT_SPARE_BUSY p) = false ∧ (s.block (.eqCluster p)).testing.contains (s.rd (RXEQ.CLU_ROT_CHRYS_CLU p)) = false) ∧
    (∃ (p : Port) (s : State), s.Clocked ∧ s.acqSt p = acqIdle) ∧
    (∃ (p : Port) (s : State), s.Clocked ∧ (s.rx.get p).hops = []) ∧
    (∃ (p : Port) (h : Hop) (rest : List Hop) (s : State), s.Clocked ∧ (s.rx.get p).hops = h :: rest) ∧
    (∃ (p : Port) (h : Hop) (s : State), s.Clocked ∧ s.on (RXEQ.EQ_CFG_FREEZE_EQ p) = false ∧ (s.rx.get p).mimoFrozen = false ∧ acqTiming ≤ s.acqSt p ∧ s.coefHop p = some h) ∧
    (∃ (p : Port) (s : State), s.Clocked ∧ (s.on (RXEQ.EQ_CFG_FREEZE_EQ p) = true ∨ (s.rx.get p).mimoFrozen = true ∨ s.acqSt p < acqTiming ∨ s.coefHop p = none)) :=
  ⟨⟨(.E : Port), ((fun s => (s.testPassed (.eqCluster (.E : Port)) 16).wr (RXEQ.CLU_ROT_SPARE_BUSY (.E : Port)) 1) up : State), by decide +kernel⟩,
   ⟨(.E : Port), (up : State), by decide +kernel⟩,
   ⟨(.E : Port), ((fun s => (s.testPassed (.eqCluster (.E : Port)) 16).wr (RXEQ.CLU_ROT_SPARE_BUSY (.E : Port)) 0) ((fun s => { s with rx := s.rx.upd (.E : Port) fun q_ => { q_ with rotateDue := true } }) ((fun s => s.wr (RXFE.ACQ_STATUS_ACQ_STATE (.E : Port)) ((if (acqIdle) = 0 then 9 else 0))) up)) : State), by decide +kernel⟩,
   ⟨(.E : Port), ((fun s => s.onRx (.E : Port) fun x => { x with nextHop := 3, nextLane := 5 }) ((fun s => { s with rx := s.rx.upd (.E : Port) fun q_ => { q_ with rotateDue := true } }) ((fun s => s.wr (RXFE.ACQ_STATUS_ACQ_STATE (.E : Port)) ((if (acqIdle) = 0 then 9 else 0))) up)) : State), by decide +kernel⟩,
   ⟨(.E : Port), ((fun s => s.wr (RXFE.ACQ_STATUS_ACQ_STATE (.E : Port)) ((if (acqIdle) = 0 then 9 else 0))) up : State), by decide +kernel⟩,
   ⟨(.E : Port), ((fun s => s.onRx (.E : Port) fun r => { r with exchange := [r.nextHop] }) ((fun s => s.wr (RXFE.ACQ_STATUS_ACQ_STATE (.E : Port)) ((if (acqIdle) = 0 then 9 else 0))) up) : State), by decide +kernel⟩,
   ⟨(.E : Port), (up : State), by decide +kernel⟩,
   ⟨(.E : Port), (up : State), by decide +kernel⟩,
   ⟨(.E : Port), (⟨0, 0, false, false, false, none, 0, [], Mode.mk 2 true 346 2 1088 10, 0, 0, 0, 0, 0, 0, Mimo.identity, 0, 0, 0⟩ : Hop), ([] : List Hop), ((fun s => { s with rx := s.rx.upd (.E : Port) fun q_ => { q_ with hops := (⟨0, 0, false, false, false, none, 0, [], Mode.mk 2 true 346 2 1088 10, 0, 0, 0, 0, 0, 0, Mimo.identity, 0, 0, 0⟩ : Hop) :: ([] : List Hop) } }) up : State), by decide +kernel⟩,
   ⟨(.E : Port), ({ num := 0, cluster := 0, late := false, erased := false, redo := false, acted := none, erasedSamples := 0, block := [], mode := Mode.mk 2 true 346 2 1088 10, carrier := 0, dHat := 0, first := 0, count := 0, base := 0, stage := 3, mimo := Mimo.identity, theta := 0, rate := 0, step := 0 } : Hop), ((fun s => (s.wr (RXFE.ACQ_STATUS_ACQ_STATE (.E : Port)) acqAcquired).onRx (.E : Port) fun x => { x with hops := [({ num := 0, cluster := 0, late := false, erased := false, redo := false, acted := none, erasedSamples := 0, block := [], mode := Mode.mk 2 true 346 2 1088 10, carrier := 0, dHat := 0, first := 0, count := 0, base := 0, stage := 3, mimo := Mimo.identity, theta := 0, rate := 0, step := 0 } : Hop)], nextHop := 20 }) up : State), by decide +kernel⟩,
   ⟨(.E : Port), (up : State), by decide +kernel⟩⟩

/-- The hypotheses of `CalibrationRunsAndTakeovers` are met, case by case. -/
theorem witness_calibrationRunsAndTakeovers :
    (∃ (tx : Bool) (p : Port) (c : Fin 4) (pos : Fin 256) (u : Nat) (s : State), s.Clocked ∧ (s.conv tx p c).flagged.contains pos.val = true ∧ (s.conv tx p c).deferred.contains pos.val = false ∧ ((s.conv tx p c).idle.find? fun u => (s.conv tx p c).canServe pos u) = some u ∧ (s.conv tx p c).unitAt pos.val < 512) ∧
    (∃ (tx : Bool) (p : Port) (c : Fin 4) (pos : Fin 256) (s : State), s.Clocked ∧ (s.conv tx p c).flagged.contains pos.val = true ∧ (s.conv tx p c).deferred.contains pos.val = false ∧ ((s.conv tx p c).idle.find? fun u => (s.conv tx p c).canServe pos u) = none ∧ s.rd (chrysField tx p c) ≠ noUnit ∧ (s.conv tx p c).canServe pos (s.rd (chrysField tx p c)) = true) ∧
    (∃ (tx : Bool) (p : Port) (c : Fin 4) (pos : Fin 256) (s : State), s.Clocked ∧ ((s.conv tx p c).flagged.contains pos.val = false ∨ (s.conv tx p c).deferred.contains pos.val = true)) ∧
    (∃ (s : State), s.Clocked) ∧
    (∃ (r : Requester) (p : Port) (s : State), s.Takes r (33 + 8 * p.toNat) 0x040 ∧ s.on (RXCONV.CAL_CFG_CAL_HOLD p) = false ∧ s.on (RXCONV.CAL_STATUS_RUN_ACTIVE p) = false) ∧
    (∃ (r : Requester) (p : Port) (s : State), s.Takes r (33 + 8 * p.toNat) 0x040 ∧ s.on (RXCONV.CAL_CFG_CAL_HOLD p) = false ∧ s.on (RXCONV.CAL_STATUS_RUN_ACTIVE p) = true) ∧
    (∃ (r : Requester) (p : Port) (s : State), s.Takes r (34 + 8 * p.toNat) 0x040 ∧ (s.on (RXCONV.CAL_STATUS_RUN_ACTIVE p) = false ∨ s.comparing p = true)) ∧
    (∃ (r : Requester) (p : Port) (s : State), s.Takes r (34 + 8 * p.toNat) 0x040 ∧ s.on (RXCONV.CAL_STATUS_RUN_ACTIVE p) = true ∧ s.comparing p = false) ∧
    (∃ (p : Port) (s : State), s.Clocked ∧ s.on (RXCONV.CAL_STATUS_RUN_ACTIVE p) = true ∧ (s.calRun.get p).skewing = true ∧ s.on (RXFE.ACQ_STATUS_CARRIER p) = false) ∧
    (∃ (p : Port) (s : State), s.Clocked ∧ s.on (RXCONV.CAL_STATUS_RUN_ACTIVE p) = true ∧ ((s.calRun.get p).rotating = false ∨ s.rotationOver p = true) ∧ (s.calRun.get p).skewing = false ∧ (s.calRun.get p).stopping = false ∧ s.on (RXCONV.CAL_STATUS_RUN_PENDING p) = false) ∧
    (∃ (p : Port) (s : State), s.Clocked ∧ s.on (RXCONV.CAL_STATUS_RUN_ACTIVE p) = true ∧ ((s.calRun.get p).rotating = false ∨ s.rotationOver p = true) ∧ (s.calRun.get p).skewing = false ∧ (s.calRun.get p).stopping = false ∧ s.on (RXCONV.CAL_STATUS_RUN_PENDING p) = true ∧ s.on (RXCONV.CAL_CFG_CAL_HOLD p) = false) ∧
    (∃ (tx : Bool) (p : Port) (c : Fin 4) (u : Nat) (rest : List Nat) (s : State), s.Clocked ∧ s.rd (chrysField tx p c) = noUnit ∧ (s.conv tx p c).idle = u :: rest ∧ (s.conv tx p c).compare = none ∧ (s.conv tx p c).returning = []) ∧
    (∃ (tx : Bool) (p : Port) (c : Fin 4) (m : CalMeas) (s : State), s.Clocked ∧ s.rd (chrysField tx p c) ≠ noUnit ∧ (s.conv tx p c).compare = none ∧ (s.conv tx p c).returning = [] ∧ (s.conv tx p c).classing = false ∧ (s.calRun.get p).rotating = true ∧ m.selfTest = true ∧ plausible (s.plaus p (RXCONV.CAL_LIMITS_OFFSET_PLAUS p)) (Tab.get 0 (s.conv tx p c).offset (s.rd (chrysField tx p c))) m.offset = true ∧ plausible (s.plaus p (RXCONV.CAL_LIMITS_GAIN_PLAUS p)) (Tab.get 0 (s.conv tx p c).gain (s.rd (chrysField tx p c))) m.gain = true) ∧
    (∃ (tx : Bool) (p : Port) (c : Fin 4) (diff u pos : Nat) (s : State), s.Clocked ∧ (s.conv tx p c).compare = some (u, pos) ∧ diff ≤ s.rd (RXCONV.CAL_LIMITS_ECL_LIMIT p) ∧ (s.conv tx p c).flagged.contains pos = false) ∧
    (∃ (tx : Bool) (p : Port) (c : Fin 4) (diff u pos : Nat) (s : State), s.Clocked ∧ (s.conv tx p c).compare = some (u, pos) ∧ diff ≤ s.rd (RXCONV.CAL_LIMITS_ECL_LIMIT p) ∧ (s.conv tx p c).flagged.contains pos = true) ∧
    (∃ (tx : Bool) (p : Port) (c : Fin 4) (diff u pos : Nat) (s : State), s.Clocked ∧ (s.conv tx p c).compare = some (u, pos) ∧ s.rd (RXCONV.CAL_LIMITS_ECL_LIMIT p) < diff) :=
  ⟨⟨(true : Bool), (.E : Port), (1 : Fin 4), (1 : Fin 256), (((((fun s => s.setConv (true : Bool) (.E : Port) (1 : Fin 4) { s.conv (true : Bool) (.E : Port) (1 : Fin 4) with flagged := [(1 : Fin 256).val], deferred := [], idle := [260, 3, 5, 258] }) up : State).conv (true : Bool) (.E : Port) (1 : Fin 4)).idle.find? fun u => (((fun s => s.setConv (true : Bool) (.E : Port) (1 : Fin 4) { s.conv (true : Bool) (.E : Port) (1 : Fin 4) with flagged := [(1 : Fin 256).val], deferred := [], idle := [260, 3, 5, 258] }) up : State).conv (true : Bool) (.E : Port) (1 : Fin 4)).canServe (1 : Fin 256) u).getD 0 : Nat), ((fun s => s.setConv (true : Bool) (.E : Port) (1 : Fin 4) { s.conv (true : Bool) (.E : Port) (1 : Fin 4) with flagged := [(1 : Fin 256).val], deferred := [], idle := [260, 3, 5, 258] }) up : State), by decide +kernel⟩,
   ⟨(true : Bool), (.E : Port), (1 : Fin 4), (1 : Fin 256), ((fun s => (s.setConv (true : Bool) (.E : Port) (1 : Fin 4) { s.conv (true : Bool) (.E : Port) (1 : Fin 4) with flagged := [(1 : Fin 256).val], deferred := [], idle := [], lostFronts := [] }).wr (chrysField (true : Bool) (.E : Port) (1 : Fin 4)) 200) up : State), by decide +kernel⟩,
   ⟨(true : Bool), (.E : Port), (1 : Fin 4), (1 : Fin 256), (up : State), by decide +kernel⟩,
   ⟨(up : State), by decide +kernel⟩,
   ⟨(.pcie : Requester), (.E : Port), (up : State), by decide +kernel⟩,
   ⟨(.pcie : Requester), (.E : Port), ((fun s => s.wr ((RXCONV.CAL_STATUS_RUN_ACTIVE (.E : Port))) (1)) up : State), by decide +kernel⟩,
   ⟨(.pcie : Requester), (.E : Port), (up : State), by decide +kernel⟩,
   ⟨(.pcie : Requester), (.E : Port), ((fun s => s.wr ((RXCONV.CAL_STATUS_RUN_ACTIVE (.E : Port))) (1)) up : State), by decide +kernel⟩,
   ⟨(.E : Port), ((fun s => { s with calRun := s.calRun.upd (.E : Port) fun q_ => { q_ with skewing := true } }) ((fun s => s.wr ((RXCONV.CAL_STATUS_RUN_ACTIVE (.E : Port))) (1)) up) : State), by decide +kernel⟩,
   ⟨(.E : Port), ((fun s => s.wr ((RXCONV.CAL_STATUS_RUN_ACTIVE (.E : Port))) (1)) up : State), by decide +kernel⟩,
   ⟨(.E : Port), ((fun s => s.wr ((RXCONV.CAL_STATUS_RUN_PENDING (.E : Port))) (1)) ((fun s => s.wr ((RXCONV.CAL_STATUS_RUN_ACTIVE (.E : Port))) (1)) up) : State), by decide +kernel⟩,
   ⟨(true : Bool), (.E : Port), (1 : Fin 4), (1 : Nat), ([] : List Nat), ((fun s => s.setConv (true : Bool) (.E : Port) (1 : Fin 4) { s.conv (true : Bool) (.E : Port) (1 : Fin 4) with idle := (1 : Nat) :: ([] : List Nat) }) ((fun s => s.wr ((chrysField (true : Bool) (.E : Port) (1 : Fin 4))) (noUnit)) up) : State), by decide +kernel⟩,
   ⟨(true : Bool), (.E : Port), (1 : Fin 4), (⟨true, 0, 0, 0, 0⟩ : CalMeas), ((fun s => { s with calRun := s.calRun.upd (.E : Port) fun q_ => { q_ with rotating := true } }) up : State), by decide +kernel⟩,
   ⟨(true : Bool), (.E : Port), (1 : Fin 4), (1 : Nat), (1 : Nat), (1 : Nat), ((fun s => s.setConv (true : Bool) (.E : Port) (1 : Fin 4) { s.conv (true : Bool) (.E : Port) (1 : Fin 4) with compare := some ((1 : Nat), (1 : Nat)) }) up : State), by decide +kernel⟩,
   ⟨(true : Bool), (.E : Port), (1 : Fin 4), (1 : Nat), (1 : Nat), (1 : Nat), ((fun s => s.setConv (true : Bool) (.E : Port) (1 : Fin 4) { s.conv (true : Bool) (.E : Port) (1 : Fin 4) with flagged := [(1 : Nat)] }) ((fun s => s.setConv (true : Bool) (.E : Port) (1 : Fin 4) { s.conv (true : Bool) (.E : Port) (1 : Fin 4) with compare := some ((1 : Nat), (1 : Nat)) }) up) : State), by decide +kernel⟩,
   ⟨(true : Bool), (.E : Port), (1 : Fin 4), (((fun s => s.setConv (true : Bool) (.E : Port) (1 : Fin 4) { s.conv (true : Bool) (.E : Port) (1 : Fin 4) with compare := some ((1 : Nat), (1 : Nat)) }) up : State).rd (RXCONV.CAL_LIMITS_ECL_LIMIT (.E : Port)) + 1 : Nat), (1 : Nat), (1 : Nat), ((fun s => s.setConv (true : Bool) (.E : Port) (1 : Fin 4) { s.conv (true : Bool) (.E : Port) (1 : Fin 4) with compare := some ((1 : Nat), (1 : Nat)) }) up : State), by decide +kernel⟩⟩

/-- The hypotheses of `CodewordsThroughTheDecoderPool` are met, case by case. -/
theorem witness_codewordsThroughTheDecoderPool :
    (∃ (p : Port) (s : State), s.Clocked ∧ MayDispatch s p ∧ (s.fec.get p).rotateDue = false) ∧
    (∃ (p : Port) (u : Nat) (s : State), s.Clocked ∧ MayDispatch s p ∧ (s.fec.get p).rotateDue = true ∧ (s.fec.get p).nextSlot = (s.fec.get p).nextCw % 96 ∧ s.testedSpare p = some u) ∧
    (∃ (p : Port) (s : State), s.Clocked ∧ ¬ MayDispatch s p) ∧
    (∃ (p : Port) (s : State), s.Clocked ∧ (∀ c ∈ (s.fec.get p).store, c.status ≠ .waiting)) ∧
    (∃ (p : Port) (c : Codeword) (rest : List Codeword) (s : State), s.Clocked ∧ (s.fec.get p).store = c :: rest ∧ (c.tail = true ∨ s.rd (RXEQ.CR_CFG_SLIP_CW p) = 0) ∧ c.status = .converged) ∧
    (∃ (p : Port) (c : Codeword) (rest : List Codeword) (s : State), s.Clocked ∧ (s.fec.get p).store = c :: rest ∧ (c.tail = true ∨ s.rd (RXEQ.CR_CFG_SLIP_CW p) = 0) ∧ c.status ≠ .converged) ∧
    (∃ (p : Port) (l : List Bool) (n : Nat) (s : State), s.Clocked ∧ 9344 ≤ (s.fec.get p).data.length ∧ ((s.fec.get p).bchBad || ((s.fec.get p).data.take 9344).any (·.2)) = false ∧ bchDecode (((s.fec.get p).data.take 9344).map (·.1)) = some (l, n)) ∧
    (∃ (p : Port) (s : State), s.Clocked ∧ 9344 ≤ (s.fec.get p).data.length ∧ (((s.fec.get p).bchBad || ((s.fec.get p).data.take 9344).any (·.2)) = true ∨ bchDecode (((s.fec.get p).data.take 9344).map (·.1)) = none)) ∧
    (∃ (p : Port) (s : State), s.Clocked ∧ (s.fec.get p).data.length < 9344) ∧
    (∃ (p : Port) (s : State), s.Clocked ∧ (s.testedSpare p).isSome = true) ∧
    (∃ (p : Port) (s : State), s.Clocked ∧ s.testedSpare p = none) :=
  ⟨⟨(.E : Port), ((fun s => s.onRx (.E : Port) fun r => { r with labels := List.replicate 8200 (r.labels.getD 0 default) }) ((fun s => s.wr (FEC.SF_STATUS_SF_LOCK (.E : Port)) 1) up) : State), by decide +kernel⟩,
   ⟨(.E : Port), ((((fun s => s.testPassed (.decoder (.E : Port)) 100) ((fun s => { s with spared := [] }.onFec (.E : Port) fun f => { f with rotateDue := true, nextSlot := f.nextCw % 96, store := [], repeating := [], leavingDec := [] }) ((fun s => s.onRx (.E : Port) fun r => { r with labels := List.replicate 8200 (r.labels.getD 0 default) }) ((fun s => s.wr (FEC.SF_STATUS_SF_LOCK (.E : Port)) 1) up))) : State).testedSpare (.E : Port)).getD 0 : Nat), ((fun s => s.testPassed (.decoder (.E : Port)) 100) ((fun s => { s with spared := [] }.onFec (.E : Port) fun f => { f with rotateDue := true, nextSlot := f.nextCw % 96, store := [], repeating := [], leavingDec := [] }) ((fun s => s.onRx (.E : Port) fun r => { r with labels := List.replicate 8200 (r.labels.getD 0 default) }) ((fun s => s.wr (FEC.SF_STATUS_SF_LOCK (.E : Port)) 1) up))) : State), by decide +kernel⟩,
   ⟨(.E : Port), (up : State), by decide +kernel⟩,
   ⟨(.E : Port), (up : State), by decide +kernel⟩,
   ⟨(.E : Port), ({ (⟨0, 0, 0, 20, .decoding, 0, 0, false, false, false, false, [], [], 1, 0, Mode.mk 2 true 346 2 1088 10⟩ : Codeword) with status := .converged, tail := true } : Codeword), ([] : List Codeword), ((fun s => s.onFec (.E : Port) fun f => { f with store := ({ (⟨0, 0, 0, 20, .decoding, 0, 0, false, false, false, false, [], [], 1, 0, Mode.mk 2 true 346 2 1088 10⟩ : Codeword) with status := .converged, tail := true } : Codeword) :: ([] : List Codeword) }) up : State), by decide +kernel⟩,
   ⟨(.E : Port), (⟨0, 0, 0, 20, .decoding, 0, 0, false, false, false, false, [], [], 1, 0, Mode.mk 2 true 346 2 1088 10⟩ : Codeword), ([] : List Codeword), ((fun s => s.wr (RXEQ.CR_CFG_SLIP_CW (.E : Port)) 0) ((fun s => { s with fec := s.fec.upd (.E : Port) fun q_ => { q_ with store := (⟨0, 0, 0, 20, .decoding, 0, 0, false, false, false, false, [], [], 1, 0, Mode.mk 2 true 346 2 1088 10⟩ : Codeword) :: ([] : List Codeword) } }) up) : State), by decide +kernel⟩,
   ⟨.E, List.replicate 9344 false, 0, bchWaits, by decide +kernel, bchWaits_length, bchWaits_unmarked, bchWaits_decodes⟩,
   ⟨(.E : Port), ((fun s => s.onFec (.E : Port) fun f => { f with data := (List.replicate 9360 (false, false)).set (s.tclk % 9000) (true, true) }) up : State), by decide +kernel⟩,
   ⟨(.E : Port), (up : State), by decide +kernel⟩,
   ⟨(.E : Port), ((fun s => s.testPassed (.decoder (.E : Port)) 100) up : State), by decide +kernel⟩,
   ⟨(.E : Port), (up : State), by decide +kernel⟩⟩

/-- The hypotheses of `FramesSent` are met, case by case. -/
theorem witness_framesSent :
    (∃ (s : State), s.Clocked) ∧
    (∃ (s : State), s.rclkStopped = true) ∧
    (∃ (r : Requester) (p : Port) (s : State), s.Takes r (19 + p.toNat) 0x044) ∧
    (∃ (p q : Port) (c : Nat) (body : List Nat) (s : State), s.Clocked ∧ (s.dvInbox.find? fun m => m.1 = p) = some (q, c, body)) :=
  ⟨⟨(up : State), by decide +kernel⟩,
   ⟨((fun s => s.wr CK_SYN.SYN_STATUS_RCLK_OK 0) up : State), by decide +kernel⟩,
   ⟨(.pcie : Requester), (.E : Port), (up : State), by decide +kernel⟩,
   ⟨(.E : Port), ((.E : Port) : Port), (1 : Nat), ([] : List Nat), ((fun s => { s with dvInbox := [((.E : Port), (1 : Nat), ([] : List Nat))] }) up : State), by decide +kernel⟩⟩

/-- The hypotheses of `FramesReceived` are met, case by case. -/
theorem witness_framesReceived :
    (∃ (p : Port) (s : State), s.Clocked ∧ s.on (FEC.SF_STATUS_SF_LOCK p) = false) ∧
    (∃ (p : Port) (x : RxFrame) (k : Nat) (s : State), s.Clocked ∧ s.on (FEC.SF_STATUS_SF_LOCK p) = true ∧ s.on (HB_FRAME.FRM_STATUS_SYNC p) = false ∧ (huntOver (s.rxMode p).frameLen (min x.stretch ((s.fec.get p).line.length - 63)) (s.frame.get p).huntPos ((s.fec.get p).line.map (·.bit)) (s.frame.get p).cands).2 = some k) ∧
    (∃ (p : Port) (x : RxFrame) (c : List Nat) (s : State), s.Clocked ∧ s.on (FEC.SF_STATUS_SF_LOCK p) = true ∧ s.on (HB_FRAME.FRM_STATUS_SYNC p) = false ∧ huntOver (s.rxMode p).frameLen (min x.stretch ((s.fec.get p).line.length - 63)) (s.frame.get p).huntPos ((s.fec.get p).line.map (·.bit)) (s.frame.get p).cands = (c, none)) ∧
    (∃ (p : Port) (s : State), s.Clocked ∧ s.on (FEC.SF_STATUS_SF_LOCK p) = true ∧ s.on (HB_FRAME.FRM_STATUS_SYNC p) = true ∧ (s.frame.get p).lenRx = (s.rxMode p).frameLen ∧ (s.fec.get p).line.length < (s.rxMode p).frameLen) ∧
    (∃ (p : Port) (x : RxFrame) (s : State), s.Clocked ∧ FrameDue s p ∧ (s.frame.get p).loadFc = false ∧ ¬ FawMissed s p x ∧ FrameGood s p x ∧ fieldAt (nextFrameIn s p x).bits 64 48 = ((s.frame.get p).fcRx + 1) % 2 ^ 48) ∧
    (∃ (p : Port) (x : RxFrame) (s : State), s.Clocked ∧ FrameDue s p ∧ s.rd (HB_FRAME.FRM_STATUS_MISSES p) < 3 ∧ (FawMissed s p x ∨ ¬ FrameGood s p x)) ∧
    (∃ (p : Port) (x : RxFrame) (s : State), s.Clocked ∧ FrameDue s p ∧ s.rd (HB_FRAME.FRM_STATUS_MISSES p) = 3 ∧ FawMissed s p x) ∧
    (∃ (p : Port) (s : State), s.Clocked ∧ s.on (HB_FRAME.FRM_STATUS_OOF p) = true) ∧
    (∃ (p : Port) (s : State), s.Clocked ∧ s.on (HB_FRAME.FRM_STATUS_OOF p) = false) ∧
    (∃ (p : Port) (s : State), s.Clocked ∧ s.acqSt p = acqAcquired ∧ s.on (HB_FRAME.FRM_STATUS_OOF p) = true ∧ s.on (HB_FRAME.FRM_STATUS_LOF p) = false) ∧
    (∃ (p : Port) (s : State), s.Clocked ∧ (s.acqSt p ≠ acqAcquired ∨ s.on (HB_FRAME.FRM_STATUS_OOF p) = false)) ∧
    (∃ (p : Port) (s : State), s.Clocked ∧ s.on (HB_FRAME.FRM_STATUS_SYNC p) = true ∧ s.on (HB_FRAME.FRM_STATUS_LOF p) = true) ∧
    (∃ (p : Port) (s : State), s.Clocked ∧ (s.on (HB_FRAME.FRM_STATUS_SYNC p) = false ∨ s.on (HB_FRAME.FRM_STATUS_LOF p) = false)) :=
  ⟨⟨(.E : Port), (up : State), by decide +kernel⟩,
   ⟨(.E : Port), ({ (⟨0, ⟨0, []⟩⟩ : RxFrame) with stretch := 100 } : RxFrame), (5 : Nat), ((fun s => s.onFrame (.E : Port) fun f => { f with huntPos := 3000, cands := [3005 - smallLen] }) ((fun s => (lineUp s (.E : Port) (List.replicate 5 ⟨false, false, false⟩ ++ lineFrameOf 77 smallLen)).wr (HB_FRAME.FRM_STATUS_SYNC (.E : Port)) 0) up) : State), by decide +kernel⟩,
   ⟨(.E : Port), ({ (⟨0, ⟨0, []⟩⟩ : RxFrame) with stretch := 100 } : RxFrame), ((huntOver (((fun s => (lineUp s (.E : Port) (List.replicate 5 ⟨false, false, false⟩ ++ lineFrameOf 77 smallLen)).wr (HB_FRAME.FRM_STATUS_SYNC (.E : Port)) 0) up : State).rxMode (.E : Port)).frameLen (min ({ (⟨0, ⟨0, []⟩⟩ : RxFrame) with stretch := 100 } : RxFrame).stretch ((((fun s => (lineUp s (.E : Port) (List.replicate 5 ⟨false, false, false⟩ ++ lineFrameOf 77 smallLen)).wr (HB_FRAME.FRM_STATUS_SYNC (.E : Port)) 0) up : State).fec.get (.E : Port)).line.length - 63)) (((fun s => (lineUp s (.E : Port) (List.replicate 5 ⟨false, false, false⟩ ++ lineFrameOf 77 smallLen)).wr (HB_FRAME.FRM_STATUS_SYNC (.E : Port)) 0) up : State).frame.get (.E : Port)).huntPos ((((fun s => (lineUp s (.E : Port) (List.replicate 5 ⟨false, false, false⟩ ++ lineFrameOf 77 smallLen)).wr (HB_FRAME.FRM_STATUS_SYNC (.E : Port)) 0) up : State).fec.get (.E : Port)).line.map (·.bit)) (((fun s => (lineUp s (.E : Port) (List.replicate 5 ⟨false, false, false⟩ ++ lineFrameOf 77 smallLen)).wr (HB_FRAME.FRM_STATUS_SYNC (.E : Port)) 0) up : State).frame.get (.E : Port)).cands).1 : List Nat), ((fun s => (lineUp s (.E : Port) (List.replicate 5 ⟨false, false, false⟩ ++ lineFrameOf 77 smallLen)).wr (HB_FRAME.FRM_STATUS_SYNC (.E : Port)) 0) up : State), by decide +kernel⟩,
   ⟨(.E : Port), ((fun s => lineUp s (.E : Port) (lineFrameOf 77 500)) up : State), by decide +kernel⟩,
   ⟨(.E : Port), (⟨0, ⟨0, []⟩⟩ : RxFrame), ((fun s => lineUp s (.E : Port) (lineFrameOf (((s.frame.get (.E : Port)).fcRx + 1) % 2 ^ 48) smallLen)) up : State), by decide +kernel⟩,
   ⟨(.E : Port), (⟨0, ⟨0, []⟩⟩ : RxFrame), ((fun s => lineUp s (.E : Port) ((lineFrameOf (((s.frame.get (.E : Port)).fcRx + 1) % 2 ^ 48) smallLen).set 500 ⟨false, true, false⟩)) up : State), by decide +kernel⟩,
   ⟨(.E : Port), (⟨0, ⟨0, []⟩⟩ : RxFrame), ((fun s => s.wr (HB_FRAME.FRM_STATUS_MISSES (.E : Port)) 3) ((fun s => lineUp s (.E : Port) (List.replicate 11 ⟨true, false, false⟩ ++ lineFrameOf (((s.frame.get (.E : Port)).fcRx + 1) % 2 ^ 48) smallLen)) up) : State), by decide +kernel⟩,
   ⟨(.E : Port), (up : State), by decide +kernel⟩,
   ⟨(.E : Port), ((fun s => s.wr ((HB_FRAME.FRM_STATUS_OOF (.E : Port))) (0)) up : State), by decide +kernel⟩,
   ⟨(.E : Port), ((fun s => s.wr (RXFE.ACQ_STATUS_ACQ_STATE (.E : Port)) (acqAcquired)) up : State), by decide +kernel⟩,
   ⟨(.E : Port), (up : State), by decide +kernel⟩,
   ⟨(.E : Port), ((fun s => s.wr ((HB_FRAME.FRM_STATUS_LOF (.E : Port))) (1)) ((fun s => s.wr ((HB_FRAME.FRM_STATUS_SYNC (.E : Port))) (1)) up) : State), by decide +kernel⟩,
   ⟨(.E : Port), (up : State), by decide +kernel⟩⟩

/-- The hypotheses of `SecondsAndProtectedUnits` are met, case by case. -/
theorem witness_secondsAndProtectedUnits :
    (∃ (p : Port) (n : Nat) (s : State), s.Clocked ∧ (s.toInstant n).pmDue p n = true ∧ s.on (HB_FRAME.PM_CFG_PM_EN p) = true) ∧
    (∃ (p : Port) (n : Nat) (s : State), s.Clocked ∧ (s.toInstant n).pmDue p n = true ∧ s.on (HB_FRAME.PM_CFG_PM_EN p) = false) ∧
    (∃ (p : Port) (n : Nat) (s : State), s.Clocked ∧ (s.toInstant n).pmDue p n = false) ∧
    (∃ (ch : Fin 192) (s : State), s.Clocked ∧ s.dpEn ch.val = false) ∧
    (∃ (ch : Fin 192) (s : State), s.Clocked ∧ s.dpEn ch.val = true ∧ s.on (HB_PROT.DP_CFG_FORCE_SEL ch.val) = false ∧ s.on (HB_PROT.DP_STATUS_SINGLE ch.val) = false) ∧
    (∃ (ch : Fin 192) (s : State), s.Clocked ∧ s.dpEn ch.val = true ∧ s.on (HB_PROT.DP_CFG_FORCE_SEL ch.val) = false ∧ s.on (HB_PROT.DP_STATUS_SINGLE ch.val) = true) ∧
    (∃ (ch : Fin 192) (s : State), s.Clocked ∧ s.dpEn ch.val = true ∧ s.on (HB_PROT.DP_CFG_FORCE_SEL ch.val) = true) :=
  ⟨⟨(.E : Port), (1 : Nat), ((fun s => s.onPmClock (.E : Port) fun k => { k with sec := 1000000, ticks := 1500 }) up : State), by decide +kernel⟩,
   ⟨(.E : Port), (1 : Nat), ((fun s => s.onPmClock (.E : Port) fun k => { k with sec := 1000000, ticks := 1500 }) ((fun s => s.wr ((HB_FRAME.PM_CFG_PM_EN (.E : Port))) (0)) up) : State), by decide +kernel⟩,
   ⟨(.E : Port), (1 : Nat), (up : State), by decide +kernel⟩,
   ⟨(1 : Fin 192), (up : State), by decide +kernel⟩,
   ⟨(1 : Fin 192), ((fun s => s.wr (HB_PROT.DP_CFG_DP_EN (1 : Fin 192).val) 1) up : State), by decide +kernel⟩,
   ⟨(1 : Fin 192), ((fun s => s.wr (HB_PROT.DP_CFG_DP_EN (1 : Fin 192).val) 1) ((fun s => s.wr ((HB_PROT.DP_STATUS_SINGLE (1 : Fin 192).val)) (1)) up) : State), by decide +kernel⟩,
   ⟨(1 : Fin 192), ((fun s => s.wr (HB_PROT.DP_CFG_DP_EN (1 : Fin 192).val) 1) ((fun s => s.wr ((HB_PROT.DP_CFG_FORCE_SEL (1 : Fin 192).val)) (1)) up) : State), by decide +kernel⟩⟩

/-- The hypotheses of `HostLanesFollowTheirReceivers` are met, case by case. -/
theorem witness_hostLanesFollowTheirReceivers :
    (∃ (r : Requester) (n : Fin 24) (s : State), s.Takes r 27 (0x040 + 0x20 * n.val) ∧ s.totalHeadroom (s.laneClient n.val) + s.rd HB_BUF.BUF_CFG_DROP_RESERVE ≤ bufferCells) ∧
    (∃ (r : Requester) (n : Fin 24) (s : State), s.Takes r 27 (0x040 + 0x20 * n.val) ∧ bufferCells < s.totalHeadroom (s.laneClient n.val) + s.rd HB_BUF.BUF_CFG_DROP_RESERVE) ∧
    (∃ (r : Requester) (n : Fin 24) (s : State), s.Takes r 27 (0x040 + 0x20 * n.val)) ∧
    (∃ (n : Fin 24) (s : State), s.Clocked ∧ s.laneUsed n.val = true ∧ s.on (HL_LANE.RX_EQ_AUTO n.val) = true) ∧
    (∃ (n : Fin 24) (s : State), s.Clocked ∧ s.laneUsed n.val = false) ∧
    (∃ (n : Fin 24) (s : State), s.Clocked ∧ s.laneUsed n.val = true ∧ s.on (HL_LANE.RX_EQ_AUTO n.val) = false) ∧
    (∃ (n : Fin 24) (s : State), s.Clocked ∧ (s.hostLane n.val).sweeping = true) ∧
    (∃ (n : Fin 24) (s : State), s.Clocked ∧ (s.hostLane n.val).sweeping = false) ∧
    (∃ (n : Fin 24) (s : State), s.Clocked ∧ s.on (HL_LANE.LANE_STATUS_CDR_LOCK n.val) = true) ∧
    (∃ (n : Fin 24) (s : State), s.Clocked ∧ s.on (HL_LANE.LANE_STATUS_CDR_LOCK n.val) = false) ∧
    (∃ (r : Requester) (n : Fin 24) (s : State), s.Takes r 27 (0x050 + 0x20 * n.val)) ∧
    (∃ (n : Fin 24) (s : State), s.Clocked ∧ s.on (HL_LANE.PRBS_CFG_CHK_EN n.val) = true ∧ s.on (HL_LANE.LANE_STATUS_CDR_LOCK n.val) = true ∧ s.on (HL_LANE.PRBS_CFG_GEN_EN n.val) = false ∧ s.laneUsed n.val = true) ∧
    (∃ (n : Fin 24) (levels : List (Fin 4)) (s : State), s.Clocked ∧ LaneBlockDue s n levels ∧ (s.hostLane n.val).rxBlocks.length < 79) ∧
    (∃ (n : Fin 24) (s : State), s.Clocked ∧ s.on (HL_LANE.PRBS_CFG_GEN_EN n.val) = true ∧ s.laneOn n.val = true ∧ s.laneUsed n.val = true) ∧
    (∃ (n : Fin 24) (s : State), s.Clocked ∧ s.on (HL_LANE.PRBS_CFG_GEN_EN n.val) = false ∧ (s.laneUsed n.val = false ∨ s.on (HL_LANE.LANE_STATUS_CDR_LOCK n.val) = false ∨ (s.on (HL_LANE.PRBS_CFG_CHK_EN n.val) = false ∧ s.clientIanen n.val = false))) ∧
    (∃ (k : Fin 24) (s : State), s.Clocked ∧ s.clientIanen k.val = false ∧ s.clientWhole k.val = true) ∧
    (∃ (k : Fin 24) (s : State), s.Clocked ∧ (s.clientIanen k.val = true ∨ s.clientWhole k.val = false)) ∧
    (∃ (n : Fin 24) (s : State), s.Clocked ∧ s.clientIanen n.val = false) ∧
    (∃ (n : Fin 24) (s : State), s.Clocked ∧ s.clientIanen n.val = true ∧ s.laneOn n.val = true ∧ s.on (HL_LANE.PRBS_CFG_GEN_EN n.val) = false) ∧
    (∃ (n : Fin 24) (levels : List (Fin 4)) (w : List Nat) (k : Nat) (s : State), s.Clocked ∧ LaneBlockDue s n levels ∧ (s.hostLane n.val).rxBlocks.length = 79 ∧ (s.hostLane n.val).align = inFrameLock ∧ rsDecode (laneCodeword ((s.hostLane n.val).rxBlocks ++ [laneBits s n levels])) = some (w, k)) ∧
    (∃ (n : Fin 24) (levels : List (Fin 4)) (s : State), s.Clocked ∧ LaneBlockDue s n levels ∧ (s.hostLane n.val).rxBlocks.length = 79 ∧ (s.hostLane n.val).align = inFrameLock ∧ rsDecode (laneCodeword ((s.hostLane n.val).rxBlocks ++ [laneBits s n levels])) = none ∧ (s.hostLane n.val).uncorr = 3) :=
  ⟨⟨(.pcie : Requester), (1 : Fin 24), (up : State), by decide +kernel⟩,
   ⟨(.pcie : Requester), (1 : Fin 24), ((fun s => s.wr HB_BUF.BUF_CFG_DROP_RESERVE 16383) up : State), by decide +kernel⟩,
   ⟨(.pcie : Requester), (1 : Fin 24), (up : State), by decide +kernel⟩,
   ⟨(1 : Fin 24), ((fun s => s.wr (HL_LANE.LANE_CFG_MODE (1 : Fin 24).val) 1) up : State), by decide +kernel⟩,
   ⟨(1 : Fin 24), (up : State), by decide +kernel⟩,
   ⟨(1 : Fin 24), ((fun s => s.wr (HL_LANE.LANE_CFG_MODE (1 : Fin 24).val) 1) ((fun s => s.wr ((HL_LANE.RX_EQ_AUTO (1 : Fin 24).val)) (0)) up) : State), by decide +kernel⟩,
   ⟨(1 : Fin 24), ((fun s => s.onLane ((1 : Fin 24).val) fun q_ => { q_ with sweeping := true }) up : State), by decide +kernel⟩,
   ⟨(1 : Fin 24), (up : State), by decide +kernel⟩,
   ⟨(1 : Fin 24), ((fun s => s.wr ((HL_LANE.LANE_STATUS_CDR_LOCK (1 : Fin 24).val)) (1)) up : State), by decide +kernel⟩,
   ⟨(1 : Fin 24), (up : State), by decide +kernel⟩,
   ⟨(.pcie : Requester), (1 : Fin 24), (up : State), by decide +kernel⟩,
   ⟨(1 : Fin 24), ((fun s => s.wr (HL_LANE.LANE_STATUS_CDR_LOCK (1 : Fin 24).val) 1) ((fun s => s.wr (HL_LANE.LANE_CFG_MODE (1 : Fin 24).val) 1) ((fun s => s.wr ((HL_LANE.PRBS_CFG_CHK_EN (1 : Fin 24).val)) (1)) up)) : State), by decide +kernel⟩,
   ⟨(1 : Fin 24), (asLevels (((fun s => laneRxUp s (1 : Fin 24).val (1 + s.tclk % 3) ((frameBlocks 0).take 2)) up : State).on (HL_LANE.LANE_CFG_RX_INV (1 : Fin 24).val)) ((frameBlocks 0).getD 2 []) : List (Fin 4)), ((fun s => laneRxUp s (1 : Fin 24).val (1 + s.tclk % 3) ((frameBlocks 0).take 2)) up : State), by decide +kernel⟩,
   ⟨(1 : Fin 24), ((fun s => s.wr (HL_LANE.LANE_CFG_ENABLE (1 : Fin 24).val) 1) ((fun s => s.wr (HL_LANE.LANE_CFG_MODE (1 : Fin 24).val) 1) ((fun s => s.wr ((HL_LANE.PRBS_CFG_GEN_EN (1 : Fin 24).val)) (1)) up)) : State), by decide +kernel⟩,
   ⟨(1 : Fin 24), (up : State), by decide +kernel⟩,
   ⟨(1 : Fin 24), ((fun s => clientUp s (1 : Fin 24).val) up : State), by decide +kernel⟩,
   ⟨(1 : Fin 24), (up : State), by decide +kernel⟩,
   ⟨(1 : Fin 24), (up : State), by decide +kernel⟩,
   ⟨(1 : Fin 24), ((fun s => laneRxUp s (1 : Fin 24).val inFrameLock []) up : State), by decide +kernel⟩,
   ⟨(0 : Fin 24), (asLevels false ((laneTail codeTail).getD 79 []) : List (Fin 4)), (laneCodeword (laneTail codeTail) : List Nat), (0 : Nat), ((fun s => laneRxUp s 0 inFrameLock ((laneTail codeTail).take 79)) up : State), by decide +kernel⟩,
   ⟨(0 : Fin 24), (asLevels false ((laneTail farTail).getD 79 []) : List (Fin 4)), ((fun s => (laneRxUp s 0 inFrameLock ((laneTail farTail).take 79)).onLane 0 fun l => { l with uncorr := 3 }) up : State), by decide +kernel⟩⟩

/-- The hypotheses of `HostPacketsAndFlowControl` are met, case by case. -/
theorem witness_hostPacketsAndFlowControl :
    (∃ (k : Fin 24) (s : State), s.Clocked ∧ (s.clientOn k.val && s.clientWhole k.val) = false) ∧
    (∃ (k : Fin 24) (s : State), s.Clocked ∧ s.clientOn k.val = true ∧ s.clientIanen k.val = true ∧ (s.hostLane k.val).due = []) ∧
    (∃ (k : Fin 24) (b : List Nat) (e : Bool) (era : Nat) (rest : List (List Nat × Bool × Nat)) (s : State), s.Clocked ∧ s.clientOn k.val = true ∧ s.clientIanen k.val = true ∧ (s.hostLane k.val).due = (b, e, era) :: rest) ∧
    (∃ (k : Fin 24) (bytes : List Byte) (ns : Nat) (first : Bool) (w : Nat) (s : State), s.Clocked ∧ s.clientOn k.val = true ∧ s.clientWhole k.val = true ∧ s.clientIanen k.val = false ∧ s.on HB_FLOW.FLOW_CTRL_ADD_EN = true ∧ 
      let b := bytes.map (·.toNat)
      64 ≤ b.length ∧ b.length ≤ s.maxFrame k.val ∧ b.drop (b.length - 4) = ethFcs (b.take (b.length - 4)) ∧ word16 b 12 ≠ 0x8808 ∧ s.vlanWord (s.vlanIndex k.val b).1 = some w ∧ bitOf w 0 = true ∧ 
      let flow := (bits w 2 14 + (if bitOf w 1 then (s.vlanIndex k.val b).2 else 0)) % 16384
      s.flowWritten flow = true ∧ s.flowValid flow = true ∧ s.flowClient flow = k.val ∧ (s.police flow b.length ns first).2 = true ∧ (s.addPlaces (s.flowChannel flow)).isEmpty = false ∧ s.cellPlan k.val (s.flowClass flow) (cellsOf b.length) = .shared) ∧
    (∃ (k : Fin 24) (bytes : List Byte) (w : Nat) (s : State), s.Clocked ∧ s.clientOn k.val = true ∧ s.clientWhole k.val = true ∧ s.clientIanen k.val = false ∧ s.on HB_FLOW.FLOW_CTRL_ADD_EN = true ∧ word16 (bytes.map (·.toNat)) 12 ≠ 0x8808 ∧ s.vlanWord (s.vlanIndex k.val (bytes.map (·.toNat))).1 = some w ∧ bitOf w 0 = false) ∧
    (∃ (ch : Fin 192) (tag : Nat) (bytes : List Nat) (err : Bool) (ss : Nat) (rest : List (Nat × List Nat × Bool × Nat)) (s : State), s.Clocked ∧ (s.dropOf ch.val).due = (tag, bytes, err, ss) :: rest ∧ s.on HB_FLOW.FLOW_CTRL_DROP_EN = true ∧ s.flowWritten tag = true ∧ s.flowValid tag = true ∧ s.flowChannel tag = ch.val ∧ s.mayStart (s.flowClient tag) (s.flowClass tag) = true ∧ ((s.clientOf (s.flowClient tag)).egress.any fun x => x.tclass == s.flowClass tag) = false) ∧
    (∃ (ch : Fin 192) (tag : Nat) (bytes : List Nat) (err : Bool) (ss : Nat) (rest : List (Nat × List Nat × Bool × Nat)) (s : State), s.Clocked ∧ (s.dropOf ch.val).due = (tag, bytes, err, ss) :: rest ∧ s.on HB_FLOW.FLOW_CTRL_DROP_EN = true ∧ s.flowWritten tag = true ∧ (s.flowValid tag = false ∨ s.flowChannel tag ≠ ch.val)) ∧
    (∃ (s : State), s.Clocked) ∧
    (∃ (k : Fin 24) (c : Fin 8) (s : State), s.Clocked ∧ (s.xoffOn k.val c.val = false ∨ s.clientSends k.val = false)) ∧
    (∃ (k : Fin 24) (c : Fin 8) (s : State), s.Clocked ∧ s.xoffOn k.val c.val = true ∧ s.clientSends k.val = true ∧ s.clientReplaced k.val = false) ∧
    (∃ (n : Fin 24) (c : Fin 8) (x : Packet) (s : State), s.Clocked ∧ s.clientIanen n.val = true ∧ s.mayStart n.val c.val = true ∧ ((s.clientOf n.val).egress.find? fun y => y.tclass == c.val) = some x ∧ x.client = n.val) ∧
    (∃ (n : Fin 24) (c : Fin 8) (s : State), s.Clocked ∧ (s.clientIanen n.val = false ∨ s.mayStart n.val c.val = false ∨ ((s.clientOf n.val).egress.find? fun y => y.tclass == c.val) = none)) :=
  ⟨⟨(1 : Fin 24), (up : State), by decide +kernel⟩,
   ⟨(1 : Fin 24), ((fun s => laneRxUp s (1 : Fin 24).val inFrameLock []) up : State), by decide +kernel⟩,
   ⟨(1 : Fin 24), ([] : List Nat), (true : Bool), (1 : Nat), ([] : List (List Nat × Bool × Nat)), ((fun s => s.onLane (1 : Fin 24).val fun l => { l with due := (([] : List Nat), (true : Bool), (1 : Nat)) :: ([] : List (List Nat × Bool × Nat)) }) ((fun s => laneRxUp s (1 : Fin 24).val inFrameLock []) up) : State), by decide +kernel⟩,
   ⟨(1 : Fin 24), (goodFrame : List Byte), (1 : Nat), (true : Bool), (21 : Nat), ((fun s => addSlot s 3) ((fun s => (putFlow s 5 (1 : Fin 24).val 3).setTabWord (vlanWin + 4 * ((1 : Fin 24).val * 4096 + 4095)) 21) ((fun s => clientUp s (1 : Fin 24).val) ((fun s => s.wr (HB_FLOW.FLOW_CTRL_ADD_EN) (1)) up))) : State), by decide +kernel⟩,
   ⟨(1 : Fin 24), (goodFrame : List Byte), (20 : Nat), ((fun s => s.setTabWord (vlanWin + 4 * ((1 : Fin 24).val * 4096 + 4095)) 20) ((fun s => clientUp s (1 : Fin 24).val) ((fun s => s.wr (HB_FLOW.FLOW_CTRL_ADD_EN) (1)) up)) : State), by decide +kernel⟩,
   ⟨(3 : Fin 192), (5 : Nat), ([] : List Nat), (true : Bool), (1 : Nat), ([] : List (Nat × List Nat × Bool × Nat)), ((fun s => putFlow s 5 4 3) ((fun s => clientUp s 4) ((fun s => s.wr (HB_FLOW.FLOW_CTRL_DROP_EN) (1)) ((fun s => s.onDrop ((3 : Fin 192).val) fun q_ => { q_ with due := ((5 : Nat), ([] : List Nat), (true : Bool), (1 : Nat)) :: ([] : List (Nat × List Nat × Bool × Nat)) }) up))) : State), by decide +kernel⟩,
   ⟨(7 : Fin 192), (5 : Nat), ([] : List Nat), (true : Bool), (1 : Nat), ([] : List (Nat × List Nat × Bool × Nat)), ((fun s => putFlow s 5 4 3) ((fun s => s.wr (HB_FLOW.FLOW_CTRL_DROP_EN) (1)) ((fun s => s.onDrop ((7 : Fin 192).val) fun q_ => { q_ with due := ((5 : Nat), ([] : List Nat), (true : Bool), (1 : Nat)) :: ([] : List (Nat × List Nat × Bool × Nat)) }) up)) : State), by decide +kernel⟩,
   ⟨(up : State), by decide +kernel⟩,
   ⟨(1 : Fin 24), (1 : Fin 8), (up : State), by decide +kernel⟩,
   ⟨(1 : Fin 24), (1 : Fin 8), ((fun s => s.wr (HL_CLIENT.CLIENT_STATUS_XOFF_SENT (1 : Fin 24).val) (2 ^ (1 : Fin 8).val)) ((fun s => clientUp s (1 : Fin 24).val) up) : State), by decide +kernel⟩,
   ⟨(1 : Fin 24), (1 : Fin 8), ({ (⟨5, 0, [], false, 0, 0, 1, 0, 0⟩ : Packet) with tclass := (1 : Fin 8).val, client := (1 : Fin 24).val } : Packet), ((fun s => s.onClient (1 : Fin 24).val fun q_ => { q_ with egress := [({ (⟨5, 0, [], false, 0, 0, 1, 0, 0⟩ : Packet) with tclass := (1 : Fin 8).val, client := (1 : Fin 24).val } : Packet)] }) ((fun s => s.wr (HL_LANE.LANE_STATUS_FAR_RX_OK (1 : Fin 24).val) 1) ((fun s => laneRxUp s (1 : Fin 24).val inFrameLock []) up)) : State), by decide +kernel⟩,
   ⟨(1 : Fin 24), (1 : Fin 8), (up : State), by decide +kernel⟩⟩

/-- The hypotheses of `ArbitersDrawByLottery` are met, case by case. -/
theorem witness_arbitersDrawByLottery :
    (∃ (a : Fin 5) (q : BitVec 6) (s : State), s.clock.stopped = false ∧ (s.on (MG_MEM.ARB_CFG_FREEZE a.val) = true ∨ s.arbAskers a q = [])) ∧
    (∃ (a : Fin 5) (q : BitVec 6) (s : State), s.clock.stopped = false ∧ a.val < 3 ∧ s.on (MG_MEM.ARB_CFG_FREEZE a.val) = false ∧ s.on (MG_MEM.ARB_CFG_PARKED a.val) = true ∧ (List.range (arbRequesters a.val)).filter (bitOf q.toNat) = [s.rd (MG_MEM.ARB_CFG_OWNER a.val)]) ∧
    (∃ (a : Fin 5) (q : BitVec 6) (w : Nat) (s : State), s.clock.stopped = false ∧ a.val < 3 ∧ s.on (MG_MEM.ARB_CFG_FREEZE a.val) = false ∧ 
      let l := (List.range (arbRequesters a.val)).filter (bitOf q.toNat)
      (s.on (MG_MEM.ARB_CFG_PARKED a.val) = false ∨ l ≠ [s.rd (MG_MEM.ARB_CFG_OWNER a.val)]) ∧ (l.map (s.tickets a.val)).sum ≠ 0 ∧ lottery (l.map fun x => (x, s.tickets a.val x)) (lfsrSteps 32 (s.rd (MG_MEM.ARB_SEED_STATE a.val)) * (l.map (s.tickets a.val)).sum / 2 ^ 32) = some w) ∧
    (∃ (a : Fin 5) (q : BitVec 6) (w : Nat) (s : State), s.clock.stopped = false ∧ a.val < 3 ∧ s.on (MG_MEM.ARB_CFG_FREEZE a.val) = false ∧ (s.on (MG_MEM.ARB_CFG_PARKED a.val) = false ∨ s.arbAskers a q ≠ [s.rd (MG_MEM.ARB_CFG_OWNER a.val)]) ∧ ((s.arbAskers a q).map (s.tickets a.val)).sum = 0 ∧ roundRobin (s.arbAskers a q) (Tab.get 0 s.mem.lastZero a.val) = some w) ∧
    (∃ (a : Fin 5) (q : BitVec 6) (w : Nat) (d : Descr) (s : State), s.clock.stopped = false ∧ 3 ≤ a.val ∧ s.on (MG_MEM.ARB_CFG_FREEZE a.val) = false ∧ (s.on (MG_MEM.ARB_CFG_PARKED a.val) = false ∨ s.arbAskers a q ≠ [s.rd (MG_MEM.ARB_CFG_OWNER a.val)]) ∧ ((s.arbAskers a q).map (s.tickets a.val)).sum ≠ 0 ∧ lottery ((s.arbAskers a q).map fun x => (x, s.tickets a.val x)) (lfsrSteps 32 (s.rd (MG_MEM.ARB_SEED_STATE a.val)) * ((s.arbAskers a q).map (s.tickets a.val)).sum / 2 ^ 32) = some w ∧ (s.dmaOf w).cur = some d ∧ (s.dmaOf w).held = [] ∧ d.toHost = false ∧ s.linkUp = true ∧ w < 16 ∧ s.rd (DMA_ENG.REMAIN_BYTES w) ≠ 0) ∧
    (∃ (q : BitVec 6) (len w : Nat) (d : Descr) (s : State), s.clock.stopped = false ∧ s.on (MG_MEM.ARB_CFG_FREEZE 4) = false ∧ (s.on (MG_MEM.ARB_CFG_PARKED 4) = false ∨ s.arbAskers 4 q ≠ [s.rd (MG_MEM.ARB_CFG_OWNER 4)]) ∧ ((s.arbAskers 4 q).map (s.tickets 4)).sum ≠ 0 ∧ lottery ((s.arbAskers 4 q).map fun x => (x, s.tickets 4 x)) (lfsrSteps 32 (s.rd (MG_MEM.ARB_SEED_STATE 4)) * ((s.arbAskers 4 q).map (s.tickets 4)).sum / 2 ^ 32) = some w ∧ (s.dmaOf w).cur = some d ∧ d.toHost = false ∧ (s.dmaOf w).held ≠ [] ∧ s.dmaPerBeat w = false ∧ max 1 len < s.burstBeats w ∧ d.swap = 0 ∧ 0x20000000 ≤ d.dev) ∧
    (∃ (r : Requester) (a : Fin 5) (v : Word) (s : State), s.Takes r 4 (0x044 + 0x10 * a.val) ∧ v ≠ 0) ∧
    (∃ (r : Requester) (a : Fin 5) (s : State), s.Takes r 4 (0x044 + 0x10 * a.val)) ∧
    (∃ (r : Requester) (a : Fin 5) (s : State), s.Takes r 4 (0x040 + 0x10 * a.val)) ∧
    (∃ (a : Fin 5) (s : State), s.on (MG_MEM.ARB_CFG_FREEZE a.val) = true) ∧
    (∃ (a : Fin 5) (s : State), s.on (MG_MEM.ARB_CFG_FREEZE a.val) = false) :=
  ⟨⟨(1 : Fin 5), (1 : BitVec 6), ((fun s => s.wr (MG_MEM.ARB_CFG_FREEZE (1 : Fin 5).val) 1) up : State), by decide +kernel⟩,
   ⟨(0 : Fin 5), (4 : BitVec 6), ((fun s => s.wr (MG_MEM.ARB_CFG_OWNER (0 : Fin 5).val) 2) ((fun s => s.wr ((MG_MEM.ARB_CFG_PARKED (0 : Fin 5).val)) (1)) up) : State), by decide +kernel⟩,
   ⟨(0 : Fin 5), (0x3D : BitVec 6), ((lottery (((List.range (arbRequesters (0 : Fin 5).val)).filter (bitOf (0x3D : BitVec 6).toNat)).map fun x => (x, (up : State).tickets (0 : Fin 5).val x)) (lfsrSteps 32 ((up : State).rd (MG_MEM.ARB_SEED_STATE (0 : Fin 5).val)) * (((List.range (arbRequesters (0 : Fin 5).val)).filter (bitOf (0x3D : BitVec 6).toNat)).map ((up : State).tickets (0 : Fin 5).val)).sum / 2 ^ 32)).getD 0 : Nat), (up : State), by decide +kernel⟩,
   ⟨(Fin.ofNat 5 (0) : Fin 5), (1 : BitVec 6), ((roundRobin (((fun s => noTickets s (Fin.ofNat 5 (0) : Fin 5).val) up : State).arbAskers (Fin.ofNat 5 (0) : Fin 5) (1 : BitVec 6)) (Tab.get 0 ((fun s => noTickets s (Fin.ofNat 5 (0) : Fin 5).val) up : State).mem.lastZero (Fin.ofNat 5 (0) : Fin 5).val)).getD 0 : Nat), ((fun s => noTickets s (Fin.ofNat 5 (0) : Fin 5).val) up : State), by decide +kernel⟩,
   ⟨(Fin.ofNat 5 (3 + 0) : Fin 5), (1 : BitVec 6), ((Fin.ofNat 5 (3 + 0) : Fin 5).val * 2 - 5 : Nat), ({ (⟨0, 0, 0x20000000, 64, 0, false⟩ : Descr) with ctrl := 8, len := 900 } : Descr), ((fun s => s.wr (DMA_ENG.CH_CTRL_PRIO ((Fin.ofNat 5 (3 + 0) : Fin 5).val * 2 - 5 : Nat)) (4 - (Fin.ofNat 5 (3 + 0) : Fin 5).val)) ((fun s => chanUp s ((Fin.ofNat 5 (3 + 0) : Fin 5).val * 2 - 5 : Nat) ({ (⟨0, 0, 0x20000000, 64, 0, false⟩ : Descr) with ctrl := 8, len := 900 } : Descr)) up) : State), by decide +kernel⟩,
   ⟨(1 : BitVec 6), (1 : Nat), (3 : Nat), ({ (⟨0, 0, 0x20000000, 64, 0, false⟩ : Descr) with dev := 0x20000100, ctrl := 0, len := 900 } : Descr), ((fun s => s.onDma 3 fun x => { x with held := List.replicate 300 7 }) ((fun s => chanUp s (3 : Nat) ({ (⟨0, 0, 0x20000000, 64, 0, false⟩ : Descr) with dev := 0x20000100, ctrl := 0, len := 900 } : Descr)) up) : State), by decide +kernel⟩,
   ⟨(.pcie : Requester), (1 : Fin 5), (1 : Word), (up : State), by decide +kernel⟩,
   ⟨(.pcie : Requester), (1 : Fin 5), (up : State), by decide +kernel⟩,
   ⟨(.pcie : Requester), (1 : Fin 5), (up : State), by decide +kernel⟩,
   ⟨(1 : Fin 5), ((fun s => s.wr ((MG_MEM.ARB_CFG_FREEZE (1 : Fin 5).val)) (1)) up : State), by decide +kernel⟩,
   ⟨(1 : Fin 5), (up : State), by decide +kernel⟩⟩

/-- The hypotheses of `DmaRingsRunDoorbellAndReset` are met, case by case. -/
theorem witness_dmaRingsRunDoorbellAndReset :
    (∃ (r : Requester) (c : Fin 16) (s : State), s.Takes r 6 (0x100 + 0x40 * c.val) ∧ reservedChannel r c.val = false ∧ (s.on DMA_ENG.ENG_CTRL_ENABLE = false ∨ s.dmaHalted = true)) ∧
    (∃ (r : Requester) (c : Fin 16) (s : State), s.Takes r 6 (0x100 + 0x40 * c.val) ∧ reservedChannel r c.val = false ∧ s.on DMA_ENG.ENG_CTRL_ENABLE = true ∧ s.dmaHalted = false ∧ s.linkUp = true ∧ DmaIdle s c.val) ∧
    (∃ (r : Requester) (c : Fin 16) (s : State), s.Takes r 6 (0x100 + 0x40 * c.val) ∧ reservedChannel r c.val = true) ∧
    (∃ (r : Requester) (c : Fin 16) (s : State), s.Takes r 6 (0x110 + 0x40 * c.val) ∧ reservedChannel r c.val = true) ∧
    (∃ (r : Requester) (c : Fin 16) (tail : BitVec 15) (s : State), s.Takes r 6 (0x110 + 0x40 * c.val) ∧ reservedChannel r c.val = false ∧ tail.toNat % s.ringSize c.val = s.dmaHead c.val % s.ringSize c.val ∧ s.dmaPosted c.val ≠ 0) ∧
    (∃ (r : Requester) (c : Fin 16) (tail : BitVec 15) (s : State), s.Takes r 6 (0x110 + 0x40 * c.val) ∧ reservedChannel r c.val = false ∧ ¬ (tail.toNat % s.ringSize c.val = s.dmaHead c.val % s.ringSize c.val ∧ s.dmaPosted c.val ≠ 0) ∧ s.dmaLive c.val = true ∧ s.linkUp = true ∧ DmaIdle s c.val) ∧
    (∃ (r : Requester) (c : Fin 16) (s : State), s.Takes r 6 (0x100 + 0x40 * c.val) ∧ reservedChannel r c.val = false ∧ s.dmaLive c.val = false) ∧
    (∃ (r : Requester) (c : Fin 16) (s : State), s.Takes r 6 (0x100 + 0x40 * c.val) ∧ reservedChannel r c.val = false ∧ s.dmaLive c.val = true ∧ s.ringLocal c.val = false ∧ s.linkUp = true) ∧
    (∃ (r : Requester) (s : State), s.Takes r 6 0x040 ∧ s.dmaHalted = true ∧ s.dmaActive = false ∧ s.linkUp = true) ∧
    (∃ (r : Requester) (s : State), s.Takes r 6 0x040 ∧ (s.dmaHalted = false ∨ s.dmaActive = true)) :=
  ⟨⟨(.pcie : Requester), (1 : Fin 16), (up : State), by decide +kernel⟩,
   ⟨(.pcie : Requester), (1 : Fin 16), ((fun s => s.wr (DMA_ENG.ENG_CTRL_ENABLE) (1)) up : State), by decide +kernel⟩,
   ⟨(.pcie : Requester), (15 : Fin 16), (up : State), by decide +kernel⟩,
   ⟨(.pcie : Requester), (15 : Fin 16), (up : State), by decide +kernel⟩,
   ⟨(.core0 : Requester), (1 : Fin 16), (BitVec.ofNat 15 (((fun s => s.wr (DMA_ENG.TAIL_TAIL (1 : Fin 16).val) 3) up : State).dmaHead (1 : Fin 16).val % ((fun s => s.wr (DMA_ENG.TAIL_TAIL (1 : Fin 16).val) 3) up : State).ringSize (1 : Fin 16).val) : BitVec 15), ((fun s => s.wr (DMA_ENG.TAIL_TAIL (1 : Fin 16).val) 3) up : State), by decide +kernel⟩,
   ⟨(.core0 : Requester), (1 : Fin 16), (1 : BitVec 15), ((fun s => s.wr (DMA_ENG.CH_CTRL_RUN (1 : Fin 16).val) 1) ((fun s => s.wr DMA_ENG.ENG_CTRL_ENABLE 1) up) : State), by decide +kernel⟩,
   ⟨(.pcie : Requester), (1 : Fin 16), (up : State), by decide +kernel⟩,
   ⟨(.core0 : Requester), (1 : Fin 16), ((fun s => svcUp s (1 : Fin 16).val) up : State), by decide +kernel⟩,
   ⟨(.pcie : Requester), ((fun s => s.wr (DMA_ENG.ENG_STATUS_HALTED) (1)) up : State), by decide +kernel⟩,
   ⟨(.pcie : Requester), (up : State), by decide +kernel⟩⟩

/-- The hypotheses of `DmaCompletionsDeliverData` are met, case by case. -/
theorem witness_dmaCompletionsDeliverData :
    (∃ (c : Fin 16) (i : Nat) (rest : List Nat) (s : State), s.clock.stopped = false ∧ s.dmaHalted = false ∧ s.rd (DMA_ENG.CH_STATUS_STATE c.val) ≠ 4 ∧ (s.dmaOf c.val).fetching = i :: rest ∧ (s.dmaOf c.val).cur.isSome = true) ∧
    (∃ (c : Fin 16) (b : List Byte) (i : Nat) (rest : List Nat) (s : State), s.clock.stopped = false ∧ s.dmaLive c.val = true ∧ s.rd (DMA_ENG.CH_STATUS_STATE c.val) ≠ 4 ∧ s.ringLocal c.val = false ∧ s.linkUp = true ∧ (s.dmaOf c.val).fetching = i :: rest ∧ (s.dmaOf c.val).cur = none ∧ (s.dmaOf c.val).ahead = [] ∧ (descrOf i (swapWords 0 (b.map (·.toNat)))).valid c.val = true) ∧
    (∃ (c : Fin 16) (b : List Byte) (i : Nat) (rest : List Nat) (s : State), s.clock.stopped = false ∧ s.dmaLive c.val = true ∧ s.rd (DMA_ENG.CH_STATUS_STATE c.val) ≠ 4 ∧ s.ringLocal c.val = false ∧ s.linkUp = true ∧ (s.dmaOf c.val).fetching = i :: rest ∧ (s.dmaOf c.val).cur = none ∧ (s.dmaOf c.val).ahead = [] ∧ (descrOf i (swapWords 0 (b.map (·.toNat)))).valid c.val = false) ∧
    (∃ (c : Fin 16) (b : List Byte) (d : Descr) (s : State), s.clock.stopped = false ∧ s.dmaHalted = false ∧ (s.dmaOf c.val).cur = some d ∧ d.swap = 0 ∧ 0x20000000 ≤ d.dev ∧ b ≠ [] ∧ b.length % 4 = 0 ∧ b.length ≤ (s.dmaOf c.val).outstanding ∧ s.dmaHigh c.val = true ∧ s.dmaPerBeat c.val = false) ∧
    (∃ (c : Fin 16) (b : List Byte) (d : Descr) (s : State), s.clock.stopped = false ∧ s.dmaHalted = false ∧ (s.dmaOf c.val).cur = some d ∧ b ≠ [] ∧ b.length % 4 = 0 ∧ b.length ≤ (s.dmaOf c.val).outstanding ∧ (s.dmaPerBeat c.val = true ∨ (s.dmaHigh c.val = false ∧ ((s.dmaOf c.val).held ≠ [] ∨ s.dmaAskers true ≠ [])))) ∧
    (∃ (s : State), s.clock.stopped = false ∧ s.dmaHalted = true) ∧
    (∃ (c : Fin 16) (d : Descr) (s : State), s.clock.stopped = false ∧ (s.dmaOf c.val).cur = some d ∧ s.dmaComplete c.val = true ∧ s.linkUp = true) ∧
    (∃ (c : Fin 16) (s : State), ((s.dmaOf c.val).cur = none ∨ s.dmaComplete c.val = false)) :=
  ⟨⟨(1 : Fin 16), (1 : Nat), ([] : List Nat), ((fun s => s.onDma (1 : Fin 16).val fun q_ => { q_ with cur := some ⟨0, 4096, 0x20000000, 64, 0, false⟩ }) ((fun s => s.onDma ((1 : Fin 16).val) fun q_ => { q_ with fetching := (1 : Nat) :: ([] : List Nat) }) up) : State), by decide +kernel⟩,
   ⟨(1 : Fin 16), ((le 8 4096 ++ le 4 256 ++ le 4 64 ++ le 16 0).map (BitVec.ofNat 8) : List Byte), (1 : Nat), ([] : List Nat), ((fun s => s.onDma (1 : Fin 16).val fun x => { x with fetching := (1 : Nat) :: ([] : List Nat), cur := none, ahead := [] }) ((fun s => svcUp s (1 : Fin 16).val) up) : State), by decide +kernel⟩,
   ⟨(1 : Fin 16), ((le 8 4096 ++ le 4 256 ++ le 4 63 ++ le 16 0).map (BitVec.ofNat 8) : List Byte), (1 : Nat), ([] : List Nat), ((fun s => s.onDma (1 : Fin 16).val fun x => { x with fetching := (1 : Nat) :: ([] : List Nat), cur := none, ahead := [] }) ((fun s => svcUp s (1 : Fin 16).val) up) : State), by decide +kernel⟩,
   ⟨(1 : Fin 16), ([1,2,3,4,5,6,7,8] : List Byte), (⟨0, 4096, 0x20000000, 64, 0, false⟩ : Descr), ((fun s => s.wr (DMA_ENG.CH_CTRL_PRIO (1 : Fin 16).val) 1) ((fun s => s.onDma (1 : Fin 16).val fun q_ => { q_ with outstanding := 16 }) ((fun s => s.onDma ((1 : Fin 16).val) fun q_ => { q_ with cur := some (⟨0, 4096, 0x20000000, 64, 0, false⟩ : Descr) }) up)) : State), by decide +kernel⟩,
   ⟨(1 : Fin 16), ([1, 2, 3, 4] : List Byte), (⟨0, 0, 0x20000000, 64, 0, false⟩ : Descr), ((fun s => s.onDma (1 : Fin 16).val fun x => { x with outstanding := 16, held := [7, 7, 7, 7] }) ((fun s => s.onDma ((1 : Fin 16).val) fun q_ => { q_ with cur := some (⟨0, 0, 0x20000000, 64, 0, false⟩ : Descr) }) up) : State), by decide +kernel⟩,
   ⟨((fun s => s.wr (DMA_ENG.ENG_STATUS_HALTED) (1)) up : State), by decide +kernel⟩,
   ⟨(0 : Fin 16), (⟨0, 0, 0x20000000, 64, 0, false⟩ : Descr), ((fun s => s.wr (DMA_ENG.CH_CTRL_RUN (0 : Fin 16).val) 1) ((fun s => s.wr DMA_ENG.ENG_CTRL_ENABLE 1) ((fun s => s.onDma ((0 : Fin 16).val) fun q_ => { q_ with cur := some (⟨0, 0, 0x20000000, 64, 0, false⟩ : Descr) }) up)) : State), by decide +kernel⟩,
   ⟨(1 : Fin 16), (up : State), by decide +kernel⟩⟩

/-- The hypotheses of `DmaRequestsThatFailHaltTheEngine` are met, case by case. -/
theorem witness_dmaRequestsThatFailHaltTheEngine :
    (∃ (c : Fin 16) (s : State), s.clock.stopped = false ∧ s.dmaHalted = false ∧ (s.dmaOf c.val).outstanding ≠ 0) ∧
    (∃ (c d : Fin 16) (s : State), s.clock.stopped = false ∧ s.dmaHalted = false ∧ (s.dmaOf c.val).outstanding ≠ 0 ∧ s.rd (DMA_ENG.REMAIN_BYTES c.val) ≠ 0 ∧ ((s.dmaOf d.val).cur.isSome = true ∨ (s.dmaOf d.val).fetching ≠ [])) ∧
    (∃ (c : Fin 16) (i : Nat) (rest : List Nat) (s : State), s.clock.stopped = false ∧ s.dmaHalted = false ∧ (s.dmaOf c.val).fetching = i :: rest) ∧
    (∃ (s : State), s.clock.stopped = false ∧ s.dmaHalted = true) ∧
    (∃ (c : Fin 16) (s : State), s.clock.stopped = false ∧ (s.dmaOf c.val).outstanding = 0) ∧
    (∃ (c : Fin 16) (s : State), s.clock.stopped = false ∧ (s.dmaOf c.val).fetching = []) :=
  ⟨⟨(1 : Fin 16), ((fun s => s.onDma (1 : Fin 16).val fun x => { x with outstanding := 4 }) up : State), by decide +kernel⟩,
   ⟨(1 : Fin 16), (1 : Fin 16), ((fun s => (s.onDma (1 : Fin 16).val fun x => { x with outstanding := 4, cur := some ⟨0, 4096, 0x20000000, 64, 0, false⟩ }).wr (DMA_ENG.REMAIN_BYTES (1 : Fin 16).val) 8) up : State), by decide +kernel⟩,
   ⟨(1 : Fin 16), (1 : Nat), ([] : List Nat), ((fun s => s.onDma ((1 : Fin 16).val) fun q_ => { q_ with fetching := (1 : Nat) :: ([] : List Nat) }) up : State), by decide +kernel⟩,
   ⟨((fun s => s.wr (DMA_ENG.ENG_STATUS_HALTED) (1)) up : State), by decide +kernel⟩,
   ⟨(1 : Fin 16), (up : State), by decide +kernel⟩,
   ⟨(1 : Fin 16), (up : State), by decide +kernel⟩⟩

/-- The hypotheses of `ClockQualificationAndFailure` are met, case by case. -/
theorem witness_clockQualificationAndFailure :
    (∃ (n : Nat) (s : State), s.clock.released = true ∧ s.on CK_SYN.SYN_STATUS_MON_ARMED = false ∧ 1024 ≤ n ∧ 64226 ≤ n ∧ n ≤ 66846) ∧
    (∃ (n : Nat) (s : State), s.clock.released = true ∧ s.on CK_SYN.SYN_STATUS_MON_ARMED = false ∧ 1024 ≤ n ∧ (n < 64226 ∨ 66846 < n) ∧ s.rd CK_SYN.FOSC_QUAL_ATTEMPTS = 0) ∧
    (∃ (n : Nat) (s : State), s.clock.released = true ∧ s.on CK_SYN.SYN_STATUS_MON_ARMED = false ∧ 1024 ≤ n ∧ (n < 64226 ∨ 66846 < n) ∧ s.rd CK_SYN.FOSC_QUAL_ATTEMPTS ≠ 0) ∧
    (∃ (n : Nat) (gap : Bool) (s : State), (s.clock.released = false ∨ s.on CK_SYN.SYN_STATUS_MON_ARMED = true ∨ n < 1024 ∨ gap = true)) ∧
    (∃ (s : State), s.clock.released = true ∧ s.clock.startupJudged = false ∧ s.on CK_SYN.SYN_STATUS_RCLK_OK = false ∧ s.clock.failed = false ∧ s.on CK_SYN.SYN_STATUS_MON_ARMED = false) ∧
    (∃ (s : State), s.clock.released = true ∧ s.clock.startupJudged = false ∧ s.on CK_SYN.SYN_STATUS_RCLK_OK = false ∧ s.clock.failed = false ∧ s.on CK_SYN.SYN_STATUS_MON_ARMED = true) ∧
    (∃ (s : State), s.on CK_SYN.SYN_STATUS_APLL_LOCK = true ∧ s.foscFailed = false) ∧
    (∃ (s : State), s.foscFailed = true ∧ s.clock.watched = true ∧ s.failable = true ∧ s.on CK_SYN.SYN_STATUS_MON_ARMED = true) ∧
    (∃ (s : State), s.clock.released = false) ∧
    (∃ (rclk : Nat) (s : State), s.clock.released = true ∧ rclkInLimits rclk = true ∧ s.on CK_SYN.SYN_STATUS_APLL_LOCK = true ∧ 1 ≤ s.clock.goodRun ∧ s.on CK_SYN.SYN_STATUS_MON_ARMED = true ∧ s.on CK_SYN.SYN_STATUS_RCLK_OK = false) ∧
    (∃ (rclk : Nat) (bad : Bool) (s : State), s.clock.released = true ∧ (rclkInLimits rclk = false ∨ s.on CK_SYN.SYN_STATUS_APLL_LOCK = false ∨ bad = true) ∧ 1 ≤ s.clock.badRun ∧ s.clock.watched = true ∧ s.failable = true ∧ s.on CK_SYN.SYN_STATUS_MON_ARMED = true) ∧
    (∃ (s : State), s.foscFailed = true ∧ s.on CK_SYN.SYN_STATUS_XREF_OK = true) ∧
    (∃ (s : State), (s.foscFailed = false ∨ s.on CK_SYN.SYN_STATUS_XREF_OK = false)) ∧
    (∃ (c : Nat) (s : State), s.clock.switchTo = some c) ∧
    (∃ (s : State), s.clock.switchTo = none) ∧
    (∃ (s : State), s.mayReturn = true ∧ s.clock.switchTo = none ∧ s.clock.switchNext = none ∧ s.rd CK_SYN.MON_CFG_RESTORE_MS ≠ 0 ∧ s.rd CK_SYN.MON_CFG_RESTORE_MS ≤ s.clock.qualifiedMs + 1) ∧
    (∃ (s : State), (s.mayReturn = false ∨ s.rd CK_SYN.MON_CFG_RESTORE_MS = 0 ∨ s.clock.qualifiedMs + 1 < s.rd CK_SYN.MON_CFG_RESTORE_MS)) ∧
    (∃ (r : Requester) (s : State), s.Takes r 7 0x048 ∧ s.mayReturn = true ∧ s.clock.switchTo = none ∧ s.clock.switchNext = none) ∧
    (∃ (r : Requester) (s : State), s.Takes r 7 0x048 ∧ s.mayReturn = false) ∧
    (∃ (s : State), s.clock.stopped = true) ∧
    (∃ (s : State), s.rclkStopped = false ∧ s.clock.stopped = false) :=
  ⟨⟨(65000 : Nat), ((fun s => s.wr (CK_SYN.SYN_STATUS_MON_ARMED) (0)) up : State), by decide +kernel⟩,
   ⟨(2000 : Nat), ((fun s => s.wr (CK_SYN.SYN_STATUS_MON_ARMED) (0)) up : State), by decide +kernel⟩,
   ⟨(2000 : Nat), ((fun s => s.wr (CK_SYN.FOSC_QUAL_ATTEMPTS) (1)) ((fun s => s.wr (CK_SYN.SYN_STATUS_MON_ARMED) (0)) up) : State), by decide +kernel⟩,
   ⟨(1 : Nat), (true : Bool), (up : State), by decide +kernel⟩,
   ⟨((fun s => s.wr (CK_SYN.SYN_STATUS_MON_ARMED) (0)) ((fun s => s.wr (CK_SYN.SYN_STATUS_RCLK_OK) (0)) up) : State), by decide +kernel⟩,
   ⟨((fun s => s.wr (CK_SYN.SYN_STATUS_RCLK_OK) (0)) up : State), by decide +kernel⟩,
   ⟨(up : State), by decide +kernel⟩,
   ⟨((fun s => s.wr (CK_SYN.SYN_STATUS_FOSC_FAILED) (1)) up : State), by decide +kernel⟩,
   ⟨((fun s => { s with clock := { s.clock with released := false } }) up : State), by decide +kernel⟩,
   ⟨(13600 : Nat), ((fun s => s.wr (CK_SYN.SYN_STATUS_RCLK_OK) (0)) ((fun s => { s with clock := { s.clock with goodRun := 1 } }) up) : State), by decide +kernel⟩,
   ⟨(1 : Nat), (true : Bool), ((fun s => { s with clock := { s.clock with badRun := 1 } }) up : State), by decide +kernel⟩,
   ⟨((fun s => s.wr (CK_SYN.SYN_STATUS_FOSC_FAILED) (1)) up : State), by decide +kernel⟩,
   ⟨(up : State), by decide +kernel⟩,
   ⟨(1 : Nat), ((fun s => { s with clock := { s.clock with switchTo := some (1 : Nat) } }) up : State), by decide +kernel⟩,
   ⟨(up : State), by decide +kernel⟩,
   ⟨((fun s => s.onClock fun k => { k with failed := true }) ((fun s => s.wr (CK_SYN.MON_CFG_RESTORE_MS) (1)) up) : State), by decide +kernel⟩,
   ⟨(up : State), by decide +kernel⟩,
   ⟨(.pcie : Requester), ((fun s => s.onClock fun k => { k with failed := true }) up : State), by decide +kernel⟩,
   ⟨(.pcie : Requester), (up : State), by decide +kernel⟩,
   ⟨((fun s => { s with clock := { s.clock with stopped := true } }) up : State), by decide +kernel⟩,
   ⟨(up : State), by decide +kernel⟩⟩

/-- The hypotheses of `ClockGatesAndProbe` are met, case by case. -/
theorem witness_clockGatesAndProbe :
    (∃ (r : Requester) (s : State), s.Takes r 7 0x050 ∧ s.on CK_SYN.GATE_STATUS_BUSY = true) ∧
    (∃ (r : Requester) (d : Fin 32) (s : State), s.Takes r 7 0x050 ∧ s.on CK_SYN.GATE_STATUS_BUSY = false ∧ 28 ≤ d.val) ∧
    (∃ (r : Requester) (d : Fin 32) (s : State), s.Takes r 7 0x050 ∧ s.on CK_SYN.GATE_STATUS_BUSY = false ∧ d.val < 28 ∧ s.gateInUse d.val = true) ∧
    (∃ (r : Requester) (d : Fin 32) (s : State), s.Takes r 7 0x050 ∧ s.on CK_SYN.GATE_STATUS_BUSY = false ∧ d.val < 28 ∧ s.gateInUse d.val = false) ∧
    (∃ (r : Requester) (d : Fin 32) (s : State), s.Takes r 7 0x050 ∧ s.on CK_SYN.GATE_STATUS_BUSY = false ∧ d.val < 28) ∧
    (∃ (d : Nat) (s : State), s.clock.gate = some ⟨d, true⟩ ∧ d < 28) ∧
    (∃ (d : Nat) (s : State), s.clock.gate = some ⟨d, false⟩ ∧ d < 28) ∧
    (∃ (s : State), s.clock.gate = none) ∧
    (∃ (r : Requester) (v : Word) (m : Nat) (s : State), s.Takes r 7 0x05C ∧ s.probeMin (bits v.toNat 0 4) = some m ∧ m ≤ probeDiv (bits v.toNat 4 4)) ∧
    (∃ (r : Requester) (v : Word) (s : State), s.Takes r 7 0x05C ∧ (∀ m, s.probeMin (bits v.toNat 0 4) = some m → probeDiv (bits v.toNat 4 4) < m)) :=
  ⟨⟨(.pcie : Requester), ((fun s => s.wr (CK_SYN.GATE_STATUS_BUSY) (1)) up : State), by decide +kernel⟩,
   ⟨(.pcie : Requester), (30 : Fin 32), (up : State), by decide +kernel⟩,
   ⟨(.pcie : Requester), (3 : Fin 32), ((fun s => s.wr (HL_LANE.LANE_CFG_ENABLE 3) 1) up : State), by decide +kernel⟩,
   ⟨(.pcie : Requester), (0 : Fin 32), (up : State), by decide +kernel⟩,
   ⟨(.pcie : Requester), (0 : Fin 32), (up : State), by decide +kernel⟩,
   ⟨(0 : Nat), ((fun s => { s with clock := { s.clock with gate := some ⟨(0 : Nat), true⟩ } }) up : State), by decide +kernel⟩,
   ⟨(0 : Nat), ((fun s => { s with clock := { s.clock with gate := some ⟨(0 : Nat), false⟩ } }) up : State), by decide +kernel⟩,
   ⟨(up : State), by decide +kernel⟩,
   ⟨(.pcie : Requester), (0x1F1 : Word), (((up : State).probeMin (bits (0x1F1 : Word).toNat 0 4)).getD 0 : Nat), (up : State), by decide +kernel⟩,
   ⟨(.pcie : Requester), (0x100 + 0xC : Word), (up : State), by decide +kernel, by decide +kernel⟩⟩

/-- The hypotheses of `ReferencesAndTheDpll` are met, case by case. -/
theorem witness_referencesAndTheDpll :
    (∃ (i : Fin 12) (e : Bool) (s : State), (i.val < 4 ∧ e = true ∨ 4 ≤ i.val ∧ s.refPresent i.val = true) ∧ s.refSt i.val = refFailed) ∧
    (∃ (i : Fin 12) (e : Bool) (s : State), (i.val < 4 ∧ e = false ∨ 4 ≤ i.val ∧ s.refPresent i.val = false) ∧ s.refSt i.val ≠ refFailed) ∧
    (∃ (i : Fin 12) (s : State), s.refSt i.val = refMeasure ∧ (s.refOf i.val).samples.length = 64) ∧
    (∃ (i : Fin 12) (s : State), (s.refSt i.val ≠ refMeasure ∨ (s.refOf i.val).samples.length ≠ 64)) ∧
    (∃ (i : Fin 12) (s : State), s.refSt i.val = refWtrSt) ∧
    (∃ (i : Fin 12) (s : State), s.refSt i.val ≠ refWtrSt) ∧
    (∃ (r : Requester) (i : Fin 16) (s : State), s.Takes r 8 0x100 ∧ i.val < 12 ∧ s.refCand i.val = true) ∧
    (∃ (r : Requester) (i : Fin 16) (s : State), s.Takes r 8 0x100 ∧ (12 ≤ i.val ∨ s.refCand i.val = false)) ∧
    (∃ (s : State), s.dpSt = dpLocking ∧ s.lockDue = true) ∧
    (∃ (phase : Int) (s : State), s.dpSt = dpLocked ∧ 2 * s.lockWindow 0 < phase.natAbs) ∧
    (∃ (s : State), s.dpSt = dpMeasure ∧ s.slope ≠ 0) ∧
    (∃ (s : State), s.dpSt = dpMeasure ∧ s.slope = 0) ∧
    (∃ (s : State), s.dpSt = dpSwitching ∧ s.dpll.residual = 0) ∧
    (∃ (s : State), (s.dpSt ≠ dpLocking ∨ s.lockDue = false)) ∧
    (∃ (phase : Int) (s : State), (s.dpSt ≠ dpLocked ∨ phase.natAbs ≤ 2 * s.lockWindow 0)) ∧
    (∃ (s : State), s.dpSt ≠ dpMeasure) ∧
    (∃ (s : State), (s.dpSt ≠ dpSwitching ∨ s.dpll.residual ≠ 0)) :=
  ⟨⟨(0 : Fin 12), (true : Bool), (up : State), by decide +kernel⟩,
   ⟨(0 : Fin 12), (false : Bool), ((fun s => s.wr (CK_REF.REF_STATUS_STATE (0 : Fin 12).val) ((if (refFailed) = 0 then 9 else 0))) up : State), by decide +kernel⟩,
   ⟨(1 : Fin 12), ((fun s => s.onRef (1 : Fin 12).val fun q_ => { q_ with samples := List.replicate 64 1000 }) ((fun s => s.wr (CK_REF.REF_STATUS_STATE (1 : Fin 12).val) (refMeasure)) up) : State), by decide +kernel⟩,
   ⟨(1 : Fin 12), (up : State), by decide +kernel⟩,
   ⟨(1 : Fin 12), ((fun s => s.wr (CK_REF.REF_STATUS_STATE (1 : Fin 12).val) (refWtrSt)) up : State), by decide +kernel⟩,
   ⟨(1 : Fin 12), (up : State), by decide +kernel⟩,
   ⟨(.pcie : Requester), (0 : Fin 16), ((fun s => s.wr (CK_REF.REF_CFG_PRIO (0 : Fin 16).val) 2) ((fun s => s.wr (CK_REF.REF_STATUS_STATE (0 : Fin 16).val) refQualified) up) : State), by decide +kernel⟩,
   ⟨(.pcie : Requester), (1 : Fin 16), (up : State), by decide +kernel⟩,
   ⟨((fun s => s.onDpll fun d => { d with lockTicks := 100000000 }) ((fun s => s.wr (CK_DPLL.DPLL_STATUS_STATE 0) (dpLocking)) up) : State), by decide +kernel⟩,
   ⟨(2 * ((fun s => s.wr (CK_DPLL.DPLL_STATUS_STATE 0) (dpLocked)) up : State).lockWindow 0 + 5 : Int), ((fun s => s.wr (CK_DPLL.DPLL_STATUS_STATE 0) (dpLocked)) up : State), by decide +kernel⟩,
   ⟨((fun s => s.wr (CK_DPLL.DPLL_STATUS_STATE 0) (dpMeasure)) up : State), by decide +kernel⟩,
   ⟨((fun s => s.wr (CK_DPLL.DPLL_CFG_SLOPE 0) 0) ((fun s => s.wr (CK_DPLL.DPLL_STATUS_STATE 0) (dpMeasure)) up) : State), by decide +kernel⟩,
   ⟨((fun s => s.wr (CK_DPLL.DPLL_STATUS_STATE 0) (dpSwitching)) up : State), by decide +kernel⟩,
   ⟨(up : State), by decide +kernel⟩,
   ⟨(0 : Int), (up : State), by decide +kernel⟩,
   ⟨(up : State), by decide +kernel⟩,
   ⟨(up : State), by decide +kernel⟩⟩

/-- The hypotheses of `TimeBasesStepSwitchAndUnlock` are met, case by case. -/
theorem witness_timeBasesStepSwitchAndUnlock :
    (∃ (x : Fin 4) (sh : Bool) (s : State), s.Clocked ∧ s.coreUp = true ∧ s.servoOn x.val sh = true ∧ s.steers x.val sh = true ∧ s.on (TS_TB.TB_STATUS_HOLDOVER x.val) = false) ∧
    (∃ (x : Fin 4) (sh : Bool) (s : State), s.Clocked ∧ s.coreUp = true ∧ s.servoOn x.val sh = true ∧ s.steers x.val sh = true ∧ s.on (TS_TB.TB_STATUS_HOLDOVER x.val) = true) ∧
    (∃ (x : Fin 4) (sh : Bool) (s : State), s.Clocked ∧ (s.coreUp = false ∨ s.servoOn x.val sh = false)) ∧
    (∃ (x : Fin 4) (sh : Bool) (s : State), s.Clocked ∧ s.coreUp = true ∧ s.servoOn x.val sh = true ∧ s.steers x.val sh = false) ∧
    (∃ (x : Fin 4) (s : State), s.Clocked ∧ 1999 ≤ (s.tbOf x.val).idleMs) ∧
    (∃ (x : Fin 4) (s : State), s.Clocked ∧ (s.tbOf x.val).idleMs < 1999) ∧
    (∃ (r : Requester) (x : Fin 4) (s : State), s.Takes r (11 + x.val) 0x040 ∧ s.on (TS_TB.TB_STATUS_SHADOW_LOCK x.val) = true) ∧
    (∃ (r : Requester) (x : Fin 4) (s : State), s.Takes r (11 + x.val) 0x040 ∧ s.on (TS_TB.TB_STATUS_SHADOW_LOCK x.val) = false) ∧
    (∃ (r : Requester) (x : Fin 4) (s : State), s.Takes r (11 + x.val) 0x040 ∧ s.on (TS_TB.TB_STATUS_TIME_LOCK x.val) = false) ∧
    (∃ (r : Requester) (x : Fin 4) (s : State), s.Takes r (11 + x.val) 0x040 ∧ s.on (TS_TB.TB_STATUS_TIME_LOCK x.val) = true) ∧
    (∃ (r : Requester) (s : State), s.Takes r 15 0x054) :=
  ⟨⟨(1 : Fin 4), (false : Bool), ((fun s => s.wr (TS_TB.TB_CTRL_EN (1 : Fin 4).val) 1) up : State), by decide +kernel⟩,
   ⟨(1 : Fin 4), (true : Bool), ((fun s => ((((s.wr (TS_TB.TB_CTRL_EN (1 : Fin 4).val) 1).wr (TS_TB.TB_CTRL_SHADOW_EN (1 : Fin 4).val) 1).wr (TS_TB.TB_STATUS_HOLDOVER (1 : Fin 4).val) 1).wr (TS_TB.TB_STATUS_ACTIVE_GM (1 : Fin 4).val) 1).onServo (1 : Fin 4).val (true : Bool) fun v => { v with kind := 3 }) up : State), by decide +kernel⟩,
   ⟨(1 : Fin 4), (true : Bool), (up : State), by decide +kernel⟩,
   ⟨(1 : Fin 4), (true : Bool), ((fun s => s.wr (TS_TB.TB_CTRL_SHADOW_EN (1 : Fin 4).val) 1) ((fun s => s.wr (TS_TB.TB_CTRL_EN (1 : Fin 4).val) 1) up) : State), by decide +kernel⟩,
   ⟨(1 : Fin 4), ((fun s => s.onTb (1 : Fin 4).val fun q_ => { q_ with idleMs := 1999 }) up : State), by decide +kernel⟩,
   ⟨(1 : Fin 4), (up : State), by decide +kernel⟩,
   ⟨(.pcie : Requester), (1 : Fin 4), ((fun s => s.wr ((TS_TB.TB_STATUS_SHADOW_LOCK (1 : Fin 4).val)) (1)) up : State), by decide +kernel⟩,
   ⟨(.pcie : Requester), (1 : Fin 4), (up : State), by decide +kernel⟩,
   ⟨(.pcie : Requester), (1 : Fin 4), (up : State), by decide +kernel⟩,
   ⟨(.pcie : Requester), (1 : Fin 4), ((fun s => s.wr ((TS_TB.TB_STATUS_TIME_LOCK (1 : Fin 4).val)) (1)) up : State), by decide +kernel⟩,
   ⟨(.pcie : Requester), (up : State), by decide +kernel⟩⟩

/-- The hypotheses of `PtpMessagesPulsesAndTimeOfDay` are met, case by case. -/
theorem witness_ptpMessagesPulsesAndTimeOfDay :
    (∃ (c : Crossing) (s : State), s.Clocked ∧ s.crossingOpen c = false) ∧
    (∃ (k : Fin 24) (st : Stamp) (m : PtpMsg) (x : Nat) (s : State), s.Clocked ∧ s.coreUp = true ∧ s.crossingOpen (.host k st) = true ∧ s.listeners k.val m.domain.toNat = [(x, false)] ∧ x < 4 ∧ m.kind = .sync ∧ m.twoStep = false ∧ (s.servoOf x false).slave = true ∧ (s.servoOf x false).heard = true ∧ s.steers x false = true ∧ s.on (TS_TB.TB_STATUS_TIME_LOCK x) = true) ∧
    (∃ (k : Fin 24) (st : Stamp) (m : PtpMsg) (x : Nat) (s : State), s.Clocked ∧ s.coreUp = true ∧ s.crossingOpen (.host k st) = true ∧ s.listeners k.val m.domain.toNat = [(x, false)] ∧ m.kind = .sync ∧ (s.servoOf x false).heard = false) ∧
    (∃ (k : Fin 24) (st : Stamp) (m : PtpMsg) (x : Nat) (sh : Bool) (s : State), s.Clocked ∧ s.coreUp = true ∧ s.crossingOpen (.host k st) = true ∧ s.answerers k.val m.domain.toNat = [(x, sh)] ∧ m.kind = .delayReq) ∧
    (∃ (k : Fin 24) (st : Stamp) (m : PtpMsg) (x : Nat) (s : State), s.Clocked ∧ s.coreUp = true ∧ s.crossingOpen (.host k st) = true ∧ s.listeners k.val m.domain.toNat = [(x, false)] ∧ m.kind = .announce) ∧
    (∃ (c : Crossing) (m : PtpMsg) (s : State), s.Clocked ∧ s.coreUp = true ∧ (m.kind = .management ∨ m.kind = .signalling) ∧ s.crossingOpen c = true) ∧
    (∃ (x : Fin 4) (sh : Bool) (k : Fin 24) (st : Stamp) (s : State), s.Clocked ∧ s.coreUp = true ∧ s.masterPort x.val sh k.val = true ∧ s.crossingOpen (.host k st) = true ∧ (s.servoOf x.val sh).twoStep = false) ∧
    (∃ (x : Fin 4) (sh : Bool) (k : Fin 24) (st : Stamp) (s : State), s.Clocked ∧ s.coreUp = true ∧ s.servoOn x.val sh = true ∧ s.crossingOpen (.host k st) = true ∧ (s.servoOf x.val sh).slave = true ∧ k.val = s.servoPort x.val sh) ∧
    (∃ (x : Fin 4) (sh : Bool) (port : Fin 26) (s : State), s.Clocked ∧ s.coreUp = true ∧ s.masterPort x.val sh port.val = true ∧ s.ptpOpen port.val = true) ∧
    (∃ (x : Fin 4) (sh : Bool) (port : Fin 26) (s : State), s.Clocked ∧ s.coreUp = true ∧ (s.masterPort x.val sh port.val = false ∨ s.ptpOpen port.val = false)) ∧
    (∃ (n : Nat) (s : State), s.Clocked ∧ 
      let x := s.rd TS_STAMP.PPS_CFG_TB_SEL
      
      let u := s.tbRead x n + centiU (s.rdI TS_STAMP.PPS_CFG_PPS_OUT_COMP)
      s.on TS_STAMP.PPS_CFG_OUT_EN = true ∧ s.on (TS_TB.TB_STATUS_VALID x) = true ∧ (s.tbOf x).stopped = false ∧ ((s.tbOf x).stepAt = 0 ∨ (s.tbOf x).stepAt < n) ∧ crossedSecond (s.tbAdj x) u = true) ∧
    (∃ (n : Nat) (s : State), s.Clocked ∧ 
      let x := s.rd TS_STAMP.PPS_CFG_TB_SEL
      (s.on TS_STAMP.PPS_CFG_OUT_EN = false ∨ s.on (TS_TB.TB_STATUS_VALID x) = false ∨ (s.tbOf x).stopped = true ∨ ((s.tbOf x).stepAt ≠ 0 ∧ n ≤ (s.tbOf x).stepAt) ∨ crossedSecond (s.tbAdj x) (s.tbRead x n + centiU (s.rdI TS_STAMP.PPS_CFG_PPS_OUT_COMP)) = false)) ∧
    (∃ (falling : Bool) (s : State), s.Clocked ∧ s.on TS_STAMP.PPS_IN_CFG_EN = true ∧ s.on TS_STAMP.PPS_IN_CFG_EDGE = falling) ∧
    (∃ (falling : Bool) (s : State), s.Clocked ∧ (s.on TS_STAMP.PPS_IN_CFG_EN = false ∨ s.on TS_STAMP.PPS_IN_CFG_EDGE ≠ falling)) ∧
    (∃ (sec : Nat) (s : State), s.Clocked ∧ s.todDue = some sec ∧ s.on TS_STAMP.TOD_CFG_OUT_EN = true) ∧
    (∃ (s : State), s.Clocked ∧ s.todDue = none) ∧
    (∃ (s : State), s.Clocked ∧ s.on TS_STAMP.TOD_CFG_IN_EN = false) ∧
    (∃ (bytes : List Byte) (n : Nat) (s : State), s.Clocked ∧ s.on TS_STAMP.TOD_CFG_IN_EN = true ∧ (s.todLate n = true ∨ bytes.length ≠ 14 ∨ (bytes.map (·.toNat)).take 2 ≠ [0xA5, 0x5A] ∨ ofBytes ((bytes.map (·.toNat)).drop 12) ≠ crc16 (byteBits ((bytes.map (·.toNat)).take 12)))) ∧
    (∃ (bytes : List Byte) (n : Nat) (s : State), s.Clocked ∧ s.on TS_STAMP.TOD_CFG_IN_EN = true ∧ s.todLate n = false ∧ bytes.length = 14 ∧ (bytes.map (·.toNat)).take 2 = [0xA5, 0x5A] ∧ ofBytes ((bytes.map (·.toNat)).drop 12) = crc16 (byteBits ((bytes.map (·.toNat)).take 12))) :=
  ⟨⟨(.host 3 ⟨5, 7⟩ : Crossing), (up : State), by decide +kernel⟩,
   ⟨(6 : Fin 24), (⟨0, 0⟩ : Stamp), ({ (⟨.announce, 24, false, 0, 0, 0, 0, 0, 0, 0, 0, 0, 0⟩ : PtpMsg) with domain := 24, kind := .sync, twoStep := false } : PtpMsg), (2 : Nat), ((fun s => tbSlave s 2 6) ((fun s => clientUp s 6) ((fun s => s.onServo ((2 : Nat)) false fun q_ => { q_ with heard := true }) up)) : State), by decide +kernel⟩,
   ⟨(6 : Fin 24), (⟨0, 0⟩ : Stamp), ({ (⟨.announce, 24, false, 0, 0, 0, 0, 0, 0, 0, 0, 0, 0⟩ : PtpMsg) with domain := 24, kind := .sync } : PtpMsg), (2 : Nat), ((fun s => tbSlave s 2 6) ((fun s => clientUp s 6) up) : State), by decide +kernel⟩,
   ⟨(6 : Fin 24), (⟨0, 0⟩ : Stamp), ({ (⟨.announce, 24, false, 0, 0, 0, 0, 0, 0, 0, 0, 0, 0⟩ : PtpMsg) with domain := 24, kind := .delayReq } : PtpMsg), (2 : Nat), (false : Bool), ((fun s => s.onServo 2 false fun v => { v with kind := 1 }) ((fun s => tbSlave s 2 7) ((fun s => clientUp s 6) up)) : State), by decide +kernel⟩,
   ⟨(6 : Fin 24), (⟨0, 0⟩ : Stamp), ({ (⟨.announce, 24, false, 0, 0, 0, 0, 0, 0, 0, 0, 0, 0⟩ : PtpMsg) with domain := 24, kind := .announce } : PtpMsg), (2 : Nat), ((fun s => tbSlave s 2 6) ((fun s => clientUp s 6) up) : State), by decide +kernel⟩,
   ⟨(.line .E 3 (⟨0, 0⟩ : Stamp) : Crossing), ({ (⟨.announce, 24, false, 0, 0, 0, 0, 0, 0, 0, 0, 0, 0⟩ : PtpMsg) with kind := .signalling } : PtpMsg), ((fun s => s.wr (HB_FRAME.FRM_STATUS_SYNC .E) 1) up : State), by decide +kernel⟩,
   ⟨(2 : Fin 4), (false : Bool), (6 : Fin 24), (⟨0, 0⟩ : Stamp), ((fun s => s.onServo 2 false fun q_ => { q_ with kind := 1, twoStep := false }) ((fun s => tbSlave s 2 6) ((fun s => clientUp s 6) up)) : State), by decide +kernel⟩,
   ⟨(2 : Fin 4), (false : Bool), (6 : Fin 24), (⟨0, 0⟩ : Stamp), ((fun s => tbSlave s 2 6) ((fun s => clientUp s 6) up) : State), by decide +kernel⟩,
   ⟨(2 : Fin 4), (false : Bool), ([6, 24].getD (((fun s => s.onServo 2 false fun q_ => { q_ with kind := 1 }) ((fun s => tbSlave s 2 7) ((fun s => clientUp s 6) up)) : State).tclk % 2) 6 : Fin 26), ((fun s => s.onServo 2 false fun q_ => { q_ with kind := 1 }) ((fun s => tbSlave s 2 7) ((fun s => clientUp s 6) up)) : State), by decide +kernel⟩,
   ⟨(1 : Fin 4), (true : Bool), (1 : Fin 26), (up : State), by decide +kernel⟩,
   ⟨(0 : Nat), ((fun s => s.wr (TS_TB.TB_STATUS_VALID (s.rd TS_STAMP.PPS_CFG_TB_SEL)) 1) ((fun s => s.wr TS_STAMP.PPS_CFG_OUT_EN 1) up) : State), by decide +kernel⟩,
   ⟨(1 : Nat), (up : State), by decide +kernel⟩,
   ⟨(true : Bool), ((fun s => s.wr (TS_STAMP.PPS_IN_CFG_EDGE) (bit (true : Bool))) ((fun s => s.wr (TS_STAMP.PPS_IN_CFG_EN) (1)) up) : State), by decide +kernel⟩,
   ⟨(true : Bool), (up : State), by decide +kernel⟩,
   ⟨(1 : Nat), ((fun s => s.wr (TS_STAMP.TOD_CFG_OUT_EN) (1)) ((fun s => { s with todDue := some (1 : Nat) }) up) : State), by decide +kernel⟩,
   ⟨(up : State), by decide +kernel⟩,
   ⟨(up : State), by decide +kernel⟩,
   ⟨([] : List Byte), (1 : Nat), ((fun s => s.wr (TS_STAMP.TOD_CFG_IN_EN) (1)) up : State), by decide +kernel⟩,
   ⟨(todGood : List Byte), (1 : Nat), ((fun s => s.wr (TS_STAMP.TOD_CFG_IN_EN) (1)) up : State), by decide +kernel⟩⟩

/-- The hypotheses of `MonitoringRoundsAndConversions` are met, case by case. -/
theorem witness_monitoringRoundsAndConversions :
    (∃ (s : State), s.monRuns = true) ∧
    (∃ (s : State), s.monRuns = false) ∧
    (∃ (e : Fin 32) (x : ConvCodes) (s : State), s.Converts e.val x ∧ s.monLeft.isEmpty = false ∧ e.val ≤ s.rd MON_SEQ.SEQ_CTRL_LAST ∧ s.mon.round ≠ 0 ∧ (s.monEntry e.val).mode = 2 ∧ s.rd (MON_FILT.FCFG_BANK0 e.val) = 0 ∧ s.rd (MON_FILT.FCFG_BANK1 e.val) = 0 ∧ s.on (MON_FILT.FSTAT_FADING e.val) = false) ∧
    (∃ (e : Fin 32) (x : ConvCodes) (s : State), s.Converts e.val x ∧ s.monLeft.isEmpty = false ∧ e.val ≤ s.rd MON_SEQ.SEQ_CTRL_LAST ∧ s.mon.round ≠ 0 ∧ (s.monEntry e.val).mode ≤ 1 ∧ s.rd (MON_FILT.FCFG_BANK0 e.val) = 0 ∧ s.rd (MON_FILT.FCFG_BANK1 e.val) = 0 ∧ s.on (MON_FILT.FSTAT_FADING e.val) = false) ∧
    (∃ (e : Fin 32) (x : ConvCodes) (s : State), s.Converts e.val x ∧ s.monLeft.isEmpty = false ∧ e.val ≤ s.rd MON_SEQ.SEQ_CTRL_LAST ∧ s.mon.round ≠ 0 ∧ (s.monEntry e.val).mode = 3 ∧ s.rd (MON_FILT.FCFG_BANK0 e.val) = 0 ∧ s.rd (MON_FILT.FCFG_BANK1 e.val) = 0 ∧ s.on (MON_FILT.FSTAT_FADING e.val) = false ∧ (let ch := (s.monEntry e.val).ch
     s.inCheckWin (codeValue ch x.a.toNat) (codeValue ch x.b.toNat) = true)) ∧
    (∃ (e : Fin 32) (x : ConvCodes) (s : State), s.monRuns = true ∧ s.monLeft = [0, 1] ∧ e.val ≤ s.rd MON_SEQ.SEQ_CTRL_LAST ∧ s.mon.round ≠ 0 ∧ 3 ≤ (s.monEntry e.val).mode ∧ (let ch := (s.monEntry e.val).ch
     s.inCheckWin (codeValue ch x.a.toNat) (codeValue ch x.b.toNat) = false ∧
     s.inCheckWin (codeValue ch x.ra.toNat) (codeValue ch x.rb.toNat) = false) ∧ s.refBad x.refA.toNat = false ∧ s.refBad x.refB.toNat = false) ∧
    (∃ (e : Fin 32) (x : ConvCodes) (s : State), (¬ s.Converts e.val x ∨ s.rd MON_SEQ.SEQ_CTRL_LAST < e.val)) ∧
    (∃ (r : Requester) (s : State), s.Takes r 17 0x050 ∧ s.on MON_SEQ.URG_RESULT_PENDING = false) ∧
    (∃ (r : Requester) (s : State), s.Takes r 17 0x050 ∧ s.on MON_SEQ.URG_RESULT_PENDING = true) ∧
    (∃ (s : State), s.on MON_SEQ.URG_RESULT_PENDING = true ∧ s.monClocked = true ∧ s.monLeft.isEmpty = false) ∧
    (∃ (s : State), (s.on MON_SEQ.URG_RESULT_PENDING = false ∨ s.monClocked = false ∨ s.monLeft.isEmpty = true)) ∧
    (∃ (r : Requester) (e : Fin 32) (b : Bool) (s : State), s.Takes r 18 (0x044 + 0x10 * e.val) ∧ s.on (MON_FILT.FSTAT_FADING e.val) = false ∧ s.on (MON_FILT.FSTAT_ACTIVE e.val) ≠ b) ∧
    (∃ (r : Requester) (e : Fin 32) (b : Bool) (s : State), s.Takes r 18 (0x044 + 0x10 * e.val) ∧ s.on (MON_FILT.FSTAT_FADING e.val) = false ∧ s.on (MON_FILT.FSTAT_ACTIVE e.val) = b) ∧
    (∃ (r : Requester) (e : Fin 32) (s : State), s.Takes r 18 (0x044 + 0x10 * e.val) ∧ s.on (MON_FILT.FSTAT_FADING e.val) = true) :=
  ⟨⟨(up : State), by decide +kernel⟩,
   ⟨((fun s => s.wr MON_SEQ.SEQ_CTRL_RUN 0) up : State), by decide +kernel⟩,
   ⟨(1 : Fin 32), (⟨0, 0, 0, 0, 0, 0⟩ : ConvCodes), ((fun s => { s with mon := { s.mon with entries := [((1 : Fin 32).val, ⟨3, 2, 4, []⟩)], round := 1 } }) ((fun s => s.wr ((MON_FILT.FCFG_BANK1 (1 : Fin 32).val)) (0)) ((fun s => s.wr ((MON_FILT.FCFG_BANK0 (1 : Fin 32).val)) (0)) up)) : State), by decide +kernel⟩,
   ⟨(1 : Fin 32), (⟨0, 0, 0, 0, 0, 0⟩ : ConvCodes), ((fun s => { s with mon := { s.mon with round := 1 } }) ((fun s => s.wr ((MON_FILT.FCFG_BANK1 (1 : Fin 32).val)) (0)) ((fun s => s.wr ((MON_FILT.FCFG_BANK0 (1 : Fin 32).val)) (0)) up)) : State), by decide +kernel⟩,
   ⟨(1 : Fin 32), ({ (⟨0, 0, 0, 0, 0, 0⟩ : ConvCodes) with a := 77, b := 79 } : ConvCodes), ((fun s => (s.wr (MON_FILT.FCFG_BANK0 (1 : Fin 32).val) 0).wr (MON_FILT.FCFG_BANK1 (1 : Fin 32).val) 0) ((fun s => s.setMonEntry (1 : Fin 32).val { s.monEntry (1 : Fin 32).val with mode := 3 }) ((fun s => { s with mon := { s.mon with round := 7 } }) up)) : State), by decide +kernel⟩,
   ⟨(1 : Fin 32), (⟨0, 30000, 100, 25000, 20000, 20000⟩ : ConvCodes), ((fun s => { s with mon := { s.mon with entries := [((1 : Fin 32).val, ⟨3, 3, 4, []⟩)], round := 1 } }) up : State), by decide +kernel⟩,
   ⟨(1 : Fin 32), (⟨0, 0, 0, 0, 0, 0⟩ : ConvCodes), ((fun s => s.wr MON_SEQ.SEQ_CTRL_RUN 0) up : State), by decide +kernel⟩,
   ⟨(.pcie : Requester), (up : State), by decide +kernel⟩,
   ⟨(.pcie : Requester), ((fun s => s.wr (MON_SEQ.URG_RESULT_PENDING) (1)) up : State), by decide +kernel⟩,
   ⟨((fun s => s.wr (MON_SEQ.URG_RESULT_PENDING) (1)) up : State), by decide +kernel⟩,
   ⟨(up : State), by decide +kernel⟩,
   ⟨(.pcie : Requester), (1 : Fin 32), (true : Bool), (up : State), by decide +kernel⟩,
   ⟨(.pcie : Requester), (1 : Fin 32), (true : Bool), ((fun s => s.wr ((MON_FILT.FSTAT_ACTIVE (1 : Fin 32).val)) (bit (true : Bool))) up : State), by decide +kernel⟩,
   ⟨(.pcie : Requester), (1 : Fin 32), ((fun s => s.wr ((MON_FILT.FSTAT_FADING (1 : Fin 32).val)) (1)) up : State), by decide +kernel⟩⟩

/-- The hypotheses of `CalibrationTasksAndRails` are met, case by case. -/
theorem witness_calibrationTasksAndRails :
    (∃ (k : Fin 4) (a : List Int) (s : State), s.coreUp = true ∧ bitOf (s.rd PWR_MGR.CAL_STATE_ACTIVE) k.val = true ∧ bitOf (s.rd PWR_MGR.CAL_STATE_PENDING) k.val = false ∧ s.taskPlausible k.val a = true) ∧
    (∃ (k : Fin 4) (a b : List Int) (s : State), s.coreUp = true ∧ bitOf (s.rd PWR_MGR.CAL_STATE_ACTIVE) k.val = true ∧ bitOf (s.rd PWR_MGR.CAL_STATE_PENDING) k.val = false ∧ s.taskPlausible k.val a = false ∧ s.taskPlausible k.val b = true) ∧
    (∃ (k : Fin 4) (a b : List Int) (s : State), s.coreUp = true ∧ bitOf (s.rd PWR_MGR.CAL_STATE_ACTIVE) k.val = true ∧ bitOf (s.rd PWR_MGR.CAL_STATE_PENDING) k.val = false ∧ s.taskPlausible k.val a = false ∧ s.taskPlausible k.val b = false) ∧
    (∃ (k : Fin 4) (s : State), (s.coreUp = false ∨ bitOf (s.rd PWR_MGR.CAL_STATE_ACTIVE) k.val = false)) ∧
    (∃ (s : State), s.on PWR_MGR.PMB_CFG_ENABLE = true) ∧
    (∃ (s : State), s.on PWR_MGR.PMB_CFG_ENABLE = false) ∧
    (∃ (r : Nat) (s : State), s.on PWR_MGR.AVS_CFG_AVS_EN = true ∧ s.on PWR_MGR.PMB_CFG_ENABLE = true ∧ s.avsRail = some r) ∧
    (∃ (s : State), s.on PWR_MGR.AVS_CFG_AVS_EN = true ∧ (s.on PWR_MGR.PMB_CFG_ENABLE = false ∨ s.avsRail = none)) ∧
    (∃ (s : State), s.on PWR_MGR.AVS_CFG_AVS_EN = false) ∧
    (∃ (d : Fin 26) (s : State), (bitOf (s.rd CK_SYN.GATE_STATE_CLOSED) d.val = false ∨ s.on PWR_MGR.PWR_CFG_GATE_UNUSED = false)) ∧
    (∃ (d : Fin 26) (s : State), bitOf (s.rd CK_SYN.GATE_STATE_CLOSED) d.val = true ∧ s.on PWR_MGR.PWR_CFG_GATE_UNUSED = true) :=
  ⟨⟨(1 : Fin 4), ([] : List Int), ((fun s => s.wr PWR_MGR.CAL_STATE_ACTIVE 15) up : State), by decide +kernel⟩,
   ⟨(0 : Fin 4), ([100000] : List Int), ([] : List Int), ((fun s => s.wr PWR_MGR.CAL_STATE_ACTIVE 15) up : State), by decide +kernel⟩,
   ⟨(1 : Fin 4), ([100000] : List Int), ([1000000, 5] : List Int), ((fun s => (s.wr PWR_MGR.CAL_STATE_ACTIVE 15).wr PWR_MGR.CAL_STATE_PENDING 0) up : State), by decide +kernel⟩,
   ⟨(1 : Fin 4), (up : State), by decide +kernel⟩,
   ⟨((fun s => s.wr (PWR_MGR.PMB_CFG_ENABLE) (1)) up : State), by decide +kernel⟩,
   ⟨(up : State), by decide +kernel⟩,
   ⟨((((fun s => (s.wr (PWR_MGR.RAIL_CFG_EN 2) 1).wr (PWR_MGR.RAIL_CFG_AVS 2) 1) ((fun s => s.wr (PWR_MGR.PMB_CFG_ENABLE) (1)) up) : State).railsOn.find? fun r => ((fun s => (s.wr (PWR_MGR.RAIL_CFG_EN 2) 1).wr (PWR_MGR.RAIL_CFG_AVS 2) 1) ((fun s => s.wr (PWR_MGR.PMB_CFG_ENABLE) (1)) up) : State).on (PWR_MGR.RAIL_CFG_AVS r)).getD 0 : Nat), ((fun s => (s.wr (PWR_MGR.RAIL_CFG_EN 2) 1).wr (PWR_MGR.RAIL_CFG_AVS 2) 1) ((fun s => s.wr (PWR_MGR.PMB_CFG_ENABLE) (1)) up) : State), by decide +kernel⟩,
   ⟨(up : State), by decide +kernel⟩,
   ⟨((fun s => s.wr (PWR_MGR.AVS_CFG_AVS_EN) (0)) up : State), by decide +kernel⟩,
   ⟨(1 : Fin 26), (up : State), by decide +kernel⟩,
   ⟨(1 : Fin 26), ((fun s => s.wr CK_SYN.GATE_STATE_CLOSED (2 ^ (1 : Fin 26).val)) up : State), by decide +kernel⟩⟩

/-- The hypotheses of `ControlCoresBootMoultAndReport` are met, case by case. -/
theorem witness_controlCoresBootMoultAndReport :
    (∃ (i : FwImage) (s : State), s.clock.ctrlRun = true ∧ s.clock.stopped = false ∧ s.coreSt 0 ≠ 1 ∧ s.coreSt 1 ≠ 1 ∧ s.rd MG_CTL.CORE_STATUS_RUN_SLOT ≠ 2 ∧ s.on MG_CTL.CORE_STATUS_FATAL = false ∧ s.coreQuarantined 0 = false ∧ s.coreQuarantined 1 = false ∧ s.validSlot (if s.flash.dirOk then s.flash.pref % 2 else 0) = some i) ∧
    (∃ (s : State), s.clock.ctrlRun = true ∧ s.clock.stopped = false ∧ s.coreSt 0 ≠ 1 ∧ s.coreSt 1 ≠ 1 ∧ s.rd MG_CTL.CORE_STATUS_RUN_SLOT ≠ 2 ∧ s.on MG_CTL.CORE_STATUS_FATAL = false ∧ s.validSlot 0 = none ∧ s.validSlot 1 = none) ∧
    (∃ (s : State), (s.clock.ctrlRun = false ∨ s.clock.stopped = true ∨ s.coreSt 0 = 1 ∨ s.coreSt 1 = 1)) ∧
    (∃ (s : State), s.clock.stopped = false ∧ s.coreSt s.activeCore = 1 ∧ s.coreSt (1 - s.activeCore) = 2) ∧
    (∃ (s : State), s.clock.stopped = false ∧ s.coreSt s.activeCore = 1 ∧ s.coreSt (1 - s.activeCore) ≠ 2) ∧
    (∃ (r : Requester) (s : State), s.Takes r 1 0x050 ∧ s.coreSt s.activeCore = 1 ∧ s.coreSt (1 - s.activeCore) = 2) ∧
    (∃ (c : Nat) (s : State), s.core.selfTest = some c ∧ s.core.reload = false) ∧
    (∃ (c : Nat) (s : State), s.core.selfTest = some c) ∧
    (∃ (s : State), s.core.selfTest = none) ∧
    (∃ (slot x : Nat) (i : FwImage) (s : State), s.coreUp = true ∧ s.core.moult = some (slot, x) ∧ x < 2 ∧ s.moultCheck slot = none ∧ s.validSlot slot = some i) ∧
    (∃ (s : State), s.coreUp = true ∧ s.core.moult = none) ∧
    (∃ (c : Nat) (s : State), s.core.selfTest = some c ∧ s.core.reload = true) ∧
    (∃ (r : Requester) (s : State), s.Takes r 1 0x054) ∧
    (∃ (x : Telemetry) (s : State), s.coreUp = true ∧ s.tel = some x ∧ x.left = 0 ∧ s.serviceError 15 = none ∧ s.serviceRuns 15 = true) ∧
    (∃ (x : Telemetry) (s : State), s.coreUp = true ∧ s.tel = some x ∧ x.left = 0 ∧ s.serviceError 15 = none ∧ s.serviceRuns 15 = false) ∧
    (∃ (x : Telemetry) (ok : Bool) (s : State), s.coreUp = true ∧ s.tel = some x ∧ x.left = 0 ∧ (ok = false ∨ s.serviceError 15 ≠ none)) ∧
    (∃ (p : Port) (s : State), s.Clocked ∧ s.sfCause p = true ∧ (s.report? p = rptOk ∨ s.report? p = rptSd ∨ s.report? p = rptWtr)) ∧
    (∃ (p : Port) (s : State), s.Clocked ∧ (s.sfCause p = false ∨ s.report? p = rptForced)) ∧
    (∃ (p : Port) (s : State), s.Clocked ∧ s.report? p = rptWtr) ∧
    (∃ (p : Port) (s : State), s.Clocked ∧ s.report? p ≠ rptWtr) :=
  ⟨⟨(goodImg : FwImage), ((fun s => (s.wr MG_CTL.CORE_STATUS_CORE0 0).wr MG_CTL.CORE_STATUS_CORE1 0) ((FLASH) up) : State), by decide +kernel⟩,
   ⟨((fun s => (s.wr MG_CTL.CORE_STATUS_CORE0 0).wr MG_CTL.CORE_STATUS_CORE1 0) up : State), by decide +kernel⟩,
   ⟨(up : State), by decide +kernel⟩,
   ⟨(up : State), by decide +kernel⟩,
   ⟨((fun s => (s.wr MG_CTL.CORE_STATUS_ACTIVE 0).wr MG_CTL.CORE_STATUS_CORE1 3) up : State), by decide +kernel⟩,
   ⟨(.pcie : Requester), (up : State), by decide +kernel⟩,
   ⟨(1 : Nat), ((fun s => { s with core := { s.core with selfTest := some (1 : Nat) } }) up : State), by decide +kernel⟩,
   ⟨(1 : Nat), ((fun s => { s with core := { s.core with selfTest := some (1 : Nat) } }) up : State), by decide +kernel⟩,
   ⟨(up : State), by decide +kernel⟩,
   ⟨(0 : Nat), (0 : Nat), (goodImg : FwImage), ((FLASH) ((fun s => { s with core := { s.core with moult := some ((0 : Nat), (0 : Nat)) } }) up) : State), by decide +kernel⟩,
   ⟨(up : State), by decide +kernel⟩,
   ⟨(1 : Nat), ((fun s => { s with core := { s.core with reload := true } }) ((fun s => { s with core := { s.core with selfTest := some (1 : Nat) } }) up) : State), by decide +kernel⟩,
   ⟨(.pcie : Requester), (up : State), by decide +kernel⟩,
   ⟨({ (⟨0, 10, 0, 4, 0, 0⟩ : Telemetry) with left := 0 } : Telemetry), ((fun s => svcUp s 15) ((fun s => { s with tel := some ({ (⟨0, 10, 0, 4, 0, 0⟩ : Telemetry) with left := 0 } : Telemetry) }) up) : State), by decide +kernel⟩,
   ⟨(⟨0, 10, 0, 4, 0, 0⟩ : Telemetry), ((fun s => { s with tel := some (⟨0, 10, 0, 4, 0, 0⟩ : Telemetry) }) up : State), by decide +kernel⟩,
   ⟨({ (⟨0, 10, 0, 4, 0, 0⟩ : Telemetry) with left := 0 } : Telemetry), (false : Bool), ((fun s => { s with tel := some ({ (⟨0, 10, 0, 4, 0, 0⟩ : Telemetry) with left := 0 } : Telemetry) }) up : State), by decide +kernel⟩,
   ⟨(.E : Port), ((fun s => (s.wr (RXFE.RX_CTRL_RX_ENABLE (.E : Port)) 0).wr (reqField (.E : Port)) rptOk) up : State), by decide +kernel⟩,
   ⟨(.E : Port), ((fun s => s.wr (reqField (.E : Port)) rptForced) up : State), by decide +kernel⟩,
   ⟨(.E : Port), ((fun s => s.wr (reqField (.E : Port)) rptWtr) up : State), by decide +kernel⟩,
   ⟨(.E : Port), (up : State), by decide +kernel⟩⟩

/-- The hypotheses of `RingEntryReportsAndPlans` are met, case by case. -/
theorem witness_ringEntryReportsAndPlans :
    (∃ (r : Requester) (s : State), s.Takes r 25 0x044 ∧ s.inRing = false ∧ s.emergeRefuse = 0) ∧
    (∃ (r : Requester) (s : State), s.Takes r 25 0x044 ∧ s.inRing = false ∧ s.emergeRefuse ≠ 0) ∧
    (∃ (r : Requester) (s : State), s.Takes r 25 0x044 ∧ s.inRing = true) ∧
    (∃ (r : Requester) (s : State), s.Takes r 25 0x044 ∧ s.inRing = false) ∧
    (∃ (r : Requester) (data : Word) (s : State), s.Takes r 25 0x044 ∧ bitOf data.toNat 0 = true ∧ bitOf data.toNat 1 = true) ∧
    (∃ (r : Requester) (s : State), s.Takes r 25 0x050) ∧
    (∃ (r : Requester) (p : Port) (s : State), s.Takes r 25 0x050 ∧ s.report? p = rptForced) ∧
    (∃ (s : State), s.coreUp = true ∧ s.Clocked ∧ (s.prot.hold = true ∨ (s.movedSpans = s.prot.failed ∧ s.prot.waiting = []))) ∧
    (∃ (s : State), s.coreUp = true ∧ s.Clocked ∧ s.prot.hold = false ∧ s.movedSpans = [] ∧ s.prot.failed ≠ [] ∧ s.spansOk s.prot.failed = true ∧ s.prot.inForce ≠ 0) ∧
    (∃ (s : State), s.coreUp = true ∧ s.Clocked ∧ s.prot.hold = false ∧ s.movedSpans ≠ s.prot.failed ∧ s.movedSpans.isEmpty = false ∧ s.planFor s.movedSpans = none) ∧
    (∃ (n : Nat) (s : State), s.coreUp = true ∧ s.Clocked ∧ s.prot.hold = false ∧ s.movedSpans ≠ s.prot.failed ∧ s.movedSpans.isEmpty = false ∧ s.planFor s.movedSpans = some n) ∧
    (∃ (p : Port) (s : State), s.coreUp = true ∧ s.prot.hold = false ∧ s.prot.waiting.contains p.toNat = true ∧ s.swapCause p = 0) ∧
    (∃ (p : Port) (s : State), s.coreUp = true ∧ (s.prot.hold = true ∨ s.prot.waiting.contains p.toNat = false)) :=
  ⟨⟨(.pcie : Requester), ((fun s => portsOn s) up : State), by decide +kernel⟩,
   ⟨(.pcie : Requester), (up : State), by decide +kernel⟩,
   ⟨(.pcie : Requester), ((fun s => s.wr (HB_RING.RING_STATUS_IN_RING) (1)) up : State), by decide +kernel⟩,
   ⟨(.pcie : Requester), (up : State), by decide +kernel⟩,
   ⟨(.pcie : Requester), (3 : Word), (up : State), by decide +kernel⟩,
   ⟨(.pcie : Requester), (up : State), by decide +kernel⟩,
   ⟨(.pcie : Requester), (.E : Port), ((fun s => s.wr (reqField (.E : Port)) rptForced) up : State), by decide +kernel⟩,
   ⟨((fun s => { s with prot := { s.prot with hold := true } }) up : State), by decide +kernel⟩,
   ⟨((fun s => { s with prot := { s.prot with failed := [0], inForce := 1, hold := false } }) ((fun s => (s.wr (reqField .E) 0).wr (reqField .W) 0) up) : State), by decide +kernel⟩,
   ⟨(up : State), by decide +kernel⟩,
   ⟨(4 : Nat), ((fun s => { s with prot := { s.prot with plans := [(4, ⟨[0], [], []⟩)], failed := [] } }) ((fun s => failE s) up) : State), by decide +kernel⟩,
   ⟨(.E : Port), ((fun _ => swapReady) up : State), by decide +kernel, by decide +kernel, by decide +kernel, swap_ready⟩,
   ⟨(.E : Port), (up : State), by decide +kernel⟩⟩

/-- The hypotheses of `RateGlideNegotiation` are met, case by case. -/
theorem witness_rateGlideNegotiation :
    (∃ (p : Port) (m : NegMsg) (n : Nat) (s : State), s.coreUp = true ∧ s.Clocked ∧ s.rejectCause p m n = 0) ∧
    (∃ (p : Port) (m : NegMsg) (n : Nat) (s : State), s.coreUp = true ∧ s.Clocked ∧ s.rejectCause p m n ≠ 0) ∧
    (∃ (p : Port) (m : NegMsg) (u s : State), s.coreUp = true ∧ s.Clocked ∧ s.negSt p = negWaitAccept ∧ m.txn = s.rd (HB_RING.NEG_STATUS_TXN p) ∧ (let n := { s.neg.get p with atR := m.atR, confirms := 3 }
     (s.onNeg p fun _ => n).stageGlide p n.fwd n.rev = some u)) ∧
    (∃ (p : Port) (s : State), s.coreUp = true ∧ s.Clocked ∧ ((bitOf (s.neg.get p).dir 0 = true ∧ s.groupPending p.toNat = true) ∨ (bitOf (s.neg.get p).dir 1 = true ∧ s.groupPending (4 + p.toNat) = true))) ∧
    (∃ (p : Port) (m : NegMsg) (s : State), s.coreUp = true ∧ s.Clocked ∧ (s.negSt p ≠ negWaitAccept ∨ m.txn ≠ s.rd (HB_RING.NEG_STATUS_TXN p))) ∧
    (∃ (p : Port) (m : NegMsg) (s : State), s.coreUp = true ∧ s.Clocked ∧ s.negSt p = negWaitAccept ∧ m.txn = s.rd (HB_RING.NEG_STATUS_TXN p)) ∧
    (∃ (p : Port) (m : NegMsg) (u s : State), s.coreUp = true ∧ s.Clocked ∧ s.negSt p = negWaitConfirm ∧ m.txn = s.rd (HB_RING.NEG_STATUS_TXN p) ∧ s.stageGlide p (s.neg.get p).rev (s.neg.get p).fwd = some u) ∧
    (∃ (p : Port) (s : State), s.coreUp = true ∧ s.Clocked ∧ ((bitOf (s.neg.get p).dir 1 = true ∧ s.groupPending p.toNat = true) ∨ (bitOf (s.neg.get p).dir 0 = true ∧ s.groupPending (4 + p.toNat) = true))) ∧
    (∃ (p : Port) (m : NegMsg) (s : State), s.coreUp = true ∧ s.Clocked ∧ (s.negSt p ≠ negWaitConfirm ∨ m.txn ≠ s.rd (HB_RING.NEG_STATUS_TXN p))) ∧
    (∃ (p : Port) (m : NegMsg) (s : State), s.coreUp = true ∧ s.Clocked ∧ s.negSt p = negCommitted ∧ m.txn = s.rd (HB_RING.NEG_STATUS_TXN p)) ∧
    (∃ (p : Port) (m : NegMsg) (s : State), s.coreUp = true ∧ s.Clocked ∧ (s.negSt p ≠ negCommitted ∨ m.txn ≠ s.rd (HB_RING.NEG_STATUS_TXN p))) ∧
    (∃ (p : Port) (s : State), s.coreUp = true ∧ s.negSt p = negWaitAccept ∧ fcReached ((s.frame.get p).fcTx + 2048) (s.neg.get p).atF = true) ∧
    (∃ (p : Port) (s : State), (s.negSt p ≠ negWaitAccept ∨ fcReached ((s.frame.get p).fcTx + 2048) (s.neg.get p).atF = false)) ∧
    (∃ (p : Port) (s : State), (s.negSt p ≠ negWaitConfirm ∨ fcReached ((s.frame.get p).fcRx + 512) (s.neg.get p).atF = false)) ∧
    (∃ (p : Port) (s : State), s.coreUp = true ∧ s.negSt p = negWaitConfirm ∧ fcReached ((s.frame.get p).fcRx + 512) (s.neg.get p).atF = true) ∧
    (∃ (p : Port) (s : State), s.coreUp = true ∧ s.Clocked ∧ s.negSt p = negCommitted ∧ s.boundariesPassed p = true) ∧
    (∃ (p : Port) (s : State), s.coreUp = true ∧ s.Clocked ∧ s.negSt p = negStaged ∧ s.boundariesPassed p = true) ∧
    (∃ (p : Port) (s : State), s.coreUp = true ∧ s.Clocked ∧ s.boundariesPassed p = false) ∧
    (∃ (p : Port) (s : State), s.coreUp = true ∧ s.Clocked ∧ (s.neg.get p).retry = true ∧ s.negSt p = negIdle) ∧
    (∃ (p : Port) (s : State), s.coreUp = true ∧ (s.neg.get p).retry = true ∧ s.negSt p ≠ negIdle) ∧
    (∃ (p : Port) (s : State), s.coreUp = true ∧ (s.neg.get p).retry = false) :=
  ⟨⟨(.E : Port), (⟨1, 0, 0, 0, 0, 0, 25600, 0, 0, 0, 0⟩ : NegMsg), (1 : Nat), ((fun s => (s.wr (reqField (.E : Port)) rptOk)) up : State), by decide +kernel⟩,
   ⟨(.E : Port), (⟨5, 0, 0, 0, 0, 0, 0, 0, 0, 0, 0⟩ : NegMsg), (1 : Nat), (up : State), by decide +kernel⟩,
   ⟨(.E : Port), (⟨1, 0, 0, 0, 0, 0, 25600, 0, 0, 0, 0⟩ : NegMsg), ((let n := { ((fun s => (s.setNeg (.E : Port) negWaitAccept).wr (HB_RING.NEG_STATUS_TXN (.E : Port)) 1) up : State).neg.get (.E : Port) with atR := (⟨1, 0, 0, 0, 0, 0, 25600, 0, 0, 0, 0⟩ : NegMsg).atR, confirms := 3 }; (((fun s => (s.setNeg (.E : Port) negWaitAccept).wr (HB_RING.NEG_STATUS_TXN (.E : Port)) 1) up : State).onNeg (.E : Port) fun _ => n).stageGlide (.E : Port) n.fwd n.rev).getD ((fun s => (s.setNeg (.E : Port) negWaitAccept).wr (HB_RING.NEG_STATUS_TXN (.E : Port)) 1) up : State) : State), ((fun s => (s.setNeg (.E : Port) negWaitAccept).wr (HB_RING.NEG_STATUS_TXN (.E : Port)) 1) up : State), by decide +kernel⟩,
   ⟨(.E : Port), ((fun s => { s with ecl := [(31 + 8 * (.E : Port).toNat, ⟨2 ^ (.E : Port).toNat, 3, 0, false, false⟩)], neg := s.neg.upd (.E : Port) fun n => { n with dir := 3 } }) up : State), by decide +kernel⟩,
   ⟨(.E : Port), (⟨2, 0, 0, 0, 0, 0, 25600, 0, 0, 0, 0⟩ : NegMsg), (up : State), by decide +kernel⟩,
   ⟨(.E : Port), (⟨1, 0, 0, 0, 0, 0, 25600, 0, 0, 0, 0⟩ : NegMsg), ((fun s => (s.setNeg (.E : Port) negWaitAccept).wr (HB_RING.NEG_STATUS_TXN (.E : Port)) 1) up : State), by decide +kernel⟩,
   ⟨(.E : Port), (⟨1, 0, 0, 0, 0, 0, 25600, 0, 0, 0, 0⟩ : NegMsg), ((((fun s => (s.setNeg (.E : Port) negWaitConfirm).wr (HB_RING.NEG_STATUS_TXN (.E : Port)) 1) up : State).stageGlide (.E : Port) (((fun s => (s.setNeg (.E : Port) negWaitConfirm).wr (HB_RING.NEG_STATUS_TXN (.E : Port)) 1) up : State).neg.get (.E : Port)).rev (((fun s => (s.setNeg (.E : Port) negWaitConfirm).wr (HB_RING.NEG_STATUS_TXN (.E : Port)) 1) up : State).neg.get (.E : Port)).fwd).getD ((fun s => (s.setNeg (.E : Port) negWaitConfirm).wr (HB_RING.NEG_STATUS_TXN (.E : Port)) 1) up : State) : State), ((fun s => (s.setNeg (.E : Port) negWaitConfirm).wr (HB_RING.NEG_STATUS_TXN (.E : Port)) 1) up : State), by decide +kernel⟩,
   ⟨(.E : Port), ((fun s => { s with ecl := [(31 + 8 * (.E : Port).toNat, ⟨2 ^ (.E : Port).toNat, 3, 0, false, false⟩)], neg := s.neg.upd (.E : Port) fun n => { n with dir := 3 } }) up : State), by decide +kernel⟩,
   ⟨(.E : Port), (⟨2, 0, 0, 0, 0, 0, 25600, 0, 0, 0, 0⟩ : NegMsg), (up : State), by decide +kernel⟩,
   ⟨(.E : Port), (⟨1, 0, 0, 0, 0, 0, 25600, 0, 0, 0, 0⟩ : NegMsg), ((fun s => (s.setNeg (.E : Port) negCommitted).wr (HB_RING.NEG_STATUS_TXN (.E : Port)) 1) up : State), by decide +kernel⟩,
   ⟨(.E : Port), (⟨5, 0, 0, 0, 0, 0, 0, 0, 0, 0, 0⟩ : NegMsg), (up : State), by decide +kernel⟩,
   ⟨(.E : Port), ((fun s => s.wr (HB_RING.NEG_STATUS_STATE (.E : Port)) (negWaitAccept)) up : State), by decide +kernel⟩,
   ⟨(.E : Port), (up : State), by decide +kernel⟩,
   ⟨(.E : Port), (up : State), by decide +kernel⟩,
   ⟨(.E : Port), ((fun s => s.wr (HB_RING.NEG_STATUS_STATE (.E : Port)) (negWaitConfirm)) up : State), by decide +kernel⟩,
   ⟨(.E : Port), ((fun s => s.wr (HB_RING.NEG_STATUS_STATE (.E : Port)) (negCommitted)) up : State), by decide +kernel⟩,
   ⟨(.E : Port), ((fun s => s.wr (HB_RING.NEG_STATUS_STATE (.E : Port)) (negStaged)) up : State), by decide +kernel⟩,
   ⟨(.E : Port), ((fun s => { s with neg := s.neg.upd (.E : Port) fun q_ => { q_ with dir := 3, atF := (s.frame.get (.E : Port)).fcTx + 5000, atR := (s.frame.get (.E : Port)).fcRx + 5000 } }) up : State), by decide +kernel⟩,
   ⟨(.E : Port), ((fun s => { s with neg := s.neg.upd (.E : Port) fun q_ => { q_ with retry := true } }) up : State), by decide +kernel⟩,
   ⟨(.E : Port), ((fun s => s.wr (HB_RING.NEG_STATUS_STATE (.E : Port)) ((if (negIdle) = 0 then 9 else 0))) ((fun s => { s with neg := s.neg.upd (.E : Port) fun q_ => { q_ with retry := true } }) up) : State), by decide +kernel⟩,
   ⟨(.E : Port), (up : State), by decide +kernel⟩⟩

/-- The hypotheses of `ResetsAndTheirRelease` are met, case by case. -/
theorem witness_resetsAndTheirRelease :
    (∃ (n : Nat), 1000 ≤ n) ∧
    (∃ (n : Nat), n < 100) ∧
    (∃ (n : Nat), 100 ≤ n ∧ n < 1000) ∧
    (∃ (s : State), s.clock.released = false) ∧
    (∃ (s : State), s.clock.released = true) ∧
    (∃ (s : State), s.core.retested = false ∧ s.Clocked ∧ s.clock.stopped = false ∧ s.core.retestDue = true) ∧
    (∃ (s : State), s.core.retested = false ∧ s.Clocked ∧ s.clock.stopped = false ∧ s.core.retestDue = false) ∧
    (∃ (s : State), s.core.retested = true) :=
  ⟨⟨(1000 + 0 : Nat), by decide +kernel⟩,
   ⟨(1 : Nat), by decide +kernel⟩,
   ⟨(100 + 9 * 0 : Nat), by decide +kernel⟩,
   ⟨((fun s => { s with clock := { s.clock with released := false } }) up : State), by decide +kernel⟩,
   ⟨(up : State), by decide +kernel⟩,
   ⟨((fun s => { s with core := { s.core with retested := false } }) up : State), by decide +kernel⟩,
   ⟨((fun s => { s with core := { s.core with retestDue := false } }) ((fun s => { s with core := { s.core with retested := false } }) up) : State), by decide +kernel⟩,
   ⟨(up : State), by decide +kernel⟩⟩

/-- The hypotheses of `HostSideResetsAndTheRestore` are met, case by case. -/
theorem witness_hostSideResetsAndTheRestore :
    (∃ (k : PcieReset) (c : Nat) (s : State), (k = .linkDown ∨ k = .perst) ∧ s.linkUp = true ∧ s.dmaHalted = false ∧ c < 16 ∧ (∀ d, d < c → s.dmaPendingRequest d = none) ∧ s.dmaPendingRequest c ≠ none) ∧
    (∃ (s : State), s.perstLow = true) ∧
    (∃ (s : State), s.perstLow = false) ∧
    (∃ (s : State), s.clock.released = true ∧ s.perstLow = false) ∧
    (∃ (s : State), (s.clock.released = false ∨ s.perstLow = true)) ∧
    (∃ (s : State), s.coreUp = true ∧ s.Clocked ∧ s.core.restored = false ∧ s.cfgNewest.bind s.cfgCopy = none) ∧
    (∃ (c : CfgCopy) (s : State), s.coreUp = true ∧ s.Clocked ∧ s.core.restored = false ∧ s.cfgNewest.bind s.cfgCopy = some c ∧ c.policy ≠ 1 ∧ c.policy ≠ 2) ∧
    (∃ (c : CfgCopy) (s : State), s.coreUp = true ∧ s.Clocked ∧ s.core.restored = false ∧ s.cfgNewest.bind s.cfgCopy = some c ∧ (c.policy = 1 ∨ c.policy = 2)) ∧
    (∃ (s : State), s.coreUp = true ∧ s.core.restored = true) ∧
    (∃ (s : State), s.coreUp = true ∧ s.core.emergeWait = true ∧ s.inRing = false ∧ s.enabledPorts.isEmpty = false ∧ (∀ p ∈ s.enabledPorts, s.acqSt p = acqAcquired ∧ s.txSt p = txOn)) ∧
    (∃ (s : State), s.coreUp = true ∧ s.core.emergeWait = true ∧ (s.enabledPorts.isEmpty = true ∨ ∃ p ∈ s.enabledPorts, s.acqSt p ≠ acqAcquired ∨ s.txSt p ≠ txOn)) ∧
    (∃ (s : State), s.coreUp = true ∧ s.core.emergeWait = false) :=
  ⟨⟨(.linkDown : PcieReset), (0 : Nat), ((fun s => { s with linkUp := true }.onDma 0 fun x => { x with outstanding := 4, cur := some ⟨0, 4096, 0x20000000, 64, 0, false⟩ }) ((fun s => s.wr (DMA_ENG.ENG_STATUS_HALTED) (0)) ((fun s => { s with linkUp := true }) up)) : State), by decide +kernel, by decide +kernel, by decide +kernel, by decide +kernel, by decide +kernel, by decide +kernel⟩,
   ⟨((fun s => { s with perstLow := true }) up : State), by decide +kernel⟩,
   ⟨(up : State), by decide +kernel⟩,
   ⟨(up : State), by decide +kernel⟩,
   ⟨((fun s => { s with perstLow := true }) up : State), by decide +kernel⟩,
   ⟨(up : State), by decide +kernel⟩,
   ⟨({ (⟨0x43464749, 1, 1, 0, true, []⟩ : CfgCopy) with magic := 0x43464749, cmacOk := true, policy := 0 } : CfgCopy), ((fun s => { s with flash := { s.flash with copy0 := some ({ (⟨0x43464749, 1, 1, 0, true, []⟩ : CfgCopy) with magic := 0x43464749, cmacOk := true, policy := 0 } : CfgCopy), copy1 := none } }) up : State), by decide +kernel⟩,
   ⟨({ (⟨0x43464749, 1, 1, 0, true, []⟩ : CfgCopy) with magic := 0x43464749, cmacOk := true, policy := 1 + 0 } : CfgCopy), ((fun s => { s with flash := { s.flash with copy1 := some ({ (⟨0x43464749, 1, 1, 0, true, []⟩ : CfgCopy) with magic := 0x43464749, cmacOk := true, policy := 1 + 0 } : CfgCopy), copy0 := none } }) up : State), by decide +kernel⟩,
   ⟨((fun s => { s with core := { s.core with restored := true } }) up : State), by decide +kernel⟩,
   ⟨((fun s => portsOn s) ((fun s => { s with core := { s.core with emergeWait := true } }) up) : State), by decide +kernel⟩,
   ⟨((fun s => { s with core := { s.core with emergeWait := true } }) up : State), by decide +kernel⟩,
   ⟨(up : State), by decide +kernel⟩⟩

/-- The hypotheses of `ChecksRetriesAndSelfTests` are met, case by case. -/
theorem witness_checksRetriesAndSelfTests :
    (∃ (b : Block) (u : Nat) (s : State), (s.blockClocked b = false ∨ s.works b u = false)) ∧
    (∃ (d : Fin 2) (u : Nat) (i : CheckInfo) (s : State), s.blockClocked (.aes d) = true ∧ s.works (.aes d) u = true ∧ i.onSpare = false ∧ s.aesNear d i.cycle = false ∧ (s.block (.aes d)).canRedo (.aes d) = true ∧ (s.block (.aes d)).unclassified.contains u = false) ∧
    (∃ (d : Fin 2) (u : Nat) (i : CheckInfo) (s : State), s.blockClocked (.aes d) = true ∧ s.works (.aes d) u = true ∧ i.onSpare = true) ∧
    (∃ (d : Fin 2) (u : Nat) (i : CheckInfo) (s : State), s.blockClocked (.aes d) = true ∧ s.works (.aes d) u = true ∧ i.onSpare = false ∧ s.aesNear d i.cycle = true ∧ s.deferred (.aes d) u = false ∧ (s.block (.aes d)).quarantine.contains u = false) ∧
    (∃ (d : Fin 2) (u : Nat) (i : CheckInfo) (s : State), s.blockClocked (.aes d) = true ∧ s.works (.aes d) u = true ∧ i.onSpare = false ∧ s.aesNear d i.cycle = true ∧ s.deferred (.aes d) u = true) ∧
    (∃ (d : Fin 2) (u : Nat) (i : CheckInfo) (s : State), s.blockClocked (.aes d) = true ∧ s.works (.aes d) u = true ∧ i.onSpare = false ∧ s.aesNear d i.cycle = false ∧ (s.block (.aes d)).canRedo (.aes d) = false ∧ s.deferred (.aes d) u = false ∧ (s.block (.aes d)).quarantine.contains u = false) ∧
    (∃ (p : Port) (b : Block) (u lane : Nat) (i : CheckInfo) (s : State), s.blockClocked b = true ∧ s.works b u = true ∧ (b = .p1Lane p ∨ b = .p2Lane p) ∧ i.onSpare = false ∧ (s.block b).placeOf b u = some lane ∧ s.inWindow b i.cycle = true ∧ s.deferred b u = false ∧ (s.block b).quarantine.contains u = false) ∧
    (∃ (p : Port) (u v : Nat) (c : Codeword) (i : CheckInfo) (s : State), s.blockClocked (.decoder p) = true ∧ s.works (.decoder p) u = true ∧ ((s.fec.get p).store.find? fun c => c.num == i.num && c.decoder == u) = some c ∧ c.redo = false ∧ s.inWindow (.decoder p) i.cycle = false ∧ s.deferred (.decoder p) u = false ∧ s.freeSpare p = some v) ∧
    (∃ (p : Port) (u : Nat) (c : Codeword) (i : CheckInfo) (s : State), s.blockClocked (.decoder p) = true ∧ s.works (.decoder p) u = true ∧ ((s.fec.get p).store.find? fun c => c.num == i.num && c.decoder == u) = some c ∧ (c.redo = true ∨ s.inWindow (.decoder p) i.cycle = true)) ∧
    (∃ (p : Port) (u : Nat) (i : CheckInfo) (s : State), ((s.fec.get p).store.find? fun c => c.num == i.num && c.decoder == u) = none) ∧
    (∃ (p : Port) (b : Block) (u : Nat) (i : CheckInfo) (s : State), s.blockClocked b = true ∧ s.works b u = true ∧ (b = .matcher p ∨ b = .bchDecoder p) ∧ i.onSpare = false ∧ s.inWindow b i.cycle = false ∧ (s.block b).canRedo b = false ∧ (s.block b).quarantine.contains u = false ∧ s.deferred b u = false) ∧
    (∃ (u : Nat) (s : State), s.blockClocked .core = true ∧ s.works .core u = true ∧ u = s.activeCore ∧ s.coreSt u = 1 ∧ s.coreSt (1 - u) = 2) ∧
    (∃ (b : Block) (u : Nat) (s : State), s.blockClocked b = true ∧ u < b.units ∧ (s.block b).quarantine.contains u = false ∧ (∃ p, b = .coefEngine p ∨ b = .p1Lane p ∨ b = .p2Lane p ∨ b = .matcher p ∨ b = .bchDecoder p)) ∧
    (∃ (b : Block) (s : State), s.blockClocked b = false) ∧
    (∃ (b : Block) (u : Nat) (s : State), s.blockClocked b = true ∧ isConv b = false ∧ u < b.units ∧ (s.block b).quarantine.contains u = false ∧ (s.block b).placeOf b u = none) ∧
    (∃ (s : State), s.clock.stopped = true) ∧
    (∃ (s : State), s.clock.stopped = false) :=
  ⟨⟨(.aes 0 : Block), (1000 : Nat), (up : State), by decide +kernel⟩,
   ⟨(1 : Fin 2), (0 : Nat), ({ (⟨0, 0, 0, [], false⟩ : CheckInfo) with onSpare := false } : CheckInfo), (up : State), by decide +kernel⟩,
   ⟨(1 : Fin 2), (0 : Nat), ({ (⟨0, 0, 0, [], false⟩ : CheckInfo) with onSpare := true } : CheckInfo), (up : State), by decide +kernel⟩,
   ⟨(1 : Fin 2), (0 : Nat), ({ (⟨0, 0, 0, [], false⟩ : CheckInfo) with onSpare := false } : CheckInfo), ((fun s => { s with spared := [], window := [(6, ⟨true, ({ (⟨0, 0, 0, [], false⟩ : CheckInfo) with onSpare := false } : CheckInfo).cycle⟩), (7, ⟨true, ({ (⟨0, 0, 0, [], false⟩ : CheckInfo) with onSpare := false } : CheckInfo).cycle - 32⟩)] }) up : State), by decide +kernel⟩,
   ⟨(1 : Fin 2), (0 : Nat), ({ (⟨0, 0, 0, [], false⟩ : CheckInfo) with onSpare := false } : CheckInfo), ((fun s => s.deferClass (.aes (1 : Fin 2)) (0 : Nat)) ((fun s => { s with spared := [], window := [(6, ⟨true, ({ (⟨0, 0, 0, [], false⟩ : CheckInfo) with onSpare := false } : CheckInfo).cycle⟩), (7, ⟨true, ({ (⟨0, 0, 0, [], false⟩ : CheckInfo) with onSpare := false } : CheckInfo).cycle - 32⟩)] }) up) : State), by decide +kernel⟩,
   ⟨(1 : Fin 2), (1 : Nat), ({ (⟨0, 0, 0, [], false⟩ : CheckInfo) with onSpare := false } : CheckInfo), ((fun s => { s with window := Tab.erase s.window (6 + (1 : Fin 2).val), spared := Tab.set Spared.init s.spared (Block.aes (1 : Fin 2)).key { Spared.init with testing := List.range 64 } }) up : State), by decide +kernel⟩,
   ⟨(.E : Port), ((if (1 : Nat) % 2 = 0 then .p1Lane (.E : Port) else .p2Lane (.E : Port)) : Block), (1 : Nat), ((1 : Nat) : Nat), ({ (⟨0, 0, 0, [], false⟩ : CheckInfo) with onSpare := false } : CheckInfo), ((fun s => { s with window := Tab.set FaultWindow.none s.window (.E : Port).toNat ⟨true, ({ (⟨0, 0, 0, [], false⟩ : CheckInfo) with onSpare := false } : CheckInfo).cycle - 3⟩, spared := Tab.erase s.spared ((if (1 : Nat) % 2 = 0 then .p1Lane (.E : Port) else .p2Lane (.E : Port)) : Block).key }) up : State), by decide +kernel⟩,
   ⟨(.E : Port), (0 : Nat), ((((fun s => { s with spared := [], window := [], fec := s.fec.upd (.E : Port) fun f => { f with store := [({ (⟨0, 0, 0, 20, .decoding, 0, 0, false, false, false, false, [], [], 1, 0, Mode.mk 2 true 346 2 1088 10⟩ : Codeword) with num := ((⟨0, 0, 0, [], false⟩ : CheckInfo) : CheckInfo).num, decoder := (0 : Nat), redo := false } : Codeword)], repeating := [], leavingDec := [] } }) up : State).freeSpare (.E : Port)).getD 0 : Nat), ({ (⟨0, 0, 0, 20, .decoding, 0, 0, false, false, false, false, [], [], 1, 0, Mode.mk 2 true 346 2 1088 10⟩ : Codeword) with num := ((⟨0, 0, 0, [], false⟩ : CheckInfo) : CheckInfo).num, decoder := (0 : Nat), redo := false } : Codeword), ((⟨0, 0, 0, [], false⟩ : CheckInfo) : CheckInfo), ((fun s => { s with spared := [], window := [], fec := s.fec.upd (.E : Port) fun f => { f with store := [({ (⟨0, 0, 0, 20, .decoding, 0, 0, false, false, false, false, [], [], 1, 0, Mode.mk 2 true 346 2 1088 10⟩ : Codeword) with num := ((⟨0, 0, 0, [], false⟩ : CheckInfo) : CheckInfo).num, decoder := (0 : Nat), redo := false } : Codeword)], repeating := [], leavingDec := [] } }) up : State), by decide +kernel⟩,
   ⟨(.E : Port), (0 : Nat), ({ (⟨0, 0, 0, 20, .decoding, 0, 0, false, false, false, false, [], [], 1, 0, Mode.mk 2 true 346 2 1088 10⟩ : Codeword) with num := ((⟨0, 0, 0, [], false⟩ : CheckInfo) : CheckInfo).num, decoder := (0 : Nat), redo := ((⟨0, 0, 0, [], false⟩ : CheckInfo) : CheckInfo).onSpare } : Codeword), ((⟨0, 0, 0, [], false⟩ : CheckInfo) : CheckInfo), ((fun s => { s with spared := [], window := [(0, ⟨true, ((⟨0, 0, 0, [], false⟩ : CheckInfo) : CheckInfo).cycle⟩), (1, ⟨true, ((⟨0, 0, 0, [], false⟩ : CheckInfo) : CheckInfo).cycle - 255⟩)], fec := s.fec.upd (.E : Port) fun f => { f with store := [({ (⟨0, 0, 0, 20, .decoding, 0, 0, false, false, false, false, [], [], 1, 0, Mode.mk 2 true 346 2 1088 10⟩ : Codeword) with num := ((⟨0, 0, 0, [], false⟩ : CheckInfo) : CheckInfo).num, decoder := (0 : Nat), redo := ((⟨0, 0, 0, [], false⟩ : CheckInfo) : CheckInfo).onSpare } : Codeword)], repeating := [], leavingDec := [] } }) up : State), by decide +kernel⟩,
   ⟨(.E : Port), (1 : Nat), (⟨0, 0, 0, [], false⟩ : CheckInfo), (up : State), by decide +kernel⟩,
   ⟨(.E : Port), ((if ({ (⟨0, 0, 0, [], false⟩ : CheckInfo) with onSpare := false } : CheckInfo).cycle % 2 = 0 then .matcher (.E : Port) else .bchDecoder (.E : Port)) : Block), (0 : Nat), ({ (⟨0, 0, 0, [], false⟩ : CheckInfo) with onSpare := false } : CheckInfo), ((fun s => s.setBlock ((if ({ (⟨0, 0, 0, [], false⟩ : CheckInfo) with onSpare := false } : CheckInfo).cycle % 2 = 0 then .matcher (.E : Port) else .bchDecoder (.E : Port)) : Block) { Spared.init with quarantine := (if ({ (⟨0, 0, 0, [], false⟩ : CheckInfo) with onSpare := false } : CheckInfo).num % 2 = 0 then [1] else []), testing := [1] }) up : State), by decide +kernel⟩,
   ⟨(0 : Nat), (up : State), by decide +kernel⟩,
   ⟨([Block.coefEngine .E, .p1Lane .W, .p2Lane .E, .matcher .W, .bchDecoder .E].getD ((0 : Nat) % 5) (.bchDecoder .W) : Block), (0 : Nat), (up : State), by decide +kernel, by decide +kernel, by decide +kernel, ⟨.E, by decide +kernel⟩⟩,
   ⟨(.aes 1 : Block), ((fun s => s.wr CK_SYN.SYN_STATUS_RCLK_OK 0) up : State), by decide +kernel⟩,
   ⟨(.eqCluster .E : Block), (16 : Nat), (up : State), by decide +kernel⟩,
   ⟨((fun s => { s with clock := { s.clock with stopped := true } }) up : State), by decide +kernel⟩,
   ⟨(up : State), by decide +kernel⟩⟩

end Sys2Proof.Tests
end

section
/-! The table windows of BAR2 and the swap requests of the slot-table banks (O23). A table write is read off from the window
that its word lies in; a swap request is read off from its cause, after the check errors of its lookups are set aside. -/

namespace Sys2Proof.Machine

open F

/-! ### Accesses that are taken -/

/-- A write that is taken is carried out (R469). -/
theorem State.guarded_of_takes {s : State} {r : Requester} {page off : Nat} (h : s.Takes r page off) (f : State → State) :
    s.guarded r page off f = f s := by
  obtain ⟨hclk, hcause⟩ := h
  simp [State.guarded, hclk, hcause]

/-- A write to a page of RCLK is taken only while RCLK runs (R316, R469). -/
theorem State.clocked_of_takes {s : State} {r : Requester} {page off : Nat} (h : s.Takes r page off)
    (hp : rclkPage page = true) : s.Clocked := by
  obtain ⟨-, hcause⟩ := h
  by_contra hstop
  rw [Bool.not_eq_false] at hstop
  unfold State.accessCause at hcause
  split at hcause
  · cases hcause
  · simp [hp, hstop] at hcause

/-- A write to another field leaves RCLK as it is. -/
theorem State.rclkStopped_wr (s : State) {f : Field} {v : Nat} (h : f.key ≠ CK_SYN.SYN_STATUS_RCLK_OK.key) :
    (s.wr f v).rclkStopped = s.rclkStopped := by
  rw [State.rclkStopped, State.on, State.rd_wr_ne _ _ h]
  rfl

/-! ### What a word write and a lock violation do -/

/-- A byte after the enabled ones of a list of byte lanes were written: the written value in an enabled lane of the list,
the old one elsewhere. -/
theorem Memory.read_foldl_enabled (l : List Nat) (m : Memory) (off be b : Nat) (f : Nat → Byte) :
    Memory.read (l.foldl (fun m i => if bitOf be i then Memory.write m (off + i) (f i) else m) m) b =
      if off ≤ b ∧ b - off ∈ l ∧ bitOf be (b - off) = true then some (f (b - off)) else Memory.read m b := by
  induction l generalizing m with
  | nil => simp
  | cons j l ih =>
    rw [List.foldl_cons, ih]
    by_cases hb : b = off + j
    · subst hb
      by_cases he : bitOf be j = true <;> simp [he, Memory.read_write_same]
    · have hkeep : Memory.read (if bitOf be j then Memory.write m (off + j) (f j) else m) b = Memory.read m b := by
        split
        · exact Memory.read_write_ne _ _ (Ne.symm hb)
        · rfl
      have hmem : off ≤ b → (b - off ∈ j :: l ↔ b - off ∈ l) := fun _ => by
        rw [List.mem_cons, or_iff_right (by omega)]
      rw [hkeep]
      exact if_congr (and_congr_right fun hle => by rw [hmem hle]) rfl rfl

/-- The byte of a lane of the word, and every byte outside it, after the enabled bytes of a word were written (R208). -/
theorem State.writeBytes_wordStored (s : State) (off data be : Nat) :
    WordStored s (s.writeBytes (off / 4 * 4) data be) off data be := by
  have hlane : ∀ i, i ∈ [0, 1, 2, 3] ↔ i < 4 := fun i => by simp; omega
  refine ⟨fun i hi => ?_, fun a ha => ?_, rfl⟩ <;> simp only [State.writeBytes, Memory.read_foldl_enabled, hlane]
  · simp [hi]
  · exact if_neg (by omega)

theorem requester_toNat_lt (r : Requester) : r.toNat < 8 := by cases r <;> decide

/-- The fields of a lock violation (R478). -/
theorem State.lockViol_fields (s : State) (r : Requester) (page cause loc : Nat) :
    (s.lockViol r page cause loc).rd (HDR.LOCK_VIOL_VIOL page) = 1 ∧
    (s.lockViol r page cause loc).rd (HDR.LOCK_VIOL_CAUSE page) = cause % 8 ∧
    (s.lockViol r page cause loc).rd (HDR.LOCK_VIOL_MASTER page) = r.toNat := by
  have hviol : (HDR.LOCK_VIOL_VIOL page).key = (page * 4096 + 0x028) * 32 := rfl
  have hcause : (HDR.LOCK_VIOL_CAUSE page).key = (page * 4096 + 0x028) * 32 + 1 := rfl
  have hmaster : (HDR.LOCK_VIOL_MASTER page).key = (page * 4096 + 0x028) * 32 + 4 := rfl
  have hloc : (HDR.LOCK_VIOL_LOCATION page).key = (page * 4096 + 0x028) * 32 + 8 := rfl
  unfold State.lockViol
  refine ⟨?_, ?_, ?_⟩
  · rw [State.rd_wr_ne _ _ (by omega), State.rd_wr_ne _ _ (by omega), State.rd_wr_ne _ _ (by omega), State.rd_wr_same]
    rfl
  · rw [State.rd_wr_ne _ _ (by omega), State.rd_wr_ne _ _ (by omega), State.rd_wr_same]
    rfl
  · rw [State.rd_wr_ne _ _ (by omega), State.rd_wr_same]
    exact Nat.mod_eq_of_lt (requester_toNat_lt r)

/-- A write that names an entry in force is dropped with cause 2 (R217, R220, R307). -/
theorem State.lockViol_entryLocked (s : State) (r : Requester) (page loc : Nat) :
    EntryLocked r s (s.lockViol r page 2 loc) page := by
  obtain ⟨hviol, hcause, hmaster⟩ := s.lockViol_fields r page 2 loc
  exact ⟨hviol, hcause, hmaster, rfl⟩

/-- A write that a lock drops, or that stores its word. -/
theorem State.entryLocked_or_wordStored (s : State) (r : Requester) (page loc off data be : Nat) (locked : Prop)
    [Decidable locked] :
    let t := if locked then s.lockViol r page 2 loc else s.writeBytes (off / 4 * 4) data be
    if locked then EntryLocked r s t page else WordStored s t off data be := by
  by_cases h : locked <;> simp only [h, if_true, if_false]
  · exact s.lockViol_entryLocked r page loc
  · exact s.writeBytes_wordStored off data be

/-! ### A table write, window by window (R467) -/

/-- The bases of the windows that take table writes. -/
theorem tableWindow_bases : vlanWin = 0x40000 ∧ chanWin = 0xA0000 ∧ txSlotWin = 0xA1000 ∧ rxSlotWin = 0xA2000 ∧
    cryptoWin = 0xA4000 ∧ descWin = 0xA8000 := ⟨rfl, rfl, rfl, rfl, rfl, rfl⟩

section Windows

variable {off : Nat} (s : State) (r : Requester) (data be : Nat)

/-- The flow and VLAN windows hold no entry in force. -/
theorem State.tableWrite_of_lt_chanWin (h : off < chanWin) :
    s.tableWrite r off data be = s.writeBytes (off / 4 * 4) data be := by
  have hoff : off / 4 * 4 < chanWin := by omega
  simp [State.tableWrite, hoff]

/-- The channel window (R220). -/
theorem State.tableWrite_of_chanWin (hlo : chanWin ≤ off) (hhi : off < chanWin + 4 * 192) :
    s.tableWrite r off data be =
      if s.chInForce ((off - chanWin) / 4) then s.lockViol r 22 2 ((off - chanWin) / 4)
      else s.writeBytes (off / 4 * 4) data be := by
  obtain ⟨hvlan, hchan, htx, hrx, hcrypto, hdesc⟩ := tableWindow_bases
  have hidx : (off / 4 * 4 - chanWin) / 4 = (off - chanWin) / 4 := by omega
  simp only [State.tableWrite, hidx]
  rw [if_neg (by omega), if_neg (by omega), if_pos (by omega)]

/-- The transmit slot window: the bank in force is locked (R217). -/
theorem State.tableWrite_of_txSlotWin (hlo : txSlotWin ≤ off) (hhi : off < txSlotWin + 4 * 384) :
    s.tableWrite r off data be =
      if (off - txSlotWin) / 4 / 192 = s.txBank (Port.ofBit ((off - txSlotWin) / 4 / 96)) then
        s.lockViol r 23 2 ((off - txSlotWin) / 4)
      else s.writeBytes (off / 4 * 4) data be := by
  obtain ⟨hvlan, hchan, htx, hrx, hcrypto, hdesc⟩ := tableWindow_bases
  have hidx : (off / 4 * 4 - txSlotWin) / 4 = (off - txSlotWin) / 4 := by omega
  simp only [State.tableWrite, hidx]
  rw [if_neg (by omega), if_neg (by omega), if_neg (by omega), if_pos (by omega)]

/-- The receive slot window: the bank in force is locked (R217). -/
theorem State.tableWrite_of_rxSlotWin (hlo : rxSlotWin ≤ off) (hhi : off < rxSlotWin + 4 * 384) :
    s.tableWrite r off data be =
      if (off - rxSlotWin) / 4 / 192 = s.rxBank (Port.ofBit ((off - rxSlotWin) / 4 / 96)) then
        s.lockViol r 23 2 ((off - rxSlotWin) / 4)
      else s.writeBytes (off / 4 * 4) data be := by
  obtain ⟨hvlan, hchan, htx, hrx, hcrypto, hdesc⟩ := tableWindow_bases
  have hidx : (off / 4 * 4 - rxSlotWin) / 4 = (off - rxSlotWin) / 4 := by omega
  simp only [State.tableWrite, hidx]
  rw [if_neg (by omega), if_neg (by omega), if_neg (by omega), if_neg (by omega), if_pos (by omega)]

/-- The crypto window: one word of each entry is there, and its low byte is locked while the channel is in force (R307). -/
theorem State.tableWrite_of_cryptoWin (hlo : cryptoWin ≤ off) (hhi : off < cryptoWin + 32 * 192) :
    s.tableWrite r off data be =
      if 4 ≤ (off - cryptoWin) % 32 then s
      else if s.chInForce ((off - cryptoWin) / 32) = true ∧ bitOf be 0 = true then
        s.lockViol r 30 2 ((off - cryptoWin) / 32)
      else s.writeBytes (off / 4 * 4) data be := by
  obtain ⟨hvlan, hchan, htx, hrx, hcrypto, hdesc⟩ := tableWindow_bases
  have hidx : (off / 4 * 4 - cryptoWin) / 32 = (off - cryptoWin) / 32 := by omega
  have hword : (off / 4 * 4 - cryptoWin) % 32 ≠ 0 ↔ 4 ≤ (off - cryptoWin) % 32 := by omega
  have hbe : bitOf be 0 = true ↔ be % 2 = 1 := by simp [bitOf]
  simp only [State.tableWrite, hidx, hword, hbe]
  rw [if_neg (by omega), if_neg (by omega), if_neg (by omega), if_neg (by omega), if_neg (by omega), if_pos (by omega)]

/-- The descriptor window: the rings of the reserved channels 14 and 15 are locked to the host (R383, R478). -/
theorem State.tableWrite_of_descWin (hlo : descWin ≤ off) (hhi : off < descWin + 32768) :
    s.tableWrite r off data be =
      if r = .pcie ∧ 14 ≤ (off - descWin) / 2048 then s.lockViol r 6 6 ((off - descWin) / 32)
      else s.writeBytes (off / 4 * 4) data be := by
  obtain ⟨hvlan, hchan, htx, hrx, hcrypto, hdesc⟩ := tableWindow_bases
  have hidx : (off / 4 * 4 - descWin) / 32 = (off - descWin) / 32 := by omega
  have hring : ((off / 4 * 4 - descWin) / 2048 = 14 ∨ (off / 4 * 4 - descWin) / 2048 = 15) ∧ r = .pcie ↔
      r = .pcie ∧ 14 ≤ (off - descWin) / 2048 := by
    rw [and_comm]
    exact and_congr_right fun _ => by omega
  simp only [State.tableWrite, hidx, hring]
  rw [if_neg (by omega), if_neg (by omega), if_neg (by omega), if_neg (by omega), if_neg (by omega), if_neg (by omega),
    if_pos (by omega)]

end Windows

/-- A table write of any master but SMBus, with the control clock running, writes its word (R208). -/
theorem completes_tableEntryWrite {r : Requester} {off : Fin 4194304} {data : Word} {be : BitVec 4} {s : State}
    {P : State → Prop} (hr : r ≠ .smbus) (hclk : s.clock.stopped = false)
    (hP : P (s.tableWrite r off.val data.toNat be.toNat)) : Completes (.tableEntryWrite r off data be) s P := by
  refine ⟨_, ?_, hP⟩
  simp [exec, execTableEntryWrite, hr, hclk]

/-! ### The lookups of a swap request (R208, R218) -/

theorem State.checkError_eventFrame (s : State) (table index : Nat) : s.EventFrame (s.checkError table index) :=
  ((State.wr_eventFrame s _ _).trans (State.wr_eventFrame _ _ _)).trans (State.raiseN_eventFrame _ _ _)

/-- A check error shows in `CHK_ERR` and its event alone. -/
theorem State.checkError_rd (s : State) (table index : Nat) {f : Field} (hq : f.quiet = true)
    (ht : HB_FLOW.CHK_ERR_TABLE.key ≠ f.key) (hi : HB_FLOW.CHK_ERR_INDEX.key ≠ f.key) :
    (s.checkError table index).rd f = s.rd f := by
  rw [State.checkError, State.raise_rd _ _ _ hq, State.rd_wr_ne _ _ hi, State.rd_wr_ne _ _ ht]

/-- The state of a swap request once its lookups have counted their check errors (R208; log entry 97). -/
def State.swapLookups (s : State) (p : Port) : State :=
  (s.forEach (s.unwrittenSlots p) fun i s => s.checkError 2 i).forEach
    ((s.standbyChannels p).filter fun c => (s.chanWord c).isNone) fun c s => s.checkError 3 c

/-- `SWAP_STATUS.STATE` of a port. -/
def swapStateField : Port → Field
  | .E => HB_SLOT.SWAP_STATUS_STATE_E
  | .W => HB_SLOT.SWAP_STATUS_STATE_W

/-- `SWAP_STATUS.REFUSE` of a port. -/
def swapRefuseField : Port → Field
  | .E => HB_SLOT.SWAP_STATUS_REFUSE_E
  | .W => HB_SLOT.SWAP_STATUS_REFUSE_W

theorem State.swapSt_eq_rd (s : State) (p : Port) : s.swapSt p = s.rd (swapStateField p) := by cases p <;> rfl

theorem swapRefuse_key_ne_swapState (p : Port) : (swapRefuseField p).key ≠ (swapStateField p).key := by
  cases p <;> decide

theorem swapRefuseField_quiet (p : Port) : (swapRefuseField p).quiet = true := by cases p <;> decide

theorem swapStateField_quiet (p : Port) : (swapStateField p).quiet = true := by cases p <;> decide

theorem swapRefuse_key_ne_rclkOk (p : Port) : (swapRefuseField p).key ≠ CK_SYN.SYN_STATUS_RCLK_OK.key := by
  cases p <;> decide

/-- A cause fits its field. -/
theorem State.swapCause_lt (s : State) (p : Port) : s.swapCause p < 16 := by
  unfold State.swapCause
  dsimp only
  split_ifs <;> decide

/-- A swap request without a cause (R218). -/
theorem State.swapRequest_of_passes {s : State} {p : Port} (h : s.swapCause p = 0) :
    s.swapRequest p = (((s.swapLookups p).wr (swapStateField p) 1).wr (swapRefuseField p) 0).onFrame p
      fun f => { f with swapReq := f.fcTx } := by
  unfold State.swapRequest
  dsimp only
  rw [if_pos h]
  cases p <;> rfl

/-- A swap request with a cause (R218). -/
theorem State.swapRequest_of_refused {s : State} {p : Port} (h : s.swapCause p ≠ 0) :
    s.swapRequest p = ((s.swapLookups p).wr (swapRefuseField p) (s.swapCause p)).raise Ev.HB_SLOT.swapRefused := by
  unfold State.swapRequest
  dsimp only
  rw [if_neg h]
  cases p <;> rfl

/-- What a check error keeps, the lookups of a swap request keep. -/
theorem State.swapLookups_keeps {β : Type} (g : State → β) (h : ∀ s table index, g (State.checkError s table index) = g s)
    (s : State) (p : Port) : g (s.swapLookups p) = g s := by
  rw [State.swapLookups, State.forEach_keeps g _ _ fun c s => h s 3 c, State.forEach_keeps g _ _ fun i s => h s 2 i]

theorem State.swapLookups_frame (s : State) (p : Port) : (s.swapLookups p).frame = s.frame :=
  State.swapLookups_keeps State.frame (fun s t i => by rw [State.checkError_eventFrame s t i]) s p

theorem State.swapLookups_bar2 (s : State) (p : Port) : (s.swapLookups p).bar2 = s.bar2 :=
  State.swapLookups_keeps State.bar2 (fun s t i => by rw [State.checkError_eventFrame s t i]) s p

theorem State.swapLookups_rd (s : State) (p : Port) {f : Field} (hq : f.quiet = true)
    (ht : HB_FLOW.CHK_ERR_TABLE.key ≠ f.key) (hi : HB_FLOW.CHK_ERR_INDEX.key ≠ f.key) :
    (s.swapLookups p).rd f = s.rd f :=
  State.swapLookups_keeps (fun s => s.rd f) (fun s t i => s.checkError_rd t i hq ht hi) s p

theorem State.swapLookups_swapSt (s : State) (p q : Port) : (s.swapLookups p).swapSt q = s.swapSt q := by
  rw [State.swapSt_eq_rd, State.swapSt_eq_rd]
  exact s.swapLookups_rd p (swapStateField_quiet q) (by cases q <;> decide) (by cases q <;> decide)

theorem State.swapLookups_rclkStopped (s : State) (p : Port) : (s.swapLookups p).rclkStopped = s.rclkStopped := by
  rw [State.rclkStopped, State.on, s.swapLookups_rd p (by decide) (by decide) (by decide)]
  rfl

/-- The refusals of swap requests are not counted by the lookups. -/
theorem State.swapLookups_refusals (s : State) (p : Port) :
    (s.swapLookups p).counter Ev.HB_SLOT.swapRefused.page Ev.HB_SLOT.swapRefused.off =
      s.counter Ev.HB_SLOT.swapRefused.page Ev.HB_SLOT.swapRefused.off :=
  State.swapLookups_keeps (fun s => s.counter Ev.HB_SLOT.swapRefused.page Ev.HB_SLOT.swapRefused.off)
    (fun s t i => State.raise_counter_ne _ Ev.HB_FLOW.tableCheck _ _ (by decide) (by decide)) s p

/-! ### The outcomes of a swap request (R218) -/

/-- A request for one port that is taken is that port's swap request. -/
theorem completes_swapRequest {r : Requester} {p : Port} {s : State} {P : State → Prop} (htakes : s.Takes r 23 0x040)
    (hP : P (s.swapRequest p)) : Completes (.swapRequest r (p == .E) (p == .W)) s P := by
  refine ⟨s.swapRequest p, ?_, hP⟩
  rw [exec, execSwapRequest, State.guarded_of_takes htakes]
  cases p <;> rfl

/-- A request without a cause starts the swap at the port's frame counter. -/
theorem State.swapRequest_starts {s : State} {p : Port} (h : s.swapCause p = 0) :
    (s.swapRequest p).swapSt p = 1 ∧ (s.swapRequest p).rd (swapRefuseField p) = 0 ∧
      ((s.swapRequest p).frame.get p).swapReq = (s.frame.get p).fcTx ∧
      (s.swapRequest p).frame.get p.other = s.frame.get p.other ∧ (s.swapRequest p).bar2 = s.bar2 := by
  rw [State.swapRequest_of_passes h]
  generalize hu : ((s.swapLookups p).wr (swapStateField p) 1).wr (swapRefuseField p) 0 = u
  have hstate : u.rd (swapStateField p) = 1 := by
    rw [← hu, State.rd_wr_ne _ _ (swapRefuse_key_ne_swapState p), State.rd_wr_same]
    cases p <;> rfl
  have hrefuse : u.rd (swapRefuseField p) = 0 := by rw [← hu, State.rd_wr_same, Nat.zero_mod]
  have hframe : u.frame = s.frame := by rw [← hu]; exact s.swapLookups_frame p
  have hbar2 : u.bar2 = s.bar2 := by rw [← hu]; exact s.swapLookups_bar2 p
  refine ⟨(State.swapSt_eq_rd _ p).trans hstate, hrefuse, ?_, ?_, hbar2⟩
  · rw [← hframe]; cases p <;> rfl
  · rw [← hframe]; cases p <;> rfl

/-- A request with a cause is refused with it and counted. -/
theorem State.swapRequest_refuses {s : State} {p : Port} (hclk : s.Clocked) (h : s.swapCause p ≠ 0) :
    (s.swapRequest p).swapSt p = s.swapSt p ∧ (s.swapRequest p).rd (swapRefuseField p) = s.swapCause p ∧
      Counted Ev.HB_SLOT.swapRefused s (s.swapRequest p) ∧ (s.swapRequest p).frame = s.frame ∧
      (s.swapRequest p).bar2 = s.bar2 := by
  rw [State.swapRequest_of_refused h]
  refine ⟨?_, ?_, ?_, ?_, ?_⟩
  · rw [State.swapSt_eq_rd, State.raise_rd _ _ _ (swapStateField_quiet p),
      State.rd_wr_ne _ _ (swapRefuse_key_ne_swapState p), ← State.swapSt_eq_rd, State.swapLookups_swapSt]
  · rw [State.raise_rd _ _ _ (swapRefuseField_quiet p), State.rd_wr_same]
    cases p <;> exact Nat.mod_eq_of_lt (s.swapCause_lt _)
  · have hon : (otherDie Ev.HB_SLOT.swapRefused.page &&
        ((s.swapLookups p).wr (swapRefuseField p) (s.swapCause p)).rclkStopped) = false := by
      rw [State.rclkStopped_wr _ (swapRefuse_key_ne_rclkOk p), State.swapLookups_rclkStopped, hclk, Bool.and_false]
    rw [Counted, State.raise_counts _ _ hon (by decide), State.counter_wr, State.swapLookups_refusals]
  · rw [State.raise_frame, State.wr_frame, State.swapLookups_frame]
  · rw [State.raise_bar2, State.wr_bar2, State.swapLookups_bar2]

/-- Settles O23: a table write by the window its word lies in, a swap request by its cause. -/
theorem tableWritesAndBankSwaps : Obligations.TableWritesAndBankSwaps := by
  unfold Obligations.TableWritesAndBankSwaps
  refine ⟨?low, ?chan, ?txSlot, ?rxSlot, ?crypto, ?desc, ?starts, ?refuses⟩
  case low =>
    intro r off data be s hr hclk hoff
    refine completes_tableEntryWrite hr hclk ?_
    rw [State.tableWrite_of_lt_chanWin _ _ _ _ hoff]
    exact s.writeBytes_wordStored _ _ _
  case chan =>
    intro r off data be s hr hclk hlo hhi
    refine completes_tableEntryWrite hr hclk ?_
    rw [State.tableWrite_of_chanWin _ _ _ _ hlo hhi]
    exact s.entryLocked_or_wordStored r _ _ _ _ _ _
  case txSlot =>
    intro r off data be s hr hclk hlo hhi
    refine completes_tableEntryWrite hr hclk ?_
    rw [State.tableWrite_of_txSlotWin _ _ _ _ hlo hhi]
    exact s.entryLocked_or_wordStored r _ _ _ _ _ _
  case rxSlot =>
    intro r off data be s hr hclk hlo hhi
    refine completes_tableEntryWrite hr hclk ?_
    rw [State.tableWrite_of_rxSlotWin _ _ _ _ hlo hhi]
    exact s.entryLocked_or_wordStored r _ _ _ _ _ _
  case crypto =>
    intro r off data be s hr hclk hlo hhi
    refine completes_tableEntryWrite hr hclk ?_
    rw [State.tableWrite_of_cryptoWin _ _ _ _ hlo hhi]
    generalize (off.val - cryptoWin) % 32 = byte
    by_cases hword : 4 ≤ byte
    · rw [if_pos hword, if_pos hword]
    · rw [if_neg hword, if_neg hword]
      exact s.entryLocked_or_wordStored r _ _ _ _ _ _
  case desc =>
    intro r off data be s hr hclk hlo hhi
    refine completes_tableEntryWrite hr hclk ?_
    rw [State.tableWrite_of_descWin _ _ _ _ hlo hhi]
    by_cases hring : r = .pcie ∧ 14 ≤ (off.val - descWin) / 2048
    · obtain ⟨hviol, hcause, -⟩ := s.lockViol_fields r 6 6 ((off.val - descWin) / 32)
      rw [if_pos hring, if_pos hring]
      exact ⟨hviol, hcause, rfl⟩
    · rw [if_neg hring, if_neg hring]
      exact s.writeBytes_wordStored _ _ _
  case starts =>
    intro r p s htakes hcause
    refine completes_swapRequest htakes ?_
    have hstarts := State.swapRequest_starts hcause
    cases p <;> exact hstarts
  case refuses =>
    intro r p s htakes hcause
    refine completes_swapRequest htakes ?_
    have hrefuses := State.swapRequest_refuses (State.clocked_of_takes htakes rfl) hcause
    cases p <;> exact hrefuses

end Sys2Proof.Machine
end

section
/-! The non-maskable path of an event (O13): what sets a cause of `NMI_CAUSE` and latches vector 0, and what of it INT_N's own
event leaves as it settles. -/

namespace Sys2Proof.Machine

open F

/-! ### Ascending lists -/

theorem mem_addSorted {l : List Nat} {k a : Nat} : a ∈ addSorted l k ↔ a = k ∨ a ∈ l := by
  induction l with
  | nil => simp [addSorted]
  | cons b t ih =>
    rw [addSorted]
    split
    · rw [List.mem_cons]
    · split
      · next hk => simp [hk]
      · rw [List.mem_cons, ih, List.mem_cons, or_left_comm]

theorem contains_addSorted_same (l : List Nat) (k : Nat) : (addSorted l k).contains k = true := by
  simp [mem_addSorted]

/-! ### The latches of MSI-X -/

theorem State.latchVec_zero_latched (s : State) : 0 ∈ (s.latchVec 0).msixLatch := mem_addSorted.2 (.inl rfl)

/-- A latch that is set stays set while another is set. -/
theorem State.mem_latchVec {s : State} {v a : Nat} (h : a ∈ s.msixLatch) : a ∈ (s.latchVec v).msixLatch :=
  mem_addSorted.2 (.inr h)

theorem State.mem_cond_latchVec {s : State} {b : Bool} {v : State → Nat} {a : Nat} (h : a ∈ s.msixLatch) :
    a ∈ (s.cond b fun s => s.latchVec (v s)).msixLatch := by
  cases b
  · exact h
  · exact State.mem_latchVec h

/-- What every pass of a loop leaves true, the loop leaves true. -/
theorem State.forEach_invariant {α : Type} (P : State → Prop) (l : List α) (f : α → State → State)
    (hstep : ∀ a s, P s → P (f a s)) {s : State} (h : P s) : P (s.forEach l f) := by
  induction l generalizing s with
  | nil => exact h
  | cons a l ih => exact ih (hstep a s h)

theorem State.mem_edges {s t : State} {page a : Nat} (h : a ∈ t.msixLatch) : a ∈ (s.edges t page).msixLatch := by
  unfold State.edges
  dsimp only
  split
  · exact State.forEach_invariant (fun s => a ∈ s.msixLatch) _ _ (fun _ _ h => State.mem_cond_latchVec h)
      (State.mem_cond_latchVec h)
  · exact State.mem_cond_latchVec h

/-! ### A status bit on the non-maskable path (R378, R453) -/

/-- The EXHAUSTED cause as the non-maskable path leaves it for a page (R21, R378). -/
def State.ExhaustedAt (s : State) (page : Nat) : Prop :=
  s.on MG_CTL.NMI_CAUSE_EXHAUSTED = true ∧ s.rd MG_CTL.NMI_PAGE_PAGE = page ∧ 0 ∈ s.msixLatch

/-- A cause drives NMI_N. -/
theorem State.nmiLow_of_exhaustedAt {s : State} {page : Nat} (h : s.ExhaustedAt page) : s.nmiLow = true := by
  obtain ⟨hcause, -, -⟩ := h
  simp [State.nmiLow, State.nmiCause, hcause]

/-- A non-maskable status bit of a page other than `CK_SYN` sets the EXHAUSTED cause and names the page. -/
theorem State.setStatus_exhaustedAt (s : State) {page b : Nat} (hpage : page < 47) (hsyn : page ≠ 7)
    (hbit : bitOf (Ev.nonMaskable page) b = true) : (s.setStatus page b).ExhaustedAt page := by
  have hkey : MG_CTL.NMI_PAGE_PAGE.key ≠ MG_CTL.NMI_CAUSE_EXHAUSTED.key := by decide
  unfold State.setStatus
  simp only [State.nonMaskable, hbit, if_true, if_neg hsyn]
  refine ⟨?_, ?_, State.mem_edges (State.latchVec_zero_latched _)⟩
  · rw [State.on, State.edges_rd, State.rd_latchVec, State.rd_wr_ne _ _ hkey, State.rd_wr_same]
    rfl
  · rw [State.edges_rd, State.rd_latchVec, State.rd_wr_same]
    exact Nat.mod_eq_of_lt (Nat.lt_of_lt_of_le hpage (by decide))

/-- A maskable status bit writes the page's `EVT_STATUS` alone. -/
theorem State.setStatus_rd_of_maskable (s : State) {page b : Nat} {f : Field} (hbit : bitOf (Ev.nonMaskable page) b = false)
    (hf : (HDR.EVT_STATUS_EVENTS page).key ≠ f.key) : (s.setStatus page b).rd f = s.rd f := by
  unfold State.setStatus
  rw [State.edges_rd, State.nonMaskable, hbit]
  exact State.rd_wr_ne _ _ hf

theorem State.mem_setStatus_of_maskable {s : State} {page b a : Nat} (hbit : bitOf (Ev.nonMaskable page) b = false)
    (h : a ∈ s.msixLatch) : a ∈ (s.setStatus page b).msixLatch := by
  unfold State.setStatus
  refine State.mem_edges ?_
  rw [State.nonMaskable, hbit]
  exact h

theorem State.count_msixLatch (s : State) (page off n : Nat) : (s.count page off n).msixLatch = s.msixLatch := by
  unfold State.count; split <;> rfl

/-- INT_N's event is maskable: as INT_N settles, the causes of the non-maskable path stay. -/
theorem State.settleInt_exhaustedAt {s : State} {page : Nat} (h : s.ExhaustedAt page) : s.settleInt.ExhaustedAt page := by
  have hbit : bitOf (Ev.nonMaskable Ev.MG_OBS.intN.page) Ev.MG_OBS.intN.bit = false := by decide
  obtain ⟨hcause, hpage, hlatch⟩ := h
  unfold State.settleInt
  split
  · split
    · exact ⟨hcause, hpage, hlatch⟩
    · unfold State.raiseRaw
      split
      · exact ⟨hcause, hpage, hlatch⟩
      · refine ⟨?_, ?_, State.mem_setStatus_of_maskable hbit ?_⟩
        · rw [State.on, State.setStatus_rd_of_maskable _ hbit (by decide), State.rd_count]
          exact hcause
        · rw [State.setStatus_rd_of_maskable _ hbit (by decide), State.rd_count]
          exact hpage
        · rw [State.count_msixLatch]
          exact hlatch
  · exact ⟨hcause, hpage, hlatch⟩

/-- A non-maskable event that occurs on a page other than `CK_SYN` takes the EXHAUSTED path, whatever the page's `EVT_MASK` and
`EVT_NMI_SEL` hold (R21). -/
theorem State.raise_exhaustedAt {s : State} {e : Evt} (hocc : (otherDie e.page && s.rclkStopped) = false) (hpage : e.page < 47)
    (hsyn : e.page ≠ 7) (hbit : bitOf (Ev.nonMaskable e.page) e.bit = true) : (s.raise e).ExhaustedAt e.page := by
  refine State.settleInt_exhaustedAt ?_
  rw [State.raiseRaw, if_neg (by simp [hocc])]
  exact State.setStatus_exhaustedAt _ hpage hsyn hbit

/-- The mask and the selection of a page are no field of RCLK's status. -/
theorem State.rclkStopped_wr_masks (s : State) (page mask sel : Nat) :
    ((s.wr (HDR.EVT_MASK_MASK page) mask).wr (HDR.EVT_NMI_SEL_NMI_SEL page) sel).rclkStopped = s.rclkStopped := by
  have hok : CK_SYN.SYN_STATUS_RCLK_OK.key % 32 = 4 := by decide
  have hmask : (HDR.EVT_MASK_MASK page).key % 32 = 0 := Nat.mul_mod_left _ _
  have hsel : (HDR.EVT_NMI_SEL_NMI_SEL page).key % 32 = 0 := Nat.mul_mod_left _ _
  rw [State.rclkStopped_wr _ (by omega), State.rclkStopped_wr _ (by omega)]

/-- Settles O13: the EXHAUSTED path of a non-maskable event reads neither `EVT_MASK` nor `EVT_NMI_SEL`. -/
theorem nonMaskableEvents : Obligations.NonMaskableEvents := by
  unfold Obligations.NonMaskableEvents
  refine ⟨?listed, ?path, ?masked⟩
  case listed => decide
  case path =>
    intro e s hocc _ hpage hsyn hbit
    have hat := State.raise_exhaustedAt hocc hpage hsyn hbit
    have ⟨hcause, hnamed, hlatch⟩ := hat
    exact ⟨State.nmiLow_of_exhaustedAt hat, hcause, hnamed, List.contains_iff_mem.2 hlatch⟩
  case masked =>
    intro e s mask sel hocc _ hpage hsyn hbit
    have hat := State.raise_exhaustedAt (s := (s.wr (HDR.EVT_MASK_MASK e.page) mask).wr (HDR.EVT_NMI_SEL_NMI_SEL e.page) sel)
      (by rw [State.rclkStopped_wr_masks]; exact hocc) hpage hsyn hbit
    have ⟨_, _, hlatch⟩ := hat
    exact ⟨State.nmiLow_of_exhaustedAt hat, List.contains_iff_mem.2 hlatch⟩

end Sys2Proof.Machine
end

section
/-! What the basic updates keep, as the statements say it: pairs of ports, register fields but a few, the mailboxes alone. -/

namespace Sys2Proof

/-! ### One value for each port -/

@[simp] theorem Pair.get_upd_same {α : Type} (x : Pair α) (p : Port) (f : α → α) : (x.upd p f).get p = f (x.get p) := by
  cases p <;> rfl

end Sys2Proof

namespace Sys2Proof.Machine

open F

/-! ### Every register field but a few -/

theorem KeepsFieldsBut.refl (l : List Field) (s : State) : KeepsFieldsBut l s s := fun _ _ _ => ⟨rfl, rfl⟩

theorem KeepsFieldsBut.trans {l : List Field} {s t u : State} (h : KeepsFieldsBut l s t) (k : KeepsFieldsBut l t u) :
    KeepsFieldsBut l s u := fun f hq hl =>
  ⟨(k f hq hl).1.trans (h f hq hl).1, (k f hq hl).2.trans (h f hq hl).2⟩

/-- An update that leaves the register file keeps the fields that were kept. -/
theorem KeepsFieldsBut.same {l : List Field} {s t u : State} (h : KeepsFieldsBut l s t) (hr : u.regs = t.regs)
    (ha : u.act = t.act) : KeepsFieldsBut l s u := by
  intro f hq hl
  obtain ⟨hrd, hrdA⟩ := h f hq hl
  exact ⟨by rw [← hrd, State.rd, State.rd, hr], by rw [← hrdA, State.rdA, State.rdA, ha]⟩

/-- A write of a field that is named. -/
theorem KeepsFieldsBut.wr {l : List Field} {s t : State} {g : Field} (h : KeepsFieldsBut l s t) (hg : g ∈ l) (v : Nat) :
    KeepsFieldsBut l s (t.wr g v) := by
  intro f hq hl
  obtain ⟨hrd, hrdA⟩ := h f hq hl
  exact ⟨(State.rd_wr_ne _ _ (Ne.symm (hl g hg))).trans hrd, hrdA⟩

theorem KeepsFieldsBut.raiseN {l : List Field} {s t : State} (h : KeepsFieldsBut l s t) (e : Evt) (n : Nat) :
    KeepsFieldsBut l s (t.raiseN e n) := by
  intro f hq hl
  obtain ⟨hrd, hrdA⟩ := h f hq hl
  exact ⟨(State.raiseN_rd _ _ _ _ hq).trans hrd, by rw [← hrdA, State.rdA, State.rdA, State.raiseN_act]⟩

theorem KeepsFieldsBut.raise {l : List Field} {s t : State} (h : KeepsFieldsBut l s t) (e : Evt) :
    KeepsFieldsBut l s (t.raise e) := h.raiseN e 1

theorem KeepsFieldsBut.cond {l : List Field} {s t : State} {b : Bool} {f : State → State} (h : KeepsFieldsBut l s t)
    (hf : b = true → KeepsFieldsBut l s (f t)) : KeepsFieldsBut l s (t.cond b f) := by
  cases b
  · exact h
  · exact hf rfl

/-! ### Mailboxes -/

/-- An update of the commands in progress alone. -/
def State.MbxFrame (s t : State) : Prop := t = { s with mbx := t.mbx }

theorem State.onMbx_mbxFrame (s : State) (x : Nat) (f : MbxCmd → MbxCmd) : s.MbxFrame (s.onMbx x f) := by
  unfold State.onMbx State.MbxFrame
  split <;> rfl

theorem State.mbxDecide_mbxFrame (s : State) (test : MbxCmd → Bool) (status detail : Nat) :
    s.MbxFrame (s.mbxDecide test status detail) := by
  refine State.forEach_invariant (State.MbxFrame s) _ _ (fun x t ht => ?_) rfl
  have hx := State.onMbx_mbxFrame t x fun c =>
    if test c && c.ended.isNone then { c with ended := some (status, detail, []) } else c
  unfold State.MbxFrame at *
  rw [hx, ht]

/-- The host's write of an enable decides the ends of the commands that drive the port, and nothing else (R377). -/
theorem State.mbxEnableWrite_mbxFrame (s : State) (r : Requester) (p : Port) : s.MbxFrame (s.mbxEnableWrite r p) := by
  unfold State.mbxEnableWrite
  split
  · exact s.mbxDecide_mbxFrame _ _ _
  · rfl

end Sys2Proof.Machine
end

section
/-! The transmitter's state machine (O33): each operation on a port's transmitter has lemmas for what it sets and what it keeps;
a clause of the statement is one operation. -/

namespace Sys2Proof.Machine

open F

/-! ### The transmitter's fields -/

theorem txState_key_ne_txEnable (p : Port) : (TX.TX_STATUS_TX_STATE p).key ≠ (TX.TX_CTRL_TX_ENABLE p).key := by
  cases p <;> decide

theorem txState_quiet (p : Port) : (TX.TX_STATUS_TX_STATE p).quiet = true := by cases p <;> decide

theorem txEnable_quiet (p : Port) : (TX.TX_CTRL_TX_ENABLE p).quiet = true := by cases p <;> decide

/-- A code of `TX_STATE` just written is read back (R62). -/
theorem State.txSt_wr (s : State) (p : Port) {v : Nat} (hv : v < 8) : (s.wr (TX.TX_STATUS_TX_STATE p) v).txSt p = v := by
  rw [State.txSt, State.rd_wr_same]
  exact Nat.mod_eq_of_lt hv

theorem State.on_of_rd {s : State} {f : Field} (h : s.rd f = 1) : s.on f = true := by rw [State.on, h]; rfl

/-- The state of a transmitter is no field of an event. -/
theorem State.txSt_raise (s : State) (e : Evt) (p : Port) : (s.raise e).txSt p = s.txSt p :=
  State.raise_rd s e _ (txState_quiet p)

/-- An event of a transmitter occurs while RCLK runs, and counts 1 (R440, R443). -/
theorem State.raise_counted {s : State} {e : Evt} (hclk : s.Clocked) (hi : e.page * 4096 + e.off ≠ 5 * 4096 + 0x41C) :
    Counted e s (s.raise e) :=
  State.raise_counts s e (by rw [hclk, Bool.and_false]) hi

/-! ### What a port sends -/

/-- What is sent from the next frame on is the last entry of the record (R54, R59). -/
theorem State.txSend_last (s : State) (p : Port) (c : TxContent) :
    ((s.txSend p c).tx.get p).sent.getLast? = some (s.nextFrame p, c) := by
  rw [State.txSend, State.onTx]
  simp

/-! ### `TX_ENABLE` (R59, R377) -/

theorem completes_txEnableSet {r : Requester} {p : Port} {s : State} {P : State → Prop}
    (htakes : s.Takes r (31 + 8 * p.toNat) 0x058) (hP : ∀ m, P (State.txEnableSet { s with mbx := m } p)) :
    Completes (.txEnableSet r p) s P := by
  refine ⟨_, by rw [exec, execTxEnableSet, State.guarded_of_takes htakes], ?_⟩
  rw [s.mbxEnableWrite_mbxFrame r p]
  exact hP _

theorem completes_txEnableClear {r : Requester} {p : Port} {s : State} {P : State → Prop}
    (htakes : s.Takes r (31 + 8 * p.toNat) 0x058) (hP : ∀ m, P (State.txEnableClear { s with mbx := m } p)) :
    Completes (.txEnableClear r p) s P := by
  refine ⟨_, by rw [exec, execTxEnableClear, State.guarded_of_takes htakes], ?_⟩
  rw [s.mbxEnableWrite_mbxFrame r p]
  exact hP _

/-- An enable of a valid configuration out of DARK starts a ramp-up (R57, R59). -/
theorem State.txEnableSet_starts {s : State} {p : Port} (hst : s.txSt p = txDark) (hv : s.txValid p = true) :
    (s.txEnableSet p).txSt p = txRampUp ∧ (s.txEnableSet p).on (TX.TX_CTRL_TX_ENABLE p) = true ∧
      ((s.txEnableSet p).tx.get p).atten = s.rd (TX.RAMP_DEPTH_TOTAL_DB p) * 1000 * s.rampMs p ∧
      ((s.txEnableSet p).tx.get p).zeroed = false ∧ ((s.txEnableSet p).tx.get p).repeating = true ∧
      (s.txEnableSet p).tx.get p.other = s.tx.get p.other ∧
      KeepsFieldsBut [TX.TX_STATUS_TX_STATE p, TX.TX_CTRL_TX_ENABLE p] s (s.txEnableSet p) := by
  rw [State.txEnableSet, if_pos hst, if_pos hv]
  unfold State.txStart
  dsimp only
  generalize hu : (s.onTx p _).txSend p .preamble = u
  have hkeep : KeepsFieldsBut [TX.TX_STATUS_TX_STATE p, TX.TX_CTRL_TX_ENABLE p] s u := by
    rw [← hu]
    exact (KeepsFieldsBut.refl _ s).same rfl rfl
  have hst' : ((u.wr (TX.TX_CTRL_TX_ENABLE p) 1).wr (TX.TX_STATUS_TX_STATE p) txRampUp).txSt p = txRampUp :=
    State.txSt_wr _ p (by decide)
  refine ⟨hst', ?_, ?_, ?_, ?_, ?_, ?_⟩
  · exact State.on_of_rd ((State.rd_wr_ne (u.wr _ 1) txRampUp (txState_key_ne_txEnable p)).trans (State.rd_wr_same u _ 1))
  iterate 4 (rw [← hu]; cases p <;> rfl)
  · exact ((hkeep.wr (g := TX.TX_CTRL_TX_ENABLE p) (by simp) 1).wr (g := TX.TX_STATUS_TX_STATE p) (by simp) txRampUp).same rfl rfl

/-- An enable of an invalid configuration is refused (R59). -/
theorem State.txEnableSet_refused {s : State} {p : Port} (hclk : s.Clocked) (hst : s.txSt p = txDark)
    (hv : s.txValid p = false) :
    (s.txEnableSet p).txSt p = txDark ∧ (s.txEnableSet p).on (TX.TX_CTRL_TX_ENABLE p) = false ∧
      Counted (Ev.TX.cfgRefused p) s (s.txEnableSet p) ∧ KeepsFieldsBut [TX.TX_CTRL_TX_ENABLE p] s (s.txEnableSet p) := by
  have hkeep : KeepsFieldsBut [TX.TX_CTRL_TX_ENABLE p] s (s.wr (TX.TX_CTRL_TX_ENABLE p) 0) :=
    (KeepsFieldsBut.refl _ s).wr (by simp) 0
  have hclk' : (s.wr (TX.TX_CTRL_TX_ENABLE p) 0).Clocked := by
    rw [State.Clocked, State.rclkStopped_wr _ (by cases p <;> decide)]
    exact hclk
  rw [State.txEnableSet, if_pos hst, hv]
  refine ⟨?_, ?_, State.raise_counted hclk' (by cases p <;> decide), hkeep.raise _⟩
  · simp only [Bool.false_eq_true, if_false]
    rw [State.txSt_raise]
    exact (State.rd_wr_ne _ _ (Ne.symm (txState_key_ne_txEnable p))).trans hst
  · simp only [Bool.false_eq_true, if_false]
    rw [State.on, State.raise_rd _ _ _ (txEnable_quiet p), State.rd_wr_same]
    rfl

/-- An enable during the ramp down turns the ramp (R59). -/
theorem State.txEnableSet_turns {s : State} {p : Port} (hst : s.txSt p = txRampDown) :
    (s.txEnableSet p).txSt p = txRampUp ∧ (s.txEnableSet p).on (TX.TX_CTRL_TX_ENABLE p) = true := by
  rw [State.txEnableSet, if_neg (by rw [hst]; decide), if_pos hst]
  exact ⟨State.txSt_wr _ p (by decide),
    State.on_of_rd ((State.rd_wr_ne _ _ (txState_key_ne_txEnable p)).trans (State.rd_wr_same _ _ 1))⟩

/-- The fields that a task abandoned shows (R425). -/
theorem State.abandonTask_keeps {l : List Field} {s t : State} (h : KeepsFieldsBut l s t) (k : Nat)
    (ha : PWR_MGR.CAL_STATE_ACTIVE ∈ l) (hp : PWR_MGR.CAL_STATE_PENDING ∈ l) : KeepsFieldsBut l s (t.abandonTask k) :=
  ((h.wr ha _).wr hp _).same rfl rfl

theorem State.abandonTask_rd (s : State) (k : Nat) {f : Field} (ha : PWR_MGR.CAL_STATE_ACTIVE.key ≠ f.key)
    (hp : PWR_MGR.CAL_STATE_PENDING.key ≠ f.key) : (s.abandonTask k).rd f = s.rd f :=
  (State.rd_wr_ne _ _ hp).trans (State.rd_wr_ne _ _ ha)

/-- `TX_ENABLE` cleared and the transmit skew task stopped, before the ramp (R59, R424). -/
def State.txDisabled (s : State) (p : Port) : State :=
  (s.wr (TX.TX_CTRL_TX_ENABLE p) 0).cond (bitOf (s.rd PWR_MGR.CAL_STATE_ACTIVE) p.toNat) fun s => s.abandonTask p.toNat

theorem State.txDisabled_rd (s : State) (p : Port) {f : Field} (hen : (TX.TX_CTRL_TX_ENABLE p).key ≠ f.key)
    (ha : PWR_MGR.CAL_STATE_ACTIVE.key ≠ f.key) (hp : PWR_MGR.CAL_STATE_PENDING.key ≠ f.key) :
    (s.txDisabled p).rd f = s.rd f := by
  unfold State.txDisabled
  cases bitOf (s.rd PWR_MGR.CAL_STATE_ACTIVE) p.toNat
  · exact State.rd_wr_ne _ _ hen
  · exact (State.abandonTask_rd _ _ ha hp).trans (State.rd_wr_ne _ _ hen)

theorem State.txDisabled_txSt (s : State) (p : Port) : (s.txDisabled p).txSt p = s.txSt p :=
  s.txDisabled_rd p (Ne.symm (txState_key_ne_txEnable p)) (by cases p <;> decide) (by cases p <;> decide)

theorem State.txDisabled_enable (s : State) (p : Port) : (s.txDisabled p).on (TX.TX_CTRL_TX_ENABLE p) = false := by
  unfold State.txDisabled
  cases bitOf (s.rd PWR_MGR.CAL_STATE_ACTIVE) p.toNat
  · rw [State.cond_false, State.on, State.rd_wr_same]
    rfl
  · rw [State.cond_true, State.on, State.abandonTask_rd _ _ (by cases p <;> decide) (by cases p <;> decide), State.rd_wr_same]
    rfl

theorem State.txDisabled_keeps {l : List Field} (s : State) (p : Port) (hen : TX.TX_CTRL_TX_ENABLE p ∈ l)
    (hl : bitOf (s.rd PWR_MGR.CAL_STATE_ACTIVE) p.toNat = true → PWR_MGR.CAL_STATE_ACTIVE ∈ l ∧ PWR_MGR.CAL_STATE_PENDING ∈ l) :
    KeepsFieldsBut l s (s.txDisabled p) :=
  ((KeepsFieldsBut.refl l s).wr hen 0).cond fun hact =>
    State.abandonTask_keeps ((KeepsFieldsBut.refl l s).wr hen 0) _ (hl hact).1 (hl hact).2

/-- The end of a clear of `TX_ENABLE` in a state other than RESET_WAIT and DARK: the ramp down (R59). -/
theorem State.txEnableClear_spec {s : State} {p : Port} (hwait : s.txSt p ≠ txResetWait) (hdark : s.txSt p ≠ txDark)
    (hlt : s.txSt p < 6) :
    (s.txEnableClear p).txSt p = txRampDown ∧
      (s.txEnableClear p).on (TX.TX_CTRL_TX_ENABLE p) = (s.txDisabled p).on (TX.TX_CTRL_TX_ENABLE p) ∧
      (s.txSt p = txOn → ((s.txEnableClear p).tx.get p).atten = 0) ∧
      ∀ l, TX.TX_STATUS_TX_STATE p ∈ l → KeepsFieldsBut l s (s.txDisabled p) → KeepsFieldsBut l s (s.txEnableClear p) := by
  have hclear : s.txEnableClear p =
      if (s.txDisabled p).txSt p = txRampUp then (s.txDisabled p).wr (TX.TX_STATUS_TX_STATE p) txRampDown
      else if (s.txDisabled p).txSt p = txAlign ∨ (s.txDisabled p).txSt p = txOn then
        (s.txDisabled p).txRampFromTop p txRampDown
      else s.txDisabled p := by
    rw [State.txEnableClear, if_neg hwait]
    rfl
  have hen : ∀ (u : State) v, (u.wr (TX.TX_STATUS_TX_STATE p) v).on (TX.TX_CTRL_TX_ENABLE p) = u.on (TX.TX_CTRL_TX_ENABLE p) :=
    fun u v => by rw [State.on, State.rd_wr_ne _ _ (txState_key_ne_txEnable p), State.on]
  rw [hclear, s.txDisabled_txSt p]
  split
  · next hup =>
    refine ⟨State.txSt_wr _ p (by decide), hen _ _, fun hon => ?_, fun l hl h => h.wr hl _⟩
    rw [hup] at hon
    exact absurd hon (by decide)
  · split
    · exact ⟨State.txSt_wr _ p (by decide), hen _ _, fun _ => by cases p <;> rfl,
        fun l hl h => (h.same (u := (s.txDisabled p).onTx p _) rfl rfl).wr hl _⟩
    · next hup htop =>
      have hdown : s.txSt p = txRampDown := by
        simp only [txResetWait, txDark, txRampUp, txAlign, txOn, txRampDown] at *
        omega
      refine ⟨(s.txDisabled_txSt p).trans hdown, rfl, fun hon => ?_, fun _ _ h => h⟩
      rw [hdown] at hon
      exact absurd hon (by decide)

/-! ### Ramps (R57, R59) -/

theorem State.clocked_run {s : State} (hclk : s.Clocked) (r : Result) : s.clocked r = r := by
  rw [State.clocked, hclk]
  rfl

/-- A step of a ramp-up: at 0 dB the port goes to ALIGN. -/
theorem completes_rampStep_up {p : Port} {s : State} {P : State → Prop} (hclk : s.Clocked) (hst : s.txSt p = txRampUp)
    (hP : let a := (s.tx.get p).atten - s.rd (TX.RAMP_DEPTH_TOTAL_DB p)
      let u := s.onTx p fun t => { t with atten := a }
      P (if a = 0 then u.txToAlign p else u)) : Completes (.rampStep p) s P := by
  refine ⟨_, ?_, hP⟩
  rw [exec, execRampStep, State.clocked_run hclk]
  dsimp only
  rw [if_pos hst]

/-- A step of a ramp down: at TOTAL_DB the port is at the bottom of its ramp. -/
theorem completes_rampStep_down {p : Port} {s : State} {P : State → Prop} (hclk : s.Clocked) (hst : s.txSt p = txRampDown)
    (hP : let step := s.rd (TX.RAMP_DEPTH_TOTAL_DB p)
      let top := step * 1000 * (s.tx.get p).rampMs
      let a := min top ((s.tx.get p).atten + step)
      let u := s.onTx p fun t => { t with atten := a }
      P (if a = top then u.rampBottom p else u)) : Completes (.rampStep p) s P := by
  refine ⟨_, ?_, hP⟩
  rw [exec, execRampStep, State.clocked_run hclk]
  dsimp only
  rw [if_neg (by rw [hst]; decide), if_pos (.inl hst)]

/-! ### An early commit (R483) -/

/-- A field that no commit of a request shows in: a quiet one outside `STAGE_STATUS`. -/
def Field.unstaged (f : Field) : Bool := f.quiet && decide (f.key / 32 % 4096 ≠ 0x024)

theorem Field.unstaged_key_ne {f : Field} (h : f.unstaged = true) {page lsb : Nat} (hlsb : lsb < 32) :
    (page * 4096 + 0x024) * 32 + lsb ≠ f.key := by
  simp only [Field.unstaged, Bool.and_eq_true, decide_eq_true_eq] at h
  obtain ⟨-, hoff⟩ := h
  omega

/-- What a loop over states keeps in relation to its start. -/
theorem State.commitFields_frame (s : State) (groups : Nat) :
    s.commitFields groups = { s with act := (s.commitFields groups).act } := by
  refine State.forEach_invariant (fun t => t = { s with act := t.act }) _ _ (fun g t ht => ?_) rfl
  refine State.forEach_invariant (fun t => t = { s with act := t.act }) _ _ (fun f t ht => ?_) ht
  rw [ht]
  rfl

/-- What a commit of a request leaves: all but the active values, the queue of requests, and what its status and event show. -/
theorem State.commitRaw_keeps {β : Type} (g : State → β) (hact : ∀ s a, g { s with act := a } = g s)
    (hecl : ∀ s l, g { s with ecl := l } = g s)
    (hwr : ∀ s page v, g (State.wr s (HDR.STAGE_STATUS_PENDING page) v) = g s ∧
      g (State.wr s (HDR.STAGE_STATUS_DONE page) v) = g s ∧ g (State.wr s (HDR.STAGE_STATUS_EARLY page) v) = g s)
    (hev : ∀ s, g (State.raise s Ev.MG_ID.committed) = g s) (s : State) (key : Nat) (req : EclReq) (early : Bool) :
    g (s.commitRaw key req early) = g s := by
  unfold State.commitRaw State.dropRequest
  dsimp only
  rw [hev]
  cases (!req.older)
  · rw [State.cond_false, State.wrB, (hwr _ _ _).1, hecl, State.commitFields_frame, hact]
  · rw [State.cond_true, State.wrB, (hwr _ _ _).2.2, (hwr _ _ _).2.1, State.wrB, (hwr _ _ _).1, hecl,
      State.commitFields_frame, hact]

/-- What each commit keeps, an early commit keeps. -/
theorem State.commitEarly_keeps {β : Type} (g : State → β) (hecl : ∀ s l, g { s with ecl := l } = g s)
    (hraw : ∀ s key req, g (State.commitRaw s key req true) = g s) (s : State) (n : Nat) : g (s.commitEarly n) = g s := by
  unfold State.commitEarly State.markLate
  split
  · exact State.forEach_keeps g _ _ (fun e s => hecl s _) s
  · exact State.forEach_keeps g _ _ (fun e s => hraw s _ _) s

theorem State.commitRaw_rd {f : Field} (hf : f.unstaged = true) (s : State) (key : Nat) (req : EclReq) (early : Bool) :
    (s.commitRaw key req early).rd f = s.rd f := by
  have hq : f.quiet = true := by
    rw [Field.unstaged, Bool.and_eq_true] at hf
    exact hf.1
  exact State.commitRaw_keeps (fun s => s.rd f) (fun _ _ => rfl) (fun _ _ => rfl)
    (fun s page v => ⟨State.rd_wr_ne _ _ (Field.unstaged_key_ne hf (lsb := 0) (by decide)),
      State.rd_wr_ne _ _ (Field.unstaged_key_ne hf (lsb := 1) (by decide)),
      State.rd_wr_ne _ _ (Field.unstaged_key_ne hf (lsb := 2) (by decide))⟩)
    (fun s => State.raise_rd _ _ _ hq) s key req early

theorem State.commitEarly_rd {f : Field} (hf : f.unstaged = true) (s : State) (n : Nat) : (s.commitEarly n).rd f = s.rd f :=
  State.commitEarly_keeps (fun s => s.rd f) (fun _ _ => rfl) (fun s key req => s.commitRaw_rd hf key req true) s n

/-- A field of `State` that neither registers, requests nor events touch. -/
theorem State.commitEarly_tx (s : State) (n : Nat) : (s.commitEarly n).tx = s.tx :=
  State.commitEarly_keeps State.tx (fun _ _ => rfl)
    (fun s key req => State.commitRaw_keeps State.tx (fun _ _ => rfl) (fun _ _ => rfl) (fun _ _ _ => ⟨rfl, rfl, rfl⟩)
      (fun s => s.raise_tx _) s key req true) s n

/-- The counters that an early commit leaves: all but those of MG_ID's own event and INT_N. -/
theorem State.commitEarly_counter (s : State) (n : Nat) {page off : Nat}
    (hc : page * 4096 + off ≠ Ev.MG_ID.committed.page * 4096 + Ev.MG_ID.committed.off)
    (hi : page * 4096 + off ≠ 5 * 4096 + 0x41C) : (s.commitEarly n).counter page off = s.counter page off :=
  State.commitEarly_keeps (fun s => s.counter page off) (fun _ _ => rfl)
    (fun s key req => State.commitRaw_keeps (fun s => s.counter page off) (fun _ _ => rfl) (fun _ _ => rfl)
      (fun _ _ _ => ⟨rfl, rfl, rfl⟩) (fun s => State.raise_counter_ne s _ _ _ hc hi) s key req true) s n

theorem State.rclkStopped_of_rd {s t : State} (h : t.rd CK_SYN.SYN_STATUS_RCLK_OK = s.rd CK_SYN.SYN_STATUS_RCLK_OK) :
    t.rclkStopped = s.rclkStopped := by
  rw [State.rclkStopped, State.on, h, State.rclkStopped, State.on]

/-! ### DARK (R59) -/

theorem State.txGoDark_tx (s : State) (p : Port) :
    ((s.txGoDark p).tx.get p).zeroed = true ∧ ((s.txGoDark p).tx.get p).repeating = false ∧
      ((s.txGoDark p).tx.get p).sent.getLast? = some (s.nextFrame p, .dark) := by
  unfold State.txGoDark
  dsimp only
  rw [State.commitEarly_tx]
  refine ⟨by cases p <;> rfl, by cases p <;> rfl, ?_⟩
  exact State.txSend_last (s.onTx p _) p .dark

theorem State.txGoDark_txSt (s : State) (p : Port) : (s.txGoDark p).txSt p = txDark := by
  unfold State.txGoDark
  dsimp only
  rw [State.txSt, State.commitEarly_rd (by cases p <;> decide)]
  exact State.txSt_wr _ p (by decide)

theorem State.txGoDark_rclkStopped (s : State) (p : Port) : (s.txGoDark p).rclkStopped = s.rclkStopped := by
  refine State.rclkStopped_of_rd ?_
  unfold State.txGoDark
  dsimp only
  rw [State.commitEarly_rd (by decide), State.rd_wr_ne _ _ (by cases p <;> decide)]
  rfl

/-- The bottom of a ramp down without a region reset that waits for it. -/
theorem State.rampBottom_dark {s : State} {p : Port} (hclk : s.Clocked) (hst : s.txSt p = txRampDown) :
    (s.rampBottom p).txSt p = txDark ∧ ((s.rampBottom p).tx.get p).zeroed = true ∧
      ((s.rampBottom p).tx.get p).repeating = false ∧
      ((s.rampBottom p).tx.get p).sent.getLast? = some (s.nextFrame p, .dark) ∧
      Counted (Ev.TX.dark p) s (s.rampBottom p) := by
  obtain ⟨hzero, hrep, hlast⟩ := s.txGoDark_tx p
  have hclk' : (s.txGoDark p).Clocked := (s.txGoDark_rclkStopped p).trans hclk
  rw [State.rampBottom, if_neg (by rw [hst]; decide)]
  refine ⟨(State.txSt_raise _ _ p).trans (s.txGoDark_txSt p), ?_, ?_, ?_, ?_⟩
  · rw [State.raise_tx]; exact hzero
  · rw [State.raise_tx]; exact hrep
  · rw [State.raise_tx]; exact hlast
  · have hcnt := State.raise_counted hclk' (e := Ev.TX.dark p) (by cases p <;> decide)
    have hkeep : (s.txGoDark p).counter (Ev.TX.dark p).page (Ev.TX.dark p).off =
        s.counter (Ev.TX.dark p).page (Ev.TX.dark p).off :=
      State.commitEarly_counter _ _ (by cases p <;> decide) (by cases p <;> decide)
    rw [Counted, hkeep] at hcnt
    exact hcnt

/-! ### Preambles (R56, R59) -/

theorem State.forcePreamble_on {s : State} {p : Port} (hst : s.txSt p = txOn) :
    s.forcePreamble p = s.onTx p fun t => { t with forced := true } := by
  rw [State.forcePreamble, if_pos hst]

theorem State.forcePreamble_off {s : State} {p : Port} (hst : s.txSt p ≠ txOn) : s.forcePreamble p = s := by
  rw [State.forcePreamble, if_neg hst]

theorem completes_forcePreamble {r : Requester} {p : Port} {s : State} {P : State → Prop}
    (htakes : s.Takes r (31 + 8 * p.toNat) 0x058) (hP : P (s.forcePreamble p)) : Completes (.forcePreamble r p) s P :=
  ⟨_, by rw [exec, execForcePreamble, State.guarded_of_takes htakes], hP⟩

/-- The end marker: payload from the next frame on (R59). -/
def State.txPayload (s : State) (p : Port) : State :=
  ((s.onTx p fun t => { t with endMarker := false, repeating := false }).txSend p .payload).wr (TX.TX_STATUS_TX_STATE p) txOn

theorem completes_preambleEndMarkerDone {p : Port} {s : State} {P : State → Prop} (hclk : s.Clocked)
    (hst : s.txSt p = txAlign) (hP : P (((s.txPayload p).raise (Ev.TX.preambleSent p)).raise (Ev.TX.on p))) :
    Completes (.preambleEndMarkerDone p) s P := by
  refine ⟨_, ?_, hP⟩
  rw [exec, execPreambleEndMarkerDone, State.clocked_run hclk, if_pos hst]
  rfl

/-- Whether the port's frame count asks for a preamble. -/
def State.preambleDue (s : State) (p : Port) : Bool := s.preambleAsked p && decide (s.preInterval p ≤ (s.tx.get p).preCount)

/-- The port with a preamble in its next frame. -/
def State.withPreamble (s : State) (p : Port) : State :=
  let u := s.onTx p fun t => { t with forced := false, preCount := if s.preambleDue p then 0 else t.preCount }
  { u with frame := u.frame.upd p fun f => { f with preamble := true } }

theorem completes_preambleScheduled {p : Port} {s : State} {P : State → Prop} (hclk : s.Clocked) (hst : s.txSt p = txOn)
    (hdue : s.preambleDue p = true ∨ (s.tx.get p).forced = true)
    (hP : P ((s.withPreamble p).raise (Ev.TX.preambleSent p))) : Completes (.preambleScheduled p) s P := by
  refine ⟨_, ?_, hP⟩
  rw [exec, execPreambleScheduled, State.clocked_run hclk]
  dsimp only
  rw [if_pos ⟨hst, hdue⟩]
  rfl

/-- Two events of a port's transmitter, of which each counts 1. -/
theorem State.raise_raise_counted {s : State} {e f : Evt} (hclk : s.Clocked)
    (he : e.page * 4096 + e.off ≠ 5 * 4096 + 0x41C) (hf : f.page * 4096 + f.off ≠ 5 * 4096 + 0x41C)
    (hne : e.page * 4096 + e.off ≠ f.page * 4096 + f.off) :
    Counted e s ((s.raise e).raise f) ∧ Counted f s ((s.raise e).raise f) := by
  have hclk' : (s.raise e).Clocked :=
    (State.rclkStopped_of_rd (State.raise_rd s e _ (by decide))).trans hclk
  have hcount := State.raise_counted hclk' hf
  rw [Counted, State.raise_counter_ne s e _ _ (Ne.symm hne) hf] at hcount
  refine ⟨?_, hcount⟩
  rw [Counted, State.raise_counter_ne _ f _ _ hne he]
  exact State.raise_counted hclk he

/-! ### The rotation of the clusters (R52) -/

theorem Spared.unitAt_assign_same (x : Spared) (pl u : Nat) : (x.assign pl u).unitAt pl = u := by
  unfold Spared.assign Spared.unitAt
  dsimp only
  split
  · next h => rw [Tab.get_erase_same, h]
  · exact Tab.get_insert_same _ _ _ _

theorem Spared.unitAt_assign_ne (x : Spared) {pl q : Nat} (u : Nat) (h : pl ≠ q) : (x.assign pl u).unitAt q = x.unitAt q := by
  unfold Spared.assign Spared.unitAt
  dsimp only
  split
  · exact Tab.get_erase_ne _ _ h
  · exact Tab.get_insert_ne _ _ _ h

@[simp] theorem State.block_setBlock_same (s : State) (b : Block) (x : Spared) : (s.setBlock b x).block b = x :=
  Tab.get_set_same _ _ _ _

/-- The next cluster of a rotation is one of them. -/
theorem nextCluster_lt {x : Spared} {b : Block} {c n u : Nat} (h : nextCluster x b c n = some u) : u < n := by
  obtain ⟨i, hi, rfl⟩ := List.mem_map.1 (List.mem_of_find?_eq_some h)
  exact Nat.mod_lt _ (Nat.zero_lt_of_lt (List.mem_range.1 hi))

/-- The rotation with a spare that may eclose and a next cluster in a place. -/
theorem completes_txClusterRotation {p : Port} {u pl : Nat} {s : State} {P : State → Prop} (hclk : s.Clocked)
    (hredo : (s.tx.get p).abandoned = false) (hspare : (s.block (.txCluster p)).spares (.txCluster p) ≠ 0)
    (hmay : (s.block (.txCluster p)).mayEclose (s.rd (TX.CLU_ROT_CHRYS_CLU p)) = true)
    (hnext : nextCluster (s.block (.txCluster p)) (.txCluster p) (s.rd (TX.CLU_ROT_CHRYS_CLU p)) 9 = some u)
    (hplace : (s.block (.txCluster p)).placeOf (.txCluster p) u = some pl)
    (hP : let c := s.rd (TX.CLU_ROT_CHRYS_CLU p)
      P ((s.setBlock (.txCluster p) (((s.block (.txCluster p)).assign pl c).entersChrysalis c)).wr (TX.CLU_ROT_CHRYS_CLU p) u)) :
    Completes (.txClusterRotation p) s P := by
  refine ⟨_, ?_, hP⟩
  rw [exec, execTxClusterRotation, State.clocked_run hclk]
  dsimp only
  rw [if_neg (by simp [hredo, hspare, hmay]), hnext]
  dsimp only
  rw [hplace]

/-- Without a spare that may eclose, or in a redo, there is no rotation (R25, R50). -/
theorem exec_txClusterRotation_idle {p : Port} {s : State} (hclk : s.Clocked)
    (h : (s.tx.get p).abandoned = true ∨ (s.block (.txCluster p)).spares (.txCluster p) = 0 ∨
      (s.block (.txCluster p)).mayEclose (s.rd (TX.CLU_ROT_CHRYS_CLU p)) = false) :
    exec (.txClusterRotation p) s = .next s := by
  rw [exec, execTxClusterRotation, State.clocked_run hclk]
  dsimp only
  rw [if_pos (by simpa only [Bool.not_eq_true] using h)]

/-- Settles O33: each clause is one operation of the transmitter, taken from the state that the clause names. -/
theorem transmitterFollowsItsStateMachine : Obligations.TransmitterFollowsItsStateMachine := by
  unfold Obligations.TransmitterFollowsItsStateMachine
  refine ⟨?starts, ?refused, ?turns, ?clears, ?forces, ?noForce, ?up, ?down, ?dark, ?marker, ?scheduled, ?unscheduled, ?rotates,
    ?rests⟩
  case starts =>
    intro r p s htakes hst hv
    exact completes_txEnableSet htakes fun m => State.txEnableSet_starts (s := { s with mbx := m }) hst hv
  case refused =>
    intro r p s htakes hst hv
    have hclk := State.clocked_of_takes htakes (by cases p <;> rfl)
    exact completes_txEnableSet htakes fun m => State.txEnableSet_refused (s := { s with mbx := m }) hclk hst hv
  case turns =>
    intro r p s htakes hst
    exact completes_txEnableSet htakes fun m => State.txEnableSet_turns (s := { s with mbx := m }) hst
  case clears =>
    intro r p s htakes hwait hdark hlt
    refine completes_txEnableClear htakes fun m => ?_
    obtain ⟨hst, hen, hatten, hkeeps⟩ := State.txEnableClear_spec (s := { s with mbx := m }) hwait hdark hlt
    refine ⟨hst, hen.trans (State.txDisabled_enable _ p), hatten, ?_, fun hidle => ?_⟩
    · exact hkeeps _ (by simp) (State.txDisabled_keeps _ p (by simp) fun _ => by simp)
    · exact hkeeps _ (by simp) (State.txDisabled_keeps _ p (by simp) fun hact => by
        exact absurd (hidle.symm.trans hact) (by decide))
  case forces =>
    intro r p s htakes hst
    refine completes_forcePreamble htakes ?_
    rw [State.forcePreamble_on hst]
    exact ⟨by cases p <;> rfl, rfl⟩
  case noForce =>
    intro r p s htakes hst
    exact completes_forcePreamble htakes (State.forcePreamble_off hst)
  case up =>
    intro p s hclk hst
    refine completes_rampStep_up hclk hst ?_
    dsimp only
    have hkeep : KeepsFieldsBut [TX.TX_STATUS_TX_STATE p] s (s.onTx p fun t =>
        { t with atten := (s.tx.get p).atten - s.rd (TX.RAMP_DEPTH_TOTAL_DB p) }) := (KeepsFieldsBut.refl _ s).same rfl rfl
    by_cases htop : (s.tx.get p).atten ≤ s.rd (TX.RAMP_DEPTH_TOTAL_DB p)
    · rw [if_pos (Nat.sub_eq_zero_of_le htop), if_pos htop]
      exact ⟨by cases p <;> rfl, State.txSt_wr _ p (by decide),
        (hkeep.same (u := State.onTx _ p _) rfl rfl).wr (by simp) _⟩
    · rw [if_neg (by omega), if_neg htop]
      exact ⟨by cases p <;> rfl, hst, hkeep⟩
  case down =>
    intro p s hclk hst hbelow
    refine completes_rampStep_down hclk hst ?_
    dsimp only
    rw [if_neg (by omega), Nat.min_eq_right (Nat.le_of_lt hbelow)]
    exact ⟨hst, by cases p <;> rfl, by cases p <;> rfl, rfl⟩
  case dark =>
    intro p s hclk hst hreach
    refine completes_rampStep_down hclk hst ?_
    dsimp only
    rw [if_pos (Nat.min_eq_left hreach)]
    exact State.rampBottom_dark (s := s.onTx p _) hclk hst
  case marker =>
    intro p s hclk hst
    refine completes_preambleEndMarkerDone hclk hst ?_
    have hclk' : (s.txPayload p).Clocked :=
      (State.rclkStopped_of_rd (State.rd_wr_ne _ _ (by cases p <;> decide))).trans hclk
    obtain ⟨hsent, hon⟩ := State.raise_raise_counted hclk' (e := Ev.TX.preambleSent p) (f := Ev.TX.on p)
      (by cases p <;> decide) (by cases p <;> decide) (by cases p <;> decide)
    have hkeep : KeepsFieldsBut [TX.TX_STATUS_TX_STATE p] s (s.txPayload p) :=
      ((KeepsFieldsBut.refl _ s).same (u := State.txSend _ p .payload) rfl rfl).wr (by simp) _
    refine ⟨?_, ?_, ?_, hon, hsent, (hkeep.raise _).raise _⟩
    · rw [State.txSt_raise, State.txSt_raise]
      exact State.txSt_wr _ p (by decide)
    · rw [State.raise_tx, State.raise_tx]
      cases p <;> rfl
    · rw [State.raise_tx, State.raise_tx]
      exact State.txSend_last (s.onTx p _) p .payload
  case scheduled =>
    intro p s hclk hst hdue
    refine completes_preambleScheduled hclk hst hdue ?_
    have hkeep : KeepsFieldsBut [] s (s.withPreamble p) := (KeepsFieldsBut.refl _ s).same rfl rfl
    refine ⟨?_, ?_, State.raise_counted (s := s.withPreamble p) hclk (by cases p <;> decide), hkeep.raise _⟩
    · rw [State.raise_frame]
      cases p <;> rfl
    · rw [State.raise_tx]
      cases p <;> rfl
  case unscheduled =>
    intro p s hclk _ hdue hforced
    refine ⟨s, ?_, rfl⟩
    rw [exec, execPreambleScheduled, State.clocked_run hclk]
    dsimp only
    rw [if_neg (by simp [hdue, hforced])]
  case rotates =>
    intro p u pl s hclk hredo hspare hmay hnext hplace
    refine completes_txClusterRotation hclk hredo hspare hmay hnext hplace ?_
    have hkeep : ∀ x, KeepsFieldsBut [TX.CLU_ROT_CHRYS_CLU p] s (s.setBlock (.txCluster p) x) :=
      fun x => (KeepsFieldsBut.refl _ s).same rfl rfl
    have hblock : ∀ x v, ((s.setBlock (.txCluster p) x).wr (TX.CLU_ROT_CHRYS_CLU p) v).block (.txCluster p) = x :=
      fun x _ => s.block_setBlock_same _ x
    dsimp only
    rw [hblock]
    refine ⟨?_, Spared.unitAt_assign_same _ _ _, fun q hq => Spared.unitAt_assign_ne _ _ (Ne.symm hq), (hkeep _).wr (by simp) _⟩
    rw [State.rd_wr_same]
    exact Nat.mod_eq_of_lt (Nat.lt_trans (nextCluster_lt hnext) (by cases p <;> decide))
  case rests =>
    intro p s hclk h
    exact ⟨s, exec_txClusterRotation_idle hclk h, rfl⟩

end Sys2Proof.Machine
end

section
/-! Obligation O58: the resets of the device, their release and the power-on retest. What the restore after a reset or a retest
keeps is one relation, `State.RestoreKeeps`: the register fields it does not show, the quarantine and the calibration store. -/

namespace Sys2Proof

/-! ### The blocks -/

/-- Every spared block. -/
def Block.every : List Block :=
  Block.all ++ [Port.E, Port.W].flatMap fun p => [0, 1, 2, 3].flatMap fun c => [.txConv p c, .rxConv p c]

theorem Block.mem_every (b : Block) : b ∈ Block.every := by
  cases b
  case txConv p c => cases p <;> revert c <;> decide
  case rxConv p c => cases p <;> revert c <;> decide
  case calDetector p t => cases p <;> revert t <;> decide
  case aes d => revert d; decide
  case toHubBridge | fromHubBridge | core | monConv => decide
  all_goals rename_i p; cases p <;> decide

theorem Block.key_injective {b c : Block} (h : b.key = c.key) : b = c := by
  have hnodup : (Block.every.map Block.key).Nodup := by decide
  exact List.inj_on_of_nodup_map hnodup b.mem_every c.mem_every h

end Sys2Proof

namespace Sys2Proof.Machine

open F

/-! ### Tables changed entry by entry -/

theorem Tab.get_of_forall_lt {α : Type} (d : α) {t : Tab α} {k : Nat} (h : ∀ e ∈ t, k < e.1) : Tab.get d t k = d := by
  induction t with
  | nil => rfl
  | cons e t ih =>
    have hk : e.1 ≠ k := Nat.ne_of_gt (h e (by simp))
    rw [Tab.get, if_neg hk]
    exact ih fun e he => h e (by simp [he])

/-- In a sorted table, a change that keeps the default reads as the changed value at every key. -/
theorem Tab.get_each {α : Type} [DecidableEq α] (d : α) {t : Tab α} {f : α → α} (hf : f d = d) (hs : Tab.sorted t = true)
    (k : Nat) : Tab.get d (Tab.each d t f) k = f (Tab.get d t k) := by
  induction t with
  | nil => exact hf.symm
  | cons e t ih =>
    obtain ⟨k', v⟩ := e
    obtain ⟨hlt, hs⟩ := Tab.sorted_cons.1 hs
    have ih := ih hs
    unfold Tab.each at ih ⊢
    rw [List.map_cons, List.filter_cons, Tab.get]
    by_cases hv : f v = d
    · rw [if_neg (by simp [hv]), ih]
      split
      case isTrue hk => rw [Tab.get_of_forall_lt d fun e he => hk ▸ hlt e he, hf, hv]
      case isFalse => rfl
    · rw [if_pos (by simp [hv]), Tab.get, ih]
      split <;> rfl

/-! ### Blocks and their quarantine -/

theorem State.block_setBlock_ne (s : State) {b c : Block} (x : Spared) (h : b ≠ c) : (s.setBlock b x).block c = s.block c :=
  Tab.get_set_ne _ _ _ _ fun hk => h (Block.key_injective hk)

/-- A rebuild of the assignment keeps the quarantine (R20). -/
theorem Spared.rebuild_quarantine (x : Spared) (b : Block) : (x.rebuild b).quarantine = x.quarantine := by
  refine List.foldlRecOn (motive := fun y : Spared => y.quarantine = x.quarantine) _ _ rfl fun y hy pl _ => ?_
  split
  · split
    · exact hy
    · exact hy
  · exact hy

/-! ### What the restore keeps -/

/-- The register fields that show which unit of a block is left over, and the states of the cores. -/
def restoreShown : List Field :=
  [MON_SEQ.SEQ_STATUS_CONV_OK, PWR_MGR.CAL_STATE_SPARE_LEFT, MG_CTL.CORE_STATUS_CORE0, MG_CTL.CORE_STATUS_CORE1] ++
  [Port.E, Port.W].flatMap fun p => [TX.CLU_ROT_CHRYS_CLU p, RXEQ.CLU_ROT_CHRYS_CLU p] ++
    [(0 : Fin 4), 1, 2, 3].flatMap fun c => [chrysField true p c, chrysField false p c, RXCONV.SUB_QUAR_LOST_FRONT p c.val]

/-- What a converter's calibration store holds of its trims, with its quarantined fronts. -/
def ConvState.stored (x : ConvState) : Tab Nat × Tab Int × Tab Int × List Nat :=
  (x.storeMap, x.storeOffset, x.storeGain, x.lostFronts)

/-- An update of registers, units, converters and tasks alone. -/
def State.RestoreFrame (s t : State) : Prop :=
  t = { s with regs := t.regs, spared := t.spared, rxConv := t.rxConv, txConv := t.txConv, power := t.power }

theorem State.RestoreFrame.trans {s t u : State} (h : s.RestoreFrame t) (k : t.RestoreFrame u) : s.RestoreFrame u := by
  unfold State.RestoreFrame at *
  rw [k, h]

/-- What such an update leaves, read by `g`. -/
theorem State.RestoreFrame.keeps {s t : State} (h : s.RestoreFrame t) {β : Type} (g : State → β)
    (hg : g { s with regs := t.regs, spared := t.spared, rxConv := t.rxConv, txConv := t.txConv, power := t.power } = g s) :
    g t = g s := (congrArg g h).trans hg

theorem State.wr_restoreFrame (s : State) (f : Field) (v : Nat) : s.RestoreFrame (s.wr f v) := rfl

/-- An update that keeps the quarantine, the calibration store and every field that the restore does not show. -/
structure State.RestoreKeeps (s t : State) : Prop where
  frame : s.RestoreFrame t
  fields : KeepsFieldsBut restoreShown s t
  quarantine : ∀ b, (t.block b).quarantine = (s.block b).quarantine
  stored : ∀ p c, (t.conv false p c).stored = (s.conv false p c).stored

namespace State.RestoreKeeps

theorem refl (s : State) : s.RestoreKeeps s := ⟨rfl, .refl _ s, fun _ => rfl, fun _ _ => rfl⟩

theorem trans {s t u : State} (h : s.RestoreKeeps t) (k : t.RestoreKeeps u) : s.RestoreKeeps u where
  frame := h.frame.trans k.frame
  fields := h.fields.trans k.fields
  quarantine b := (k.quarantine b).trans (h.quarantine b)
  stored p c := (k.stored p c).trans (h.stored p c)

theorem wr (s : State) {g : Field} (hg : g ∈ restoreShown) (v : Nat) : s.RestoreKeeps (s.wr g v) :=
  ⟨rfl, (KeepsFieldsBut.refl _ s).wr hg v, fun _ => rfl, fun _ _ => rfl⟩

theorem setBlock (s : State) (b : Block) {x : Spared} (hx : x.quarantine = (s.block b).quarantine) :
    s.RestoreKeeps (s.setBlock b x) where
  frame := rfl
  fields := (KeepsFieldsBut.refl _ s).same rfl rfl
  quarantine c := by
    by_cases h : b = c
    · rw [← h, State.block_setBlock_same, hx]
    · rw [State.block_setBlock_ne s x h]
  stored _ _ := rfl

theorem setConv (s : State) (tx : Bool) (p : Port) (c : Fin 4) {x : ConvState} (hx : x.stored = (s.conv tx p c).stored) :
    s.RestoreKeeps (s.setConv tx p c x) := by
  cases tx
  case true => exact ⟨rfl, (KeepsFieldsBut.refl _ s).same rfl rfl, fun _ => rfl, fun _ _ => rfl⟩
  case false =>
    refine ⟨rfl, (KeepsFieldsBut.refl _ s).same rfl rfl, fun _ => rfl, fun q d => ?_⟩
    by_cases h : 4 * p.toNat + c.val = 4 * q.toNat + d.val
    · have hget : ∀ u : State, u.conv false q d = u.conv false p c := fun u => congrArg (Tab.get _ u.rxConv) h.symm
      rw [hget, hget, ← hx]
      exact congrArg ConvState.stored (Tab.get_set_same _ _ _ _)
    · exact congrArg ConvState.stored (Tab.get_set_ne _ _ _ _ h)

theorem forEach {α : Type} {s t : State} (h : s.RestoreKeeps t) (l : List α) (f : α → State → State)
    (hstep : ∀ (a : α) (u : State), u.RestoreKeeps (f a u)) : s.RestoreKeeps (t.forEach l f) :=
  State.forEach_invariant s.RestoreKeeps l f (fun a u hu => hu.trans (hstep a u)) h

end State.RestoreKeeps

/-! ### The parts of the restore -/

theorem chrysField_mem_restoreShown (tx : Bool) (p : Port) (c : Fin 4) : chrysField tx p c ∈ restoreShown := by
  cases tx <;> cases p <;> revert c <;> decide

theorem lostFront_mem_restoreShown (p : Port) (c : Fin 4) : RXCONV.SUB_QUAR_LOST_FRONT p c.val ∈ restoreShown := by
  cases p <;> revert c <;> decide

theorem State.rebuildAll_restoreKeeps (s : State) : s.RestoreKeeps s.rebuildAll :=
  (RestoreKeeps.refl s).forEach _ _ fun b u => .setBlock u b (Spared.rebuild_quarantine _ b)

theorem State.convRestore_restoreKeeps (s : State) (tx : Bool) (p : Port) (c : Fin 4) :
    s.RestoreKeeps (s.convRestore tx p c) := by
  unfold State.convRestore
  extract_lets x quar serving left r held free chrys bad y
  have hy : y.stored = (s.conv tx p c).stored := rfl
  exact (RestoreKeeps.setConv s tx p c hy).trans (.wr _ (chrysField_mem_restoreShown tx p c) _)

theorem State.restoreConverters_restoreKeeps (s : State) : s.RestoreKeeps s.restoreConverters :=
  (RestoreKeeps.refl s).forEach _ _ fun p u => (RestoreKeeps.refl u).forEach _ _ fun c v =>
    (v.convRestore_restoreKeeps false p c).trans (State.convRestore_restoreKeeps _ true p c)

theorem State.spareFields_restoreKeeps (s : State) : s.RestoreKeeps s.spareFields := by
  unfold State.spareFields
  refine RestoreKeeps.trans (.forEach (.forEach (.refl s) _ _ fun p u => ?_) _ _ fun t u => ?_) (.wr _ (by decide) _)
  · exact (RestoreKeeps.wr u (g := TX.CLU_ROT_CHRYS_CLU p) (by cases p <;> decide) _).trans
      (.wr _ (g := RXEQ.CLU_ROT_CHRYS_CLU p) (by cases p <;> decide) _)
  · exact .wr u (by decide) _

theorem State.setCoreSt_restoreKeeps (s : State) (c v : Nat) : s.RestoreKeeps (s.setCoreSt c v) := by
  unfold State.setCoreSt
  split
  · exact .wr s (by decide) v
  · exact .wr s (by decide) v

/-- The assignments, the converters and the fields that show them, anew (R20, R76). -/
theorem State.restore_restoreKeeps (s : State) : s.RestoreKeeps s.rebuildAll.restoreConverters.spareFields :=
  (s.rebuildAll_restoreKeeps.trans (State.restoreConverters_restoreKeeps _)).trans (State.spareFields_restoreKeeps _)

/-! ### A reset of the device -/

/-- What each pass over the elements of a list keeps, the loop keeps. -/
theorem State.forEach_invariant_of_mem {α : Type} (P : State → Prop) (l : List α) (f : α → State → State)
    (hstep : ∀ a ∈ l, ∀ s, P s → P (f a s)) {s : State} (h : P s) : P (s.forEach l f) := by
  induction l generalizing s with
  | nil => exact h
  | cons a l ih => exact ih (fun b hb => hstep b (by simp [hb])) (hstep a (by simp) s h)

/-- A field that every reset puts to its reset value. -/
def Field.clearedByReset (f : Field) : Bool :=
  f.quiet && decide (∀ g ∈ restoreShown, f.key ≠ g.key) && decide (f.key ≠ MG_CTL.FW_SVN_MIN_SVN.key) &&
    decide (f.page ≠ 26 ∧ f.off < 4096 ∧ f.lsb < 32)

theorem single_key_ne {f : Field} (hf : f.off < 4096 ∧ f.lsb < 32) (hp : f.page ≠ 26) {c : Nat} (hc : c < 192) :
    f.key ≠ (HB_PROT.DP_STATUS_SINGLE c).key :=
  Field.key_ne hf (show 0x340 + 4 * c < 4096 ∧ 20 < 32 by omega) fun h => hp h.1

theorem single_not_restoreShown {c : Nat} (hc : c < 192) : ∀ g ∈ restoreShown, (HB_PROT.DP_STATUS_SINGLE c).key ≠ g.key := by
  have hpages : ∀ g ∈ restoreShown, (g.off < 4096 ∧ g.lsb < 32) ∧ g.page ≠ 26 := by decide
  exact fun g hg => (single_key_ne (hpages g hg).1 (hpages g hg).2 hc).symm

theorem single_quiet {c : Nat} (hc : c < 192) : (HB_PROT.DP_STATUS_SINGLE c).quiet = true :=
  Field.quiet_of (show 0x340 + 4 * c < 4096 ∧ 20 < 32 by omega) (show 0x340 + 4 * c ≠ 0x010 by omega) (show 26 ≠ 1 by decide)

theorem State.keepFused_restoreKeeps (s old : State) :
    (s.wr MG_CTL.FW_SVN_MIN_SVN (old.rd MG_CTL.FW_SVN_MIN_SVN)).RestoreKeeps (s.keepFused old) :=
  (RestoreKeeps.refl _).forEach _ _ fun p u =>
    State.forEach_invariant_of_mem u.RestoreKeeps _ _
      (fun c hc v hv => hv.trans (.wr v (lostFront_mem_restoreShown p ⟨c, show c < 4 by revert c; decide⟩) _)) (.refl u)

/-- Setting SINGLE of some concatenations (R248). -/
theorem State.forEach_single (l : List Nat) (s : State) (c : Nat) :
    (s.forEach l fun d u => u.wr (HB_PROT.DP_STATUS_SINGLE d) 1).on (HB_PROT.DP_STATUS_SINGLE c) =
      (l.contains c || s.on (HB_PROT.DP_STATUS_SINGLE c)) := by
  induction l generalizing s with
  | nil => simp
  | cons d l ih =>
    rw [State.forEach_cons, ih]
    by_cases h : c = d
    · subst h
      simp [State.on_of_rd (State.rd_wr_same s (HB_PROT.DP_STATUS_SINGLE c) 1)]
    · have hkey : (HB_PROT.DP_STATUS_SINGLE d).key ≠ (HB_PROT.DP_STATUS_SINGLE c).key := by
        simp only [Field.key, HB_PROT.DP_STATUS_SINGLE]
        omega
      simp [State.on, State.rd_wr_ne s 1 hkey, h]

/-- SINGLE as it was before, over a register file that shows none set. -/
theorem State.keepHbm_single (s old : State) {c : Nat} (hc : c < 192) (hs : s.on (HB_PROT.DP_STATUS_SINGLE c) = false) :
    (s.keepHbm old).on (HB_PROT.DP_STATUS_SINGLE c) = old.on (HB_PROT.DP_STATUS_SINGLE c) := by
  rw [State.keepHbm, State.forEach_single, hs, Bool.or_false, Bool.eq_iff_iff]
  simp [hc]

theorem State.keepHbm_frame (s old : State) : s.RestoreFrame (s.keepHbm old) :=
  State.forEach_invariant s.RestoreFrame _ _ (fun c u h => h.trans (u.wr_restoreFrame (HB_PROT.DP_STATUS_SINGLE c) 1)) rfl

theorem State.keepHbm_rd (s old : State) {f : Field} (hf : ∀ c, c < 192 → f.key ≠ (HB_PROT.DP_STATUS_SINGLE c).key) :
    (s.keepHbm old).rd f = s.rd f := by
  refine State.forEach_invariant_of_mem (fun u => u.rd f = s.rd f) _ _ (fun c hc u hu => ?_) rfl
  have hlt : c < 192 := List.mem_range.1 (List.mem_of_mem_filter hc)
  exact (State.rd_wr_ne u 1 (hf c hlt).symm).trans hu

theorem State.keepHbm_spared (s old : State) : (s.keepHbm old).spared = s.spared :=
  State.forEach_keeps State.spared _ (fun c u => u.wr (HB_PROT.DP_STATUS_SINGLE c) 1) (fun _ _ => rfl) s

theorem State.keepHbm_rxConv (s old : State) : (s.keepHbm old).rxConv = s.rxConv :=
  State.forEach_keeps State.rxConv _ (fun c u => u.wr (HB_PROT.DP_STATUS_SINGLE c) 1) (fun _ _ => rfl) s

/-- The state of a reset before the assignments are made anew. -/
def State.resetBase (s : State) (power : Bool) : State :=
  ((s.afterReset power).keepFused s).cond (!power) fun r => r.keepHbm s

theorem State.resetBase_frame (s : State) (power : Bool) : (s.afterReset power).RestoreFrame (s.resetBase power) := by
  have hfused : (s.afterReset power).RestoreFrame ((s.afterReset power).keepFused s) :=
    (State.wr_restoreFrame _ _ _).trans (State.keepFused_restoreKeeps _ s).frame
  cases power
  · exact hfused.trans (State.keepHbm_frame _ s)
  · exact hfused

theorem State.deviceReset_restoreKeeps (s : State) (power : Bool) : (s.resetBase power).RestoreKeeps (s.deviceReset power) := by
  refine (State.restore_restoreKeeps _).forEach _ _ fun c u => ?_
  cases u.coreQuarantined c
  · exact .refl u
  · exact u.setCoreSt_restoreKeeps c 3

theorem State.resetBase_block (s : State) (power : Bool) (b : Block) :
    ((s.resetBase power).block b).quarantine = ((s.afterReset power).block b).quarantine := by
  have hfused := (State.keepFused_restoreKeeps (s.afterReset power) s).quarantine b
  cases power
  · exact (congrArg (fun t => (Tab.get Spared.init t b.key).quarantine) (State.keepHbm_spared _ s)).trans hfused
  · exact hfused

theorem State.resetBase_conv (s : State) (power : Bool) (p : Port) (c : Fin 4) :
    ((s.resetBase power).conv false p c).stored = ((s.afterReset power).conv false p c).stored := by
  have hfused := (State.keepFused_restoreKeeps (s.afterReset power) s).stored p c
  cases power
  · exact (congrArg (fun t => (Tab.get ConvState.init t (4 * p.toNat + c.val)).stored) (State.keepHbm_rxConv _ s)).trans hfused
  · exact hfused

theorem State.deviceReset_frame (s : State) (power : Bool) : (s.afterReset power).RestoreFrame (s.deviceReset power) :=
  (s.resetBase_frame power).trans (s.deviceReset_restoreKeeps power).frame

theorem State.keepFused_rd (s old : State) {f : Field} (hq : f.quiet = true) (hf : ∀ g ∈ restoreShown, f.key ≠ g.key) :
    (s.keepFused old).rd f = (s.wr MG_CTL.FW_SVN_MIN_SVN (old.rd MG_CTL.FW_SVN_MIN_SVN)).rd f :=
  ((State.keepFused_restoreKeeps s old).fields f hq hf).1

theorem State.deviceReset_rd_resetBase (s : State) (power : Bool) {f : Field} (hq : f.quiet = true)
    (hf : ∀ g ∈ restoreShown, f.key ≠ g.key) : (s.deviceReset power).rd f = (s.resetBase power).rd f :=
  ((s.deviceReset_restoreKeeps power).fields f hq hf).1

theorem State.resetBase_rd (s : State) (power : Bool) {f : Field} (hf : ∀ c, c < 192 → f.key ≠ (HB_PROT.DP_STATUS_SINGLE c).key) :
    (s.resetBase power).rd f = ((s.afterReset power).keepFused s).rd f := by
  cases power
  · exact State.keepHbm_rd _ s hf
  · rfl

theorem State.deviceReset_rd (s : State) (power : Bool) {f : Field} (hf : f.clearedByReset = true) :
    (s.deviceReset power).rd f = f.reset % 2 ^ f.width := by
  simp only [Field.clearedByReset, Bool.and_eq_true, decide_eq_true_eq] at hf
  obtain ⟨⟨⟨hq, hshown⟩, hsvn⟩, hpage, hrange⟩ := hf
  rw [s.deviceReset_rd_resetBase power hq hshown, s.resetBase_rd power fun c hc => single_key_ne hrange hpage hc,
    State.keepFused_rd _ s hq hshown, State.rd_wr_ne _ _ hsvn.symm]
  rfl

theorem State.deviceReset_minSvn (s : State) (power : Bool) :
    (s.deviceReset power).rd MG_CTL.FW_SVN_MIN_SVN = s.rd MG_CTL.FW_SVN_MIN_SVN % 2 ^ MG_CTL.FW_SVN_MIN_SVN.width := by
  rw [s.deviceReset_rd_resetBase power (by decide) (by decide),
    s.resetBase_rd power fun c hc => single_key_ne (by decide) (by decide) hc,
    State.keepFused_rd _ s (by decide) (by decide), State.rd_wr_same]

theorem State.keepFused_single (s old : State) {c : Nat} (hc : c < 192) :
    (s.keepFused old).on (HB_PROT.DP_STATUS_SINGLE c) = s.on (HB_PROT.DP_STATUS_SINGLE c) := by
  rw [State.on, State.keepFused_rd s old (single_quiet hc) (single_not_restoreShown hc),
    State.rd_wr_ne _ _ (single_key_ne (by decide) (by decide) hc), State.on]

/-- SINGLE stays set until the power-on reset (R248). -/
theorem State.deviceReset_single (s : State) (power : Bool) {c : Nat} (hc : c < 192) :
    (s.deviceReset power).on (HB_PROT.DP_STATUS_SINGLE c) = (!power && s.on (HB_PROT.DP_STATUS_SINGLE c)) := by
  have hclear : ((s.afterReset power).keepFused s).on (HB_PROT.DP_STATUS_SINGLE c) = false := by
    rw [State.keepFused_single _ s hc]
    rfl
  rw [State.on, s.deviceReset_rd_resetBase power (single_quiet hc) (single_not_restoreShown hc)]
  cases power
  · exact State.keepHbm_single _ s hc hclear
  · exact hclear

/-- The quarantine outlasts a reset (R20). -/
theorem State.deviceReset_quarantine (s : State) (power : Bool) (hs : Tab.sorted s.spared = true) (b : Block) :
    ((s.deviceReset power).block b).quarantine = (s.block b).quarantine := by
  rw [(s.deviceReset_restoreKeeps power).quarantine, State.resetBase_block]
  have hkept : (s.afterReset power).block b = (s.block b).kept := Tab.get_each Spared.init (f := Spared.kept) rfl hs b.key
  rw [hkept, Spared.kept]

/-- The calibration store outlasts a reset (R76). -/
theorem State.deviceReset_stored (s : State) (power : Bool) (hs : Tab.sorted s.rxConv = true) (p : Port) (c : Fin 4) :
    ((s.deviceReset power).conv false p c).stored = (s.conv false p c).stored := by
  rw [(s.deviceReset_restoreKeeps power).stored, State.resetBase_conv]
  have hkept : (s.afterReset power).conv false p c = (s.conv false p c).kept :=
    Tab.get_each ConvState.init (f := ConvState.kept) rfl hs _
  rw [hkept]
  rfl

theorem State.on_eq_false {s : State} {f : Field} (h : s.rd f = 0) : s.on f = false := by
  rw [State.on, h]
  rfl

theorem State.deviceReset_off (s : State) (power : Bool) {f : Field} (hf : f.clearedByReset = true)
    (hz : f.reset % 2 ^ f.width = 0) : (s.deviceReset power).on f = false :=
  State.on_eq_false ((s.deviceReset_rd power hf).trans hz)

theorem State.deviceReset_spec (s : State) (power : Bool) : DeviceReset s (s.deviceReset power) := by
  have h := s.deviceReset_frame power
  have hport : ∀ p, (s.deviceReset power).acqSt p = acqIdle ∧ (s.deviceReset power).txSt p = txDark ∧
      (s.deviceReset power).on (RXFE.RX_CTRL_RX_ENABLE p) = false ∧ (s.deviceReset power).on (TX.TX_CTRL_TX_ENABLE p) = false :=
    fun p => ⟨s.deviceReset_rd power (by cases p <;> decide), s.deviceReset_rd power (by cases p <;> decide),
      s.deviceReset_off power (by cases p <;> decide) rfl, s.deviceReset_off power (by cases p <;> decide) rfl⟩
  have hstored : Tab.sorted s.rxConv = true → ∀ p c,
      ((s.deviceReset power).conv false p c).storeMap = (s.conv false p c).storeMap ∧
      ((s.deviceReset power).conv false p c).storeOffset = (s.conv false p c).storeOffset ∧
      ((s.deviceReset power).conv false p c).storeGain = (s.conv false p c).storeGain ∧
      ((s.deviceReset power).conv false p c).lostFronts = (s.conv false p c).lostFronts := by
    intro hs p c
    have heq := s.deviceReset_stored power hs p c
    simpa only [ConvState.stored, Prod.mk.injEq] using heq
  have hrclk := s.deviceReset_off power (f := CK_SYN.SYN_STATUS_RCLK_OK) (by decide) rfl
  have hticks := s.deviceReset_rd power (f := MG_CTL.TICK_COUNT_TICKS) (by decide)
  have hsealed := s.deviceReset_off power (f := CY_KEY.KEK_CTRL_SEALED) (by decide) rfl
  have hring := s.deviceReset_off power (f := HB_RING.RING_STATUS_IN_RING) (by decide) rfl
  have hsvn := s.deviceReset_minSvn power
  have hquar := s.deviceReset_quarantine power
  generalize s.deviceReset power = t at *
  exact ⟨h.keeps State.pending rfl, h.keeps State.out rfl, h.keeps State.flash rfl, h.keeps State.keks rfl,
    h.keeps State.masters rfl, h.keeps State.keySlots rfl, h.keeps State.pins rfl, h.keeps (fun t => t.clock.released) rfl,
    h.keeps State.linkUp rfl, hrclk, hticks, hsealed, hring, hport, hsvn, h.keeps State.fuses rfl, h.keeps State.hbmOut rfl,
    h.keeps (fun t => t.mem.retired) rfl, hquar, hstored⟩

theorem State.deviceReset_keptByResetN (s : State) : KeptByResetN s (s.deviceReset false) := by
  have h := s.deviceReset_frame false
  have hsingle : ∀ c, c < 192 → _ := fun c hc => s.deviceReset_single false (c := c) hc
  generalize s.deviceReset false = t at *
  exact ⟨h.keeps State.bar2 rfl, h.keeps State.sram rfl, h.keeps State.snapPage rfl, h.keeps State.snapFlow rfl, hsingle⟩

/-- A power-on reset clears the windows and the memories (R484). -/
theorem State.deviceReset_cleared (s : State) :
    (s.deviceReset true).bar2 = [] ∧ (s.deviceReset true).sram = [] ∧ (s.deviceReset true).snapPage = [] ∧
      (s.deviceReset true).snapFlow = [] ∧ ∀ c, c < 192 → (s.deviceReset true).on (HB_PROT.DP_STATUS_SINGLE c) = false := by
  have h := s.deviceReset_frame true
  have hsingle : ∀ c, c < 192 → _ := fun c hc => s.deviceReset_single true (c := c) hc
  generalize s.deviceReset true = t at *
  exact ⟨h.keeps State.bar2 rfl, h.keeps State.sram rfl, h.keeps State.snapPage rfl, h.keeps State.snapFlow rfl, hsingle⟩

/-! ### The power-on retest (R20, R490) -/

theorem State.cond_cases (P : State → Prop) {s : State} {b : Bool} {f : State → State} (hs : P s) (hf : P (f s)) :
    P (s.cond b f) := by
  cases b
  · exact hs
  · exact hf

/-- A unit off its block's quarantine. -/
def State.unquarantine (s : State) (e : Block × Nat) : State :=
  s.setBlock e.1 { s.block e.1 with quarantine := (s.block e.1).quarantine.filter (· != e.2) }

/-- One unit or front that passed its retest returns to service. -/
def State.retestUnit (e : Block × Nat) (s : State) : State :=
  let s := s.unquarantine e
  match e.1 with
  | .rxConv p c =>
    let x := s.conv false p c
    (s.setConv false p c { x with lostFronts := x.lostFronts.filter (· + 264 != e.2) }).showFront false p c
  | .calDetector p t => s.onTask (detectorTask p t) fun x => { x with frozen := false }
  | .core => s.cond (decide (s.coreSt e.2 = 3)) fun s => s.setCoreSt e.2 (if s.coreSt s.activeCore = 1 then 2 else 0)
  | _ => s

theorem State.retestPassed_eq (s : State) (l : List (Block × Nat)) : s.retestPassed l = s.forEach l State.retestUnit := rfl

theorem State.retestUnit_frame (e : Block × Nat) (s : State) : s.RestoreFrame (s.retestUnit e) := by
  obtain ⟨b, u⟩ := e
  cases b
  case core =>
    have hunit : s.RestoreFrame (s.unquarantine (.core, u)) := rfl
    unfold State.retestUnit
    refine State.cond_cases s.RestoreFrame hunit (hunit.trans ?_)
    exact (State.setCoreSt_restoreKeeps _ _ _).frame
  all_goals rfl

theorem State.retestUnit_spared (e : Block × Nat) (s : State) : (s.retestUnit e).spared = (s.unquarantine e).spared := by
  obtain ⟨b, u⟩ := e
  cases b
  case core =>
    refine State.cond_cases (fun t => t.spared = (s.unquarantine (.core, u)).spared) rfl ?_
    unfold State.setCoreSt
    rfl
  all_goals rfl

theorem State.retestUnit_quarantine (e : Block × Nat) (s : State) (b : Block) :
    ((s.retestUnit e).block b).quarantine = (s.block b).quarantine.filter fun u => decide ((b, u) ≠ e) := by
  obtain ⟨c, v⟩ := e
  rw [State.block, State.retestUnit_spared, ← State.block, State.unquarantine]
  by_cases h : c = b
  · subst h
    rw [State.block_setBlock_same]
    simp [bne, BEq.beq]
  · rw [State.block_setBlock_ne _ _ h]
    exact (List.filter_eq_self.2 fun u _ => by simp [Ne.symm h]).symm

theorem State.retestPassed_frame (s : State) (l : List (Block × Nat)) : s.RestoreFrame (s.retestPassed l) :=
  State.forEach_invariant s.RestoreFrame l State.retestUnit (fun e u h => h.trans (u.retestUnit_frame e)) rfl

/-- The units named leave the quarantine of their blocks, and no others. -/
theorem State.retestPassed_quarantine (s : State) (l : List (Block × Nat)) (b : Block) :
    ((s.retestPassed l).block b).quarantine = (s.block b).quarantine.filter fun u => decide ((b, u) ∉ l) := by
  rw [State.retestPassed_eq]
  induction l generalizing s with
  | nil => simp
  | cons e l ih =>
    rw [State.forEach_cons, ih, State.retestUnit_quarantine, List.filter_filter]
    simp [Bool.and_comm]

theorem State.retestPassed_contains (s : State) (l : List (Block × Nat)) (b : Block) (u : Nat) :
    ((s.retestPassed l).block b).quarantine.contains u = ((s.block b).quarantine.contains u && decide ((b, u) ∉ l)) := by
  rw [State.retestPassed_quarantine, Bool.eq_iff_iff]
  simp [List.mem_filter]

/-- The state that a passed power-on retest leaves. -/
def State.retested (s : State) (l : List (Block × Nat)) (rows : List (Fin 47 × BitVec 24)) : State :=
  ((s.retestPassed l).rowsPassed rows).rebuildAll.restoreConverters.spareFields

theorem State.retested_contains (s : State) (l : List (Block × Nat)) (rows : List (Fin 47 × BitVec 24)) (b : Block) (u : Nat) :
    ((s.retested l rows).block b).quarantine.contains u = ((s.block b).quarantine.contains u && decide ((b, u) ∉ l)) := by
  rw [State.retested, (State.restore_restoreKeeps _).quarantine]
  exact s.retestPassed_contains l b u

theorem State.retested_withdrawn (s : State) (l : List (Block × Nat)) (rows : List (Fin 47 × BitVec 24)) :
    let back := rows.map fun e => e.1.val * 2 ^ 24 + e.2.toNat
    (s.retested l rows).mem.retired = s.mem.retired.filter (fun k => !back.contains k) ∧
      (s.retested l rows).hbmOut = s.hbmOut.filter fun k => !back.contains k := by
  intro back
  have h : ((s.retestPassed l).rowsPassed rows).RestoreFrame (s.retested l rows) := (State.restore_restoreKeeps _).frame
  have hunits := s.retestPassed_frame l
  generalize s.retested l rows = u at *
  generalize s.retestPassed l = v at *
  have hretired : v.mem.retired = s.mem.retired := hunits.keeps (fun t => t.mem.retired) rfl
  have hout : v.hbmOut = s.hbmOut := hunits.keeps State.hbmOut rfl
  rw [← hretired, ← hout]
  exact ⟨h.keeps (fun t => t.mem.retired) rfl, h.keeps State.hbmOut rfl⟩

theorem exec_powerOnRetestDone {l : List (Block × Nat)} {rows : List (Fin 47 × BitVec 24)} {s : State}
    (hret : s.core.retested = false) (hclk : s.Clocked) (hstop : s.clock.stopped = false) :
    exec (.powerOnRetestDone l rows) s =
      .next ((s.cond s.core.retestDue fun s => s.retested l rows).onCore fun c => { c with retested := true, retestDue := false }) := by
  rw [exec, execPowerOnRetestDone, if_neg (by simp [hret, hstop, show s.rclkStopped = false from hclk])]
  rfl

theorem completes_powerOnRetestDone_due {l : List (Block × Nat)} {rows : List (Fin 47 × BitVec 24)} {s : State} {P : State → Prop}
    (hret : s.core.retested = false) (hclk : s.Clocked) (hstop : s.clock.stopped = false) (hdue : s.core.retestDue = true)
    (hP : ∀ t, (t : State) = s.retested l rows → P (t.onCore fun c => { c with retested := true, retestDue := false })) :
    Completes (.powerOnRetestDone l rows) s P :=
  ⟨_, by rw [exec_powerOnRetestDone hret hclk hstop, hdue, State.cond_true], hP _ rfl⟩

/-! ### The obligation -/

/-- Settles O58: every reset is `deviceReset`, and all that follows its reset values keeps what the statement says is kept. -/
theorem resetsAndTheirRelease : Obligations.ResetsAndTheirRelease := by
  unfold Obligations.ResetsAndTheirRelease
  refine ⟨?powerOn, ?resetN, ?ignored, ?internal, ?between, ?supply, ?release, ?released, ?retest, ?notDue, ?retested⟩
  case powerOn =>
    intro s c hc
    have hspec := And.intro (s.deviceReset_spec true) s.deviceReset_cleared
    rcases List.mem_pair.1 hc with rfl | rfl
    · exact ⟨_, by rw [exec, execPowerOnReset], hspec⟩
    · exact ⟨_, by rw [exec, execLossOfPower], hspec⟩
  case resetN =>
    intro n s hn
    exact ⟨_, by rw [exec, execResetN, if_pos hn], s.deviceReset_spec false, s.deviceReset_keptByResetN⟩
  case ignored =>
    intro n s hn
    exact ⟨_, by rw [exec, execResetN, if_neg (by omega), if_pos hn], rfl⟩
  case internal =>
    exact fun s => ⟨_, by rw [exec, execInternalPowerOnReset], s.deviceReset_spec false, s.deviceReset_keptByResetN⟩
  case between =>
    intro n s hlow hhigh
    refine ⟨_, by rw [exec, execResetN, if_neg (by omega), if_neg (by omega)], ?_⟩
    by_cases hfree : s.freeVal 1 = 1
    · rw [if_pos hfree]
      show if _ then _ else _
      rw [if_pos hfree]
      exact ⟨s.useFree.deviceReset_spec false, s.useFree.deviceReset_keptByResetN⟩
    · rw [if_neg hfree]
      show if _ then _ else _
      rw [if_neg hfree]
  case supply =>
    intro s
    have hkeep : KeepsFieldsBut [HB_RING.RING_STATUS_BYPASS_HOLD, CK_SYN.SYN_STATUS_RCLK_OK] s
        ((s.wr HB_RING.RING_STATUS_BYPASS_HOLD 0).wr CK_SYN.SYN_STATUS_RCLK_OK 0) :=
      ((KeepsFieldsBut.refl _ s).wr (by simp) 0).wr (by simp) 0
    refine ⟨_, rfl, rfl, rfl, State.on_eq_false ?_, State.on_eq_false ?_, hkeep.same rfl rfl, rfl⟩
    · exact (State.rd_wr_ne (s.wr HB_RING.RING_STATUS_BYPASS_HOLD 0) (f := CK_SYN.SYN_STATUS_RCLK_OK) 0 (by decide)).trans
        (State.rd_wr_same s _ 0)
    · exact State.rd_wr_same (s.wr HB_RING.RING_STATUS_BYPASS_HOLD 0) CK_SYN.SYN_STATUS_RCLK_OK 0
  case release =>
    intro s hrel
    exact ⟨_, by rw [exec, execResetRelease, if_neg (by simp [hrel])], rfl, rfl, rfl, rfl, rfl⟩
  case released =>
    intro s hrel
    exact ⟨_, by rw [exec, execResetRelease, if_pos hrel], rfl⟩
  case retest =>
    intro l rows s hret hclk hstop hdue
    refine completes_powerOnRetestDone_due hret hclk hstop hdue fun t ht => ?_
    have hwithdrawn := s.retested_withdrawn l rows
    have hunits := s.retested_contains l rows
    rw [← ht] at hwithdrawn hunits
    refine ⟨rfl, rfl, hwithdrawn, fun e he => ?_, fun b u hu => ?_⟩
    · exact (hunits e.1 e.2).trans (by simp [he])
    · exact (hunits b u).trans (by simp [hu])
  case notDue =>
    intro l rows s hret hclk hstop hdue
    refine ⟨_, exec_powerOnRetestDone hret hclk hstop, ?_⟩
    rw [hdue, State.cond_false]
    rfl
  case retested =>
    intro l rows s hret
    exact ⟨_, by rw [exec, execPowerOnRetestDone, if_pos (.inl hret)], rfl⟩

end Sys2Proof.Machine
end

section
/-! The management tick (O60): of the register fields that its statement reads, every part of the tick keeps all but the one it
is there to count. -/

namespace Sys2Proof.Machine

open F

/-- The fields that the statement about the tick rests on: the tick count, the telemetry sequences, and whether RCLK runs. -/
def tickFields : List Field :=
  [MG_CTL.TICK_COUNT_TICKS, CK_SYN.SYN_STATUS_RCLK_OK, SPAN.TEL_SEQ_SEQ .E, SPAN.TEL_SEQ_SEQ .W, FEC.TEL_SEQ_SEQ .E,
    FEC.TEL_SEQ_SEQ .W]

/-- A field that is none of them. -/
def Field.offTick (g : Field) : Bool := decide (∀ f ∈ tickFields, g.key ≠ f.key)

/-- An update that keeps them. -/
def State.TickKeeps (s t : State) : Prop := ∀ f ∈ tickFields, t.rd f = s.rd f

namespace State.TickKeeps

variable {s t : State}

theorem refl (s : State) : s.TickKeeps s := fun _ _ => rfl

theorem trans {u : State} (h : s.TickKeeps t) (k : t.TickKeeps u) : s.TickKeeps u :=
  fun f hf => (k f hf).trans (h f hf)

/-! ### The basic updates -/

theorem same {u : State} (h : s.TickKeeps t) (hr : u.regs = t.regs) : s.TickKeeps u := by
  intro f hf
  rw [← h f hf, State.rd, State.rd, hr]

theorem wr (h : s.TickKeeps t) {g : Field} (hg : g.offTick = true) (v : Nat) : s.TickKeeps (t.wr g v) :=
  fun f hf => (State.rd_wr_ne t v (of_decide_eq_true hg f hf)).trans (h f hf)

theorem raiseN (h : s.TickKeeps t) (e : Evt) (n : Nat) : s.TickKeeps (t.raiseN e n) := by
  have hquiet : ∀ f ∈ tickFields, f.quiet = true := by decide
  exact fun f hf => (State.raiseN_rd t e n f (hquiet f hf)).trans (h f hf)

theorem raise (h : s.TickKeeps t) (e : Evt) : s.TickKeeps (t.raise e) := h.raiseN e 1

theorem ite {c : Prop} [Decidable c] {u v : State} (hu : s.TickKeeps u) (hv : s.TickKeeps v) :
    s.TickKeeps (if c then u else v) := by
  split
  · exact hu
  · exact hv

theorem cond (h : s.TickKeeps t) {b : Bool} {f : State → State} (hf : s.TickKeeps (f t)) : s.TickKeeps (t.cond b f) :=
  ite hf h

theorem raiseIf (h : s.TickKeeps t) (b : Bool) (e : Evt) : s.TickKeeps (t.raiseIf b e) := ite (h.raise e) h

theorem raiseOpt (h : s.TickKeeps t) (e : Option Evt) : s.TickKeeps (t.raiseOpt e) := by
  cases e
  · exact h
  · exact h.raise _

theorem count (h : s.TickKeeps t) (page off n : Nat) : s.TickKeeps (t.count page off n) :=
  fun f hf => (State.rd_count t page off n f).trans (h f hf)

theorem forEach {α : Type} (h : s.TickKeeps t) (l : List α) (f : α → State → State)
    (hstep : ∀ a ∈ l, ∀ u, s.TickKeeps u → s.TickKeeps (f a u)) : s.TickKeeps (t.forEach l f) :=
  State.forEach_invariant_of_mem s.TickKeeps l f hstep h

/-! ### Faults of units (R20, R450) -/

theorem setConv (h : s.TickKeeps t) (tx : Bool) (p : Port) (c : Fin 4) (x : ConvState) : s.TickKeeps (t.setConv tx p c x) :=
  ite (h.same rfl) (h.same rfl)

theorem lastingOnly (h : s.TickKeeps t) (b : Block) (u : Nat) : s.TickKeeps (t.lastingOnly b u) :=
  ((h.count _ _ _).same (u := State.setBlock _ b _) rfl).raiseOpt _

theorem raiseExhausted (h : s.TickKeeps t) (b : Block) : s.TickKeeps (t.raiseExhausted b) := by
  unfold State.raiseExhausted
  split
  · exact h.raise _
  · exact ((h.wr (g := MG_CTL.NMI_CAUSE_EXHAUSTED) (by decide) 1).wr (g := MG_CTL.NMI_PAGE_PAGE) (by decide) _).same rfl

theorem exhausted (h : s.TickKeeps t) (b : Block) : s.TickKeeps (t.exhausted b) := (h.count _ _ _).raiseExhausted b

/-! ### DPLLs (R327 to R334) -/

theorem setResidual (h : s.TickKeeps t) (r : Int) : s.TickKeeps (t.setResidual r) :=
  (h.same (u := t.onDpll _) rfl).wr (g := CK_DPLL.PULL_LEFT_RESIDUAL 0) (by decide) _

theorem toDp (h : s.TickKeeps t) (st : Nat) : s.TickKeeps (t.toDp st) :=
  h.wr (g := CK_DPLL.DPLL_STATUS_STATE 0) (by decide) st

theorem buildOut (h : s.TickKeeps t) : s.TickKeeps t.buildOut := ite ((h.toDp _).raise _) h

theorem startPull (h : s.TickKeeps t) (r : Int) : s.TickKeeps (t.startPull r) := ((h.setResidual r).toDp _).buildOut

theorem startSwitch (h : s.TickKeeps t) (held : Bool) : s.TickKeeps (t.startSwitch held) := ite (h.startPull _) (h.toDp _)

theorem holdover (h : s.TickKeeps t) : s.TickKeeps t.holdover := by
  have hres := (h.setResidual 0).raiseIf (!t.on (CK_DPLL.ROOST_STATUS_VALID 0)) (Ev.CK_DPLL.roostInvalid 0)
  exact ite h (ite ((hres.toDp _).raise _) ((hres.toDp _).raise _))

theorem newSelection (h : s.TickKeeps t) (held : Bool) : s.TickKeeps (t.newSelection held) :=
  ite (h.toDp _) (ite ((h.raise _).startSwitch held) ((h.raise _).startSwitch held))

theorem setStandby (h : s.TickKeeps t) (i : Nat) : s.TickKeeps (t.setStandby i) :=
  ite h ((((h.wr (g := CK_REF.SEL_STATUS_STANDBY) (by decide) i).wr (g := CK_DPLL.DPLL_STATUS_INPUT 1) (by decide) i).same
    (u := State.onDpll _ _) rfl).wr (g := CK_DPLL.DPLL_STATUS_STATE 1) (by decide) _)

theorem peerCheck (h : s.TickKeeps t) : s.TickKeeps t.peerCheck := by
  unfold State.peerCheck
  dsimp only
  split
  · have hidx := fun i => h.wr (g := CK_REF.SEL_STATUS_PEER_IDX) (by decide) i
    exact ite (hidx _) (((hidx _).wr (g := CK_REF.SEL_STATUS_PEER_DISAGREE) (by decide) 1).raise _)
  · exact (h.wr (g := CK_REF.SEL_STATUS_PEER_DISAGREE) (by decide) 0).wr (g := CK_REF.SEL_STATUS_PEER_IDX) (by decide) 15

theorem evaluate (h : s.TickKeeps t) : s.TickKeeps t.evaluate := by
  unfold State.evaluate
  extract_lets cur sel held u
  have hsel := ((h.wr (g := CK_REF.SEL_STATUS_SELECTED) (by decide) sel).wr (g := CK_DPLL.DPLL_STATUS_INPUT 0) (by decide) sel).raise
    Ev.CK_REF.selection
  have hu : s.TickKeeps u := h.cond (ite hsel.holdover (hsel.newSelection held))
  exact (hu.setStandby _).peerCheck

/-! ### Reference inputs (R326 to R334) -/

section
variable {i : Nat}

theorem refMove (h : s.TickKeeps t) (hi : i < 12) (st : Nat) : s.TickKeeps (t.refMove i st) :=
  ite h ((h.wr ((show ∀ i < 12, (CK_REF.REF_STATUS_STATE i).offTick = true by decide) i hi) st).raise _).evaluate

theorem setRefWtr (h : s.TickKeeps t) (hi : i < 12) (ms : Nat) : s.TickKeeps (t.setRefWtr i ms) :=
  (h.same (u := t.onRef i _) rfl).wr ((show ∀ i < 12, (CK_REF.REF_STATUS_WTR_LEFT i).offTick = true by decide) i hi) _

theorem refQualify (h : s.TickKeeps t) (hi : i < 12) : s.TickKeeps (t.refQualify i) :=
  ((h.setRefWtr hi 0).wr ((show ∀ i < 12, (CK_REF.REF_STATUS_EVER_QUAL i).offTick = true by decide) i hi) 1).refMove hi _

theorem refStartWtr (h : s.TickKeeps t) (hi : i < 12) (secs : Nat) : s.TickKeeps (t.refStartWtr i secs) :=
  have hwtr := (h.setRefWtr hi (1000 * secs)).refMove hi refWtrSt
  ite (hwtr.refQualify hi) hwtr

theorem setOffset (h : s.TickKeeps t) (hi : i < 12) (m : Int) : s.TickKeeps (t.setOffset i m) := by
  have hoff := (show ∀ i < 12, (CK_REF.REF_STATUS_OFFSET i).offTick = true by decide) i hi
  have hmean := h.same (u := t.onRef i fun x => { x with mean := m }) rfl
  exact ite (hmean.wr hoff _) ((hmean.wr hoff _).same rfl)

theorem refJudge (h : s.TickKeeps t) (hi : i < 12) : s.TickKeeps (t.refJudge i) :=
  ite (ite ((h.same (u := t.onRef i _) rfl).refMove hi _) h) (ite h ((h.setRefWtr hi 0).refMove hi _))

theorem refSample (h : s.TickKeeps t) (hi : i < 12) (x : Int) : s.TickKeeps (t.refSample i x) :=
  have hs := h.same (u := t.onRef i _) rfl
  hs.cond (hs.setOffset hi _)

theorem refTick (h : s.TickKeeps t) (hi : i < 12) (x : Int) : s.TickKeeps (t.refTick i x) := by
  unfold State.refTick
  extract_lets u v w
  have hu : s.TickKeeps u := h.refJudge hi
  have hv : s.TickKeeps v := hu.cond (hu.refSample hi x)
  have hw : s.TickKeeps w := hv.cond (hv.setRefWtr hi _)
  exact ite hu (ite (ite (hw.refStartWtr hi _) hw) (ite (ite hw ((hw.setRefWtr hi 0).refMove hi _)) hw))

end

theorem refPorts (h : s.TickKeeps t) : s.TickKeeps t.refPorts :=
  (h.refJudge (i := 4 + Port.E.toNat) (by decide)).refJudge (i := 4 + Port.W.toNat) (by decide)

theorem roostUpdate (h : s.TickKeeps t) : s.TickKeeps t.roostUpdate := by
  have hvalid := fun v => h.wr (g := CK_DPLL.ROOST_STATUS_VALID 0) (by decide) v
  exact (hvalid _).cond ((hvalid _).wr (g := CK_DPLL.ROOST_FREQ_AVG 0) (by decide) _)

theorem roostSample (h : s.TickKeeps t) (x : Int) : s.TickKeeps (t.roostSample x) :=
  (h.same (u := t.onDpll _) rfl).wr (g := CK_DPLL.ROOST_STATUS_HISTORY 0) (by decide) _

theorem dpllTick0 (h : s.TickKeeps t) (phase freq : Int) : s.TickKeeps (t.dpllTick0 phase freq) := by
  unfold State.dpllTick0
  extract_lets st f0 u v
  have hofs : ∀ u : State, s.TickKeeps u → ∀ x, s.TickKeeps (u.wrI (CK_DPLL.FREQ_OFS_OFS 0) x) := fun u hu x => hu.wr (by decide) _
  have hu : s.TickKeeps u :=
    ite (hofs t h _) (ite (hofs t h _) (ite h (hofs _ (h.wr (g := CK_DPLL.PHASE_ERR_ERR 0) (by decide) _) _)))
  have hv : s.TickKeeps v := hu.cond (hu.setResidual _)
  have hlock : s.TickKeeps (v.lockTick phase) := hv.same rfl
  exact (hlock.cond (hlock.roostSample freq)).roostUpdate

theorem dpllTick1 (h : s.TickKeeps t) (phase freq err : Int) : s.TickKeeps (t.dpllTick1 phase freq err) := by
  unfold State.dpllTick1
  extract_lets u was near v
  have hu : s.TickKeeps u :=
    (h.wr (g := CK_DPLL.PHASE_ERR_ERR 1) (by decide) _).wr (g := CK_DPLL.FREQ_OFS_OFS 1) (by decide) _
  have hv : s.TickKeeps v := hu.same rfl
  have hstate := fun x => hv.wr (g := CK_DPLL.DPLL_STATUS_STATE 1) (by decide) x
  exact ite h (ite (((hstate 2).wr (g := CK_DPLL.DPLL_STATUS_EVER_LOCKED 1) (by decide) 1).raise _) (ite ((hstate 1).raise _) hv))

theorem refsTick (h : s.TickKeeps t) (x : TickInputs) : s.TickKeeps (t.refsTick x) := by
  unfold State.refsTick
  extract_lets u
  have hu : s.TickKeeps u := h.forEach _ _ fun i hi v hv => hv.refTick (List.mem_range.1 hi) _
  exact hu.evaluate.cond ((hu.evaluate.dpllTick0 _ _).dpllTick1 _ _ _)

end State.TickKeeps

end Sys2Proof.Machine
end

section
/-! The management tick, continued (O60): the clocks, the ports, the time bases and the services. -/

namespace Sys2Proof.Machine

open F

namespace State.TickKeeps

variable {s t : State}

/-! ### Clocks, ring and transmitters -/

theorem switchClk (h : s.TickKeeps t) (c : Nat) : s.TickKeeps (t.switchClk c) := by
  unfold State.switchClk
  split
  · exact ite h (h.same rfl)
  · exact h.same rfl

theorem clockTick (h : s.TickKeeps t) : s.TickKeeps t.clockTick := by
  unfold State.clockTick
  extract_lets u
  have hu : s.TickKeeps u := h.same rfl
  exact hu.cond (hu.switchClk ctrlMclk)

theorem leaveRing (h : s.TickKeeps t) (cause : Nat) : s.TickKeeps (t.leaveRing cause) := by
  have hpins := h.same (u := { t with pins := { t.pins with bypassHold := ⟨false, false⟩ } }) rfl
  have hbypass : s.TickKeeps (t.setBypass false) :=
    (hpins.wr (g := HB_RING.RING_STATUS_IN_RING) (by decide) _).wr (g := HB_RING.RING_STATUS_BYPASS_HOLD) (by decide) _
  exact ite ((hbypass.wr (g := HB_RING.RING_STATUS_ENTRY_CAUSE) (by decide) cause).raise _).refPorts h

theorem abandonTask (h : s.TickKeeps t) (k : Nat) : s.TickKeeps (t.abandonTask k) :=
  ((h.wr (g := PWR_MGR.CAL_STATE_ACTIVE) (by decide) _).wr (g := PWR_MGR.CAL_STATE_PENDING) (by decide) _).same rfl

theorem txEnableClear (h : s.TickKeeps t) (p : Port) : s.TickKeeps (t.txEnableClear p) := by
  unfold State.txEnableClear
  extract_lets u
  have henable := h.wr (g := TX.TX_CTRL_TX_ENABLE p) (by cases p <;> decide) 0
  have hu : s.TickKeeps u := henable.cond (henable.abandonTask p.toNat)
  have hstate : ∀ v, s.TickKeeps v → ∀ x, s.TickKeeps (v.wr (TX.TX_STATUS_TX_STATE p) x) :=
    fun v hv x => hv.wr (by cases p <;> decide) x
  exact ite h (ite (hstate u hu _) (ite (hstate _ (hu.same (u := State.onTx u p _) rfl) _) hu))

/-! ### Status reports and the shared pool (R231, R267) -/

theorem setReport (h : s.TickKeeps t) (p : Port) (r : Nat) : s.TickKeeps (t.setReport p r) :=
  ite h (((h.wr (g := reqField p) (by cases p <;> decide) r).wr (g := HB_RING.RPT_LOCAL_SEQ) (by decide) _).raise _)

theorem setWtr (h : s.TickKeeps t) (p : Port) (ms : Nat) : s.TickKeeps (t.setWtr p ms) :=
  (h.same (u := t.onReport p _) rfl).wr (g := wtrLeftField p) (by cases p <;> decide) _

theorem toWtr (h : s.TickKeeps t) (p : Port) : s.TickKeeps (t.toWtr p) :=
  have hwtr := (h.setReport p rptWtr).setWtr p _
  ite (hwtr.setReport p _) hwtr

theorem settleReport (h : s.TickKeeps t) (p : Port) : s.TickKeeps (t.settleReport p) :=
  ite h (ite (ite h (ite (h.setReport p _) (h.toWtr p))) (ite ((h.setWtr p 0).setReport p _)
    (ite (ite h (h.toWtr p)) (ite ((h.setWtr p 0).setReport p _) h))))

theorem reportTick (h : s.TickKeeps t) (p : Port) (below : Bool) : s.TickKeeps (t.reportTick p below) :=
  ((h.setWtr p _).same (u := State.onReport _ p _) rfl).settleReport p

theorem occupancyTick (h : s.TickKeeps t) (at_ above : Nat) : s.TickKeeps (t.occupancyTick at_ above) :=
  have hcount := h.raiseN Ev.HB_BUF.occupancy _
  ite (hcount.same rfl) (hcount.same rfl)

theorem snapTick (h : s.TickKeeps t) : s.TickKeeps t.snapTick := h.cond (h.same rfl)

/-! ### Calibration (R65 to R76, R424 to R427) -/

theorem chrysField_offTick (p : Port) (c : Fin 4) : (chrysField false p c).offTick = true := by
  cases p <;> revert c <;> decide

theorem onCal (h : s.TickKeeps t) (p : Port) (f : CalRun → CalRun) : s.TickKeeps (t.onCal p f) := h.same rfl

theorem showFront (h : s.TickKeeps t) (tx : Bool) (p : Port) (c : Fin 4) : s.TickKeeps (t.showFront tx p c) :=
  ite h (h.wr (g := RXCONV.SUB_QUAR_LOST_FRONT p c.val) (by cases p <;> revert c <;> decide) _)

theorem frontLoss (h : s.TickKeeps t) (p : Port) (c : Fin 4) (k : Nat) : s.TickKeeps (t.frontLoss p c k) := by
  unfold State.frontLoss
  extract_lets
  rename_i u v w
  have hu : s.TickKeeps u := h.setConv false p c _
  have hv : s.TickKeeps v := hu.cond (hu.wr (chrysField_offTick p c) _)
  exact (hv.raise _).cond ((((hv.raise _).count _ _ _).raiseOpt _).exhausted _)

theorem frontClassify (h : s.TickKeeps t) (tx : Bool) (p : Port) (c : Fin 4) (k : Nat) (counted pass : Bool) :
    s.TickKeeps (t.frontClassify tx p c k counted pass) := by
  have hconv := fun y => h.setConv tx p c y
  have hlost := fun y => (hconv y).showFront tx p c
  exact ite ((hconv _).count _ _ _) ((hlost _).cond (((hlost _).count _ _ _).raiseOpt _))

theorem ownSwitchFails (h : s.TickKeeps t) (p : Port) (c : Fin 4) (k : Nat) : s.TickKeeps (t.ownSwitchFails p c k) := by
  unfold State.ownSwitchFails
  extract_lets
  rename_i u v w
  have hu : s.TickKeeps u := h.setConv false p c _
  have hv : s.TickKeeps v := hu.cond (hu.wr (chrysField_offTick p c) noUnit)
  exact (hv.lastingOnly _ k).cond ((hv.lastingOnly _ k).exhausted _)

theorem skewStep (h : s.TickKeeps t) (p : Port) (c : Fin 4) (sw : Nat) (est : Int) : s.TickKeeps (t.skewStep p c sw est) := by
  have hbad : s.TickKeeps ((t.raise (Ev.RXCONV.implausible p)).onCal p fun r => { r with implausible := true }) :=
    (h.raise _).onCal p _
  have hconv := fun y => hbad.setConv false p c y
  exact ite h (ite ((h.setConv false p c _).cond ((h.setConv false p c _).onCal p _))
    (ite (ite (((hconv _).frontLoss p c sw).frontClassify false p c sw _ false) ((hconv _).ownSwitchFails p c _)) (hconv _)))

theorem skewTick (h : s.TickKeeps t) (p : Port) (ests : List (Port × Fin 4 × Fin 40 × Int)) : s.TickKeeps (t.skewTick p ests) := by
  have hsteps := h.forEach (ests.filter fun e => decide (e.1 = p)) _ fun e _ u hu => hu.skewStep p e.2.1 e.2.2.1.val e.2.2.2
  exact ite (hsteps.cond (hsteps.onCal p _)) h

theorem taskStart (h : s.TickKeeps t) (k : Nat) : s.TickKeeps (t.taskStart k) :=
  ((h.wr (g := PWR_MGR.CAL_STATE_ACTIVE) (by decide) _).wr (g := PWR_MGR.CAL_STATE_DEFERRED) (by decide) _).same rfl

theorem taskTrigger (h : s.TickKeeps t) (k : Nat) : s.TickKeeps (t.taskTrigger k) :=
  ite h (ite (h.wr (g := PWR_MGR.CAL_STATE_PENDING) (by decide) _)
    (ite (h.wr (g := PWR_MGR.CAL_STATE_DEFERRED) (by decide) _) (h.taskStart k)))

theorem taskTick (h : s.TickKeeps t) (k : Nat) : s.TickKeeps (t.taskTick k) := by
  have hcorr := h.same (u := t.onTask k fun c => { c with corr := moveCorr c.corr c.target }) rfl
  exact ite (hcorr.taskTrigger k) hcorr

theorem startDeferred (h : s.TickKeeps t) : s.TickKeeps t.startDeferred :=
  h.forEach _ _ fun k _ _ hu => hu.cond ((hu.wr (g := PWR_MGR.CAL_STATE_DEFERRED) (by decide) _).taskTrigger k)

theorem calBegin (h : s.TickKeeps t) (p : Port) : s.TickKeeps (t.calBegin p) := by
  unfold State.calBegin
  extract_lets u v w x
  have hu : s.TickKeeps u := h.wr (by cases p <;> decide) 1
  have hv : s.TickKeeps v := hu.wr (by cases p <;> decide) 0
  have hw : s.TickKeeps w := hv.wr (by cases p <;> decide) _
  have hx : s.TickKeeps x := hw.forEach _ _ fun e _ y hy => hy.setConv e.1 p e.2 _
  exact (hx.onCal p _).onCal p _

theorem calRequest (h : s.TickKeeps t) (p : Port) : s.TickKeeps (t.calRequest p) :=
  ite h (ite (h.wr (g := RXCONV.CAL_STATUS_RUN_PENDING p) (by cases p <;> decide) 1) (h.calBegin p))

theorem frontTempTick (h : s.TickKeeps t) (p : Port) : s.TickKeeps (t.frontTempTick p) := by
  have hnow := fun v => h.wr (g := RXCONV.CAL_TEMP_T_NOW p) (by cases p <;> decide) v
  exact (hnow _).cond ((hnow _).calRequest p)

end State.TickKeeps

end Sys2Proof.Machine
end

section
/-! The management tick, continued (O60): rails, power, temperatures, time bases and keys. -/

namespace Sys2Proof.Machine

open F

/-! ### Answers of the tick that leave the registers -/

theorem State.codeMicroVolts_regs (s : State) (ch c : Nat) : (s.codeMicroVolts ch c).1.regs = s.regs := by
  unfold State.codeMicroVolts
  split <;> rfl

theorem State.divOpen_regs (s : State) (n d : Int) : (s.divOpen n d).1.regs = s.regs := by
  unfold State.divOpen
  split <;> rfl

theorem State.linear16_regs (s : State) (r v : Nat) : (s.linear16 r v).1.regs = s.regs := by
  unfold State.linear16
  extract_lets e
  split
  · exact s.divOpen_regs _ _
  · exact s.divOpen_regs _ _

theorem State.ngmiMargin_regs (s : State) (p : Port) : (s.ngmiMargin p).1.regs = s.regs := by
  unfold State.ngmiMargin
  split <;> rfl

theorem State.marginPort_regs (s : State) (larger : Bool) : (s.marginPort larger).1.regs = s.regs := by
  unfold State.marginPort
  dsimp only
  rw [State.ngmiMargin_regs, State.ngmiMargin_regs]

theorem State.loadSet_regs (s : State) (n ch : Nat) (drop derived : Bool) (epoch : Nat) (set : List Nat) :
    (s.loadSet n ch drop derived epoch set).1.regs = s.regs := by
  unfold State.loadSet
  extract_lets
  split <;> rfl

namespace State.TickKeeps

variable {s t : State}

/-! ### Rails and power (R428 to R435) -/

theorem onPower (h : s.TickKeeps t) (f : PowerState → PowerState) : s.TickKeeps (t.onPower f) := h.same rfl

theorem onTb (h : s.TickKeeps t) (b : Nat) (f : TimeBase → TimeBase) : s.TickKeeps (t.onTb b f) := h.same rfl

theorem onChanKey (h : s.TickKeeps t) (ch : Nat) (f : ChanKeys → ChanKeys) : s.TickKeeps (t.onChanKey ch f) := h.same rfl

theorem emit (h : s.TickKeeps t) (o : Out) : s.TickKeeps (t.emit o) := h.same rfl

theorem railRead (h : s.TickKeeps t) {r : Nat} (hr : r < 16) (x : Option RailRead) : s.TickKeeps (t.railRead r x) := by
  have hstale := (show ∀ r < 16, (PWR_MGR.RAIL_SCALE_STALE r).offTick = true by decide) r hr
  have hlost := (show ∀ r < 16, (PWR_MGR.RAIL_SCALE_LOST r).offTick = true by decide) r hr
  have hvout := (show ∀ r < 16, (PWR_MGR.RAIL_RD_VOUT r).offTick = true by decide) r hr
  have hiout := (show ∀ r < 16, (PWR_MGR.RAIL_RD_IOUT r).offTick = true by decide) r hr
  unfold State.railRead
  extract_lets seqV seqI ok e u n v w
  have hv : s.TickKeeps v := (h.wr hstale 1).raise _
  have hw : s.TickKeeps w := hv.same rfl
  have hu : s.TickKeeps u := by
    simp only [u]
    split
    · exact h.cond (h.onPower _)
    · exact h
  refine ite ?_ (ite ((hw.wr hlost 1).raise _) hw)
  generalize hpair : (if seqV = true then _ else _ : State × Nat) = pair
  have hregs : pair.1.regs = u.regs := by
    rw [← hpair]
    split
    · exact u.codeMicroVolts_regs _ _
    · rfl
  obtain ⟨y, uv⟩ := pair
  exact (((((hu.same hregs).wr hstale 0).wr hlost 0).wr hvout _).wr hiout _).onPower _

theorem railTick (h : s.TickKeeps t) (reads : List RailRead) : s.TickKeeps (t.railTick reads) := by
  unfold State.railTick
  extract_lets u v all total w
  have hu : s.TickKeeps u := h.forEach _ _ fun r hr y hy =>
    hy.cond (hy.railRead (List.mem_range.1 (List.mem_of_mem_filter hr)) _)
  have hv : s.TickKeeps v := hu.forEach _ _ fun d hd y hy =>
    (hy.wr ((show ∀ d < 5, (PWR_MGR.DIE_POWER_POWER d).offTick = true by decide) d (List.mem_range.1 hd)) _).wr
      ((show ∀ d < 5, (PWR_MGR.DIE_POWER_INCOMPLETE d).offTick = true by decide) d (List.mem_range.1 hd)) _
  have hw : s.TickKeeps w :=
    (hv.wr (g := PWR_MGR.PKG_POWER_POWER) (by decide) _).wr (g := PWR_MGR.PKG_POWER_INCOMPLETE) (by decide) _
  exact hw.onPower _

theorem setVout (h : s.TickKeeps t) (v : Nat) : s.TickKeeps (t.setVout v) := by
  unfold State.setVout
  extract_lets x y
  have hy : s.TickKeeps y := (h.wr (g := PWR_MGR.AVS_STATUS_VOUT_MV) (by decide) _).onPower _
  split
  · exact h
  · extract_lets m
    have hm : s.TickKeeps m.1 := hy.same (y.linear16_regs _ _)
    exact ite (hm.emit _) h

theorem avsTick (h : s.TickKeeps t) (slack : Int) : s.TickKeeps (t.avsTick slack) := by
  unfold State.avsTick
  extract_lets u
  have hu : s.TickKeeps u := h.wr (g := PWR_MGR.AVS_STATUS_MIN_SLACK) (by decide) _
  have hvout : ∀ v f, s.TickKeeps ((u.setVout v).onPower f) := fun v f => (hu.setVout v).onPower f
  have hrun : ∀ f, s.TickKeeps (u.onPower f) := fun f => hu.onPower f
  exact ite (ite (hvout _ _) (ite (ite (hvout _ _) (hrun _)) (hrun _))) hu

theorem setCap (h : s.TickKeeps t) (p : Port) (v : Nat) : s.TickKeeps (t.setCap p v) :=
  ite h ((h.wr (g := FEC.ITER_CTL_CAP p) (by cases p <;> decide) _).raise _)

theorem capStage (h : s.TickKeeps t) (v : Nat) : s.TickKeeps (t.wr PWR_MGR.CAP_STATUS_STAGE v) := h.wr (by decide) v

theorem capUnmet (h : s.TickKeeps t) (v : Nat) : s.TickKeeps (t.wr PWR_MGR.CAP_STATUS_CAP_UNMET v) := h.wr (by decide) v

theorem capMeasure (h : s.TickKeeps t) : s.TickKeeps t.capMeasure := by
  have hport := h.same (t.marginPort_regs true)
  unfold State.capMeasure
  generalize t.marginPort true = x at *
  obtain ⟨u, p⟩ := x
  exact ite (((hport.setCap _ _).capStage _).raise _) (ite (h.capStage 2) (ite h ((h.capUnmet 1).raise _)))

theorem capUndo (h : s.TickKeeps t) : s.TickKeeps t.capUndo := by
  have hport := h.same (t.marginPort_regs false)
  unfold State.capUndo
  generalize t.marginPort false = x at *
  obtain ⟨u, p⟩ := x
  have hcap : ∀ q v, s.TickKeeps ((u.setCap q v).raise Ev.PWR_MGR.capRaised) := fun q v => (hport.setCap q v).raise _
  exact ite (h.capUnmet 0) (ite (h.capStage 1).startDeferred (ite ((hcap _ _).cond ((hcap _ _).capStage 0)) (h.capStage 0)))

theorem capTick (h : s.TickKeeps t) : s.TickKeeps t.capTick := by
  unfold State.capTick
  extract_lets u cap n sum v
  have hu : s.TickKeeps u := h.forEach _ _ fun p _ y hy => hy.cond (hy.setCap p _)
  have hv : s.TickKeeps v := hu.onPower _
  have hrun : ∀ f, s.TickKeeps (u.onPower f) := fun f => hu.onPower f
  exact ite h (ite (hrun _).capUndo (ite (hrun _).capMeasure (ite (hv.cond hv.capUndo) (hrun _))))

/-! ### Temperatures (R417, R430 to R433) -/

theorem urgentDone (h : s.TickKeeps t) (code : Nat) : s.TickKeeps (t.urgentDone code) := by
  have hresult := ((h.wr (g := MON_SEQ.URG_RESULT_VALUE) (by decide) code).wr (g := MON_SEQ.URG_RESULT_DONE) (by decide) 1).wr
    (g := MON_SEQ.URG_RESULT_PENDING) (by decide) 0
  exact (hresult.same (u := State.onMon _ _) rfl).raise _

theorem takeTemp (h : s.TickKeeps t) (ch : Nat) (code : Int) : s.TickKeeps (t.takeTemp ch code) := by
  unfold State.takeTemp
  extract_lets put
  have hput : ∀ v, s.TickKeeps (put t v) := fun v => h.same rfl
  split
  · exact hput _
  · exact ite h (ite (h.raise _) ((hput _).urgentDone _))

theorem thermHigh (h : s.TickKeeps t) (v : Nat) : s.TickKeeps (t.wr PWR_MGR.THERM_STATUS_HIGH v) := h.wr (by decide) v

theorem thermalTick (h : s.TickKeeps t) (codes : List Int) : s.TickKeeps (t.thermalTick codes) := by
  unfold State.thermalTick
  extract_lets u temps hot v run w high crit newCrit x y
  have hu : s.TickKeeps u := h.forEach _ _ fun ch _ z hz => hz.takeTemp ch _
  have hv : s.TickKeeps v :=
    (hu.wr (g := PWR_MGR.THERM_STATUS_T_MAX) (by decide) _).wr (g := PWR_MGR.THERM_STATUS_HOT_DIE) (by decide) _
  have hw : s.TickKeeps w := hv.onPower _
  have hx : s.TickKeeps x := (hw.raiseIf _ _).thermHigh _
  have hy : s.TickKeeps y := (hx.raiseIf _ _).wr (g := PWR_MGR.THERM_STATUS_CRIT) (by decide) _
  exact ite hu (ite ((hu.raiseIf _ _).thermHigh 1) (hy.cond (((hy.leaveRing 1).txEnableClear .E).txEnableClear .W)))

/-! ### Time bases (R342 to R353) -/

section
variable {b : Nat}

theorem setAdj (h : s.TickKeeps t) (hb : b < 4) (v : Nat) : s.TickKeeps (t.setAdj b v) := by
  have hsettle : s.TickKeeps (t.tbSettle b) := ite h (h.onTb b _)
  exact hsettle.wr ((show ∀ b < 4, (TS_TB.TB_RATE_ADJ b).offTick = true by decide) b hb) v

theorem setSlewRate (h : s.TickKeeps t) (hb : b < 4) (r : Int) : s.TickKeeps (t.setSlewRate b r) :=
  h.cond ((h.setAdj hb _).onTb b _)

theorem tbTick (h : s.TickKeeps t) (hb : b < 4) : s.TickKeeps (t.tbTick b) := by
  unfold State.tbTick
  extract_lets x slope left u v
  have hu : s.TickKeeps u := h.cond ((h.onTb b _).wr
    ((show ∀ b < 4, (TS_TB.SLEW_LEFT_RESIDUAL b).offTick = true by decide) b hb) _)
  have hv : s.TickKeeps v := hu.cond ((hu.onTb b _).setSlewRate hb _)
  exact hv.onTb b _

theorem setFreqLock (h : s.TickKeeps t) (hb : b < 4) (v : Bool) : s.TickKeeps (t.setFreqLock b v) :=
  ite h (((h.wr ((show ∀ b < 4, (TS_TB.TB_STATUS_FREQ_LOCK b).offTick = true by decide) b hb) _).raise _).refJudge (by omega))

theorem setTimeLock (h : s.TickKeeps t) (hb : b < 4) (v : Bool) : s.TickKeeps (t.setTimeLock b v) := by
  have hlock := fun x => h.wr ((show ∀ b < 4, (TS_TB.TB_STATUS_TIME_LOCK b).offTick = true by decide) b hb) x
  have hvalid := fun x => (hlock x).wr ((show ∀ b < 4, (TS_TB.TB_STATUS_VALID b).offTick = true by decide) b hb) 1
  exact ite h (ite (((hvalid _).raise _).forEach _ _ fun p _ y hy => hy.cond (hy.same rfl)) ((hlock _).raise _))

theorem tbSecond (h : s.TickKeeps t) (hb : b < 4) : s.TickKeeps (t.tbSecond b) := by
  refine h.forEach _ _ fun sh _ u hu => ?_
  extract_lets was o size v w now x
  have hv : s.TickKeeps v := hu.onTb b _
  have hx : s.TickKeeps x := hv.cond (hv.onTb b _)
  exact ite (ite ((hx.setFreqLock hb _).setTimeLock hb _)
    (hx.wr ((show ∀ b < 4, (TS_TB.TB_STATUS_SHADOW_LOCK b).offTick = true by decide) b hb) _)) hu

end

theorem timingTick (h : s.TickKeeps t) : s.TickKeeps t.timingTick := by
  unfold State.timingTick
  extract_lets u
  have hu : s.TickKeeps u := h.forEach _ _ fun b hb _ hv => hv.tbTick (List.mem_range.1 hb)
  exact hu.cond (hu.forEach _ _ fun b hb _ hv => hv.tbSecond (List.mem_range.1 hb))

/-! ### Keys and services (R303, R361, R424) -/

theorem ensureNext (h : s.TickKeeps t) (ch : Nat) (drop : Bool) : s.TickKeeps (t.ensureNext ch drop) := by
  unfold State.ensureNext
  extract_lets c e
  refine ite h ?_
  split
  · exact (h.onChanKey ch _).raise _
  · extract_lets r
    have hr : s.TickKeeps r.1 := h.same (t.loadSet_regs _ _ _ _ _ _)
    exact ite h (ite ((hr.raise _).onChanKey ch _) hr)

theorem requestSwitch (h : s.TickKeeps t) (ch at_ : Nat) : s.TickKeeps (t.requestSwitch ch at_).1 := by
  unfold State.requestSwitch
  extract_lets c u v
  have hv : s.TickKeeps v := h.same rfl
  split
  · exact h
  · split
    · exact h
    · split
      · exact h
      · exact hv.raise _

theorem rotate (h : s.TickKeeps t) (ch : Nat) : s.TickKeeps (t.rotate ch) := by
  unfold State.rotate
  extract_lets u ss wrap r
  have hu : s.TickKeeps u := (h.ensureNext ch false).ensureNext ch true
  have hr : s.TickKeeps r.1 := hu.requestSwitch _ _
  clear_value r u
  exact ite (ite (ite (hr.onChanKey ch _) hr) hu) h

theorem tel (h : s.TickKeeps t) (x : Option Telemetry) : s.TickKeeps { t with tel := x } := h.same rfl

theorem writeMirror (h : s.TickKeeps t) : s.TickKeeps t.writeMirror := h.same rfl

theorem serviceTick (h : s.TickKeeps t) : s.TickKeeps t.serviceTick := by
  unfold State.serviceTick
  extract_lets u v
  have hu : s.TickKeeps u := ite h (h.forEach _ _ fun ch _ _ hy => hy.rotate ch)
  have hv : s.TickKeeps v := hu.forEach _ _ fun k _ _ hy => hy.taskTick k
  exact ite (hv.tel _).writeMirror (h.tel none)

end State.TickKeeps

end Sys2Proof.Machine
end

section
/-! The management tick, concluded (O60): the telemetry set of a port, and what the whole tick counts. -/

namespace Sys2Proof.Machine

open F

/-! ### Figures of the telemetry set (R119) -/

theorem State.quotient_regs (s : State) (n d : Int) : (s.quotient n d).1.regs = s.regs := s.divOpen_regs n d

theorem State.hopMean_regs (s : State) (sum : Int) (hops : Nat) : (s.hopMean sum hops).1.regs = s.regs := by
  unfold State.hopMean
  split
  · rfl
  · exact s.quotient_regs _ _

theorem State.osnr_regs (s : State) (p : Port) (power : Int) : (s.osnr p power).1.regs = s.regs := by
  unfold State.osnr
  extract_lets
  split
  · exact s.quotient_regs _ _
  · rfl

theorem State.esnr_regs (s : State) (x : TelSums) : (s.esnr x).1.regs = s.regs := by
  unfold State.esnr
  split
  · rfl
  · exact s.quotient_regs _ _

theorem State.ngmi_regs (s : State) (x : TelSums) : (s.ngmi x).1.regs = s.regs := by
  unfold State.ngmi
  split
  · rfl
  · exact s.quotient_regs _ _

/-- The two sequence fields of a port move together, and what the statement reads beside them stays. -/
def State.TelAdvances (p : Port) (s t : State) : Prop :=
  t.rd (SPAN.TEL_SEQ_SEQ p) = (s.rd (SPAN.TEL_SEQ_SEQ p) + 1) % 2 ^ 31 ∧ t.rd (FEC.TEL_SEQ_SEQ p) = t.rd (SPAN.TEL_SEQ_SEQ p) ∧
  ∀ f ∈ [MG_CTL.TICK_COUNT_TICKS, CK_SYN.SYN_STATUS_RCLK_OK, SPAN.TEL_SEQ_SEQ p.other, FEC.TEL_SEQ_SEQ p.other], t.rd f = s.rd f

namespace State.TickKeeps

variable {s t : State}

theorem figure (h : s.TickKeeps t) {f : Field} (hf : f.offTick = true) {x : State × Option Int} (hx : x.1.regs = t.regs) :
    s.TickKeeps (t.figure f x) := by
  unfold State.figure
  split
  · exact ite ((h.same hx).wr hf _) ((h.wr hf _).same rfl)
  · exact (h.wr hf _).same rfl

theorem figureI (h : s.TickKeeps t) {f : Field} (hf : f.offTick = true) {x : State × Option Int} (hx : x.1.regs = t.regs) :
    s.TickKeeps (t.figureI f x) := by
  unfold State.figureI
  split
  · exact ite ((h.same hx).wr hf _) ((h.wr hf _).same rfl)
  · exact (h.wr hf _).same rfl

theorem spanFigures (h : s.TickKeeps t) (p : Port) (power : Int) : s.TickKeeps (t.spanFigures p power) := by
  unfold State.spanFigures
  extract_lets x a b c d e f g i j
  have ha : s.TickKeeps a := h.figureI (by cases p <;> decide) (t.hopMean_regs _ _)
  have hb : s.TickKeeps b := ha.figure (by cases p <;> decide) (a.hopMean_regs _ _)
  have hc : s.TickKeeps c := hb.figure (by cases p <;> decide) (b.hopMean_regs _ _)
  have hd : s.TickKeeps d :=
    (hc.figure (f := SPAN.SNR_OSNR p) (by cases p <;> decide) (c.osnr_regs p power)).wr (g := SPAN.SNR_OSNR_VALID p)
      (by cases p <;> decide) _
  have he : s.TickKeeps e := hd.figureI (by cases p <;> decide) (d.esnr_regs _)
  have hf : s.TickKeeps f := he.figure (by cases p <;> decide) rfl
  have hg : s.TickKeeps g := hf.figure (by cases p <;> decide) (f.hopMean_regs _ _)
  have hi : s.TickKeeps i := hg.figure (by cases p <;> decide) (g.ngmi_regs _)
  have hj : s.TickKeeps j := hi.figure (by cases p <;> decide) rfl
  exact hj.figure (by cases p <;> decide) rfl

theorem noiseAge (h : s.TickKeeps t) (p : Port) : s.TickKeeps (t.noiseAge p) := by
  have hx := fun f v => (h.same (u := t.onRx p f) rfl).wr (g := RXFE.NOISE_X_AGE p) (by cases p <;> decide) v
  exact ite (h.same rfl) ((hx _ _).wr (g := RXFE.NOISE_Y_AGE p) (by cases p <;> decide) _)

theorem onRx (h : s.TickKeeps t) (p : Port) (f : RxState → RxState) : s.TickKeeps (t.onRx p f) := h.same rfl

theorem noiseTick (h : s.TickKeeps t) (p : Port) (x y : Int) : s.TickKeeps (t.noiseTick p x y) := by
  unfold State.noiseTick
  extract_lets u v
  have hu : s.TickKeeps u := ((h.wr (g := RXFE.NOISE_X_PSD p) (by cases p <;> decide) _).wr (g := RXFE.NOISE_X_VALID p)
    (by cases p <;> decide) 1).wr (g := RXFE.NOISE_X_AGE p) (by cases p <;> decide) 0
  have hv : s.TickKeeps v := ((hu.wr (g := RXFE.NOISE_Y_PSD p) (by cases p <;> decide) _).wr (g := RXFE.NOISE_Y_VALID p)
    (by cases p <;> decide) 1).wr (g := RXFE.NOISE_Y_AGE p) (by cases p <;> decide) 0
  exact ite ((hv.onRx p _).raise _) h

theorem fecTick (h : s.TickKeeps t) (p : Port) : s.TickKeeps (t.fecTick p) := by
  unfold State.fecTick
  extract_lets f u v w x
  have hu : s.TickKeeps u := (h.wr (g := FEC.TICK_CW_COUNT p) (by cases p <;> decide) _).wr (g := FEC.TICK_UNCORR_COUNT p)
    (by cases p <;> decide) _
  have hv : s.TickKeeps v := (hu.wr (g := FEC.TICK_LDPC_CORR_COUNT p) (by cases p <;> decide) _).wr
    (g := FEC.TICK_BCH_CORR_COUNT p) (by cases p <;> decide) _
  have hw : s.TickKeeps w := hv.wr (g := FEC.TICK_BCH_UNCORR_COUNT p) (by cases p <;> decide) _
  have hhist : ∀ j < 17, (FEC.ITER_HIST_COUNT p j).offTick = true := by cases p <;> decide
  have hx : s.TickKeeps x := hw.forEach _ _ fun j hj _ hy => hy.wr (hhist j (List.mem_range.1 hj)) _
  exact hx.same rfl

/-- What precedes and what follows an advance of the telemetry sequence may keep it. -/
theorem around {p : Port} {u v : State} (h : s.TickKeeps t) (hadv : t.TelAdvances p u) (k : u.TickKeeps v) : s.TelAdvances p v := by
  obtain ⟨hspan, hfec, hrest⟩ := hadv
  have hspanIn : SPAN.TEL_SEQ_SEQ p ∈ tickFields := by cases p <;> decide
  have hfecIn : FEC.TEL_SEQ_SEQ p ∈ tickFields := by cases p <;> decide
  have hrestIn : ∀ f ∈ [MG_CTL.TICK_COUNT_TICKS, CK_SYN.SYN_STATUS_RCLK_OK, SPAN.TEL_SEQ_SEQ p.other, FEC.TEL_SEQ_SEQ p.other],
      f ∈ tickFields := by cases p <;> decide
  refine ⟨?_, ?_, fun f hf => ?_⟩
  · rw [k _ hspanIn, hspan, h _ hspanIn]
  · rw [k _ hfecIn, k _ hspanIn, hfec]
  · rw [k f (hrestIn f hf), hrest f hf, h f (hrestIn f hf)]

end State.TickKeeps

/-! ### A port at a tick -/

/-- The sequence value of a new telemetry set, on the span page and on the decoder's (R119, R155). -/
def State.telSeq (s : State) (p : Port) (acq : Bool) : State :=
  let s := (s.bump (SPAN.TEL_SEQ_SEQ p)).wrB (SPAN.TEL_SEQ_NOT_ACQ p) (!acq)
  (s.wr (FEC.TEL_SEQ_SEQ p) (s.rd (SPAN.TEL_SEQ_SEQ p))).wrB (FEC.TEL_SEQ_NOT_ACQ p) (!acq)

theorem State.telSeq_advances (s : State) (p : Port) (acq : Bool) : s.TelAdvances p (s.telSeq p acq) := by
  unfold State.telSeq
  extract_lets u
  have hseq : u.rd (SPAN.TEL_SEQ_SEQ p) = (s.rd (SPAN.TEL_SEQ_SEQ p) + 1) % 2 ^ 31 :=
    (State.rd_wr_ne _ (f := SPAN.TEL_SEQ_NOT_ACQ p) _ (by cases p <;> decide)).trans (State.rd_wr_same s (SPAN.TEL_SEQ_SEQ p) _)
  have hspan : ((u.wr (FEC.TEL_SEQ_SEQ p) (u.rd (SPAN.TEL_SEQ_SEQ p))).wrB (FEC.TEL_SEQ_NOT_ACQ p) (!acq)).rd (SPAN.TEL_SEQ_SEQ p) =
      u.rd (SPAN.TEL_SEQ_SEQ p) :=
    (State.rd_wr_ne _ (f := FEC.TEL_SEQ_NOT_ACQ p) _ (by cases p <;> decide)).trans
      (State.rd_wr_ne u (f := FEC.TEL_SEQ_SEQ p) _ (by cases p <;> decide))
  have hfec : ((u.wr (FEC.TEL_SEQ_SEQ p) (u.rd (SPAN.TEL_SEQ_SEQ p))).wrB (FEC.TEL_SEQ_NOT_ACQ p) (!acq)).rd (FEC.TEL_SEQ_SEQ p) =
      u.rd (SPAN.TEL_SEQ_SEQ p) :=
    ((State.rd_wr_ne _ (f := FEC.TEL_SEQ_NOT_ACQ p) _ (by cases p <;> decide)).trans
      (State.rd_wr_same u (FEC.TEL_SEQ_SEQ p) _)).trans (Nat.mod_eq_of_lt (u.rd_lt (SPAN.TEL_SEQ_SEQ p)))
  refine ⟨hspan.trans hseq, hfec.trans hspan.symm, fun f hf => ?_⟩
  have hoff : ∀ f ∈ [MG_CTL.TICK_COUNT_TICKS, CK_SYN.SYN_STATUS_RCLK_OK, SPAN.TEL_SEQ_SEQ p.other, FEC.TEL_SEQ_SEQ p.other],
      ∀ g ∈ [SPAN.TEL_SEQ_SEQ p, SPAN.TEL_SEQ_NOT_ACQ p, FEC.TEL_SEQ_SEQ p, FEC.TEL_SEQ_NOT_ACQ p], g.key ≠ f.key := by
    cases p <;> decide
  exact (((State.rd_wr_ne _ _ (hoff f hf (FEC.TEL_SEQ_NOT_ACQ p) (by simp))).trans
    (State.rd_wr_ne u _ (hoff f hf (FEC.TEL_SEQ_SEQ p) (by simp)))).trans
    (State.rd_wr_ne _ _ (hoff f hf (SPAN.TEL_SEQ_NOT_ACQ p) (by simp)))).trans
    (State.rd_wr_ne s _ (hoff f hf (SPAN.TEL_SEQ_SEQ p) (by simp)))

theorem State.spanTick_advances (s : State) (p : Port) (power : Int) : s.TelAdvances p (s.spanTick p power) := by
  have hseq := s.telSeq_advances p (decide (s.acqSt p = acqAcquired))
  unfold State.spanTick
  extract_lets acq u v w x y z a
  have hv : s.TelAdvances p v := hseq
  clear_value v
  have hzero : ∀ f ∈ spanZeros p, f.offTick = true := by cases p <;> decide
  have hw : v.TickKeeps w := .ite ((TickKeeps.refl v).spanFigures p power) ((TickKeeps.refl v).forEach _ _ fun f hf _ hb => hb.wr (hzero f hf) 0)
  have hx : v.TickKeeps x := hw.wr (g := SPAN.LASER_OFFSET p) (by cases p <;> decide) _
  have hy : v.TickKeeps y := (hx.onRx p _).raise _
  have ha : v.TickKeeps a := (hy.raiseIf _ _).raiseIf _ _
  exact (TickKeeps.refl s).around hv (ha.raiseIf _ _)

theorem State.portTick_advances (s : State) (p : Port) (x : TickInputs) : s.TelAdvances p (s.portTick p x) := by
  unfold State.portTick
  extract_lets u n v w a b c d e f
  have hv : s.TickKeeps v := (((TickKeeps.refl s).noiseAge p).noiseTick p _ _).onRx p _
  have hw : v.TelAdvances p w := v.spanTick_advances p _
  clear_value w
  have ha : w.TickKeeps a := (TickKeeps.refl w).wr (g := DEMAP.ERASE_FRAC_MAX_FRAC p) (by cases p <;> decide) _
  have hc : w.TickKeeps c := (ha.onRx p _).fecTick p
  have hd : w.TickKeeps d := hc.same rfl
  have hf : w.TickKeeps f := (hd.reportTick p _).onCal p _
  exact hv.around hw (hf.skewTick p _)

/-! ### The whole tick -/

/-- What a tick does beyond RCLK, RCLK running. -/
def State.lineTick (s : State) (x : TickInputs) : State :=
  let s := (s.toInstant x.tclk).timingTick
  let s := (s.portTick .E x).portTick .W x
  (s.occupancyTick x.tclk x.above).snapTick

/-- The tick's work after the ports. -/
def State.careTick (s : State) (x : TickInputs) : State :=
  let s := (s.railTick x.rails).avsTick x.slack
  let s := s.capTick.thermalTick x.temps
  let s := if s.rclkStopped then s else (s.frontTempTick .E).frontTempTick .W
  s.serviceTick

theorem State.TickKeeps.careTick {s t : State} (h : s.TickKeeps t) (x : TickInputs) : s.TickKeeps (t.careTick x) := by
  unfold State.careTick
  extract_lets u v w
  have hu : s.TickKeeps u := (h.railTick _).avsTick _
  have hv : s.TickKeeps v := hu.capTick.thermalTick _
  have hw : s.TickKeeps w := .ite hv ((hv.frontTempTick .E).frontTempTick .W)
  exact hw.serviceTick

/-- Both ports' telemetry sequences advance, and the tick count stays as it was. -/
theorem State.lineTick_spec (s : State) (x : TickInputs) :
    (s.lineTick x).rd MG_CTL.TICK_COUNT_TICKS = s.rd MG_CTL.TICK_COUNT_TICKS ∧ ∀ p,
      (s.lineTick x).rd (SPAN.TEL_SEQ_SEQ p) = (s.rd (SPAN.TEL_SEQ_SEQ p) + 1) % 2 ^ 31 ∧
      (s.lineTick x).rd (FEC.TEL_SEQ_SEQ p) = (s.lineTick x).rd (SPAN.TEL_SEQ_SEQ p) := by
  unfold State.lineTick
  extract_lets u v
  have hinst : s.TickKeeps (s.toInstant x.tclk) := (State.TickKeeps.refl s).same rfl
  have hu : s.TickKeeps u := hinst.timingTick
  have hv : v.TickKeeps ((v.occupancyTick x.tclk x.above).snapTick) := ((State.TickKeeps.refl v).occupancyTick _ _).snapTick
  obtain ⟨hspanE, hfecE, hrestE⟩ := hu.around (u.portTick_advances .E x) (.refl _)
  obtain ⟨hspanW, hfecW, hrestW⟩ := (State.TickKeeps.refl _).around ((u.portTick .E x).portTick_advances .W x) hv
  refine ⟨(hrestW _ (by simp)).trans (hrestE _ (by simp)), fun p => ?_⟩
  cases p
  case E =>
    have hspan := hrestW (SPAN.TEL_SEQ_SEQ .E) (by simp [Port.other])
    exact ⟨hspan.trans hspanE, ((hrestW (FEC.TEL_SEQ_SEQ .E) (by simp [Port.other])).trans hfecE).trans hspan.symm⟩
  case W =>
    refine ⟨?_, hfecW⟩
    rw [hspanW, hrestE (SPAN.TEL_SEQ_SEQ .W) (by simp [Port.other])]

/-- The control complex's part of a tick: the count, the clocks and the references. -/
def State.clockedTick (s : State) (x : TickInputs) : State := ((s.bump MG_CTL.TICK_COUNT_TICKS).clockTick).refsTick x

theorem State.clockedTick_rd (s : State) (x : TickInputs) {f : Field} (hf : f ∈ tickFields)
    (hne : MG_CTL.TICK_COUNT_TICKS.key ≠ f.key) : (s.clockedTick x).rd f = s.rd f :=
  ((State.TickKeeps.refl _).clockTick.refsTick x f hf).trans (State.rd_wr_ne s _ hne)

theorem State.clockedTick_ticks (s : State) (x : TickInputs) : (s.clockedTick x).rd MG_CTL.TICK_COUNT_TICKS =
    (s.rd MG_CTL.TICK_COUNT_TICKS + 1) % 2 ^ MG_CTL.TICK_COUNT_TICKS.width :=
  ((State.TickKeeps.refl _).clockTick.refsTick x MG_CTL.TICK_COUNT_TICKS (by decide)).trans (State.rd_wr_same s _ _)

theorem exec_managementTick {s : State} (hstop : s.clock.stopped = false) (x : TickInputs) :
    exec (.managementTick x) s =
      .next ((if (s.clockedTick x).rclkStopped then s.clockedTick x else (s.clockedTick x).lineTick x).careTick x) := by
  rw [exec, execManagementTick, if_neg (by simp [hstop])]
  rfl

/-- A tick counts itself, and each port's telemetry sequence while RCLK runs (R119, R155, R312, R316). -/
theorem completes_managementTick {s : State} (hstop : s.clock.stopped = false) (x : TickInputs) :
    Completes (.managementTick x) s fun t =>
      t.rd MG_CTL.TICK_COUNT_TICKS = (s.rd MG_CTL.TICK_COUNT_TICKS + 1) % 2 ^ MG_CTL.TICK_COUNT_TICKS.width ∧
      (s.Clocked → ∀ p,
        t.rd (SPAN.TEL_SEQ_SEQ p) = (s.rd (SPAN.TEL_SEQ_SEQ p) + 1) % 2 ^ 31 ∧
        t.rd (FEC.TEL_SEQ_SEQ p) = t.rd (SPAN.TEL_SEQ_SEQ p)) := by
  refine ⟨_, exec_managementTick hstop x, ?_⟩
  have hrclk : (s.clockedTick x).rclkStopped = s.rclkStopped :=
    State.rclkStopped_of_rd (s.clockedTick_rd x (by decide) (by decide))
  have hspan := fun p => s.clockedTick_rd x (f := SPAN.TEL_SEQ_SEQ p) (by cases p <;> decide) (by cases p <;> decide)
  have hticks := s.clockedTick_ticks x
  generalize s.clockedTick x = u at *
  have hcare := fun v => (State.TickKeeps.refl v).careTick x
  by_cases hstopped : u.rclkStopped = true
  case pos =>
    rw [if_pos hstopped]
    exact ⟨(hcare u _ (by decide)).trans hticks, fun hclk => absurd (hrclk.symm.trans hstopped) (by simp [hclk])⟩
  case neg =>
    rw [if_neg hstopped]
    obtain ⟨hline, hseq⟩ := u.lineTick_spec x
    generalize u.lineTick x = v at *
    refine ⟨((hcare v _ (by decide)).trans hline).trans hticks, fun _ p => ?_⟩
    rw [hcare v (SPAN.TEL_SEQ_SEQ p) (by cases p <;> decide), hcare v (FEC.TEL_SEQ_SEQ p) (by cases p <;> decide), ← hspan p]
    exact hseq p

end Sys2Proof.Machine
end

section
/-! Failed checks of units (O60): what a classification counts and leaves (R20, R450), and which step a failed check takes. -/

namespace Sys2Proof

/-! ### The counters of a block's faults (R450) -/

/-- The counter of an event, as a place in the counter file. -/
def Machine.Evt.place (e : Machine.Evt) : Nat := e.page * 4096 + e.off

/-- The counters that an EXHAUSTED fault of a block may move beside its own. -/
def Block.exhaustedPlaces (b : Block) : List Nat :=
  [b.page * 4096 + Machine.exhaustedOff b.page, 5 * 4096 + 0x41C] ++ (b.exhaustedEvt.map Machine.Evt.place).toList

theorem Block.ne_of_not_exhausted {b : Block} {n : Nat} (h : n ∉ b.exhaustedPlaces) :
    n ≠ b.page * 4096 + Machine.exhaustedOff b.page ∧ n ≠ 5 * 4096 + 0x41C ∧ ∀ e, b.exhaustedEvt = some e → n ≠ e.place := by
  simp only [Block.exhaustedPlaces, List.mem_append, List.mem_cons, List.not_mem_nil, or_false, Option.mem_toList,
    not_or] at h
  obtain ⟨⟨hoff, hint⟩, hevt⟩ := h
  exact ⟨hoff, hint, fun e he heq => hevt (by rw [he, Option.map_some, heq])⟩

/-- The counters that a LASTING fault of a block may move. -/
def Block.lastingPlaces (b : Block) : List Nat :=
  (b.page * 4096 + Machine.lastingOff b.page) :: ((b.lastingEvt.map Machine.Evt.place).toList ++ b.exhaustedPlaces)

theorem Block.lastingOff_not_exhausted (b : Block) :
    b.page * 4096 + Machine.lastingOff b.page ∉ (b.lastingEvt.map Machine.Evt.place).toList ++ b.exhaustedPlaces := by
  have h : ∀ b ∈ Block.every, b.page * 4096 + Machine.lastingOff b.page ∉ (b.lastingEvt.map Machine.Evt.place).toList ++ b.exhaustedPlaces := by
    decide +kernel
  exact h b b.mem_every

theorem Block.lastingEvt_page {b : Block} {e : Machine.Evt} (he : b.lastingEvt = some e) : e.page = b.page := by
  have h : ∀ b ∈ Block.every, ∀ e ∈ b.lastingEvt.toList, e.page = b.page := by decide
  exact h b b.mem_every e (by simp [he])

theorem Block.lastingEvt_place_not_exhausted {b : Block} {e : Machine.Evt} (he : b.lastingEvt = some e) :
    e.place ∉ b.exhaustedPlaces ∧ e.place ≠ b.page * 4096 + Machine.lastingOff b.page := by
  have h : ∀ b ∈ Block.every, ∀ e ∈ b.lastingEvt.toList, e.place ∉ b.exhaustedPlaces ∧ e.place ≠ b.page * 4096 + Machine.lastingOff b.page := by
    decide
  exact h b b.mem_every e (by simp [he])

end Sys2Proof

namespace Sys2Proof.Machine

open F

/-! ### What a fault's updates leave -/

/-- States that differ at most in registers, counters, latched vectors, INT_N and the units of the blocks. -/
def State.FaultFrame (s t : State) : Prop :=
  t = { s with regs := t.regs, cnt := t.cnt, msixLatch := t.msixLatch, intLow := t.intLow, spared := t.spared }

theorem State.FaultFrame.trans {s t u : State} (h : s.FaultFrame t) (k : t.FaultFrame u) : s.FaultFrame u := by
  unfold State.FaultFrame at *
  rw [k, h]

theorem State.FaultFrame.keeps {s t : State} (h : s.FaultFrame t) {β : Type} (g : State → β)
    (hg : g { s with regs := t.regs, cnt := t.cnt, msixLatch := t.msixLatch, intLow := t.intLow, spared := t.spared } = g s) :
    g t = g s := (congrArg g h).trans hg

theorem State.EventFrame.faultFrame {s t : State} (h : s.EventFrame t) : s.FaultFrame t := by
  unfold State.EventFrame at h
  unfold State.FaultFrame
  rw [h]

theorem State.setBlock_faultFrame (s : State) (b : Block) (x : Spared) : s.FaultFrame (s.setBlock b x) := rfl

theorem State.raiseOpt_eventFrame (s : State) (e : Option Evt) : s.EventFrame (s.raiseOpt e) := by
  cases e
  · exact State.EventFrame.refl s
  · exact s.raiseN_eventFrame _ 1

theorem State.lastingOnly_faultFrame (s : State) (b : Block) (u : Nat) : s.FaultFrame (s.lastingOnly b u) :=
  ((s.count_eventFrame _ _ _).faultFrame.trans (State.setBlock_faultFrame _ b _)).trans (State.raiseOpt_eventFrame _ _).faultFrame

theorem State.raiseExhausted_eventFrame (s : State) (b : Block) : s.EventFrame (s.raiseExhausted b) := by
  unfold State.raiseExhausted
  split
  · exact s.raiseN_eventFrame _ 1
  · exact (State.EventFrame.trans (s.wr_eventFrame _ _) (State.wr_eventFrame _ _ _)).trans (State.latchVec_eventFrame _ _)

theorem State.exhausted_eventFrame (s : State) (b : Block) : s.EventFrame (s.exhausted b) :=
  (s.count_eventFrame _ _ _).trans (State.raiseExhausted_eventFrame _ b)

/-- A LASTING fault ends in its counts alone, in a spare that takes the place, or in EXHAUSTED (R20). -/
theorem State.lasting_cases (P : State → Prop) {s : State} {b : Block} {u : Nat} (hrest : P (s.lastingOnly b u))
    (hspare : ∀ pl v, P ((s.lastingOnly b u).setBlock b (((s.lastingOnly b u).block b).assign pl v)))
    (hnone : P ((s.lastingOnly b u).exhausted b)) : P (s.lasting b u) := by
  unfold State.lasting
  dsimp only
  split
  · exact hrest
  · split
    · exact hspare _ _
    · exact hnone

theorem State.lasting_faultFrame (s : State) (b : Block) (u : Nat) : s.FaultFrame (s.lasting b u) :=
  have h := s.lastingOnly_faultFrame b u
  State.lasting_cases s.FaultFrame h (fun _ _ => h.trans (State.setBlock_faultFrame _ b _))
    (h.trans (State.exhausted_eventFrame _ b).faultFrame)

/-! ### Quarantine -/

theorem State.block_of_spared {s t : State} (h : t.spared = s.spared) (b : Block) : t.block b = s.block b := by
  rw [State.block, h, State.block]

theorem State.block_eventFrame {s t : State} (h : s.EventFrame t) (b : Block) : t.block b = s.block b := by
  rw [h]
  rfl

@[simp] theorem State.block_raise (s : State) (e : Evt) (b : Block) : (s.raise e).block b = s.block b :=
  State.block_of_spared (s.raise_spared e) b

theorem Spared.quarantined_contains (x : Spared) (u : Nat) : (x.quarantined u).quarantine.contains u = true :=
  contains_addSorted_same x.quarantine u

theorem State.lastingOnly_quarantines (s : State) (b : Block) (u : Nat) :
    ((s.lastingOnly b u).block b).quarantine.contains u = true := by
  unfold State.lastingOnly
  extract_lets x y
  rw [State.block_eventFrame (State.raiseOpt_eventFrame y b.lastingEvt), State.block_setBlock_same]
  exact Spared.quarantined_contains _ u

theorem State.lasting_quarantines (s : State) (b : Block) (u : Nat) : ((s.lasting b u).block b).quarantine.contains u = true := by
  have h := s.lastingOnly_quarantines b u
  refine State.lasting_cases (fun t => (t.block b).quarantine.contains u = true) h (fun pl v => ?_) ?_
  · rw [State.block_setBlock_same]
    exact h
  · rw [State.block_eventFrame (State.exhausted_eventFrame _ b)]
    exact h

/-! ### Counters -/

theorem State.raiseExhausted_counter (s : State) {b : Block} {q o : Nat} (h : q * 4096 + o ∉ b.exhaustedPlaces) :
    (s.raiseExhausted b).counter q o = s.counter q o := by
  obtain ⟨-, hint, hevt⟩ := Block.ne_of_not_exhausted h
  unfold State.raiseExhausted
  split
  case h_1 e he => exact State.raise_counter_ne s e q o (hevt e he) hint
  case h_2 => rfl

theorem State.exhausted_counter (s : State) {b : Block} {q o : Nat} (h : q * 4096 + o ∉ b.exhaustedPlaces) :
    (s.exhausted b).counter q o = s.counter q o := by
  rw [State.exhausted, State.raiseExhausted_counter _ h,
    State.counter_count_ne s _ _ _ _ _ (Ne.symm (Block.ne_of_not_exhausted h).1)]

/-- Counters that EXHAUSTED leaves count in a LASTING fault what the classification itself counts. -/
theorem State.lasting_counter_eq (s : State) {b : Block} (u : Nat) {q o : Nat} (h : q * 4096 + o ∉ b.exhaustedPlaces) :
    (s.lasting b u).counter q o = (s.lastingOnly b u).counter q o :=
  State.lasting_cases (fun t => t.counter q o = (s.lastingOnly b u).counter q o) rfl (fun _ _ => rfl)
    (State.exhausted_counter _ h)

theorem State.raiseOpt_counter (s : State) {e : Option Evt} {q o : Nat} (h : q * 4096 + o ∉ (e.map Machine.Evt.place).toList)
    (hi : q * 4096 + o ≠ 5 * 4096 + 0x41C) : (s.raiseOpt e).counter q o = s.counter q o := by
  cases e
  case none => rfl
  case some e => exact State.raise_counter_ne s e q o (by simpa [Evt.place] using h) hi

theorem State.lasting_counter (s : State) {b : Block} (u : Nat) {q o : Nat} (h : q * 4096 + o ∉ b.lastingPlaces) :
    (s.lasting b u).counter q o = s.counter q o := by
  simp only [Block.lastingPlaces, List.mem_cons, List.mem_append, not_or] at h
  obtain ⟨hoff, hevt, hexh⟩ := h
  have hint : q * 4096 + o ≠ 5 * 4096 + 0x41C := (Block.ne_of_not_exhausted hexh).2.1
  rw [State.lasting_counter_eq s u hexh, State.lastingOnly, State.raiseOpt_counter _ hevt hint]
  exact State.counter_count_ne s _ _ _ _ _ (Ne.symm hoff)

/-- Counters of a block's page count while its clock runs (R316, R440). -/
theorem State.counts_of_blockClocked {s : State} {b : Block} (h : s.blockClocked b = true) :
    (otherDie b.page && s.rclkStopped) = false := by
  have hpage : otherDie b.page = true → rclkPage b.page = true := by
    simp only [otherDie, rclkPage, decide_eq_true_eq]
    exact fun hp => .inr (.inr (.inr (.inr (.inr hp))))
  simp only [State.blockClocked, Bool.and_eq_true, Bool.not_eq_true'] at h
  cases hdie : otherDie b.page
  · rfl
  · simpa [hpage hdie] using h.1

/-- A LASTING classification counts in the page's LASTING counter (R450). -/
theorem State.lastingOnly_counts (s : State) {b : Block} (u : Nat) (hclk : (otherDie b.page && s.rclkStopped) = false) :
    (s.lastingOnly b u).counter b.page (lastingOff b.page) = (s.counter b.page (lastingOff b.page) + 1) % 2 ^ 64 := by
  have hplaces := b.lastingOff_not_exhausted
  simp only [List.mem_append, not_or] at hplaces
  obtain ⟨hevt, hexh⟩ := hplaces
  have hint : b.page * 4096 + lastingOff b.page ≠ 5 * 4096 + 0x41C := (Block.ne_of_not_exhausted hexh).2.1
  rw [State.lastingOnly, State.raiseOpt_counter _ hevt hint]
  exact State.counter_count s _ _ 1 hclk

theorem State.lasting_counts (s : State) {b : Block} (u : Nat) (hclk : (otherDie b.page && s.rclkStopped) = false) :
    (s.lasting b u).counter b.page (lastingOff b.page) = (s.counter b.page (lastingOff b.page) + 1) % 2 ^ 64 := by
  have hplaces := b.lastingOff_not_exhausted
  simp only [List.mem_append, not_or] at hplaces
  rw [State.lasting_counter_eq s u hplaces.2]
  exact s.lastingOnly_counts u hclk

/-- A LASTING classification is an event of its page, where the page defines one (R450). -/
theorem State.lasting_counted (s : State) {b : Block} (u : Nat) {e : Evt} (he : b.lastingEvt = some e)
    (hclk : (otherDie b.page && s.rclkStopped) = false) : Counted e s (s.lasting b u) := by
  obtain ⟨hexh, hoff⟩ := Block.lastingEvt_place_not_exhausted he
  have hint : e.page * 4096 + e.off ≠ 5 * 4096 + 0x41C := (Block.ne_of_not_exhausted hexh).2.1
  have hrclk : (s.count b.page (lastingOff b.page) 1).rclkStopped = s.rclkStopped := State.rclkStopped_of_rd (s.rd_count _ _ _ _)
  have hcount : (s.count b.page (lastingOff b.page) 1).counter e.page e.off = s.counter e.page e.off :=
    State.counter_count_ne s _ _ _ _ _ (Ne.symm hoff)
  rw [Counted, State.lasting_counter_eq s u hexh, State.lastingOnly, he, ← hcount]
  exact State.raise_counts (State.setBlock _ b _) e (by rw [Block.lastingEvt_page he, ← hclk, ← hrclk]; rfl) hint

/-! ### Register fields -/

/-- The non-maskable causes are no quiet fields. -/
theorem KeepsFieldsBut.nmiCauses {l : List Field} {s t : State} (h : KeepsFieldsBut l s t) (page : Nat) :
    KeepsFieldsBut l s ((t.wr MG_CTL.NMI_CAUSE_EXHAUSTED 1).wr MG_CTL.NMI_PAGE_PAGE page) := by
  intro f hq hl
  obtain ⟨hrd, hrdA⟩ := h f hq hl
  simp only [Field.quiet, Bool.and_eq_true, decide_eq_true_eq] at hq
  obtain ⟨⟨⟨-, hcause⟩, -⟩, hpage⟩ := hq
  exact ⟨((State.rd_wr_ne _ _ (Ne.symm hpage)).trans (State.rd_wr_ne _ _ (Ne.symm hcause))).trans hrd, hrdA⟩

theorem KeepsFieldsBut.count {l : List Field} {s t : State} (h : KeepsFieldsBut l s t) (page off n : Nat) :
    KeepsFieldsBut l s (t.count page off n) := by
  unfold State.count
  split
  · exact h
  · exact h.same rfl rfl

theorem KeepsFieldsBut.setBlock {l : List Field} {s t : State} (h : KeepsFieldsBut l s t) (b : Block) (x : Spared) :
    KeepsFieldsBut l s (t.setBlock b x) := h.same rfl rfl

theorem KeepsFieldsBut.lastingOnly {l : List Field} {s t : State} (h : KeepsFieldsBut l s t) (b : Block) (u : Nat) :
    KeepsFieldsBut l s (t.lastingOnly b u) := by
  have hunit := fun x => (h.count b.page (lastingOff b.page) 1).setBlock b x
  unfold State.lastingOnly State.raiseOpt
  split
  · exact (hunit _).raise _
  · exact hunit _

theorem KeepsFieldsBut.exhausted {l : List Field} {s t : State} (h : KeepsFieldsBut l s t) (b : Block) :
    KeepsFieldsBut l s (t.exhausted b) := by
  have hcount := h.count b.page (exhaustedOff b.page) 1
  unfold State.exhausted State.raiseExhausted
  split
  · exact hcount.raise _
  · exact (hcount.nmiCauses b.page).same rfl rfl

theorem KeepsFieldsBut.lasting {l : List Field} {s t : State} (h : KeepsFieldsBut l s t) (b : Block) (u : Nat) :
    KeepsFieldsBut l s (t.lasting b u) :=
  State.lasting_cases (KeepsFieldsBut l s) (h.lastingOnly b u) (fun _ _ => (h.lastingOnly b u).same rfl rfl)
    ((h.lastingOnly b u).exhausted b)

/-! ### A failure that waits to be classed (R23, R102) -/

theorem State.deferOrLast_of_deferred {s : State} {b : Block} {u : Nat} (h : s.deferred b u = true) :
    s.deferOrLast b u = (s.undefer b u).lasting b u := if_pos h

theorem State.deferOrLast_of_first {s : State} {b : Block} {u : Nat} (h : s.deferred b u = false)
    (hq : (s.block b).quarantine.contains u = false) : s.deferOrLast b u = s.deferClass b u := by
  rw [State.deferOrLast, if_neg (Bool.eq_false_iff.1 h), if_neg (Bool.eq_false_iff.1 hq)]

theorem State.deferClass_deferred (s : State) (b : Block) (u : Nat) : (s.deferClass b u).deferred b u = true := by
  rw [State.deferred, State.deferClass, State.block_setBlock_same]
  exact contains_addSorted_same _ u

theorem State.toTest_testing (s : State) (b : Block) (u : Nat) : ((s.toTest b u).block b).testing.contains u = true := by
  rw [State.toTest, State.block_setBlock_same]
  exact contains_addSorted_same _ u

theorem State.deferOrLast_cases (P : State → Prop) {s : State} {b : Block} {u : Nat} (hlast : P ((s.undefer b u).lasting b u))
    (hsame : P s) (hdefer : P (s.deferClass b u)) : P (s.deferOrLast b u) := by
  unfold State.deferOrLast
  split
  · exact hlast
  · split
    · exact hsame
    · exact hdefer

theorem State.deferOrLast_faultFrame (s : State) (b : Block) (u : Nat) : s.FaultFrame (s.deferOrLast b u) :=
  State.deferOrLast_cases s.FaultFrame ((State.setBlock_faultFrame s b _).trans (State.lasting_faultFrame _ b u)) rfl
    (State.setBlock_faultFrame s b _)

theorem KeepsFieldsBut.deferOrLast {l : List Field} {s t : State} (h : KeepsFieldsBut l s t) (b : Block) (u : Nat) :
    KeepsFieldsBut l s (t.deferOrLast b u) :=
  State.deferOrLast_cases (KeepsFieldsBut l s) ((h.same (u := t.undefer b u) rfl rfl).lasting b u) h (h.same rfl rfl)

theorem State.deferOrLast_counter (s : State) {b : Block} (u : Nat) {q o : Nat} (h : q * 4096 + o ∉ b.lastingPlaces) :
    (s.deferOrLast b u).counter q o = s.counter q o :=
  State.deferOrLast_cases (fun t => t.counter q o = s.counter q o) (State.lasting_counter (s.undefer b u) u h) rfl rfl

/-! ### A failed check (R19) -/

theorem completes_unitCheckFail {b : Block} {u : Nat} {i : CheckInfo} {s : State} {P : State → Prop}
    (hclk : s.blockClocked b = true) (hworks : s.works b u = true) (hP : P (s.checkFail b u i)) :
    Completes (.unitCheckFail b u i) s P :=
  ⟨_, by rw [exec, execUnitCheckFail, hclk, hworks]; rfl, hP⟩

theorem completes_unitCheckFail_idle {b : Block} {u : Nat} {i : CheckInfo} {s : State}
    (h : s.blockClocked b = false ∨ s.works b u = false) : Completes (.unitCheckFail b u i) s fun t => t = s := by
  refine ⟨s, ?_, rfl⟩
  rw [exec, execUnitCheckFail, if_neg]
  rcases h with h | h <;> simp [h]

/-- Whether a page beyond RCLK counts is whether RCLK runs. -/
theorem State.clocked_of_blockClocked {s : State} {b : Block} (h : s.blockClocked b = true) (hpage : otherDie b.page = true) :
    s.Clocked := by
  simpa [hpage] using State.counts_of_blockClocked h

/-- An event after updates that leave its counter and RCLK. -/
theorem State.counted_raise {s t : State} {e : Evt} (hclk : s.Clocked) (hkeep : KeepsFieldsBut [] s t)
    (hcount : t.counter e.page e.off = s.counter e.page e.off) (hint : e.page * 4096 + e.off ≠ 5 * 4096 + 0x41C) :
    Counted e s (t.raise e) := by
  have hrclk := (hkeep CK_SYN.SYN_STATUS_RCLK_OK (by decide) (by simp)).1
  rw [Counted, ← hcount]
  exact State.raise_counted ((State.rclkStopped_of_rd hrclk).trans hclk) hint

end Sys2Proof.Machine
end

section
/-! Failed checks by block (O60): cipher pipelines, demapper lanes, decoders, matchers and BCH decoders (R23, R116, R147 to R153,
R295 to R297). -/

namespace Sys2Proof.Machine

open F

/-! ### Cipher pipelines (R295, R296) -/

/-- A failed check of a direction, noted, with the word that its work spoils. -/
def State.aesHit (s : State) (d : Fin 2) (i : CheckInfo) : State := (s.aesNote d i.cycle).aesSpoil d i

theorem State.aesFail_onSpare {s : State} {d : Fin 2} {u : Nat} {i : CheckInfo} (h : i.onSpare = true) :
    s.aesFail d u i = ((s.aesHit d i).toTest (.aes d) u).raise (Ev.CY_PIPE.doubleFault d.val) := if_pos h

theorem State.aesFail_near {s : State} {d : Fin 2} {u : Nat} {i : CheckInfo} (h : i.onSpare = false)
    (hnear : s.aesNear d i.cycle = true) :
    s.aesFail d u i = ((s.aesHit d i).deferOrLast (.aes d) u).raise (Ev.CY_PIPE.doubleFault d.val) :=
  (if_neg (Bool.eq_false_iff.1 h)).trans (if_pos hnear)

theorem State.aesFail_noSpare {s : State} {d : Fin 2} {u : Nat} {i : CheckInfo} (h : i.onSpare = false)
    (hnear : s.aesNear d i.cycle = false) (hredo : (s.block (.aes d)).canRedo (.aes d) = false) :
    s.aesFail d u i = (s.aesHit d i).deferOrLast (.aes d) u :=
  (if_neg (Bool.eq_false_iff.1 h)).trans ((if_neg (Bool.eq_false_iff.1 hnear)).trans (if_pos (by rw [hredo]; rfl)))

theorem State.aesFail_redone {s : State} {d : Fin 2} {u : Nat} {i : CheckInfo} (h : i.onSpare = false)
    (hnear : s.aesNear d i.cycle = false) (hredo : (s.block (.aes d)).canRedo (.aes d) = true)
    (hfirst : (s.block (.aes d)).unclassified.contains u = false) :
    s.aesFail d u i = (s.aesNote d i.cycle).raise (Ev.CY_PIPE.redo d.val) :=
  (if_neg (Bool.eq_false_iff.1 h)).trans ((if_neg (Bool.eq_false_iff.1 hnear)).trans
    ((if_neg (by rw [hredo]; decide)).trans (if_neg (Bool.eq_false_iff.1 hfirst))))

/-- The events of the two directions: their counters are no counters of a LASTING fault, nor INT_N's. -/
theorem doubleFault_place (d : Fin 2) : (Ev.CY_PIPE.doubleFault d.val).page * 4096 + (Ev.CY_PIPE.doubleFault d.val).off ∉
    (Block.aes d).lastingPlaces ∧
    (Ev.CY_PIPE.doubleFault d.val).page * 4096 + (Ev.CY_PIPE.doubleFault d.val).off ≠ 5 * 4096 + 0x41C := by
  revert d; decide

theorem redo_place (d : Fin 2) : (Ev.CY_PIPE.redo d.val).page * 4096 + (Ev.CY_PIPE.redo d.val).off ≠ 5 * 4096 + 0x41C := by
  revert d; decide

/-- What every failed check of a pipeline keeps before anything is counted. -/
theorem State.aesHit_keeps (s : State) (d : Fin 2) (i : CheckInfo) : KeepsFieldsBut [] s (s.aesHit d i) :=
  (KeepsFieldsBut.refl [] s).same rfl rfl

/-! ### Lanes of P1 and P2 (R116) -/

theorem State.laneFail_second {s : State} {b : Block} {p : Port} {redo : Evt} {u lane : Nat} {i : CheckInfo}
    (h : i.onSpare = false) (hplace : (s.block b).placeOf b u = some lane) (hwin : s.inWindow b i.cycle = true) :
    s.laneFail b p redo u i = ((s.zeroLane p lane).raise (Ev.RXEQ.doubleFault p)).deferOrLast b u := by
  rw [State.laneFail, if_neg (Bool.eq_false_iff.1 h), hplace]
  exact if_pos hwin

/-! ### Decoders (R147 to R149) -/

theorem State.decoderFail_second {s : State} {p : Port} {u : Nat} {i : CheckInfo} {c : Codeword}
    (hfind : ((s.fec.get p).store.find? fun c => c.num == i.num && c.decoder == u) = some c)
    (h : c.redo = true ∨ s.inWindow (.decoder p) i.cycle = true) :
    s.decoderFail p u i = if c.redo then ((s.undecode p i.num true).raise (Ev.FEC.doubleFault p)).toTest (.decoder p) u
      else ((s.undecode p i.num true).raise (Ev.FEC.doubleFault p)).deferOrLast (.decoder p) u := by
  rw [State.decoderFail, hfind]
  dsimp only
  split
  case isTrue => rfl
  case isFalse hredo => exact if_pos (h.resolve_left hredo)

theorem State.decoderFail_redone {s : State} {p : Port} {u v : Nat} {i : CheckInfo} {c : Codeword}
    (hfind : ((s.fec.get p).store.find? fun c => c.num == i.num && c.decoder == u) = some c) (hredo : c.redo = false)
    (hwin : s.inWindow (.decoder p) i.cycle = false) (hspare : s.freeSpare p = some v) :
    s.decoderFail p u i = (s.openWindow (.decoder p) i.cycle).decoderRedo p u v i.num := by
  have hspare' : (s.openWindow (.decoder p) i.cycle).freeSpare p = some v := hspare
  rw [State.decoderFail, hfind]
  dsimp only
  rw [if_neg (Bool.eq_false_iff.1 hredo), if_neg (Bool.eq_false_iff.1 hwin), hspare']

theorem State.decoderFail_none {s : State} {p : Port} {u : Nat} {i : CheckInfo}
    (hfind : ((s.fec.get p).store.find? fun c => c.num == i.num && c.decoder == u) = none) : s.decoderFail p u i = s := by
  rw [State.decoderFail, hfind]

/-- A codeword that leaves with its input hard decisions. -/
theorem State.undecode_store (s : State) (p : Port) (n : Nat) :
    ∀ w ∈ ((s.undecode p n true).fec.get p).store, w.num = n → w.status = .undecoded ∧ w.double = true := by
  have hstore : ((s.undecode p n true).fec.get p).store = (s.fec.get p).store.map fun c =>
      if c.num = n then { c with status := .undecoded, double := c.double || true } else c := by
    rw [State.undecode, State.onCodeword, State.onFec, Pair.get_upd_same]
  intro w hw hnum
  rw [hstore, List.mem_map] at hw
  obtain ⟨c, -, rfl⟩ := hw
  by_cases hc : c.num = n
  · rw [if_pos hc]
    exact ⟨rfl, Bool.or_true _⟩
  · rw [if_neg hc] at hnum
    exact absurd hnum hc

/-! ### Matchers and BCH decoders (R153) -/

theorem State.outerFail_noSpare {s : State} {b : Block} {p : Port} {redo : Evt} {u : Nat} {i : CheckInfo}
    (h : i.onSpare = false) (hwin : s.inWindow b i.cycle = false) (hredo : (s.block b).canRedo b = false) :
    s.outerFail b p redo u i = ((s.openWindow b i.cycle).outerLost b p).deferOrLast b u := by
  rw [State.outerFail, if_neg (Bool.eq_false_iff.1 h), if_neg (Bool.eq_false_iff.1 hwin)]
  exact if_pos (by rw [hredo]; rfl)

theorem State.openWindow_inWindow (s : State) {b : Block} (n : Nat) (h : b.region.isSome = true) :
    (s.openWindow b n).inWindow b n = true := by
  obtain ⟨r, hr⟩ := Option.isSome_iff_exists.1 h
  simp [State.inWindow, State.openWindow, hr]

theorem State.openWindow_frame (s : State) (b : Block) (n : Nat) :
    s.openWindow b n = { s with window := (s.openWindow b n).window } := by
  unfold State.openWindow
  split <;> rfl

end Sys2Proof.Machine
end

section
/-! The moult of a core, classifying attempts and self-tests (O60; R20, R25, R369). -/

namespace Sys2Proof.Machine

open F

/-! ### The end of a mailbox command (R370) -/

/-- The fields in which a mailbox answers, the response words apart. -/
def mbxFields (x : Nat) : List Field :=
  [MG_MBX.MBX_RSP_RSP_WORDS x, MG_MBX.MBX_STATUS_STATUS x, MG_MBX.MBX_DETAIL_DETAIL x, MG_MBX.MBX_STATUS_TAG x,
    MG_MBX.MBX_STATUS_BUSY x, MG_MBX.MBX_STATUS_DONE x, MG_MBX.MBX_PROGRESS_PERCENT x]

/-- The events of a mailbox, with INT_N. -/
def mbxPlaces (x : Nat) : List Nat :=
  [(Ev.MG_MBX.done x).place, (Ev.MG_MBX.failed x).place, (Ev.MG_MBX.abortedMoult x).place, (Ev.MG_MBX.aborted x).place,
    5 * 4096 + 0x41C]

theorem KeepsFieldsBut.raiseIf {l : List Field} {s t : State} (h : KeepsFieldsBut l s t) (b : Bool) (e : Evt) :
    KeepsFieldsBut l s (t.raiseIf b e) := by
  cases b
  · exact h
  · exact h.raise e

theorem State.raiseIf_counter_ne (s : State) (b : Bool) (e : Evt) {q o : Nat} (h : q * 4096 + o ≠ e.place)
    (hi : q * 4096 + o ≠ 5 * 4096 + 0x41C) : (s.raiseIf b e).counter q o = s.counter q o := by
  cases b
  · rfl
  · exact State.raise_counter_ne s e q o h hi

/-- A command that ends without response words. -/
theorem KeepsFieldsBut.mbxFinish {l : List Field} {s t : State} (h : KeepsFieldsBut l s t) {x : Nat}
    (hl : ∀ g ∈ mbxFields x, g ∈ l) (status detail : Nat) : KeepsFieldsBut l s (t.mbxFinish x status detail []) := by
  simp only [mbxFields, List.forall_mem_cons] at hl
  obtain ⟨hwords, hstatus, hdetail, htag, hbusy, hdone, hpercent, -⟩ := hl
  unfold State.mbxFinish
  split
  case h_1 => exact h
  case h_2 c _ =>
    have hend := ((((((h.same (u := { t with mbx := Tab.erase t.mbx x }) rfl rfl).wr hwords 0).wr hstatus status).wr hdetail detail).wr
      htag c.tag).wr hbusy 0).wr hdone 1
    exact ((((hend.cond fun _ => hend.wr hpercent 100).raise _).raiseIf _ _).raiseIf _ _).raiseIf _ _

theorem State.mbxFinish_counter (s : State) {x : Nat} (status detail : Nat) {q o : Nat} (h : q * 4096 + o ∉ mbxPlaces x) :
    (s.mbxFinish x status detail []).counter q o = s.counter q o := by
  simp only [mbxPlaces, List.mem_cons, List.not_mem_nil, or_false, not_or] at h
  obtain ⟨hdone, hfailed, hmoult, haborted, hint⟩ := h
  unfold State.mbxFinish
  split
  case h_1 => rfl
  case h_2 c _ =>
    rw [State.raiseIf_counter_ne _ _ _ haborted hint, State.raiseIf_counter_ne _ _ _ hmoult hint,
      State.raiseIf_counter_ne _ _ _ hfailed hint, State.raise_counter_ne _ _ _ _ hdone hint]
    refine State.cond_cases (fun t => t.counter q o = s.counter q o) ?_ ?_
    · simp only [State.counter_wr]
      rfl
    · simp only [State.counter_wr]
      rfl

/-! ### The emergency moult (R369) -/

/-- The STANDBY core runs in place of the ACTIVE one. -/
def State.moultSwitch (s : State) (a : Nat) : State :=
  (((s.setCoreSt a 0).runCore (1 - a)).wr MG_CTL.CORE_STATUS_MOULT_BUSY 0).onCore fun c =>
    { c with selfTest := some a, reload := false, moult := none }

theorem State.emergencyMoult_standby {s : State} (h : s.coreSt s.activeCore = 1) (hstandby : s.coreSt (1 - s.activeCore) = 2) :
    s.emergencyMoult = (((s.moultSwitch s.activeCore).raise Ev.MG_CTL.emergency).mbxFinish 0 9 0 []).mbxFinish 1 9 0 [] := by
  unfold State.emergencyMoult
  dsimp only
  rw [if_neg (not_not_intro h), if_pos hstandby]
  rfl

theorem State.runCore_rd (s : State) (c : Nat) {f : Field} (hslot : MG_CTL.CORE_STATUS_RUN_SLOT.key ≠ f.key)
    (hversion : MG_CTL.FW_VERSION_VERSION.key ≠ f.key) (hsvn : MG_CTL.FW_SVN_SVN.key ≠ f.key) :
    (s.runCore c).rd f = ((s.wr MG_CTL.CORE_STATUS_ACTIVE c).setCoreSt c 1).rd f := by
  unfold State.runCore
  dsimp only
  split
  · rw [State.rd_wr_ne _ _ hsvn, State.rd_wr_ne _ _ hversion, State.rd_wr_ne _ _ hslot]
  · rw [State.rd_wr_ne _ _ hslot]

theorem State.runCore_counter (s : State) (c q o : Nat) : (s.runCore c).counter q o = s.counter q o := by
  unfold State.runCore State.setCoreSt
  dsimp only
  split
  · simp only [State.counter_wr]
  · simp only [State.counter_wr]

theorem State.moultSwitch_counter (s : State) (a q o : Nat) : (s.moultSwitch a).counter q o = s.counter q o :=
  (State.runCore_counter (s.setCoreSt a 0) (1 - a) q o).trans rfl

theorem State.moultSwitch_rd (s : State) (a : Nat) {f : Field} (hslot : MG_CTL.CORE_STATUS_RUN_SLOT.key ≠ f.key)
    (hversion : MG_CTL.FW_VERSION_VERSION.key ≠ f.key) (hsvn : MG_CTL.FW_SVN_SVN.key ≠ f.key)
    (hbusy : MG_CTL.CORE_STATUS_MOULT_BUSY.key ≠ f.key) :
    (s.moultSwitch a).rd f = (((s.setCoreSt a 0).wr MG_CTL.CORE_STATUS_ACTIVE (1 - a)).setCoreSt (1 - a) 1).rd f :=
  (State.rd_wr_ne _ 0 hbusy).trans (State.runCore_rd (s.setCoreSt a 0) (1 - a) hslot hversion hsvn)

/-- The cores' states after the switch. -/
theorem State.moultSwitch_cores (s : State) {a : Nat} (ha : a < 2) : (s.moultSwitch a).activeCore = 1 - a ∧
    (s.moultSwitch a).coreSt a = 0 ∧ (s.moultSwitch a).coreSt (1 - a) = 1 := by
  have hrd : ∀ f ∈ [MG_CTL.CORE_STATUS_ACTIVE, MG_CTL.CORE_STATUS_CORE0, MG_CTL.CORE_STATUS_CORE1],
      (s.moultSwitch a).rd f = (((s.setCoreSt a 0).wr MG_CTL.CORE_STATUS_ACTIVE (1 - a)).setCoreSt (1 - a) 1).rd f := by
    have hoff : ∀ f ∈ [MG_CTL.CORE_STATUS_ACTIVE, MG_CTL.CORE_STATUS_CORE0, MG_CTL.CORE_STATUS_CORE1],
        ∀ g ∈ [MG_CTL.CORE_STATUS_RUN_SLOT, MG_CTL.FW_VERSION_VERSION, MG_CTL.FW_SVN_SVN, MG_CTL.CORE_STATUS_MOULT_BUSY],
        g.key ≠ f.key := by decide
    exact fun f hf => s.moultSwitch_rd a (hoff f hf _ (by simp)) (hoff f hf _ (by simp)) (hoff f hf _ (by simp))
      (hoff f hf _ (by simp))
  obtain rfl | rfl : a = 0 ∨ a = 1 := by omega
  · refine ⟨(hrd _ (by simp)).trans ?_, (hrd _ (by simp)).trans ?_, (hrd _ (by simp)).trans ?_⟩
    · exact (State.rd_wr_ne _ _ (by decide)).trans (State.rd_wr_same _ _ _)
    · exact ((State.rd_wr_ne _ _ (by decide)).trans (State.rd_wr_ne _ _ (by decide))).trans (State.rd_wr_same _ _ _)
    · exact State.rd_wr_same _ _ _
  · refine ⟨(hrd _ (by simp)).trans ?_, (hrd _ (by simp)).trans ?_, (hrd _ (by simp)).trans ?_⟩
    · exact (State.rd_wr_ne _ _ (by decide)).trans (State.rd_wr_same _ _ _)
    · exact ((State.rd_wr_ne _ _ (by decide)).trans (State.rd_wr_ne _ _ (by decide))).trans (State.rd_wr_same _ _ _)
    · exact State.rd_wr_same _ _ _

/-- The end of an emergency moult: its event, and both mailboxes' commands (R369). -/
def State.moultEnds (s : State) : State := ((s.raise Ev.MG_CTL.emergency).mbxFinish 0 9 0 []).mbxFinish 1 9 0 []

theorem State.moultEnds_keeps (s : State) : KeepsFieldsBut (mbxFields 0 ++ mbxFields 1) s s.moultEnds :=
  (((KeepsFieldsBut.refl _ s).raise _).mbxFinish (fun _ hg => List.mem_append_left _ hg) 9 0).mbxFinish
    (fun _ hg => List.mem_append_right _ hg) 9 0

theorem State.moultEnds_counter (s : State) {q o : Nat} (h : q * 4096 + o ∉ mbxPlaces 0 ++ mbxPlaces 1) :
    s.moultEnds.counter q o = (s.raise Ev.MG_CTL.emergency).counter q o := by
  simp only [List.mem_append, not_or] at h
  exact (State.mbxFinish_counter _ 9 0 h.2).trans (State.mbxFinish_counter _ 9 0 h.1)

theorem State.moultEnds_cores (s : State) : s.moultEnds.activeCore = s.activeCore ∧ ∀ c, s.moultEnds.coreSt c = s.coreSt c := by
  have hrd : ∀ f ∈ [MG_CTL.CORE_STATUS_ACTIVE, MG_CTL.CORE_STATUS_CORE0, MG_CTL.CORE_STATUS_CORE1], s.moultEnds.rd f = s.rd f := by
    have hoff : ∀ f ∈ [MG_CTL.CORE_STATUS_ACTIVE, MG_CTL.CORE_STATUS_CORE0, MG_CTL.CORE_STATUS_CORE1],
        f.quiet = true ∧ ∀ g ∈ mbxFields 0 ++ mbxFields 1, f.key ≠ g.key := by decide
    exact fun f hf => (s.moultEnds_keeps f (hoff f hf).1 (hoff f hf).2).1
  refine ⟨hrd _ (by simp), fun c => ?_⟩
  unfold State.coreSt
  split
  · exact hrd _ (by simp)
  · exact hrd _ (by simp)

theorem State.raise_cores (s : State) (e : Evt) : (s.raise e).activeCore = s.activeCore ∧ ∀ c, (s.raise e).coreSt c = s.coreSt c := by
  refine ⟨s.raise_rd e _ (by decide), fun c => ?_⟩
  unfold State.coreSt
  split
  · exact s.raise_rd e _ (by decide)
  · exact s.raise_rd e _ (by decide)

/-- A failed fetch of the ACTIVE core beside a STANDBY one ends in a moult (R369). -/
theorem State.coreFail_eq {s : State} {u : Nat} {i : CheckInfo} (hu : u = s.activeCore) (hrun : s.coreSt u = 1)
    (hstandby : s.coreSt (1 - u) = 2) : s.checkFail .core u i = ((s.raise Ev.MG_CTL.ueFetch).moultSwitch u).moultEnds := by
  obtain ⟨hactive, hcores⟩ := s.raise_cores Ev.MG_CTL.ueFetch
  rw [← hu] at hactive
  have hmoult := State.emergencyMoult_standby (s := s.raise Ev.MG_CTL.ueFetch) (by rw [hactive, hcores, hrun])
    (by rw [hactive, hcores, hstandby])
  rw [hactive] at hmoult
  exact (if_pos hu).trans hmoult

theorem State.coreFail_cores {s : State} {u : Nat} {i : CheckInfo} (hu : u = s.activeCore) (hrun : s.coreSt u = 1)
    (hstandby : s.coreSt (1 - u) = 2) : (s.checkFail .core u i).activeCore = 1 - u ∧ (s.checkFail .core u i).coreSt u = 0 ∧
      (s.checkFail .core u i).coreSt (1 - u) = 1 := by
  rw [State.coreFail_eq hu hrun hstandby]
  obtain ⟨hactive, hcores⟩ := State.moultEnds_cores ((s.raise Ev.MG_CTL.ueFetch).moultSwitch u)
  rw [hactive, hcores, hcores]
  exact State.moultSwitch_cores _ (hu ▸ s.rd_lt MG_CTL.CORE_STATUS_ACTIVE)

theorem State.coreFail_counted {s : State} {u : Nat} {i : CheckInfo} (hu : u = s.activeCore) (hrun : s.coreSt u = 1)
    (hstandby : s.coreSt (1 - u) = 2) : Counted Ev.MG_CTL.emergency s (s.checkFail .core u i) ∧
      Counted Ev.MG_CTL.ueFetch s (s.checkFail .core u i) := by
  rw [State.coreFail_eq hu hrun hstandby]
  constructor
  · rw [Counted, State.moultEnds_counter _ (by decide), State.raise_counts _ _ rfl (by decide), State.moultSwitch_counter,
      State.raise_counter_ne _ _ _ _ (by decide) (by decide)]
  · rw [Counted, State.moultEnds_counter _ (by decide), State.raise_counter_ne _ _ _ _ (by decide) (by decide),
      State.moultSwitch_counter, State.raise_counts _ _ rfl (by decide)]

/-! ### Classifying attempts (R20) -/

/-- The blocks whose second attempt classifies and does nothing else. -/
def PlainlyClassed (b : Block) : Prop := ∃ p, b = .coefEngine p ∨ b = .p1Lane p ∨ b = .p2Lane p ∨ b = .matcher p ∨ b = .bchDecoder p

theorem completes_classifyingAttemptDone {b : Block} {u : Nat} {pass : Bool} {i : CheckInfo} {s : State} {P : State → Prop}
    (hclk : s.blockClocked b = true) (hu : u < b.units) (hq : (s.block b).quarantine.contains u = false) (hb : PlainlyClassed b)
    (hP : P ((s.undefer b u).classify b u pass)) : Completes (.classifyingAttemptDone b u pass i) s P := by
  refine ⟨_, ?_, hP⟩
  rw [exec, execClassifyingAttemptDone, hclk, hq, decide_eq_true hu, if_pos (by simp)]
  obtain ⟨p, rfl | rfl | rfl | rfl | rfl⟩ := hb <;> rfl

theorem State.undefer_deferred (s : State) (b : Block) (u : Nat) : (s.undefer b u).deferred b u = false := by
  rw [State.deferred, State.undefer, State.block_setBlock_same]
  simp

theorem State.undefer_quarantine (s : State) (b : Block) (u : Nat) :
    ((s.undefer b u).block b).quarantine = (s.block b).quarantine := by
  rw [State.undefer, State.block_setBlock_same]

theorem State.transient_eventFrame (s : State) (b : Block) : s.EventFrame (s.transient b) := s.count_eventFrame _ _ _

theorem State.transient_regs (s : State) (b : Block) : (s.transient b).regs = s.regs := by
  unfold State.transient State.count
  split <;> rfl

/-! ### Self-tests of spares (R25) -/

theorem exec_spareSelfTestDone {b : Block} {u : Nat} {pass : Bool} {s : State} (hclk : s.blockClocked b = true)
    (hconv : isConv b = false) (hu : u < b.units) (hq : (s.block b).quarantine.contains u = false)
    (hplace : (s.block b).placeOf b u = none) :
    exec (.spareSelfTestDone b u pass) s = .next (if pass then s.testPassed b u else s.spareFails b u) := by
  have htest : s.spareTest b u pass = if pass then s.testPassed b u else s.spareFails b u := by
    rw [State.spareTest, if_pos ⟨hu, Bool.eq_false_iff.1 hq⟩, hplace]
  rw [← htest]
  cases b
  case txConv | rxConv => simp [isConv] at hconv
  all_goals exact congrArg Host.Outcome.next (if_pos hclk)

theorem State.testPassed_mayEclose (s : State) (b : Block) (u : Nat) : ((s.testPassed b u).block b).mayEclose u = true := by
  rw [State.testPassed, State.block_setBlock_same, Spared.mayEclose, contains_addSorted_same]
  simp

/-- What a failed self-test shows beside its classification leaves units and counters. -/
theorem State.spareFails_spared (s : State) (b : Block) (u : Nat) : (s.spareFails b u).spared = (s.lastingOnly b u).spared ∧
    (s.spareFails b u).cnt = (s.lastingOnly b u).cnt := by
  unfold State.spareFails
  generalize s.lastingOnly b u = t
  cases b
  case txCluster p | eqCluster p => dsimp only; split <;> exact ⟨rfl, rfl⟩
  all_goals exact ⟨rfl, rfl⟩

end Sys2Proof.Machine
end

section
/-! Obligation O60: failed checks, classifying attempts, self-tests and the management tick. -/

namespace Sys2Proof.Machine

open F

/-! ### The clauses on cipher pipelines (R24, R295, R296) -/

theorem lasting_place_ne_doubleFault (d : Fin 2) : Ev.CY_PIPE.lasting.page * 4096 + Ev.CY_PIPE.lasting.off ≠
    (Ev.CY_PIPE.doubleFault d.val).page * 4096 + (Ev.CY_PIPE.doubleFault d.val).off := by
  revert d; decide

section
variable {d : Fin 2} {u : Nat} {i : CheckInfo} {s : State}

theorem State.aesFail_redone_spec (hclk : s.blockClocked (.aes d) = true) (h : i.onSpare = false)
    (hnear : s.aesNear d i.cycle = false) (hredo : (s.block (.aes d)).canRedo (.aes d) = true)
    (hfirst : (s.block (.aes d)).unclassified.contains u = false) :
    Counted (Ev.CY_PIPE.redo d.val) s (s.aesFail d u i) ∧ (s.aesFail d u i).aesBad = s.aesBad ∧
      (s.aesFail d u i).block (.aes d) = s.block (.aes d) ∧ KeepsFieldsBut [] s (s.aesFail d u i) := by
  have hkeep : KeepsFieldsBut [] s (s.aesNote d i.cycle) := (KeepsFieldsBut.refl [] s).same rfl rfl
  rw [State.aesFail_redone h hnear hredo hfirst, State.raise_aesBad, State.block_raise]
  exact ⟨State.counted_raise (State.clocked_of_blockClocked hclk rfl) hkeep rfl (redo_place d), rfl, rfl, hkeep.raise _⟩

theorem State.aesFail_onSpare_spec (hclk : s.blockClocked (.aes d) = true) (h : i.onSpare = true) :
    Counted (Ev.CY_PIPE.doubleFault d.val) s (s.aesFail d u i) ∧
      (s.aesFail d u i).aesBad = s.aesBad ++ [(decide (d = 1), i.num / 192, i.num % 192, i.stage)] ∧
      ((s.aesFail d u i).block (.aes d)).testing.contains u = true ∧ KeepsFieldsBut [] s (s.aesFail d u i) := by
  have hkeep : KeepsFieldsBut [] s ((s.aesHit d i).toTest (.aes d) u) := (s.aesHit_keeps d i).setBlock _ _
  rw [State.aesFail_onSpare h, State.raise_aesBad, State.block_raise]
  exact ⟨State.counted_raise (State.clocked_of_blockClocked hclk rfl) hkeep rfl (doubleFault_place d).2, rfl,
    State.toTest_testing _ _ u, hkeep.raise _⟩

theorem State.aesFail_near_spec (hclk : s.blockClocked (.aes d) = true) (h : i.onSpare = false)
    (hnear : s.aesNear d i.cycle = true) (hdefer : s.deferred (.aes d) u = false)
    (hq : (s.block (.aes d)).quarantine.contains u = false) :
    Counted (Ev.CY_PIPE.doubleFault d.val) s (s.aesFail d u i) ∧
      (s.aesFail d u i).aesBad = s.aesBad ++ [(decide (d = 1), i.num / 192, i.num % 192, i.stage)] ∧
      (s.aesFail d u i).deferred (.aes d) u = true ∧ KeepsFieldsBut [] s (s.aesFail d u i) := by
  have hkeep : KeepsFieldsBut [] s ((s.aesHit d i).deferClass (.aes d) u) := (s.aesHit_keeps d i).setBlock _ _
  have heq : (s.aesHit d i).deferOrLast (.aes d) u = (s.aesHit d i).deferClass (.aes d) u :=
    State.deferOrLast_of_first (s := s.aesHit d i) hdefer hq
  rw [State.aesFail_near h hnear, heq, State.raise_aesBad, State.deferred, State.block_raise]
  exact ⟨State.counted_raise (State.clocked_of_blockClocked hclk rfl) hkeep rfl (doubleFault_place d).2, rfl,
    State.deferClass_deferred _ _ u, hkeep.raise _⟩

theorem State.aesFail_lasting_spec (hclk : s.blockClocked (.aes d) = true) (h : i.onSpare = false)
    (hnear : s.aesNear d i.cycle = true) (hdefer : s.deferred (.aes d) u = true) :
    Counted (Ev.CY_PIPE.doubleFault d.val) s (s.aesFail d u i) ∧
      (s.aesFail d u i).aesBad = s.aesBad ++ [(decide (d = 1), i.num / 192, i.num % 192, i.stage)] ∧
      ((s.aesFail d u i).block (.aes d)).quarantine.contains u = true ∧ Counted Ev.CY_PIPE.lasting s (s.aesFail d u i) := by
  have heq : (s.aesHit d i).deferOrLast (.aes d) u = ((s.aesHit d i).undefer (.aes d) u).lasting (.aes d) u :=
    State.deferOrLast_of_deferred (s := s.aesHit d i) hdefer
  obtain ⟨hplace, hint⟩ := doubleFault_place d
  have hkeep : KeepsFieldsBut [] s (((s.aesHit d i).undefer (.aes d) u).lasting (.aes d) u) :=
    ((s.aesHit_keeps d i).setBlock _ _).lasting _ u
  have hlasting : Counted Ev.CY_PIPE.lasting s (((s.aesHit d i).undefer (.aes d) u).lasting (.aes d) u) :=
    State.lasting_counted ((s.aesHit d i).undefer (.aes d) u) u rfl (State.counts_of_blockClocked hclk)
  have hfault : (((s.aesHit d i).undefer (.aes d) u).lasting (.aes d) u).counter (Ev.CY_PIPE.doubleFault d.val).page
      (Ev.CY_PIPE.doubleFault d.val).off = s.counter (Ev.CY_PIPE.doubleFault d.val).page (Ev.CY_PIPE.doubleFault d.val).off :=
    State.lasting_counter ((s.aesHit d i).undefer (.aes d) u) u hplace
  have hbad : (((s.aesHit d i).undefer (.aes d) u).lasting (.aes d) u).aesBad = (s.aesHit d i).aesBad :=
    (State.lasting_faultFrame ((s.aesHit d i).undefer (.aes d) u) (.aes d) u).keeps State.aesBad rfl
  rw [State.aesFail_near h hnear, heq, State.raise_aesBad, State.block_raise, hbad]
  refine ⟨State.counted_raise (State.clocked_of_blockClocked hclk rfl) hkeep hfault hint, rfl, State.lasting_quarantines _ _ u, ?_⟩
  rw [Counted, State.raise_counter_ne _ _ _ _ (lasting_place_ne_doubleFault d) (by decide)]
  exact hlasting

theorem State.aesFail_noSpare_spec (h : i.onSpare = false) (hnear : s.aesNear d i.cycle = false)
    (hredo : (s.block (.aes d)).canRedo (.aes d) = false) (hdefer : s.deferred (.aes d) u = false)
    (hq : (s.block (.aes d)).quarantine.contains u = false) :
    (s.aesFail d u i).cnt = s.cnt ∧
      (s.aesFail d u i).aesBad = s.aesBad ++ [(decide (d = 1), i.num / 192, i.num % 192, i.stage)] ∧
      (s.aesFail d u i).deferred (.aes d) u = true ∧ KeepsFieldsBut [] s (s.aesFail d u i) := by
  have heq : (s.aesHit d i).deferOrLast (.aes d) u = (s.aesHit d i).deferClass (.aes d) u :=
    State.deferOrLast_of_first (s := s.aesHit d i) hdefer hq
  rw [State.aesFail_noSpare h hnear hredo, heq]
  exact ⟨rfl, rfl, State.deferClass_deferred _ _ u, (s.aesHit_keeps d i).setBlock _ _⟩

end

/-! ### The clauses on lanes, decoders, matchers and BCH decoders (R116, R147 to R149, R153) -/

section
variable {p : Port} {b : Block} {u : Nat} {i : CheckInfo} {s : State}

theorem State.laneFail_second_spec {lane : Nat} (redo : Evt) (hclk : s.Clocked) (hb : b = .p1Lane p ∨ b = .p2Lane p)
    (h : i.onSpare = false) (hplace : (s.block b).placeOf b u = some lane) (hwin : s.inWindow b i.cycle = true)
    (hdefer : s.deferred b u = false) (hq : (s.block b).quarantine.contains u = false) :
    Counted (Ev.RXEQ.doubleFault p) s (s.laneFail b p redo u i) ∧ (s.laneFail b p redo u i).deferred b u = true ∧
      ((s.laneFail b p redo u i).rx.get p).zeroOnce.contains lane = true ∧ (s.laneFail b p redo u i).window = s.window ∧
      KeepsFieldsBut [] s (s.laneFail b p redo u i) := by
  have hkeep : KeepsFieldsBut [] s ((s.zeroLane p lane).raise (Ev.RXEQ.doubleFault p)) :=
    ((KeepsFieldsBut.refl [] s).same (u := s.zeroLane p lane) rfl rfl).raise _
  have hblock : ((s.zeroLane p lane).raise (Ev.RXEQ.doubleFault p)).block b = s.block b := State.block_raise _ _ b
  have heq : ((s.zeroLane p lane).raise (Ev.RXEQ.doubleFault p)).deferOrLast b u =
      ((s.zeroLane p lane).raise (Ev.RXEQ.doubleFault p)).deferClass b u :=
    State.deferOrLast_of_first (by rw [State.deferred, hblock]; exact hdefer) (by rw [hblock]; exact hq)
  have hcount : Counted (Ev.RXEQ.doubleFault p) s ((s.zeroLane p lane).raise (Ev.RXEQ.doubleFault p)) :=
    State.raise_counted (s := s.zeroLane p lane) hclk (by cases p <;> decide)
  have hzero : ((s.zeroLane p lane).rx.get p).zeroOnce.contains lane = true := by
    rw [State.zeroLane, State.onRx, Pair.get_upd_same]
    exact contains_addSorted_same _ lane
  rw [State.laneFail_second h hplace hwin, heq]
  refine ⟨hcount, State.deferClass_deferred _ b u, ?_, ?_, hkeep.setBlock b _⟩
  · rw [← State.raise_rx (s.zeroLane p lane) (Ev.RXEQ.doubleFault p)] at hzero
    exact hzero
  · exact (State.raise_window (s.zeroLane p lane) (Ev.RXEQ.doubleFault p)).trans rfl

theorem State.decoderRedo_first {v n : Nat} (h : s.deferred (.decoder p) u = false) :
    s.decoderRedo p u v n = ((s.raise (Ev.FEC.decoderRedo p)).onCodeword p n fun c =>
      { c with decoder := v, redo := true, status := .decoding }).onFec p fun f => { f with repeating := addSorted f.repeating u } := by
  have hdefer : (s.raise (Ev.FEC.decoderRedo p)).deferred (.decoder p) u = false := by
    rw [State.deferred, State.block_raise]
    exact h
  exact if_neg (Bool.eq_false_iff.1 hdefer)

theorem State.decoderRedo_first_fec {v n : Nat} (h : s.deferred (.decoder p) u = false) :
    ((s.decoderRedo p u v n).fec.get p).store = (s.fec.get p).store.map (fun c =>
        if c.num = n then { c with decoder := v, redo := true, status := .decoding } else c) ∧
      ((s.decoderRedo p u v n).fec.get p).repeating.contains u = true := by
  rw [State.decoderRedo_first h, State.onFec, Pair.get_upd_same, State.onCodeword, State.onFec, Pair.get_upd_same, State.raise_fec]
  exact ⟨rfl, contains_addSorted_same _ u⟩

theorem State.decoderRedo_first_keeps {v n : Nat} (h : s.deferred (.decoder p) u = false) :
    (∀ q o, (s.decoderRedo p u v n).counter q o = (s.raise (Ev.FEC.decoderRedo p)).counter q o) ∧
      KeepsFieldsBut [] s (s.decoderRedo p u v n) := by
  have hkeep := (KeepsFieldsBut.refl [] s).raise (Ev.FEC.decoderRedo p)
  rw [State.decoderRedo_first h]
  generalize s.raise (Ev.FEC.decoderRedo p) = t at *
  exact ⟨fun _ _ => rfl, hkeep.same rfl rfl⟩

theorem State.decoderFail_redone_spec {v : Nat} {c : Codeword} (hclk : s.Clocked)
    (hfind : ((s.fec.get p).store.find? fun c => c.num == i.num && c.decoder == u) = some c) (hredo : c.redo = false)
    (hwin : s.inWindow (.decoder p) i.cycle = false) (hdefer : s.deferred (.decoder p) u = false)
    (hspare : s.freeSpare p = some v) :
    Counted (Ev.FEC.decoderRedo p) s (s.decoderFail p u i) ∧
      ((s.decoderFail p u i).fec.get p).store = (s.fec.get p).store.map (fun c =>
        if c.num = i.num then { c with decoder := v, redo := true, status := .decoding } else c) ∧
      ((s.decoderFail p u i).fec.get p).repeating.contains u = true ∧ KeepsFieldsBut [] s (s.decoderFail p u i) := by
  have hdefer' : (s.openWindow (.decoder p) i.cycle).deferred (.decoder p) u = false := hdefer
  have hkeep : KeepsFieldsBut [] s (s.openWindow (.decoder p) i.cycle) := (KeepsFieldsBut.refl [] s).same rfl rfl
  have hcount : Counted (Ev.FEC.decoderRedo p) s ((s.openWindow (.decoder p) i.cycle).raise (Ev.FEC.decoderRedo p)) :=
    State.counted_raise hclk hkeep rfl (by cases p <;> decide)
  have hfec : (s.openWindow (.decoder p) i.cycle).fec = s.fec := rfl
  rw [State.decoderFail_redone hfind hredo hwin hspare, ← hfec]
  generalize s.openWindow (.decoder p) i.cycle = t at *
  obtain ⟨hstore, hrepeat⟩ := State.decoderRedo_first_fec (v := v) (n := i.num) hdefer'
  obtain ⟨hcounter, hkeep'⟩ := State.decoderRedo_first_keeps (v := v) (n := i.num) hdefer'
  exact ⟨(hcounter _ _).trans hcount, hstore, hrepeat, hkeep.trans hkeep'⟩

/-- The double fault of a codeword leaves it undecoded, and puts the spare that redid it out for its self-test (R24, R149). -/
theorem State.decoderFail_second_spec {c : Codeword} (hclk : s.Clocked)
    (hfind : ((s.fec.get p).store.find? fun c => c.num == i.num && c.decoder == u) = some c)
    (h : c.redo = true ∨ s.inWindow (.decoder p) i.cycle = true) :
    Counted (Ev.FEC.doubleFault p) s (s.decoderFail p u i) ∧
      (∀ w ∈ ((s.decoderFail p u i).fec.get p).store, w.num = i.num → w.status = .undecoded ∧ w.double = true) ∧
      (c.redo = true → ((s.decoderFail p u i).block (.decoder p)).testing.contains u = true) := by
  have hcount : Counted (Ev.FEC.doubleFault p) s ((s.undecode p i.num true).raise (Ev.FEC.doubleFault p)) :=
    State.raise_counted (s := s.undecode p i.num true) hclk (by cases p <;> decide)
  have hstore := s.undecode_store p i.num
  rw [← State.raise_fec (s.undecode p i.num true) (Ev.FEC.doubleFault p)] at hstore
  rw [State.decoderFail_second hfind h]
  generalize (s.undecode p i.num true).raise (Ev.FEC.doubleFault p) = t at *
  cases hredo : c.redo
  case true => exact ⟨hcount, hstore, fun _ => State.toTest_testing t _ u⟩
  case false =>
    have hplace : (Ev.FEC.doubleFault p).page * 4096 + (Ev.FEC.doubleFault p).off ∉ (Block.decoder p).lastingPlaces := by
      cases p <;> decide
    have hfec : (t.deferOrLast (.decoder p) u).fec = t.fec := (t.deferOrLast_faultFrame (.decoder p) u).keeps State.fec rfl
    refine ⟨?_, ?_, fun hfalse => absurd hfalse (by simp)⟩
    · exact (State.deferOrLast_counter t u hplace).trans hcount
    · show ∀ w ∈ ((t.deferOrLast (.decoder p) u).fec.get p).store, _
      rw [hfec]
      exact hstore

theorem State.outerFail_noSpare_spec (redo : Evt) (hb : b = .matcher p ∨ b = .bchDecoder p) (h : i.onSpare = false)
    (hwin : s.inWindow b i.cycle = false) (hredo : (s.block b).canRedo b = false)
    (hq : (s.block b).quarantine.contains u = false) (hdefer : s.deferred b u = false) :
    (s.outerFail b p redo u i).deferred b u = true ∧ (s.outerFail b p redo u i).inWindow b i.cycle = true ∧
      (b = .matcher p → ((s.outerFail b p redo u i).fec.get p).matcherBad = true) ∧
      (b = .bchDecoder p → ((s.outerFail b p redo u i).fec.get p).bchBad = true) ∧
      KeepsFieldsBut [] s (s.outerFail b p redo u i) ∧ (s.outerFail b p redo u i).cnt = s.cnt := by
  have hregion : b.region.isSome = true := by rcases hb with rfl | rfl <;> rfl
  have hopened := s.openWindow_inWindow i.cycle hregion
  have hwindow := s.openWindow_frame b i.cycle
  rw [State.outerFail_noSpare h hwin hredo]
  generalize s.openWindow b i.cycle = t at *
  have hblock : (t.outerLost b p).block b = s.block b := by
    rw [hwindow]
    rfl
  have hcnt : t.cnt = s.cnt := by rw [hwindow]
  have hkeep : KeepsFieldsBut [] s t := (KeepsFieldsBut.refl [] s).same (by rw [hwindow]) (by rw [hwindow])
  have heq : (t.outerLost b p).deferOrLast b u = (t.outerLost b p).deferClass b u :=
    State.deferOrLast_of_first (by rw [State.deferred, hblock]; exact hdefer) (by rw [hblock]; exact hq)
  rw [heq]
  refine ⟨State.deferClass_deferred _ b u, hopened, fun h => ?_, fun h => ?_, hkeep.same rfl rfl, hcnt⟩
  · subst h
    exact congrArg FecState.matcherBad (Pair.get_upd_same t.fec p _)
  · subst h
    exact congrArg FecState.bchBad (Pair.get_upd_same t.fec p _)

end

/-! ### The obligation -/

/-- Settles O60: each clause is a lemma on the step it is about; the last is the frame of the whole tick. -/
theorem checksRetriesAndSelfTests : Obligations.ChecksRetriesAndSelfTests := by
  unfold Obligations.ChecksRetriesAndSelfTests
  refine ⟨?idle, ?aesRedone, ?aesSpare, ?aesNear, ?aesLasting, ?aesNoSpare, ?lane, ?decoderRedone, ?decoderSecond, ?decoderGone,
    ?outer, ?core, ?transient, ?lasting, ?unclocked, ?testPassed, ?testFailed, ?tickStopped, ?tick⟩
  case idle => exact fun b u i s h => completes_unitCheckFail_idle h
  case aesRedone =>
    exact fun d u i s hclk hworks h hnear hredo hfirst =>
      completes_unitCheckFail hclk hworks (State.aesFail_redone_spec hclk h hnear hredo hfirst)
  case aesSpare =>
    exact fun d u i s hclk hworks h => completes_unitCheckFail hclk hworks (State.aesFail_onSpare_spec hclk h)
  case aesNear =>
    exact fun d u i s hclk hworks h hnear hdefer hq =>
      completes_unitCheckFail hclk hworks (State.aesFail_near_spec hclk h hnear hdefer hq)
  case aesLasting =>
    exact fun d u i s hclk hworks h hnear hdefer =>
      completes_unitCheckFail hclk hworks (State.aesFail_lasting_spec hclk h hnear hdefer)
  case aesNoSpare =>
    exact fun d u i s hclk hworks h hnear hredo hdefer hq =>
      completes_unitCheckFail hclk hworks (State.aesFail_noSpare_spec h hnear hredo hdefer hq)
  case lane =>
    intro p b u lane i s hclk hworks hb h hplace hwin hdefer hq
    refine completes_unitCheckFail hclk hworks ?_
    have hspec := fun redo hrun => State.laneFail_second_spec redo hrun hb h hplace hwin hdefer hq
    rcases hb with rfl | rfl
    · exact hspec (Ev.DEMAP.p1Redo p) (State.clocked_of_blockClocked hclk (by cases p <;> decide))
    · exact hspec (Ev.DEMAP.p2Redo p) (State.clocked_of_blockClocked hclk (by cases p <;> decide))
  case decoderRedone =>
    intro p u v c i s hclk hworks hfind hredo hwin hdefer hspare
    have hrun : s.Clocked := State.clocked_of_blockClocked hclk (by cases p <;> decide)
    exact completes_unitCheckFail hclk hworks (State.decoderFail_redone_spec hrun hfind hredo hwin hdefer hspare)
  case decoderSecond =>
    intro p u c i s hclk hworks hfind h
    have hrun : s.Clocked := State.clocked_of_blockClocked hclk (by cases p <;> decide)
    exact completes_unitCheckFail hclk hworks (State.decoderFail_second_spec hrun hfind h)
  case decoderGone =>
    intro p u i s hfind
    cases hclk : s.blockClocked (.decoder p)
    case false => exact completes_unitCheckFail_idle (.inl hclk)
    case true =>
      cases hworks : s.works (.decoder p) u
      case false => exact completes_unitCheckFail_idle (.inr hworks)
      case true => exact completes_unitCheckFail hclk hworks (State.decoderFail_none hfind)
  case outer =>
    intro p b u i s hclk hworks hb h hwin hredo hq hdefer
    refine completes_unitCheckFail hclk hworks ?_
    have hspec := fun redo => State.outerFail_noSpare_spec (p := p) redo hb h hwin hredo hq hdefer
    rcases hb with rfl | rfl
    · exact hspec (Ev.FEC.matcherRedo p)
    · exact hspec (Ev.FEC.bchRedo p)
  case core =>
    intro u i s hclk hworks hu hrun hstandby
    obtain ⟨hactive, hold, hnew⟩ := State.coreFail_cores (i := i) hu hrun hstandby
    exact completes_unitCheckFail hclk hworks ⟨hactive, hold, hnew, State.coreFail_counted hu hrun hstandby⟩
  case transient =>
    intro b u i s hclk hu hq hb
    refine completes_classifyingAttemptDone hclk hu hq hb ⟨?_, ?_, ?_, ?_⟩
    · exact State.counter_count (s.undefer b u) _ _ 1 (State.counts_of_blockClocked hclk)
    · exact (congrArg Spared.quarantine (State.block_eventFrame (State.transient_eventFrame _ b) b)).trans (s.undefer_quarantine b u)
    · exact (congrArg (fun x : Spared => x.unclassified.contains u)
        (State.block_eventFrame (State.transient_eventFrame _ b) b)).trans (s.undefer_deferred b u)
    · exact (State.transient_regs _ b).trans rfl
  case lasting =>
    intro b u i s hclk hu hq hb
    exact completes_classifyingAttemptDone hclk hu hq hb
      ⟨State.lasting_counts (s.undefer b u) u (State.counts_of_blockClocked hclk), State.lasting_quarantines _ b u⟩
  case unclocked =>
    intro b u ok i s hclk c hc
    rcases List.mem_pair.1 hc with rfl | rfl
    · exact ⟨s, by rw [exec, execClassifyingAttemptDone, hclk]; rfl, rfl⟩
    · exact ⟨s, congrArg Host.Outcome.next (if_neg (Bool.eq_false_iff.1 hclk)), rfl⟩
  case testPassed =>
    intro b u s hclk hconv hu hq hplace
    refine ⟨_, exec_spareSelfTestDone hclk hconv hu hq hplace, ?_⟩
    exact ⟨s.testPassed_mayEclose b u, fun c hc => s.block_setBlock_ne _ (Ne.symm hc), rfl⟩
  case testFailed =>
    intro b u s hclk hconv hu hq hplace
    refine ⟨_, exec_spareSelfTestDone hclk hconv hu hq hplace, ?_⟩
    obtain ⟨hspared, hcnt⟩ := s.spareFails_spared b u
    have hblock : (s.spareFails b u).block b = (s.lastingOnly b u).block b := State.block_of_spared hspared b
    have hcounter : (s.spareFails b u).counter b.page (lastingOff b.page) = (s.lastingOnly b u).counter b.page (lastingOff b.page) := by
      rw [State.counter, hcnt, State.counter]
    exact ⟨(congrArg (fun x : Spared => x.quarantine.contains u) hblock).trans (s.lastingOnly_quarantines b u),
      hcounter.trans (s.lastingOnly_counts u (State.counts_of_blockClocked hclk))⟩
  case tickStopped =>
    exact fun x s hstop => ⟨s, by rw [exec, execManagementTick, if_pos hstop], rfl⟩
  case tick => exact fun x s hstop => completes_managementTick hstop x

end Sys2Proof.Machine
end

section
/-! The staged configurations that are invalid (O15): what a valid one satisfies, and how `STAGED_VALID` shows in its word. -/

namespace Sys2Proof.Machine

open F

/-! ### What a valid staged configuration satisfies (R61, R92) -/

theorem Mode.entropyOk_iff (x : Mode) : x.entropyOk = true ↔
    (x.base = 1 ∧ 96 ≤ x.entropy ∧ x.entropy ≤ 252) ∨ (x.base = 2 ∧ 128 ≤ x.entropy ∧ x.entropy ≤ 358) := by
  unfold Mode.entropyOk
  split
  · next h => simp [h]
  · next h => simp [h]
  · next h1 h2 =>
    refine iff_of_false Bool.false_ne_true fun h => ?_
    exact h.elim (fun h => h1 h.1) fun h => h2 h.1

/-- The transmit staged values lie in the ranges of R61. -/
structure State.TxStagedInRange (s : State) (p : Port) : Prop where
  base : s.rd (TX.MOD_CFG_BASE p) ≠ 3
  codeRate : s.rd (TX.MOD_CFG_CODE_RATE p) ≠ 3
  entropy : s.rd (TX.MOD_CFG_SHAPED p) = 1 →
    (s.rd (TX.MOD_CFG_BASE p) = 1 ∧ 96 ≤ s.rd (TX.MOD_CFG_ENTROPY_E p) ∧ s.rd (TX.MOD_CFG_ENTROPY_E p) ≤ 252) ∨
    (s.rd (TX.MOD_CFG_BASE p) = 2 ∧ 128 ≤ s.rd (TX.MOD_CFG_ENTROPY_E p) ∧ s.rd (TX.MOD_CFG_ENTROPY_E p) ≤ 358)
  slots : (s.txModeStaged p).slots ≠ 0
  rate : 240 ≤ s.rd (TX.SYM_RATE_RATE_Q p) ∧ s.rd (TX.SYM_RATE_RATE_Q p) ≤ 1088
  rolloff : 1 ≤ s.rd (TX.SHAPE_CFG_ROLLOFF p) ∧ s.rd (TX.SHAPE_CFG_ROLLOFF p) ≤ 50

theorem State.txStagedInRange_of_valid {s : State} {p : Port} (h : s.txStagedValid p = true) : s.TxStagedInRange p := by
  simp only [State.txStagedValid, Mode.txOk, Mode.modOk, Mode.rateOk, Bool.and_eq_true, Bool.or_eq_true, Bool.not_eq_true',
    decide_eq_true_eq, Mode.entropyOk_iff] at h
  obtain ⟨⟨⟨⟨hbase, hcode⟩, hent⟩, hslots⟩, hrate, hroll⟩ := h
  refine ⟨hbase, hcode, fun hsh => hent.resolve_left fun hno => ?_, hslots, hrate, hroll⟩
  exact absurd hsh (of_decide_eq_false hno)

theorem State.txStagedValid_of_not {s : State} {p : Port} (h : s.TxStagedInRange p → False) : s.txStagedValid p = false :=
  Bool.eq_false_iff.2 fun hv => h (State.txStagedInRange_of_valid hv)

/-- The receive staged values lie in the ranges of R92. -/
structure State.RxStagedInRange (s : State) (p : Port) : Prop where
  rate : 240 ≤ s.rd (RXFE.SYM_RATE_RATE_Q p) ∧ s.rd (RXFE.SYM_RATE_RATE_Q p) ≤ 1088
  rolloff : 1 ≤ s.rd (RXFE.SHAPE_CFG_ROLLOFF p) ∧ s.rd (RXFE.SHAPE_CFG_ROLLOFF p) ≤ 50
  window : s.rd (RXFE.CD_WINDOW_W p) ≤ wMax (s.rxModeStaged p) (s.rd (RXFE.CARRIER_FREQ_GHZ p))
  carrier : 186000 ≤ s.rd (RXFE.CARRIER_FREQ_GHZ p) ∧ s.rd (RXFE.CARRIER_FREQ_GHZ p) ≤ 197000
  scan : (s.rdI (RXFE.CD_SCAN_CENTRE p)).natAbs + s.rd (RXFE.CD_SCAN_HALF p) ≤ s.rd (RXFE.CD_WINDOW_W p)

theorem State.rxStagedInRange_of_valid {s : State} {p : Port} (h : s.rxStagedValid p = true) : s.RxStagedInRange p := by
  simp only [State.rxStagedValid, State.rxfeOk, Mode.rateOk, Bool.and_eq_true, decide_eq_true_eq] at h
  obtain ⟨⟨⟨⟨hrate, hroll⟩, hwindow⟩, hcarrier⟩, hscan⟩ := h
  exact ⟨hrate, hroll, hwindow, hcarrier, hscan⟩

theorem State.rxStagedValid_of_not {s : State} {p : Port} (h : s.RxStagedInRange p → False) : s.rxStagedValid p = false :=
  Bool.eq_false_iff.2 fun hv => h (State.rxStagedInRange_of_valid hv)

/-! ### How a field shows in its word (R442, R466, R473) -/

theorem findField_lt {l : List (Field × Nat)} {f : Field} {v : Nat} (h : findField l f = some v) : v < 2 ^ f.width := by
  obtain ⟨e, -, rfl⟩ := Option.map_eq_some_iff.1 h
  exact Nat.mod_lt _ (Nat.two_pow_pos _)

theorem State.liveField_lt (s : State) (f : Field) : s.liveField f < 2 ^ f.width := by
  unfold State.liveField
  split
  · split
    · next h => exact findField_lt h
    · exact s.rd_lt f
  · exact s.rd_lt f

/-- The second field of a derived list. -/
theorem findField_second {e : Field × Nat} {f : Field} (v : Nat) (l : List (Field × Nat)) (h : e.1.key ≠ f.key) :
    findField (e :: (f, v) :: l) f = some (v % 2 ^ f.width) := by
  simp [findField, h]

/-- What a read-only field of the block registers shows (R471). -/
theorem State.liveField_derived {s : State} {f : Field} {v : Nat} (hro : f.acc = .ro) (hoff : 0x040 ≤ f.off)
    (h : findField (s.derived f.page f.off) f = some v) : s.liveField f = v := by
  rw [State.liveField, if_pos hro, if_neg (Nat.not_lt.2 hoff), h]

/-- On a page that is not frozen a read-only field that no latch holds reads as the block has it now. -/
theorem State.fieldRead_live {s : State} {f : Field} (r : Requester) (hro : f.acc = .ro) (hlatch : latchOf f = none)
    (hfreeze : s.on (HDR.CTRL_FREEZE f.page) = false) : s.fieldRead r f = s.liveField f := by
  simp [State.fieldRead, hro, hlatch, hfreeze]

theorem State.fieldRead_live_lt {s : State} {f : Field} (r : Requester) (hro : f.acc = .ro) (hlatch : latchOf f = none)
    (hfreeze : s.on (HDR.CTRL_FREEZE f.page) = false) : s.fieldRead r f < 2 ^ f.width := by
  rw [State.fieldRead_live r hro hlatch hfreeze]
  exact s.liveField_lt f

/-- Fields above a bit of a word do not show in it. -/
theorem State.bitOf_foldl_fields_above (s : State) (r : Requester) (l : List Field) (w i : Nat) (h : ∀ f ∈ l, i < f.lsb) :
    bitOf (l.foldl (fun w f => w + s.fieldRead r f * 2 ^ f.lsb) w) i = bitOf w i := by
  induction l generalizing w with
  | nil => rfl
  | cons f l ih =>
    have hf : i < f.lsb := h f List.mem_cons_self
    have hpow : 2 ^ f.lsb = 2 ^ (f.lsb - i - 1) * 2 * 2 ^ i := by
      rw [← Nat.pow_succ, ← Nat.pow_add]
      congr 1
      omega
    rw [List.foldl_cons, ih _ fun g hg => h g (List.mem_cons_of_mem _ hg), hpow, ← Nat.mul_assoc, ← Nat.mul_assoc, bitOf, bitOf,
      Nat.add_mul_div_right _ _ (Nat.two_pow_pos i), Nat.add_mul_mod_self_right]

/-- The bit of a field that reads 0 in a word with one field below it. -/
theorem State.bitOf_pageWord_zero {s : State} {r : Requester} {f g : Field} {l : List Field}
    (hplain : isCounter f.page f.off = false ∧ f.off ≠ cntHiOff f.page ∧ f.page ≠ 0)
    (hfields : (pageFields f.page).filter (fun h => h.off = f.off) = g :: f :: l) (hl : ∀ h ∈ l, f.lsb < h.lsb)
    (hbelow : g.lsb + g.width ≤ f.lsb) (hg : s.fieldRead r g < 2 ^ g.width) (hf : s.fieldRead r f = 0) :
    bitOf (s.pageWord r f.page f.off) f.lsb = false := by
  obtain ⟨hcounter, hhi, hpage⟩ := hplain
  have hlt : s.fieldRead r g * 2 ^ g.lsb < 2 ^ f.lsb :=
    calc s.fieldRead r g * 2 ^ g.lsb < 2 ^ g.width * 2 ^ g.lsb := Nat.mul_lt_mul_of_pos_right hg (Nat.two_pow_pos _)
      _ = 2 ^ (g.lsb + g.width) := by rw [Nat.add_comm, Nat.pow_add]
      _ ≤ 2 ^ f.lsb := Nat.pow_le_pow_right (by decide) hbelow
  rw [State.pageWord, hcounter, if_neg Bool.false_ne_true, if_neg hhi, if_neg fun h => hpage h.1, hfields, List.foldl_cons,
    List.foldl_cons, State.bitOf_foldl_fields_above _ _ _ _ _ hl, hf, Nat.zero_mul, Nat.add_zero, Nat.zero_add, bitOf,
    Nat.div_eq_of_lt hlt]
  rfl

/-! ### `STAGED_VALID` (R62, R93) -/

/-- `TX.DERIVED` with nothing valid staged (R61). -/
theorem State.bitOf_txDerived_stagedValid {s : State} {p : Port} (r : Requester)
    (hfreeze : s.on (HDR.CTRL_FREEZE (31 + 8 * p.toNat)) = false) (hv : s.txStagedValid p = false) :
    bitOf (s.pageWord r (31 + 8 * p.toNat) (TX.DERIVED_STAGED_VALID p).off) (TX.DERIVED_STAGED_VALID p).lsb = false := by
  have hslots : s.fieldRead r (TX.DERIVED_SLOTS p) < 2 ^ 7 :=
    State.fieldRead_live_lt (f := TX.DERIVED_SLOTS p) r rfl (by cases p <;> rfl) hfreeze
  have hlive : s.liveField (TX.DERIVED_STAGED_VALID p) = bit (s.txStagedValid p) % 2 ^ 1 := by
    refine State.liveField_derived rfl (by cases p <;> decide) ?_
    have hbelow : ∀ p, (TX.DERIVED_SLOTS p).key ≠ (TX.DERIVED_STAGED_VALID p).key := by intro p; cases p <;> decide
    have hderived : s.derived (TX.DERIVED_STAGED_VALID p).page (TX.DERIVED_STAGED_VALID p).off = s.txFields p 0x04C := by cases p <;> rfl
    rw [hderived]
    exact findField_second _ _ (hbelow p)
  have hread : s.fieldRead r (TX.DERIVED_STAGED_VALID p) = 0 := by
    rw [State.fieldRead_live (f := TX.DERIVED_STAGED_VALID p) r rfl (by cases p <;> rfl) hfreeze, hlive, hv]
    rfl
  exact State.bitOf_pageWord_zero (f := TX.DERIVED_STAGED_VALID p) (g := TX.DERIVED_SLOTS p)
    (l := [TX.DERIVED_DM_K p, TX.DERIVED_KNOWN_SIGNS p, TX.DERIVED_CFG_VALID p])
    (by cases p <;> decide) (by cases p <;> decide) (by cases p <;> decide) (by cases p <;> decide) hslots hread

/-- `RX_DERIVED` with nothing valid staged (R92). -/
theorem State.bitOf_rxDerived_stagedValid {s : State} {p : Port} (r : Requester)
    (hfreeze : s.on (HDR.CTRL_FREEZE (33 + 8 * p.toNat)) = false) (hv : s.rxStagedValid p = false) :
    bitOf (s.pageWord r (33 + 8 * p.toNat) (RXFE.RX_DERIVED_STAGED_VALID p).off) (RXFE.RX_DERIVED_STAGED_VALID p).lsb = false := by
  have hvalid : s.fieldRead r (RXFE.RX_DERIVED_CFG_VALID p) < 2 ^ 1 :=
    State.fieldRead_live_lt (f := RXFE.RX_DERIVED_CFG_VALID p) r rfl (by cases p <;> rfl) hfreeze
  have hlive : s.liveField (RXFE.RX_DERIVED_STAGED_VALID p) = bit (s.rxStagedValid p) % 2 ^ 1 := by
    refine State.liveField_derived rfl (by cases p <;> decide) ?_
    have hbelow : ∀ p, (RXFE.RX_DERIVED_CFG_VALID p).key ≠ (RXFE.RX_DERIVED_STAGED_VALID p).key := by intro p; cases p <;> decide
    have hderived : s.derived (RXFE.RX_DERIVED_STAGED_VALID p).page (RXFE.RX_DERIVED_STAGED_VALID p).off = s.rxfeFields p := by cases p <;> rfl
    rw [hderived]
    exact findField_second _ _ (hbelow p)
  have hread : s.fieldRead r (RXFE.RX_DERIVED_STAGED_VALID p) = 0 := by
    rw [State.fieldRead_live (f := RXFE.RX_DERIVED_STAGED_VALID p) r rfl (by cases p <;> rfl) hfreeze, hlive, hv]
    rfl
  exact State.bitOf_pageWord_zero (f := RXFE.RX_DERIVED_STAGED_VALID p) (g := RXFE.RX_DERIVED_CFG_VALID p)
    (l := [RXFE.RX_DERIVED_HALF_RATE p, RXFE.RX_DERIVED_WIN_DELAY p, RXFE.RX_DERIVED_W_MAX p])
    (by cases p <;> decide) (by cases p <;> decide) (by cases p <;> decide) (by cases p <;> decide) hvalid hread

/-- Settles O15: a value out of its range contradicts what a valid configuration satisfies, and an invalid one reads 0. -/
theorem stagedConfigurationsThatAreInvalid : Obligations.StagedConfigurationsThatAreInvalid := by
  unfold Obligations.StagedConfigurationsThatAreInvalid
  refine ⟨?base, ?codeRate, ?qpsk, ?entropy16, ?entropy64, ?txRate, ?txRolloff, ?slots, ?txReads, ?rxRate, ?rxRolloff, ?window,
    ?carrier, ?scan, ?rxReads⟩
  case base => exact fun p s h => State.txStagedValid_of_not fun hr => hr.base h
  case codeRate => exact fun p s h => State.txStagedValid_of_not fun hr => hr.codeRate h
  case qpsk =>
    intro p s hshaped hbase
    exact State.txStagedValid_of_not fun hr => by have := hr.entropy hshaped; omega
  case entropy16 =>
    intro p s hshaped hbase hent
    exact State.txStagedValid_of_not fun hr => by have := hr.entropy hshaped; omega
  case entropy64 =>
    intro p s hshaped hbase hent
    exact State.txStagedValid_of_not fun hr => by have := hr.entropy hshaped; omega
  case txRate => exact fun p s h => State.txStagedValid_of_not fun hr => by have := hr.rate; omega
  case txRolloff => exact fun p s h => State.txStagedValid_of_not fun hr => by have := hr.rolloff; omega
  case slots => exact fun p s h => State.txStagedValid_of_not fun hr => hr.slots h
  case txReads => exact fun r p s hfreeze hv => State.bitOf_txDerived_stagedValid r hfreeze hv
  case rxRate => exact fun p s h => State.rxStagedValid_of_not fun hr => by have := hr.rate; omega
  case rxRolloff => exact fun p s h => State.rxStagedValid_of_not fun hr => by have := hr.rolloff; omega
  case window => exact fun p s h => State.rxStagedValid_of_not fun hr => Nat.not_le.2 h hr.window
  case carrier => exact fun p s h => State.rxStagedValid_of_not fun hr => by have := hr.carrier; omega
  case scan => exact fun p s h => State.rxStagedValid_of_not fun hr => Nat.not_le.2 h hr.scan
  case rxReads => exact fun r p s hfreeze hv => State.bitOf_rxDerived_stagedValid r hfreeze hv

end Sys2Proof.Machine
end

section
/-! The converters under takeovers and live calibration: what each operation on a converter's state leaves of it and of the rest. -/

namespace Sys2Proof

@[simp] theorem Pair.get_upd_other {α : Type} (x : Pair α) (p : Port) (f : α → α) : (x.upd p f).get p.other = x.get p.other := by
  cases p <;> rfl

end Sys2Proof

namespace Sys2Proof.Machine

open F

/-! ### The map of a converter (R66) -/

theorem ConvState.unitAt_serve_same (x : ConvState) (pos u : Nat) : (x.serve pos u).unitAt pos = u := by
  unfold ConvState.serve ConvState.unitAt
  dsimp only
  split
  · next h => rw [Tab.get_erase_same, h]
  · exact Tab.get_insert_same _ _ _ _

theorem ConvState.unitAt_serve_ne (x : ConvState) {pos q : Nat} (u : Nat) (h : q ≠ pos) :
    (x.serve pos u).unitAt q = x.unitAt q := by
  unfold ConvState.serve ConvState.unitAt
  dsimp only
  split
  · exact Tab.get_erase_ne _ _ (Ne.symm h)
  · exact Tab.get_insert_ne _ _ _ (Ne.symm h)

/-- Only the roles without a position changed: the idle queue, chrysalis with its earlier trims, the units that await their
self-test, and the record of the positions that were flagged. -/
def ConvState.SameService (x y : ConvState) : Prop :=
  y = { x with idle := y.idle, suspects := y.suspects, classing := y.classing, oldOffset := y.oldOffset, oldGain := y.oldGain,
               drove := y.drove }

theorem ConvState.SameService.trans {x y z : ConvState} (h : x.SameService y) (k : y.SameService z) : x.SameService z := by
  unfold ConvState.SameService at *
  rw [k, h]

/-- What such a change leaves, read by `g`. -/
theorem ConvState.SameService.keeps {x y : ConvState} (h : x.SameService y) {β : Type} (g : ConvState → β)
    (hg : g { x with idle := y.idle, suspects := y.suspects, classing := y.classing, oldOffset := y.oldOffset,
                     oldGain := y.oldGain, drove := y.drove } = g x) : g y = g x := (congrArg g h).trans hg

theorem ConvState.SameService.unitAt {x y : ConvState} (h : x.SameService y) (q : Nat) : y.unitAt q = x.unitAt q :=
  h.keeps (fun z => z.unitAt q) rfl

theorem ConvState.vacate_sameService (x : ConvState) (chrys : Nat) : x.SameService (x.vacate chrys) := by
  unfold ConvState.vacate ConvState.SameService
  split_ifs <;> rfl

/-! ### One of the sixteen converters -/

/-- A converter's state as it is put: a transmit converter notes its flagged positions (R53). -/
def ConvState.noted (x : ConvState) (tx : Bool) : ConvState :=
  { x with drove := if tx then x.flagged.foldl addSorted x.drove else x.drove }

theorem ConvState.noted_sameService (x : ConvState) (tx : Bool) : x.SameService (x.noted tx) := rfl

@[simp] theorem State.conv_setConv_same (s : State) (tx : Bool) (p : Port) (c : Fin 4) (x : ConvState) :
    (s.setConv tx p c x).conv tx p c = x.noted tx := by
  cases tx <;> exact Tab.get_set_same _ _ _ _

theorem State.conv_setConv_ne (s : State) {tx ux : Bool} (p : Port) {c d : Fin 4} (x : ConvState) (h : (tx, c) ≠ (ux, d)) :
    (s.setConv tx p c x).conv ux p d = s.conv ux p d := by
  have hkey : tx = ux → 4 * p.toNat + c.val ≠ 4 * p.toNat + d.val := by
    rintro rfl hc
    exact h (congrArg (Prod.mk tx) (Fin.ext (Nat.add_left_cancel hc)))
  cases tx <;> cases ux
  · exact Tab.get_set_ne _ _ _ _ (hkey rfl)
  · rfl
  · rfl
  · exact Tab.get_set_ne _ _ _ _ (hkey rfl)

theorem State.conv_wr (s : State) (f : Field) (v : Nat) (tx : Bool) (q : Port) (c : Fin 4) :
    (s.wr f v).conv tx q c = s.conv tx q c := rfl

theorem State.conv_raise (s : State) (e : Evt) (tx : Bool) (p : Port) (c : Fin 4) : (s.raise e).conv tx p c = s.conv tx p c := by
  rw [State.conv, State.raise_rxConv, State.raise_txConv, State.conv]

/-- An update of converters alone. -/
def State.ConvFrame (s t : State) : Prop := t = { s with rxConv := t.rxConv, txConv := t.txConv }

/-- What an update of converters leaves, read by `g`. -/
theorem State.ConvFrame.keeps {s t : State} (h : s.ConvFrame t) {β : Type} (g : State → β)
    (hg : g { s with rxConv := t.rxConv, txConv := t.txConv } = g s) : g t = g s := (congrArg g h).trans hg

theorem State.ConvFrame.rd {s t : State} (h : s.ConvFrame t) (f : Field) : t.rd f = s.rd f := h.keeps (fun u => u.rd f) rfl

theorem State.ConvFrame.counter {s t : State} (h : s.ConvFrame t) (page off : Nat) : t.counter page off = s.counter page off :=
  h.keeps (fun u => u.counter page off) rfl

theorem State.ConvFrame.calRun {s t : State} (h : s.ConvFrame t) : t.calRun = s.calRun := h.keeps State.calRun rfl

theorem KeepsFieldsBut.convFrame {l : List Field} {s t u : State} (h : KeepsFieldsBut l s t) (k : t.ConvFrame u) :
    KeepsFieldsBut l s u := h.same (k.keeps State.regs rfl) (k.keeps State.act rfl)

theorem State.setConv_convFrame (s : State) (tx : Bool) (p : Port) (c : Fin 4) (x : ConvState) :
    s.ConvFrame (s.setConv tx p c x) := by
  cases tx <;> rfl

theorem State.forEach_convFrame {α : Type} (s : State) (l : List α) (f : α → State → State)
    (h : ∀ a u, State.ConvFrame u (f a u)) : s.ConvFrame (s.forEach l f) :=
  State.forEach_invariant s.ConvFrame l f (fun a u hu => by
    have ha := h a u
    unfold State.ConvFrame at *
    rw [ha, hu]) rfl

theorem mem_portConvs (e : Bool × Fin 4) : e ∈ portConvs := by
  obtain ⟨tx, c⟩ := e
  cases tx <;> revert c <;> decide

/-- A change made to each listed converter of a port from its own state. -/
theorem State.conv_forEach_setConv (f : ConvState → ConvState) {l : List (Bool × Fin 4)} (hl : l.Nodup) (s : State) (p : Port)
    (e : Bool × Fin 4) :
    (s.forEach l fun e s => s.setConv e.1 p e.2 (f (s.conv e.1 p e.2))).conv e.1 p e.2 =
      if e ∈ l then (f (s.conv e.1 p e.2)).noted e.1 else s.conv e.1 p e.2 := by
  induction l generalizing s with
  | nil => rfl
  | cons a l ih =>
    obtain ⟨ha, hl⟩ := List.nodup_cons.1 hl
    rw [State.forEach_cons, ih hl]
    by_cases he : a = e
    · subst he
      rw [if_neg ha, if_pos List.mem_cons_self, State.conv_setConv_same]
    · rw [State.conv_setConv_ne s p _ he]
      exact if_congr (by simp [Ne.symm he]) rfl rfl

/-! ### `CHRYS_SUB` (R63, R94) -/

theorem chrysField_quiet (tx : Bool) (p : Port) (c : Fin 4) : (chrysField tx p c).quiet = true := by
  cases tx <;> cases p <;> revert c <;> decide

theorem chrysField_key_ne_runActive (tx : Bool) (p : Port) (c : Fin 4) :
    (RXCONV.CAL_STATUS_RUN_ACTIVE p).key ≠ (chrysField tx p c).key := by
  cases tx <;> cases p <;> revert c <;> decide

theorem rclkOk_key_ne_chrysField (tx : Bool) (p : Port) (c : Fin 4) :
    CK_SYN.SYN_STATUS_RCLK_OK.key ≠ (chrysField tx p c).key := by
  cases tx <;> cases p <;> revert c <;> decide

theorem chrysField_width (tx : Bool) (p : Port) (c : Fin 4) : (chrysField tx p c).width = 9 := by cases tx <;> rfl

theorem State.rd_wr_chrys (s : State) (tx : Bool) (p : Port) (c : Fin 4) (v : Nat) :
    (s.wr (chrysField tx p c) v).rd (chrysField tx p c) = v % 2 ^ 9 := by
  rw [State.rd_wr_same, chrysField_width]

theorem State.rd_chrys_lt (s : State) (tx : Bool) (p : Port) (c : Fin 4) : s.rd (chrysField tx p c) < 2 ^ 9 := by
  have h := s.rd_lt (chrysField tx p c)
  rwa [chrysField_width] at h

/-- An event after updates that keep RCLK and its counter. -/
theorem State.counted_raise_of_keeps {l : List Field} {s t : State} {e : Evt} (hclk : s.Clocked) (hkeep : KeepsFieldsBut l s t)
    (hl : ∀ g ∈ l, CK_SYN.SYN_STATUS_RCLK_OK.key ≠ g.key) (hcount : t.counter e.page e.off = s.counter e.page e.off)
    (hint : e.page * 4096 + e.off ≠ 5 * 4096 + 0x41C) : Counted e s (t.raise e) := by
  have hrclk := (hkeep CK_SYN.SYN_STATUS_RCLK_OK (by decide) hl).1
  rw [Counted, ← hcount]
  exact State.raise_counted ((State.rclkStopped_of_rd hrclk).trans hclk) hint

/-! ### A unit enters chrysalis (R68) -/

theorem State.conv_toChrysalis (s : State) (tx : Bool) (p : Port) (c : Fin 4) (x : ConvState) (u : Nat) (classing : Bool) :
    (s.toChrysalis tx p c x u classing).conv tx p c =
      ({ x with classing := classing, oldOffset := Tab.get 0 x.offset u, oldGain := Tab.get 0 x.gain u }).noted tx :=
  s.conv_setConv_same tx p c _

theorem State.toChrysalis_sameService (s : State) (tx : Bool) (p : Port) (c : Fin 4) (x : ConvState) (u : Nat)
    (classing : Bool) : x.SameService ((s.toChrysalis tx p c x u classing).conv tx p c) := by
  rw [State.conv_toChrysalis]
  rfl

theorem State.toChrysalis_rd_chrys (s : State) (tx : Bool) (p : Port) (c : Fin 4) (x : ConvState) (u : Nat) (classing : Bool) :
    (s.toChrysalis tx p c x u classing).rd (chrysField tx p c) = u % 2 ^ 9 := State.rd_wr_chrys _ tx p c u

theorem State.toChrysalis_counter (s : State) (tx : Bool) (p : Port) (c : Fin 4) (x : ConvState) (u : Nat) (classing : Bool)
    (page off : Nat) : (s.toChrysalis tx p c x u classing).counter page off = s.counter page off :=
  (s.setConv_convFrame tx p c _).counter page off

theorem State.toChrysalis_keeps (s : State) (tx : Bool) (p : Port) (c : Fin 4) (x : ConvState) (u : Nat) (classing : Bool)
    {l : List Field} (hl : chrysField tx p c ∈ l) : KeepsFieldsBut l s (s.toChrysalis tx p c x u classing) :=
  ((KeepsFieldsBut.refl l s).convFrame (s.setConv_convFrame tx p c _)).wr hl u

end Sys2Proof.Machine
end

section
/-! Takeovers and failed senses of sub-converters (O37): a takeover ends alike whichever unit takes the position. -/

namespace Sys2Proof.Machine

open F

/-- The end of a takeover (R68, R53): `y` has the new unit at the position, `left` is what chrysalis held and no longer serves. -/
def State.tookOver (s : State) (tx : Bool) (p : Port) (c : Fin 4) (pos : Nat) (y : ConvState) (left : Nat) : State :=
  let v := (s.conv tx p c).unitAt pos
  let z := { y with flagged := y.flagged.filter (· != pos), compare := none }
  if (s.block (convBlock tx p c)).quarantine.contains v then (s.setConv tx p c z).wr (chrysField tx p c) left
  else s.toChrysalis tx p c (z.vacate left) v true

section
variable (s : State) (tx : Bool) (p : Port) (c : Fin 4) (pos : Nat) (y : ConvState) (left : Nat)

theorem State.tookOver_sameService :
    ConvState.SameService { y with flagged := y.flagged.filter (· != pos), compare := none }
      ((s.tookOver tx p c pos y left).conv tx p c) := by
  unfold State.tookOver
  dsimp only
  split
  · rw [State.conv_wr, State.conv_setConv_same]
    exact ConvState.noted_sameService _ tx
  · exact (ConvState.vacate_sameService _ left).trans (s.toChrysalis_sameService tx p c _ _ true)

theorem State.tookOver_rd_chrys :
    (s.tookOver tx p c pos y left).rd (chrysField tx p c) =
      if (s.block (convBlock tx p c)).quarantine.contains ((s.conv tx p c).unitAt pos) then left % 2 ^ 9
      else (s.conv tx p c).unitAt pos % 2 ^ 9 := by
  unfold State.tookOver
  dsimp only
  split
  · exact State.rd_wr_chrys _ tx p c left
  · exact s.toChrysalis_rd_chrys tx p c _ _ true

theorem State.tookOver_counter (page off : Nat) : (s.tookOver tx p c pos y left).counter page off = s.counter page off := by
  unfold State.tookOver
  dsimp only
  split
  · exact (s.setConv_convFrame tx p c _).counter page off
  · exact s.toChrysalis_counter tx p c _ _ true page off

theorem State.tookOver_keeps : KeepsFieldsBut [chrysField tx p c] s (s.tookOver tx p c pos y left) := by
  unfold State.tookOver
  dsimp only
  split
  · exact ((KeepsFieldsBut.refl _ s).convFrame (s.setConv_convFrame tx p c _)).wr List.mem_cons_self left
  · exact s.toChrysalis_keeps tx p c _ _ true List.mem_cons_self

/-- A takeover of a unit for a position, as the statement says it of every unit that takes one. -/
theorem State.tookOver_serve (u : Nat) :
    let t := (s.tookOver tx p c pos (y.serve pos u) left).raise (takeoverEvt tx p c)
    (t.conv tx p c).unitAt pos = u ∧ (∀ q, q ≠ pos → (t.conv tx p c).unitAt q = y.unitAt q) ∧
      (t.conv tx p c).flagged.contains pos = false := by
  have hsame := s.tookOver_sameService tx p c pos (y.serve pos u) left
  dsimp only
  rw [State.conv_raise]
  refine ⟨(hsame.unitAt pos).trans (y.unitAt_serve_same pos u), fun q hq => (hsame.unitAt q).trans (y.unitAt_serve_ne u hq), ?_⟩
  rw [hsame.keeps ConvState.flagged rfl]
  simp

theorem takeoverEvt_counts : (takeoverEvt tx p c).page * 4096 + (takeoverEvt tx p c).off ≠ 5 * 4096 + 0x41C := by
  cases tx <;> cases p <;> revert c <;> decide

variable {s} in
theorem State.tookOver_counted (hclk : s.Clocked) :
    Counted (takeoverEvt tx p c) s ((s.tookOver tx p c pos y left).raise (takeoverEvt tx p c)) :=
  State.counted_raise_of_keeps hclk (s.tookOver_keeps tx p c pos y left)
    (by simpa using rclkOk_key_ne_chrysField tx p c) (s.tookOver_counter tx p c pos y left _ _) (takeoverEvt_counts tx p c)

end

section
variable {s : State} {tx : Bool} {p : Port} {c : Fin 4} {pos : Nat}

/-- A flagged position takes the first idle unit that can serve it (R68). -/
theorem State.takeover_idle {u : Nat} (hflag : (s.conv tx p c).flagged.contains pos = true)
    (hdefer : (s.conv tx p c).deferred.contains pos = false)
    (hfind : ((s.conv tx p c).idle.find? fun u => (s.conv tx p c).canServe pos u) = some u) :
    s.takeover tx p c pos =
      (s.tookOver tx p c pos (({ s.conv tx p c with idle := (s.conv tx p c).idle.filter (· != u) } : ConvState).serve pos u)
        (s.rd (chrysField tx p c))).raise (takeoverEvt tx p c) := by
  unfold State.takeover
  dsimp only
  rw [if_pos ⟨hflag, by rw [hdefer]; exact Bool.false_ne_true⟩, hfind]
  rfl

/-- The converter once the unit in chrysalis has its earlier trims again (R68). -/
def ConvState.earlierTrims (x : ConvState) (chrys : Nat) : ConvState :=
  { x with offset := Tab.set 0 x.offset chrys x.oldOffset, gain := Tab.set 0 x.gain chrys x.oldGain, classing := false }

/-- With no idle unit for it a flagged position takes the unit in chrysalis (R68). -/
theorem State.takeover_chrysalis (hflag : (s.conv tx p c).flagged.contains pos = true)
    (hdefer : (s.conv tx p c).deferred.contains pos = false)
    (hfind : ((s.conv tx p c).idle.find? fun u => (s.conv tx p c).canServe pos u) = none)
    (hchrys : s.rd (chrysField tx p c) ≠ noUnit) (hserve : (s.conv tx p c).canServe pos (s.rd (chrysField tx p c)) = true) :
    s.takeover tx p c pos =
      (s.tookOver tx p c pos (((s.conv tx p c).earlierTrims (s.rd (chrysField tx p c))).serve pos (s.rd (chrysField tx p c)))
        noUnit).raise (takeoverEvt tx p c) := by
  unfold State.takeover
  dsimp only
  rw [if_pos ⟨hflag, by rw [hdefer]; exact Bool.false_ne_true⟩, hfind]
  dsimp only
  rw [if_neg (by simp [hchrys, hserve])]
  rfl

/-- A position that is not flagged, or is left to its next check window, is not taken over (R68, R69). -/
theorem State.takeover_rest (h : (s.conv tx p c).flagged.contains pos = false ∨ (s.conv tx p c).deferred.contains pos = true) :
    s.takeover tx p c pos = s := by
  unfold State.takeover
  dsimp only
  exact if_neg fun hno => h.elim (fun hf => by rw [hf] at hno; exact Bool.false_ne_true hno.1) hno.2

/-- A takeover changes nothing, or ends as every takeover does from a converter whose rotation stands where it stood. -/
theorem State.takeover_cases (s : State) (tx : Bool) (p : Port) (c : Fin 4) (pos : Nat) :
    s.takeover tx p c pos = s ∨ ∃ y left, y.nextPos = (s.conv tx p c).nextPos ∧
      s.takeover tx p c pos = (s.tookOver tx p c pos y left).raise (takeoverEvt tx p c) := by
  by_cases hrest : (s.conv tx p c).flagged.contains pos = false ∨ (s.conv tx p c).deferred.contains pos = true
  · exact .inl (State.takeover_rest hrest)
  · rw [not_or, Bool.not_eq_false, Bool.not_eq_true] at hrest
    obtain ⟨hflag, hdefer⟩ := hrest
    cases hfind : (s.conv tx p c).idle.find? fun u => (s.conv tx p c).canServe pos u with
    | some u =>
      refine .inr ⟨_, _, ?_, State.takeover_idle hflag hdefer hfind⟩
      rfl
    | none =>
      by_cases hchrys : s.rd (chrysField tx p c) ≠ noUnit ∧ (s.conv tx p c).canServe pos (s.rd (chrysField tx p c)) = true
      · obtain ⟨hunit, hserve⟩ := hchrys
        refine .inr ⟨_, _, ?_, State.takeover_chrysalis hflag hdefer hfind hunit hserve⟩
        rfl
      · left
        unfold State.takeover
        dsimp only
        rw [if_pos ⟨hflag, by rw [hdefer]; exact Bool.false_ne_true⟩, hfind]
        dsimp only
        rw [if_pos (by tauto)]

end

theorem completes_subconverterTakeover {tx : Bool} {p : Port} {c : Fin 4} {pos : Fin 256} {s : State} {P : State → Prop}
    (hclk : s.Clocked) (hP : P (s.takeover tx p c pos.val)) : Completes (.subconverterTakeover tx p c pos) s P :=
  ⟨_, by rw [exec, execSubconverterTakeover, State.clocked_run hclk], hP⟩

/-! ### Failed senses (R53) -/

theorem State.convDouble_conv (s : State) (tx : Bool) (p : Port) (ux : Bool) (q : Port) (c : Fin 4) :
    (s.convDouble tx p).conv ux q c = s.conv ux q c := by
  cases tx <;> exact s.conv_raise _ ux q c

theorem KeepsFieldsBut.convDouble {l : List Field} {s t : State} (h : KeepsFieldsBut l s t) (tx : Bool) (p : Port) :
    KeepsFieldsBut l s (t.convDouble tx p) := by
  cases tx <;> exact h.raise _

/-- A failed check flags its position, second fault or not (R68, R69). -/
theorem State.positionFail_flagged (s : State) (tx : Bool) (p : Port) (c : Fin 4) (pos cycle : Nat) :
    ((s.positionFail tx p c pos cycle).conv tx p c).flagged = addSorted (s.conv tx p c).flagged pos := by
  unfold State.positionFail
  dsimp only
  split
  · rw [State.conv_setConv_same]; rfl
  · split
    · rw [State.convDouble_conv, State.conv_setConv_same]; rfl
    · rw [State.conv_setConv_same]; rfl

theorem State.positionFail_keeps (s : State) (tx : Bool) (p : Port) (c : Fin 4) (pos cycle : Nat) :
    KeepsFieldsBut [] s (s.positionFail tx p c pos cycle) := by
  have hset := fun (u : State) (h : KeepsFieldsBut [] s u) x => h.convFrame (u.setConv_convFrame tx p c x)
  have hopen : KeepsFieldsBut [] s (s.openWindow (convBlock tx p c) cycle) := by
    rw [State.openWindow_frame]
    exact (KeepsFieldsBut.refl _ s).same rfl rfl
  unfold State.positionFail
  dsimp only
  split
  · exact hset s (.refl _ s) _
  · split
    · exact (hset s (.refl _ s) _).convDouble tx p
    · exact hset _ hopen _

theorem completes_txSubconverterSenseFail {p : Port} {c : Fin 4} {pos : Fin 256} {cycle : Nat} {s : State} {P : State → Prop}
    (hclk : s.Clocked) (hP : P (s.positionFail true p c pos.val cycle)) :
    Completes (.txSubconverterSenseFail p c pos cycle) s P :=
  ⟨_, by rw [exec, execTxSubconverterSenseFail, State.clocked_run hclk], hP⟩

end Sys2Proof.Machine
end

section
/-! Calibration runs (O37): how a run begins, is held, stops and ends. -/

namespace Sys2Proof.Machine

open F

/-! ### Flags -/

theorem State.on_wr_one (s : State) {f : Field} (h : f.width = 1) : (s.wr f 1).on f = true :=
  State.on_of_rd (by rw [State.rd_wr_same, h]; rfl)

theorem State.on_wr_zero (s : State) (f : Field) : (s.wr f 0).on f = false := by
  rw [State.on, State.rd_wr_same, Nat.zero_mod]
  rfl

theorem State.on_wr_ne (s : State) {f g : Field} (v : Nat) (h : f.key ≠ g.key) : (s.wr f v).on g = s.on g := by
  rw [State.on, State.rd_wr_ne _ _ h, State.on]

theorem State.on_raise (s : State) (e : Evt) {f : Field} (h : f.quiet = true) : (s.raise e).on f = s.on f := by
  rw [State.on, State.raise_rd _ _ _ h, State.on]

/-! ### The run of a port -/

theorem State.rd_onCal (s : State) (p : Port) (f : CalRun → CalRun) (g : Field) : (s.onCal p f).rd g = s.rd g := rfl

theorem State.on_onCal (s : State) (p : Port) (f : CalRun → CalRun) (g : Field) : (s.onCal p f).on g = s.on g := rfl

theorem State.counter_onCal (s : State) (p : Port) (f : CalRun → CalRun) (page off : Nat) :
    (s.onCal p f).counter page off = s.counter page off := rfl

theorem State.conv_onCal (s : State) (p : Port) (f : CalRun → CalRun) (tx : Bool) (q : Port) (c : Fin 4) :
    (s.onCal p f).conv tx q c = s.conv tx q c := rfl

theorem State.comparing_onCal (s : State) (p : Port) (f : CalRun → CalRun) (q : Port) :
    (s.onCal p f).comparing q = s.comparing q := rfl

theorem State.comparing_wr (s : State) (f : Field) (v : Nat) (q : Port) : (s.wr f v).comparing q = s.comparing q := rfl

theorem State.calRun_onCal_same (s : State) (p : Port) (f : CalRun → CalRun) :
    (s.onCal p f).calRun.get p = f (s.calRun.get p) := Pair.get_upd_same _ p f

theorem State.calRun_onCal_other (s : State) (p : Port) (f : CalRun → CalRun) :
    (s.onCal p f).calRun.get p.other = s.calRun.get p.other := Pair.get_upd_other _ p f

theorem KeepsFieldsBut.onCal {l : List Field} {s t : State} (h : KeepsFieldsBut l s t) (p : Port) (f : CalRun → CalRun) :
    KeepsFieldsBut l s (t.onCal p f) := h.same rfl rfl

/-! ### A run begins (R72) -/

/-- `CAL_STATUS` as a run begins, with the temperature latched. -/
def State.calLatched (s : State) (p : Port) : State :=
  let u := (s.wr (RXCONV.CAL_STATUS_RUN_ACTIVE p) 1).wr (RXCONV.CAL_STATUS_SKEW_SKIPPED p) 0
  u.wr (RXCONV.CAL_STATUS_T_REF p) (u.rd (RXCONV.CAL_TEMP_T_NOW p))

/-- Each converter has its pass before it. -/
def State.passesDue (s : State) (p : Port) : State :=
  s.forEach portConvs fun e s => s.setConv e.1 p e.2 { s.conv e.1 p e.2 with passLeft := 256 }

theorem State.passesDue_convFrame (s : State) (p : Port) : s.ConvFrame (s.passesDue p) :=
  s.forEach_convFrame _ _ fun _ u => u.setConv_convFrame _ p _ _

/-- The run of a port as it begins, with both phases before it; it is the first run if none began since power-on reset (R73). -/
def CalRun.begun (r : CalRun) : CalRun :=
  { r with rotating := true, skewing := true, implausible := false, skewDone := [], stopping := false, first := r.unrun,
           unrun := false }

theorem State.calBegin_eq (s : State) (p : Port) :
    s.calBegin p = (((s.calLatched p).passesDue p).onCal p CalRun.begun).skewSuspend p := rfl

theorem State.calBegin_rd (s : State) (p : Port) (f : Field) : (s.calBegin p).rd f = (s.calLatched p).rd f := by
  rw [State.calBegin_eq, State.skewSuspend, State.rd_onCal, State.rd_onCal]
  exact ((s.calLatched p).passesDue_convFrame p).rd f

theorem State.calBegin_counter (s : State) (p : Port) (page off : Nat) : (s.calBegin p).counter page off = s.counter page off := by
  rw [State.calBegin_eq, State.skewSuspend, State.counter_onCal, State.counter_onCal]
  exact ((s.calLatched p).passesDue_convFrame p).counter page off

theorem State.calBegin_calRun (s : State) (p : Port) :
    ∃ suspended, (s.calBegin p).calRun.get p = { (s.calRun.get p).begun with suspended := suspended } := by
  rw [State.calBegin_eq, State.skewSuspend, State.calRun_onCal_same, State.calRun_onCal_same,
    ((s.calLatched p).passesDue_convFrame p).calRun]
  exact ⟨_, rfl⟩

theorem State.calBegin_calRun_other (s : State) (p : Port) : (s.calBegin p).calRun.get p.other = s.calRun.get p.other := by
  rw [State.calBegin_eq, State.skewSuspend, State.calRun_onCal_other, State.calRun_onCal_other,
    ((s.calLatched p).passesDue_convFrame p).calRun]
  rfl

/-- `CAL_STATUS` once a run has begun (R72). -/
theorem State.calBegin_status (s : State) (p : Port) :
    (s.calBegin p).on (RXCONV.CAL_STATUS_RUN_ACTIVE p) = true ∧ (s.calBegin p).on (RXCONV.CAL_STATUS_SKEW_SKIPPED p) = false ∧
      (s.calBegin p).rd (RXCONV.CAL_STATUS_T_REF p) = s.rd (RXCONV.CAL_TEMP_T_NOW p) ∧
      (s.calBegin p).on (RXCONV.CAL_STATUS_RUN_PENDING p) = s.on (RXCONV.CAL_STATUS_RUN_PENDING p) := by
  have hon : ∀ f, (s.calBegin p).on f = (s.calLatched p).on f := fun f => by rw [State.on, State.calBegin_rd, State.on]
  refine ⟨?_, ?_, ?_, ?_⟩
  · rw [hon, State.calLatched, State.on_wr_ne _ _ (by cases p <;> decide), State.on_wr_ne _ _ (by cases p <;> decide)]
    exact s.on_wr_one rfl
  · rw [hon, State.calLatched, State.on_wr_ne _ _ (by cases p <;> decide)]
    exact State.on_wr_zero _ _
  · rw [State.calBegin_rd, State.calLatched, State.rd_wr_same, State.rd_wr_ne _ _ (by cases p <;> decide),
      State.rd_wr_ne _ _ (by cases p <;> decide)]
    exact Nat.mod_eq_of_lt (s.rd_lt (RXCONV.CAL_TEMP_T_NOW p))
  · rw [hon, State.calLatched, State.on_wr_ne _ _ (by cases p <;> decide), State.on_wr_ne _ _ (by cases p <;> decide),
      State.on_wr_ne _ _ (by cases p <;> decide)]

theorem State.calRequest_begins {s : State} {p : Port} (hhold : s.on (RXCONV.CAL_CFG_CAL_HOLD p) = false)
    (hactive : s.on (RXCONV.CAL_STATUS_RUN_ACTIVE p) = false) : s.calRequest p = s.calBegin p := by
  simp [State.calRequest, hhold, hactive]

theorem State.calRequest_pends {s : State} {p : Port} (hhold : s.on (RXCONV.CAL_CFG_CAL_HOLD p) = false)
    (hactive : s.on (RXCONV.CAL_STATUS_RUN_ACTIVE p) = true) :
    s.calRequest p = s.wr (RXCONV.CAL_STATUS_RUN_PENDING p) 1 := by
  simp [State.calRequest, hhold, hactive]

theorem completes_calNow {r : Requester} {p : Port} {s : State} {P : State → Prop} (htakes : s.Takes r (33 + 8 * p.toNat) 0x040)
    (hP : P (s.calRequest p)) : Completes (.calNow r p) s P :=
  ⟨_, by rw [exec, execCalNow, State.guarded_of_takes htakes], hP⟩

/-! ### The calibration store (R76) -/

/-- A converter with its trims and its map stored. -/
def ConvState.saved (x : ConvState) : ConvState :=
  { x with storeMap := x.map, storeOffset := x.offset, storeGain := x.gain, storeSkew := x.skew }

theorem State.conv_calStore (s : State) (p : Port) (tx : Bool) (c : Fin 4) :
    (s.calStore p).conv tx p c = (s.conv tx p c).saved.noted tx :=
  (State.conv_forEach_setConv ConvState.saved (by decide) s p (tx, c)).trans (if_pos (mem_portConvs _))

theorem State.calStore_convFrame (s : State) (p : Port) : s.ConvFrame (s.calStore p) :=
  s.forEach_convFrame _ _ fun _ u => u.setConv_convFrame _ p _ _

/-! ### A run that stops (R74) -/

theorem State.conv_calStopped (s : State) (p : Port) (tx : Bool) (c : Fin 4) :
    (s.calStopped p).conv tx p c = (s.conv tx p c).saved.noted tx := by
  rw [State.calStopped, State.conv_onCal, State.conv_wr, State.conv_calStore]

theorem State.calStopped_active (s : State) (p : Port) :
    (s.calStopped p).on (RXCONV.CAL_STATUS_RUN_ACTIVE p) = false := by
  rw [State.calStopped, State.on_onCal, State.on_wr_zero]

theorem State.calStopped_rd (s : State) (p : Port) {f : Field} (h : (RXCONV.CAL_STATUS_RUN_ACTIVE p).key ≠ f.key) :
    (s.calStopped p).rd f = s.rd f := by
  rw [State.calStopped, State.rd_onCal, State.rd_wr_ne _ _ h, (s.calStore_convFrame p).rd]

theorem State.calStopped_counter (s : State) (p : Port) (page off : Nat) :
    (s.calStopped p).counter page off = s.counter page off := by
  rw [State.calStopped, State.counter_onCal, State.counter_wr, (s.calStore_convFrame p).counter]

theorem KeepsFieldsBut.calStopped {l : List Field} {s t : State} (h : KeepsFieldsBut l s t) {p : Port}
    (hl : RXCONV.CAL_STATUS_RUN_ACTIVE p ∈ l) : KeepsFieldsBut l s (t.calStopped p) :=
  ((h.convFrame (t.calStore_convFrame p)).wr hl 0).onCal p _

/-! ### `CAL_HOLD` (R74) -/

/-- `CAL_HOLD` set, and no run pending. -/
def State.calHeld (s : State) (p : Port) : State :=
  (s.wr (RXCONV.CAL_CFG_CAL_HOLD p) 1).wr (RXCONV.CAL_STATUS_RUN_PENDING p) 0

theorem State.calHeld_status (s : State) (p : Port) :
    (s.calHeld p).on (RXCONV.CAL_CFG_CAL_HOLD p) = true ∧ (s.calHeld p).on (RXCONV.CAL_STATUS_RUN_PENDING p) = false ∧
      (s.calHeld p).on (RXCONV.CAL_STATUS_RUN_ACTIVE p) = s.on (RXCONV.CAL_STATUS_RUN_ACTIVE p) := by
  unfold State.calHeld
  refine ⟨?_, State.on_wr_zero _ _, ?_⟩
  · rw [State.on_wr_ne _ _ (by cases p <;> decide)]
    exact s.on_wr_one rfl
  · rw [State.on_wr_ne _ _ (by cases p <;> decide), State.on_wr_ne _ _ (by cases p <;> decide)]

theorem State.calHeld_keeps (s : State) (p : Port) {l : List Field} (hhold : RXCONV.CAL_CFG_CAL_HOLD p ∈ l)
    (hpending : RXCONV.CAL_STATUS_RUN_PENDING p ∈ l) : KeepsFieldsBut l s (s.calHeld p) :=
  ((KeepsFieldsBut.refl l s).wr hhold 1).wr hpending 0

/-- A held run that stops with its current step. -/
def State.calStopping (s : State) (p : Port) : State :=
  (s.calHeld p).onCal p fun r => { r with rotating := false, skewing := false, suspended := false, stopping := true }

theorem State.calHold_idle {s : State} {p : Port} (hactive : s.on (RXCONV.CAL_STATUS_RUN_ACTIVE p) = false) :
    s.calHold p = s.calHeld p := by
  obtain ⟨-, -, hon⟩ := s.calHeld_status p
  exact if_neg (by rw [← Bool.not_eq_false, not_not]; exact hon.trans hactive)

theorem State.calHold_active {s : State} {p : Port} (hactive : s.on (RXCONV.CAL_STATUS_RUN_ACTIVE p) = true) :
    s.calHold p = if s.comparing p then s.calStopping p else (s.calStopping p).calStopped p := by
  obtain ⟨-, -, hon⟩ := s.calHeld_status p
  have hcompare : (s.calStopping p).comparing p = s.comparing p := by
    rw [State.calStopping, State.comparing_onCal, State.calHeld, State.comparing_wr, State.comparing_wr]
  rw [← hcompare]
  exact if_pos (hon.trans hactive)

theorem completes_calHoldSet {r : Requester} {p : Port} {s : State} {P : State → Prop}
    (htakes : s.Takes r (34 + 8 * p.toNat) 0x040) (hP : P (s.calHold p)) : Completes (.calHoldSet r p) s P :=
  ⟨_, by rw [exec, execCalHoldSet, State.guarded_of_takes htakes], hP⟩

/-! ### The skew phase without a carrier (R72) -/

theorem completes_skewPhaseTimeout {p : Port} {s : State} {P : State → Prop} (hclk : s.Clocked)
    (hactive : s.on (RXCONV.CAL_STATUS_RUN_ACTIVE p) = true) (hskew : (s.calRun.get p).skewing = true)
    (hcarrier : s.on (RXFE.ACQ_STATUS_CARRIER p) = false)
    (hP : P ((s.onCal p fun r => { r with skewing := false }).wr (RXCONV.CAL_STATUS_SKEW_SKIPPED p) 1)) :
    Completes (.skewPhaseTimeout p) s P := by
  refine ⟨_, ?_, hP⟩
  rw [exec, execSkewPhaseTimeout, State.clocked_run hclk, if_pos ⟨hactive, hskew, by rw [hcarrier]; exact Bool.false_ne_true⟩]

/-! ### A run ends (R72, R76) -/

/-- No entry of the calibration store is marked as uncorrectable (R407). -/
def State.calMarksCleared (s : State) : State := { s with mem := { s.mem with calInvalid := [] } }

theorem State.conv_calMarksCleared (s : State) (tx : Bool) (p : Port) (c : Fin 4) :
    s.calMarksCleared.conv tx p c = s.conv tx p c := rfl

theorem State.counter_calMarksCleared (s : State) (page off : Nat) :
    s.calMarksCleared.counter page off = s.counter page off := rfl

theorem KeepsFieldsBut.calMarksCleared {l : List Field} {s t : State} (h : KeepsFieldsBut l s t) :
    KeepsFieldsBut l s t.calMarksCleared := h.same rfl rfl

/-- A run that ends, before its event (R72, R76). -/
def State.calClosed (s : State) (p : Port) : State :=
  ((s.calStore p).calMarksCleared.onCal p fun r => { r with first := false, sinceMs := 0, rotating := false }).wr
    (RXCONV.CAL_STATUS_RUN_ACTIVE p) 0

theorem State.calClosed_keeps (s : State) (p : Port) :
    KeepsFieldsBut [RXCONV.CAL_STATUS_RUN_ACTIVE p] s (s.calClosed p) :=
  (((KeepsFieldsBut.refl _ s).convFrame (s.calStore_convFrame p)).calMarksCleared.onCal p _).wr List.mem_cons_self 0

theorem State.calClosed_counter (s : State) (p : Port) (page off : Nat) :
    (s.calClosed p).counter page off = s.counter page off := by
  rw [State.calClosed, State.counter_wr, State.counter_onCal, State.counter_calMarksCleared, (s.calStore_convFrame p).counter]

theorem State.conv_calClosed (s : State) (p : Port) (tx : Bool) (c : Fin 4) :
    (s.calClosed p).conv tx p c = (s.conv tx p c).saved.noted tx := by
  rw [State.calClosed, State.conv_wr, State.conv_onCal, State.conv_calMarksCleared, State.conv_calStore]

theorem State.calClosed_sinceMs (s : State) (p : Port) : ((s.calClosed p).calRun.get p).sinceMs = 0 := by
  rw [State.calClosed, State.wr_calRun, State.calRun_onCal_same]

theorem State.calClosed_marks (s : State) (p : Port) : (s.calClosed p).mem.calInvalid = [] := by
  unfold State.calClosed
  generalize s.calStore p = u
  rfl

/-- The event of a completed run (R76). -/
def State.calEnded (s : State) (p : Port) : State := (s.calClosed p).raise (Ev.RXCONV.calCompleted p)

theorem State.calEnded_counted {s : State} {p : Port} (hclk : s.Clocked) :
    Counted (Ev.RXCONV.calCompleted p) s (s.calEnded p) :=
  State.counted_raise_of_keeps hclk (s.calClosed_keeps p) (by cases p <;> decide)
    (s.calClosed_counter p _ _) (by cases p <;> decide)

theorem State.calEnded_active (s : State) (p : Port) : (s.calEnded p).on (RXCONV.CAL_STATUS_RUN_ACTIVE p) = false :=
  (State.on_raise _ _ (by cases p <;> decide)).trans (State.on_wr_zero _ _)

/-- The end of a run leaves a pending run and `CAL_HOLD` as they are. -/
theorem State.calEnded_on (s : State) (p : Port) {f : Field} (hq : f.quiet = true)
    (hf : (RXCONV.CAL_STATUS_RUN_ACTIVE p).key ≠ f.key) : (s.calEnded p).on f = s.on f := by
  have hrd := ((s.calClosed_keeps p).raise (Ev.RXCONV.calCompleted p) f hq (by simpa using hf.symm)).1
  rw [State.on, State.calEnded, hrd, State.on]

theorem State.conv_calEnded (s : State) (p : Port) (tx : Bool) (c : Fin 4) :
    (s.calEnded p).conv tx p c = (s.conv tx p c).saved.noted tx :=
  (State.conv_raise _ _ tx p c).trans (s.conv_calClosed p tx c)

theorem completes_calRunEnd {p : Port} {s : State} {P : State → Prop} (hclk : s.Clocked)
    (hactive : s.on (RXCONV.CAL_STATUS_RUN_ACTIVE p) = true)
    (hrot : (s.calRun.get p).rotating = false ∨ s.rotationOver p = true) (hskew : (s.calRun.get p).skewing = false)
    (hstop : (s.calRun.get p).stopping = false)
    (hP : P (if s.on (RXCONV.CAL_STATUS_RUN_PENDING p) then
      ((s.calEnded p).wr (RXCONV.CAL_STATUS_RUN_PENDING p) 0).calRequest p else s.calEnded p)) :
    Completes (.calRunEnd p) s P := by
  refine ⟨_, ?_, hP⟩
  have hpending := s.calEnded_on p (f := RXCONV.CAL_STATUS_RUN_PENDING p) (by cases p <;> decide) (by cases p <;> decide)
  rw [exec, execCalRunEnd, State.clocked_run hclk, ← hpending]
  dsimp only
  rw [if_pos ⟨hactive, hrot.imp_left (by simp), by simp [hskew], by simp [hstop]⟩]
  rfl

end Sys2Proof.Machine
end

section
/-! Rotation steps and eclosion compares (O37). -/

namespace Sys2Proof.Machine

open F

/-! ### A rotation step (R71, R75) -/

section
variable {s : State} {tx : Bool} {p : Port} {c : Fin 4} {m : CalMeas}

theorem State.convSpares_pos_of_chrys (h : s.rd (chrysField tx p c) ≠ noUnit) : s.convSpares tx p c ≠ 0 := by
  unfold State.convSpares
  dsimp only
  rw [if_neg h]
  omega

theorem State.convSpares_pos_of_idle {u : Nat} {rest : List Nat} (h : (s.conv tx p c).idle = u :: rest) :
    s.convSpares tx p c ≠ 0 := by
  unfold State.convSpares
  dsimp only
  rw [h, List.length_cons]
  omega

theorem State.calMeasure_noUnit (h : s.rd (chrysField tx p c) = noUnit) : s.calMeasure tx p c m = s := if_pos h

theorem State.calReturn_none (h : (s.conv tx p c).returning = []) : s.calReturn tx p c = s := by
  unfold State.calReturn
  dsimp only
  rw [h]

/-- A converter that took over the trims measured of its unit in chrysalis, which is idle then (R71, R72). -/
def ConvState.measured (x : ConvState) (u : Nat) (m : CalMeas) : ConvState :=
  { x with offset := Tab.set 0 x.offset u m.offset, gain := Tab.set 0 x.gain u m.gain, idle := x.idle ++ [u], classing := false }

/-- The trims of the unit in chrysalis taken over, and chrysalis free (R71). -/
def State.afterMeasure (s : State) (tx : Bool) (p : Port) (c : Fin 4) (m : CalMeas) : State :=
  (s.setConv tx p c ((s.conv tx p c).measured (s.rd (chrysField tx p c)) m)).wr (chrysField tx p c) noUnit

theorem State.conv_afterMeasure (s : State) (tx : Bool) (p : Port) (c : Fin 4) (m : CalMeas) :
    (s.afterMeasure tx p c m).conv tx p c = ((s.conv tx p c).measured (s.rd (chrysField tx p c)) m).noted tx := by
  rw [State.afterMeasure, State.conv_wr, State.conv_setConv_same]

theorem State.afterMeasure_rd_chrys (s : State) (tx : Bool) (p : Port) (c : Fin 4) (m : CalMeas) :
    (s.afterMeasure tx p c m).rd (chrysField tx p c) = noUnit := State.rd_wr_chrys _ tx p c noUnit

theorem State.afterMeasure_keeps (s : State) (tx : Bool) (p : Port) (c : Fin 4) (m : CalMeas) :
    KeepsFieldsBut [chrysField tx p c] s (s.afterMeasure tx p c m) :=
  ((KeepsFieldsBut.refl _ s).convFrame (s.setConv_convFrame tx p c _)).wr List.mem_cons_self noUnit

/-- A plausible measurement in the rotation phase of a run (R71 to R73). -/
theorem State.calMeasure_plausible (hchrys : s.rd (chrysField tx p c) ≠ noUnit) (hclass : (s.conv tx p c).classing = false)
    (hrot : (s.calRun.get p).rotating = true) (htest : m.selfTest = true)
    (hoffset : plausible (s.plaus p (RXCONV.CAL_LIMITS_OFFSET_PLAUS p))
      (Tab.get 0 (s.conv tx p c).offset (s.rd (chrysField tx p c))) m.offset = true)
    (hgain : plausible (s.plaus p (RXCONV.CAL_LIMITS_GAIN_PLAUS p))
      (Tab.get 0 (s.conv tx p c).gain (s.rd (chrysField tx p c))) m.gain = true) :
    s.calMeasure tx p c m = s.afterMeasure tx p c m := by
  simp only [State.calMeasure, hchrys, htest, hrot, hoffset, hgain, hclass, if_false, if_true, Bool.not_true, Bool.and_true,
    Bool.false_eq_true]
  rfl

/-- A rotation step, once what comes before its comparison has left chrysalis free and a unit idle (R71). -/
theorem completes_calStep {t : State} {u : Nat} {rest : List Nat} {P : State → Prop} (hclk : s.Clocked)
    (hspares : s.convSpares tx p c ≠ 0) (hcompare : (s.conv tx p c).compare = none)
    (ht : (s.calMeasure tx p c m).calReturn tx p c = t) (hidle : (t.conv tx p c).idle = u :: rest)
    (hchrys : t.rd (chrysField tx p c) = noUnit)
    (hP : P (t.setConv tx p c { t.conv tx p c with compare := some (u, (t.conv tx p c).stepPos) })) :
    Completes (.calStep tx p c m) s P := by
  refine ⟨_, ?_, hP⟩
  rw [exec, execCalStep, State.clocked_run hclk, if_neg (by simp [hspares, hcompare])]
  dsimp only
  rw [ht, hidle]
  dsimp only
  rw [if_pos hchrys]

end

/-! ### An eclosion compare (R71, R74) -/

/-- A run that `CAL_HOLD` stops ends with its last comparison (R74). -/
def State.afterCompare (s : State) (p : Port) : State :=
  s.cond ((s.calRun.get p).stopping && !s.comparing p) fun s => s.calStopped p

/-- What storing a converter's trims leaves of it, the end of a comparison leaves. -/
theorem State.afterCompare_conv_keeps {β : Type} (g : ConvState → β) (hg : ∀ (x : ConvState) tx, g (x.saved.noted tx) = g x)
    (s : State) (p : Port) (tx : Bool) (c : Fin 4) : g ((s.afterCompare p).conv tx p c) = g (s.conv tx p c) := by
  unfold State.afterCompare
  cases (s.calRun.get p).stopping && !s.comparing p
  · rfl
  · rw [State.cond_true, State.conv_calStopped, hg]

theorem State.afterCompare_rd_chrys (s : State) (tx : Bool) (p : Port) (c : Fin 4) :
    (s.afterCompare p).rd (chrysField tx p c) = s.rd (chrysField tx p c) := by
  unfold State.afterCompare
  cases (s.calRun.get p).stopping && !s.comparing p
  · rfl
  · exact s.calStopped_rd p (chrysField_key_ne_runActive tx p c)

theorem State.afterCompare_counter (s : State) (p : Port) (page off : Nat) :
    (s.afterCompare p).counter page off = s.counter page off := by
  unfold State.afterCompare
  cases (s.calRun.get p).stopping && !s.comparing p
  · rfl
  · exact s.calStopped_counter p page off

theorem KeepsFieldsBut.afterCompare {l : List Field} {s t : State} (h : KeepsFieldsBut l s t) {p : Port}
    (hl : RXCONV.CAL_STATUS_RUN_ACTIVE p ∈ l) : KeepsFieldsBut l s (t.afterCompare p) :=
  h.cond fun _ => h.calStopped hl

section
variable {s : State} {tx : Bool} {p : Port} {c : Fin 4} {diff u pos : Nat}

theorem completes_calEclosionCompareDone_good {P : State → Prop} (hclk : s.Clocked)
    (hcompare : (s.conv tx p c).compare = some (u, pos)) (hdiff : diff ≤ s.rd (RXCONV.CAL_LIMITS_ECL_LIMIT p))
    (hP : P ((s.compareGood tx p c u pos).afterCompare p)) : Completes (.calEclosionCompareDone tx p c diff) s P := by
  refine ⟨_, ?_, hP⟩
  rw [exec, execCalEclosionCompareDone, State.clocked_run hclk, hcompare]
  dsimp only
  rw [if_pos hdiff]
  rfl

theorem completes_calEclosionCompareDone_bad {P : State → Prop} (hclk : s.Clocked)
    (hcompare : (s.conv tx p c).compare = some (u, pos)) (hdiff : s.rd (RXCONV.CAL_LIMITS_ECL_LIMIT p) < diff)
    (hP : P ((s.compareBad tx p c u).afterCompare p)) : Completes (.calEclosionCompareDone tx p c diff) s P := by
  refine ⟨_, ?_, hP⟩
  rw [exec, execCalEclosionCompareDone, State.clocked_run hclk, hcompare]
  dsimp only
  rw [if_neg (Nat.not_le.2 hdiff)]
  rfl

/-- The rotation phase ends with its last exchange (R72). -/
def State.afterExchange (s : State) (p : Port) : State :=
  s.cond (s.rotationOver p) fun s => s.onCal p fun r => { r with rotating := false }

theorem State.conv_afterExchange (s : State) (q : Port) (tx : Bool) (p : Port) (c : Fin 4) :
    (s.afterExchange q).conv tx p c = s.conv tx p c := by
  unfold State.afterExchange
  cases s.rotationOver q <;> rfl

theorem State.rd_afterExchange (s : State) (p : Port) (f : Field) : (s.afterExchange p).rd f = s.rd f := by
  unfold State.afterExchange
  cases s.rotationOver p <;> rfl

theorem KeepsFieldsBut.afterExchange {l : List Field} {s t : State} (h : KeepsFieldsBut l s t) (p : Port) :
    KeepsFieldsBut l s (t.afterExchange p) := h.cond fun _ => h.onCal p _

/-- The converter that a comparison has ended on: its unit leaves the idle queue, and chrysalis makes room. -/
def State.compared (s : State) (tx : Bool) (p : Port) (c : Fin 4) (u : Nat) : ConvState :=
  ({ s.conv tx p c with compare := none, idle := (s.conv tx p c).idle.filter (· != u) } : ConvState).vacate
    (s.rd (chrysField tx p c))

theorem State.compared_sameService (s : State) (tx : Bool) (p : Port) (c : Fin 4) (u : Nat) :
    ConvState.SameService { s.conv tx p c with compare := none } (s.compared tx p c u) :=
  ConvState.SameService.trans (y := { s.conv tx p c with compare := none, idle := (s.conv tx p c).idle.filter (· != u) }) rfl
    (ConvState.vacate_sameService _ _)

/-- The units exchanged by a comparison within the limit (R71). -/
def State.exchanged (s : State) (tx : Bool) (p : Port) (c : Fin 4) (u pos : Nat) : State :=
  let x := s.conv tx p c
  let made := (pos + 256 - x.nextPos) % 256 + 1
  s.toChrysalis tx p c
    (({ s.compared tx p c u with passLeft := x.passLeft - made, nextPos := (pos + 1) % 256 } : ConvState).serve pos u)
    (x.unitAt pos) false

theorem State.compareGood_exchanges (hflag : (s.conv tx p c).flagged.contains pos = false) :
    s.compareGood tx p c u pos = (s.exchanged tx p c u pos).afterExchange p := if_neg (by rw [hflag]; exact Bool.false_ne_true)

/-- A position flagged meanwhile is left to its takeover (R68). -/
theorem State.compareGood_flagged (hflag : (s.conv tx p c).flagged.contains pos = true) :
    s.compareGood tx p c u pos = (s.setConv tx p c { s.conv tx p c with compare := none }).takeover tx p c pos := if_pos hflag

end

section
variable (s : State) (tx : Bool) (p : Port) (c : Fin 4) (u pos : Nat)

theorem State.exchanged_conv :
    ((s.exchanged tx p c u pos).conv tx p c).unitAt pos = u ∧
      (∀ q, q ≠ pos → ((s.exchanged tx p c u pos).conv tx p c).unitAt q = (s.conv tx p c).unitAt q) ∧
      ((s.exchanged tx p c u pos).conv tx p c).compare = none ∧
      ((s.exchanged tx p c u pos).conv tx p c).nextPos = (pos + 1) % 256 := by
  have hroom := s.compared_sameService tx p c u
  have hsame := s.toChrysalis_sameService tx p c
    (({ s.compared tx p c u with
        passLeft := (s.conv tx p c).passLeft - ((pos + 256 - (s.conv tx p c).nextPos) % 256 + 1),
        nextPos := (pos + 1) % 256 } : ConvState).serve pos u) ((s.conv tx p c).unitAt pos) false
  refine ⟨(hsame.unitAt pos).trans (ConvState.unitAt_serve_same _ pos u), fun q hq => ?_, ?_, hsame.keeps ConvState.nextPos rfl⟩
  · exact ((hsame.unitAt q).trans (ConvState.unitAt_serve_ne _ u hq)).trans (hroom.unitAt q)
  · exact (hsame.keeps ConvState.compare rfl).trans (hroom.keeps ConvState.compare rfl)

theorem State.compareBad_conv :
    ((s.compareBad tx p c u).conv tx p c).map = (s.conv tx p c).map ∧ ((s.compareBad tx p c u).conv tx p c).compare = none ∧
      ((s.compareBad tx p c u).conv tx p c).classing = true := by
  have hroom := s.compared_sameService tx p c u
  have hconv : (s.compareBad tx p c u).conv tx p c = (s.toChrysalis tx p c (s.compared tx p c u) u true).conv tx p c :=
    State.conv_raise _ _ tx p c
  have hsame := s.toChrysalis_sameService tx p c (s.compared tx p c u) u true
  rw [hconv]
  refine ⟨(hsame.keeps ConvState.map rfl).trans (hroom.keeps ConvState.map rfl),
    (hsame.keeps ConvState.compare rfl).trans (hroom.keeps ConvState.compare rfl), ?_⟩
  rw [State.conv_toChrysalis]
  rfl

theorem State.compareBad_rd_chrys : (s.compareBad tx p c u).rd (chrysField tx p c) = u % 2 ^ 9 :=
  (State.raise_rd _ _ _ (chrysField_quiet tx p c)).trans (s.toChrysalis_rd_chrys tx p c _ u true)

variable {s} in
theorem State.compareBad_counted (hclk : s.Clocked) : Counted (Ev.RXCONV.compareFailed p) s (s.compareBad tx p c u) :=
  State.counted_raise_of_keeps (l := [chrysField tx p c]) hclk
    (s.toChrysalis_keeps tx p c (s.compared tx p c u) u true List.mem_cons_self)
    (by simpa using rclkOk_key_ne_chrysField tx p c) (s.toChrysalis_counter tx p c _ u true _ _) (by cases p <;> decide)

/-- A comparison on a position flagged meanwhile ends, and the rotation stays where it was. -/
theorem State.compareGood_flagged_conv (hflag : (s.conv tx p c).flagged.contains pos = true) :
    ((s.compareGood tx p c u pos).conv tx p c).compare = none ∧
      ((s.compareGood tx p c u pos).conv tx p c).nextPos = (s.conv tx p c).nextPos := by
  rw [State.compareGood_flagged hflag]
  generalize hv : s.setConv tx p c { s.conv tx p c with compare := none } = v
  have hconv : v.conv tx p c = ({ s.conv tx p c with compare := none } : ConvState).noted tx := by
    rw [← hv]
    exact s.conv_setConv_same tx p c _
  have hnext : (v.conv tx p c).nextPos = (s.conv tx p c).nextPos := by
    rw [hconv]
    rfl
  obtain heq | ⟨y, left, hy, heq⟩ := v.takeover_cases tx p c pos
  · rw [heq]
    exact ⟨by rw [hconv]; rfl, hnext⟩
  · have hsame := v.tookOver_sameService tx p c pos y left
    rw [heq, State.conv_raise]
    exact ⟨hsame.keeps ConvState.compare rfl, ((hsame.keeps ConvState.nextPos rfl).trans hy).trans hnext⟩

end

/-- Settles O37: each clause is one operation on the converters of a port or on its calibration run. -/
theorem calibrationRunsAndTakeovers : Obligations.CalibrationRunsAndTakeovers := by
  unfold Obligations.CalibrationRunsAndTakeovers
  refine ⟨?idleTakes, ?chrysTakes, ?rests, ?senseFails, ?begins, ?pends, ?holds, ?holdStops, ?noCarrier, ?ends, ?follows,
    ?compares, ?measures, ?exchanges, ?left, ?fails⟩
  case idleTakes =>
    intro tx p c pos u s hclk hflag hdefer hfind hunit
    refine completes_subconverterTakeover hclk ?_
    rw [State.takeover_idle hflag hdefer hfind]
    obtain ⟨hpos, hothers, hdone⟩ := s.tookOver_serve tx p c pos.val
      { s.conv tx p c with idle := (s.conv tx p c).idle.filter (· != u) } (s.rd (chrysField tx p c)) u
    refine ⟨hpos, hdone, ?_, hothers, State.tookOver_counted tx p c _ _ _ hclk, (s.tookOver_keeps tx p c _ _ _).raise _⟩
    rw [State.raise_rd _ _ _ (chrysField_quiet tx p c), State.tookOver_rd_chrys, Nat.mod_eq_of_lt (s.rd_chrys_lt tx p c),
      Nat.mod_eq_of_lt (show _ < 2 ^ 9 from hunit)]
  case chrysTakes =>
    intro tx p c pos s hclk hflag hdefer hfind hchrys hserve
    refine completes_subconverterTakeover hclk ?_
    rw [State.takeover_chrysalis hflag hdefer hfind hchrys hserve]
    obtain ⟨hpos, -, hdone⟩ := s.tookOver_serve tx p c pos.val
      ((s.conv tx p c).earlierTrims (s.rd (chrysField tx p c))) noUnit (s.rd (chrysField tx p c))
    have hsame := s.tookOver_sameService tx p c pos.val
      (((s.conv tx p c).earlierTrims (s.rd (chrysField tx p c))).serve pos.val (s.rd (chrysField tx p c))) noUnit
    refine ⟨hpos, ?_, ?_, hdone, State.tookOver_counted tx p c _ _ _ hclk⟩
    · rw [State.conv_raise, hsame.keeps ConvState.offset rfl]
      exact Tab.get_set_same _ _ _ _
    · rw [State.conv_raise, hsame.keeps ConvState.gain rfl]
      exact Tab.get_set_same _ _ _ _
  case rests =>
    intro tx p c pos s hclk h
    exact completes_subconverterTakeover hclk (State.takeover_rest h)
  case senseFails =>
    intro p c pos cycle s hclk
    refine completes_txSubconverterSenseFail hclk ?_
    rw [State.positionFail_flagged]
    refine ⟨contains_addSorted_same _ _, fun q hq => ?_, s.positionFail_keeps true p c _ _⟩
    rw [Bool.eq_iff_iff, List.contains_iff_mem, List.contains_iff_mem, mem_addSorted, or_iff_right hq]
  case begins =>
    intro r p s htakes hhold hactive
    refine completes_calNow htakes ?_
    rw [State.calRequest_begins hhold hactive]
    obtain ⟨hon, hskip, href, -⟩ := s.calBegin_status p
    obtain ⟨suspended, hrun⟩ := s.calBegin_calRun p
    rw [hrun]
    exact ⟨hon, hskip, href, rfl, rfl, rfl, rfl, s.calBegin_calRun_other p⟩
  case pends =>
    intro r p s htakes hhold hactive
    refine completes_calNow htakes ?_
    rw [State.calRequest_pends hhold hactive]
    exact ⟨s.on_wr_one rfl, rfl, (KeepsFieldsBut.refl _ s).wr List.mem_cons_self 1⟩
  case holds =>
    intro r p s htakes h
    refine completes_calHoldSet htakes ?_
    obtain ⟨hhold, hpending, -⟩ := s.calHeld_status p
    have hkeep := s.calHeld_keeps p (l := [RXCONV.CAL_CFG_CAL_HOLD p, RXCONV.CAL_STATUS_RUN_PENDING p]) (by simp) (by simp)
    by_cases hactive : s.on (RXCONV.CAL_STATUS_RUN_ACTIVE p) = true
    · rw [State.calHold_active hactive, if_pos (h.resolve_left (by simp [hactive]))]
      refine ⟨hhold, hpending, rfl, rfl, fun _ => ?_, hkeep.same rfl rfl⟩
      cases p <;> rfl
    · rw [State.calHold_idle (Bool.eq_false_iff.2 hactive)]
      exact ⟨hhold, hpending, rfl, rfl, fun hon => absurd hon hactive, hkeep⟩
  case holdStops =>
    intro r p s htakes hactive hcompare
    refine completes_calHoldSet htakes ?_
    obtain ⟨hhold, hpending, -⟩ := s.calHeld_status p
    have hkeep := s.calHeld_keeps p (l := [RXCONV.CAL_CFG_CAL_HOLD p, RXCONV.CAL_STATUS_RUN_ACTIVE p,
      RXCONV.CAL_STATUS_RUN_PENDING p]) (by simp) (by simp)
    rw [State.calHold_active hactive, if_neg (by simp [hcompare])]
    have hon : ∀ f, (RXCONV.CAL_STATUS_RUN_ACTIVE p).key ≠ f.key →
        ((s.calStopping p).calStopped p).on f = (s.calHeld p).on f := fun f hf => by
      rw [State.on, State.calStopped_rd _ p hf, State.calStopping, State.rd_onCal, State.on]
    refine ⟨(hon _ (by cases p <;> decide)).trans hhold, State.calStopped_active _ p,
      (hon _ (by cases p <;> decide)).trans hpending, fun tx c => ?_,
      (hkeep.onCal p _).calStopped (by simp)⟩
    rw [State.conv_calStopped, State.calStopping, State.conv_onCal, State.calHeld, State.conv_wr, State.conv_wr]
    exact ⟨rfl, rfl, rfl, rfl⟩
  case noCarrier =>
    intro p s hclk hactive hskew hcarrier
    refine completes_skewPhaseTimeout hclk hactive hskew hcarrier ⟨State.on_wr_one _ rfl, ?_, ?_⟩
    · cases p <;> rfl
    · exact ((KeepsFieldsBut.refl _ s).same (u := s.onCal p _) rfl rfl).wr List.mem_cons_self 1
  case ends =>
    intro p s hclk hactive hrot hskew hstop hpending
    refine completes_calRunEnd hclk hactive hrot hskew hstop ?_
    rw [hpending, if_neg Bool.false_ne_true]
    refine ⟨s.calEnded_active p, ?_, fun tx c => ?_, ?_, State.calEnded_counted hclk, (s.calClosed_keeps p).raise _⟩
    · rw [State.calEnded, State.raise_calRun, State.calClosed_sinceMs]
    · rw [State.conv_calEnded]
      exact ⟨rfl, rfl, rfl, rfl⟩
    · rw [State.calEnded, State.raise_mem, State.calClosed_marks]
  case follows =>
    intro p s hclk hactive hrot hskew hstop hpending hhold
    refine completes_calRunEnd hclk hactive hrot hskew hstop ?_
    rw [if_pos hpending]
    generalize hv : (s.calEnded p).wr (RXCONV.CAL_STATUS_RUN_PENDING p) 0 = v
    have hv_active : v.on (RXCONV.CAL_STATUS_RUN_ACTIVE p) = false := by
      rw [← hv, State.on_wr_ne _ _ (by cases p <;> decide), State.calEnded_active]
    have hv_hold : v.on (RXCONV.CAL_CFG_CAL_HOLD p) = false := by
      rw [← hv, State.on_wr_ne _ _ (by cases p <;> decide), State.calEnded_on _ p (by cases p <;> decide) (by cases p <;> decide),
        hhold]
    obtain ⟨hon, -, -, hleft⟩ := v.calBegin_status p
    obtain ⟨suspended, hrun⟩ := v.calBegin_calRun p
    rw [State.calRequest_begins hv_hold hv_active, hrun]
    refine ⟨hon, hleft.trans ?_, rfl, rfl, ?_⟩
    · rw [← hv, State.on_wr_zero]
    · rw [Counted, State.calBegin_counter, ← hv]
      exact State.calEnded_counted hclk
  case compares =>
    intro tx p c m u rest s hclk hchrys hidle hcompare hreturning
    refine completes_calStep hclk (State.convSpares_pos_of_idle hidle) hcompare
      (by rw [State.calMeasure_noUnit hchrys, State.calReturn_none hreturning]) hidle hchrys ?_
    rw [State.conv_setConv_same]
    exact ⟨rfl, hidle, (s.setConv_convFrame tx p c _).keeps State.regs rfl⟩
  case measures =>
    intro tx p c m s hclk hchrys hcompare hreturning hclass hrot htest hoffset hgain
    have hconv := s.conv_afterMeasure tx p c m
    have hreturn : (s.calMeasure tx p c m).calReturn tx p c = s.afterMeasure tx p c m := by
      rw [State.calMeasure_plausible hchrys hclass hrot htest hoffset hgain]
      exact State.calReturn_none (by rw [hconv]; exact hreturning)
    obtain ⟨u, rest, hcons⟩ : ∃ u rest, (s.conv tx p c).idle ++ [s.rd (chrysField tx p c)] = u :: rest :=
      List.exists_cons_of_ne_nil (by simp)
    refine completes_calStep hclk (State.convSpares_pos_of_chrys hchrys) hcompare hreturn (by rw [hconv]; exact hcons)
      (s.afterMeasure_rd_chrys tx p c m) ?_
    have hframe := fun x => (s.afterMeasure tx p c m).setConv_convFrame tx p c x
    rw [State.conv_setConv_same, hconv]
    refine ⟨Tab.get_set_same _ _ _ _, Tab.get_set_same _ _ _ _, rfl, ?_, ?_, (s.afterMeasure_keeps tx p c m).convFrame (hframe _)⟩
    · rw [hcons]
      rfl
    · rw [(hframe _).rd, State.afterMeasure_rd_chrys]
  case exchanges =>
    intro tx p c diff u pos s hclk hcompare hdiff hflag
    refine completes_calEclosionCompareDone_good hclk hcompare hdiff ?_
    rw [State.compareGood_exchanges hflag]
    obtain ⟨hpos, hothers, hnone, hnext⟩ := s.exchanged_conv tx p c u pos
    have hconv : ∀ {β : Type} (g : ConvState → β), (∀ (x : ConvState) tx, g (x.saved.noted tx) = g x) →
        g ((((s.exchanged tx p c u pos).afterExchange p).afterCompare p).conv tx p c) =
          g ((s.exchanged tx p c u pos).conv tx p c) := fun g hg => by
      rw [State.afterCompare_conv_keeps g hg, State.conv_afterExchange]
    have hkeep : KeepsFieldsBut [chrysField tx p c, RXCONV.CAL_STATUS_RUN_ACTIVE p] s (s.exchanged tx p c u pos) :=
      s.toChrysalis_keeps tx p c _ _ false (by simp)
    refine ⟨(hconv (fun x => x.unitAt pos) fun _ _ => rfl).trans hpos,
      fun q hq => (hconv (fun x => x.unitAt q) fun _ _ => rfl).trans (hothers q hq),
      (hconv ConvState.compare fun _ _ => rfl).trans hnone, (hconv ConvState.nextPos fun _ _ => rfl).trans hnext, ?_,
      (hkeep.afterExchange p).afterCompare (by simp)⟩
    rw [State.afterCompare_rd_chrys, State.rd_afterExchange]
    exact s.toChrysalis_rd_chrys tx p c _ _ false
  case left =>
    intro tx p c diff u pos s hclk hcompare hdiff hflag
    refine completes_calEclosionCompareDone_good hclk hcompare hdiff ?_
    obtain ⟨hnone, hnext⟩ := s.compareGood_flagged_conv tx p c u pos hflag
    exact ⟨(State.afterCompare_conv_keeps ConvState.compare (fun _ _ => rfl) _ p tx c).trans hnone,
      (State.afterCompare_conv_keeps ConvState.nextPos (fun _ _ => rfl) _ p tx c).trans hnext⟩
  case fails =>
    intro tx p c diff u pos s hclk hcompare hdiff
    refine completes_calEclosionCompareDone_bad hclk hcompare hdiff ?_
    obtain ⟨hmap, hnone, hclass⟩ := s.compareBad_conv tx p c u
    refine ⟨?_, ?_, ?_, ?_, ?_⟩
    · exact (State.afterCompare_conv_keeps ConvState.map (fun _ _ => rfl) _ p tx c).trans hmap
    · exact (State.afterCompare_conv_keeps ConvState.compare (fun _ _ => rfl) _ p tx c).trans hnone
    · exact (State.afterCompare_rd_chrys _ tx p c).trans (s.compareBad_rd_chrys tx p c u)
    · exact (State.afterCompare_conv_keeps ConvState.classing (fun _ _ => rfl) _ p tx c).trans hclass
    · rw [Counted, State.afterCompare_counter]
      exact State.compareBad_counted tx p c u hclk

end Sys2Proof.Machine
end

section
/-! What settles at once as a port's receiver changes: the line report, the reference inputs, and the requests that commit early.
Most fields and counters are none of theirs. -/

namespace Sys2Proof.Machine

open F

/-! ### Fields and counters apart from what settles -/

/-- A field that no event writes, nor a commit's progress, a report, a reference input or a DPLL (R251, R327 to R334, R471). -/
def Field.unsettled (f : Field) : Bool :=
  f.quiet && decide (f.key / 32 % 4096 ≠ 0x024 ∨ 3 ≤ f.key % 32) &&
    decide (f.key / 131072 ∉ [8, 9, 10, 25] ∨ f.key / 32 % 4096 < 0x040)

theorem Field.unsettled_quiet {f : Field} (h : f.unsettled = true) : f.quiet = true := by
  simp only [Field.unsettled, Bool.and_eq_true] at h
  exact h.1.1

/-- Whether a field is one of them is a matter of its place. -/
theorem Field.unsettled_key_ne {f g : Field} (hf : f.unsettled = true) (hg : g.unsettled = false) : g.key ≠ f.key := by
  intro hkey
  have : f.unsettled = g.unsettled := by simp only [Field.unsettled, Field.quiet, hkey]
  rw [hf, hg] at this
  exact absurd this (by decide)

/-- The counters that settling leaves: those of no page with an event of a commit, a report, a reference input or a DPLL, nor of
the page of INT_N. -/
def unsettledPlace (n : Nat) : Bool := decide (n / 4096 ∉ [0, 5, 8, 9, 10, 25])

theorem unsettledPlace_ne {n m : Nat} (hn : unsettledPlace n = true) (hm : unsettledPlace m = false) : n ≠ m := by
  rintro rfl
  rw [hn] at hm
  exact absurd hm (by decide)

/-! ### Updates of reports, reference inputs and DPLLs -/

/-- States that differ at most in registers, counters, latched vectors, INT_N, reports, reference inputs and DPLLs. -/
def State.SettleFrame (s t : State) : Prop :=
  t = { s with regs := t.regs, cnt := t.cnt, msixLatch := t.msixLatch, intLow := t.intLow, report := t.report, ref := t.ref,
               dpll := t.dpll }

/-- A report, a reference input or a DPLL settles: nothing beside its own fields, counters and machinery changes. -/
structure State.Settles (s t : State) : Prop where
  frame : s.SettleFrame t
  rd : ∀ f : Field, f.unsettled = true → t.rd f = s.rd f
  counter : ∀ q o, unsettledPlace (q * 4096 + o) = true → t.counter q o = s.counter q o

namespace State.Settles

variable {s t : State}

theorem refl (s : State) : s.Settles s := ⟨rfl, fun _ _ => rfl, fun _ _ _ => rfl⟩

/-- What settling leaves, read by `g`. -/
theorem keeps (h : s.Settles t) {β : Type} (g : State → β)
    (hg : ∀ regs cnt latch low report ref dpll,
      g { s with regs := regs, cnt := cnt, msixLatch := latch, intLow := low, report := report, ref := ref, dpll := dpll } = g s) :
    g t = g s := by
  rw [h.frame]
  exact hg _ _ _ _ _ _ _

theorem same {u : State} (h : s.Settles t) (hframe : t.SettleFrame u) (hregs : u.regs = t.regs) (hcnt : u.cnt = t.cnt) :
    s.Settles u where
  frame := by
    have hst := h.frame
    unfold State.SettleFrame at *
    rw [hframe, hst]
  rd f hf := by rw [← h.rd f hf, State.rd, State.rd, hregs]
  counter q o hq := by rw [← h.counter q o hq, State.counter, State.counter, hcnt]

theorem wr (h : s.Settles t) {g : Field} (hg : g.unsettled = false) (v : Nat) : s.Settles (t.wr g v) where
  frame := by
    have hst := h.frame
    unfold State.SettleFrame at *
    rw [hst]
    rfl
  rd f hf := (State.rd_wr_ne t v (Field.unsettled_key_ne hf hg)).trans (h.rd f hf)
  counter q o hq := h.counter q o hq

theorem raise (h : s.Settles t) {e : Evt} (he : unsettledPlace e.place = false) : s.Settles (t.raise e) where
  frame := by
    have hst := h.frame
    have hev : t.EventFrame (t.raise e) := State.raiseN_eventFrame t e 1
    unfold State.SettleFrame State.EventFrame at *
    rw [hev, hst]
  rd f hf := (State.raise_rd t e f (Field.unsettled_quiet hf)).trans (h.rd f hf)
  counter q o hq :=
    (State.raise_counter_ne t e q o (unsettledPlace_ne hq he) (unsettledPlace_ne hq (by decide))).trans (h.counter q o hq)

theorem ite {c : Prop} [Decidable c] {u v : State} (hu : s.Settles u) (hv : s.Settles v) : s.Settles (if c then u else v) := by
  split
  · exact hu
  · exact hv

theorem cond (h : s.Settles t) {b : Bool} {f : State → State} (hf : s.Settles (f t)) : s.Settles (t.cond b f) := ite hf h

theorem raiseIf (h : s.Settles t) (b : Bool) {e : Evt} (he : unsettledPlace e.place = false) : s.Settles (t.raiseIf b e) :=
  ite (h.raise he) h

/-! ### The line report (R251) -/

theorem setReport (h : s.Settles t) (p : Port) (r : Nat) : s.Settles (t.setReport p r) :=
  ite h (((h.wr (g := reqField p) (by cases p <;> decide) r).wr (g := HB_RING.RPT_LOCAL_SEQ) (by decide) _).raise
    (by cases p <;> decide))

theorem setWtr (h : s.Settles t) (p : Port) (ms : Nat) : s.Settles (t.setWtr p ms) :=
  (h.same (u := t.onReport p _) rfl rfl rfl).wr (g := wtrLeftField p) (by cases p <;> decide) _

theorem toWtr (h : s.Settles t) (p : Port) : s.Settles (t.toWtr p) :=
  have hwtr := (h.setReport p rptWtr).setWtr p t.wtrMs
  ite (hwtr.setReport p _) hwtr

theorem settleReport (h : s.Settles t) (p : Port) : s.Settles (t.settleReport p) :=
  ite h (ite (ite h (ite (h.setReport p _) (h.toWtr p))) (ite ((h.setWtr p 0).setReport p _)
    (ite (ite h (h.toWtr p)) (ite ((h.setWtr p 0).setReport p _) h))))

/-! ### The DPLLs and the selection (R328 to R334) -/

theorem setResidual (h : s.Settles t) (r : Int) : s.Settles (t.setResidual r) :=
  (h.same (u := t.onDpll _) rfl rfl rfl).wr (g := CK_DPLL.PULL_LEFT_RESIDUAL 0) (by decide) _

theorem toDp (h : s.Settles t) (st : Nat) : s.Settles (t.toDp st) := h.wr (g := CK_DPLL.DPLL_STATUS_STATE 0) (by decide) st

theorem buildOut (h : s.Settles t) : s.Settles t.buildOut := ite ((h.toDp _).raise (by decide)) h

theorem startPull (h : s.Settles t) (r : Int) : s.Settles (t.startPull r) := ((h.setResidual r).toDp _).buildOut

theorem startSwitch (h : s.Settles t) (held : Bool) : s.Settles (t.startSwitch held) := ite (h.startPull _) (h.toDp _)

theorem holdover (h : s.Settles t) : s.Settles t.holdover := by
  have hres := (h.setResidual 0).raiseIf (!t.on (CK_DPLL.ROOST_STATUS_VALID 0)) (e := Ev.CK_DPLL.roostInvalid 0) (by decide)
  exact ite h (ite ((hres.toDp _).raise (by decide)) ((hres.toDp _).raise (by decide)))

theorem newSelection (h : s.Settles t) (held : Bool) : s.Settles (t.newSelection held) :=
  ite (h.toDp _) (ite ((h.raise (by decide)).startSwitch held) ((h.raise (by decide)).startSwitch held))

theorem setStandby (h : s.Settles t) (i : Nat) : s.Settles (t.setStandby i) :=
  ite h ((((h.wr (g := CK_REF.SEL_STATUS_STANDBY) (by decide) i).wr (g := CK_DPLL.DPLL_STATUS_INPUT 1) (by decide) i).same
    (u := State.onDpll _ _) rfl rfl rfl).wr (g := CK_DPLL.DPLL_STATUS_STATE 1) (by decide) _)

theorem peerCheck (h : s.Settles t) : s.Settles t.peerCheck := by
  have hidx := fun u (hu : s.Settles u) i => hu.wr (g := CK_REF.SEL_STATUS_PEER_IDX) (by decide) i
  have hflag := fun u (hu : s.Settles u) v => hu.wr (g := CK_REF.SEL_STATUS_PEER_DISAGREE) (by decide) v
  unfold State.peerCheck
  dsimp only
  split
  · exact ite (hidx t h _) ((hflag _ (hidx t h _) 1).raise (by decide))
  · exact hidx _ (hflag t h 0) 15

theorem evaluate (h : s.Settles t) : s.Settles t.evaluate := by
  unfold State.evaluate
  extract_lets cur sel held u
  have hsel := ((h.wr (g := CK_REF.SEL_STATUS_SELECTED) (by decide) sel).wr (g := CK_DPLL.DPLL_STATUS_INPUT 0) (by decide) sel).raise
    (e := Ev.CK_REF.selection) (by decide)
  have hu : s.Settles u := h.cond (ite hsel.holdover (hsel.newSelection held))
  exact (hu.setStandby _).peerCheck

/-! ### The reference inputs of the ports (R326, R327) -/

theorem refMove (h : s.Settles t) (p : Port) (st : Nat) : s.Settles (t.refMove (4 + p.toNat) st) :=
  ite h ((h.wr (g := CK_REF.REF_STATUS_STATE (4 + p.toNat)) (by cases p <;> decide) st).raise
    (e := Ev.CK_REF.stateChange (4 + p.toNat)) (by cases p <;> decide)).evaluate

theorem refPort (h : s.Settles t) (p : Port) : s.Settles (t.refPort p) := by
  have hon := h.same (u := t.onRef (4 + p.toNat) fun x => { x with samples := [] }) rfl rfl rfl
  have hwtr : s.Settles (t.setRefWtr (4 + p.toNat) 0) :=
    (h.same (u := t.onRef (4 + p.toNat) _) rfl rfl rfl).wr (g := CK_REF.REF_STATUS_WTR_LEFT (4 + p.toNat))
      (by cases p <;> decide) _
  exact ite (ite (hon.refMove p _) h) (ite h (hwtr.refMove p _))

end State.Settles

end Sys2Proof.Machine
end


section
/-! The receive region of a port: what a move of its acquisition, a loss of the boundary and a reset of the equaliser change. -/

namespace Sys2Proof.Machine

open F

/-! ### Early commits (R483) -/

theorem Tab.has_erase {α : Type} {t : Tab α} {k : Nat} (j : Nat) (h : Tab.has t k = false) : Tab.has (Tab.erase t j) k = false := by
  rw [Tab.has, List.any_eq_false] at h ⊢
  exact fun e he => h e (Tab.mem_erase he)

theorem Tab.has_erase_same {α : Type} (t : Tab α) (k : Nat) : Tab.has (Tab.erase t k) k = false := by
  induction t with
  | nil => rfl
  | cons e t ih =>
    obtain ⟨j, v⟩ := e
    rw [Tab.erase]
    split
    · exact ih
    · next hj =>
      rw [Tab.has, List.any_cons, Bool.or_eq_false_iff]
      exact ⟨beq_false_of_ne hj, ih⟩

theorem Tab.has_of_mem {α : Type} {t : Tab α} {e : Nat × α} (h : e ∈ t) : Tab.has t e.1 = true :=
  List.any_eq_true.2 ⟨e, h, beq_self_eq_true _⟩

theorem State.commitRaw_ecl (s : State) (key : Nat) (req : EclReq) (early : Bool) :
    (s.commitRaw key req early).ecl = Tab.erase s.ecl key := by
  unfold State.commitRaw State.dropRequest
  dsimp only
  rw [State.raise_ecl, State.commitFields_frame]
  cases (!req.older) <;> rfl

/-- A commit before its boundary takes requests away, or marks those that are there. -/
theorem State.commitEarly_has (s : State) (g : Nat) {k : Nat} (h : Tab.has s.ecl k = false) :
    Tab.has (s.commitEarly g).ecl k = false := by
  unfold State.commitEarly State.markLate
  split
  · refine State.forEach_invariant_of_mem (fun t => Tab.has t.ecl k = false) _ _ (fun e he t ht => ?_) h
    have hne : e.1 ≠ k := by
      rintro rfl
      rw [Tab.has_of_mem (List.mem_of_mem_filter he)] at h
      exact absurd h (by decide)
    rw [Tab.has, List.any_eq_false] at ht ⊢
    intro a ha
    rcases Tab.mem_insert ha with rfl | ha
    · simpa using hne
    · exact ht a ha
  · refine State.forEach_invariant (fun t => Tab.has t.ecl k = false) _ _ (fun e t ht => ?_) h
    rw [State.commitRaw_ecl]
    exact Tab.has_erase _ ht

/-- The progress of a commit shows in no unsettled field. -/
theorem State.commitEarly_rd_unsettled (s : State) (g : Nat) {f : Field} (hf : f.unsettled = true) :
    (s.commitEarly g).rd f = s.rd f := by
  have hstage : ∀ page v, (s : State) → (s.wr (HDR.STAGE_STATUS_PENDING page) v).rd f = s.rd f ∧
      (s.wr (HDR.STAGE_STATUS_DONE page) v).rd f = s.rd f ∧ (s.wr (HDR.STAGE_STATUS_EARLY page) v).rd f = s.rd f := by
    have hplace := hf
    simp only [Field.unsettled, Bool.and_eq_true, decide_eq_true_eq] at hplace
    obtain ⟨⟨-, hoff⟩, -⟩ := hplace
    intro page v s
    refine ⟨State.rd_wr_ne _ _ ?_, State.rd_wr_ne _ _ ?_, State.rd_wr_ne _ _ ?_⟩
    · show (page * 4096 + 0x024) * 32 + 0 ≠ f.key
      omega
    · show (page * 4096 + 0x024) * 32 + 1 ≠ f.key
      omega
    · show (page * 4096 + 0x024) * 32 + 2 ≠ f.key
      omega
  exact State.commitEarly_keeps (fun s => s.rd f) (fun _ _ => rfl)
    (fun s key req => State.commitRaw_keeps (fun s => s.rd f) (fun _ _ => rfl) (fun _ _ => rfl)
      (fun s page v => hstage page v s) (fun s => State.raise_rd _ _ _ (Field.unsettled_quiet hf)) s key req true) s g

/-! ### What a change of the receive region may touch -/

/-- States that differ at most in what a receive region, its framer and its calibration hold, in its port's transmitter and tasks,
in who serves where, and in what events, commits, reports and references change. -/
def State.RegionFrame (s t : State) : Prop :=
  t = { s with regs := t.regs, act := t.act, cnt := t.cnt, msixLatch := t.msixLatch, intLow := t.intLow, ecl := t.ecl,
               report := t.report, ref := t.ref, dpll := t.dpll, rx := t.rx, fec := t.fec, frame := t.frame, tx := t.tx,
               calRun := t.calRun, power := t.power, ring := t.ring, line := t.line, drop := t.drop, trace := t.trace,
               spared := t.spared }

theorem State.RegionFrame.trans {s t u : State} (h : s.RegionFrame t) (k : t.RegionFrame u) : s.RegionFrame u := by
  unfold State.RegionFrame at *
  rw [k, h]

theorem State.EventFrame.regionFrame {s t : State} (h : s.EventFrame t) : s.RegionFrame t := by
  unfold State.EventFrame State.RegionFrame at *
  rw [h]

theorem State.SettleFrame.regionFrame {s t : State} (h : s.SettleFrame t) : s.RegionFrame t := by
  unfold State.SettleFrame State.RegionFrame at *
  rw [h]

/-- Of the unsettled fields and counters those of `l` and `n` alone may have changed; no request has been added. -/
structure State.RegionKeeps (l : List Field) (n : List Nat) (s t : State) : Prop where
  frame : s.RegionFrame t
  rd : ∀ f : Field, f.unsettled = true → (∀ g ∈ l, f.key ≠ g.key) → t.rd f = s.rd f
  counter : ∀ q o, unsettledPlace (q * 4096 + o) = true → q * 4096 + o ∉ n → t.counter q o = s.counter q o
  ecl : ∀ k, Tab.has s.ecl k = false → Tab.has t.ecl k = false

namespace State.RegionKeeps

variable {l : List Field} {n : List Nat} {s t u : State}

theorem refl (l : List Field) (n : List Nat) (s : State) : RegionKeeps l n s s :=
  ⟨rfl, fun _ _ _ => rfl, fun _ _ _ _ => rfl, fun _ h => h⟩

theorem trans (h : RegionKeeps l n s t) (k : RegionKeeps l n t u) : RegionKeeps l n s u where
  frame := h.frame.trans k.frame
  rd f hf hl := (k.rd f hf hl).trans (h.rd f hf hl)
  counter q o hq hn := (k.counter q o hq hn).trans (h.counter q o hq hn)
  ecl key hk := k.ecl key (h.ecl key hk)

/-- More may be allowed to change. -/
theorem mono {l' : List Field} {n' : List Nat} (h : RegionKeeps l n s t) (hl : l ⊆ l') (hn : n ⊆ n') : RegionKeeps l' n' s t where
  frame := h.frame
  rd f hf hl' := h.rd f hf fun g hg => hl' g (hl hg)
  counter q o hq hn' := h.counter q o hq fun hm => hn' (hn hm)
  ecl := h.ecl

theorem on (h : RegionKeeps l n s t) {f : Field} (hf : f.unsettled = true) (hl : ∀ g ∈ l, f.key ≠ g.key) : t.on f = s.on f := by
  rw [State.on, h.rd f hf hl, State.on]

/-! ### The basic updates -/

theorem same (h : RegionKeeps l n s t) (hframe : t.RegionFrame u) (hregs : u.regs = t.regs) (hcnt : u.cnt = t.cnt)
    (hecl : u.ecl = t.ecl) : RegionKeeps l n s u where
  frame := h.frame.trans hframe
  rd f hf hl := by rw [← h.rd f hf hl, State.rd, State.rd, hregs]
  counter q o hq hn := by rw [← h.counter q o hq hn, State.counter, State.counter, hcnt]
  ecl k hk := by rw [hecl]; exact h.ecl k hk

theorem settles (h : RegionKeeps l n s t) (k : t.Settles u) : RegionKeeps l n s u where
  frame := h.frame.trans k.frame.regionFrame
  rd f hf hl := (k.rd f hf).trans (h.rd f hf hl)
  counter q o hq hn := (k.counter q o hq).trans (h.counter q o hq hn)
  ecl key hk := by rw [k.keeps State.ecl fun _ _ _ _ _ _ _ => rfl]; exact h.ecl key hk

theorem wr (h : RegionKeeps l n s t) {g : Field} (hg : g ∈ l) (v : Nat) : RegionKeeps l n s (t.wr g v) where
  frame := h.frame.trans rfl
  rd f hf hl := (State.rd_wr_ne t v (hl g hg).symm).trans (h.rd f hf hl)
  counter q o hq hn := h.counter q o hq hn
  ecl := h.ecl

theorem raiseN (h : RegionKeeps l n s t) {e : Evt} (he : e.place ∈ n) (m : Nat) : RegionKeeps l n s (t.raiseN e m) where
  frame := h.frame.trans (State.raiseN_eventFrame t e m).regionFrame
  rd f hf hl := (State.raiseN_rd t e m f (Field.unsettled_quiet hf)).trans (h.rd f hf hl)
  counter q o hq hn :=
    (State.raiseN_counter_ne t e m q o (fun heq => hn (by rw [heq]; exact he)) (unsettledPlace_ne hq (by decide))).trans
      (h.counter q o hq hn)
  ecl k hk := by rw [State.raiseN_ecl]; exact h.ecl k hk

theorem raise (h : RegionKeeps l n s t) {e : Evt} (he : e.place ∈ n) : RegionKeeps l n s (t.raise e) := h.raiseN he 1

/-- An event of a page that settles. -/
theorem raiseSettled (h : RegionKeeps l n s t) {e : Evt} (he : unsettledPlace e.place = false) : RegionKeeps l n s (t.raise e) :=
  h.settles ((Settles.refl t).raise he)

theorem ite {c : Prop} [Decidable c] {v : State} (hu : RegionKeeps l n s u) (hv : RegionKeeps l n s v) :
    RegionKeeps l n s (if c then u else v) := by
  split
  · exact hu
  · exact hv

theorem cond (h : RegionKeeps l n s t) {b : Bool} {f : State → State} (hf : RegionKeeps l n s (f t)) :
    RegionKeeps l n s (t.cond b f) := ite hf h

theorem raiseIf (h : RegionKeeps l n s t) (b : Bool) {e : Evt} (he : e.place ∈ n) : RegionKeeps l n s (t.raiseIf b e) :=
  ite (h.raise he) h

theorem forEach {α : Type} (h : RegionKeeps l n s t) (xs : List α) (f : α → State → State)
    (hstep : ∀ a u, RegionKeeps l n s u → RegionKeeps l n s (f a u)) : RegionKeeps l n s (t.forEach xs f) :=
  State.forEach_invariant (RegionKeeps l n s) xs f hstep h

theorem onRx (h : RegionKeeps l n s t) (p : Port) (f : RxState → RxState) : RegionKeeps l n s (t.onRx p f) := h.same rfl rfl rfl rfl

theorem onFec (h : RegionKeeps l n s t) (p : Port) (f : FecState → FecState) : RegionKeeps l n s (t.onFec p f) :=
  h.same rfl rfl rfl rfl

theorem onFrame (h : RegionKeeps l n s t) (p : Port) (f : FrameState → FrameState) : RegionKeeps l n s (t.onFrame p f) :=
  h.same rfl rfl rfl rfl

theorem onTx (h : RegionKeeps l n s t) (p : Port) (f : TxState → TxState) : RegionKeeps l n s (t.onTx p f) := h.same rfl rfl rfl rfl

theorem onCal (h : RegionKeeps l n s t) (p : Port) (f : CalRun → CalRun) : RegionKeeps l n s (t.onCal p f) := h.same rfl rfl rfl rfl

theorem setCarrier (h : RegionKeeps l n s t) {p : Port} (hg : RXFE.ACQ_STATUS_CARRIER p ∈ l) (b : Bool) :
    RegionKeeps l n s (t.setCarrier p b) := (h.wr hg (bit b)).onCal p _

theorem commitEarly (h : RegionKeeps l n s t) (g : Nat) : RegionKeeps l n s (t.commitEarly g) where
  frame := by
    refine h.frame.trans ?_
    have hcommit : ∀ (u : State) key req, t.RegionFrame u → t.RegionFrame (u.commitRaw key req true) := by
      intro u key req hu
      unfold State.commitRaw State.dropRequest
      dsimp only
      refine hu.trans (State.RegionFrame.trans ?_ (State.raiseN_eventFrame _ _ _).regionFrame)
      rw [State.commitFields_frame]
      cases (!req.older) <;> rfl
    unfold State.commitEarly State.markLate
    split
    · exact State.forEach_invariant t.RegionFrame _ _
        (fun e u hu => hu.trans (u := { u with ecl := Tab.insert u.ecl e.1 { e.2 with late := true } }) rfl) rfl
    · exact State.forEach_invariant t.RegionFrame _ _ (fun e u hu => hcommit u e.1 e.2 hu) rfl
  rd f hf hl := (t.commitEarly_rd_unsettled g hf).trans (h.rd f hf hl)
  counter q o hq hn :=
    (t.commitEarly_counter g (unsettledPlace_ne hq (by decide)) (unsettledPlace_ne hq (by decide))).trans (h.counter q o hq hn)
  ecl k hk := t.commitEarly_has g (h.ecl k hk)

/-! ### Eyespots and origins that end (R243, R461) -/

theorem onTrace (h : RegionKeeps l n s t) (f : TraceState → TraceState) : RegionKeeps l n s (t.onTrace f) := h.same rfl rfl rfl rfl

theorem onLine (h : RegionKeeps l n s t) (p : Port) (lch : Nat) (f : LineChan → LineChan) : RegionKeeps l n s (t.onLine p lch f) :=
  h.same rfl rfl rfl rfl

theorem onDrop (h : RegionKeeps l n s t) (ch : Nat) (f : DropChan → DropChan) : RegionKeeps l n s (t.onDrop ch f) :=
  h.same rfl rfl rfl rfl

theorem endEyespot (h : RegionKeeps l n s t) (src : Nat) : RegionKeeps l n s (t.endEyespot src) := by
  unfold State.endEyespot
  cases t.flightOf src with
  | none => exact h
  | some e =>
    have hflight := h.onTrace fun x => { x with flight := Tab.erase x.flight src }
    have hrecord : ∀ r, RegionKeeps l n s ((t.onTrace fun x => { x with flight := Tab.erase x.flight src }).bufferRecord r) :=
      fun r => ite (hflight.onTrace _) (hflight.raiseSettled (by decide))
    exact (hrecord _).raiseSettled (by decide)

theorem originsLost (h : RegionKeeps l n s t) (hn : Ev.HB_PROT.originLost.place ∈ n) (p : Port) :
    RegionKeeps l n s (t.originsLost p) := by
  unfold State.originsLost
  extract_lets keys m u v
  have hv : RegionKeeps l n s v := (h.forEach keys _ fun k _ hw => hw.onLine p (k % 256) _).raiseN hn m
  exact hv.forEach _ _ fun ch _ hw => hw.onDrop ch _

end State.RegionKeeps

/-! ### The equaliser (R117) -/

/-- The fields of a port's equaliser that a change of the acquisition state resets. -/
def eqFields (p : Port) : List Field :=
  [RXEQ.CR_EST_DELTA_F p, RXEQ.EQ_STATUS_EQ_CONV p, RXEQ.EQ_STATUS_DD_MODE p, RXEQ.EQ_STATUS_POL_SWAP p, RXEQ.EQ_STATUS_ROT_X p,
    RXEQ.EQ_STATUS_ROT_Y p, RXEQ.EQ_STATUS_TR_LOCK p, RXEQ.TR_EST_RATE_OFS p]

def eqPlaces (p : Port) : List Nat := [(Ev.RXEQ.trLockCleared p).place]

/-- The fields that a declaration of OOF changes. -/
def oofFields (p : Port) : List Field :=
  [HB_FRAME.FRM_STATUS_SYNC p, HB_FRAME.FRM_STATUS_OOF p, HB_FRAME.FRM_STATUS_MISSES p, HB_FRAME.DVR_STATUS_UP p]

/-- The fields that a loss of the superframe boundary changes. -/
def boundaryFields (p : Port) : List Field := FEC.SF_STATUS_SF_LOCK p :: oofFields p

def boundaryPlaces (p : Port) : List Nat := [(Ev.HB_FRAME.oof p).place, Ev.HB_PROT.originLost.place]

/-- The fields that a new start of the acquisition changes. -/
def restartFields (p : Port) : List Field := RXFE.ACQ_STATUS_ACQ_STATE p :: (eqFields p ++ boundaryFields p)

def restartPlaces (p : Port) : List Nat := eqPlaces p ++ boundaryPlaces p

namespace State.RegionKeeps

variable {l : List Field} {n : List Nat} {s t : State} {p : Port}

theorem clearTrLock (h : RegionKeeps l n s t) (hl : RXEQ.EQ_STATUS_TR_LOCK p ∈ l) (hn : (Ev.RXEQ.trLockCleared p).place ∈ n) :
    RegionKeeps l n s (t.clearTrLock p) :=
  ite (((h.wr hl 0).raise hn).settles ((Settles.refl _).refPort p)) h

theorem eqQuiet (h : RegionKeeps l n s t) (hl : eqFields p ⊆ l) : RegionKeeps l n s (t.eqQuiet p) :=
  (((h.wr (hl (by simp [eqFields])) 0).wr (hl (by simp [eqFields])) 0).wr (hl (by simp [eqFields])) 0).onRx p _

theorem eqNoHypothesis (h : RegionKeeps l n s t) (hl : eqFields p ⊆ l) : RegionKeeps l n s (t.eqNoHypothesis p) :=
  ((h.wr (hl (by simp [eqFields])) 0).wr (hl (by simp [eqFields])) 0).wr (hl (by simp [eqFields])) 0

theorem eqReset (h : RegionKeeps l n s t) (hl : eqFields p ⊆ l) (hn : eqPlaces p ⊆ n) (run : Bool) :
    RegionKeeps l n s (t.eqReset p run) :=
  ((((h.eqQuiet hl).eqNoHypothesis hl).clearTrLock (hl (by simp [eqFields])) (hn (by simp [eqPlaces]))).wr
    (g := RXEQ.TR_EST_RATE_OFS p) (hl (by simp [eqFields])) 0).onRx p _

/-! ### The boundary (R142, R176) -/

theorem declareOof (h : RegionKeeps l n s t) (hl : oofFields p ⊆ l) (hn : boundaryPlaces p ⊆ n) :
    RegionKeeps l n s (t.declareOof p) := by
  have hstatus := (((h.wr (g := HB_FRAME.FRM_STATUS_SYNC p) (hl (by simp [oofFields])) 0).wr
    (g := HB_FRAME.FRM_STATUS_OOF p) (hl (by simp [oofFields])) 1).wr
    (g := HB_FRAME.FRM_STATUS_MISSES p) (hl (by simp [oofFields])) 0).wr
    (g := HB_FRAME.DVR_STATUS_UP p) (hl (by simp [oofFields])) 0
  have hring := (hstatus.onFrame p fun f => { f with huntPos := 0, cands := [] }).same (u := State.dropRingEntries _ p) rfl rfl rfl rfl
  exact ((hring.originsLost (hn (by simp [boundaryPlaces])) p).endEyespot _).raise (hn (by simp [boundaryPlaces]))

theorem loseBoundary (h : RegionKeeps l n s t) (hl : boundaryFields p ⊆ l) (hn : boundaryPlaces p ⊆ n) :
    RegionKeeps l n s (t.loseBoundary p) := by
  have hlock := ((((h.wr (g := FEC.SF_STATUS_SF_LOCK p) (hl (by simp [boundaryFields])) 0).onFec p FecState.cleared).endEyespot
    p.toNat).onRx p fun r => { r with labels := [], skip := 0, symPos := 0 })
  exact ite (hlock.declareOof (fun f hf => hl (List.mem_cons_of_mem _ hf)) hn) (hlock.onFrame p _)

end State.RegionKeeps

/-! ### The acquisition state (R88) -/

theorem State.acqSt_wr (s : State) (p : Port) {v : Nat} (hv : v < 16) : (s.wr (RXFE.ACQ_STATUS_ACQ_STATE p) v).acqSt p = v := by
  rw [State.acqSt, State.rd_wr_same]
  exact Nat.mod_eq_of_lt hv

/-- Outside ACQUIRED a move of the acquisition is its new state with what settles (R326, R251). -/
theorem State.acqMove_settles {s : State} {p : Port} (h : s.acqSt p ≠ acqAcquired) (next : Nat) :
    (s.wr (RXFE.ACQ_STATUS_ACQ_STATE p) next).Settles (s.acqMove p next) := by
  unfold State.acqMove
  dsimp only
  rw [if_neg fun hc => h hc.1]
  have hreport := (Settles.refl (s.wr (RXFE.ACQ_STATUS_ACQ_STATE p) next)).settleReport p
  exact hreport.cond (hreport.refPort p)

/-- A move of the acquisition out of any state: the early commit it may bring can reset the equaliser (R117, R483). -/
theorem State.acqMove_keeps (s : State) (p : Port) (next : Nat) :
    RegionKeeps (eqFields p) (eqPlaces p) (s.wr (RXFE.ACQ_STATUS_ACQ_STATE p) next) (s.acqMove p next) := by
  unfold State.acqMove
  extract_lets was u v w
  have hreport := (Settles.refl (s.wr (RXFE.ACQ_STATUS_ACQ_STATE p) next)).settleReport p
  have hu : RegionKeeps (eqFields p) (eqPlaces p) (s.wr (RXFE.ACQ_STATUS_ACQ_STATE p) next) u :=
    (RegionKeeps.refl _ _ _).settles (hreport.cond (hreport.refPort p))
  have hw : RegionKeeps (eqFields p) (eqPlaces p) (s.wr (RXFE.ACQ_STATUS_ACQ_STATE p) next) w := (hu.onRx p _).commitEarly _
  exact RegionKeeps.ite (hw.cond (hw.eqReset (List.Subset.refl _) (List.Subset.refl _) false)) hu

/-- What is neither the state nor the equaliser's, a move of the acquisition leaves. -/
theorem State.RegionKeeps.acqMove {l : List Field} {n : List Nat} {s t : State} {p : Port} (h : RegionKeeps l n s t)
    (hst : RXFE.ACQ_STATUS_ACQ_STATE p ∈ l) (hl : eqFields p ⊆ l) (hn : eqPlaces p ⊆ n) (next : Nat) :
    RegionKeeps l n s (t.acqMove p next) :=
  (h.wr hst next).trans ((t.acqMove_keeps p next).mono hl hn)

theorem acqState_unsettled (p : Port) : (RXFE.ACQ_STATUS_ACQ_STATE p).unsettled = true := by cases p <;> decide

theorem State.RegionKeeps.acqSt {l : List Field} {n : List Nat} {s t : State} {p : Port} (h : RegionKeeps l n s t)
    (hl : ∀ g ∈ l, (RXFE.ACQ_STATUS_ACQ_STATE p).key ≠ g.key) : t.acqSt p = s.acqSt p := h.rd _ (acqState_unsettled p) hl

theorem State.acqMove_acqSt (s : State) (p : Port) {next : Nat} (hn : next < 16) : (s.acqMove p next).acqSt p = next :=
  ((s.acqMove_keeps p next).acqSt (by cases p <;> decide)).trans (s.acqSt_wr p hn)

end Sys2Proof.Machine
end


section
/-! The states that an acquisition enters, and the region reset of a port (O34). -/

namespace Sys2Proof.Machine

open F

/-! ### Entries of the acquisition's states (R88, R117) -/

/-- The fields that stopping a receiver changes. -/
def idleFields (p : Port) : List Field :=
  restartFields p ++ [RXFE.ACQ_STATUS_CARRIER p, HB_FRAME.FRM_STATUS_LOF p, RXEQ.CLU_ROT_SPARE_BUSY p, RXEQ.CLU_ROT_CHRYS_CLU p]

def idlePlaces (p : Port) : List Nat := (Ev.HB_FRAME.lofCleared p).place :: restartPlaces p

theorem eqFields_subset_restart (p : Port) : eqFields p ⊆ restartFields p := by cases p <;> decide

theorem boundaryFields_subset_restart (p : Port) : boundaryFields p ⊆ restartFields p := by cases p <;> decide

theorem eqPlaces_subset_restart (p : Port) : eqPlaces p ⊆ restartPlaces p := by cases p <;> decide

theorem boundaryPlaces_subset_restart (p : Port) : boundaryPlaces p ⊆ restartPlaces p := by cases p <;> decide

/-- A receiver that stops once it has lost the boundary: the carrier ends and so does a loss of frame, and the hops in flight are
dropped (R88, R97, R177). -/
def State.idleEnded (s : State) (p : Port) : State :=
  let t := s.setCarrier p false
  ((t.cond (t.on (HB_FRAME.FRM_STATUS_LOF p)) fun t => (t.wr (HB_FRAME.FRM_STATUS_LOF p) 0).raise (Ev.HB_FRAME.lofCleared p)).dropHops
    p).onRx p fun r => { r with fHatOn := false, fHatEst := false }

theorem State.toIdle_eq (s : State) (p : Port) :
    s.toIdle p = (((s.acqMove p acqIdle).eqReset p false).loseBoundary p).idleEnded p := rfl

namespace State.RegionKeeps

variable {l : List Field} {n : List Nat} {s t : State} {p : Port}

theorem acqMoveIn (h : RegionKeeps l n s t) (hl : restartFields p ⊆ l) (hn : restartPlaces p ⊆ n) (next : Nat) :
    RegionKeeps l n s (t.acqMove p next) :=
  h.acqMove (hl (by simp [restartFields])) (List.Subset.trans (eqFields_subset_restart p) hl)
    (List.Subset.trans (eqPlaces_subset_restart p) hn) next

theorem eqResetIn (h : RegionKeeps l n s t) (hl : restartFields p ⊆ l) (hn : restartPlaces p ⊆ n) (run : Bool) :
    RegionKeeps l n s (t.eqReset p run) :=
  h.eqReset (List.Subset.trans (eqFields_subset_restart p) hl) (List.Subset.trans (eqPlaces_subset_restart p) hn) run

theorem loseBoundaryIn (h : RegionKeeps l n s t) (hl : restartFields p ⊆ l) (hn : restartPlaces p ⊆ n) :
    RegionKeeps l n s (t.loseBoundary p) :=
  h.loseBoundary (List.Subset.trans (boundaryFields_subset_restart p) hl) (List.Subset.trans (boundaryPlaces_subset_restart p) hn)

theorem toCdScan (h : RegionKeeps l n s t) (hl : restartFields p ⊆ l) (hn : restartPlaces p ⊆ n) :
    RegionKeeps l n s (t.toCdScan p) :=
  (((h.acqMoveIn hl hn _).eqResetIn hl hn false).loseBoundaryIn hl hn).onRx p _

theorem toTiming (h : RegionKeeps l n s t) (hl : restartFields p ⊆ l) (hn : restartPlaces p ⊆ n) :
    RegionKeeps l n s (t.toTiming p) := (h.acqMoveIn hl hn _).eqResetIn hl hn true

theorem toNoSignal (h : RegionKeeps l n s t) (hl : restartFields p ⊆ l) (hn : restartPlaces p ⊆ n) :
    RegionKeeps l n s (t.toNoSignal p) :=
  ((h.acqMoveIn hl hn _).eqQuiet (List.Subset.trans (eqFields_subset_restart p) hl)).onRx p _

theorem rxRateChange (h : RegionKeeps l n s t) (hl : restartFields p ⊆ l) (hn : restartPlaces p ⊆ n) :
    RegionKeeps l n s (t.rxRateChange p) :=
  ite h (ite (((h.acqMoveIn hl hn _).eqResetIn hl hn true).loseBoundaryIn hl hn) (h.toCdScan hl hn))

theorem toPreHunt (h : RegionKeeps l n s t) (hl : restartFields p ⊆ l) (hn : restartPlaces p ⊆ n) :
    RegionKeeps l n s (t.toPreHunt p) :=
  have hmove := h.acqMoveIn hl hn acqPreHunt
  ite (hmove.rxRateChange hl hn) ((hmove.eqQuiet (List.Subset.trans (eqFields_subset_restart p) hl)).loseBoundaryIn hl hn)

theorem dropHops (h : RegionKeeps l n s t) (hbusy : RXEQ.CLU_ROT_SPARE_BUSY p ∈ l) (hclu : RXEQ.CLU_ROT_CHRYS_CLU p ∈ l) :
    RegionKeeps l n s (t.dropHops p) :=
  ((h.wr hbusy 0).cond ((h.wr hbusy 0).wr hclu _)).onRx p _

theorem idleEnded (h : RegionKeeps l n s t) (hcar : RXFE.ACQ_STATUS_CARRIER p ∈ l) (hlof : HB_FRAME.FRM_STATUS_LOF p ∈ l)
    (hbusy : RXEQ.CLU_ROT_SPARE_BUSY p ∈ l) (hclu : RXEQ.CLU_ROT_CHRYS_CLU p ∈ l) (hn : (Ev.HB_FRAME.lofCleared p).place ∈ n) :
    RegionKeeps l n s (t.idleEnded p) := by
  have hcarrier := h.setCarrier hcar false
  exact ((hcarrier.cond ((hcarrier.wr hlof 0).raise hn)).dropHops hbusy hclu).onRx p _

theorem toIdle (h : RegionKeeps l n s t) (hl : idleFields p ⊆ l) (hn : idlePlaces p ⊆ n) : RegionKeeps l n s (t.toIdle p) := by
  have hfields : restartFields p ⊆ l := List.Subset.trans (List.subset_append_left _ _) hl
  have hplaces : restartPlaces p ⊆ n := List.Subset.trans (List.subset_cons_self _ _) hn
  exact (((h.acqMoveIn hfields hplaces _).eqResetIn hfields hplaces false).loseBoundaryIn hfields hplaces).idleEnded
    (hl (by simp [idleFields])) (hl (by simp [idleFields])) (hl (by simp [idleFields])) (hl (by simp [idleFields]))
    (hn (by simp [idlePlaces]))

end State.RegionKeeps

/-! ### The state that an entry leaves -/

/-- A reset of the equaliser and a loss of the boundary leave the acquisition state. -/
theorem State.acqSt_eqReset (s : State) (p : Port) (run : Bool) : (s.eqReset p run).acqSt p = s.acqSt p :=
  ((RegionKeeps.refl _ _ s).eqReset (List.Subset.refl _) (List.Subset.refl _) run).acqSt (by cases p <;> decide)

theorem State.acqSt_eqQuiet (s : State) (p : Port) : (s.eqQuiet p).acqSt p = s.acqSt p :=
  ((RegionKeeps.refl _ [] s).eqQuiet (List.Subset.refl _)).acqSt (by cases p <;> decide)

theorem State.acqSt_loseBoundary (s : State) (p : Port) : (s.loseBoundary p).acqSt p = s.acqSt p :=
  ((RegionKeeps.refl _ _ s).loseBoundary (List.Subset.refl _) (List.Subset.refl _)).acqSt (by cases p <;> decide)

theorem State.acqSt_onRx (s : State) (p q : Port) (f : RxState → RxState) : (s.onRx p f).acqSt q = s.acqSt q := rfl

theorem State.toCdScan_acqSt (s : State) (p : Port) : (s.toCdScan p).acqSt p = acqCdScan := by
  rw [State.toCdScan, State.acqSt_onRx, State.acqSt_loseBoundary, State.acqSt_eqReset]
  exact s.acqMove_acqSt p (by decide)

theorem State.toTiming_acqSt (s : State) (p : Port) : (s.toTiming p).acqSt p = acqTiming := by
  rw [State.toTiming, State.acqSt_eqReset]
  exact s.acqMove_acqSt p (by decide)

theorem State.toNoSignal_acqSt (s : State) (p : Port) : (s.toNoSignal p).acqSt p = acqNoSignal := by
  unfold State.toNoSignal
  dsimp only
  rw [State.acqSt_onRx, State.acqSt_eqQuiet]
  exact s.acqMove_acqSt p (by decide)

/-- The lists of what the end of `toIdle` changes (R88, R177). -/
theorem State.toIdle_end (s : State) (p : Port) :
    RegionKeeps [RXFE.ACQ_STATUS_CARRIER p, HB_FRAME.FRM_STATUS_LOF p, RXEQ.CLU_ROT_SPARE_BUSY p, RXEQ.CLU_ROT_CHRYS_CLU p]
      [(Ev.HB_FRAME.lofCleared p).place] (((s.acqMove p acqIdle).eqReset p false).loseBoundary p) (s.toIdle p) :=
  (RegionKeeps.refl _ _ _).idleEnded (by simp) (by simp) (by simp) (by simp) (by simp)

theorem State.toIdle_acqSt (s : State) (p : Port) : (s.toIdle p).acqSt p = acqIdle := by
  rw [(s.toIdle_end p).acqSt (by cases p <;> decide), State.acqSt_loseBoundary, State.acqSt_eqReset]
  exact s.acqMove_acqSt p (by decide)

/-! ### Requests that end without a commit (R118, R483) -/

/-- A request has ended with result 8, and is no longer pending. -/
def State.EndedWith8 (s : State) (key : Nat) : Prop :=
  s.rd (HDR.STAGE_STATUS_RESULT (eclPage key)) = 8 ∧ Tab.has s.ecl key = false

theorem stageResult_key_ne_pending (a b : Nat) : (HDR.STAGE_STATUS_PENDING a).key ≠ (HDR.STAGE_STATUS_RESULT b).key := by
  simp only [Field.key, HDR.STAGE_STATUS_PENDING, HDR.STAGE_STATUS_RESULT]
  omega

theorem State.rd_stageResult_wr_same (s : State) (page : Nat) :
    (s.wr (HDR.STAGE_STATUS_RESULT page) 8).rd (HDR.STAGE_STATUS_RESULT page) = 8 := State.rd_wr_same _ _ _

theorem State.endRequest_of_has {s : State} {key : Nat} (h : Tab.has s.ecl key = true) (result : Nat) :
    s.endRequest key result = (s.dropRequest key).wr (HDR.STAGE_STATUS_RESULT (eclPage key)) result := by
  rw [State.endRequest, h, State.cond_true]

theorem State.endRequest_of_not_has {s : State} {key : Nat} (h : Tab.has s.ecl key = false) (result : Nat) :
    s.endRequest key result = s := by
  rw [State.endRequest, h, State.cond_false]

/-- The end of a request does not undo another's. -/
theorem State.EndedWith8.endRequest {s : State} {key : Nat} (h : s.EndedWith8 key) (other : Nat) :
    (s.endRequest other 8).EndedWith8 key := by
  obtain ⟨hresult, hgone⟩ := h
  cases hother : Tab.has s.ecl other
  · rw [State.endRequest_of_not_has hother]
    exact ⟨hresult, hgone⟩
  · rw [State.endRequest_of_has hother]
    refine ⟨?_, Tab.has_erase other hgone⟩
    by_cases hpage : eclPage other = eclPage key
    · rw [hpage]
      exact State.rd_stageResult_wr_same _ _
    · have hne : (HDR.STAGE_STATUS_RESULT (eclPage other)).key ≠ (HDR.STAGE_STATUS_RESULT (eclPage key)).key := by
        simp only [Field.key, HDR.STAGE_STATUS_RESULT]
        omega
      rw [State.rd_wr_ne _ _ hne]
      exact (State.rd_wr_ne _ _ (stageResult_key_ne_pending _ _)).trans hresult

/-- A request that is pending or has ended so has ended so after its own end. -/
theorem State.endRequest_ends {s : State} {key : Nat} (h : Tab.has s.ecl key = true ∨ s.EndedWith8 key) :
    (s.endRequest key 8).EndedWith8 key := by
  rcases h with h | h
  · rw [State.endRequest_of_has h]
    exact ⟨State.rd_stageResult_wr_same _ _, Tab.has_erase_same s.ecl key⟩
  · exact h.endRequest key

theorem State.endRequest_pending_or_ended {s : State} {key : Nat} (h : Tab.has s.ecl key = true ∨ s.EndedWith8 key) (other : Nat) :
    Tab.has (s.endRequest other 8).ecl key = true ∨ (s.endRequest other 8).EndedWith8 key := by
  by_cases heq : other = key
  · subst heq
    exact .inr (State.endRequest_ends h)
  · rcases h with h | h
    · left
      obtain ⟨e, he, hkey⟩ := List.any_eq_true.1 h
      cases hother : Tab.has s.ecl other
      · rw [State.endRequest_of_not_has hother]
        exact h
      · rw [State.endRequest_of_has hother]
        have hmem : ∀ t : Tab EclReq, e ∈ t → e ∈ Tab.erase t other := by
          intro t ht
          induction t with
          | nil => exact ht
          | cons a t ih =>
            obtain ⟨j, v⟩ := a
            rw [Tab.erase]
            rcases List.mem_cons.1 ht with rfl | ht
            · rw [if_neg fun hj => heq (hj.symm.trans (eq_of_beq hkey))]
              exact List.mem_cons_self
            · split
              · exact ih ht
              · exact List.mem_cons_of_mem _ (ih ht)
        exact List.any_eq_true.2 ⟨e, hmem s.ecl he, hkey⟩
    · exact .inr (h.endRequest other)

/-- Every request of a list that is pending or has ended with result 8 has ended so at the list's end. -/
theorem State.forEach_endRequest_ends (l : List (Nat × EclReq)) {s : State} {e : Nat × EclReq} (he : e ∈ l)
    (h : Tab.has s.ecl e.1 = true ∨ s.EndedWith8 e.1) : (s.forEach l fun e s => s.endRequest e.1 8).EndedWith8 e.1 := by
  induction l generalizing s with
  | nil => exact absurd he (List.not_mem_nil)
  | cons a l ih =>
    rw [State.forEach_cons]
    rcases List.mem_cons.1 he with rfl | he
    · exact State.forEach_invariant (fun t => t.EndedWith8 e.1) l _ (fun b t ht => ht.endRequest b.1) (State.endRequest_ends h)
    · exact ih he (State.endRequest_pending_or_ended h a.1)

/-- The requests of a port's groups end with result 8 (R118, R483). -/
theorem State.endRequests_ends (s : State) (groups : Nat) {e : Nat × EclReq} (he : e ∈ s.ecl) (hg : e.2.groups &&& groups ≠ 0) :
    (s.endRequests groups 8).EndedWith8 e.1 :=
  State.forEach_endRequest_ends _ (List.mem_filter.2 ⟨he, decide_eq_true hg⟩) (.inl (Tab.has_of_mem he))

/-- Their ends show in `STAGE_STATUS` alone. -/
theorem State.endRequests_rd (s : State) (groups result : Nat) {f : Field} (hf : f.key / 32 % 4096 ≠ 0x024) :
    (s.endRequests groups result).rd f = s.rd f := by
  refine State.forEach_keeps (fun s => s.rd f) _ _ (fun e t => ?_) s
  have hpending : (HDR.STAGE_STATUS_PENDING (eclPage e.1)).key ≠ f.key := by
    rintro heq
    rw [← heq] at hf
    simp only [Field.key, HDR.STAGE_STATUS_PENDING] at hf
    omega
  have hresult : (HDR.STAGE_STATUS_RESULT (eclPage e.1)).key ≠ f.key := by
    rintro heq
    rw [← heq] at hf
    simp only [Field.key, HDR.STAGE_STATUS_RESULT] at hf
    omega
  cases h : Tab.has t.ecl e.1
  · rw [State.endRequest_of_not_has h]
  · rw [State.endRequest_of_has h]
    exact (State.rd_wr_ne _ _ hresult).trans (State.rd_wr_ne _ _ hpending)

/-! ### A region reset (R118) -/

/-- The fields that the receive region's reset changes. -/
def rxResetFields (p : Port) : List Field :=
  idleFields p ++ [PWR_MGR.CAL_STATE_ACTIVE, PWR_MGR.CAL_STATE_PENDING, RXCONV.CAL_STATUS_RUN_ACTIVE p,
    RXCONV.CAL_STATUS_RUN_PENDING p]

/-- A request of a region reset, with the port's pending eclosions ended (R118, R483). -/
def State.resetRequested (s : State) (p : Port) : State :=
  (s.wr (RXEQ.REGION_CTRL_RESET_BUSY p) 1).endRequests (portGroups p) 8

/-- The receive region reset, and the eyespots of both regions ended (R118, R461). -/
def State.rxRegionDone (s : State) (p : Port) : State :=
  ((((s.forEach (portTasks p) fun t s => s.abandonTask t).rxRegionReset p).endEyespot (2 + p.toNat)).endEyespot (4 + p.toNat))

/-- What the request does to the transmitter (R59, R118). -/
def State.txResetRequested (s : State) (p : Port) : State :=
  if s.txSt p = txDark then s.txRegionReset p
  else if s.txSt p = txAlign ∨ s.txSt p = txOn then s.txRampFromTop p txResetWait
  else s.wr (TX.TX_STATUS_TX_STATE p) txResetWait

theorem State.regionReset_of_idle {s : State} {p : Port} (h : s.on (RXEQ.REGION_CTRL_RESET_BUSY p) = false) :
    s.regionReset p = ((s.resetRequested p).rxRegionDone p).txResetRequested p := by
  rw [State.regionReset, h]
  rfl

theorem State.RegionKeeps.calAbandon {l : List Field} {n : List Nat} {s t : State} {p : Port} (h : RegionKeeps l n s t)
    (hact : RXCONV.CAL_STATUS_RUN_ACTIVE p ∈ l) (hpend : RXCONV.CAL_STATUS_RUN_PENDING p ∈ l) :
    RegionKeeps l n s (t.calAbandon p) := ((h.wr hact 0).wr hpend 0).same rfl rfl rfl rfl

theorem State.rxRegionDone_keeps (s : State) (p : Port) :
    RegionKeeps (rxResetFields p) (idlePlaces p) s (s.rxRegionDone p) := by
  have htasks : RegionKeeps (rxResetFields p) (idlePlaces p) s (s.forEach (portTasks p) fun t s => s.abandonTask t) :=
    (RegionKeeps.refl _ _ s).forEach _ _ fun k u hu =>
      ((hu.wr (g := PWR_MGR.CAL_STATE_ACTIVE) (by simp [rxResetFields]) _).wr (g := PWR_MGR.CAL_STATE_PENDING)
        (by simp [rxResetFields]) _).same rfl rfl rfl rfl
  have hidle := htasks.toIdle (p := p) (List.subset_append_left _ _) (List.Subset.refl _)
  exact (((hidle.calAbandon (by simp [rxResetFields]) (by simp [rxResetFields])).onRx p _).endEyespot _).endEyespot _

/-- After it the receiver is IDLE. -/
theorem State.rxRegionDone_acqSt (s : State) (p : Port) : (s.rxRegionDone p).acqSt p = acqIdle := by
  have hkeep : RegionKeeps [RXCONV.CAL_STATUS_RUN_ACTIVE p, RXCONV.CAL_STATUS_RUN_PENDING p] []
      ((s.forEach (portTasks p) fun t s => s.abandonTask t).toIdle p) (s.rxRegionDone p) :=
    ((((RegionKeeps.refl _ _ _).calAbandon (by simp) (by simp)).onRx p _).endEyespot _).endEyespot _
  rw [hkeep.acqSt (by cases p <;> decide)]
  exact State.toIdle_acqSt _ p

theorem State.RegionKeeps.txRegionReset {l : List Field} {n : List Nat} {s t : State} {p : Port} (h : RegionKeeps l n s t)
    (hst : TX.TX_STATUS_TX_STATE p ∈ l) (hen : TX.TX_CTRL_TX_ENABLE p ∈ l) : RegionKeeps l n s (t.txRegionReset p) :=
  (((((h.onTx p _).onTx p _).wr hst txDark).commitEarly p.toNat).wr hen 0).onTx p _

theorem State.txResetRequested_keeps (s : State) (p : Port) :
    RegionKeeps [TX.TX_STATUS_TX_STATE p, TX.TX_CTRL_TX_ENABLE p] [] s (s.txResetRequested p) :=
  RegionKeeps.ite ((RegionKeeps.refl _ _ s).txRegionReset (by simp) (by simp))
    (RegionKeeps.ite (((RegionKeeps.refl _ _ s).onTx p _).wr (g := TX.TX_STATUS_TX_STATE p) (by simp) txResetWait)
      ((RegionKeeps.refl _ _ s).wr (g := TX.TX_STATUS_TX_STATE p) (by simp) txResetWait))

/-- A transmitter that is DARK stays so, another waits for its reset (R59). -/
theorem State.txResetRequested_txSt (s : State) (p : Port) :
    (s.txResetRequested p).txSt p = if s.txSt p = txDark then txDark else txResetWait := by
  unfold State.txResetRequested
  split
  · exact (State.rd_wr_ne (s.txGoDark p) 0 (txState_key_ne_txEnable p).symm).trans (s.txGoDark_txSt p)
  · split <;> exact State.txSt_wr _ p (by decide)

theorem stageResult_unsettled (page : Nat) : (HDR.STAGE_STATUS_RESULT page).unsettled = true := by
  have hkey : (HDR.STAGE_STATUS_RESULT page).key = (page * 4096 + 0x024) * 32 + 4 := rfl
  have hquiet : (HDR.STAGE_STATUS_RESULT page).quiet = true := by
    simp only [Field.quiet, Bool.and_eq_true, decide_eq_true_eq, hkey]
    simp only [Field.key, MG_CTL.NMI_CAUSE_EXHAUSTED, MG_CTL.NMI_CAUSE_RCLK_FAIL, MG_CTL.NMI_PAGE_PAGE]
    omega
  simp only [Field.unsettled, hquiet, Bool.true_and, Bool.and_eq_true, decide_eq_true_eq, hkey]
  omega

/-- A field outside the header of its page is not `STAGE_STATUS.RESULT`. -/
theorem stageResult_key_ne {page : Nat} {l : List Field} (h : ∀ g ∈ l, g.key / 32 % 4096 ≠ 0x024) :
    ∀ g ∈ l, (HDR.STAGE_STATUS_RESULT page).key ≠ g.key := by
  intro g hg heq
  have hoff := h g hg
  rw [← heq] at hoff
  simp only [Field.key, HDR.STAGE_STATUS_RESULT] at hoff
  omega

/-- The fields that a region reset changes after its request. -/
def resetFields (p : Port) : List Field := rxResetFields p ++ [TX.TX_STATUS_TX_STATE p, TX.TX_CTRL_TX_ENABLE p]

theorem State.resetRequested_keeps (s : State) (p : Port) :
    RegionKeeps (resetFields p) (idlePlaces p) (s.resetRequested p)
      (((s.resetRequested p).rxRegionDone p).txResetRequested p) :=
  ((State.rxRegionDone_keeps _ p).mono (List.subset_append_left _ _) (List.Subset.refl _)).trans
    ((State.txResetRequested_keeps _ p).mono (List.subset_append_right _ _) (List.nil_subset _))

/-- A region reset of a port, as its request leaves it (R118, R483). -/
theorem State.regionReset_spec {s : State} {p : Port} (hbusy : s.on (RXEQ.REGION_CTRL_RESET_BUSY p) = false) :
    (s.regionReset p).on (RXEQ.REGION_CTRL_RESET_BUSY p) = true ∧ (s.regionReset p).acqSt p = acqIdle ∧
      (s.regionReset p).txSt p = (if s.txSt p = txDark then txDark else txResetWait) ∧
      ∀ e ∈ s.ecl, e.2.groups &&& portGroups p ≠ 0 → (s.regionReset p).EndedWith8 e.1 := by
  rw [State.regionReset_of_idle hbusy]
  have hkeep := s.resetRequested_keeps p
  refine ⟨?_, ?_, ?_, fun e he hg => ?_⟩
  · rw [hkeep.on (by cases p <;> decide) (by cases p <;> decide), State.resetRequested, State.on,
      State.endRequests_rd _ _ _ (by cases p <;> decide)]
    exact s.on_wr_one rfl
  · rw [(State.txResetRequested_keeps _ p).acqSt (by cases p <;> decide)]
    exact State.rxRegionDone_acqSt _ p
  · have htx : ((s.resetRequested p).rxRegionDone p).txSt p = s.txSt p := by
      rw [State.txSt, ((s.resetRequested p).rxRegionDone_keeps p).rd _ (by cases p <;> decide) (by cases p <;> decide),
        State.resetRequested, State.endRequests_rd _ _ _ (by cases p <;> decide), State.rd_wr_ne _ _ (by cases p <;> decide),
        State.txSt]
    rw [State.txResetRequested_txSt, htx]
  · obtain ⟨hresult, hgone⟩ := State.endRequests_ends (s.wr (RXEQ.REGION_CTRL_RESET_BUSY p) 1) (portGroups p) he hg
    have hoff : ∀ g ∈ resetFields p, g.key / 32 % 4096 ≠ 0x024 := by cases p <;> decide
    exact ⟨(hkeep.rd _ (stageResult_unsettled _) (stageResult_key_ne hoff)).trans hresult, hkeep.ecl _ hgone⟩

/-! ### The end of a region reset (R76, R118) -/

/-- The enables as a region reset that ends leaves them. -/
def State.resetEnables (s : State) (p : Port) : State :=
  ((s.wr (RXEQ.REGION_CTRL_RESET_BUSY p) 0).wr (RXFE.RX_CTRL_RX_ENABLE p) 0).wr (TX.TX_CTRL_TX_ENABLE p) 0

/-- The converters of a port restored from their calibration store (R76). -/
def State.portConvsRestored (s : State) (p : Port) : State :=
  s.forEach [0, 1, 2, 3] fun (c : Fin 4) s => (s.convRestore false p c).convRestore true p c

theorem State.portConvsRestored_keeps (s : State) (p : Port) : s.RestoreKeeps (s.portConvsRestored p) :=
  (RestoreKeeps.refl s).forEach _ _ fun c u => (u.convRestore_restoreKeeps false p c).trans (State.convRestore_restoreKeeps _ true p c)

/-- A region reset that ends. -/
def State.regionResetEnds (s : State) (p : Port) : State :=
  (((s.resetEnables p).portConvsRestored p).raise (Ev.RXEQ.regionReset p)).settleReport p

theorem completes_regionResetDone {p : Port} {s : State} {P : State → Prop} (hclk : s.Clocked)
    (hbusy : s.on (RXEQ.REGION_CTRL_RESET_BUSY p) = true) (hdark : s.txSt p = txDark) (hP : P (s.regionResetEnds p)) :
    Completes (.regionResetDone p) s P := by
  refine ⟨_, ?_, hP⟩
  rw [exec, execRegionResetDone, State.clocked_run hclk, if_pos ⟨hbusy, hdark⟩]
  rfl

theorem State.resetEnables_keeps (s : State) (p : Port) :
    KeepsFieldsBut [RXEQ.REGION_CTRL_RESET_BUSY p, RXFE.RX_CTRL_RX_ENABLE p, TX.TX_CTRL_TX_ENABLE p] s (s.resetEnables p) :=
  (((KeepsFieldsBut.refl _ s).wr (by simp) 0).wr (by simp) 0).wr (by simp) 0

theorem State.regionResetEnds_on (s : State) {p : Port} {f : Field} (hf : f.unsettled = true)
    (hshown : ∀ g ∈ restoreShown, f.key ≠ g.key) : (s.regionResetEnds p).on f = (s.resetEnables p).on f := by
  rw [State.on, State.regionResetEnds, ((Settles.refl _).settleReport p).rd f hf,
    State.raise_rd _ _ _ (Field.unsettled_quiet hf),
    (((s.resetEnables p).portConvsRestored_keeps p).fields f (Field.unsettled_quiet hf) hshown).1, State.on]

theorem State.regionResetEnds_counted {s : State} {p : Port} (hclk : s.Clocked) :
    Counted (Ev.RXEQ.regionReset p) s (s.regionResetEnds p) := by
  have hconvs := (s.resetEnables p).portConvsRestored_keeps p
  have hcount : ((s.resetEnables p).portConvsRestored p).counter (Ev.RXEQ.regionReset p).page (Ev.RXEQ.regionReset p).off =
      s.counter (Ev.RXEQ.regionReset p).page (Ev.RXEQ.regionReset p).off :=
    hconvs.frame.keeps (fun t => t.counter (Ev.RXEQ.regionReset p).page (Ev.RXEQ.regionReset p).off) rfl
  have hkeep : KeepsFieldsBut ([RXEQ.REGION_CTRL_RESET_BUSY p, RXFE.RX_CTRL_RX_ENABLE p, TX.TX_CTRL_TX_ENABLE p] ++ restoreShown)
      s ((s.resetEnables p).portConvsRestored p) := by
    refine KeepsFieldsBut.trans (fun f hq hl => s.resetEnables_keeps p f hq fun g hg => hl g (List.mem_append_left _ hg))
      (fun f hq hl => hconvs.fields f hq fun g hg => hl g (List.mem_append_right _ hg))
  have hevent := State.counted_raise_of_keeps hclk hkeep (by cases p <;> decide) hcount (by cases p <;> decide)
  rw [Counted, State.regionResetEnds, ((Settles.refl _).settleReport p).counter _ _ (by cases p <;> decide)]
  exact hevent

theorem State.regionResetEnds_spec (s : State) (p : Port) :
    (s.regionResetEnds p).on (RXEQ.REGION_CTRL_RESET_BUSY p) = false ∧
      (s.regionResetEnds p).on (RXFE.RX_CTRL_RX_ENABLE p) = false ∧ (s.regionResetEnds p).on (TX.TX_CTRL_TX_ENABLE p) = false := by
  refine ⟨?_, ?_, ?_⟩ <;> rw [State.regionResetEnds_on _ (by cases p <;> decide) (by cases p <;> decide), State.resetEnables]
  · rw [State.on_wr_ne _ _ (by cases p <;> decide), State.on_wr_ne _ _ (by cases p <;> decide), State.on_wr_zero]
  · rw [State.on_wr_ne _ _ (by cases p <;> decide), State.on_wr_zero]
  · rw [State.on_wr_zero]

theorem completes_regionResetRequest {r : Requester} {p : Port} {s : State} {P : State → Prop}
    (htakes : s.Takes r (35 + 8 * p.toNat) 0x040) (hP : P (s.regionReset p)) : Completes (.regionResetRequest r p) s P :=
  ⟨_, by rw [exec, execRegionResetRequest, State.guarded_of_takes htakes], hP⟩

/-- Settles O34: the request by what it does to requests, receiver and transmitter in turn, the end by what it writes last. -/
theorem regionResetOfAPort : Obligations.RegionResetOfAPort := by
  unfold Obligations.RegionResetOfAPort
  refine ⟨?requested, ?again, ?ends, ?waits⟩
  case requested =>
    intro r p s htakes hbusy
    refine completes_regionResetRequest htakes ?_
    obtain ⟨hon, hidle, htx, hended⟩ := State.regionReset_spec hbusy
    refine ⟨hon, hidle, fun hdark => ?_, fun hup => ?_, hended⟩
    · rw [htx, if_pos hdark]
    · rw [htx, if_neg]
      rcases hup with hup | hup <;> rw [hup] <;> decide
  case again =>
    intro r p s htakes hbusy
    refine completes_regionResetRequest htakes ?_
    rw [State.regionReset, if_pos hbusy]
  case ends =>
    intro p s hclk hbusy hdark
    refine completes_regionResetDone hclk hbusy hdark ?_
    obtain ⟨hoff, hrx, htx⟩ := s.regionResetEnds_spec p
    exact ⟨hoff, hrx, htx, State.regionResetEnds_counted hclk⟩
  case waits =>
    intro p s hclk _ hup
    refine ⟨s, ?_, rfl⟩
    rw [exec, execRegionResetDone, State.clocked_run hclk, if_neg fun h => hup h.2]

end Sys2Proof.Machine
end


section
/-! What the operations on a receive region leave of its receiver's own state, and events counted across them. -/

namespace Sys2Proof.Machine

open F

/-! ### Events counted across updates of a receive region -/

namespace State.RegionKeeps

variable {l : List Field} {n : List Nat} {s t u : State}

theorem clocked (h : RegionKeeps l n s t) (hl : ∀ g ∈ l, CK_SYN.SYN_STATUS_RCLK_OK.key ≠ g.key) (hclk : s.Clocked) : t.Clocked :=
  (State.rclkStopped_of_rd (h.rd _ (by decide) hl)).trans hclk

/-- An event after updates that leave its counter and RCLK. -/
theorem counted_raise (h : RegionKeeps l n s t) (hl : ∀ g ∈ l, CK_SYN.SYN_STATUS_RCLK_OK.key ≠ g.key) (hclk : s.Clocked) {e : Evt}
    (he : unsettledPlace e.place = true) (hn : e.place ∉ n) : Counted e s (t.raise e) := by
  rw [Counted, ← h.counter e.page e.off he hn]
  exact State.raise_counted (h.clocked hl hclk) (unsettledPlace_ne he (by decide))

/-- An event that was counted stays so over updates that leave its counter. -/
theorem counted (h : RegionKeeps l n t u) {e : Evt} (hc : Counted e s t) (he : unsettledPlace e.place = true) (hn : e.place ∉ n) :
    Counted e s u := (h.counter e.page e.off he hn).trans hc

/-- An event that is counted after updates that leave its counter. -/
theorem counted_before (h : RegionKeeps l n s t) {e : Evt} (hc : Counted e t u) (he : unsettledPlace e.place = true)
    (hn : e.place ∉ n) : Counted e s u := by
  rw [Counted, ← h.counter e.page e.off he hn]
  exact hc

end State.RegionKeeps

theorem State.on_wrB (s : State) {f : Field} (hf : f.width = 1) (b : Bool) : (s.wrB f b).on f = b := by
  rw [State.on, State.wrB, State.rd_wr_same, hf]
  cases b <;> rfl

theorem unsigned_lt (w : Nat) (i : Int) : unsigned w i < 2 ^ w := by
  have hpos : (0 : Int) < 2 ^ w := by positivity
  have hlt := Int.emod_lt_of_pos i hpos
  have hnn := Int.emod_nonneg i (ne_of_gt hpos)
  rw [unsigned, ← Int.ofNat_lt, Int.toNat_of_nonneg hnn]
  exact_mod_cast hlt

theorem State.rd_wrI_same (s : State) (f : Field) (v : Int) : (s.wrI f v).rd f = unsigned f.width v := by
  rw [State.wrI, State.rd_wr_same]
  exact Nat.mod_eq_of_lt (unsigned_lt _ _)

/-! ### The receiver's own state (R117, R142) -/

theorem State.Settles.rx {s t : State} (h : s.Settles t) : t.rx = s.rx := h.keeps State.rx fun _ _ _ _ _ _ _ => rfl

theorem State.Settles.rxMode {s t : State} (h : s.Settles t) (p : Port) : t.rxMode p = s.rxMode p :=
  h.keeps (fun s => s.rxMode p) fun _ _ _ _ _ _ _ => rfl

theorem State.clearTrLock_rx (s : State) (p : Port) : (s.clearTrLock p).rx = s.rx := by
  unfold State.clearTrLock
  split
  · rw [((State.Settles.refl _).refPort p).rx, State.raise_rx, State.wr_rx]
  · rfl

/-- States that differ at most in registers, counters, latched vectors, INT_N, and in what framers, rings, lines, drops and the trace
hold. -/
def State.BoundaryFrame (s t : State) : Prop :=
  t = { s with regs := t.regs, cnt := t.cnt, msixLatch := t.msixLatch, intLow := t.intLow, frame := t.frame, ring := t.ring,
               line := t.line, drop := t.drop, trace := t.trace }

namespace State.BoundaryFrame

variable {s t u : State}

theorem trans (h : s.BoundaryFrame t) (k : t.BoundaryFrame u) : s.BoundaryFrame u := by
  unfold State.BoundaryFrame at *
  rw [k, h]

theorem refl (s : State) : s.BoundaryFrame s := rfl

theorem wr (h : s.BoundaryFrame t) (f : Field) (v : Nat) : s.BoundaryFrame (t.wr f v) := h.trans rfl

theorem onFrame (h : s.BoundaryFrame t) (p : Port) (f : FrameState → FrameState) : s.BoundaryFrame (t.onFrame p f) := h.trans rfl

theorem dropRingEntries (h : s.BoundaryFrame t) (p : Port) : s.BoundaryFrame (t.dropRingEntries p) := h.trans rfl

theorem raiseN (h : s.BoundaryFrame t) (e : Evt) (n : Nat) : s.BoundaryFrame (t.raiseN e n) := by
  refine h.trans ?_
  have hev := State.raiseN_eventFrame t e n
  unfold State.EventFrame State.BoundaryFrame at *
  rw [hev]

/-- What such an update leaves, read by `g`. -/
theorem keeps (h : s.BoundaryFrame t) {β : Type} (g : State → β)
    (hg : ∀ regs cnt latch low frame ring line drop trace,
      g { s with regs := regs, cnt := cnt, msixLatch := latch, intLow := low, frame := frame, ring := ring, line := line,
                 drop := drop, trace := trace } = g s) : g t = g s := by
  rw [h]
  exact hg _ _ _ _ _ _ _ _ _

theorem rx (h : s.BoundaryFrame t) : t.rx = s.rx := h.keeps State.rx fun _ _ _ _ _ _ _ _ _ => rfl

theorem spared (h : s.BoundaryFrame t) : t.spared = s.spared := h.keeps State.spared fun _ _ _ _ _ _ _ _ _ => rfl

theorem endEyespot (h : s.BoundaryFrame t) (src : Nat) : s.BoundaryFrame (t.endEyespot src) := by
  unfold State.endEyespot State.bufferRecord
  cases t.flightOf src with
  | none => exact h
  | some e =>
    have hflight : s.BoundaryFrame (t.onTrace fun x => { x with flight := Tab.erase x.flight src }) := h.trans rfl
    dsimp only
    refine raiseN ?_ _ 1
    split
    · exact hflight.trans rfl
    · exact hflight.raiseN _ 1

theorem originsLost (h : s.BoundaryFrame t) (p : Port) : s.BoundaryFrame (t.originsLost p) := by
  unfold State.originsLost
  extract_lets keys m u v
  have hv : s.BoundaryFrame v :=
    (State.forEach_invariant s.BoundaryFrame keys _ (fun k w hw => hw.trans (u := w.onLine p (k % 256) _) rfl) h).raiseN _ m
  exact State.forEach_invariant s.BoundaryFrame _ _ (fun ch w hw => hw.trans (u := w.onDrop ch _) rfl) hv

theorem declareOof (h : s.BoundaryFrame t) (p : Port) : s.BoundaryFrame (t.declareOof p) :=
  (((((((((h.wr _ 0).wr _ 1).wr _ 0).wr _ 0).onFrame p _).dropRingEntries p).originsLost p).endEyespot _).raiseN _ 1)

end State.BoundaryFrame

/-- A receiver without a superframe boundary (R142). -/
def RxState.unbound (r : RxState) : RxState := { r with labels := [], skip := 0, symPos := 0 }

/-- A loss of the boundary: beside what its port's framer and decoder hold, the receiver has no boundary (R142). -/
theorem State.loseBoundary_rx (s : State) (p : Port) :
    (s.loseBoundary p).rx = s.rx.upd p RxState.unbound ∧ (s.loseBoundary p).spared = s.spared := by
  have hlost : (((s.wr (FEC.SF_STATUS_SF_LOCK p) 0).onFec p FecState.cleared)).BoundaryFrame
      (((s.wr (FEC.SF_STATUS_SF_LOCK p) 0).onFec p FecState.cleared).endEyespot p.toNat) :=
    (State.BoundaryFrame.refl _).endEyespot _
  have hrx : ((((s.wr (FEC.SF_STATUS_SF_LOCK p) 0).onFec p FecState.cleared).endEyespot p.toNat).onRx p RxState.unbound).rx =
      s.rx.upd p RxState.unbound := by
    rw [State.onRx, hlost.rx]
    rfl
  have hspared : ((((s.wr (FEC.SF_STATUS_SF_LOCK p) 0).onFec p FecState.cleared).endEyespot p.toNat).onRx p
      RxState.unbound).spared = s.spared := hlost.spared
  unfold State.loseBoundary
  dsimp only
  split
  · have hoof := (State.BoundaryFrame.refl ((((s.wr (FEC.SF_STATUS_SF_LOCK p) 0).onFec p FecState.cleared).endEyespot
      p.toNat).onRx p RxState.unbound)).declareOof p
    exact ⟨hoof.rx.trans hrx, hoof.spared.trans hspared⟩
  · exact ⟨hrx, hspared⟩

/-- A receiver whose carrier tracking starts afresh (R117). -/
def RxState.quieted (r : RxState) : RxState :=
  { r with zeroLlr := true, freqRun := 0, convRun := 0, divergeRun := 0, slipRun := 0, deltaF := 0, nco := 0, phaseX := 0,
           phaseY := 0, retained := [], marker := none }

theorem State.eqQuiet_rx (s : State) (p : Port) : (s.eqQuiet p).rx = s.rx.upd p RxState.quieted := rfl

/-- A receiver whose equaliser starts afresh (R117). -/
def RxState.restarted (r : RxState) (run : Bool) : RxState :=
  { r.quieted with mimo := Mimo.identity, mimoNext := Mimo.identity, mimoStandby := false, mimoFrozen := false, timingOn := run,
                   timingHeld := false, lockRun := 0, unlockRun := 0, trPhase := 0, trRate := 0, trHop := r.nextHop,
                   trBase := r.nextHop, nextSym := 0 }

theorem State.eqReset_rx (s : State) (p : Port) (run : Bool) :
    (s.eqReset p run).rx.get p = (s.rx.get p).restarted run ∧ (s.eqReset p run).rx.get p.other = s.rx.get p.other := by
  unfold State.eqReset
  dsimp only
  rw [State.onRx, State.wr_rx, State.clearTrLock_rx, Pair.get_upd_same, Pair.get_upd_other]
  cases p <;> exact ⟨rfl, rfl⟩

/-- From a state other than ACQUIRED the tracking starts afresh and the boundary is lost; the rate is kept (R88, R117). -/
theorem State.toPreHunt_of_ne {s : State} {p : Port} (h : s.acqSt p ≠ acqAcquired) :
    s.toPreHunt p = ((s.acqMove p acqPreHunt).eqQuiet p).loseBoundary p := by
  rw [State.toPreHunt, if_neg]
  rw [(State.acqMove_settles h acqPreHunt).rxMode]
  exact fun hne => hne rfl

theorem State.toPreHunt_acqSt {s : State} {p : Port} (h : s.acqSt p ≠ acqAcquired) : (s.toPreHunt p).acqSt p = acqPreHunt := by
  rw [State.toPreHunt_of_ne h, State.acqSt_loseBoundary, State.acqSt_eqQuiet]
  exact s.acqMove_acqSt p (by decide)

theorem State.RegionKeeps.acqLost {l : List Field} {n : List Nat} {s t : State} {p : Port} (h : RegionKeeps l n s t)
    (hn : (Ev.RXFE.acqLost p).place ∈ n) : RegionKeeps l n s (t.acqLost p) := ite (h.raise hn) h

/-- What an entry of a state keeps of the fields and counters. -/
theorem State.toCdScan_keeps (s : State) (p : Port) : RegionKeeps (restartFields p) (restartPlaces p) s (s.toCdScan p) :=
  (RegionKeeps.refl _ _ s).toCdScan (List.Subset.refl _) (List.Subset.refl _)

theorem State.toTiming_keeps (s : State) (p : Port) : RegionKeeps (restartFields p) (restartPlaces p) s (s.toTiming p) :=
  (RegionKeeps.refl _ _ s).toTiming (List.Subset.refl _) (List.Subset.refl _)

theorem State.toPreHunt_keeps (s : State) (p : Port) : RegionKeeps (restartFields p) (restartPlaces p) s (s.toPreHunt p) :=
  (RegionKeeps.refl _ _ s).toPreHunt (List.Subset.refl _) (List.Subset.refl _)

theorem State.acqMove_restartKeeps (s : State) (p : Port) (next : Nat) :
    RegionKeeps (restartFields p) (restartPlaces p) s (s.acqMove p next) :=
  (RegionKeeps.refl _ _ s).acqMoveIn (List.Subset.refl _) (List.Subset.refl _) next

end Sys2Proof.Machine
end


section
/-! The conditions on which an acquisition changes its state (O35; R83 to R89). -/

namespace Sys2Proof.Machine

open F

/-! ### `RX_ENABLE` (R88, R377) -/

theorem completes_rxEnableSet {r : Requester} {p : Port} {s : State} {P : State → Prop}
    (htakes : s.Takes r (33 + 8 * p.toNat) 0x040) (hP : ∀ m, P (State.rxEnableSet { s with mbx := m } p)) :
    Completes (.rxEnableSet r p) s P := by
  refine ⟨_, by rw [exec, execRxEnableSet, State.guarded_of_takes htakes], ?_⟩
  rw [s.mbxEnableWrite_mbxFrame r p]
  exact hP _

theorem completes_rxEnableClear {r : Requester} {p : Port} {s : State} {P : State → Prop}
    (htakes : s.Takes r (33 + 8 * p.toNat) 0x040) (hP : ∀ m, P (State.rxEnableClear { s with mbx := m } p)) :
    Completes (.rxEnableClear r p) s P := by
  refine ⟨_, by rw [exec, execRxEnableClear, State.guarded_of_takes htakes], ?_⟩
  rw [s.mbxEnableWrite_mbxFrame r p]
  exact hP _

/-- A reason for a calibration run shows in `CAL_STATUS` alone (R72, R74). -/
theorem State.calRequest_rd (s : State) (p : Port) {f : Field}
    (hf : ∀ g ∈ [RXCONV.CAL_STATUS_RUN_ACTIVE p, RXCONV.CAL_STATUS_RUN_PENDING p, RXCONV.CAL_STATUS_SKEW_SKIPPED p,
      RXCONV.CAL_STATUS_T_REF p], g.key ≠ f.key) : (s.calRequest p).rd f = s.rd f := by
  unfold State.calRequest
  split
  · rfl
  split
  · exact State.rd_wr_ne _ _ (hf _ (by simp))
  · rw [State.calBegin_rd, State.calLatched, State.rd_wr_ne _ _ (hf _ (by simp)), State.rd_wr_ne _ _ (hf _ (by simp)),
      State.rd_wr_ne _ _ (hf _ (by simp))]

/-- A run is active after a reason for one that is not held (R72, R74). -/
theorem State.calRequest_active {s : State} {p : Port} (hhold : s.on (RXCONV.CAL_CFG_CAL_HOLD p) = false) :
    (s.calRequest p).on (RXCONV.CAL_STATUS_RUN_ACTIVE p) = true := by
  cases hactive : s.on (RXCONV.CAL_STATUS_RUN_ACTIVE p)
  · rw [State.calRequest_begins hhold hactive]
    exact (s.calBegin_status p).1
  · rw [State.calRequest_pends hhold hactive, State.on_wr_ne _ _ (by cases p <;> decide)]
    exact hactive

/-- A receiver as its enable leaves it before its calibration run and its first state: loss of signal is judged afresh (R88). -/
def State.rxEnabled (s : State) (p : Port) : State :=
  ((((s.wr (RXFE.RX_CTRL_RX_ENABLE p) 1).wr (RXFE.NOISE_X_VALID p) 0).wr (RXFE.NOISE_Y_VALID p) 0).wr (RXFE.ACQ_STATUS_LOS p) 1).onRx p
    fun r => { r with lowRun := 0, highRun := 0, acqUs := 0, acqDefect := true, scanned := false }

theorem State.rxEnableSet_starts {s : State} {p : Port} (hbusy : s.on (RXEQ.REGION_CTRL_RESET_BUSY p) = false)
    (hidle : s.acqSt p = acqIdle) (hvalid : s.rxValid p = true) :
    s.rxEnableSet p = ((s.rxEnabled p).calRequest p).acqMove p acqNoSignal := by
  rw [State.rxEnableSet, hbusy, if_neg (by decide), if_pos hidle, if_pos hvalid]
  rfl

/-- An enable of a valid configuration out of IDLE waits for a signal, with a calibration run unless that is held (R72, R88). -/
theorem State.rxEnableSet_spec {s : State} {p : Port} (hbusy : s.on (RXEQ.REGION_CTRL_RESET_BUSY p) = false)
    (hidle : s.acqSt p = acqIdle) (hvalid : s.rxValid p = true) :
    (s.rxEnableSet p).acqSt p = acqNoSignal ∧ (s.rxEnableSet p).on (RXFE.RX_CTRL_RX_ENABLE p) = true ∧
      (s.rxEnableSet p).on (RXFE.ACQ_STATUS_LOS p) = true ∧
      (s.on (RXCONV.CAL_CFG_CAL_HOLD p) = false → (s.rxEnableSet p).on (RXCONV.CAL_STATUS_RUN_ACTIVE p) = true) := by
  rw [State.rxEnableSet_starts hbusy hidle hvalid]
  have hmove := ((s.rxEnabled p).calRequest p).acqMove_restartKeeps p acqNoSignal
  have hon : ∀ f, (∀ g ∈ [RXCONV.CAL_STATUS_RUN_ACTIVE p, RXCONV.CAL_STATUS_RUN_PENDING p, RXCONV.CAL_STATUS_SKEW_SKIPPED p,
      RXCONV.CAL_STATUS_T_REF p], g.key ≠ f.key) → ((s.rxEnabled p).calRequest p).on f = (s.rxEnabled p).on f := fun f hf => by
    rw [State.on, State.calRequest_rd _ p hf, State.on]
  refine ⟨State.acqMove_acqSt _ p (by decide), ?_, ?_, fun hhold => ?_⟩
  · rw [hmove.on (by cases p <;> decide) (by cases p <;> decide), hon _ (by cases p <;> decide)]
    have henabled : RegionKeeps [RXFE.NOISE_X_VALID p, RXFE.NOISE_Y_VALID p, RXFE.ACQ_STATUS_LOS p] []
        (s.wr (RXFE.RX_CTRL_RX_ENABLE p) 1) (s.rxEnabled p) :=
      ((((RegionKeeps.refl _ _ _).wr (g := RXFE.NOISE_X_VALID p) (by simp) 0).wr (g := RXFE.NOISE_Y_VALID p) (by simp) 0).wr
        (g := RXFE.ACQ_STATUS_LOS p) (by simp) 1).onRx p _
    rw [henabled.on (by cases p <;> decide) (by cases p <;> decide)]
    exact s.on_wr_one rfl
  · rw [hmove.on (by cases p <;> decide) (by cases p <;> decide), hon _ (by cases p <;> decide)]
    exact State.on_wr_one _ rfl
  · rw [hmove.on (by cases p <;> decide) (by cases p <;> decide)]
    refine State.calRequest_active ?_
    have hkeeps : RegionKeeps [RXFE.RX_CTRL_RX_ENABLE p, RXFE.NOISE_X_VALID p, RXFE.NOISE_Y_VALID p, RXFE.ACQ_STATUS_LOS p] [] s
        (s.rxEnabled p) :=
      (((((RegionKeeps.refl _ _ s).wr (g := RXFE.RX_CTRL_RX_ENABLE p) (by simp) 1).wr (g := RXFE.NOISE_X_VALID p) (by simp) 0).wr
        (g := RXFE.NOISE_Y_VALID p) (by simp) 0).wr (g := RXFE.ACQ_STATUS_LOS p) (by simp) 1).onRx p _
    rw [hkeeps.on (by cases p <;> decide) (by cases p <;> decide)]
    exact hhold

/-- An enable of an invalid configuration is refused (R88, R92). -/
theorem State.rxEnableSet_refused {s : State} {p : Port} (hclk : s.Clocked)
    (hbusy : s.on (RXEQ.REGION_CTRL_RESET_BUSY p) = false) (hidle : s.acqSt p = acqIdle) (hvalid : s.rxValid p = false) :
    (s.rxEnableSet p).acqSt p = acqIdle ∧ (s.rxEnableSet p).on (RXFE.RX_CTRL_RX_ENABLE p) = false ∧
      Counted (Ev.RXFE.cfgRefused p) s (s.rxEnableSet p) := by
  rw [State.rxEnableSet, hbusy, if_neg (by decide), if_pos hidle, hvalid, if_neg (by decide)]
  have hkeeps : RegionKeeps [RXFE.RX_CTRL_RX_ENABLE p] [] s (s.wr (RXFE.RX_CTRL_RX_ENABLE p) 0) :=
    (RegionKeeps.refl _ _ s).wr (by simp) 0
  have hevent := hkeeps.mono (List.Subset.refl _) (List.nil_subset [(Ev.RXFE.cfgRefused p).place])
  have hraised := hevent.raise (e := Ev.RXFE.cfgRefused p) (by simp)
  refine ⟨(hraised.acqSt (by cases p <;> decide)).trans hidle, ?_, ?_⟩
  · rw [State.on_raise _ _ (by cases p <;> decide)]
    exact State.on_wr_zero _ _
  · exact hkeeps.counted_raise (by cases p <;> decide) hclk (by cases p <;> decide) (by simp)

/-- An enable is ignored during a region reset and outside IDLE (R88, R118; log entry 90). -/
theorem State.rxEnableSet_ignored {s : State} {p : Port}
    (h : s.on (RXEQ.REGION_CTRL_RESET_BUSY p) = true ∨ s.acqSt p ≠ acqIdle) : s.rxEnableSet p = s := by
  rw [State.rxEnableSet]
  rcases h with h | h
  · rw [if_pos h]
  · rw [if_neg h, ite_self]

theorem State.loseBoundary_sfLock (s : State) (p : Port) : (s.loseBoundary p).on (FEC.SF_STATUS_SF_LOCK p) = false := by
  have hlock := ((((RegionKeeps.refl (oofFields p) (boundaryPlaces p) (s.wr (FEC.SF_STATUS_SF_LOCK p) 0)).onFec p
    FecState.cleared).endEyespot p.toNat).onRx p fun r => { r with labels := [], skip := 0, symPos := 0 })
  have hkeeps : RegionKeeps (oofFields p) (boundaryPlaces p) (s.wr (FEC.SF_STATUS_SF_LOCK p) 0) (s.loseBoundary p) :=
    RegionKeeps.ite (hlock.declareOof (List.Subset.refl _) (List.Subset.refl _)) (hlock.onFrame p _)
  rw [hkeeps.on (by cases p <;> decide) (by cases p <;> decide)]
  exact State.on_wr_zero _ _

theorem State.setCarrier_on (s : State) (p : Port) (b : Bool) : (s.setCarrier p b).on (RXFE.ACQ_STATUS_CARRIER p) = b :=
  s.on_wrB rfl b

theorem State.setCarrier_rd (s : State) (p : Port) (b : Bool) {f : Field} (hf : (RXFE.ACQ_STATUS_CARRIER p).key ≠ f.key) :
    (s.setCarrier p b).rd f = s.rd f := State.rd_wr_ne s (bit b) hf

theorem State.dropHops_spec (s : State) (p : Port) :
    ((s.dropHops p).rx.get p).hops = [] ∧ (s.dropHops p).on (RXEQ.CLU_ROT_SPARE_BUSY p) = false := by
  refine ⟨by simp [State.dropHops, State.onRx], ?_⟩
  have hkeeps : RegionKeeps [RXEQ.CLU_ROT_CHRYS_CLU p] [] (s.wr (RXEQ.CLU_ROT_SPARE_BUSY p) 0) (s.dropHops p) :=
    ((RegionKeeps.refl _ _ _).cond ((RegionKeeps.refl _ _ _).wr (by simp) _)).onRx p _
  rw [hkeeps.on (by cases p <;> decide) (by cases p <;> decide)]
  exact State.on_wr_zero _ _

/-- What a receiver's end leaves of its carrier, its hops and their spare (R88, R97). -/
theorem State.idleEnded_spec (s : State) (p : Port) :
    (s.idleEnded p).on (RXFE.ACQ_STATUS_CARRIER p) = false ∧ ((s.idleEnded p).rx.get p).hops = [] ∧
      (s.idleEnded p).on (RXEQ.CLU_ROT_SPARE_BUSY p) = false := by
  have hcarrier := s.setCarrier_on p false
  unfold State.idleEnded
  generalize s.setCarrier p false = t at hcarrier ⊢
  dsimp only
  have hlof : RegionKeeps [HB_FRAME.FRM_STATUS_LOF p, RXEQ.CLU_ROT_SPARE_BUSY p, RXEQ.CLU_ROT_CHRYS_CLU p]
      [(Ev.HB_FRAME.lofCleared p).place] t
      (t.cond (t.on (HB_FRAME.FRM_STATUS_LOF p)) fun t => (t.wr (HB_FRAME.FRM_STATUS_LOF p) 0).raise (Ev.HB_FRAME.lofCleared p)) :=
    (RegionKeeps.refl _ _ t).cond (((RegionKeeps.refl _ _ t).wr (by simp) 0).raise (by simp))
  generalize t.cond (t.on (HB_FRAME.FRM_STATUS_LOF p)) _ = u at hlof ⊢
  obtain ⟨hhops, hbusy⟩ := u.dropHops_spec p
  refine ⟨?_, ?_, hbusy⟩
  · rw [((hlof.dropHops (by simp) (by simp)).onRx p _).on (by cases p <;> decide) (by cases p <;> decide)]
    exact hcarrier
  · rw [State.onRx, Pair.get_upd_same]
    exact hhops

/-- What stopping a receiver leaves of its carrier, its hops, their spare and the boundary (R88, R97, R142). -/
theorem State.toIdle_spec (s : State) (p : Port) :
    (s.toIdle p).on (RXFE.ACQ_STATUS_CARRIER p) = false ∧ ((s.toIdle p).rx.get p).hops = [] ∧
      (s.toIdle p).on (RXEQ.CLU_ROT_SPARE_BUSY p) = false ∧ (s.toIdle p).on (FEC.SF_STATUS_SF_LOCK p) = false := by
  have hlock := State.loseBoundary_sfLock ((s.acqMove p acqIdle).eqReset p false) p
  rw [← (s.toIdle_end p).on (by cases p <;> decide) (by cases p <;> decide)] at hlock
  obtain ⟨hcarrier, hhops, hbusy⟩ := State.idleEnded_spec (((s.acqMove p acqIdle).eqReset p false).loseBoundary p) p
  exact ⟨hcarrier, hhops, hbusy, hlock⟩

/-- A disable stops the receiver (R88). -/
theorem State.rxEnableClear_spec {s : State} {p : Port} (hup : s.acqSt p ≠ acqIdle) :
    (s.rxEnableClear p).acqSt p = acqIdle ∧ (s.rxEnableClear p).on (RXFE.RX_CTRL_RX_ENABLE p) = false ∧
      (s.rxEnableClear p).on (RXFE.ACQ_STATUS_CARRIER p) = false ∧ ((s.rxEnableClear p).rx.get p).hops = [] ∧
      (s.rxEnableClear p).on (RXEQ.CLU_ROT_SPARE_BUSY p) = false ∧ (s.rxEnableClear p).on (FEC.SF_STATUS_SF_LOCK p) = false := by
  rw [State.rxEnableClear, if_neg hup]
  refine ⟨State.toIdle_acqSt _ p, ?_, State.toIdle_spec _ p⟩
  have hkeeps : RegionKeeps (idleFields p) (idlePlaces p) (s.wr (RXFE.RX_CTRL_RX_ENABLE p) 0)
      ((s.wr (RXFE.RX_CTRL_RX_ENABLE p) 0).toIdle p) := (RegionKeeps.refl _ _ _).toIdle (List.Subset.refl _) (List.Subset.refl _)
  rw [hkeeps.on (by cases p <;> decide) (by cases p <;> decide)]
  exact State.on_wr_zero _ _

/-! ### Input power (R85) -/

/-- Both polarisations are below the signal threshold: input power is in half decibels below full scale (R85; log entry 72). -/
def State.powerLow (s : State) (p : Port) (powX powY : Nat) : Bool :=
  decide (s.rd (RXFE.ACQ_CFG_SIG_THRESH p) < powX ∧ s.rd (RXFE.ACQ_CFG_SIG_THRESH p) < powY)

/-- The carrier as an interval's metric tells it (R85). -/
def State.carrierSeen (s : State) (p : Port) (metric : Nat) : Bool :=
  decide (s.rd (RXFE.ACQ_CFG_CARRIER_THRESH p) ≤ if (s.rx.get p).scanned then metric else (s.rx.get p).scanMetric)

/-- An interval's input power and metric noted (R85, R86). -/
def State.powerNoted (s : State) (p : Port) (powX powY metric : Nat) : State :=
  let low := s.powerLow p powX powY
  let out := decide (s.acqSt p ≠ acqAcquired)
  ((s.onRx p fun r =>
    { r with lowRun := if low then r.lowRun + 1 else 0, highRun := if low then 0 else r.highRun + 1,
             acqUs := if out then r.acqUs + 1 else r.acqUs, acqDefect := r.acqDefect || out,
             metricHigh := r.metricHigh || s.carrierSeen p metric }).wr (RXFE.CD_EST_METRIC p) metric).setCarrier p
    (s.carrierSeen p metric)

theorem State.powerNoted_keeps (s : State) (p : Port) (powX powY metric : Nat) :
    RegionKeeps [RXFE.CD_EST_METRIC p, RXFE.ACQ_STATUS_CARRIER p] [] s (s.powerNoted p powX powY metric) :=
  (((RegionKeeps.refl _ _ s).onRx p _).wr (by simp) metric).setCarrier (by simp) _

theorem State.powerNoted_carrier (s : State) (p : Port) (powX powY metric : Nat) :
    (s.powerNoted p powX powY metric).on (RXFE.ACQ_STATUS_CARRIER p) = s.carrierSeen p metric := State.setCarrier_on _ p _

theorem State.powerNoted_runs (s : State) (p : Port) (powX powY metric : Nat) :
    ((s.powerNoted p powX powY metric).rx.get p).lowRun = (if s.powerLow p powX powY then (s.rx.get p).lowRun + 1 else 0) ∧
      ((s.powerNoted p powX powY metric).rx.get p).highRun = (if s.powerLow p powX powY then 0 else (s.rx.get p).highRun + 1) := by
  cases p <;> exact ⟨rfl, rfl⟩

/-- An interval's end outside IDLE: a loss of signal is declared or cleared by the runs with it (R85). -/
theorem completes_signalPowerInterval {p : Port} {powX powY metric : Nat} {s : State} {P : State → Prop} (hclk : s.Clocked)
    (hup : s.acqSt p ≠ acqIdle)
    (hP : P (let t := s.powerNoted p powX powY metric
      if ¬ t.on (RXFE.ACQ_STATUS_LOS p) ∧ 10 ≤ (t.rx.get p).lowRun then t.losDeclare p
      else if t.on (RXFE.ACQ_STATUS_LOS p) ∧ 100 ≤ (t.rx.get p).highRun then t.losClear p else t)) :
    Completes (.signalPowerInterval p powX powY metric) s P := by
  refine ⟨_, ?_, hP⟩
  rw [exec, execSignalPowerInterval, State.clocked_run hclk, if_neg hup]
  rfl

/-- A loss of signal that is declared: the acquisition waits for the signal's return (R85, R88). -/
theorem State.losDeclare_spec {s : State} {p : Port} (hclk : s.Clocked) :
    (s.losDeclare p).acqSt p = acqNoSignal ∧ (s.losDeclare p).on (RXFE.ACQ_STATUS_LOS p) = true ∧
      (s.losDeclare p).on (RXFE.ACQ_STATUS_CARRIER p) = s.on (RXFE.ACQ_STATUS_CARRIER p) ∧
      Counted (Ev.RXFE.losDeclared p) s (s.losDeclare p) := by
  have hset : RegionKeeps [RXFE.ACQ_STATUS_LOS p] [] s (s.wr (RXFE.ACQ_STATUS_LOS p) 1) := (RegionKeeps.refl _ _ s).wr (by simp) 1
  have hrest : RegionKeeps (restartFields p) ((Ev.RXFE.acqLost p).place :: restartPlaces p)
      ((s.wr (RXFE.ACQ_STATUS_LOS p) 1).raise (Ev.RXFE.losDeclared p)) (s.losDeclare p) :=
    (((RegionKeeps.refl _ _ _).onCal p _).acqLost (by simp)).toNoSignal (List.Subset.refl _) (List.subset_cons_self _ _)
  refine ⟨State.toNoSignal_acqSt _ p, ?_, ?_, ?_⟩
  · rw [hrest.on (by cases p <;> decide) (by cases p <;> decide), State.on_raise _ _ (by cases p <;> decide)]
    exact s.on_wr_one rfl
  · rw [hrest.on (by cases p <;> decide) (by cases p <;> decide), State.on_raise _ _ (by cases p <;> decide),
      State.on_wr_ne _ _ (by cases p <;> decide)]
  · exact hrest.counted (hset.counted_raise (by cases p <;> decide) hclk (by cases p <;> decide) (by simp))
      (by cases p <;> decide) (by cases p <;> decide)

/-- A loss of signal that clears in NO_SIGNAL: the dispersion scan begins (R85, R88). -/
theorem State.losClear_spec {s : State} {p : Port} (hclk : s.Clocked) (hst : s.acqSt p = acqNoSignal) :
    (s.losClear p).acqSt p = acqCdScan ∧ (s.losClear p).on (RXFE.ACQ_STATUS_LOS p) = false ∧
      Counted (Ev.RXFE.losCleared p) s (s.losClear p) := by
  have hset : RegionKeeps [RXFE.ACQ_STATUS_LOS p] [] s (s.wr (RXFE.ACQ_STATUS_LOS p) 0) := (RegionKeeps.refl _ _ s).wr (by simp) 0
  have hcleared : RegionKeeps [RXFE.ACQ_STATUS_LOS p] [(Ev.RXFE.losCleared p).place] s
      (((s.wr (RXFE.ACQ_STATUS_LOS p) 0).raise (Ev.RXFE.losCleared p)).skewSuspend p) :=
    (((RegionKeeps.refl _ _ s).wr (by simp) 0).raise (by simp)).onCal p _
  have hscan : s.losClear p = (((s.wr (RXFE.ACQ_STATUS_LOS p) 0).raise (Ev.RXFE.losCleared p)).skewSuspend p).toCdScan p := by
    rw [State.losClear]
    exact if_pos ((hcleared.acqSt (by cases p <;> decide)).trans hst)
  have hrest : RegionKeeps (restartFields p) (restartPlaces p) ((s.wr (RXFE.ACQ_STATUS_LOS p) 0).raise (Ev.RXFE.losCleared p))
      (s.losClear p) := by
    rw [hscan]
    exact ((RegionKeeps.refl _ _ _).onCal p _).toCdScan (List.Subset.refl _) (List.Subset.refl _)
  refine ⟨?_, ?_, ?_⟩
  · rw [hscan]
    exact State.toCdScan_acqSt _ p
  · rw [hrest.on (by cases p <;> decide) (by cases p <;> decide), State.on_raise _ _ (by cases p <;> decide)]
    exact State.on_wr_zero _ _
  · exact hrest.counted (hset.counted_raise (by cases p <;> decide) hclk (by cases p <;> decide) (by simp))
      (by cases p <;> decide) (by cases p <;> decide)

/-! ### Re-acquisition forced (R88) -/

theorem State.forceReacq_spec {s : State} {p : Port} (hclk : s.Clocked) (hup : s.acqSt p ≠ acqIdle) :
    (s.forceReacq p).acqSt p = acqCdScan ∧ (s.acqSt p = acqAcquired → Counted (Ev.RXFE.acqLost p) s (s.forceReacq p)) := by
  rw [State.forceReacq, if_neg hup]
  refine ⟨State.toCdScan_acqSt _ p, fun hacq => ?_⟩
  rw [State.acqLost, if_pos hacq]
  exact (State.toCdScan_keeps _ p).counted (State.raise_counted hclk (by cases p <;> decide)) (by cases p <;> decide)
    (by cases p <;> decide)

/-! ### The dispersion scan (R83) -/

/-- A scan's best metric noted. -/
def State.scanned (s : State) (p : Port) (top : Nat) : State := s.onRx p fun r => { r with scanMetric := top, scanned := true }

/-- A scan that finds a carrier: its dispersion and metric (R83). -/
def State.scanFound (s : State) (p : Port) (top : Nat) (d : Int) (metric : Nat) : State :=
  (((s.scanned p top).wrI (RXFE.CD_EST_D_HAT p) d).wr (RXFE.CD_EST_METRIC p) metric).setCarrier p true

/-- A scan that finds none (R83, R88). -/
def State.scanFailed (s : State) (p : Port) (top : Nat) : State :=
  ((s.scanned p top).wr (RXFE.ACQ_STATUS_FAIL_CAUSE p) 1).setCarrier p false

theorem completes_cdScanDone {p : Port} {coarse fine : List Nat} {c d : Int} {m n : Nat} {s : State} {P : State → Prop}
    (hclk : s.Clocked) (hst : s.acqSt p = acqCdScan) (hcoarse : bestCand (s.coarseCands p) coarse = some (c, m))
    (hfine : bestCand (fineCands c) fine = some (d, n))
    (hP : P (if s.rd (RXFE.ACQ_CFG_CARRIER_THRESH p) ≤ max m n then (s.scanFound p (max m n) d n).toTiming p
      else ((s.scanFailed p (max m n)).raise (Ev.RXFE.noCarrier p)).acqMove p acqNoCarrier)) :
    Completes (.cdScanDone p coarse fine) s P := by
  refine ⟨_, ?_, hP⟩
  rw [exec, execCdScanDone, State.clocked_run hclk, if_pos hst, hcoarse]
  dsimp only [Option.getD]
  rw [hfine]
  rfl

theorem State.scanFound_spec (s : State) (p : Port) (top : Nat) (d : Int) (metric : Nat) :
    ((s.scanFound p top d metric).toTiming p).acqSt p = acqTiming ∧
      ((s.scanFound p top d metric).toTiming p).on (RXFE.ACQ_STATUS_CARRIER p) = true ∧
      ((s.scanFound p top d metric).toTiming p).rd (RXFE.CD_EST_D_HAT p) = unsigned (RXFE.CD_EST_D_HAT p).width d ∧
      (((s.scanFound p top d metric).toTiming p).rx.get p).timingOn = true ∧
      (((s.scanFound p top d metric).toTiming p).rx.get p).mimo = Mimo.identity := by
  have hkeeps := (s.scanFound p top d metric).toTiming_keeps p
  have hreset := (((s.scanFound p top d metric).acqMove p acqTiming).eqReset_rx p true).1
  refine ⟨State.toTiming_acqSt _ p, ?_, ?_, ?_, ?_⟩
  · rw [hkeeps.on (by cases p <;> decide) (by cases p <;> decide)]
    exact State.setCarrier_on _ p _
  · rw [hkeeps.rd _ (by cases p <;> decide) (by cases p <;> decide)]
    rw [State.scanFound, State.setCarrier_rd _ p _ (by cases p <;> decide), State.rd_wr_ne _ _ (by cases p <;> decide),
      State.rd_wrI_same]
  · rw [State.toTiming, hreset]
    rfl
  · rw [State.toTiming, hreset]
    rfl

theorem State.scanFailed_spec {s : State} {p : Port} (hclk : s.Clocked) (top : Nat) :
    let t := ((s.scanFailed p top).raise (Ev.RXFE.noCarrier p)).acqMove p acqNoCarrier
    t.acqSt p = acqNoCarrier ∧ t.on (RXFE.ACQ_STATUS_CARRIER p) = false ∧
      t.rd (RXFE.CD_EST_D_HAT p) = s.rd (RXFE.CD_EST_D_HAT p) ∧ t.rd (RXFE.ACQ_STATUS_FAIL_CAUSE p) = 1 ∧
      Counted (Ev.RXFE.noCarrier p) s t := by
  intro t
  have hkeeps := ((s.scanFailed p top).raise (Ev.RXFE.noCarrier p)).acqMove_restartKeeps p acqNoCarrier
  have hfailed : RegionKeeps [RXFE.ACQ_STATUS_FAIL_CAUSE p, RXFE.ACQ_STATUS_CARRIER p] [] s (s.scanFailed p top) :=
    (((RegionKeeps.refl _ _ s).onRx p _).wr (by simp) 1).setCarrier (by simp) false
  refine ⟨State.acqMove_acqSt _ p (by decide), ?_, ?_, ?_, ?_⟩
  · rw [hkeeps.on (by cases p <;> decide) (by cases p <;> decide), State.on_raise _ _ (by cases p <;> decide)]
    exact State.setCarrier_on _ p _
  · rw [hkeeps.rd _ (by cases p <;> decide) (by cases p <;> decide), State.raise_rd _ _ _ (by cases p <;> decide),
      hfailed.rd _ (by cases p <;> decide) (by cases p <;> decide)]
  · rw [hkeeps.rd _ (by cases p <;> decide) (by cases p <;> decide), State.raise_rd _ _ _ (by cases p <;> decide)]
    rw [State.scanFailed, State.setCarrier_rd _ p _ (by cases p <;> decide), State.rd_wr_same]
    rfl
  · exact hkeeps.counted (hfailed.counted_raise (by cases p <;> decide) hclk (by cases p <;> decide) (by simp))
      (by cases p <;> decide) (by cases p <;> decide)

end Sys2Proof.Machine
end


section
/-! Hops that leave the equaliser (R99, R102, R108 to R116): what each operation of a release leaves of the rest. -/

namespace Sys2Proof.Machine

open F

/-! ### What an operation on a port's hops may touch -/

/-- An operation on the hops of port `p`: the fields of `l` and the counters of `n` apart it changes at most who serves where and
the port's receiver, and of that not what `g` reads. -/
structure State.HopKeeps {β : Type} (p : Port) (g : RxState → β) (l : List Field) (n : List Nat) (s t : State) : Prop where
  frame : t = { s with regs := t.regs, cnt := t.cnt, msixLatch := t.msixLatch, intLow := t.intLow, spared := t.spared, rx := t.rx }
  fields : KeepsFieldsBut l s t
  counter : ∀ q o, q * 4096 + o ∉ n → q * 4096 + o ≠ 5 * 4096 + 0x41C → t.counter q o = s.counter q o
  rx : g (t.rx.get p) = g (s.rx.get p)
  other : t.rx.get p.other = s.rx.get p.other

namespace State.HopKeeps

variable {β : Type} {p : Port} {g : RxState → β} {l : List Field} {n : List Nat} {s t u : State}

theorem refl (g : RxState → β) (l : List Field) (n : List Nat) (s : State) : HopKeeps p g l n s s :=
  ⟨rfl, KeepsFieldsBut.refl l s, fun _ _ _ _ => rfl, rfl, rfl⟩

theorem trans (h : HopKeeps p g l n s t) (k : HopKeeps p g l n t u) : HopKeeps p g l n s u where
  frame := by
    have hst := h.frame
    have htu := k.frame
    rw [htu, hst]
  fields := h.fields.trans k.fields
  counter q o hq hi := (k.counter q o hq hi).trans (h.counter q o hq hi)
  rx := k.rx.trans h.rx
  other := k.other.trans h.other

/-- More may be allowed to change, and less of the receiver read. -/
theorem mono {γ : Type} {g' : RxState → γ} {l' : List Field} {n' : List Nat} (h : HopKeeps p g l n s t)
    (hg : ∀ a b : RxState, g a = g b → g' a = g' b) (hl : l ⊆ l') (hn : n ⊆ n') : HopKeeps p g' l' n' s t where
  frame := h.frame
  fields f hf hl' := h.fields f hf fun b hb => hl' b (hl hb)
  counter q o hq hi := h.counter q o (fun hm => hq (hn hm)) hi
  rx := hg _ _ h.rx
  other := h.other

/-- What such an operation leaves, read by `k`. -/
theorem keeps (h : HopKeeps p g l n s t) {γ : Type} (k : State → γ)
    (hk : ∀ regs cnt latch low spared rx,
      k { s with regs := regs, cnt := cnt, msixLatch := latch, intLow := low, spared := spared, rx := rx } = k s) : k t = k s := by
  rw [h.frame]
  exact hk _ _ _ _ _ _

theorem on (h : HopKeeps p g l n s t) {f : Field} (hf : f.quiet = true) (hl : ∀ b ∈ l, f.key ≠ b.key) : t.on f = s.on f := by
  rw [State.on, (h.fields f hf hl).1, State.on]

theorem rd (h : HopKeeps p g l n s t) {f : Field} (hf : f.quiet = true) (hl : ∀ b ∈ l, f.key ≠ b.key) : t.rd f = s.rd f :=
  (h.fields f hf hl).1

/-! ### The basic updates -/

theorem onRx (h : HopKeeps p g l n s t) {f : RxState → RxState} (hg : ∀ r, g (f r) = g r) : HopKeeps p g l n s (t.onRx p f) where
  frame := by
    have hst := h.frame
    rw [State.onRx, hst]
  fields := h.fields.same rfl rfl
  counter := h.counter
  rx := by
    rw [State.onRx, Pair.get_upd_same, hg]
    exact h.rx
  other := by
    rw [State.onRx, Pair.get_upd_other]
    exact h.other

theorem wr (h : HopKeeps p g l n s t) {f : Field} (hf : f ∈ l) (v : Nat) : HopKeeps p g l n s (t.wr f v) where
  frame := by
    have hst := h.frame
    rw [hst]
    rfl
  fields := h.fields.wr hf v
  counter := h.counter
  rx := h.rx
  other := h.other

theorem setBlock (h : HopKeeps p g l n s t) (b : Block) (x : Spared) : HopKeeps p g l n s (t.setBlock b x) where
  frame := by
    have hst := h.frame
    rw [State.setBlock, hst]
  fields := h.fields.setBlock b x
  counter := h.counter
  rx := h.rx
  other := h.other

theorem raiseN (h : HopKeeps p g l n s t) {e : Evt} (he : e.place ∈ n) (m : Nat) : HopKeeps p g l n s (t.raiseN e m) where
  frame := by
    have hst := h.frame
    have hev : t.EventFrame (t.raiseN e m) := State.raiseN_eventFrame t e m
    unfold State.EventFrame at hev
    rw [hev, hst]
  fields := h.fields.raiseN e m
  counter q o hq hi :=
    (State.raiseN_counter_ne t e m q o (fun heq => hq (by rw [heq]; exact he)) hi).trans (h.counter q o hq hi)
  rx := by rw [State.raiseN_rx]; exact h.rx
  other := by rw [State.raiseN_rx]; exact h.other

theorem raise (h : HopKeeps p g l n s t) {e : Evt} (he : e.place ∈ n) : HopKeeps p g l n s (t.raise e) := h.raiseN he 1

theorem ite {c : Prop} [Decidable c] {v : State} (hu : HopKeeps p g l n s u) (hv : HopKeeps p g l n s v) :
    HopKeeps p g l n s (if c then u else v) := by
  split
  · exact hu
  · exact hv

theorem cond (h : HopKeeps p g l n s t) {b : Bool} {f : State → State} (hf : HopKeeps p g l n s (f t)) :
    HopKeeps p g l n s (t.cond b f) := ite hf h

theorem raiseIf (h : HopKeeps p g l n s t) (b : Bool) {e : Evt} (he : e.place ∈ n) : HopKeeps p g l n s (t.raiseIf b e) :=
  ite (h.raise he) h

theorem forEach {α : Type} (h : HopKeeps p g l n s t) (xs : List α) (f : α → State → State)
    (hstep : ∀ a u, HopKeeps p g l n s u → HopKeeps p g l n s (f a u)) : HopKeeps p g l n s (t.forEach xs f) :=
  State.forEach_invariant (HopKeeps p g l n s) xs f hstep h

/-- It is also one that a change of the receive region may be. -/
theorem region (h : HopKeeps p g l n s t) : RegionKeeps l n s t where
  frame := by
    have hst := h.frame
    unfold State.RegionFrame
    rw [hst]
  rd f hf hl := h.rd (Field.unsettled_quiet hf) hl
  counter q o hq hn := h.counter q o hn (unsettledPlace_ne hq (by decide))
  ecl k hk := by rw [h.keeps State.ecl fun _ _ _ _ _ _ => rfl]; exact hk

theorem acqSt (h : HopKeeps p g l n s t) (hl : ∀ b ∈ l, (RXFE.ACQ_STATUS_ACQ_STATE p).key ≠ b.key) : t.acqSt p = s.acqSt p :=
  h.region.acqSt hl

theorem rxMode (h : HopKeeps p g l n s t) : t.rxMode p = s.rxMode p := h.keeps (fun s => s.rxMode p) fun _ _ _ _ _ _ => rfl

end State.HopKeeps

/-! ### The oldest hop is taken (R99, R100, R104) -/

/-- A receiver but for the clusters that are to become the spare. -/
def RxState.settled (r : RxState) : RxState := { r with leaving := [] }

theorem State.freeHop_keeps (s : State) (p : Port) (h : Hop) :
    HopKeeps p RxState.settled [RXEQ.CLU_ROT_SPARE_BUSY p, RXEQ.CLU_ROT_CHRYS_CLU p] [] s (s.freeHop p h) := by
  unfold State.freeHop
  dsimp only
  have hbusy : HopKeeps p RxState.settled [RXEQ.CLU_ROT_SPARE_BUSY p, RXEQ.CLU_ROT_CHRYS_CLU p] [] s
      (s.wr (RXEQ.CLU_ROT_SPARE_BUSY p) 0) := (HopKeeps.refl _ _ _ s).wr (by simp) 0
  refine ((HopKeeps.refl _ _ _ s).cond (hbusy.cond (hbusy.setBlock _ _))).forEach _ _ fun e u hu => ?_
  exact ((hu.setBlock _ _).wr (by simp) _).onRx fun _ => rfl

/-- The oldest hop taken, its spare freed and its erasure counted. -/
def State.hopTaken (s : State) (p : Port) (h : Hop) (rest : List Hop) : State :=
  ((s.onRx p fun r => { r with hops := rest, eraseMax := max r.eraseMax h.erasedSamples }).freeHop p h).raiseIf h.erased
    (Ev.RXEQ.hopErased p)

theorem completes_hopRelease {p : Port} {h : Hop} {rest : List Hop} {s : State} {P : State → Prop} (hclk : s.Clocked)
    (hhops : (s.rx.get p).hops = h :: rest) (hP : P ((s.hopTaken p h rest).releaseSymbols p h)) : Completes (.hopRelease p) s P := by
  refine ⟨_, ?_, hP⟩
  rw [exec, execHopRelease, State.clocked_run hclk, hhops]
  rfl

/-- What a receiver holds of its hops, of the preamble and of the superframe boundary. -/
def RxState.past (r : RxState) : List Hop × Option Nat × List (List Int) := (r.hops, r.marker, r.retained)

/-- What neither the hops nor their spare are. -/
def RxState.unhopped (r : RxState) : RxState := { r with hops := [], eraseMax := 0, leaving := [] }

theorem State.hopTaken_keeps (s : State) (p : Port) (h : Hop) (rest : List Hop) :
    HopKeeps p RxState.unhopped [RXEQ.CLU_ROT_SPARE_BUSY p, RXEQ.CLU_ROT_CHRYS_CLU p] [(Ev.RXEQ.hopErased p).place] s
      (s.hopTaken p h rest) := by
  refine HopKeeps.raiseIf ?_ h.erased (by simp)
  refine ((HopKeeps.refl RxState.unhopped _ _ s).onRx (f := fun r =>
    { r with hops := rest, eraseMax := max r.eraseMax h.erasedSamples }) fun _ => rfl).trans ?_
  exact (State.freeHop_keeps _ p h).mono (fun a b hab => congrArg (fun r : RxState => { r with hops := [], eraseMax := 0 }) hab)
    (List.Subset.refl _) (List.nil_subset _)

theorem State.hopTaken_hops (s : State) (p : Port) (h : Hop) (rest : List Hop) : ((s.hopTaken p h rest).rx.get p).hops = rest := by
  have hfree := (State.freeHop_keeps (s.onRx p fun r => { r with hops := rest, eraseMax := max r.eraseMax h.erasedSamples }) p h).rx
  have hops := congrArg RxState.hops hfree
  have hraise : (s.hopTaken p h rest).rx = ((s.onRx p fun r =>
      { r with hops := rest, eraseMax := max r.eraseMax h.erasedSamples }).freeHop p h).rx := by
    rw [State.hopTaken, State.raiseIf]
    split
    · exact State.raise_rx _ _
    · rfl
  rw [hraise]
  refine hops.trans ?_
  rw [RxState.settled, State.onRx, Pair.get_upd_same]

/-- The marker and the preamble's symbols stand as they did. -/
theorem State.hopTaken_past (s : State) (p : Port) (h : Hop) (rest : List Hop) :
    ((s.hopTaken p h rest).rx.get p).past = (rest, (s.rx.get p).marker, (s.rx.get p).retained) := by
  have hrx := (s.hopTaken_keeps p h rest).rx
  have hmarker := congrArg RxState.marker hrx
  have hretained := congrArg RxState.retained hrx
  rw [RxState.past, s.hopTaken_hops p h rest]
  exact congrArg (Prod.mk rest) (congrArg₂ Prod.mk hmarker hretained)

/-- Without a boundary ahead a hop's symbols are tracked, or not yet (R112). -/
theorem State.releaseSymbols_of_none {s : State} {p : Port} {h : Hop} (hm : (s.rx.get p).marker = none) :
    s.releaseSymbols p h = if s.tracking p then s.releaseTracked p h h.symbols else s.releasePlain p h h.symbols := by
  unfold State.releaseSymbols
  dsimp only
  rw [hm]

/-- With the boundary ahead those before it are the preamble's (R112). -/
theorem State.releaseSymbols_of_some {s : State} {p : Port} {h : Hop} {left : Nat} (hm : (s.rx.get p).marker = some left) :
    s.releaseSymbols p h =
      if hopLen ≤ left then (s.releasePlain p h (h.symbols.take (h.before left))).onRx p fun r => { r with marker := some (left - hopLen) }
      else ((s.releasePlain p h (h.symbols.take (h.before left))).resolve p).releaseTracked p h (h.symbols.drop (h.before left)) := by
  unfold State.releaseSymbols
  dsimp only
  rw [hm]

/-! ### Demapping and tracking (R109 to R116) -/

theorem State.pushLabels_keeps (s : State) (p : Port) (x : List (List Llr)) (l : List Field) (n : List Nat) :
    HopKeeps p RxState.past l n s (s.pushLabels p x) :=
  HopKeeps.ite (HopKeeps.refl _ _ _ s) ((HopKeeps.refl _ _ _ s).onRx fun _ => rfl)

/-- The counters of a demapped hop. -/
def demapPlaces (p : Port) : List Nat := [(Ev.DEMAP.zeroLlr p).place, (Ev.DEMAP.saturated p).place]

theorem State.demapHop_keeps (s : State) (p : Port) (h : Hop) (st : Stitched) :
    HopKeeps p RxState.past [] (demapPlaces p) s (s.demapHop p h st) := by
  have hzero := fun m => (HopKeeps.refl RxState.past [] (demapPlaces p) s).raiseN (p := p) (e := Ev.DEMAP.zeroLlr p)
    (by simp [demapPlaces]) m
  have hclamped := fun m k => (hzero m).raiseN (e := Ev.DEMAP.saturated p) (by simp [demapPlaces]) k
  exact ((hclamped _ _).trans (State.pushLabels_keeps _ p _ _ _)).onRx fun _ => rfl

theorem State.trackFreq_keeps (s : State) (p : Port) (step : Int) (st : Stitched) :
    HopKeeps p RxState.past [RXEQ.CR_EST_DELTA_F p] [] s (s.trackFreq p step st) := by
  refine HopKeeps.onRx (HopKeeps.wr (HopKeeps.onRx (HopKeeps.refl _ _ _ s) ?_) ?_ _) ?_
  · exact fun _ => rfl
  · exact List.mem_singleton_self _
  · exact fun _ => rfl

theorem State.takeEnergies_keeps (s : State) (p : Port) (x y : Nat × Nat) :
    HopKeeps p RxState.past [DEMAP.NOISE_VAR_VAR_X p, DEMAP.NOISE_VAR_VAR_Y p] [] s (s.takeEnergies p x y) := by
  refine HopKeeps.onRx (HopKeeps.wr (HopKeeps.wr (HopKeeps.refl _ _ _ s) ?_ _) ?_ _) ?_
  · exact List.mem_cons_self
  · exact List.mem_cons_of_mem _ (List.mem_singleton_self _)
  · exact fun _ => rfl

/-- A hop's symbols demapped, tracked and judged up to convergence and divergence. -/
def State.trackedHop (s : State) (p : Port) (h : Hop) (symbols : List (List Int)) : State :=
  let st := s.stitched p h.step symbols
  ((s.demapHop p h st).trackFreq p h.step st).takeEnergies p (energies (s.symbolMode p) st.x) (energies (s.symbolMode p) st.y)

theorem State.releaseTracked_of_sound {s : State} {p : Port} {h : Hop} (he : h.erased = false) (symbols : List (List Int)) :
    s.releaseTracked p h symbols = (s.trackedHop p h symbols).judgeHop p
      (energies (s.symbolMode p) (s.stitched p h.step symbols).x) (energies (s.symbolMode p) (s.stitched p h.step symbols).y) := by
  rw [State.releaseTracked, he]
  rfl

/-- An erased hop moves no loop but the phase that goes on (R112). -/
theorem State.releaseTracked_of_erased {s : State} {p : Port} {h : Hop} (he : h.erased = true) (symbols : List (List Int)) :
    s.releaseTracked p h symbols = (s.demapHop p h (s.stitched p h.step symbols)).onRx p fun r =>
      { r with nco := unsigned 32 (r.nco + h.step * symbols.length) } := by
  rw [State.releaseTracked, he]
  rfl

/-- The fields of a hop's tracking. -/
def trackedFields (p : Port) : List Field := [RXEQ.CR_EST_DELTA_F p, DEMAP.NOISE_VAR_VAR_X p, DEMAP.NOISE_VAR_VAR_Y p]

theorem State.trackedHop_keeps (s : State) (p : Port) (h : Hop) (symbols : List (List Int)) :
    HopKeeps p RxState.past (trackedFields p) (demapPlaces p) s (s.trackedHop p h symbols) :=
  (((s.demapHop_keeps p h _).mono (fun _ _ hab => hab) (List.nil_subset _) (List.Subset.refl _)).trans
    ((State.trackFreq_keeps _ p h.step _).mono (fun _ _ hab => hab) (by simp [trackedFields]) (List.nil_subset _))).trans
    ((State.takeEnergies_keeps _ p _ _).mono (fun _ _ hab => hab) (by simp [trackedFields]) (List.nil_subset _))

/-! ### The symbols of the preamble (R112) -/

theorem State.releasePlain_keeps (s : State) (p : Port) (h : Hop) (symbols : List (List Int)) :
    HopKeeps p (fun r => (r.hops, r.marker)) [] (demapPlaces p) s (s.releasePlain p h symbols) := by
  have hdemap : HopKeeps p (fun r => (r.hops, r.marker)) [] (demapPlaces p) s (s.demapHop p h (plainStitch symbols)) :=
    (s.demapHop_keeps p h _).mono (fun _ _ hab => by
      simp only [RxState.past, Prod.mk.injEq] at hab ⊢
      exact ⟨hab.1, hab.2.1⟩) (List.Subset.refl _) (List.Subset.refl _)
  exact hdemap.cond (f := fun s => s.retain p symbols) (hdemap.onRx fun _ => rfl)

/-- Before the boundary the symbols are retained. -/
theorem State.releasePlain_retained {s : State} {p : Port} (h : Hop) (symbols : List (List Int))
    (hm : (s.rx.get p).marker.isSome = true) :
    ((s.releasePlain p h symbols).rx.get p).retained =
      newest 8192 ((s.rx.get p).retained ++ symbols.map (onGrid preamblePower64)) := by
  have hpast := (s.demapHop_keeps p h (plainStitch symbols)).rx
  simp only [RxState.past, Prod.mk.injEq] at hpast
  obtain ⟨-, hmarker, hretained⟩ := hpast
  unfold State.releasePlain
  dsimp only
  rw [hmarker, hm, Bool.or_true, State.cond_true, State.retain, State.onRx, Pair.get_upd_same, hretained]

/-! ### Judging a hop (R110 to R112) -/

/-- In EQ_TRAIN a hop's judgement is at most convergence, which goes on to FRAME_WAIT (R88, R112). -/
theorem State.judgeHop_of_training {s : State} {p : Port} (hst : s.acqSt p = acqEqTrain) (x y : Nat × Nat) :
    RegionKeeps [RXEQ.EQ_STATUS_EQ_CONV p, RXFE.ACQ_STATUS_ACQ_STATE p] [(Ev.RXEQ.converged p).place] s (s.judgeHop p x y) ∧
      ((s.judgeHop p x y).rx.get p).past = (s.rx.get p).past := by
  unfold State.judgeHop
  extract_lets conv good low t r u
  have ht : HopKeeps p RxState.past [RXEQ.EQ_STATUS_EQ_CONV p, RXFE.ACQ_STATUS_ACQ_STATE p] [(Ev.RXEQ.converged p).place] s t :=
    (HopKeeps.refl _ _ _ s).onRx fun _ => rfl
  have hu : HopKeeps p RxState.past [RXEQ.EQ_STATUS_EQ_CONV p, RXFE.ACQ_STATUS_ACQ_STATE p] [(Ev.RXEQ.converged p).place] s
      (u.onRx p fun r => { r with zeroLlr := false }) := ((ht.wr (by simp) 1).raise (by simp)).onRx fun _ => rfl
  have hne : (u.onRx p fun r => { r with zeroLlr := false }).acqSt p ≠ acqAcquired := by
    have hkeep : RegionKeeps [RXEQ.EQ_STATUS_EQ_CONV p] [(Ev.RXEQ.converged p).place] t
        (u.onRx p fun r => { r with zeroLlr := false }) :=
      (((RegionKeeps.refl _ _ t).wr (by simp) 1).raise (by simp)).onRx p _
    rw [hkeep.acqSt (by cases p <;> decide), show t.acqSt p = s.acqSt p from rfl, hst]
    decide
  rw [if_pos (show t.acqSt p = acqEqTrain from hst)]
  split
  · have hsettle := State.acqMove_settles hne acqFrameWait
    refine ⟨(hu.region.wr (by simp) acqFrameWait).settles hsettle, ?_⟩
    rw [hsettle.rx]
    exact hu.rx
  · exact ⟨ht.region, ht.rx⟩

end Sys2Proof.Machine
end


section
/-! The end of the preamble and its hypothesis, timeouts, and the acquisition's state machine as a whole (O35; R84, R88, R89, R112). -/

namespace Sys2Proof.Machine

open F

/-- A signed number within its width comes back. -/
theorem signed_unsigned {w : Nat} {i : Int} (hlo : -(2 ^ w : Nat) ≤ i) (hhi : i < (2 ^ w : Nat)) :
    signed (w + 1) (unsigned (w + 1) i) = i := by
  have hpow : (2 : Int) ^ (w + 1) = 2 * (2 ^ w : Nat) := by push_cast; ring
  have hsmall : unsigned (w + 1) i % 2 ^ (w + 1) = unsigned (w + 1) i := Nat.mod_eq_of_lt (unsigned_lt _ _)
  have hcast : ((unsigned (w + 1) i : Nat) : Int) = i % (2 * (2 ^ w : Nat)) := by
    rw [unsigned, hpow, Int.toNat_of_nonneg (Int.emod_nonneg _ (by positivity))]
  unfold signed
  dsimp only
  rw [hsmall, Nat.add_sub_cancel, hpow]
  generalize unsigned (w + 1) i = n at hcast ⊢
  generalize 2 ^ w = m at *
  rcases lt_or_ge i 0 with hneg | hnn
  · have hmod : i % (2 * (m : Int)) = i + 2 * m := by
      rw [← Int.add_emod_right, Int.emod_eq_of_lt (by omega) (by omega)]
    split <;> omega
  · have hmod : i % (2 * (m : Int)) = i := Int.emod_eq_of_lt hnn (by omega)
    split <;> omega

/-! ### The end marker (R84, R88, R112, R142) -/

/-- F̂ frozen with its quality, to be applied from the first sample after the end marker on (R84). -/
def State.offsetTaken (s : State) (p : Port) (fHat : Int) (quality before : Nat) : State :=
  let t := ((s.onRx p fun r => { r with fHatEst := false }).wrI (RXFE.CFC_F_HAT p) fHat).wr (RXFE.CFC_QUALITY p) quality
  t.onRx p fun r =>
    { r with fHatOn := true, convRun := 0, marker := some (t.markerAt p before),
             front := { r.front with shiftIn := before, phase := 0 } }

theorem completes_endMarkerDetected_in {p : Port} {f : Int} {q before : Nat} {s : State} {P : State → Prop} (hclk : s.Clocked)
    (hst : s.acqSt p = acqPreTrack) (hf : f.natAbs ≤ 5000)
    (hP : P ((((s.offsetTaken p f q before).takeBoundary p).wr (RXEQ.EQ_STATUS_DD_MODE p) 1).acqMove p acqEqTrain)) :
    Completes (.endMarkerDetected p f q before) s P := by
  refine ⟨_, ?_, hP⟩
  rw [exec, execEndMarkerDetected, State.clocked_run hclk, if_pos hst, if_pos hf]
  rfl

theorem completes_endMarkerDetected_out {p : Port} {f : Int} {q before : Nat} {s : State} {P : State → Prop} (hclk : s.Clocked)
    (hst : s.acqSt p = acqPreTrack) (hf : 5000 < f.natAbs)
    (hP : P ((((s.onRx p fun r => { r with fHatEst := false }).raise (Ev.RXFE.fHatRange p)).wr (RXFE.ACQ_STATUS_FAIL_CAUSE p)
      7).toPreHunt p)) :
    Completes (.endMarkerDetected p f q before) s P := by
  refine ⟨_, ?_, hP⟩
  rw [exec, execEndMarkerDetected, State.clocked_run hclk, if_pos hst, if_neg (by omega)]

/-- The boundary taken by demapper and decoder (R128, R142). -/
theorem State.takeBoundary_spec (s : State) (p : Port) :
    RegionKeeps [FEC.SF_STATUS_SF_LOCK p] [(Ev.FEC.boundaryTaken p).place] s (s.takeBoundary p) ∧
      (s.takeBoundary p).on (FEC.SF_STATUS_SF_LOCK p) = true ∧
      (s.takeBoundary p).rx.get p =
        { s.rx.get p with symPos := 0, skip := 4096 + (s.rxMode p).pad, labels := [], newMode := none } ∧
      (s.takeBoundary p).fec.get p = (s.fec.get p).cleared := by
  unfold State.takeBoundary
  dsimp only
  refine ⟨?_, ?_, ?_, ?_⟩
  · exact ((((RegionKeeps.refl _ _ s).wr (by simp) 1).onFec p _).onRx p _).raise (by simp)
  · rw [State.on_raise _ _ (by cases p <;> decide)]
    exact s.on_wr_one rfl
  · rw [State.raise_rx, State.onRx, Pair.get_upd_same]
    rfl
  · rw [State.raise_fec, State.onRx, State.onFec, Pair.get_upd_same]
    rfl

theorem State.takeBoundary_counted {s : State} (p : Port) (hclk : s.Clocked) :
    Counted (Ev.FEC.boundaryTaken p) s (s.takeBoundary p) := by
  unfold State.takeBoundary
  dsimp only
  have hkeeps : RegionKeeps [FEC.SF_STATUS_SF_LOCK p] [] s ((s.wr (FEC.SF_STATUS_SF_LOCK p) 1).onFec p FecState.cleared) :=
    ((RegionKeeps.refl _ _ s).wr (by simp) 1).onFec p _
  exact (hkeeps.onRx p _).counted_raise (by cases p <;> decide) hclk (by cases p <;> decide) (by simp)

/-- The end marker with an offset within its range leads to EQ_TRAIN: decision-directed adaptation and carrier tracking start, and
decoding starts past the boundary (R84, R88, R112, R142). -/
theorem State.endMarker_spec {s : State} {p : Port} {f : Int} (q before : Nat) (hclk : s.Clocked) (hst : s.acqSt p = acqPreTrack)
    (hf : f.natAbs ≤ 5000) :
    let t := (((s.offsetTaken p f q before).takeBoundary p).wr (RXEQ.EQ_STATUS_DD_MODE p) 1).acqMove p acqEqTrain
    t.acqSt p = acqEqTrain ∧ t.on (FEC.SF_STATUS_SF_LOCK p) = true ∧ t.rdI (RXFE.CFC_F_HAT p) = f ∧
      t.on (RXEQ.EQ_STATUS_DD_MODE p) = true ∧ (t.rx.get p).fHatOn = true ∧ (t.rx.get p).marker = some (s.markerAt p before) ∧
      (t.rx.get p).skip = 4096 + (s.rxMode p).pad ∧ (t.fec.get p).block = 1 ∧ (t.fec.get p).store = [] ∧
      Counted (Ev.FEC.boundaryTaken p) s t := by
  intro t
  obtain ⟨hboundary, hlock, hrx, hfec⟩ := State.takeBoundary_spec (s.offsetTaken p f q before) p
  have htaken : RegionKeeps [RXFE.CFC_F_HAT p, RXFE.CFC_QUALITY p] [] s (s.offsetTaken p f q before) :=
    ((((RegionKeeps.refl _ _ s).onRx p _).wr (g := RXFE.CFC_F_HAT p) (by simp) _).wr (g := RXFE.CFC_QUALITY p) (by simp) q).onRx p _
  have hne : (((s.offsetTaken p f q before).takeBoundary p).wr (RXEQ.EQ_STATUS_DD_MODE p) 1).acqSt p ≠ acqAcquired := by
    have hsame := (((RegionKeeps.refl [RXEQ.EQ_STATUS_DD_MODE p] [] ((s.offsetTaken p f q before).takeBoundary p)).wr
      (g := RXEQ.EQ_STATUS_DD_MODE p) (by simp) 1)).acqSt (p := p) (by cases p <;> decide)
    rw [hsame, hboundary.acqSt (by cases p <;> decide), htaken.acqSt (by cases p <;> decide), hst]
    decide
  have hsettle := State.acqMove_settles hne acqEqTrain
  have hafter : RegionKeeps [RXEQ.EQ_STATUS_DD_MODE p, RXFE.ACQ_STATUS_ACQ_STATE p] [] ((s.offsetTaken p f q before).takeBoundary p) t :=
    (((RegionKeeps.refl _ _ _).wr (g := RXEQ.EQ_STATUS_DD_MODE p) (by simp) 1).wr (g := RXFE.ACQ_STATUS_ACQ_STATE p) (by simp)
      acqEqTrain).settles hsettle
  have htrx : t.rx.get p = ((s.offsetTaken p f q before).takeBoundary p).rx.get p := by rw [hsettle.rx]; rfl
  have htfec : t.fec.get p = ((s.offsetTaken p f q before).takeBoundary p).fec.get p := by
    rw [hsettle.keeps State.fec fun _ _ _ _ _ _ _ => rfl]
    rfl
  rw [htrx, htfec, hrx, hfec]
  refine ⟨State.acqMove_acqSt _ p (by decide), ?_, ?_, ?_, ?_, ?_, ?_, rfl, rfl, ?_⟩
  · rw [hafter.on (by cases p <;> decide) (by cases p <;> decide)]
    exact hlock
  · have hrd : t.rd (RXFE.CFC_F_HAT p) = unsigned (RXFE.CFC_F_HAT p).width f := by
      rw [hafter.rd _ (by cases p <;> decide) (by cases p <;> decide),
        hboundary.rd _ (by cases p <;> decide) (by cases p <;> decide)]
      exact (State.rd_wr_ne _ q (by cases p <;> decide)).trans (State.rd_wrI_same _ _ _)
    rw [State.rdI, hrd]
    exact signed_unsigned (by norm_num; omega) (by norm_num; omega)
  · have hdd : RegionKeeps [RXFE.ACQ_STATUS_ACQ_STATE p] []
        (((s.offsetTaken p f q before).takeBoundary p).wr (RXEQ.EQ_STATUS_DD_MODE p) 1) t :=
      ((RegionKeeps.refl _ _ _).wr (g := RXFE.ACQ_STATUS_ACQ_STATE p) (by simp) acqEqTrain).settles hsettle
    rw [hdd.on (by cases p <;> decide) (by cases p <;> decide)]
    exact State.on_wr_one _ rfl
  · cases p <;> rfl
  · cases p <;> rfl
  · rfl
  · exact hafter.counted (htaken.counted_before (State.takeBoundary_counted p (htaken.clocked (by cases p <;> decide) hclk))
      (by cases p <;> decide) (by simp)) (by cases p <;> decide) (by simp)

/-- One beyond its range fails the acquisition, which hunts for the preamble again (R84, R88). -/
theorem State.offsetRefused_spec {s : State} {p : Port} (hclk : s.Clocked) (hst : s.acqSt p = acqPreTrack) :
    let t := (((s.onRx p fun r => { r with fHatEst := false }).raise (Ev.RXFE.fHatRange p)).wr (RXFE.ACQ_STATUS_FAIL_CAUSE p)
      7).toPreHunt p
    t.acqSt p = acqPreHunt ∧ t.rd (RXFE.ACQ_STATUS_FAIL_CAUSE p) = 7 ∧ t.rd (RXFE.CFC_F_HAT p) = s.rd (RXFE.CFC_F_HAT p) ∧
      Counted (Ev.RXFE.fHatRange p) s t := by
  intro t
  have hnoted : RegionKeeps [] [] s (s.onRx p fun r => { r with fHatEst := false }) := (RegionKeeps.refl _ _ s).onRx p _
  have hraised : RegionKeeps [RXFE.ACQ_STATUS_FAIL_CAUSE p] [(Ev.RXFE.fHatRange p).place] s
      (((s.onRx p fun r => { r with fHatEst := false }).raise (Ev.RXFE.fHatRange p)).wr (RXFE.ACQ_STATUS_FAIL_CAUSE p) 7) :=
    (((RegionKeeps.refl _ _ s).onRx p _).raise (by simp)).wr (by simp) 7
  have hhunt := State.toPreHunt_keeps
    (((s.onRx p fun r => { r with fHatEst := false }).raise (Ev.RXFE.fHatRange p)).wr (RXFE.ACQ_STATUS_FAIL_CAUSE p) 7) p
  have hcause : RegionKeeps [RXFE.ACQ_STATUS_FAIL_CAUSE p] []
      ((s.onRx p fun r => { r with fHatEst := false }).raise (Ev.RXFE.fHatRange p))
      (((s.onRx p fun r => { r with fHatEst := false }).raise (Ev.RXFE.fHatRange p)).wr (RXFE.ACQ_STATUS_FAIL_CAUSE p) 7) :=
    (RegionKeeps.refl _ _ _).wr (by simp) 7
  refine ⟨State.toPreHunt_acqSt ?_, ?_, ?_, ?_⟩
  · rw [hraised.acqSt (by cases p <;> decide), hst]
    decide
  · rw [hhunt.rd _ (by cases p <;> decide) (by cases p <;> decide), State.rd_wr_same]
    rfl
  · rw [hhunt.rd _ (by cases p <;> decide) (by cases p <;> decide), hraised.rd _ (by cases p <;> decide) (by cases p <;> decide)]
  · exact hhunt.counted (hcause.counted (hnoted.counted_raise (by simp) hclk (by cases p <;> decide) (by simp))
      (by cases p <;> decide) (by simp)) (by cases p <;> decide) (by cases p <;> decide)

/-! ### The hypothesis of the preamble's last symbols (R112) -/

/-- The hypothesis that a receiver's retained symbols give, as it is applied. -/
theorem State.resolve_eq (s : State) (p : Port) :
    ∃ f : RxState → RxState, (∀ r, (f r).marker = none) ∧ s.resolve p =
      ((((s.wr (RXEQ.EQ_STATUS_POL_SWAP p) (trainingHypothesis s p (s.rx.get p).retained / 16)).wr (RXEQ.EQ_STATUS_ROT_X p)
        (trainingHypothesis s p (s.rx.get p).retained / 4 % 4)).wr (RXEQ.EQ_STATUS_ROT_Y p)
        (trainingHypothesis s p (s.rx.get p).retained % 4)).onRx p f).raise (Ev.DEMAP.hypothesis p) :=
  ⟨_, fun _ => rfl, rfl⟩

/-- The fields of a hypothesis. -/
def hypothesisFields (p : Port) : List Field := [RXEQ.EQ_STATUS_POL_SWAP p, RXEQ.EQ_STATUS_ROT_X p, RXEQ.EQ_STATUS_ROT_Y p]

theorem State.resolve_spec {s : State} {p : Port} (hclk : s.Clocked) :
    RegionKeeps (hypothesisFields p) [(Ev.DEMAP.hypothesis p).place] s (s.resolve p) ∧ ((s.resolve p).rx.get p).marker = none ∧
      (s.resolve p).on (RXEQ.EQ_STATUS_POL_SWAP p) = decide (trainingHypothesis s p (s.rx.get p).retained / 16 % 2 = 1) ∧
      (s.resolve p).rd (RXEQ.EQ_STATUS_ROT_X p) = trainingHypothesis s p (s.rx.get p).retained / 4 % 4 ∧
      (s.resolve p).rd (RXEQ.EQ_STATUS_ROT_Y p) = trainingHypothesis s p (s.rx.get p).retained % 4 ∧
      Counted (Ev.DEMAP.hypothesis p) s (s.resolve p) := by
  obtain ⟨f, hf, heq⟩ := s.resolve_eq p
  rw [heq]
  generalize trainingHypothesis s p (s.rx.get p).retained = k
  have hkeeps : RegionKeeps (hypothesisFields p) [] s
      ((((s.wr (RXEQ.EQ_STATUS_POL_SWAP p) (k / 16)).wr (RXEQ.EQ_STATUS_ROT_X p) (k / 4 % 4)).wr (RXEQ.EQ_STATUS_ROT_Y p)
        (k % 4)).onRx p f) :=
    ((((RegionKeeps.refl _ _ s).wr (g := RXEQ.EQ_STATUS_POL_SWAP p) (by simp [hypothesisFields]) _).wr
      (g := RXEQ.EQ_STATUS_ROT_X p) (by simp [hypothesisFields]) _).wr (g := RXEQ.EQ_STATUS_ROT_Y p)
      (by simp [hypothesisFields]) _).onRx p f
  have hrd : ∀ g : Field, g.quiet = true → (((((s.wr (RXEQ.EQ_STATUS_POL_SWAP p) (k / 16)).wr (RXEQ.EQ_STATUS_ROT_X p)
      (k / 4 % 4)).wr (RXEQ.EQ_STATUS_ROT_Y p) (k % 4)).onRx p f).raise (Ev.DEMAP.hypothesis p)).rd g =
      (((s.wr (RXEQ.EQ_STATUS_POL_SWAP p) (k / 16)).wr (RXEQ.EQ_STATUS_ROT_X p) (k / 4 % 4)).wr (RXEQ.EQ_STATUS_ROT_Y p)
        (k % 4)).rd g := fun g hg => State.raise_rd _ _ g hg
  refine ⟨(hkeeps.mono (List.Subset.refl _) (List.nil_subset _)).raise (by simp), ?_, ?_, ?_, ?_, ?_⟩
  · rw [State.raise_rx, State.onRx, Pair.get_upd_same]
    exact hf _
  · rw [State.on, hrd _ (by cases p <;> decide), State.rd_wr_ne _ _ (by cases p <;> decide),
      State.rd_wr_ne _ _ (by cases p <;> decide), State.rd_wr_same]
    rfl
  · rw [hrd _ (by cases p <;> decide), State.rd_wr_ne _ _ (by cases p <;> decide), State.rd_wr_same]
    exact Nat.mod_mod _ _
  · rw [hrd _ (by cases p <;> decide), State.rd_wr_same]
    exact Nat.mod_mod _ _
  · exact hkeeps.counted_raise (by cases p <;> decide) hclk (by cases p <;> decide) (by simp)

/-- The hypothesis of some symbols rests on F̂, the configuration and the search's window alone. -/
theorem trainingHypothesis_congr {s t : State} {p : Port} (hf : t.rd (RXFE.CFC_F_HAT p) = s.rd (RXFE.CFC_F_HAT p))
    (hm : t.rxMode p = s.rxMode p) (hw : t.rd (RXEQ.CR_CFG_BPS_WIN p) = s.rd (RXEQ.CR_CFG_BPS_WIN p)) (kept : List (List Int)) :
    trainingHypothesis t p kept = trainingHypothesis s p kept := by
  unfold trainingHypothesis
  rw [State.rdI, hf, hm, State.bpsWin, hw]
  rfl

/-- A release in EQ_TRAIN once the boundary is past: the hypothesis and the marker stand (R112). -/
theorem State.releaseTracked_of_training {s : State} {p : Port} (hst : s.acqSt p = acqEqTrain) (h : Hop) (symbols : List (List Int)) :
    RegionKeeps (RXEQ.EQ_STATUS_EQ_CONV p :: RXFE.ACQ_STATUS_ACQ_STATE p :: trackedFields p)
        ((Ev.RXEQ.converged p).place :: demapPlaces p) s (s.releaseTracked p h symbols) ∧
      ((s.releaseTracked p h symbols).rx.get p).marker = (s.rx.get p).marker := by
  cases he : h.erased
  · rw [State.releaseTracked_of_sound he]
    have htrack := s.trackedHop_keeps p h symbols
    obtain ⟨hjudge, hpast⟩ := State.judgeHop_of_training ((htrack.acqSt (by cases p <;> decide)).trans hst)
      (energies (s.symbolMode p) (s.stitched p h.step symbols).x) (energies (s.symbolMode p) (s.stitched p h.step symbols).y)
    have hall := hpast.trans htrack.rx
    simp only [RxState.past, Prod.mk.injEq] at hall
    obtain ⟨-, hmarker, -⟩ := hall
    exact ⟨(htrack.region.mono (by simp) (by simp)).trans (hjudge.mono (by simp) (by simp)), hmarker⟩
  · rw [State.releaseTracked_of_erased he]
    have hdemap := (s.demapHop_keeps p h (s.stitched p h.step symbols)).onRx (f := fun r =>
      { r with nco := unsigned 32 (r.nco + h.step * symbols.length) }) fun _ => rfl
    have hall := hdemap.rx
    simp only [RxState.past, Prod.mk.injEq] at hall
    obtain ⟨-, hmarker, -⟩ := hall
    exact ⟨hdemap.region.mono (by simp) (by simp), hmarker⟩

/-- The hop that holds the boundary leaves: the hypothesis of the preamble's last symbols is applied (R112). -/
theorem State.boundaryHop_spec {s : State} {p : Port} {h : Hop} {rest : List Hop} {left : Nat} (hclk : s.Clocked)
    (hst : s.acqSt p = acqEqTrain) (hm : (s.rx.get p).marker = some left) (hleft : left < hopLen) :
    let t := (s.hopTaken p h rest).releaseSymbols p h
    (t.rx.get p).marker = none ∧
      t.on (RXEQ.EQ_STATUS_POL_SWAP p) = decide (trainingHypothesis s p (keptSymbols s p h left) / 16 % 2 = 1) ∧
      t.rd (RXEQ.EQ_STATUS_ROT_X p) = trainingHypothesis s p (keptSymbols s p h left) / 4 % 4 ∧
      t.rd (RXEQ.EQ_STATUS_ROT_Y p) = trainingHypothesis s p (keptSymbols s p h left) % 4 ∧
      Counted (Ev.DEMAP.hypothesis p) s t := by
  intro t
  have hpast := s.hopTaken_past p h rest
  simp only [RxState.past, Prod.mk.injEq] at hpast
  obtain ⟨-, hmarker, hretained⟩ := hpast
  rw [hm] at hmarker
  have htaken := s.hopTaken_keeps p h rest
  have hplain := State.releasePlain_keeps (s.hopTaken p h rest) p h (h.symbols.take (h.before left))
  have hkept := State.releasePlain_retained h (h.symbols.take (h.before left)) (s := s.hopTaken p h rest) (p := p)
    (by rw [hmarker]; rfl)
  rw [hretained] at hkept
  have ht : t = (((s.hopTaken p h rest).releasePlain p h (h.symbols.take (h.before left))).resolve p).releaseTracked p h
      (h.symbols.drop (h.before left)) := by
    show (s.hopTaken p h rest).releaseSymbols p h = _
    rw [State.releaseSymbols_of_some hmarker, if_neg (by omega)]
  generalize hu : (s.hopTaken p h rest).releasePlain p h (h.symbols.take (h.before left)) = u at *
  have hsu : RegionKeeps [RXEQ.CLU_ROT_SPARE_BUSY p, RXEQ.CLU_ROT_CHRYS_CLU p] ((Ev.RXEQ.hopErased p).place :: demapPlaces p) s u :=
    (htaken.region.mono (List.Subset.refl _) (by simp)).trans (hplain.region.mono (List.nil_subset _) (by simp))
  obtain ⟨hres, hnone, hpol, hrotx, hroty, hcount⟩ :=
    State.resolve_spec (p := p) (hsu.clocked (by cases p <;> decide) hclk)
  have hhyp : trainingHypothesis u p (u.rx.get p).retained = trainingHypothesis s p (keptSymbols s p h left) := by
    rw [hkept]
    exact trainingHypothesis_congr (hsu.rd _ (by cases p <;> decide) (by cases p <;> decide)) (hplain.rxMode.trans htaken.rxMode)
      (hsu.rd _ (by cases p <;> decide) (by cases p <;> decide)) _
  obtain ⟨hrest, hmark⟩ := State.releaseTracked_of_training (p := p)
    ((hres.acqSt (by cases p <;> decide)).trans ((hsu.acqSt (by cases p <;> decide)).trans hst)) h
    (h.symbols.drop (h.before left))
  rw [← ht] at hrest hmark
  rw [hhyp] at hpol hrotx hroty
  refine ⟨hmark.trans hnone, ?_, ?_, ?_, ?_⟩
  · rw [hrest.on (by cases p <;> decide) (by cases p <;> decide)]
    exact hpol
  · rw [hrest.rd _ (by cases p <;> decide) (by cases p <;> decide)]
    exact hrotx
  · rw [hrest.rd _ (by cases p <;> decide) (by cases p <;> decide)]
    exact hroty
  · exact hrest.counted (hsu.counted_before hcount (by cases p <;> decide) (by cases p <;> decide)) (by cases p <;> decide)
      (by cases p <;> decide)

/-! ### Timers (R88, R89) -/

theorem completes_noCarrierRetry {p : Port} {x y : Int} {s : State} {P : State → Prop} (hclk : s.Clocked)
    (hst : s.acqSt p = acqNoCarrier) (hP : P ((s.noiseTick p x y).toCdScan p)) : Completes (.noCarrierRetry p x y) s P :=
  ⟨_, by rw [exec, execNoCarrierRetry, State.clocked_run hclk, if_pos hst], hP⟩

theorem completes_acqStateTimeout {p : Port} {s : State} {P : State → Prop} (hclk : s.Clocked) (hlo : acqTiming ≤ s.acqSt p)
    (hhi : s.acqSt p ≤ acqFrameWait)
    (hP : P (((s.wr (RXFE.ACQ_STATUS_FAIL_CAUSE p) (s.acqSt p - 2)).raise (Ev.RXFE.acqFailure p)).toCdScan p)) :
    Completes (.acqStateTimeout p) s P := by
  refine ⟨_, ?_, hP⟩
  rw [exec, execAcqStateTimeout, State.clocked_run hclk]
  dsimp only
  rw [if_pos ⟨hlo, hhi⟩]

theorem State.acqTimedOut_spec {s : State} {p : Port} (hclk : s.Clocked) (hhi : s.acqSt p ≤ acqFrameWait) :
    let t := ((s.wr (RXFE.ACQ_STATUS_FAIL_CAUSE p) (s.acqSt p - 2)).raise (Ev.RXFE.acqFailure p)).toCdScan p
    t.acqSt p = acqCdScan ∧ t.rd (RXFE.ACQ_STATUS_FAIL_CAUSE p) = s.acqSt p - 2 ∧ Counted (Ev.RXFE.acqFailure p) s t := by
  intro t
  have hscan := State.toCdScan_keeps ((s.wr (RXFE.ACQ_STATUS_FAIL_CAUSE p) (s.acqSt p - 2)).raise (Ev.RXFE.acqFailure p)) p
  have hset : RegionKeeps [RXFE.ACQ_STATUS_FAIL_CAUSE p] [] s (s.wr (RXFE.ACQ_STATUS_FAIL_CAUSE p) (s.acqSt p - 2)) :=
    (RegionKeeps.refl _ _ s).wr (by simp) _
  refine ⟨State.toCdScan_acqSt _ p, ?_, ?_⟩
  · rw [hscan.rd _ (by cases p <;> decide) (by cases p <;> decide), State.raise_rd _ _ _ (by cases p <;> decide), State.rd_wr_same]
    exact Nat.mod_eq_of_lt (lt_of_le_of_lt (Nat.sub_le_sub_right hhi 2) (by cases p <;> decide))
  · exact hscan.counted (hset.counted_raise (by cases p <;> decide) hclk (by cases p <;> decide) (by simp))
      (by cases p <;> decide) (by cases p <;> decide)

/-! ### The state machine (R83 to R89) -/

/-- Settles O35: each clause is one condition of the acquisition's table, taken from the state that the clause names. -/
theorem acquisitionFollowsItsStateMachine : Obligations.AcquisitionFollowsItsStateMachine := by
  unfold Obligations.AcquisitionFollowsItsStateMachine
  refine ⟨?enabled, ?refused, ?ignored, ?disabled, ?low, ?declared, ?cleared, ?forced, ?found, ?failed, ?retried, ?peak, ?marker,
    ?hypothesis, ?range, ?timeout⟩
  case enabled =>
    intro r p s htakes hidle hvalid hbusy
    exact completes_rxEnableSet htakes fun m => State.rxEnableSet_spec (s := { s with mbx := m }) hbusy hidle hvalid
  case refused =>
    intro r p s htakes hidle hvalid hbusy
    have hclk := State.clocked_of_takes htakes (by cases p <;> rfl)
    exact completes_rxEnableSet htakes fun m => State.rxEnableSet_refused (s := { s with mbx := m }) hclk hbusy hidle hvalid
  case ignored =>
    intro r p s htakes h
    refine completes_rxEnableSet htakes fun m => ?_
    rw [State.rxEnableSet_ignored (s := { s with mbx := m }) h]
    exact ⟨rfl, rfl, (KeepsFieldsBut.refl _ s).same rfl rfl⟩
  case disabled =>
    intro r p s htakes hup
    exact completes_rxEnableClear htakes fun m => State.rxEnableClear_spec (s := { s with mbx := m }) hup
  case low =>
    intro p px py m s hclk hup hlos hx hy hrun
    refine completes_signalPowerInterval hclk hup ?_
    have hkeeps := s.powerNoted_keeps p px py m
    obtain ⟨hlow, hhigh⟩ := s.powerNoted_runs p px py m
    have hbelow : s.powerLow p px py = true := decide_eq_true ⟨hx, hy⟩
    rw [hbelow, if_pos rfl] at hlow hhigh
    have hlos' := (hkeeps.on (f := RXFE.ACQ_STATUS_LOS p) (by cases p <;> decide) (by cases p <;> decide)).trans hlos
    dsimp only
    rw [if_neg (by rw [hlow]; omega), hlos', if_neg (by simp)]
    exact ⟨hkeeps.acqSt (by cases p <;> decide), hlos', hlow, hhigh⟩
  case declared =>
    intro p px py m s hclk hup hlos hx hy hrun
    refine completes_signalPowerInterval hclk hup ?_
    have hkeeps := s.powerNoted_keeps p px py m
    obtain ⟨hlow, -⟩ := s.powerNoted_runs p px py m
    have hbelow : s.powerLow p px py = true := decide_eq_true ⟨hx, hy⟩
    rw [hbelow, if_pos rfl] at hlow
    have hlos' := (hkeeps.on (f := RXFE.ACQ_STATUS_LOS p) (by cases p <;> decide) (by cases p <;> decide)).trans hlos
    dsimp only
    rw [if_pos ⟨by rw [hlos']; decide, by rw [hlow]; omega⟩]
    obtain ⟨hst, hon, hcar, hcount⟩ := State.losDeclare_spec (p := p) (hkeeps.clocked (by cases p <;> decide) hclk)
    exact ⟨hst, hon, hcar.trans (s.powerNoted_carrier p px py m),
      hkeeps.counted_before hcount (by cases p <;> decide) (by simp)⟩
  case cleared =>
    intro p px py m s hclk hst hlos hpow hrun
    refine completes_signalPowerInterval hclk (by rw [hst]; decide) ?_
    have hkeeps := s.powerNoted_keeps p px py m
    obtain ⟨-, hhigh⟩ := s.powerNoted_runs p px py m
    have habove : s.powerLow p px py = false := decide_eq_false (by omega)
    rw [habove, if_neg (by decide)] at hhigh
    have hlos' := (hkeeps.on (f := RXFE.ACQ_STATUS_LOS p) (by cases p <;> decide) (by cases p <;> decide)).trans hlos
    dsimp only
    rw [if_neg (by rw [hlos']; simp), if_pos ⟨hlos', by rw [hhigh]; omega⟩]
    obtain ⟨hscan, hoff, hcount⟩ := State.losClear_spec (p := p) (hkeeps.clocked (by cases p <;> decide) hclk)
      ((hkeeps.acqSt (by cases p <;> decide)).trans hst)
    exact ⟨hscan, hoff, hkeeps.counted_before hcount (by cases p <;> decide) (by simp)⟩
  case forced =>
    intro r p s htakes hup
    exact ⟨_, by rw [exec, execForceReacq, State.guarded_of_takes htakes],
      State.forceReacq_spec (State.clocked_of_takes htakes (by cases p <;> rfl)) hup⟩
  case found =>
    intro p coarse fine c d m n s hclk hst hcoarse hfine htop
    refine completes_cdScanDone hclk hst hcoarse hfine ?_
    rw [if_pos htop]
    exact s.scanFound_spec p _ d n
  case failed =>
    intro p coarse fine c d m n s hclk hst hcoarse hfine htop
    refine completes_cdScanDone hclk hst hcoarse hfine ?_
    rw [if_neg (by omega)]
    exact State.scanFailed_spec hclk _
  case retried =>
    intro p x y s hclk hst
    exact completes_noCarrierRetry hclk hst (State.toCdScan_acqSt _ p)
  case peak =>
    intro p q s hclk hst
    refine ⟨_, by rw [exec, execPreamblePeakDetected, State.clocked_run hclk, if_pos hst], State.acqMove_acqSt _ p (by decide), ?_⟩
    rw [(State.acqMove_restartKeeps _ p _).rd _ (by cases p <;> decide) (by cases p <;> decide)]
    exact State.rd_wr_same _ _ q
  case marker =>
    intro p f q before s hclk hst hf
    exact completes_endMarkerDetected_in hclk hst hf (State.endMarker_spec q before hclk hst hf)
  case hypothesis =>
    intro p h rest left s hclk hhops hst hm hleft
    exact completes_hopRelease hclk hhops (State.boundaryHop_spec hclk hst hm hleft)
  case range =>
    intro p f q before s hclk hst hf
    exact completes_endMarkerDetected_out hclk hst hf (State.offsetRefused_spec hclk hst)
  case timeout =>
    intro p s hclk hlo hhi
    exact completes_acqStateTimeout hclk hlo hhi (State.acqTimedOut_spec hclk hhi)

end Sys2Proof.Machine
end


section
/-! Hops handed to the equaliser (R79, R97 to R105): the front end, the cluster that takes a hop, and the stages of those in flight. -/

namespace Sys2Proof.Machine

open F

/-! ### The front end and the coefficient banks (R79, R95, R105) -/

/-- A receiver but for its running estimates and its coefficient banks. -/
def RxState.unfronted (r : RxState) : RxState :=
  { r with sums := FrontSums.none, estMean := [], estPower := [], mimo := Mimo.identity, mimoNext := Mimo.identity,
           mimoStandby := false }

/-- A receiver but for its running estimates. -/
def RxState.unestimated (r : RxState) : RxState := { r with sums := FrontSums.none, estMean := [], estPower := [] }

/-- The counters of a hop in the front end. -/
def frontPlaces (p : Port) : List Nat :=
  [0, 1, 2, 3].flatMap fun c => [(Ev.RXCONV.railClipped p c).place, (Ev.RXCONV.erasures p c).place]

/-- The fields that the estimates of the front end give. -/
def frontFields (p : Port) : List Field := [RXFE.QUAD_EST_RHO_X p, RXFE.QUAD_EST_RHO_Y p]

/-- A hop's clipped and erased samples counted (R95). -/
def State.frontCounted (s : State) (p : Port) (codes : List (List Byte)) : State :=
  s.forEach [0, 1, 2, 3] fun (c : Fin 4) s =>
    (s.raiseN (Ev.RXCONV.railClipped p c.val) (railClips (hopCodes codes c.val))).raiseN (Ev.RXCONV.erasures p c.val)
      (erasedSamples (s.erasedPos p c.val) (hopCodes codes c.val).length)

theorem State.frontHop_eq (s : State) (p : Port) (codes : List (List Byte)) :
    s.frontHop p codes = (s.frontCounted p codes).estimate p codes := rfl

theorem State.frontCounted_keeps (s : State) (p : Port) (codes : List (List Byte)) :
    HopKeeps p RxState.unestimated [] (frontPlaces p) s (s.frontCounted p codes) := by
  have hclips : ∀ c : Fin 4, (Ev.RXCONV.railClipped p c.val).place ∈ frontPlaces p := by cases p <;> decide
  have herased : ∀ c : Fin 4, (Ev.RXCONV.erasures p c.val).place ∈ frontPlaces p := by cases p <;> decide
  exact (HopKeeps.refl _ _ _ s).forEach _ _ fun c u hu => (hu.raiseN (hclips c) _).raiseN (herased c) _

theorem State.frontCounted_spared (s : State) (p : Port) (codes : List (List Byte)) : (s.frontCounted p codes).spared = s.spared :=
  State.forEach_keeps State.spared _ _ (fun c u => by rw [State.raiseN_spared, State.raiseN_spared]) s

/-- Estimates that are held keep their fields (R79). -/
theorem State.estimate_of_held {s : State} {p : Port} (h : s.corrHeld p = true) (codes : List (List Byte)) : s.estimate p codes = s := by
  rw [State.estimate, if_pos h]

theorem State.estimate_keeps (s : State) (p : Port) (codes : List (List Byte)) (n : List Nat) :
    HopKeeps p RxState.unestimated (frontFields p) n s (s.estimate p codes) ∧ (s.estimate p codes).spared = s.spared := by
  unfold State.estimate
  dsimp only
  split
  · exact ⟨HopKeeps.refl _ _ _ s, rfl⟩
  split
  · exact ⟨(HopKeeps.refl _ _ _ s).onRx fun _ => rfl, rfl⟩
  · refine ⟨HopKeeps.wr (HopKeeps.wr (HopKeeps.onRx (HopKeeps.refl _ _ _ s) ?_) ?_ _) ?_ _, rfl⟩
    · exact fun _ => rfl
    · simp [frontFields]
    · simp [frontFields]

theorem State.corrHeld_of_keeps {s t : State} {p : Port} {n : List Nat} (h : HopKeeps p RxState.unestimated [] n s t) :
    t.corrHeld p = s.corrHeld p := by
  rw [State.corrHeld, State.corrHeld, h.on (by cases p <;> decide) (by simp), h.on (by cases p <;> decide) (by simp),
    h.on (by cases p <;> decide) (by simp)]

/-- The front end on a hop. -/
theorem State.frontHop_keeps (s : State) (p : Port) (codes : List (List Byte)) :
    HopKeeps p RxState.unestimated (frontFields p) (frontPlaces p) s (s.frontHop p codes) ∧
      (s.frontHop p codes).spared = s.spared ∧
      (s.corrHeld p = true → HopKeeps p RxState.unestimated [] (frontPlaces p) s (s.frontHop p codes)) := by
  have hcount := s.frontCounted_keeps p codes
  obtain ⟨hest, hspared⟩ := State.estimate_keeps (s.frontCounted p codes) p codes (frontPlaces p)
  rw [State.frontHop_eq]
  refine ⟨(hcount.mono (fun _ _ hab => hab) (List.nil_subset _) (List.Subset.refl _)).trans hest,
    hspared.trans (s.frontCounted_spared p codes), fun hheld => ?_⟩
  rw [State.estimate_of_held ((State.corrHeld_of_keeps hcount).trans hheld)]
  exact hcount

theorem State.swapBanks_keeps (s : State) (p : Port) (l : List Field) (n : List Nat) :
    HopKeeps p RxState.unfronted l n s (s.swapBanks p) ∧ (s.swapBanks p).spared = s.spared := by
  unfold State.swapBanks
  dsimp only
  refine ⟨HopKeeps.cond (HopKeeps.refl _ _ _ s) ((HopKeeps.refl _ _ _ s).onRx fun _ => rfl), ?_⟩
  rw [State.cond]
  split <;> rfl

/-- The bank in use is the one that waits at the boundary, unless none waits or it is held off (R105, R117). -/
theorem State.swapBanks_mimo (s : State) (p : Port) :
    ((s.swapBanks p).rx.get p).mimo =
      if (s.rx.get p).mimoStandby && !(s.rx.get p).mimoFrozen && !s.on (RXEQ.EQ_CFG_FREEZE_EQ p) then (s.rx.get p).mimoNext
      else (s.rx.get p).mimo := by
  unfold State.swapBanks
  dsimp only
  rw [State.cond]
  split
  · rw [State.onRx, Pair.get_upd_same]
  · rfl

/-- A hop through the front end, with the banks as they are from it on. -/
def State.fronted (s : State) (p : Port) (codes : List (List Byte)) : State := (s.frontHop p codes).swapBanks p

theorem State.fronted_keeps (s : State) (p : Port) (codes : List (List Byte)) :
    HopKeeps p RxState.unfronted (frontFields p) (frontPlaces p) s (s.fronted p codes) ∧ (s.fronted p codes).spared = s.spared ∧
      (s.corrHeld p = true → HopKeeps p RxState.unfronted [] (frontPlaces p) s (s.fronted p codes)) := by
  obtain ⟨hfront, hspared, hheld⟩ := s.frontHop_keeps p codes
  have hweaker : ∀ a b : RxState, a.unestimated = b.unestimated → a.unfronted = b.unfronted := fun a b hab =>
    congrArg (fun r : RxState => { r with mimo := Mimo.identity, mimoNext := Mimo.identity, mimoStandby := false }) hab
  refine ⟨(hfront.mono hweaker (List.Subset.refl _) (List.Subset.refl _)).trans (State.swapBanks_keeps _ p _ _).1,
    (State.swapBanks_keeps _ p [] []).2.trans hspared, fun h => ?_⟩
  exact ((hheld h).mono hweaker (List.Subset.refl _) (List.Subset.refl _)).trans (State.swapBanks_keeps _ p _ _).1

theorem State.fronted_mimo (s : State) (p : Port) (codes : List (List Byte)) :
    ((s.fronted p codes).rx.get p).mimo =
      if (s.rx.get p).mimoStandby && !(s.rx.get p).mimoFrozen && !s.on (RXEQ.EQ_CFG_FREEZE_EQ p) then (s.rx.get p).mimoNext
      else (s.rx.get p).mimo := by
  obtain ⟨hfront, -, -⟩ := s.frontHop_keeps p codes
  have hstandby := congrArg RxState.mimoStandby hfront.rx
  have hfrozen := congrArg RxState.mimoFrozen hfront.rx
  have hnext := congrArg RxState.mimoNext hfront.rx
  have hmimo := congrArg RxState.mimo hfront.rx
  have hfreeze := hfront.on (f := RXEQ.EQ_CFG_FREEZE_EQ p) (by cases p <;> decide) (by cases p <;> decide)
  simp only [RxState.unestimated] at hstandby hfrozen hnext hmimo
  rw [State.fronted, State.swapBanks_mimo, hstandby, hfrozen, hnext, hmimo, hfreeze]

/-! ### Hops in flight (R105, R108, R109) -/

/-- What a hop is known by: its number, its cluster, and whether it leaves as erasures. -/
def Hop.tag (h : Hop) : Nat × Nat × Bool := (h.num, h.cluster, h.erased)

/-- What the stages of the hops in flight leave of a receiver. -/
def RxState.handed (r : RxState) : Nat × List (Nat × Nat × Bool) × Mimo × Bool × Nat × List (Nat × Nat) × List Nat :=
  (r.nextHop, r.hops.map Hop.tag, r.mimo, r.rotateDue, r.nextLane, r.leaving, r.exchange)

/-- The fields and counters of timing recovery, with those that a new hunt for the preamble changes (R88, R108). -/
def timingFields (p : Port) : List Field := RXEQ.TR_EST_RATE_OFS p :: RXEQ.TR_EST_RMS_ERR p :: restartFields p

def timingPlaces (p : Port) : List Nat := (Ev.RXEQ.trLockSet p).place :: restartPlaces p

/-- The hops in flight come to their next stages. -/
structure State.Advances (p : Port) (s t : State) : Prop where
  region : RegionKeeps (timingFields p) (timingPlaces p) s t
  spared : t.spared = s.spared
  rx : (t.rx.get p).handed = (s.rx.get p).handed
  other : t.rx.get p.other = s.rx.get p.other

namespace State.Advances

variable {p : Port} {s t u : State}

theorem refl (p : Port) (s : State) : Advances p s s := ⟨RegionKeeps.refl _ _ s, rfl, rfl, rfl⟩

theorem trans (h : Advances p s t) (k : Advances p t u) : Advances p s u :=
  ⟨h.region.trans k.region, k.spared.trans h.spared, k.rx.trans h.rx, k.other.trans h.other⟩

theorem onRx (h : Advances p s t) {f : RxState → RxState} (hf : ∀ r, (f r).handed = r.handed) : Advances p s (t.onRx p f) where
  region := h.region.onRx p f
  spared := h.spared
  rx := by
    rw [State.onRx, Pair.get_upd_same, hf]
    exact h.rx
  other := by
    rw [State.onRx, Pair.get_upd_other]
    exact h.other

theorem wr (h : Advances p s t) {f : Field} (hf : f ∈ timingFields p) (v : Nat) : Advances p s (t.wr f v) :=
  ⟨h.region.wr hf v, h.spared, h.rx, h.other⟩

theorem raise (h : Advances p s t) {e : Evt} (he : e.place ∈ timingPlaces p) : Advances p s (t.raise e) where
  region := h.region.raise he
  spared := (State.raise_spared t e).trans h.spared
  rx := by rw [State.raise_rx]; exact h.rx
  other := by rw [State.raise_rx]; exact h.other

theorem settles (h : Advances p s t) (k : t.Settles u) : Advances p s u where
  region := h.region.settles k
  spared := (k.keeps State.spared fun _ _ _ _ _ _ _ => rfl).trans h.spared
  rx := by rw [k.rx]; exact h.rx
  other := by rw [k.rx]; exact h.other

theorem ite {c : Prop} [Decidable c] {v : State} (hu : Advances p s u) (hv : Advances p s v) : Advances p s (if c then u else v) := by
  split
  · exact hu
  · exact hv

theorem cond (h : Advances p s t) {b : Bool} {f : State → State} (hf : Advances p s (f t)) : Advances p s (t.cond b f) := ite hf h

theorem forEach {α : Type} (h : Advances p s t) (xs : List α) (f : α → State → State)
    (hstep : ∀ a u, Advances p s u → Advances p s (f a u)) : Advances p s (t.forEach xs f) :=
  State.forEach_invariant (Advances p s) xs f hstep h

/-- A hop marked keeps what it is known by. -/
theorem markHop (h : Advances p s t) (n : Nat) {f : Hop → Hop} (hf : ∀ e, (f e).tag = e.tag) : Advances p s (t.markHop p n f) := by
  refine h.onRx fun r => ?_
  have hmap : (r.hops.map fun e => if e.num = n then f e else e).map Hop.tag = r.hops.map Hop.tag := by
    rw [List.map_map]
    refine List.map_congr_left fun e _ => ?_
    rw [Function.comp_apply]
    split
    · exact hf e
    · rfl
  rw [RxState.handed, hmap]
  rfl

/-- Timing that locks in TIMING leads to a hunt for the preamble, with the coefficients kept (R88, R117). -/
theorem toPreHunt (h : Advances p s t) (hst : t.acqSt p ≠ acqAcquired) : Advances p s (t.toPreHunt p) := by
  have hmove : Advances p s (t.acqMove p acqPreHunt) :=
    (h.wr (f := RXFE.ACQ_STATUS_ACQ_STATE p) (by simp [timingFields, restartFields]) acqPreHunt).settles
      (State.acqMove_settles hst acqPreHunt)
  have hregion := t.toPreHunt_keeps p
  refine ⟨h.region.trans (hregion.mono (by simp [timingFields]) (by simp [timingPlaces])), ?_, ?_, ?_⟩
  all_goals rw [State.toPreHunt_of_ne hst]
  · rw [(State.loseBoundary_rx _ p).2]
    exact hmove.spared
  · rw [(State.loseBoundary_rx _ p).1, Pair.get_upd_same, State.eqQuiet_rx, Pair.get_upd_same]
    exact hmove.rx
  · rw [(State.loseBoundary_rx _ p).1, Pair.get_upd_other, State.eqQuiet_rx, Pair.get_upd_other]
    exact hmove.other

theorem clearTrLock (h : Advances p s t) : Advances p s (t.clearTrLock p) :=
  ite (((h.wr (by simp [timingFields, restartFields, eqFields]) 0).raise
    (by simp [timingPlaces, restartPlaces, eqPlaces])).settles ((Settles.refl _).refPort p)) h

theorem timingLock (h : Advances p s t) (rms : Nat) : Advances p s (t.timingLock p rms) := by
  unfold State.timingLock
  extract_lets thresh u v r w
  have hv : Advances p s v := (h.wr (by simp [timingFields]) _).onRx fun _ => rfl
  have hw : Advances p s w :=
    ((hv.wr (by simp [timingFields, restartFields, eqFields]) 1).raise (by simp [timingPlaces])).settles
      ((Settles.refl _).refPort p)
  split
  · split
    · next hst => exact hw.toPreHunt (by rw [hst]; decide)
    · exact hw
  · exact ite hv.clearTrLock hv

theorem timingLoop (h : Advances p s t) (n : Nat) (err : Int) : Advances p s (t.timingLoop p n err) := by
  refine Advances.wr (Advances.onRx h ?_) ?_ _
  · exact fun _ => rfl
  · simp [timingFields]

theorem timingHop (h : Advances p s t) (e : Hop) : Advances p s (t.timingHop p e) := ite h ((h.timingLoop _ _).timingLock _)

theorem advanceHops (h : Advances p s t) : Advances p s (t.advanceHops p) := by
  unfold State.advanceHops
  extract_lets go
  have hgo : ∀ (f : State → Hop → State) (v : State), Advances p s v →
      (∀ e u, Advances p s u → Advances p s (f u e)) → Advances p s (go f v) := fun f v hv hf =>
    hv.forEach _ _ fun e u hu => hf e u hu
  refine hgo _ _ (hgo _ _ (hgo _ _ h fun e u hu => ?_) fun e u hu => ?_) fun e u hu => ?_
  · exact hu.cond (hu.markHop _ fun _ => rfl)
  · refine hu.cond (Advances.timingHop (Advances.markHop hu _ ?_) e)
    exact fun _ => rfl
  · exact hu.cond (hu.markHop _ fun _ => rfl)

end State.Advances

/-- Without a timing loop that runs the stages change nothing but the receiver (R112, R117). -/
theorem State.advanceHops_of_rest {s t : State} {p : Port} {l : List Field} {n : List Nat}
    (h : HopKeeps p (fun r => (r.timingOn, r.timingHeld)) l n s t)
    (hrest : (s.rx.get p).timingOn = false ∨ (s.rx.get p).timingHeld = true) :
    HopKeeps p (fun r => (r.timingOn, r.timingHeld)) l n s (t.advanceHops p) := by
  have hmark : ∀ u m (f : Hop → Hop), HopKeeps p (fun r => (r.timingOn, r.timingHeld)) l n s u →
      HopKeeps p (fun r => (r.timingOn, r.timingHeld)) l n s (u.markHop p m f) := fun u m f hu => hu.onRx fun _ => rfl
  have hstill : ∀ u e, HopKeeps p (fun r => (r.timingOn, r.timingHeld)) l n s u → u.timingHop p e = u := by
    intro u e hu
    have hrx := hu.rx
    simp only [Prod.mk.injEq] at hrx
    obtain ⟨hon, hheld⟩ := hrx
    refine if_pos ?_
    rw [hon, hheld]
    rcases hrest with hrest | hrest
    · exact .inl (by rw [hrest]; decide)
    · exact .inr (.inl hrest)
  unfold State.advanceHops
  extract_lets go
  have hgo : ∀ (f : State → Hop → State) (v : State), HopKeeps p (fun r => (r.timingOn, r.timingHeld)) l n s v →
      (∀ e u, HopKeeps p (fun r => (r.timingOn, r.timingHeld)) l n s u →
        HopKeeps p (fun r => (r.timingOn, r.timingHeld)) l n s (f u e)) →
      HopKeeps p (fun r => (r.timingOn, r.timingHeld)) l n s (go f v) := fun f v hv hf =>
    hv.forEach _ _ fun e u hu => hf e u hu
  refine hgo _ _ (hgo _ _ (hgo _ _ h fun e u hu => ?_) fun e u hu => ?_) fun e u hu => ?_
  · exact hu.cond (hmark _ _ _ hu)
  · refine hu.cond (f := fun u => (u.markHop p e.num fun h => { h with stage := 2 }).timingHop p e) ?_
    rw [hstill _ _ (hmark _ _ _ hu)]
    exact hmark _ _ _ hu
  · exact hu.cond (hmark _ _ _ hu)

end Sys2Proof.Machine
end


section
/-! Hops enter the equaliser and leave it, its spare rotates, and its coefficients are updated (O36; R97 to R105, R114). -/

namespace Sys2Proof.Machine

open F

/-! ### The rotation that is due (R104) -/

theorem completes_eqClusterRotation {p : Port} {s : State} {P : State → Prop} (hclk : s.Clocked)
    (hP : P (if s.eqMayRotate p then s.onRx p fun r => { r with rotateDue := true } else s)) :
    Completes (.eqClusterRotation p) s P :=
  ⟨_, by rw [exec, execEqClusterRotation, State.clocked_run hclk], hP⟩

theorem State.eqRotateAt_of_not_due {s : State} {p : Port} (h : (s.rx.get p).rotateDue = false) (n : Nat) : s.eqRotateAt p n = s := by
  rw [State.eqRotateAt, h, if_pos (by decide)]

theorem State.eqRotateAt_of_waits {s : State} {p : Port} (hdue : (s.rx.get p).rotateDue = true)
    (hspares : (s.block (.eqCluster p)).spares (.eqCluster p) ≠ 0) {n : Nat}
    (h : n % 16 ≠ (s.rx.get p).nextLane ∨ s.eqRotateWaits p = true) : s.eqRotateAt p n = s := by
  rw [State.eqRotateAt, hdue, if_neg (by decide), if_neg hspares, if_neg]
  rintro ⟨hlane, -, hfree⟩
  rcases h with h | h
  · exact h hlane
  · exact hfree h

theorem State.eqMayRotate_spares {s : State} {p : Port} (h : s.eqMayRotate p = true) :
    (s.block (.eqCluster p)).spares (.eqCluster p) ≠ 0 := by
  simp only [State.eqMayRotate, Bool.and_eq_true, decide_eq_true_eq] at h
  exact h.1.2

theorem State.eqRotateAt_of_lane {s : State} {p : Port} (hdue : (s.rx.get p).rotateDue = true) (hmay : s.eqMayRotate p = true)
    (hfree : s.eqRotateWaits p = false) {n : Nat} (hlane : n % 16 = (s.rx.get p).nextLane) : s.eqRotateAt p n = s.eqRotate p := by
  rw [State.eqRotateAt, hdue, if_neg (by decide), if_neg (State.eqMayRotate_spares hmay), if_pos]
  exact ⟨hlane, hmay, by rw [hfree]; decide⟩

/-- A rotation before its event: the spare takes the lane whose turn it is, and the lane's cluster enters chrysalis (R104). -/
def State.eqRotated (s : State) (p : Port) : State :=
  let x := s.block (.eqCluster p)
  let old := x.unitAt (s.rx.get p).nextLane
  let kept := s.onRx p fun r =>
    { r with rotateDue := false, nextLane := ((s.rx.get p).nextLane + 1) % 16, acting := r.acting.filter (· != old) }
  (kept.setBlock (.eqCluster p)
    ((x.assign (s.rx.get p).nextLane (s.rd (RXEQ.CLU_ROT_CHRYS_CLU p))).entersChrysalis old)).wr (RXEQ.CLU_ROT_CHRYS_CLU p) old

theorem State.eqRotate_eq (s : State) (p : Port) : s.eqRotate p = (s.eqRotated p).raise (Ev.RXEQ.spareEclosion p) := rfl

theorem State.eqRotated_keeps (s : State) (p : Port) :
    HopKeeps p (fun r => (r.exchange, r.hops)) [RXEQ.CLU_ROT_CHRYS_CLU p] [] s (s.eqRotated p) := by
  refine HopKeeps.wr (HopKeeps.setBlock (HopKeeps.onRx (HopKeeps.refl _ _ _ s) ?_) _ _) (List.mem_singleton_self _) _
  exact fun _ => rfl

theorem State.eqRotate_spec {s : State} {p : Port} (hclk : s.Clocked) :
    ((s.eqRotate p).block (.eqCluster p)).unitAt (s.rx.get p).nextLane = s.rd (RXEQ.CLU_ROT_CHRYS_CLU p) ∧
      (s.eqRotate p).rd (RXEQ.CLU_ROT_CHRYS_CLU p) = (s.block (.eqCluster p)).unitAt (s.rx.get p).nextLane % 32 ∧
      ((s.eqRotate p).rx.get p).nextLane = ((s.rx.get p).nextLane + 1) % 16 ∧ ((s.eqRotate p).rx.get p).rotateDue = false ∧
      ((s.eqRotate p).rx.get p).exchange = (s.rx.get p).exchange ∧ Counted (Ev.RXEQ.spareEclosion p) s (s.eqRotate p) := by
  have hkeeps := s.eqRotated_keeps p
  have hexchange := congrArg Prod.fst hkeeps.rx
  have hget : ((s.eqRotated p).rx.get p).nextLane = ((s.rx.get p).nextLane + 1) % 16 ∧
      ((s.eqRotated p).rx.get p).rotateDue = false := by cases p <;> exact ⟨rfl, rfl⟩
  rw [State.eqRotate_eq, State.raise_rx, State.block_of_spared (State.raise_spared _ _)]
  refine ⟨?_, ?_, hget.1, hget.2, hexchange, hkeeps.region.counted_raise (by cases p <;> decide) hclk (by cases p <;> decide) (by simp)⟩
  · exact (congrArg (fun x : Spared => x.unitAt (s.rx.get p).nextLane) (State.block_setBlock_same _ _ _)).trans
      (Spared.unitAt_assign_same _ _ _)
  · rw [State.raise_rd _ _ _ (by cases p <;> decide)]
    exact State.rd_wr_same _ _ _

/-! ### The cluster of a hop (R97, R100) -/

theorem State.takeHop_of_no_exchange {s : State} {p : Port} {n : Nat} (h : (s.rx.get p).exchange.contains n = false) :
    s.takeHop p n = (s, (s.block (.eqCluster p)).unitAt (n % 16)) := by
  unfold State.takeHop
  dsimp only
  rw [if_pos (by rw [h]; decide)]

/-- The spare takes the lane of a cluster that is to be exchanged (R100). -/
def State.clusterExchanged (s : State) (p : Port) (n : Nat) : State :=
  ((((s.onRx p fun r => { r with exchange := r.exchange.filter (· != n) }).setBlock (.eqCluster p)
    ((s.block (.eqCluster p)).assign (n % 16) (s.rd (RXEQ.CLU_ROT_CHRYS_CLU p)))).wr (RXEQ.CLU_ROT_CHRYS_CLU p) 31).onRx p fun r =>
      { r with leaving := r.leaving ++ [(n - 16, (s.block (.eqCluster p)).unitAt (n % 16))] })

theorem State.clusterExchanged_spec (s : State) (p : Port) (n : Nat) :
    (s.clusterExchanged p n).block (.eqCluster p) =
        (s.block (.eqCluster p)).assign (n % 16) (s.rd (RXEQ.CLU_ROT_CHRYS_CLU p)) ∧
      (s.clusterExchanged p n).rd (RXEQ.CLU_ROT_CHRYS_CLU p) = 31 ∧
      ((s.clusterExchanged p n).rx.get p).leaving =
        (s.rx.get p).leaving ++ [(n - 16, (s.block (.eqCluster p)).unitAt (n % 16))] := by
  refine ⟨State.block_setBlock_same _ _ _, State.rd_wr_same _ _ 31, ?_⟩
  unfold State.clusterExchanged
  rw [State.onRx, Pair.get_upd_same, State.wr_rx]
  cases p <;> rfl

theorem State.takeHop_of_exchange {s : State} {p : Port} {n : Nat} (h : (s.rx.get p).exchange.contains n = true)
    (hspare : s.rd (RXEQ.CLU_ROT_CHRYS_CLU p) ≠ 31) (hbusy : s.on (RXEQ.CLU_ROT_SPARE_BUSY p) = false)
    (htest : (s.block (.eqCluster p)).testing.contains (s.rd (RXEQ.CLU_ROT_CHRYS_CLU p)) = false) :
    s.takeHop p n = (s.clusterExchanged p n, s.rd (RXEQ.CLU_ROT_CHRYS_CLU p)) := by
  unfold State.takeHop
  dsimp only
  rw [if_neg (by rw [h]; decide), if_neg (fun hc => hspare hc.1), if_neg]
  · rfl
  · rintro (hc | hc | hc)
    · exact hspare hc
    · exact absurd (hbusy.symm.trans hc) (by decide)
    · exact absurd (htest.symm.trans hc) (by decide)

/-! ### A hop goes to its cluster (R68, R97, R105) -/

/-- Hop `n` queued for cluster `c`, its late start counted (R97, R100). -/
def State.hopQueued (s : State) (p : Port) (codes : List (List Byte)) (before : Mimo) (n c : Nat) : State :=
  let lane := n % 16
  let r := s.rx.get p
  let late := r.lateNext.contains lane || r.lateLanes.contains lane
  let e := s.erasedInstants p (hopCodes codes 0).length
  let front := s.frontStages p codes
  let hop := s.newHop p n c (r.lastErased + e) late (blockOf r.front.last front.last)
  let s := s.onRx p fun r =>
    { r with nextHop := n + 1, acting := r.acting.filter (· != c), lateNext := r.lateNext.filter (· != lane),
             hops := r.hops ++ [hop], lastErased := e, front := front, nextSym := hop.first + hop.count,
             tel := r.tel.takeHop hop.mode hop.carrier before r.mimo }
  s.raiseIf late (Ev.RXEQ.hopLate p)

theorem completes_hopHandoff {p : Port} {codes : List (List Byte)} {s v : State} {c : Nat} {P : State → Prop} (hclk : s.Clocked)
    (hup : s.acqSt p ≠ acqIdle)
    (htake : ((s.fronted p codes).eqRotateAt p (s.rx.get p).nextHop).takeHop p (s.rx.get p).nextHop = (v, c))
    (hP : P ((v.hopQueued p codes (s.rx.get p).mimo (s.rx.get p).nextHop c).advanceHops p)) :
    Completes (.hopHandoff p codes) s P := by
  have hnext : ((s.fronted p codes).rx.get p).nextHop = (s.rx.get p).nextHop := by
    have hrx := congrArg RxState.nextHop (s.fronted_keeps p codes).1.rx
    exact hrx
  refine ⟨_, ?_, hP⟩
  rw [exec, execHopHandoff, State.clocked_run hclk, if_neg hup]
  dsimp only
  rw [show (s.frontHop p codes).swapBanks p = s.fronted p codes from rfl, hnext, htake]
  rfl

/-- What a receiver holds of the rotation, of exchanges, of its bank in use and of its timing loop. -/
def RxState.unqueued (r : RxState) : Mimo × Bool × Nat × List (Nat × Nat) × List Nat × Bool × Bool :=
  (r.mimo, r.rotateDue, r.nextLane, r.leaving, r.exchange, r.timingOn, r.timingHeld)

theorem State.hopQueued_keeps (s : State) (p : Port) (codes : List (List Byte)) (before : Mimo) (n c : Nat) :
    HopKeeps p RxState.unqueued [] [(Ev.RXEQ.hopLate p).place] s (s.hopQueued p codes before n c) ∧
      (s.hopQueued p codes before n c).spared = s.spared ∧ ((s.hopQueued p codes before n c).rx.get p).nextHop = n + 1 ∧
      ((s.hopQueued p codes before n c).rx.get p).hops.map Hop.tag = (s.rx.get p).hops.map Hop.tag ++ [(n, c, false)] := by
  unfold State.hopQueued
  extract_lets lane r late e front hop u
  have hu : HopKeeps p RxState.unqueued [] [(Ev.RXEQ.hopLate p).place] s u := (HopKeeps.refl _ _ _ s).onRx fun _ => rfl
  have hraise : (u.raiseIf late (Ev.RXEQ.hopLate p)).rx = u.rx ∧ (u.raiseIf late (Ev.RXEQ.hopLate p)).spared = u.spared := by
    rw [State.raiseIf]
    split
    · exact ⟨State.raise_rx _ _, State.raise_spared _ _⟩
    · exact ⟨rfl, rfl⟩
  obtain ⟨hrx, hspared⟩ := hraise
  have hget : u.rx.get p = _ := Pair.get_upd_same _ _ _
  rw [hrx, hspared, hget]
  refine ⟨hu.raiseIf late (by simp), rfl, rfl, ?_⟩
  rw [List.map_append]
  rfl

/-- What a hand-off leaves of the state in which the hop's cluster is known. -/
theorem State.handoff_spec (v : State) (p : Port) (codes : List (List Byte)) (before : Mimo) (n c : Nat) :
    let t := (v.hopQueued p codes before n c).advanceHops p
    RegionKeeps (timingFields p) ((Ev.RXEQ.hopLate p).place :: timingPlaces p) v t ∧ t.spared = v.spared ∧
      t.rx.get p.other = v.rx.get p.other ∧
      (t.rx.get p).handed = (n + 1, (v.rx.get p).hops.map Hop.tag ++ [(n, c, false)], (v.rx.get p).mimo, (v.rx.get p).rotateDue,
        (v.rx.get p).nextLane, (v.rx.get p).leaving, (v.rx.get p).exchange) ∧
      (((v.rx.get p).timingOn = false ∨ (v.rx.get p).timingHeld = true) → KeepsFieldsBut [] v t) := by
  intro t
  obtain ⟨hqueued, hspared, hnext, htags⟩ := v.hopQueued_keeps p codes before n c
  have hadv : Advances p (v.hopQueued p codes before n c) t := (Advances.refl p _).advanceHops
  have hrx := hqueued.rx
  simp only [RxState.unqueued, Prod.mk.injEq] at hrx
  obtain ⟨hmimo, hdue, hlane, hleaving, hexchange, hon, hheld⟩ := hrx
  refine ⟨(hqueued.region.mono (List.nil_subset _) (by simp)).trans (hadv.region.mono (List.Subset.refl _) (by simp)),
    hadv.spared.trans hspared, hadv.other.trans hqueued.other, ?_, fun hrest => ?_⟩
  · rw [hadv.rx, RxState.handed, hnext, htags, hmimo, hdue, hlane, hleaving, hexchange]
  · refine (State.advanceHops_of_rest (hqueued.mono (fun a b hab => ?_) (List.Subset.refl _) (List.Subset.refl _)) hrest).fields
    simp only [RxState.unqueued, Prod.mk.injEq] at hab ⊢
    exact hab.2.2.2.2.2

/-- The newest hop's number and cluster. -/
theorem newestHop_of_tags {l : List Hop} {xs : List (Nat × Nat × Bool)} {n c : Nat} {b : Bool} (h : l.map Hop.tag = xs ++ [(n, c, b)]) :
    (l.getLast?.map fun e => (e.num, e.cluster)) = some (n, c) := by
  have hlast : l.getLast?.map Hop.tag = some (n, c, b) := by rw [← List.getLast?_map, h, List.getLast?_concat]
  obtain ⟨e, he, htag⟩ := Option.map_eq_some_iff.1 hlast
  simp only [Hop.tag, Prod.mk.injEq] at htag
  obtain ⟨hnum, hclu, -⟩ := htag
  rw [he, Option.map_some, hnum, hclu]

end Sys2Proof.Machine
end


section
/-! The clauses of the equaliser's statement (O36; R97 to R105, R114). -/

namespace Sys2Proof.Machine

open F

/-! ### Hand-off (R97, R100, R104, R105) -/

/-- What a hop in the front end leaves of the rotation and of the spare's roles. -/
structure State.SameRoles (p : Port) (s u : State) : Prop where
  due : (u.rx.get p).rotateDue = (s.rx.get p).rotateDue
  lane : (u.rx.get p).nextLane = (s.rx.get p).nextLane
  exchange : (u.rx.get p).exchange = (s.rx.get p).exchange
  leaving : (u.rx.get p).leaving = (s.rx.get p).leaving
  hops : (u.rx.get p).hops = (s.rx.get p).hops
  timing : (u.rx.get p).timingOn = (s.rx.get p).timingOn ∧ (u.rx.get p).timingHeld = (s.rx.get p).timingHeld
  block : u.block (.eqCluster p) = s.block (.eqCluster p)
  spare : u.rd (RXEQ.CLU_ROT_CHRYS_CLU p) = s.rd (RXEQ.CLU_ROT_CHRYS_CLU p)
  busy : u.on (RXEQ.CLU_ROT_SPARE_BUSY p) = s.on (RXEQ.CLU_ROT_SPARE_BUSY p)

theorem State.fronted_sameRoles (s : State) (p : Port) (codes : List (List Byte)) : SameRoles p s (s.fronted p codes) := by
  obtain ⟨hkeeps, hspared, -⟩ := s.fronted_keeps p codes
  have hrx := hkeeps.rx
  have hdue := congrArg RxState.rotateDue hrx
  have hlane := congrArg RxState.nextLane hrx
  have hexchange := congrArg RxState.exchange hrx
  have hleaving := congrArg RxState.leaving hrx
  have hhops := congrArg RxState.hops hrx
  have hon := congrArg RxState.timingOn hrx
  have hheld := congrArg RxState.timingHeld hrx
  exact ⟨hdue, hlane, hexchange, hleaving, hhops, ⟨hon, hheld⟩, State.block_of_spared hspared _,
    hkeeps.rd (by cases p <;> decide) (by cases p <;> decide), hkeeps.on (by cases p <;> decide) (by cases p <;> decide)⟩

namespace State.SameRoles

variable {p : Port} {s u : State}

theorem mayRotate (h : SameRoles p s u) : u.eqMayRotate p = s.eqMayRotate p := by
  unfold State.eqMayRotate
  rw [h.block, h.spare]

theorem rotateWaits (h : SameRoles p s u) : u.eqRotateWaits p = s.eqRotateWaits p := by
  unfold State.eqRotateWaits
  dsimp only
  rw [h.busy, h.exchange, h.lane]

end State.SameRoles

/-- A lane that is not about to exchange its cluster has no exchange at its next hop (R100, R104). -/
theorem State.no_exchange_of_free {s : State} {p : Port} (hfree : s.eqRotateWaits p = false) {n : Nat}
    (hlane : n % 16 = (s.rx.get p).nextLane) : (s.rx.get p).exchange.contains n = false := by
  simp only [State.eqRotateWaits, Bool.or_eq_false_iff] at hfree
  obtain ⟨-, hnone⟩ := hfree
  rw [List.any_eq_false] at hnone
  rw [← Bool.not_eq_true, List.contains_iff_mem]
  exact fun hmem => hnone n hmem (beq_iff_eq.2 hlane)

/-- At the hop of the lane whose turn it is the spare takes it (R97, R104). -/
theorem hopHandoff_rotates {p : Port} {codes : List (List Byte)} {s : State} (hclk : s.Clocked) (hup : s.acqSt p ≠ acqIdle)
    (hdue : (s.rx.get p).rotateDue = true) (hmay : s.eqMayRotate p = true) (hfree : s.eqRotateWaits p = false)
    (hlane : (s.rx.get p).nextHop % 16 = (s.rx.get p).nextLane) :
    Completes (.hopHandoff p codes) s fun t =>
      (t.block (.eqCluster p)).unitAt (s.rx.get p).nextLane = s.rd (RXEQ.CLU_ROT_CHRYS_CLU p) ∧
      t.rd (RXEQ.CLU_ROT_CHRYS_CLU p) = (s.block (.eqCluster p)).unitAt (s.rx.get p).nextLane % 32 ∧
      (t.rx.get p).nextLane = ((s.rx.get p).nextLane + 1) % 16 ∧ (t.rx.get p).rotateDue = false ∧
      ((t.rx.get p).hops.getLast?.map fun h => (h.num, h.cluster)) =
        some ((s.rx.get p).nextHop, s.rd (RXEQ.CLU_ROT_CHRYS_CLU p)) ∧
      Counted (Ev.RXEQ.spareEclosion p) s t := by
  have hroles := s.fronted_sameRoles p codes
  obtain ⟨hfront, -, -⟩ := s.fronted_keeps p codes
  obtain ⟨hunit, hchrys, hnext, hdone, hexchange, hcount⟩ :=
    State.eqRotate_spec (p := p) (hfront.region.clocked (by cases p <;> decide) hclk)
  have hnone := State.no_exchange_of_free hfree hlane
  rw [hroles.lane, hroles.spare] at hunit
  rw [hroles.block, hroles.lane] at hchrys
  rw [hroles.lane] at hnext
  rw [hroles.exchange] at hexchange
  refine completes_hopHandoff hclk hup (v := (s.fronted p codes).eqRotate p) (c := s.rd (RXEQ.CLU_ROT_CHRYS_CLU p)) ?_ ?_
  · rw [State.eqRotateAt_of_lane (hroles.due.trans hdue) (hroles.mayRotate.trans hmay) (hroles.rotateWaits.trans hfree)
      (hlane.trans hroles.lane.symm), State.takeHop_of_no_exchange (by rw [hexchange]; exact hnone), hlane, hunit]
  · obtain ⟨hregion, hspared, -, hhanded, -⟩ := ((s.fronted p codes).eqRotate p).handoff_spec p codes (s.rx.get p).mimo
      (s.rx.get p).nextHop (s.rd (RXEQ.CLU_ROT_CHRYS_CLU p))
    simp only [RxState.handed, Prod.mk.injEq] at hhanded
    obtain ⟨-, htags, -, hrotate, hlane', -, -⟩ := hhanded
    refine ⟨?_, ?_, hlane'.trans hnext, hrotate.trans hdone, newestHop_of_tags htags, ?_⟩
    · rw [State.block_of_spared hspared]
      exact hunit
    · rw [hregion.rd _ (by cases p <;> decide) (by cases p <;> decide)]
      exact hchrys
    · exact hregion.counted (hfront.region.counted_before hcount (by cases p <;> decide) (by cases p <;> decide))
        (by cases p <;> decide) (by cases p <;> decide)

/-- A hop that takes no exchange goes to its lane's cluster where no rotation is made (R97). -/
theorem takeHop_of_lane {p : Port} {codes : List (List Byte)} {s : State}
    (hat : (s.fronted p codes).eqRotateAt p (s.rx.get p).nextHop = s.fronted p codes)
    (hnone : (s.rx.get p).exchange.contains (s.rx.get p).nextHop = false) :
    ((s.fronted p codes).eqRotateAt p (s.rx.get p).nextHop).takeHop p (s.rx.get p).nextHop =
      (s.fronted p codes, (s.block (.eqCluster p)).unitAt ((s.rx.get p).nextHop % 16)) := by
  have hroles := s.fronted_sameRoles p codes
  rw [hat, State.takeHop_of_no_exchange (by rw [hroles.exchange]; exact hnone), hroles.block]

/-- A rotation that is due and cannot be made yet waits (R104). -/
theorem hopHandoff_waits {p : Port} {codes : List (List Byte)} {s : State} (hclk : s.Clocked) (hup : s.acqSt p ≠ acqIdle)
    (hdue : (s.rx.get p).rotateDue = true) (hspares : (s.block (.eqCluster p)).spares (.eqCluster p) ≠ 0)
    (hwait : (s.rx.get p).nextHop % 16 ≠ (s.rx.get p).nextLane ∨ s.eqRotateWaits p = true)
    (hnone : (s.rx.get p).exchange.contains (s.rx.get p).nextHop = false) :
    Completes (.hopHandoff p codes) s fun t => (t.rx.get p).rotateDue = true ∧ (t.rx.get p).nextLane = (s.rx.get p).nextLane ∧
      t.block (.eqCluster p) = s.block (.eqCluster p) ∧ t.rd (RXEQ.CLU_ROT_CHRYS_CLU p) = s.rd (RXEQ.CLU_ROT_CHRYS_CLU p) := by
  have hroles := s.fronted_sameRoles p codes
  have hat := State.eqRotateAt_of_waits (n := (s.rx.get p).nextHop) (hroles.due.trans hdue) (by rw [hroles.block]; exact hspares)
    (by rw [hroles.lane, hroles.rotateWaits]; exact hwait)
  refine completes_hopHandoff hclk hup (takeHop_of_lane hat hnone) ?_
  obtain ⟨hregion, hspared, -, hhanded, -⟩ := (s.fronted p codes).handoff_spec p codes (s.rx.get p).mimo (s.rx.get p).nextHop
    ((s.block (.eqCluster p)).unitAt ((s.rx.get p).nextHop % 16))
  simp only [RxState.handed, Prod.mk.injEq] at hhanded
  obtain ⟨-, -, -, hrotate, hlane, -, -⟩ := hhanded
  refine ⟨hrotate.trans (hroles.due.trans hdue), hlane.trans hroles.lane, (State.block_of_spared hspared _).trans hroles.block, ?_⟩
  rw [hregion.rd _ (by cases p <;> decide) (by cases p <;> decide)]
  exact hroles.spare

/-- Without a rotation a hop goes to its lane's cluster, with the bank that waits swapped in (R97, R105). -/
theorem hopHandoff_queues {p : Port} {codes : List (List Byte)} {s : State} (hclk : s.Clocked) (hup : s.acqSt p ≠ acqIdle)
    (hdue : (s.rx.get p).rotateDue = false) (hnone : (s.rx.get p).exchange.contains (s.rx.get p).nextHop = false) :
    Completes (.hopHandoff p codes) s fun t => (t.rx.get p).nextHop = (s.rx.get p).nextHop + 1 ∧
      ((t.rx.get p).hops.map fun h => (h.num, h.cluster, h.erased)) =
        ((s.rx.get p).hops.map fun h => (h.num, h.cluster, h.erased)) ++
          [((s.rx.get p).nextHop, (s.block (.eqCluster p)).unitAt ((s.rx.get p).nextHop % 16), false)] ∧
      (t.rx.get p).mimo =
        (if (s.rx.get p).mimoStandby && !(s.rx.get p).mimoFrozen && !s.on (RXEQ.EQ_CFG_FREEZE_EQ p) then (s.rx.get p).mimoNext
          else (s.rx.get p).mimo) ∧
      t.spared = s.spared ∧ t.rx.get p.other = s.rx.get p.other ∧
      ((s.rx.get p).timingOn = false ∨ (s.rx.get p).timingHeld = true →
        KeepsFieldsBut [RXFE.QUAD_EST_RHO_X p, RXFE.QUAD_EST_RHO_Y p] s t ∧ (s.corrHeld p = true → KeepsFieldsBut [] s t)) := by
  have hroles := s.fronted_sameRoles p codes
  obtain ⟨hfront, hspared, hheld⟩ := s.fronted_keeps p codes
  refine completes_hopHandoff hclk hup (takeHop_of_lane (State.eqRotateAt_of_not_due (hroles.due.trans hdue) _) hnone) ?_
  obtain ⟨-, hspared', hother, hhanded, hrest⟩ := (s.fronted p codes).handoff_spec p codes (s.rx.get p).mimo (s.rx.get p).nextHop
    ((s.block (.eqCluster p)).unitAt ((s.rx.get p).nextHop % 16))
  simp only [RxState.handed, Prod.mk.injEq] at hhanded
  obtain ⟨hnext, htags, hmimo, -, -, -, -⟩ := hhanded
  rw [hroles.hops] at htags
  refine ⟨hnext, htags, hmimo.trans (s.fronted_mimo p codes), hspared'.trans hspared, hother.trans hfront.other, fun htiming => ?_⟩
  have hstill := hrest (by rw [hroles.timing.1, hroles.timing.2]; exact htiming)
  have hweaker : KeepsFieldsBut (frontFields p) (s.fronted p codes) _ := fun f hq _ => hstill f hq (by simp)
  exact ⟨hfront.fields.trans hweaker, fun h => (hheld h).fields.trans hstill⟩

/-- The spare takes the lane of a cluster that is to be exchanged, which becomes the spare once its last hop is released (R100). -/
theorem hopHandoff_exchanges {p : Port} {codes : List (List Byte)} {s : State} (hclk : s.Clocked) (hup : s.acqSt p ≠ acqIdle)
    (hdue : (s.rx.get p).rotateDue = false) (hex : (s.rx.get p).exchange.contains (s.rx.get p).nextHop = true)
    (hspare : s.rd (RXEQ.CLU_ROT_CHRYS_CLU p) ≠ 31) (hbusy : s.on (RXEQ.CLU_ROT_SPARE_BUSY p) = false)
    (htest : (s.block (.eqCluster p)).testing.contains (s.rd (RXEQ.CLU_ROT_CHRYS_CLU p)) = false) :
    Completes (.hopHandoff p codes) s fun t =>
      (t.block (.eqCluster p)).unitAt ((s.rx.get p).nextHop % 16) = s.rd (RXEQ.CLU_ROT_CHRYS_CLU p) ∧
      t.rd (RXEQ.CLU_ROT_CHRYS_CLU p) = 31 ∧
      ((t.rx.get p).hops.getLast?.map fun h => (h.num, h.cluster)) =
        some ((s.rx.get p).nextHop, s.rd (RXEQ.CLU_ROT_CHRYS_CLU p)) ∧
      (t.rx.get p).leaving = (s.rx.get p).leaving ++
        [((s.rx.get p).nextHop - 16, (s.block (.eqCluster p)).unitAt ((s.rx.get p).nextHop % 16))] := by
  have hroles := s.fronted_sameRoles p codes
  have htake : ((s.fronted p codes).eqRotateAt p (s.rx.get p).nextHop).takeHop p (s.rx.get p).nextHop =
      ((s.fronted p codes).clusterExchanged p (s.rx.get p).nextHop, s.rd (RXEQ.CLU_ROT_CHRYS_CLU p)) := by
    rw [State.eqRotateAt_of_not_due (hroles.due.trans hdue), State.takeHop_of_exchange (by rw [hroles.exchange]; exact hex)
      (by rw [hroles.spare]; exact hspare) (hroles.busy.trans hbusy) (by rw [hroles.block, hroles.spare]; exact htest), hroles.spare]
  refine completes_hopHandoff hclk hup htake ?_
  obtain ⟨hregion, hspared, -, hhanded, -⟩ := ((s.fronted p codes).clusterExchanged p (s.rx.get p).nextHop).handoff_spec p codes
    (s.rx.get p).mimo (s.rx.get p).nextHop (s.rd (RXEQ.CLU_ROT_CHRYS_CLU p))
  obtain ⟨hblock, hchrys, hleft⟩ := (s.fronted p codes).clusterExchanged_spec p (s.rx.get p).nextHop
  rw [hroles.block, hroles.spare] at hblock
  rw [hroles.leaving, hroles.block] at hleft
  simp only [RxState.handed, Prod.mk.injEq] at hhanded
  obtain ⟨-, htags, -, -, -, hleaving, -⟩ := hhanded
  refine ⟨?_, ?_, newestHop_of_tags htags, hleaving.trans hleft⟩
  · rw [State.block_of_spared hspared, hblock]
    exact Spared.unitAt_assign_same _ _ _
  · rw [hregion.rd _ (by cases p <;> decide) (by cases p <;> decide)]
    exact hchrys

/-! ### Release (R99, R102, R111, R114) -/

theorem State.commitEarly_rx (s : State) (g : Nat) : (s.commitEarly g).rx = s.rx :=
  State.commitEarly_keeps State.rx (fun _ _ => rfl)
    (fun s key req => State.commitRaw_keeps State.rx (fun _ _ => rfl) (fun _ _ => rfl) (fun _ _ _ => ⟨rfl, rfl, rfl⟩)
      (fun s => State.raise_rx s _) s key req true) s g

/-- A move of the acquisition leaves the hops in flight. -/
theorem State.acqMove_hops (s : State) (p : Port) (next : Nat) : ((s.acqMove p next).rx.get p).hops = (s.rx.get p).hops := by
  unfold State.acqMove
  extract_lets was u v w
  have hreport := (Settles.refl (s.wr (RXFE.ACQ_STATUS_ACQ_STATE p) next)).settleReport p
  have hu : u.rx = s.rx := (hreport.cond (hreport.refPort p)).rx
  have hv : (v.rx.get p).hops = (u.rx.get p).hops := by cases p <;> rfl
  have hw : (w.rx.get p).hops = (s.rx.get p).hops := by
    rw [show w.rx = v.rx from v.commitEarly_rx _, hv, hu]
  split
  · rw [State.cond]
    split
    · rw [(w.eqReset_rx p false).1]
      exact hw
    · exact hw
  · rw [hu]

theorem State.eqReset_hops (s : State) (p : Port) (run : Bool) : ((s.eqReset p run).rx.get p).hops = (s.rx.get p).hops := by
  rw [(s.eqReset_rx p run).1]
  rfl

theorem State.loseBoundary_hops (s : State) (p : Port) : ((s.loseBoundary p).rx.get p).hops = (s.rx.get p).hops := by
  rw [(s.loseBoundary_rx p).1, Pair.get_upd_same]
  rfl

theorem State.toCdScan_hops (s : State) (p : Port) : ((s.toCdScan p).rx.get p).hops = (s.rx.get p).hops := by
  rw [State.toCdScan, State.onRx, Pair.get_upd_same]
  exact (State.loseBoundary_hops _ p).trans ((State.eqReset_hops _ p false).trans (s.acqMove_hops p _))

theorem State.rxRateChange_hops (s : State) (p : Port) : ((s.rxRateChange p).rx.get p).hops = (s.rx.get p).hops := by
  unfold State.rxRateChange
  dsimp only
  split
  · rfl
  split
  · exact (State.loseBoundary_hops _ p).trans ((State.eqReset_hops _ p true).trans (s.acqMove_hops p _))
  · exact s.toCdScan_hops p

theorem State.toPreHunt_hops (s : State) (p : Port) : ((s.toPreHunt p).rx.get p).hops = (s.rx.get p).hops := by
  unfold State.toPreHunt
  dsimp only
  split
  · rw [State.rxRateChange_hops, State.acqMove_hops]
  · rw [State.loseBoundary_hops, State.eqQuiet_rx, Pair.get_upd_same]
    exact s.acqMove_hops p _

/-- The counters of a judgement that goes wrong (R111). -/
def reacqPlaces (p : Port) : List Nat :=
  (Ev.RXEQ.reqFrequency p).place :: (Ev.RXEQ.reqSlip p).place :: (Ev.RXEQ.reqDivergence p).place :: (Ev.RXFE.acqLost p).place ::
    restartPlaces p

theorem State.acqLost_rx (s : State) (p : Port) : (s.acqLost p).rx = s.rx := by
  unfold State.acqLost
  split
  · exact State.raise_rx _ _
  · rfl

theorem State.reacquire_keeps (s : State) (p : Port) (cause : Nat) :
    RegionKeeps (RXEQ.EQ_STATUS_REACQ_CAUSE p :: restartFields p) (reacqPlaces p) s (s.reacquire p cause) ∧
      ((s.reacquire p cause).rx.get p).hops = (s.rx.get p).hops := by
  unfold State.reacquire
  dsimp only
  split
  · refine ⟨?_, ?_⟩
    · refine (RegionKeeps.acqLost (RegionKeeps.raise ((RegionKeeps.refl _ _ s).wr (by simp) cause) ?_) ?_).toPreHunt (by simp) ?_
      · split <;> simp [reacqPlaces]
      · simp [reacqPlaces]
      · exact fun n hn => by simp [reacqPlaces, hn]
    · rw [State.toPreHunt_hops, State.acqLost_rx, State.raise_rx, State.wr_rx]
  · exact ⟨RegionKeeps.refl _ _ s, rfl⟩

/-- A judgement leaves the noise variances and the hops in flight (R110 to R112). -/
theorem State.judgeHop_keeps (s : State) (p : Port) (x y : Nat × Nat) :
    RegionKeeps (RXEQ.EQ_STATUS_EQ_CONV p :: RXEQ.EQ_STATUS_REACQ_CAUSE p :: restartFields p)
        ((Ev.RXEQ.converged p).place :: reacqPlaces p) s (s.judgeHop p x y) ∧
      ((s.judgeHop p x y).rx.get p).hops = (s.rx.get p).hops := by
  by_cases hst : s.acqSt p = acqEqTrain
  · obtain ⟨hregion, hpast⟩ := State.judgeHop_of_training hst x y
    simp only [RxState.past, Prod.mk.injEq] at hpast
    exact ⟨hregion.mono (by simp [restartFields]) (by simp), hpast.1⟩
  · unfold State.judgeHop
    extract_lets conv good low t r u
    have ht : RegionKeeps (RXEQ.EQ_STATUS_EQ_CONV p :: RXEQ.EQ_STATUS_REACQ_CAUSE p :: restartFields p)
        ((Ev.RXEQ.converged p).place :: reacqPlaces p) s t := (RegionKeeps.refl _ _ s).onRx p _
    have hhops : (t.rx.get p).hops = (s.rx.get p).hops := by cases p <;> rfl
    have hagain : ∀ cause, RegionKeeps (RXEQ.EQ_STATUS_EQ_CONV p :: RXEQ.EQ_STATUS_REACQ_CAUSE p :: restartFields p)
        ((Ev.RXEQ.converged p).place :: reacqPlaces p) s (t.reacquire p cause) ∧
        ((t.reacquire p cause).rx.get p).hops = (s.rx.get p).hops := fun cause =>
      ⟨ht.trans ((t.reacquire_keeps p cause).1.mono (by simp) (by simp)), (t.reacquire_keeps p cause).2.trans hhops⟩
    rw [if_neg (show ¬ t.acqSt p = acqEqTrain from hst)]
    split
    · exact hagain 1
    split
    · exact hagain 3
    · exact ⟨ht, hhops⟩

/-- The hops in flight are not those of a release (R99). -/
theorem State.releaseTracked_hops (s : State) (p : Port) (h : Hop) (symbols : List (List Int)) :
    ((s.releaseTracked p h symbols).rx.get p).hops = (s.rx.get p).hops := by
  cases he : h.erased
  · rw [State.releaseTracked_of_sound he, (State.judgeHop_keeps _ p _ _).2]
    exact congrArg Prod.fst (s.trackedHop_keeps p h symbols).rx
  · rw [State.releaseTracked_of_erased he, State.onRx, Pair.get_upd_same]
    exact congrArg Prod.fst (s.demapHop_keeps p h _).rx

theorem State.resolve_hops (s : State) (p : Port) : ((s.resolve p).rx.get p).hops = (s.rx.get p).hops := by
  unfold State.resolve
  dsimp only
  rw [State.raise_rx, State.onRx, Pair.get_upd_same]
  rfl

theorem State.releasePlain_hops (s : State) (p : Port) (h : Hop) (symbols : List (List Int)) :
    ((s.releasePlain p h symbols).rx.get p).hops = (s.rx.get p).hops := congrArg Prod.fst (s.releasePlain_keeps p h symbols).rx

theorem State.releaseSymbols_hops (s : State) (p : Port) (h : Hop) :
    ((s.releaseSymbols p h).rx.get p).hops = (s.rx.get p).hops := by
  cases hm : (s.rx.get p).marker with
  | none =>
    rw [State.releaseSymbols_of_none hm]
    split
    · exact s.releaseTracked_hops p h _
    · exact s.releasePlain_hops p h _
  | some left =>
    rw [State.releaseSymbols_of_some hm]
    split
    · rw [State.onRx, Pair.get_upd_same]
      exact s.releasePlain_hops p h _
    · rw [State.releaseTracked_hops, State.resolve_hops, State.releasePlain_hops]

/-- The symbols of an erased hop leave without a count of their own but those of the demapper and the hypothesis. -/
theorem State.releaseSymbols_of_erased {s : State} (hclk : s.Clocked) {p : Port} {h : Hop} (he : h.erased = true) :
    RegionKeeps (hypothesisFields p) ((Ev.DEMAP.hypothesis p).place :: demapPlaces p) s (s.releaseSymbols p h) := by
  have htracked : ∀ (u : State) l, RegionKeeps (hypothesisFields p) ((Ev.DEMAP.hypothesis p).place :: demapPlaces p) u
      (u.releaseTracked p h l) := fun u l => by
    rw [State.releaseTracked_of_erased he]
    exact ((u.demapHop_keeps p h _).region.mono (List.nil_subset _) (by simp)).onRx p _
  have hplain : ∀ l, RegionKeeps (hypothesisFields p) ((Ev.DEMAP.hypothesis p).place :: demapPlaces p) s (s.releasePlain p h l) :=
    fun l => (s.releasePlain_keeps p h l).region.mono (List.nil_subset _) (by simp)
  cases hm : (s.rx.get p).marker with
  | none =>
    rw [State.releaseSymbols_of_none hm]
    exact RegionKeeps.ite (htracked s _) (hplain _)
  | some left =>
    rw [State.releaseSymbols_of_some hm]
    have hbefore := hplain (h.symbols.take (h.before left))
    refine RegionKeeps.ite (hbefore.onRx p _) ((hbefore.trans ?_).trans (htracked _ _))
    exact (State.resolve_spec (hbefore.clocked (by cases p <;> decide) hclk)).1.mono (List.Subset.refl _) (by simp)

/-- An erased hop is counted (R102, R103). -/
theorem State.hopTaken_counted {s : State} (hclk : s.Clocked) {p : Port} {h : Hop} (he : h.erased = true) (rest : List Hop) :
    Counted (Ev.RXEQ.hopErased p) s (s.hopTaken p h rest) := by
  rw [State.hopTaken, he]
  have hkeeps : RegionKeeps [RXEQ.CLU_ROT_SPARE_BUSY p, RXEQ.CLU_ROT_CHRYS_CLU p] [] s
      ((s.onRx p fun r => { r with hops := rest, eraseMax := max r.eraseMax h.erasedSamples }).freeHop p h) :=
    ((RegionKeeps.refl _ _ s).onRx p _).trans (State.freeHop_keeps _ p h).region
  exact hkeeps.counted_raise (by cases p <;> decide) hclk (by cases p <;> decide) (by simp)

/-- The configuration of a hop's symbols rests on the place in the superframe, on what is pending and staged, and on the framer. -/
theorem State.symbolMode_congr {s t : State} {p : Port} (hpos : (t.rx.get p).symPos = (s.rx.get p).symPos)
    (hnew : (t.rx.get p).newMode = (s.rx.get p).newMode) (hecl : t.ecl = s.ecl) (hframe : t.frame = s.frame)
    (hmode : t.rxMode p = s.rxMode p) (hstaged : t.rxModeStaged p = s.rxModeStaged p)
    (hsync : t.on (HB_FRAME.FRM_STATUS_SYNC p) = s.on (HB_FRAME.FRM_STATUS_SYNC p)) : t.symbolMode p = s.symbolMode p := by
  have hdemap : t.demapMode p = s.demapMode p := by
    unfold State.demapMode State.groupPending
    rw [hnew, hecl, hmode]
  have hdue : t.modeDue p = s.modeDue p := by
    unfold State.modeDue
    rw [hsync, hstaged, hmode, hecl, hframe]
  funext k
  unfold State.symbolMode State.nextMode
  rw [hpos, hdemap, hdue, hstaged]

/-- The hop taken, its symbols come out of the equaliser as before (R109). -/
theorem State.hopTaken_stitched (s : State) (p : Port) (h : Hop) (rest : List Hop) (step : Int) (symbols : List (List Int)) :
    (s.hopTaken p h rest).stitched p step symbols = s.stitched p step symbols ∧
      (s.hopTaken p h rest).symbolMode p = s.symbolMode p := by
  have htaken := s.hopTaken_keeps p h rest
  have hrx := htaken.rx
  have hnco := congrArg RxState.nco hrx
  have hphX := congrArg RxState.phaseX hrx
  have hphY := congrArg RxState.phaseY hrx
  have hpos := congrArg RxState.symPos hrx
  have hnew := congrArg RxState.newMode hrx
  simp only [RxState.unhopped] at hnco hphX hphY hpos hnew
  have hrd : ∀ f : Field, f.quiet = true → (∀ b ∈ [RXEQ.CLU_ROT_SPARE_BUSY p, RXEQ.CLU_ROT_CHRYS_CLU p], f.key ≠ b.key) →
      (s.hopTaken p h rest).rd f = s.rd f := fun f hq hl => htaken.rd hq hl
  have hon : ∀ f : Field, f.quiet = true → (∀ b ∈ [RXEQ.CLU_ROT_SPARE_BUSY p, RXEQ.CLU_ROT_CHRYS_CLU p], f.key ≠ b.key) →
      (s.hopTaken p h rest).on f = s.on f := fun f hq hl => htaken.on hq hl
  have hstaged : (s.hopTaken p h rest).rxModeStaged p = s.rxModeStaged p := by
    unfold State.rxModeStaged rxModeOf
    rw [hrd (DEMAP.MOD_CFG_BASE p) (by cases p <;> decide) (by cases p <;> decide),
      hrd (DEMAP.MOD_CFG_SHAPED p) (by cases p <;> decide) (by cases p <;> decide),
      hrd (DEMAP.MOD_CFG_ENTROPY_E p) (by cases p <;> decide) (by cases p <;> decide),
      hrd (DEMAP.MOD_CFG_CODE_RATE p) (by cases p <;> decide) (by cases p <;> decide),
      hrd (RXFE.SYM_RATE_RATE_Q p) (by cases p <;> decide) (by cases p <;> decide),
      hrd (RXFE.SHAPE_CFG_ROLLOFF p) (by cases p <;> decide) (by cases p <;> decide)]
  have hmode := State.symbolMode_congr hpos hnew (htaken.keeps State.ecl fun _ _ _ _ _ _ => rfl)
    (htaken.keeps State.frame fun _ _ _ _ _ _ => rfl) htaken.rxMode hstaged
    (hon _ (by cases p <;> decide) (by cases p <;> decide))
  refine ⟨?_, hmode⟩
  unfold State.stitched State.bpsWin
  dsimp only
  rw [hmode, hnco, hphX, hphY, hrd (RXEQ.CR_CFG_BPS_WIN p) (by cases p <;> decide) (by cases p <;> decide),
    hon (RXEQ.EQ_STATUS_POL_SWAP p) (by cases p <;> decide) (by cases p <;> decide),
    hrd (RXEQ.EQ_STATUS_ROT_X p) (by cases p <;> decide) (by cases p <;> decide),
    hrd (RXEQ.EQ_STATUS_ROT_Y p) (by cases p <;> decide) (by cases p <;> decide)]

theorem State.hopTaken_tracking (s : State) (p : Port) (h : Hop) (rest : List Hop) :
    (s.hopTaken p h rest).tracking p = s.tracking p := by
  have hpast := s.hopTaken_past p h rest
  simp only [RxState.past, Prod.mk.injEq] at hpast
  obtain ⟨-, hmarker, -⟩ := hpast
  rw [State.tracking, State.tracking, hmarker, (s.hopTaken_keeps p h rest).acqSt (by cases p <;> decide)]

theorem varField_lt (v : Nat × Nat) : varField v < 2 ^ 16 := by
  unfold varField
  split <;> omega

/-- A tracked hop sets the noise variances from its decision errors (R114). -/
theorem State.releaseTracked_var {s : State} {p : Port} {h : Hop} (he : h.erased = false) (symbols : List (List Int)) :
    (s.releaseTracked p h symbols).rd (DEMAP.NOISE_VAR_VAR_X p) =
        varField (energies (s.symbolMode p) (s.stitched p h.step symbols).x) ∧
      (s.releaseTracked p h symbols).rd (DEMAP.NOISE_VAR_VAR_Y p) =
        varField (energies (s.symbolMode p) (s.stitched p h.step symbols).y) := by
  rw [State.releaseTracked_of_sound he]
  obtain ⟨hjudge, -⟩ := State.judgeHop_keeps (s.trackedHop p h symbols) p
    (energies (s.symbolMode p) (s.stitched p h.step symbols).x) (energies (s.symbolMode p) (s.stitched p h.step symbols).y)
  have hvars : ∀ (u : State) (x y : Nat × Nat), (u.takeEnergies p x y).rd (DEMAP.NOISE_VAR_VAR_X p) = varField x ∧
      (u.takeEnergies p x y).rd (DEMAP.NOISE_VAR_VAR_Y p) = varField y := fun u x y => by
    refine ⟨(State.rd_wr_ne _ _ (by cases p <;> decide)).trans ((State.rd_wr_same _ _ _).trans ?_),
      (State.rd_wr_same _ _ _).trans ?_⟩
    · exact Nat.mod_eq_of_lt (varField_lt x)
    · exact Nat.mod_eq_of_lt (varField_lt y)
  refine ⟨?_, ?_⟩
  · rw [hjudge.rd _ (by cases p <;> decide) (by cases p <;> decide)]
    exact (hvars _ _ _).1
  · rw [hjudge.rd _ (by cases p <;> decide) (by cases p <;> decide)]
    exact (hvars _ _ _).2

/-- The release of a hop (R99, R102, R114). -/
theorem State.hopRelease_spec {s : State} {p : Port} {h : Hop} {rest : List Hop} (hclk : s.Clocked) :
    let t := (s.hopTaken p h rest).releaseSymbols p h
    (t.rx.get p).hops = rest ∧ (h.erased = true → Occurs s (Ev.RXEQ.hopErased p) → Counted (Ev.RXEQ.hopErased p) s t) ∧
      (s.tracking p = true → h.erased = false →
        t.rd (DEMAP.NOISE_VAR_VAR_X p) = varField (energies (s.symbolMode p) (s.stitched p h.step h.symbols).x) ∧
        t.rd (DEMAP.NOISE_VAR_VAR_Y p) = varField (energies (s.symbolMode p) (s.stitched p h.step h.symbols).y)) ∧
      ((s.rx.get p).marker = none → (s.tracking p = false ∨ h.erased = true) →
        t.rd (DEMAP.NOISE_VAR_VAR_X p) = s.rd (DEMAP.NOISE_VAR_VAR_X p) ∧
        t.rd (DEMAP.NOISE_VAR_VAR_Y p) = s.rd (DEMAP.NOISE_VAR_VAR_Y p)) := by
  intro t
  have htaken := (s.hopTaken_keeps p h rest).region
  have hclk' : (s.hopTaken p h rest).Clocked := htaken.clocked (by cases p <;> decide) hclk
  have hpast := s.hopTaken_past p h rest
  simp only [RxState.past, Prod.mk.injEq] at hpast
  obtain ⟨hhops, hmarker, -⟩ := hpast
  have htracking := s.hopTaken_tracking p h rest
  refine ⟨(State.releaseSymbols_hops _ p h).trans hhops, fun he _ => ?_, fun htrack he => ?_, fun hnone hrest => ?_⟩
  · exact (State.releaseSymbols_of_erased hclk' he).counted (State.hopTaken_counted hclk he rest) (by cases p <;> decide)
      (by cases p <;> decide)
  · have hnone : (s.rx.get p).marker = none := by
      simp only [State.tracking, Bool.and_eq_true, Option.isNone_iff_eq_none] at htrack
      exact htrack.2
    obtain ⟨hstitched, hmode⟩ := s.hopTaken_stitched p h rest h.step h.symbols
    have ht : t = (s.hopTaken p h rest).releaseTracked p h h.symbols := by
      show (s.hopTaken p h rest).releaseSymbols p h = _
      rw [State.releaseSymbols_of_none (hmarker.trans hnone), if_pos (htracking.trans htrack)]
    rw [ht, ← hmode, ← hstitched]
    exact State.releaseTracked_var he h.symbols
  · have hkeeps : ∃ l n, (∀ g ∈ l, (DEMAP.NOISE_VAR_VAR_X p).key ≠ g.key ∧ (DEMAP.NOISE_VAR_VAR_Y p).key ≠ g.key) ∧
        RegionKeeps l n (s.hopTaken p h rest) t := by
      rcases hrest with hrest | hrest
      · refine ⟨[], demapPlaces p, by simp, ?_⟩
        have ht : t = (s.hopTaken p h rest).releasePlain p h h.symbols := by
          show (s.hopTaken p h rest).releaseSymbols p h = _
          rw [State.releaseSymbols_of_none (hmarker.trans hnone), if_neg (by rw [htracking, hrest]; decide)]
        rw [ht]
        exact (State.releasePlain_keeps _ p h _).region
      · exact ⟨hypothesisFields p, _, by cases p <;> decide, State.releaseSymbols_of_erased hclk' hrest⟩
    obtain ⟨l, n, hl, hregion⟩ := hkeeps
    rw [hregion.rd _ (by cases p <;> decide) fun g hg => (hl g hg).1, hregion.rd _ (by cases p <;> decide) fun g hg => (hl g hg).2]
    exact ⟨htaken.rd _ (by cases p <;> decide) (by cases p <;> decide), htaken.rd _ (by cases p <;> decide) (by cases p <;> decide)⟩

/-! ### Coefficients (R105, R124) -/

/-- The update of a hop's error terms, which waits for the next hop boundary (R105, R124). -/
def State.coefUpdated (s : State) (p : Port) (h : Hop) : State :=
  let dd := s.on (RXEQ.EQ_STATUS_DD_MODE p)
  let mu := max 1 (s.rd (if dd then RXEQ.EQ_CFG_MU_DD p else RXEQ.EQ_CFG_MU_CMA p))
  (s.coefTaken p).onRx p fun r => { r with mimoNext := h.update mu (h.errors dd (s.bpsWin p)) r.mimo, mimoStandby := true }

/-- An update from the oldest hop with error terms waits in the standby bank (R105). -/
theorem coefUpdateDone_writes {p : Port} {h : Hop} {s : State} (hclk : s.Clocked) (hfreeze : s.on (RXEQ.EQ_CFG_FREEZE_EQ p) = false)
    (hfrozen : (s.rx.get p).mimoFrozen = false) (hst : acqTiming ≤ s.acqSt p) (hhop : s.coefHop p = some h) :
    Completes (.coefUpdateDone p) s fun t => (t.rx.get p).mimoStandby = true ∧ (t.rx.get p).mimo = (s.rx.get p).mimo ∧
      (t.rx.get p).mimoNext =
        h.update (max 1 (s.rd (if s.on (RXEQ.EQ_STATUS_DD_MODE p) then RXEQ.EQ_CFG_MU_DD p else RXEQ.EQ_CFG_MU_CMA p)))
          (h.errors (s.on (RXEQ.EQ_STATUS_DD_MODE p)) (s.bpsWin p)) (s.rx.get p).mimo ∧
      t = { s with rx := t.rx } ∧ t.rx.get p.other = s.rx.get p.other := by
  refine ⟨s.coefUpdated p h, ?_, ?_⟩
  · rw [exec, execCoefUpdateDone, State.clocked_run hclk, hfreeze, hfrozen, if_neg (by simp; omega), hhop]
    rfl
  · have htaken : s.coefTaken p = s.markHop p h.num fun h => { h with stage := 4 } := by rw [State.coefTaken, hhop]
    have hmimo : ((s.coefTaken p).rx.get p).mimo = (s.rx.get p).mimo := by rw [htaken]; cases p <;> rfl
    have hother : (s.coefTaken p).rx.get p.other = s.rx.get p.other := by rw [htaken]; cases p <;> rfl
    unfold State.coefUpdated
    dsimp only
    rw [State.onRx, Pair.get_upd_same, Pair.get_upd_other]
    refine ⟨rfl, hmimo, ?_, ?_, hother⟩
    · dsimp only
      rw [hmimo]
    · rw [htaken]
      rfl

/-- Adaptation that is frozen, has not started or has no error terms writes nothing (R105, R117). -/
theorem coefUpdateDone_rests {p : Port} {s : State} (hclk : s.Clocked)
    (h : s.on (RXEQ.EQ_CFG_FREEZE_EQ p) = true ∨ (s.rx.get p).mimoFrozen = true ∨ s.acqSt p < acqTiming ∨ s.coefHop p = none) :
    Completes (.coefUpdateDone p) s fun t => t = s := by
  refine ⟨s, ?_, rfl⟩
  rw [exec, execCoefUpdateDone, State.clocked_run hclk]
  split
  · rfl
  · next hrun =>
    have hnone : s.coefHop p = none := by
      rcases h with h | h | h | h
      · exact absurd (.inl h) hrun
      · exact absurd (.inr (.inl h)) hrun
      · exact absurd (.inr (.inr h)) hrun
      · exact h
    rw [hnone]

/-- Settles O36: each clause is one event of the equaliser, taken from the state that the clause names. -/
theorem equaliserHopsAndRotation : Obligations.EqualiserHopsAndRotation := by
  unfold Obligations.EqualiserHopsAndRotation
  refine ⟨?due, ?lapses, ?rotates, ?waits, ?queues, ?exchanges, ?idle, ?empty, ?release, ?update, ?rests⟩
  case due =>
    intro p s hclk hmay
    refine completes_eqClusterRotation hclk ?_
    rw [if_pos hmay]
    cases p <;> exact ⟨rfl, rfl, rfl⟩
  case lapses =>
    intro p s hclk hmay
    refine completes_eqClusterRotation hclk ?_
    rw [hmay]
    rfl
  case rotates => exact fun p codes s hclk hup hdue hmay hfree hlane => hopHandoff_rotates hclk hup hdue hmay hfree hlane
  case waits => exact fun p codes s hclk hup hdue hspares hwait hnone => hopHandoff_waits hclk hup hdue hspares hwait hnone
  case queues => exact fun p codes s hclk hup hdue hnone => hopHandoff_queues hclk hup hdue hnone
  case exchanges =>
    exact fun p codes s hclk hup hdue hex hspare hbusy htest => hopHandoff_exchanges hclk hup hdue hex hspare hbusy htest
  case idle =>
    intro p codes s hclk hidle
    exact ⟨s, by rw [exec, execHopHandoff, State.clocked_run hclk, if_pos hidle], rfl⟩
  case empty =>
    intro p s hclk hnone
    exact ⟨s, by rw [exec, execHopRelease, State.clocked_run hclk, hnone], rfl⟩
  case release =>
    intro p h rest s hclk hhops
    exact completes_hopRelease hclk hhops (State.hopRelease_spec hclk)
  case update => exact fun p h s hclk hfreeze hfrozen hst hhop => coefUpdateDone_writes hclk hfreeze hfrozen hst hhop
  case rests => exact fun p s hclk h => coefUpdateDone_rests hclk h

end Sys2Proof.Machine
end


section
/-! What the contents of a received frame touch beside the deframer's own state (R164 to R175, R215, R235 to R250, R268 to R294):
neither its alignment nor its errored blocks. -/

namespace Sys2Proof.Machine

open F

/-! ### The deframer's alignment and errored blocks -/

/-- Fields of a port's deframer that the contents of a frame leave, with that of RCLK. -/
def deframeFields (p : Port) : List Field :=
  [HB_FRAME.FRM_STATUS_SYNC p, HB_FRAME.FRM_STATUS_MISSES p, CK_SYN.SYN_STATUS_RCLK_OK]

/-- The counters of its errored blocks and missed alignment words. -/
def deframePlaces (p : Port) : List Nat := [(Ev.HB_FRAME.erroredBlock p).place, (Ev.HB_FRAME.fawMiss p).place]

/-- An update that leaves a port's alignment, its stream, its frame counter and its errored blocks. -/
structure State.Deframes (p : Port) (s t : State) : Prop where
  rd : ∀ f ∈ deframeFields p, t.rd f = s.rd f
  counter : ∀ q o, q * 4096 + o ∈ deframePlaces p → t.counter q o = s.counter q o
  fec : t.fec = s.fec
  frame : (t.frame.get p).fcRx = (s.frame.get p).fcRx ∧ (t.frame.get p).reiCount = (s.frame.get p).reiCount

/-- A field of none of the deframer's places: its key is above theirs. -/
theorem deframeFields_key_lt {p : Port} {f : Field} (hf : f ∈ deframeFields p) : f.key < 21 * 131072 := by
  cases p <;> (revert f; decide)

namespace State.Deframes

variable {p : Port} {s t u : State}

theorem refl (p : Port) (s : State) : Deframes p s s := ⟨fun _ _ => rfl, fun _ _ _ => rfl, rfl, rfl, rfl⟩

theorem trans (h : Deframes p s t) (k : Deframes p t u) : Deframes p s u where
  rd f hf := (k.rd f hf).trans (h.rd f hf)
  counter q o hq := (k.counter q o hq).trans (h.counter q o hq)
  fec := k.fec.trans h.fec
  frame := ⟨k.frame.1.trans h.frame.1, k.frame.2.trans h.frame.2⟩

/-- An update of what the deframer does not hold. -/
theorem same (h : Deframes p s t) (hregs : u.regs = t.regs) (hcnt : u.cnt = t.cnt) (hfec : u.fec = t.fec) (hframe : u.frame = t.frame) :
    Deframes p s u where
  rd f hf := by rw [← h.rd f hf, State.rd, State.rd, hregs]
  counter q o hq := by rw [← h.counter q o hq, State.counter, State.counter, hcnt]
  fec := hfec.trans h.fec
  frame := by rw [hframe]; exact h.frame

theorem wr (h : Deframes p s t) {g : Field} (hg : ∀ f ∈ deframeFields p, g.key ≠ f.key) (v : Nat) : Deframes p s (t.wr g v) where
  rd f hf := (State.rd_wr_ne t v (hg f hf)).trans (h.rd f hf)
  counter := h.counter
  fec := h.fec
  frame := h.frame

/-- A field of a page above the deframers'. -/
theorem wrAbove (h : Deframes p s t) {g : Field} (hg : 21 * 131072 ≤ g.key) (v : Nat) : Deframes p s (t.wr g v) :=
  h.wr (fun _ hf => ne_of_gt (lt_of_lt_of_le (deframeFields_key_lt hf) hg)) v

theorem raiseN (h : Deframes p s t) {e : Evt} (he : e.place ∉ deframePlaces p) (n : Nat) : Deframes p s (t.raiseN e n) where
  rd f hf := (State.raiseN_rd t e n f (by cases p <;> (revert f; decide))).trans (h.rd f hf)
  counter q o hq :=
    (State.raiseN_counter_ne t e n q o (fun heq => he (by rw [heq] at hq; exact hq)) (by
      rintro heq
      rw [heq] at hq
      cases p <;> exact absurd hq (by decide))).trans (h.counter q o hq)
  fec := by rw [State.raiseN_fec]; exact h.fec
  frame := by rw [State.raiseN_frame]; exact h.frame

theorem raise (h : Deframes p s t) {e : Evt} (he : e.place ∉ deframePlaces p) : Deframes p s (t.raise e) := h.raiseN he 1

theorem count (h : Deframes p s t) {page off : Nat} (hp : page * 4096 + off ∉ deframePlaces p) (n : Nat) :
    Deframes p s (t.count page off n) := by
  refine h.trans ⟨fun f _ => ?_, fun q o hq => ?_, ?_, ?_⟩
  · rw [State.count_eventFrame t page off n]
    unfold State.count
    split <;> rfl
  · exact State.counter_count_ne t page off n q o fun heq => hp (by rw [heq]; exact hq)
  · rw [State.count_eventFrame t page off n]
  · rw [State.count_eventFrame t page off n]
    exact ⟨rfl, rfl⟩

theorem onFrame (h : Deframes p s t) {f : FrameState → FrameState} (hf : ∀ x, (f x).fcRx = x.fcRx ∧ (f x).reiCount = x.reiCount) :
    Deframes p s (t.onFrame p f) where
  rd := h.rd
  counter := h.counter
  fec := h.fec
  frame := by
    rw [State.onFrame, Pair.get_upd_same, (hf _).1, (hf _).2]
    exact h.frame

theorem ite {c : Prop} [Decidable c] {v : State} (hu : Deframes p s u) (hv : Deframes p s v) : Deframes p s (if c then u else v) := by
  split
  · exact hu
  · exact hv

theorem cond (h : Deframes p s t) {b : Bool} {f : State → State} (hf : Deframes p s (f t)) : Deframes p s (t.cond b f) := ite hf h

/-- A change that keeps them wherever it is made. -/
theorem condOf (h : Deframes p s t) (b : Bool) {f : State → State} (hf : ∀ u, Deframes p s u → Deframes p s (f u)) :
    Deframes p s (t.cond b f) := h.cond (hf t h)

theorem raiseIf (h : Deframes p s t) (b : Bool) {e : Evt} (he : e.place ∉ deframePlaces p) : Deframes p s (t.raiseIf b e) :=
  ite (h.raise he) h

theorem forEach {α : Type} (h : Deframes p s t) (xs : List α) (f : α → State → State)
    (hstep : ∀ a u, Deframes p s u → Deframes p s (f a u)) : Deframes p s (t.forEach xs f) :=
  State.forEach_invariant (Deframes p s) xs f hstep h

/-! ### Updates of what hub and pipelines hold -/

theorem onLine (h : Deframes p s t) (q : Port) (lch : Nat) (f : LineChan → LineChan) : Deframes p s (t.onLine q lch f) :=
  h.same rfl rfl rfl rfl

theorem onDrop (h : Deframes p s t) (ch : Nat) (f : DropChan → DropChan) : Deframes p s (t.onDrop ch f) := h.same rfl rfl rfl rfl

theorem onTransit (h : Deframes p s t) (q : Port) (o : Nat) (f : TransitChan → TransitChan) : Deframes p s (t.onTransit q o f) :=
  h.same rfl rfl rfl rfl

theorem onSelector (h : Deframes p s t) (ch : Nat) (f : Selector → Selector) : Deframes p s (t.onSelector ch f) :=
  h.same rfl rfl rfl rfl

theorem onConcat (h : Deframes p s t) (ch : Nat) (f : Concat → Concat) : Deframes p s (t.onConcat ch f) := h.same rfl rfl rfl rfl

theorem onChanKey (h : Deframes p s t) (ch : Nat) (f : ChanKeys → ChanKeys) : Deframes p s (t.onChanKey ch f) := h.same rfl rfl rfl rfl

theorem onKey (h : Deframes p s t) (k : Nat) (f : KeySlot → KeySlot) : Deframes p s (t.onKey k f) := h.same rfl rfl rfl rfl

theorem wipeSlot (h : Deframes p s t) (k : Nat) : Deframes p s (t.wipeSlot k) := h.same rfl rfl rfl rfl

theorem onPm (h : Deframes p s t) (e : Nat) (f : PmEntity → PmEntity) : Deframes p s (t.onPm e f) := h.same rfl rfl rfl rfl

theorem aesBad (h : Deframes p s t) (l : List (Bool × Nat × Nat × Nat)) : Deframes p s { t with aesBad := l } := h.same rfl rfl rfl rfl

theorem onTrace (h : Deframes p s t) (f : TraceState → TraceState) : Deframes p s (t.onTrace f) := h.same rfl rfl rfl rfl

theorem onDv (h : Deframes p s t) (c : Nat) (f : DvClass → DvClass) : Deframes p s (t.onDv p c f) := h.onFrame fun _ => ⟨rfl, rfl⟩

theorem sideSwapped (h : Deframes p s t) (k : Nat) : Deframes p s (t.sideSwapped k) := h.same rfl rfl rfl rfl

theorem flowCount (h : Deframes p s t) (f k n : Nat) : Deframes p s (t.flowCount f k n) :=
  (h.same (u := (t.flowAdd (8 * f + k) n).1) rfl rfl rfl rfl).raiseIf _ (by cases p <;> decide)

theorem divOpen (h : Deframes p s t) (n d : Int) : Deframes p s (t.divOpen n d).1 := by
  unfold State.divOpen
  split
  · exact h
  · exact h.same rfl rfl rfl rfl

/-! ### Candidates for a trace (R458, R459) -/

theorem tag (h : Deframes p s t) (i : Instant) (ss index blockNo depth : Nat) :
    Deframes p s (t.tag (4 + p.toNat) i ss index blockNo depth) := by
  have hoff : 5 * 4096 + (0x440 + 4 * (4 + p.toNat)) ∉ deframePlaces p := by cases p <;> decide
  have hlfsr : ∀ c f, Deframes p s ({ t with tclk := c }.onTrace f) := fun _ _ => h.same rfl rfl rfl rfl
  exact (hlfsr _ _).condOf _ fun u hu => (hu.onTrace _).count hoff 1

theorem onFlight (h : Deframes p s t) (src : Nat) (f : Eyespot → Eyespot) : Deframes p s (t.onFlight src f) := by
  unfold State.onFlight
  cases t.flightOf src with
  | none => exact h
  | some e => exact h.onTrace _

/-! ### The cipher stage (R268 to R294) -/

theorem serveKey (h : Deframes p s t) (n ss : Nat) : Deframes p s (t.serveKey n ss) :=
  ite h ((h.onKey n _).raiseIf _ (by cases p <;> decide))

theorem checkBits (h : Deframes p s t) (q : Port) (bits : List Bool) : Deframes p s (t.checkBits q bits) := by
  have hlock : ∀ c v, Deframes p s ({ t with chtest := c }.wr (HB_SLOT.CHTEST_CHK_LOCK q) v) := fun c v =>
    (h.same (u := { t with chtest := c }) rfl rfl rfl rfl).wrAbove (by cases q <;> decide) v
  exact (((hlock _ _).raiseN (by cases p <;> cases q <;> decide) _).raiseN (by cases p <;> cases q <;> decide) _).raiseN
    (by cases p <;> cases q <;> decide) _

theorem delineate (h : Deframes p s t) (ch ss : Nat) (bytes : List Nat) (cut : Nat → Bool) :
    Deframes p s (t.delineate ch ss bytes cut) := by
  have habove : ∀ off, 23 * 4096 + off ∉ deframePlaces p := fun off hm => by
    have hlt : ∀ m ∈ deframePlaces p, m < 23 * 4096 := by cases p <;> decide
    exact absurd (hlt _ hm) (by omega)
  exact ((h.onDrop ch _).count (habove _) _).count (habove _) _

theorem deliverUnit (h : Deframes p s t) (ch : Nat) (x : SourceUnit) : Deframes p s (t.deliverUnit ch x) := by
  have hcheck := h.forEach ([Port.E, Port.W].filter fun q =>
      t.on (HB_SLOT.CHTEST_CHK_EN q) && decide (t.rd (HB_SLOT.CHTEST_CHK_CH q) = ch)) (fun q s =>
    s.checkBits q ((rowOrder 3126 x.parts).flatMap fun b => (bitsOf 8 (b % 256)))) fun q u hu => hu.checkBits q _
  exact ite (hcheck.onDrop ch _) (hcheck.delineate ch _ _ _)

theorem verdict (h : Deframes p s t) (ch n code : Nat) : Deframes p s (t.verdict ch n code) := by
  unfold State.verdict
  extract_lets d pass u v marked reports lostHeld w x d' sq need
  have hu : Deframes p s u := h.raise (by split <;> cases p <;> decide)
  have hw : Deframes p s w := (hu.onChanKey ch _).onDrop ch _
  have hx : Deframes p s x := hw.cond
    (((hw.forEach _ _ fun e y hy => hy.flowCount e.1 7 1).raiseN (by cases p <;> decide) _).raiseN (by cases p <;> decide) _)
  exact ite (((hx.onChanKey ch _).onDrop ch _).raise (by cases p <;> decide))
    (ite ((hx.onChanKey ch _).raise (by cases p <;> decide)) hx)

theorem judge (h : Deframes p s t) (ch : Nat) : Deframes p s (t.judge ch) :=
  h.forEach _ _ fun a _ hu => ite (hu.verdict ch a.1 1) hu

theorem closeSource (h : Deframes p s t) (ch : Nat) : Deframes p s (t.closeSource ch) := by
  unfold State.closeSource
  dsimp only
  cases (t.dropOf ch).ss with
  | none => exact h
  | some n => exact (h.onDrop ch _).judge ch

theorem openUnit (h : Deframes p s t) (ch : Nat) (x : SourceUnit) : Deframes p s (t.openUnit ch x) := by
  unfold State.openUnit
  extract_lets n need u1 u2 u3 places k refused u4 upstream u5 key missing u6 lost u7 slot hk u8 u9 bad plain u10 excess u11 v u12
  have h1 : Deframes p s u1 := h.raiseIf _ (by cases p <;> decide)
  have h2 : Deframes p s u2 := h1.cond (h1.closeSource ch)
  have h3 : Deframes p s u3 := h2.cond ((h2.onDrop ch _).onDrop ch _)
  have h4 : Deframes p s u4 := h3.cond (h3.raiseN (by cases p <;> decide) _)
  have h5 : Deframes p s u5 := h4.cond (h4.raiseN (by cases p <;> decide) _)
  have h6 : Deframes p s u6 := h5.cond ((h5.raiseN (by cases p <;> decide) _).onDrop ch _)
  have h7 : Deframes p s u7 := h6.cond (h6.serveKey _ _)
  have h8 : Deframes p s u8 := h7.cond (h7.onDrop ch _)
  have h9 : Deframes p s u9 := h8.raiseN (by cases p <;> decide) _
  have h10 : Deframes p s u10 := h9.aesBad _
  have h11 : Deframes p s u11 := h10.raiseN (by cases p <;> decide) _
  have h12 : Deframes p s u12 := ite (ite h11 (h11.onDrop ch _)) (h11.deliverUnit ch _)
  exact h12.cond (h12.closeSource ch)

theorem tagArrived (h : Deframes p s t) (ch : Nat) (par : Bool) (n tag : Nat) : Deframes p s (t.tagArrived ch par n tag) :=
  ite ((h.onDrop ch _).judge ch) h

/-! ### Columns, path words, key words and tags (R165, R240 to R245, R274 to R277, R289) -/

theorem unitArrived (h : Deframes p s t) (q : Port) (ch : Nat) (x : SourceUnit) : Deframes p s (t.unitArrived q ch x) := by
  unfold State.unitArrived
  cases t.dpCopy ch with
  | some c => exact h.onSelector c.1 _
  | none => exact ite ((h.onConcat ch _).forEach _ _ fun y _ hv => hv.openUnit ch y) (h.openUnit ch x)

theorem lineFrame (h : Deframes p s t) (q : Port) (rows : List (List Nat)) (x : FrameIn) (n lch : Nat) (frameBad frameZero : Bool) :
    Deframes p s (t.lineFrame q rows x n lch frameBad frameZero) := by
  unfold State.lineFrame
  extract_lets cols take data u l l'
  have hu : Deframes p s u := h.forEach _ _ fun o v hv => hv.onTransit q.other o _
  cases u.lchDrop q lch with
  | none => exact hu.onLine q lch _
  | some ch => exact ite ((hu.onLine q lch _).forEach _ _ fun y v hv => hv.unitArrived q ch y) ((hu.onLine q lch _).onDrop ch _)

theorem originEvent (h : Deframes p s t) (locked : Bool) : Deframes p s (t.originEvent locked) :=
  h.raise (by cases locked <;> cases p <;> decide)

theorem pathWordIn (h : Deframes p s t) (q : Port) (lch w : Nat) : Deframes p s (t.pathWordIn q lch w) := by
  unfold State.pathWordIn
  dsimp only
  refine ite (ite (ite ((h.onLine q lch _).originEvent true) (h.onLine q lch _)) (ite (ite ?_ (h.onLine q lch _)) (h.onLine q lch _)))
    (h.onLine q lch _)
  exact (h.onLine q lch _).originEvent false

theorem encWord (h : Deframes p s t) (ch : Nat) (enc integ : Bool) : Deframes p s (t.encWord ch enc integ) :=
  (h.onChanKey ch _).raiseIf _ (by cases p <;> decide)

theorem dropSwitch (h : Deframes p s t) (ch b : Nat) : Deframes p s (t.dropSwitch ch b) := by
  unfold State.dropSwitch
  extract_lets c next old u v w
  have hu : Deframes p s u := h.cond (h.wipeSlot _)
  have hv : Deframes p s v := hu.cond (hu.onKey _ _)
  have hw : Deframes p s w := hv.cond (hv.onKey _ _)
  exact (hw.onChanKey ch _).raise (by cases p <;> decide)

theorem keyWordIn (h : Deframes p s t) (q : Port) (lch w : Nat) : Deframes p s (t.keyWordIn q lch w) := by
  unfold State.keyWordIn
  extract_lets u
  have hu : Deframes p s u := h.onLine q lch _
  cases u.lchDrop q lch with
  | none => exact hu
  | some c0 =>
    dsimp only
    refine ite (((hu.encWord _ _ _).condOf _ fun v hv => ?_).condOf _ fun v hv => hv.onChanKey _ _) hu
    exact (hv.dropSwitch _ _).raise (by cases p <;> decide)

theorem tagIn (h : Deframes p s t) (q : Port) (x : TagPos) (tag : Nat) : Deframes p s (t.tagIn q x tag) := by
  unfold State.tagIn
  extract_lets l n u
  have hu : Deframes p s u := h.forEach _ _ fun o v hv => hv.onTransit q.other o _
  refine ite h ?_
  cases x.drop with
  | none => exact hu
  | some ch =>
    dsimp only
    cases u.dpCopy ch with
    | none => exact hu.tagArrived ch false n tag
    | some c => exact hu.tagArrived c.1 c.2 n tag

/-! ### Concatenated channels (R215) -/

theorem concatDelay (h : Deframes p s t) (ch : Nat) (skew : Int) : Deframes p s (t.concatDelay ch skew) := by
  have hkey : 21 * 131072 ≤ (HB_SLOT.CONCAT_SKEW_DEFECT (ch / 32)).key := by
    simp only [Field.key, HB_SLOT.CONCAT_SKEW_DEFECT]
    omega
  unfold State.concatDelay
  extract_lets x big within f on u
  have hu : Deframes p s u := h.onConcat ch _
  exact ite (((hu.wrAbove hkey _).onDrop ch _).raise (by cases p <;> decide))
    (ite ((hu.wrAbove hkey _).raise (by cases p <;> decide)) hu)

theorem concatArrive (h : Deframes p s t) (q : Port) (fc at_ ch : Nat) : Deframes p s (t.concatArrive q fc at_ ch) := by
  unfold State.concatArrive
  dsimp only
  split
  · exact ((h.onConcat ch _).divOpen _ _).concatDelay ch _
  · exact h.onConcat ch _

end State.Deframes

end Sys2Proof.Machine
end


section
/-! A received frame in SYNC: its fields and its contents leave alignment and errored blocks, and it is at most one errored block
(O40; R167 to R175, R179). -/

namespace Sys2Proof.Machine

open F

namespace State.Deframes

variable {p : Port} {s t u : State}

/-! ### The fields of a good frame (R167 to R175) -/

theorem rxFlags (h : Deframes p s t) (flags : Nat) : Deframes p s (t.rxFlags p flags) := by
  have hrun : ∀ r, Deframes p s (t.onFrame p fun f => { f with acqRun := r }) := fun r => h.onFrame fun _ => ⟨rfl, rfl⟩
  exact (hrun _).condOf _ fun v hv =>
    ((hv.wr (g := HB_FRAME.FRM_STATUS_FAR_ACQ_REQ p) (by cases p <;> decide) _).raise (by cases p <;> decide)).raise
      (by cases p <;> decide)

theorem rxRdei (h : Deframes p s t) (v : Nat) : Deframes p s (t.rxRdei p v) := by
  unfold State.rxRdei
  extract_lets rdi u1 u2 u3
  have h1 : Deframes p s u1 := h.condOf _ fun w hw =>
    (hw.wr (g := HB_FRAME.FRM_STATUS_RDI_RX p) (by cases p <;> decide) _).raise (by cases p <;> decide)
  have h2 : Deframes p s u2 := h1.wr (by cases p <;> decide) _
  have h3 : Deframes p s u3 := h2.raiseN (by cases p <;> decide) _
  exact h3.condOf _ fun w hw => hw.onPm _ _

theorem rxSmap (h : Deframes p s t) (v : Nat) : Deframes p s (t.rxSmap p v) := by
  unfold State.rxSmap
  extract_lets u bank run
  have hu : Deframes p s u := h.condOf _ fun w hw => hw.onFrame fun _ => ⟨rfl, rfl⟩
  refine ite (((Deframes.wr (hu.onFrame ?_) (by cases p <;> decide) _).sideSwapped _).raise (by cases p <;> decide)) (hu.onFrame ?_)
  · exact fun _ => ⟨rfl, rfl⟩
  · exact fun _ => ⟨rfl, rfl⟩

theorem rxSmc (h : Deframes p s t) (v expected : Nat) : Deframes p s (t.rxSmc p v expected) := by
  unfold State.rxSmc
  extract_lets u differs r w now x
  have hu : Deframes p s u :=
    (h.wr (g := HB_FRAME.SMC_SMC_RX p) (by cases p <;> decide) v).wr (g := HB_FRAME.SMC_SMC_EXP p) (by cases p <;> decide) expected
  have hw : Deframes p s w := hu.onFrame fun _ => ⟨rfl, rfl⟩
  have hx : Deframes p s x := ite hw
    (ite ((hw.wr (by cases p <;> decide) 1).raise (by cases p <;> decide)) ((hw.wr (by cases p <;> decide) 0).raise
      (by cases p <;> decide)))
  exact hx.condOf _ fun y hy => hy.onPm _ _

theorem rxRingEntry (h : Deframes p s t) (n v : Nat) : Deframes p s (t.rxRingEntry p n v) := ite (h.same rfl rfl rfl rfl) h

theorem rxWords (h : Deframes p s t) (j prot key itag : Nat) : Deframes p s (t.rxWords p j prot key itag) := by
  have hhalves : ∀ a b c, Deframes p s (t.onFrame p fun f => { f with protHi := a, keyHi := b, itagHi := c }) := fun a b c =>
    h.onFrame fun _ => ⟨rfl, rfl⟩
  unfold State.rxWords
  dsimp only
  refine ite (hhalves _ _ _) ?_
  split
  · refine ite (hhalves _ _ _) (ite ((hhalves _ _ _).rxRingEntry _ _) ?_)
    split
    · exact hhalves _ _ _
    · exact (((hhalves _ _ _).pathWordIn p _ _).keyWordIn p _ _).tagIn p _ _
  · exact h

theorem dvComplete (h : Deframes p s t) (c : Nat) (m : List Nat) : Deframes p s (t.dvComplete p c m) :=
  ite (h.same rfl rfl rfl rfl) (h.raise (by cases p <;> decide))

theorem rxCell (h : Deframes p s t) (cell : List Nat) : Deframes p s (t.rxCell p cell) := by
  unfold State.rxCell
  extract_lets h0 c d seq follows start abort u part v
  have hv : Deframes p s v := (h.raiseIf _ (by cases p <;> decide)).onDv c _
  refine ite h ?_
  cases part with
  | none => exact hv
  | some m => exact ite (hv.dvComplete c _) (ite (hv.raise (by cases p <;> decide)) (hv.onDv c _))

theorem rxFields (h : Deframes p s t) (bits : List Bool) (expected : Nat) : Deframes p s (t.rxFields p bits expected) :=
  (((((h.rxFlags _).rxRdei _).rxSmap _).rxSmc _ _).rxWords _ _ _ _).rxCell _

/-- A frame that is not good loses its halves (R167, R170). -/
theorem rxWordsLost (h : Deframes p s t) (j : Nat) : Deframes p s (t.rxWordsLost p j) := by
  have hhalves : Deframes p s (t.onFrame p fun f => { f with protHi := none, keyHi := none, itagHi := none }) :=
    h.onFrame fun _ => ⟨rfl, rfl⟩
  unfold State.rxWordsLost
  dsimp only
  split
  · exact hhalves.raiseIf _ (by cases p <;> decide)
  · exact hhalves

/-! ### A frame's start (R165, R168, R170, R173) -/

theorem rxSuperframe (h : Deframes p s t) (atBoundary : Bool) : Deframes p s (t.rxSuperframe p atBoundary) := by
  unfold State.rxSuperframe
  extract_lets f u v i ring w
  have hv : Deframes p s v := (h.raiseIf _ (by cases p <;> decide)).onFrame fun _ => ⟨rfl, rfl⟩
  have hw : Deframes p s w := hv.same rfl rfl rfl rfl
  exact ite (((hw.wr (by cases p <;> decide) _).sideSwapped _).raise (by cases p <;> decide)) hw

theorem countJust (h : Deframes p s t) (row : List Nat) : Deframes p s (t.countJust p row) := by
  unfold State.countJust
  extract_lets used jc u v
  have hu : Deframes p s u := h.raiseN (by cases p <;> decide) _
  have hv : Deframes p s v := hu.raiseN (by cases p <;> decide) _
  exact hv.raiseN (by cases p <;> decide) _

theorem chanErrored (h : Deframes p s t) (ch : Nat) : Deframes p s (t.chanErrored p ch) := h.condOf _ fun _ hu => hu.onPm _ _

theorem judgeAgreed (h : Deframes p s t) (fc : Nat) : Deframes p s (t.judgeAgreed p fc) :=
  h.forEach _ _ fun e u hu => hu.same (u := { u with ecl := Tab.insert u.ecl e.1 { e.2 with late := true } }) rfl rfl rfl rfl

end State.Deframes

/-! ### The validated frame counter (R173) -/

/-- A state with a value for the validated frame counter of a port. -/
def State.withFc (s : State) (p : Port) (v : Nat) : State := s.onFrame p fun f => { f with fcRx := v }

/-- A change of the framer's other values from there. -/
theorem State.withFc_deframes (s : State) (p : Port) (v : Nat) {f : FrameState → FrameState}
    (hf : (f (s.frame.get p)).fcRx = v ∧ (f (s.frame.get p)).reiCount = (s.frame.get p).reiCount) :
    Deframes p (s.withFc p v) (s.onFrame p f) := by
  refine ⟨fun _ _ => rfl, fun _ _ _ => rfl, rfl, ?_⟩
  rw [State.withFc, State.onFrame, State.onFrame, Pair.get_upd_same, Pair.get_upd_same]
  exact hf

/-- Two changes of a port's framer are one. -/
theorem State.onFrame_onFrame (s : State) (p : Port) (f g : FrameState → FrameState) :
    (s.onFrame p f).onFrame p g = s.onFrame p fun x => g (f x) := by
  cases p <;> rfl

/-- A frame start gives the counter a value: the next one, where a good frame has that. -/
theorem State.validateFc_deframes (s : State) (p : Port) (fc : Nat) (good : Bool) :
    ∃ v, Deframes p (s.withFc p v) (s.validateFc p fc good) ∧
      ((s.frame.get p).loadFc = false → good = true → fc = ((s.frame.get p).fcRx + 1) % 2 ^ 48 →
        v = ((s.frame.get p).fcRx + 1) % 2 ^ 48) := by
  unfold State.validateFc
  extract_lets f next u
  split
  · next hload =>
    have hloaded := s.withFc_deframes p fc (f := fun f => { f with fcRx := fc, loadFc := false }) ⟨rfl, rfl⟩
    refine ⟨fc, hloaded.judgeAgreed fc, fun h => ?_⟩
    exact absurd (hload.symm.trans h) (by decide)
  · have hu : Deframes p (s.withFc p next) u := s.withFc_deframes p next ⟨rfl, rfl⟩
    have hother : ∀ a, Deframes p (s.withFc p next) (u.onFrame p fun f => { f with fcOther := a }) := fun a =>
      hu.onFrame fun _ => ⟨rfl, rfl⟩
    split
    · exact ⟨next, hu, fun _ _ _ => rfl⟩
    split
    · exact ⟨next, hother none, fun _ _ _ => rfl⟩
    · next hne =>
      have hraise : Deframes p (s.withFc p fc)
          ((u.onFrame p fun f => { f with fcRx := fc, fcOther := none }).raise (Ev.HB_FRAME.fcDiscontinuity p)) :=
        Deframes.raise (State.onFrame_onFrame s p _ _ ▸ s.withFc_deframes p fc ⟨rfl, rfl⟩) (by cases p <;> decide)
      cases f.fcOther with
      | none => exact ⟨next, hother _, fun _ _ _ => rfl⟩
      | some a =>
        dsimp only
        split
        · exact ⟨fc, hraise, fun _ _ heq => absurd heq hne⟩
        · exact ⟨next, hother _, fun _ _ _ => rfl⟩

/-! ### The frame (R167, R179) -/

/-- The check sequence of a frame holds and none of its bits lies in an uncorrectable block (R167). -/
def FrameIn.good (x : FrameIn) : Bool :=
  decide (ofBits (x.bits.drop (x.bits.length - 32)) = crc32 ((x.bits.take (x.bits.length - 32)).drop 64)) && x.bad.isEmpty

/-- A frame up to its end: what its start and its contents leave, and the errored block that it is unless it is a good one at its
place (R179). -/
theorem State.rxFrame_spec (s : State) (p : Port) (x : FrameIn) (miss : Bool) :
    ∃ v u, Deframes p (s.withFc p v) u ∧
      Deframes p (if miss || !x.good then u.erroredBlock p else u) (s.rxFrame p x miss) ∧
      ((s.frame.get p).loadFc = false → x.good = true → fieldAt x.bits 64 48 = ((s.frame.get p).fcRx + 1) % 2 ^ 48 →
        v = ((s.frame.get p).fcRx + 1) % 2 ^ 48) := by
  unfold State.rxFrame
  extract_lets bits n len fcs good u1 fc j tagged u2 u3 u4 rows u5 ref u6 expected u7 u8 u9 u10 u11
  obtain ⟨v, h1, hv⟩ := s.validateFc_deframes p (fieldAt x.bits 64 48) x.good
  have h2 : Deframes p (s.withFc p v) u2 := Deframes.tag h1 _ _ _ _ _
  have h3 : Deframes p (s.withFc p v) u3 := h2.condOf _ fun w hw => hw.onFlight _ _
  have h4 : Deframes p (s.withFc p v) u4 := h3.condOf _ fun w hw => hw.rxSuperframe _
  have h5 : Deframes p (s.withFc p v) u5 := h4.countJust _
  have h6 : Deframes p (s.withFc p v) u6 := by
    show Deframes p (s.withFc p v) (match ref with | some q => _ | none => u5)
    cases ref with
    | none => exact h5
    | some q => exact h5.onLine p _ _
  have h7 : Deframes p (s.withFc p v) u7 := h6.forEach _ _ fun lch w hw => hw.lineFrame p _ _ _ _ _ _
  have h8 : Deframes p (s.withFc p v) u8 := h7.raiseIf _ (by cases p <;> decide)
  have h9 : Deframes p (s.withFc p v) u9 := h8.forEach _ _ fun ch w hw => hw.concatArrive p _ _ ch
  have h10 : Deframes p (s.withFc p v) u10 := h9.raiseIf _ (by cases p <;> decide)
  have h11 : Deframes p (if miss || !x.good then u10.erroredBlock p else u10) u11 := by
    show Deframes p _ (u10.cond (miss || !x.good) fun s =>
      (s.erroredBlock p).forEach (s.erroredChans p x n fcs) fun ch s => s.chanErrored p ch)
    rw [State.cond]
    split
    · exact (Deframes.refl p _).forEach _ _ fun ch w hw => hw.chanErrored ch
    · exact Deframes.refl p _
  exact ⟨v, u10, h10, Deframes.ite (h11.rxFields _ _) (h11.rxWordsLost j), hv⟩

end Sys2Proof.Machine
end


section
/-! The deframer's alignment and its timers (O40; R88, R167, R176, R177, R179). -/

namespace Sys2Proof.Machine

open F

theorem State.takeStream_line (s : State) (p : Port) (n : Nat) :
    ((s.takeStream p n).fec.get p).line = (s.fec.get p).line.drop n := by
  rw [State.takeStream, State.onFec, Pair.get_upd_same]

theorem State.RegionKeeps.takeStream {l : List Field} {n : List Nat} {s t : State} (h : RegionKeeps l n s t) (p : Port) (k : Nat) :
    RegionKeeps l n s (t.takeStream p k) := h.onFec p _

/-! ### Into ACQUIRED (R88) -/

/-- Where the acquisition waits for a frame, its next state is no loss of the line: only what settles changes beside. -/
theorem State.acquired_of_frameWait {s : State} {p : Port} (h : s.acqSt p = acqFrameWait) :
    ∃ v t, (((s.wr (RXFE.ACQ_STATUS_ACQ_TIME p) v).wr (RXFE.ACQ_STATUS_ACQ_STATE p) acqAcquired).Settles t) ∧
      s.acquired p = t.raise (Ev.RXFE.acquired p) := by
  refine ⟨min 65535 ((s.rx.get p).acqUs / 10), _, State.acqMove_settles ?_ _, if_pos h⟩
  rw [State.acqSt, State.rd_wr_ne _ _ (by cases p <;> decide)]
  exact fun hst => absurd (h.symm.trans hst) (by decide)

theorem State.acquired_keeps (s : State) (p : Port) :
    RegionKeeps [RXFE.ACQ_STATUS_ACQ_TIME p, RXFE.ACQ_STATUS_ACQ_STATE p] [(Ev.RXFE.acquired p).place] s (s.acquired p) := by
  by_cases h : s.acqSt p = acqFrameWait
  · obtain ⟨v, t, ht, heq⟩ := State.acquired_of_frameWait h
    rw [heq]
    exact ((((RegionKeeps.refl _ _ s).wr (by simp) v).wr (by simp) acqAcquired).settles ht).raise (by simp)
  · rw [State.acquired, if_neg h]
    exact RegionKeeps.refl _ _ s

theorem State.acquired_fec_frame (s : State) (p : Port) : (s.acquired p).fec = s.fec ∧ (s.acquired p).frame = s.frame := by
  by_cases h : s.acqSt p = acqFrameWait
  · obtain ⟨v, t, ht, heq⟩ := State.acquired_of_frameWait h
    rw [heq, State.raise_fec, State.raise_frame]
    exact ⟨ht.keeps State.fec fun _ _ _ _ _ _ _ => rfl, ht.keeps State.frame fun _ _ _ _ _ _ _ => rfl⟩
  · rw [State.acquired, if_neg h]
    exact ⟨rfl, rfl⟩

theorem State.acquired_spec {s : State} {p : Port} (hclk : s.Clocked) (h : s.acqSt p = acqFrameWait) :
    (s.acquired p).acqSt p = acqAcquired ∧ Counted (Ev.RXFE.acquired p) s (s.acquired p) := by
  obtain ⟨v, t, ht, heq⟩ := State.acquired_of_frameWait h
  have hkeeps : RegionKeeps [RXFE.ACQ_STATUS_ACQ_TIME p, RXFE.ACQ_STATUS_ACQ_STATE p] [] s t :=
    (((RegionKeeps.refl _ _ s).wr (by simp) v).wr (by simp) acqAcquired).settles ht
  rw [heq]
  refine ⟨?_, hkeeps.counted_raise (by cases p <;> decide) hclk (by cases p <;> decide) (by simp)⟩
  rw [State.acqSt, State.raise_rd _ _ _ (by cases p <;> decide), ht.rd _ (by cases p <;> decide)]
  exact State.acqSt_wr _ p (by decide)

/-! ### In-frame and OOF (R176, R177) -/

/-- The alignment fields of a port's deframer. -/
def State.aligned (s : State) (p : Port) (sync oof up : Nat) : State :=
  (((s.wr (HB_FRAME.FRM_STATUS_SYNC p) sync).wr (HB_FRAME.FRM_STATUS_OOF p) oof).wr (HB_FRAME.FRM_STATUS_MISSES p) 0).wr
    (HB_FRAME.DVR_STATUS_UP p) up

theorem State.aligned_keeps (s : State) (p : Port) (sync oof up : Nat) : RegionKeeps (oofFields p) [] s (s.aligned p sync oof up) :=
  ((((RegionKeeps.refl _ _ s).wr (by simp [oofFields]) sync).wr (by simp [oofFields]) oof).wr (by simp [oofFields]) 0).wr
    (by simp [oofFields]) up

theorem State.aligned_rd (s : State) (p : Port) (sync oof up : Nat) :
    (s.aligned p sync oof up).rd (HB_FRAME.FRM_STATUS_SYNC p) = sync % 2 ∧
      (s.aligned p sync oof up).rd (HB_FRAME.FRM_STATUS_OOF p) = oof % 2 ∧
      (s.aligned p sync oof up).rd (HB_FRAME.FRM_STATUS_MISSES p) = 0 ∧
      (s.aligned p sync oof up).rd (HB_FRAME.DVR_STATUS_UP p) = up % 2 := by
  unfold State.aligned
  refine ⟨?_, ?_, ?_, State.rd_wr_same _ _ up⟩
  · rw [State.rd_wr_ne _ _ (by cases p <;> decide), State.rd_wr_ne _ _ (by cases p <;> decide),
      State.rd_wr_ne _ _ (by cases p <;> decide), State.rd_wr_same]
    rfl
  · rw [State.rd_wr_ne _ _ (by cases p <;> decide), State.rd_wr_ne _ _ (by cases p <;> decide), State.rd_wr_same]
    rfl
  · rw [State.rd_wr_ne _ _ (by cases p <;> decide), State.rd_wr_same]
    rfl

/-- A frame is confirmed: before the acquisition hears of it. -/
def State.framed (s : State) (p : Port) : State :=
  ((s.onFrame p fun f => { f with cands := [], loadFc := true, fcOther := none, posRx := s.tagPositions p, annCount := 0, bankRun := 0,
                                  itagHi := none, protHi := none, keyHi := none, lenRx := (s.rxMode p).frameLen }).aligned p 1 0 1).raise
    (Ev.HB_FRAME.inFrame p)

theorem State.declareInFrame_eq (s : State) (p : Port) : s.declareInFrame p = (s.framed p).acquired p := rfl

theorem State.framed_keeps (s : State) (p : Port) : RegionKeeps (oofFields p) [(Ev.HB_FRAME.inFrame p).place] s (s.framed p) :=
  ((((RegionKeeps.refl _ _ s).onFrame p _).trans (State.aligned_keeps _ p 1 0 1)).mono (List.Subset.refl _)
    (List.nil_subset _)).raise (by simp)

/-- In-frame is declared (R176); where the acquisition waited for it, it is acquired (R88). -/
theorem State.declareInFrame_spec {s : State} {p : Port} (hclk : s.Clocked) :
    let t := s.declareInFrame p
    t.on (HB_FRAME.FRM_STATUS_SYNC p) = true ∧ t.on (HB_FRAME.FRM_STATUS_OOF p) = false ∧ t.on (HB_FRAME.DVR_STATUS_UP p) = true ∧
      t.rd (HB_FRAME.FRM_STATUS_MISSES p) = 0 ∧ t.fec = s.fec ∧ (t.frame.get p).loadFc = true ∧
      (s.acqSt p = acqFrameWait → t.acqSt p = acqAcquired ∧ Counted (Ev.RXFE.acquired p) s t) ∧
      Counted (Ev.HB_FRAME.inFrame p) s t := by
  intro t
  have ht : t = (s.framed p).acquired p := s.declareInFrame_eq p
  have hframed := s.framed_keeps p
  have hacq := (s.framed p).acquired_keeps p
  obtain ⟨hfec, hframe⟩ := (s.framed p).acquired_fec_frame p
  have hrd : ∀ f : Field, f.unsettled = true → (∀ g ∈ [RXFE.ACQ_STATUS_ACQ_TIME p, RXFE.ACQ_STATUS_ACQ_STATE p], f.key ≠ g.key) →
      t.rd f = _ := fun f hf hl => (hacq.rd f hf hl).trans (State.raise_rd _ _ f (Field.unsettled_quiet hf))
  obtain ⟨hsync, hoof, hmisses, hup⟩ := State.aligned_rd (s.onFrame p _) p 1 0 1
  rw [← ht] at hacq hfec hframe
  refine ⟨?_, ?_, ?_, (hrd _ (by cases p <;> decide) (by cases p <;> decide)).trans hmisses, ?_, ?_, fun hst => ?_, ?_⟩
  · rw [State.on, hrd _ (by cases p <;> decide) (by cases p <;> decide), hsync]
    rfl
  · rw [State.on, hrd _ (by cases p <;> decide) (by cases p <;> decide), hoof]
    rfl
  · rw [State.on, hrd _ (by cases p <;> decide) (by cases p <;> decide), hup]
    rfl
  · rw [hfec, State.framed, State.raise_fec]
    rfl
  · rw [hframe, State.framed, State.raise_frame]
    cases p <;> rfl
  · obtain ⟨hnew, hcount⟩ := State.acquired_spec (p := p) (hframed.clocked (by cases p <;> decide) hclk)
      ((hframed.acqSt (by cases p <;> decide)).trans hst)
    exact ⟨hnew, hframed.counted_before hcount (by cases p <;> decide) (by cases p <;> decide)⟩
  · have hcount : Counted (Ev.HB_FRAME.inFrame p) s (s.framed p) :=
      ((RegionKeeps.refl (oofFields p) [] s).onFrame p _).trans (State.aligned_keeps _ p 1 0 1) |>.counted_raise
        (by cases p <;> decide) hclk (by cases p <;> decide) (by simp)
    exact hacq.counted hcount (by cases p <;> decide) (by cases p <;> decide)

/-- OOF is declared (R176, R177). -/
theorem State.declareOof_spec {s : State} {p : Port} (hclk : s.Clocked) :
    let t := s.declareOof p
    t.on (HB_FRAME.FRM_STATUS_SYNC p) = false ∧ t.on (HB_FRAME.FRM_STATUS_OOF p) = true ∧ t.on (HB_FRAME.DVR_STATUS_UP p) = false ∧
      t.fec = s.fec ∧ Counted (Ev.HB_FRAME.oof p) s t ∧
      t.counter (Ev.HB_FRAME.fawMiss p).page (Ev.HB_FRAME.fawMiss p).off =
        s.counter (Ev.HB_FRAME.fawMiss p).page (Ev.HB_FRAME.fawMiss p).off := by
  intro t
  have hend : RegionKeeps [] [Ev.HB_PROT.originLost.place] (s.aligned p 0 1 0)
      (((((s.aligned p 0 1 0).onFrame p fun f => { f with huntPos := 0, cands := [] }).dropRingEntries p).originsLost p).endEyespot
        (4 + p.toNat)) :=
    ((((RegionKeeps.refl _ _ _).onFrame p _).same (u := State.dropRingEntries _ p) rfl rfl rfl rfl).originsLost (by simp)
      p).endEyespot _
  have ht : t = State.raise _ (Ev.HB_FRAME.oof p) := rfl
  have hall := (RegionKeeps.refl (oofFields p) (boundaryPlaces p) s).declareOof (List.Subset.refl _) (List.Subset.refl _)
  have hrd : ∀ f : Field, f.unsettled = true → t.rd f = (s.aligned p 0 1 0).rd f := fun f hf =>
    (State.raise_rd _ _ f (Field.unsettled_quiet hf)).trans (hend.rd f hf (by simp))
  obtain ⟨hsync, hoof, -, hup⟩ := s.aligned_rd p 0 1 0
  refine ⟨?_, ?_, ?_, ?_, ?_, hall.counter _ _ (by cases p <;> decide) (by cases p <;> decide)⟩
  · rw [State.on, hrd _ (by cases p <;> decide), hsync]
    rfl
  · rw [State.on, hrd _ (by cases p <;> decide), hoof]
    rfl
  · rw [State.on, hrd _ (by cases p <;> decide), hup]
    rfl
  · exact ((State.BoundaryFrame.refl s).declareOof p).keeps State.fec fun _ _ _ _ _ _ _ _ _ => rfl
  · exact (((s.aligned_keeps p 0 1 0).mono (List.Subset.refl _) (List.nil_subset _)).trans
      (hend.mono (List.nil_subset _) (List.Subset.refl _))).counted_raise (by cases p <;> decide) hclk (by cases p <;> decide)
      (by cases p <;> decide)

end Sys2Proof.Machine
end


section
/-! Frames in SYNC, the microseconds of OOF and the loss-of-frame timers (O40; R88, R167, R176, R177, R179). -/

namespace Sys2Proof.Machine

open F

/-! ### Errored blocks (R179) -/

theorem State.erroredBlock_keepsFields (s : State) (p : Port) : KeepsFieldsBut [] s (s.erroredBlock p) := by
  have hraise := (KeepsFieldsBut.refl [] s).raise (Ev.HB_FRAME.erroredBlock p)
  unfold State.erroredBlock
  generalize s.raise (Ev.HB_FRAME.erroredBlock p) = u at hraise
  have hrei : KeepsFieldsBut [] s (u.onFrame p fun f => { f with reiCount := f.reiCount + 1 }) := hraise.same rfl rfl
  exact hrei.cond fun _ => hrei.same rfl rfl

/-- Beside the performance monitoring, an errored block is its event and one more for the far end. -/
theorem State.erroredBlock_rest (s : State) (p : Port) :
    (s.erroredBlock p).cnt = (s.raise (Ev.HB_FRAME.erroredBlock p)).cnt ∧ (s.erroredBlock p).fec = s.fec ∧
      (s.erroredBlock p).frame = s.frame.upd p fun f => { f with reiCount := f.reiCount + 1 } := by
  have hfec := s.raise_fec (Ev.HB_FRAME.erroredBlock p)
  have hframe := s.raise_frame (Ev.HB_FRAME.erroredBlock p)
  unfold State.erroredBlock State.cond
  dsimp only
  generalize s.raise (Ev.HB_FRAME.erroredBlock p) = u at *
  rw [← hframe, ← hfec]
  split
  · exact ⟨rfl, rfl, rfl⟩
  · exact ⟨rfl, rfl, rfl⟩

theorem State.erroredBlock_counted {s : State} {p : Port} (hclk : s.Clocked) :
    Counted (Ev.HB_FRAME.erroredBlock p) s (s.erroredBlock p) := by
  obtain ⟨hcnt, -, -⟩ := s.erroredBlock_rest p
  rw [Counted, State.counter, hcnt]
  exact State.raise_counted hclk (by cases p <;> decide)

theorem State.erroredBlock_fawMiss (s : State) (p : Port) :
    (s.erroredBlock p).counter (Ev.HB_FRAME.fawMiss p).page (Ev.HB_FRAME.fawMiss p).off =
      s.counter (Ev.HB_FRAME.fawMiss p).page (Ev.HB_FRAME.fawMiss p).off := by
  obtain ⟨hcnt, -, -⟩ := s.erroredBlock_rest p
  rw [State.counter, hcnt]
  exact State.raise_counter_ne _ _ _ _ (by cases p <;> decide) (by cases p <;> decide)

theorem State.erroredBlock_reiCount (s : State) (p : Port) :
    ((s.erroredBlock p).frame.get p).reiCount = (s.frame.get p).reiCount + 1 := by
  obtain ⟨-, -, hframe⟩ := s.erroredBlock_rest p
  rw [hframe, Pair.get_upd_same]

theorem State.erroredBlock_pm {s : State} {p : Port} (h : s.on (HB_FRAME.PM_CFG_PM_EN p) = true) :
    ((s.erroredBlock p).pmOf p.toNat).eb = (s.pmOf p.toNat).eb + 1 := by
  have hon : (s.raise (Ev.HB_FRAME.erroredBlock p)).on (HB_FRAME.PM_CFG_PM_EN p) = true := by
    rw [State.on, State.raise_rd _ _ _ (by cases p <;> decide)]
    exact h
  have hpm := s.raise_pm (Ev.HB_FRAME.erroredBlock p)
  unfold State.erroredBlock
  generalize s.raise (Ev.HB_FRAME.erroredBlock p) = u at *
  have hon' : (u.onFrame p fun f => { f with reiCount := f.reiCount + 1 }).on (HB_FRAME.PM_CFG_PM_EN p) = true := hon
  dsimp only
  rw [hon', State.cond, if_pos rfl, State.pmOf, State.onPm, Tab.get_upd_same, State.pmOf, ← hpm]
  rfl

/-! ### A frame in SYNC (R167, R176) -/

/-- A frame is taken off the stream at its place: its missed word counts, and the misses in a row are known (R176). -/
def State.frameTaken (s : State) (p : Port) (miss : Bool) : State :=
  let t := s.raiseIf miss (Ev.HB_FRAME.fawMiss p)
  (t.wr (HB_FRAME.FRM_STATUS_MISSES p) (if miss then t.rd (HB_FRAME.FRM_STATUS_MISSES p) + 1 else 0)).takeStream p
    (s.rxMode p).frameLen

theorem State.relength_of_eq {s : State} {p : Port} (h : (s.frame.get p).lenRx = (s.rxMode p).frameLen) : s.relength p = s := by
  rw [State.relength, if_pos h]

/-- A frame that is not the fourth miss is received. -/
theorem completes_receivedFrame_in {p : Port} {x : RxFrame} {s : State} {P : State → Prop} (hclk : s.Clocked) (hdue : FrameDue s p)
    (hstay : FawMissed s p x → s.rd (HB_FRAME.FRM_STATUS_MISSES p) ≠ 3)
    (hP : P ((s.frameTaken p (decide (FawMissed s p x))).rxFrame p (nextFrameIn s p x) (decide (FawMissed s p x)))) :
    Completes (.receivedFrame p x) s P := by
  obtain ⟨hlock, hsync, hlen, hline⟩ := hdue
  refine ⟨_, ?_, hP⟩
  rw [exec, execReceivedFrame, State.clocked_run hclk, if_neg (by rw [hlock]; decide), if_neg (by rw [hsync]; decide)]
  rw [State.relength_of_eq hlen]
  dsimp only
  rw [if_neg (by omega), if_neg fun h => hstay (of_decide_eq_true h.1)
    ((State.raiseIf_rd s _ _ (HB_FRAME.FRM_STATUS_MISSES p) (by cases p <;> decide)).symm.trans h.2)]
  rfl

/-- The fourth miss leaves SYNC. -/
theorem completes_receivedFrame_out {p : Port} {x : RxFrame} {s : State} {P : State → Prop} (hclk : s.Clocked) (hdue : FrameDue s p)
    (hmisses : s.rd (HB_FRAME.FRM_STATUS_MISSES p) = 3) (hmiss : FawMissed s p x)
    (hP : P (((s.raise (Ev.HB_FRAME.fawMiss p)).declareOof p).takeStream p 64)) : Completes (.receivedFrame p x) s P := by
  obtain ⟨hlock, hsync, hlen, hline⟩ := hdue
  refine ⟨_, ?_, hP⟩
  rw [exec, execReceivedFrame, State.clocked_run hclk, if_neg (by rw [hlock]; decide), if_neg (by rw [hsync]; decide)]
  rw [State.relength_of_eq hlen]
  dsimp only
  rw [if_neg (by omega), if_pos ⟨decide_eq_true hmiss,
    (State.raiseIf_rd s _ _ (HB_FRAME.FRM_STATUS_MISSES p) (by cases p <;> decide)).trans hmisses⟩, decide_eq_true hmiss]
  rfl

theorem State.frameTaken_keeps (s : State) (p : Port) (miss : Bool) :
    RegionKeeps [HB_FRAME.FRM_STATUS_MISSES p] [(Ev.HB_FRAME.fawMiss p).place] s (s.frameTaken p miss) :=
  ((((RegionKeeps.refl _ _ s).raiseIf miss (by simp)).wr (by simp) _).takeStream p _)

theorem State.frameTaken_spec {s : State} {p : Port} (hclk : s.Clocked) (miss : Bool) :
    (s.frameTaken p miss).frame = s.frame ∧
      ((s.frameTaken p miss).fec.get p).line = (s.fec.get p).line.drop (s.rxMode p).frameLen ∧
      (s.frameTaken p miss).rd (HB_FRAME.FRM_STATUS_MISSES p) =
        (if miss then s.rd (HB_FRAME.FRM_STATUS_MISSES p) + 1 else 0) % 4 ∧
      (miss = true → Counted (Ev.HB_FRAME.fawMiss p) s (s.frameTaken p miss)) := by
  have hcount : miss = true → Counted (Ev.HB_FRAME.fawMiss p) s (s.raiseIf miss (Ev.HB_FRAME.fawMiss p)) := by
    rintro rfl
    exact State.raise_counted hclk (by cases p <;> decide)
  have hframe : (s.raiseIf miss (Ev.HB_FRAME.fawMiss p)).frame = s.frame := by cases miss <;> simp [State.raiseIf]
  have hfec : (s.raiseIf miss (Ev.HB_FRAME.fawMiss p)).fec = s.fec := by cases miss <;> simp [State.raiseIf]
  have hrd := State.raiseIf_rd s miss (Ev.HB_FRAME.fawMiss p) (HB_FRAME.FRM_STATUS_MISSES p) (by cases p <;> decide)
  unfold State.frameTaken
  generalize s.raiseIf miss (Ev.HB_FRAME.fawMiss p) = u at *
  refine ⟨hframe, (State.takeStream_line _ p _).trans ?_, (State.rd_wr_same u _ _).trans ?_, hcount⟩
  · show ((u.fec.get p).line).drop _ = _
    rw [hfec]
  · rw [hrd]
    rfl

theorem nextFrameIn_good (s : State) (p : Port) (x : RxFrame) : (nextFrameIn s p x).good = true ↔ FrameGood s p x := by
  rw [FrameIn.good, Bool.and_eq_true, decide_eq_true_eq, List.isEmpty_iff]
  exact and_comm

/-- A good frame at its place: its counter is the next (R173), and no errored block (R179). -/
theorem State.goodFrame_spec {s : State} {p : Port} {x : RxFrame} (hclk : s.Clocked) (hload : (s.frame.get p).loadFc = false)
    (hgood : FrameGood s p x) (hfc : fieldAt (nextFrameIn s p x).bits 64 48 = ((s.frame.get p).fcRx + 1) % 2 ^ 48) :
    let t := (s.frameTaken p false).rxFrame p (nextFrameIn s p x) false
    (t.frame.get p).fcRx = ((s.frame.get p).fcRx + 1) % 2 ^ 48 ∧
      (t.fec.get p).line = (s.fec.get p).line.drop (s.rxMode p).frameLen ∧ t.rd (HB_FRAME.FRM_STATUS_MISSES p) = 0 ∧
      t.rd (HB_FRAME.FRM_STATUS_SYNC p) = s.rd (HB_FRAME.FRM_STATUS_SYNC p) ∧
      t.counter (Ev.HB_FRAME.erroredBlock p).page (Ev.HB_FRAME.erroredBlock p).off =
        s.counter (Ev.HB_FRAME.erroredBlock p).page (Ev.HB_FRAME.erroredBlock p).off := by
  intro t
  have hgood' := (nextFrameIn_good s p x).2 hgood
  obtain ⟨hframe, hline, hmisses, -⟩ := State.frameTaken_spec (p := p) hclk false
  have htaken := s.frameTaken_keeps p false
  obtain ⟨v, u, hu, ht, hv⟩ := (s.frameTaken p false).rxFrame_spec p (nextFrameIn s p x) false
  rw [hgood'] at ht hv
  rw [hframe] at hv
  have hall : Deframes p ((s.frameTaken p false).withFc p v) t := hu.trans ht
  refine ⟨?_, ?_, ?_, ?_, ?_⟩
  · rw [hall.frame.1, ← hv hload rfl hfc, State.withFc, State.onFrame, Pair.get_upd_same]
  · rw [hall.fec]
    exact hline
  · exact (hall.rd _ (by simp [deframeFields])).trans hmisses
  · exact (hall.rd _ (by simp [deframeFields])).trans (htaken.rd _ (by cases p <;> decide) (by cases p <;> decide))
  · exact (hall.counter _ _ (by cases p <;> decide)).trans (htaken.counter _ _ (by cases p <;> decide) (by cases p <;> decide))

/-- A frame that misses its word or is not good, but does not leave SYNC, is an errored block (R179). -/
theorem State.badFrame_spec {s : State} {p : Port} {x : RxFrame} (hclk : s.Clocked) (miss : Bool)
    (hbad : (miss || !(nextFrameIn s p x).good) = true) :
    let t := (s.frameTaken p miss).rxFrame p (nextFrameIn s p x) miss
    Counted (Ev.HB_FRAME.erroredBlock p) s t ∧ t.rd (HB_FRAME.FRM_STATUS_SYNC p) = s.rd (HB_FRAME.FRM_STATUS_SYNC p) ∧
      (t.frame.get p).reiCount = (s.frame.get p).reiCount + 1 ∧
      (miss = true → Counted (Ev.HB_FRAME.fawMiss p) s t ∧
        t.rd (HB_FRAME.FRM_STATUS_MISSES p) = (s.rd (HB_FRAME.FRM_STATUS_MISSES p) + 1) % 4) := by
  intro t
  obtain ⟨hframe, -, hmisses, hcount⟩ := State.frameTaken_spec (p := p) hclk miss
  have htaken := s.frameTaken_keeps p miss
  obtain ⟨v, u, hu, ht, -⟩ := (s.frameTaken p miss).rxFrame_spec p (nextFrameIn s p x) miss
  rw [hbad, if_pos rfl] at ht
  have hfields : ∀ f ∈ deframeFields p, t.rd f = (s.frameTaken p miss).rd f := fun f hf =>
    ((ht.rd f hf).trans ((u.erroredBlock_keepsFields p f (by cases p <;> (revert f; decide)) (by simp)).1)).trans (hu.rd f hf)
  have hclk' : u.Clocked :=
    (State.rclkStopped_of_rd (hu.rd _ (by simp [deframeFields]))).trans (htaken.clocked (by cases p <;> decide) hclk)
  refine ⟨?_, ?_, ?_, fun hm => ⟨?_, ?_⟩⟩
  · rw [Counted, ht.counter _ _ (by cases p <;> decide), State.erroredBlock_counted hclk', hu.counter _ _ (by cases p <;> decide)]
    exact congrArg (fun n => (n + 1) % 2 ^ 64) (htaken.counter _ _ (by cases p <;> decide) (by cases p <;> decide))
  · exact (hfields _ (by simp [deframeFields])).trans (htaken.rd _ (by cases p <;> decide) (by cases p <;> decide))
  · rw [ht.frame.2, State.erroredBlock_reiCount, hu.frame.2, State.withFc, State.onFrame, Pair.get_upd_same, hframe]
  · rw [Counted, ht.counter _ _ (by cases p <;> decide), State.erroredBlock_fawMiss, hu.counter _ _ (by cases p <;> decide)]
    exact hcount hm
  · rw [hfields _ (by simp [deframeFields]), hmisses, hm, if_pos rfl]

/-! ### Loss of frame (R88, R177) -/

/-- LOF is declared and the acquisition begins again (R88, R177). -/
theorem State.lofDeclared_spec {s : State} {p : Port} (hclk : s.Clocked) (hst : s.acqSt p = acqAcquired) :
    let t := (((s.wr (HB_FRAME.FRM_STATUS_LOF p) 1).raise (Ev.HB_FRAME.lofDeclared p)).onPm p.toNat fun e =>
      { e with defect := true }).acqFrameLoss p
    t.on (HB_FRAME.FRM_STATUS_LOF p) = true ∧ t.acqSt p = acqCdScan ∧ Counted (Ev.HB_FRAME.lofDeclared p) s t ∧
      Counted (Ev.RXFE.acqLost p) s t ∧ (t.pmOf p.toNat).defect = true := by
  have hset : RegionKeeps [HB_FRAME.FRM_STATUS_LOF p] [] s (s.wr (HB_FRAME.FRM_STATUS_LOF p) 1) := (RegionKeeps.refl _ _ s).wr (by simp) 1
  have hlof := hset.counted_raise (e := Ev.HB_FRAME.lofDeclared p) (by cases p <;> decide) hclk (by cases p <;> decide) (by simp)
  have hraise := (hset.mono (List.Subset.refl _) (List.nil_subset _)).raise (n := [(Ev.HB_FRAME.lofDeclared p).place])
    (e := Ev.HB_FRAME.lofDeclared p) (by simp)
  have hon : ((s.wr (HB_FRAME.FRM_STATUS_LOF p) 1).raise (Ev.HB_FRAME.lofDeclared p)).rd (HB_FRAME.FRM_STATUS_LOF p) = 1 :=
    (State.raise_rd _ _ _ (by cases p <;> decide)).trans (State.rd_wr_same _ _ 1)
  generalize (s.wr (HB_FRAME.FRM_STATUS_LOF p) 1).raise (Ev.HB_FRAME.lofDeclared p) = u at *
  have hst' : (u.onPm p.toNat fun e => { e with defect := true }).acqSt p = acqAcquired :=
    (hraise.acqSt (by cases p <;> decide)).trans hst
  intro t
  have hlost : (u.onPm p.toNat fun e => { e with defect := true }).acqLost p =
      (u.onPm p.toNat fun e => { e with defect := true }).raise (Ev.RXFE.acqLost p) := if_pos hst'
  have ht : t = ((u.onPm p.toNat fun e => { e with defect := true }).raise (Ev.RXFE.acqLost p)).toCdScan p := by
    rw [← hlost]
    exact if_pos hst'
  have hdefect : (((u.onPm p.toNat fun e => { e with defect := true }).raise (Ev.RXFE.acqLost p)).pmOf p.toNat).defect = true := by
    rw [State.pmOf, State.raise_pm, State.onPm, Tab.get_upd_same]
  have hclk' : (u.onPm p.toNat fun e => { e with defect := true }).Clocked := hraise.clocked (by cases p <;> decide) hclk
  have hcount : Counted (Ev.RXFE.acqLost p) u ((u.onPm p.toNat fun e => { e with defect := true }).raise (Ev.RXFE.acqLost p)) :=
    State.raise_counted hclk' (by cases p <;> decide)
  have hkeeps : RegionKeeps [] [(Ev.RXFE.acqLost p).place] (u.onPm p.toNat fun e => { e with defect := true })
      ((u.onPm p.toNat fun e => { e with defect := true }).raise (Ev.RXFE.acqLost p)) := (RegionKeeps.refl _ _ _).raise (by simp)
  have hscan := State.toCdScan_keeps ((u.onPm p.toNat fun e => { e with defect := true }).raise (Ev.RXFE.acqLost p)) p
  rw [← ht] at hscan
  refine ⟨?_, ?_, ?_, ?_, ?_⟩
  · rw [State.on, hscan.rd _ (by cases p <;> decide) (by cases p <;> decide), hkeeps.rd _ (by cases p <;> decide) (by simp)]
    exact decide_eq_true hon
  · rw [ht]
    exact State.toCdScan_acqSt _ p
  · rw [Counted, hscan.counter _ _ (by cases p <;> decide) (by cases p <;> decide),
      hkeeps.counter _ _ (by cases p <;> decide) (by cases p <;> decide)]
    exact hlof
  · exact hscan.counted (hraise.counted_before hcount (by cases p <;> decide) (by cases p <;> decide)) (by cases p <;> decide)
      (by cases p <;> decide)
  · rw [hscan.frame]
    exact hdefect

/-- LOF clears; the line report settles (R177, R251). -/
theorem State.lofCleared_spec {s : State} {p : Port} (hclk : s.Clocked) :
    let t := ((s.wr (HB_FRAME.FRM_STATUS_LOF p) 0).raise (Ev.HB_FRAME.lofCleared p)).settleReport p
    t.on (HB_FRAME.FRM_STATUS_LOF p) = false ∧ Counted (Ev.HB_FRAME.lofCleared p) s t ∧
      t.on (HB_FRAME.FRM_STATUS_SYNC p) = s.on (HB_FRAME.FRM_STATUS_SYNC p) := by
  intro t
  have hset : RegionKeeps [HB_FRAME.FRM_STATUS_LOF p] [] s (s.wr (HB_FRAME.FRM_STATUS_LOF p) 0) := (RegionKeeps.refl _ _ s).wr (by simp) 0
  have hsettle := (Settles.refl ((s.wr (HB_FRAME.FRM_STATUS_LOF p) 0).raise (Ev.HB_FRAME.lofCleared p))).settleReport p
  have hrd : ∀ f : Field, f.unsettled = true → t.rd f = (s.wr (HB_FRAME.FRM_STATUS_LOF p) 0).rd f := fun f hf =>
    (hsettle.rd f hf).trans (State.raise_rd _ _ f (Field.unsettled_quiet hf))
  refine ⟨?_, ?_, ?_⟩
  · rw [State.on, hrd _ (by cases p <;> decide), State.rd_wr_same]
    rfl
  · exact (hsettle.counter _ _ (by cases p <;> decide)).trans
      (hset.counted_raise (by cases p <;> decide) hclk (by cases p <;> decide) (by simp))
  · rw [State.on, hrd _ (by cases p <;> decide), State.rd_wr_ne _ _ (by cases p <;> decide), State.on]

/-! ### The deframer (R88, R167, R176, R177, R179) -/

/-- The deframer hunts while it has a boundary and no alignment (R176). -/
theorem completes_receivedFrame_hunt {p : Port} {x : RxFrame} {s : State} {P : State → Prop} (hclk : s.Clocked)
    (hlock : s.on (FEC.SF_STATUS_SF_LOCK p) = true) (hsync : s.on (HB_FRAME.FRM_STATUS_SYNC p) = false) (hP : P (s.hunt p x.stretch)) :
    Completes (.receivedFrame p x) s P := by
  refine ⟨_, ?_, hP⟩
  rw [exec, execReceivedFrame, State.clocked_run hclk, if_neg (by rw [hlock]; decide), if_pos (by rw [hsync]; decide)]

/-- Settles O40: a frame is the hunt's, a good one, an errored block or the fourth miss, each by what it leaves. -/
theorem framesReceived : Obligations.FramesReceived := by
  unfold Obligations.FramesReceived
  refine ⟨?unlocked, ?confirmed, ?hunting, ?short, ?good, ?bad, ?fourth, ?microsecond, ?aligned, ?lof, ?noLof, ?clear, ?noClear⟩
  case unlocked =>
    intro p x s hclk hlock
    exact ⟨s, by rw [exec, execReceivedFrame, State.clocked_run hclk, if_pos (by rw [hlock]; decide)], rfl⟩
  case confirmed =>
    intro p x k s hclk hlock hsync hfound
    refine completes_receivedFrame_hunt hclk hlock hsync ?_
    have hhunt : s.hunt p x.stretch = (s.takeStream p k).declareInFrame p := by
      unfold State.hunt
      dsimp only
      rw [hfound]
    rw [hhunt]
    obtain ⟨hin, hoof, hup, hmisses, hfec, hload, hacq, hcount⟩ := State.declareInFrame_spec (s := s.takeStream p k) (p := p) hclk
    exact ⟨hin, hoof, hup, hmisses, by rw [hfec, State.takeStream_line], hload, hacq, hcount⟩
  case hunting =>
    intro p x c s hclk hlock hsync hnone
    refine completes_receivedFrame_hunt hclk hlock hsync ?_
    unfold State.hunt
    dsimp only
    rw [hnone]
    refine ⟨?_, State.takeStream_line s p _, (KeepsFieldsBut.refl [] s).same rfl rfl⟩
    rw [State.onFrame, Pair.get_upd_same]
  case short =>
    intro p x s hclk hlock hsync hlen hshort
    refine ⟨s, ?_, rfl⟩
    rw [exec, execReceivedFrame, State.clocked_run hclk, if_neg (by rw [hlock]; decide), if_neg (by rw [hsync]; decide),
      State.relength_of_eq hlen]
    dsimp only
    rw [if_pos hshort]
  case good =>
    intro p x s hclk hdue hload hmiss hgood hfc
    refine completes_receivedFrame_in hclk hdue (fun h => absurd h hmiss) ?_
    rw [decide_eq_false hmiss]
    obtain ⟨hnext, hline, hmisses, hsync, heb⟩ := State.goodFrame_spec hclk hload hgood hfc
    obtain ⟨-, hsync', -, -⟩ := hdue
    exact ⟨hnext, hline, hmisses, by rw [State.on, hsync]; exact hsync', heb⟩
  case bad =>
    intro p x s hclk hdue hmisses hbad
    refine completes_receivedFrame_in hclk hdue (fun _ => by omega) ?_
    have hbad' : (decide (FawMissed s p x) || !(nextFrameIn s p x).good) = true := by
      rw [Bool.or_eq_true, decide_eq_true_eq, Bool.not_eq_true', ← Bool.not_eq_true, nextFrameIn_good]
      exact hbad
    obtain ⟨heb, hsync, hrei, hmiss⟩ := State.badFrame_spec hclk _ hbad'
    obtain ⟨-, hsync', -, -⟩ := hdue
    refine ⟨heb, by rw [State.on, hsync]; exact hsync', hrei, fun h => ?_⟩
    obtain ⟨hcount, hrun⟩ := hmiss (decide_eq_true h)
    exact ⟨hcount, hrun.trans (Nat.mod_eq_of_lt (by omega))⟩
  case fourth =>
    intro p x s hclk hdue hmisses hmiss
    refine completes_receivedFrame_out hclk hdue hmisses hmiss ?_
    have hraise : State.RegionKeeps [] [(Ev.HB_FRAME.fawMiss p).place] s (s.raise (Ev.HB_FRAME.fawMiss p)) :=
      (State.RegionKeeps.refl _ _ s).raise (by simp)
    obtain ⟨hsync, hoof, hup, hfec, hcount, hsame⟩ := State.declareOof_spec (p := p) (hraise.clocked (by simp) hclk)
    have hmissed := hsame.trans (State.raise_counted hclk (by cases p <;> decide))
    have hout := hraise.counted_before hcount (by cases p <;> decide) (by cases p <;> decide)
    rw [State.raise_fec] at hfec
    generalize (s.raise (Ev.HB_FRAME.fawMiss p)).declareOof p = t at *
    refine ⟨hsync, hoof, hup, ?_, hmissed, hout⟩
    rw [State.takeStream_line, hfec]
  case microsecond =>
    intro p s hclk hoof
    refine ⟨s.erroredBlock p, ?_, State.erroredBlock_counted hclk, s.erroredBlock_reiCount p, State.erroredBlock_pm,
      s.erroredBlock_keepsFields p⟩
    rw [exec, execOofMicrosecond, State.clocked_run hclk, if_pos hoof]
  case aligned =>
    intro p s hclk hoof
    exact ⟨s, by rw [exec, execOofMicrosecond, State.clocked_run hclk, if_neg (by rw [hoof]; decide)], rfl⟩
  case lof =>
    intro p s hclk hst hoof hlof
    refine ⟨_, ?_, State.lofDeclared_spec hclk hst⟩
    rw [exec, execLofTimer, State.clocked_run hclk, if_pos ⟨hst, hoof⟩]
    dsimp only
    rw [if_neg (by rw [hlof]; decide)]
  case noLof =>
    intro p s hclk h
    refine ⟨s, ?_, rfl⟩
    rw [exec, execLofTimer, State.clocked_run hclk, if_neg]
    rintro ⟨hst, hoof⟩
    rcases h with h | h
    · exact h hst
    · exact absurd (h.symm.trans hoof) (by decide)
  case clear =>
    intro p s hclk hsync hlof
    obtain ⟨hoff, hcount, hsame⟩ := State.lofCleared_spec (p := p) hclk
    refine ⟨_, ?_, hoff, hcount, hsame.trans hsync⟩
    rw [exec, execLofClearTimer, State.clocked_run hclk, if_pos ⟨hsync, hlof⟩]
  case noClear =>
    intro p s hclk h
    refine ⟨s, ?_, rfl⟩
    rw [exec, execLofClearTimer, State.clocked_run hclk, if_neg]
    rintro ⟨hsync, hlof⟩
    rcases h with h | h
    · exact absurd (h.symm.trans hsync) (by decide)
    · exact absurd (h.symm.trans hlof) (by decide)

end Sys2Proof.Machine
end

section
/-! A codeword released without a corrected bit (O38; R152, R155, R157, R444): the event of its corrected bits, whose quantity is
0, does not occur. -/

namespace Sys2Proof.Machine

open F

/-! ### Events of quantity 0 (R444) -/

/-- Such an event brings INT_N to its level and no more. -/
theorem State.raiseN_zero (s : State) (e : Evt) : s.raiseN e 0 = s.settleInt := by
  rw [State.raiseN, State.raiseRaw, if_pos (.inl rfl)]

theorem State.RegionKeeps.raiseZero {l : List Field} {n : List Nat} {s t : State} (h : RegionKeeps l n s t) (e : Evt) :
    RegionKeeps l n s (t.raiseN e 0) where
  frame := h.frame.trans (State.raiseN_eventFrame t e 0).regionFrame
  rd f hf hl := (State.raiseN_rd t e 0 f (Field.unsettled_quiet hf)).trans (h.rd f hf hl)
  counter q o hq hn := by
    rw [State.raiseN_zero, State.settleInt_counter _ _ _ (unsettledPlace_ne hq (by decide))]
    exact h.counter q o hq hn
  ecl k hk := by rw [State.raiseN_ecl]; exact h.ecl k hk

/-! ### The release of a converged codeword (R143, R152, R157) -/

/-- The counters of a release without a corrected bit: codewords decoded, and matcher blocks without a valid composition. -/
def cleanReleasePlaces (p : Port) : List Nat := [(Ev.FEC.decoded p).place, (Ev.FEC.invalidComposition p).place]

namespace State.RegionKeeps

variable {l : List Field} {n : List Nat} {s t : State} {p : Port}

theorem countCodeword_clean (h : RegionKeeps l n s t) {c : Codeword} (hconv : c.status = .converged) (hclean : c.corrected = 0)
    (hn : (Ev.FEC.decoded p).place ∈ n) : RegionKeeps l n s (t.countCodeword p c) := by
  unfold State.countCodeword
  rw [hconv, hclean]
  exact ((h.onFec p _).raise hn).raiseZero _

theorem measureCodeword (h : RegionKeeps l n s t) (c : Codeword) : RegionKeeps l n s (t.measureCodeword p c) :=
  ite (h.onRx p _) h

theorem gatherWord (h : RegionKeeps l n s t) (hn : (Ev.FEC.invalidComposition p).place ∈ n) (c : Codeword) (bits : List Bool) :
    RegionKeeps l n s (t.gatherWord p c bits) := by
  have hgather := h.onFec p fun f => { f with gather := f.gather ++ [bits] }
  exact ite hgather ((hgather.raiseN hn _).onFec p _)

theorem onFlight (h : RegionKeeps l n s t) (src : Nat) (f : Eyespot → Eyespot) : RegionKeeps l n s (t.onFlight src f) := by
  unfold State.onFlight
  cases t.flightOf src with
  | none => exact h
  | some e => exact h.onTrace _

theorem startWaiting (h : RegionKeeps l n s t) : RegionKeeps l n s (t.startWaiting p) :=
  h.forEach _ _ fun c u hu => by
    cases u.freeDecoder p with
    | none => exact hu
    | some d => exact hu.onFec p _

end State.RegionKeeps

/-- The oldest codeword, converged without a corrected bit in one of the last blocks, is released. -/
theorem completes_codewordRelease_clean {p : Port} {iters : Nat} {c : Codeword} {rest : List Codeword} {s : State} (hclk : s.Clocked)
    (hstore : (s.fec.get p).store = c :: rest) (htail : c.tail = true) (hconv : c.status = .converged) (hclean : c.corrected = 0) :
    Completes (.codewordRelease p iters) s fun t => State.RegionKeeps [] (cleanReleasePlaces p) s t := by
  refine ⟨_, by rw [exec, execCodewordRelease, State.clocked_run hclk], ?_⟩
  rw [hstore]
  dsimp only
  rw [State.slipReport, if_pos htail]
  have htaken := (State.RegionKeeps.refl [] (cleanReleasePlaces p) s).onFec p fun f =>
    { f with store := rest, leavingDec := f.leavingDec.filter fun u => rest.any fun e => e.decoder == u }
  have hcounted := htaken.countCodeword_clean (p := p) hconv hclean (by simp [cleanReleasePlaces])
  have hgathered := (hcounted.measureCodeword (p := p) c).gatherWord (p := p) (by simp [cleanReleasePlaces]) c
    (c.leaves (s.msOffset p) iters)
  exact (State.RegionKeeps.cond hgathered (hgathered.onFlight _ _)).startWaiting

/-- Its corrected bits are counted as R443 says of an event that occurs, modulo 2^64, only where the count is below that. -/
theorem countedN_ldpcBits_of_keeps {p : Port} {s t : State} (h : State.RegionKeeps [] (cleanReleasePlaces p) s t) :
    CountedN (Ev.FEC.ldpcBits p) 0 s t ↔ s.counter (Ev.FEC.ldpcBits p).page (Ev.FEC.ldpcBits p).off < 2 ^ 64 := by
  rw [CountedN, h.counter _ _ (by cases p <;> decide) (by cases p <;> decide), Nat.add_zero]
  exact eq_comm.trans (Nat.mod_eq_iff_lt (by decide))

/-! ### A counter that no run reaches -/

/-- A codeword that converged at its first test, in the last data block of its superframe. -/
def Codeword.clean : Codeword where
  num := 0
  slot := 0
  decoder := 0
  ceiling := 12
  status := .converged
  iters := 0
  corrected := 0
  redo := false
  double := false
  tail := true
  traced := false
  llrs := []
  decoded := []
  block := 16999
  index := 0
  mode := ⟨2, true, 346, 2, 1088, 10⟩

/-- RCLK runs, that codeword is the oldest of LINE-E, and the count of its pool's corrected bits is 2^64: a value of `State`, but
not one that counting modulo 2^64 leaves (R443). -/
def State.pastCount : State :=
  { (State.reset.wr CK_SYN.SYN_STATUS_RCLK_OK 1).onFec .E fun f => { f with store := [Codeword.clean] } with
    cnt := [((Ev.FEC.ldpcBits .E).place, 2 ^ 64)] }

theorem State.pastCount_clocked : State.pastCount.Clocked := by
  have hon : (State.reset.wr CK_SYN.SYN_STATUS_RCLK_OK 1).on CK_SYN.SYN_STATUS_RCLK_OK = true :=
    State.on_of_rd (State.rd_wr_same _ _ _)
  exact congrArg not hon

theorem State.pastCount_ldpcBits :
    State.pastCount.counter (Ev.FEC.ldpcBits .E).page (Ev.FEC.ldpcBits .E).off = 2 ^ 64 := by decide

/-- Refutes O38: a converged codeword without a corrected bit is an event of quantity 0, which does not occur (R444) and so leaves its
counter as it stands, where the statement has it reduced modulo 2^64; the two differ in a state whose counter is 2^64. -/
theorem not_codewordsThroughTheDecoderPool : ¬ Obligations.CodewordsThroughTheDecoderPool := by
  unfold Obligations.CodewordsThroughTheDecoderPool
  rintro ⟨-, -, -, -, hconverged, -⟩
  obtain ⟨t, ht, -, -, -, -, -, -, -, -, hbits, -⟩ :=
    hconverged .E 0 Codeword.clean [] State.pastCount State.pastCount_clocked rfl (.inl rfl) rfl
  obtain ⟨u, hu, hkeeps⟩ := completes_codewordRelease_clean (p := .E) (iters := 0) State.pastCount_clocked rfl rfl rfl rfl
  obtain rfl : t = u := Host.Outcome.next.inj (ht.symm.trans hu)
  have hlt := (countedN_ldpcBits_of_keeps hkeeps).1 hbits
  rw [State.pastCount_ldpcBits] at hlt
  exact lt_irrefl _ hlt

end Sys2Proof.Machine
end


section
/-! The dual-path selector under FORCE_SEL and SINGLE (O41; R247, R248): a unit that enters the cipher stage leaves the selector's
registers, and a forced release while SINGLE shows the forced copy in `SEL`. -/

namespace Sys2Proof.Machine

open F

/-! ### Register fields that a dropped unit leaves (R203, R268 to R294) -/

namespace KeepsFieldsBut

variable {l : List Field} {s t u : State}

theorem ite {c : Prop} [Decidable c] {v : State} (hu : KeepsFieldsBut l s u) (hv : KeepsFieldsBut l s v) :
    KeepsFieldsBut l s (if c then u else v) := by
  split
  · exact hu
  · exact hv

theorem condOf (h : KeepsFieldsBut l s t) (b : Bool) {f : State → State} (hf : ∀ u, KeepsFieldsBut l s u → KeepsFieldsBut l s (f u)) :
    KeepsFieldsBut l s (t.cond b f) := h.cond fun _ => hf t h

theorem forEach {α : Type} (h : KeepsFieldsBut l s t) (xs : List α) (f : α → State → State)
    (hstep : ∀ a u, KeepsFieldsBut l s u → KeepsFieldsBut l s (f a u)) : KeepsFieldsBut l s (t.forEach xs f) :=
  State.forEach_invariant (KeepsFieldsBut l s) xs f hstep h

/-- A field that is not named, as a flag. -/
theorem on (h : KeepsFieldsBut l s t) {f : Field} (hf : f.quiet = true) (hl : ∀ g ∈ l, f.key ≠ g.key) : t.on f = s.on f := by
  rw [State.on, (h f hf hl).1, State.on]

theorem onDrop (h : KeepsFieldsBut l s t) (ch : Nat) (f : DropChan → DropChan) : KeepsFieldsBut l s (t.onDrop ch f) := h.same rfl rfl

theorem onChanKey (h : KeepsFieldsBut l s t) (ch : Nat) (f : ChanKeys → ChanKeys) : KeepsFieldsBut l s (t.onChanKey ch f) :=
  h.same rfl rfl

theorem onSelector (h : KeepsFieldsBut l s t) (ch : Nat) (f : Selector → Selector) : KeepsFieldsBut l s (t.onSelector ch f) :=
  h.same rfl rfl

theorem serveKey (h : KeepsFieldsBut l s t) (n ss : Nat) : KeepsFieldsBut l s (t.serveKey n ss) :=
  ite h ((h.same (u := t.onKey n _) rfl rfl).raiseIf _ _)

theorem flowCount (h : KeepsFieldsBut l s t) (f k n : Nat) : KeepsFieldsBut l s (t.flowCount f k n) :=
  (h.same (u := (t.flowAdd (8 * f + k) n).1) rfl rfl).raiseIf _ _

theorem verdict (h : KeepsFieldsBut l s t) (ch n code : Nat) : KeepsFieldsBut l s (t.verdict ch n code) := by
  unfold State.verdict
  extract_lets d pass u v marked reports lostHeld w x d' sq need
  have hw : KeepsFieldsBut l s w := ((h.raise _).onChanKey ch _).onDrop ch _
  have hx : KeepsFieldsBut l s x := hw.condOf _ fun y hy => ((hy.forEach _ _ fun e z hz => hz.flowCount e.1 7 1).raiseN _ _).raiseN _ _
  exact ite (((hx.onChanKey ch _).onDrop ch _).raise _) (ite ((hx.onChanKey ch _).raise _) hx)

theorem judge (h : KeepsFieldsBut l s t) (ch : Nat) : KeepsFieldsBut l s (t.judge ch) :=
  h.forEach _ _ fun a _ hu => ite (hu.verdict ch a.1 1) hu

theorem closeSource (h : KeepsFieldsBut l s t) (ch : Nat) : KeepsFieldsBut l s (t.closeSource ch) := by
  unfold State.closeSource
  dsimp only
  cases (t.dropOf ch).ss with
  | none => exact h
  | some n => exact (h.onDrop ch _).judge ch

theorem checkBits (h : KeepsFieldsBut l s t) {q : Port} (hlock : HB_SLOT.CHTEST_CHK_LOCK q ∈ l) (bits : List Bool) :
    KeepsFieldsBut l s (t.checkBits q bits) := by
  have hwr : ∀ c v, KeepsFieldsBut l s ({ t with chtest := c }.wr (HB_SLOT.CHTEST_CHK_LOCK q) v) := fun c v =>
    (h.same (u := { t with chtest := c }) rfl rfl).wr hlock v
  exact (((hwr _ _).raiseN _ _).raiseN _ _).raiseN _ _

theorem aesBad (h : KeepsFieldsBut l s t) (x : List (Bool × Nat × Nat × Nat)) : KeepsFieldsBut l s { t with aesBad := x } :=
  h.same rfl rfl

/-- Only the lock of a channel checker is a register field of the delivery. -/
theorem deliverUnit (h : KeepsFieldsBut l s t) (hlock : ∀ q, HB_SLOT.CHTEST_CHK_LOCK q ∈ l) (ch : Nat) (x : SourceUnit) :
    KeepsFieldsBut l s (t.deliverUnit ch x) := by
  unfold State.deliverUnit
  extract_lets bytes u
  have hu : KeepsFieldsBut l s u := h.forEach _ _ fun q v hv => hv.checkBits (hlock q) _
  exact ite (hu.onDrop ch _) (((hu.onDrop ch _).count _ _ _).count _ _ _)

theorem openUnit (h : KeepsFieldsBut l s t) (hlock : ∀ q, HB_SLOT.CHTEST_CHK_LOCK q ∈ l) (ch : Nat) (x : SourceUnit) :
    KeepsFieldsBut l s (t.openUnit ch x) := by
  unfold State.openUnit
  extract_lets n need u1 u2 u3 places k refused u4 upstream u5 key missing u6 lost u7 slot hk u8 u9 bad plain u10 excess u11 v u12
  have h1 : KeepsFieldsBut l s u1 := h.raiseIf _ _
  have h2 : KeepsFieldsBut l s u2 := h1.condOf _ fun w hw => hw.closeSource ch
  have h3 : KeepsFieldsBut l s u3 := h2.condOf _ fun w hw => (hw.onDrop ch _).onDrop ch _
  have h4 : KeepsFieldsBut l s u4 := h3.condOf _ fun w hw => hw.raiseN _ _
  have h5 : KeepsFieldsBut l s u5 := h4.condOf _ fun w hw => hw.raiseN _ _
  have h6 : KeepsFieldsBut l s u6 := h5.condOf _ fun w hw => (hw.raiseN _ _).onDrop ch _
  have h7 : KeepsFieldsBut l s u7 := h6.condOf _ fun w hw => hw.serveKey _ _
  have h8 : KeepsFieldsBut l s u8 := h7.condOf _ fun w hw => hw.onDrop ch _
  have h10 : KeepsFieldsBut l s u10 := (h8.raiseN _ _).aesBad _
  have h11 : KeepsFieldsBut l s u11 := h10.raiseN _ _
  have h12 : KeepsFieldsBut l s u12 := ite (ite h11 (h11.onDrop ch _)) (h11.deliverUnit hlock ch _)
  exact h12.condOf _ fun w hw => hw.closeSource ch

/-- A measured difference shows in `DIFF` and `DP_SKEW` of its channel alone (R246). -/
theorem selectorDiff (h : KeepsFieldsBut l s t) {c : Nat} (hdiff : HB_PROT.DP_STATUS_DIFF c ∈ l) (hskew : HB_PROT.DP_STATUS_DP_SKEW c ∈ l)
    (diff : Int) : KeepsFieldsBut l s (t.selectorDiff c diff) := by
  unfold State.selectorDiff
  extract_lets x big beyond within u
  have hfollow : KeepsFieldsBut l s (t.followDiff c diff) := ite ((h.onSelector c _).wr hdiff _) h
  have hu : KeepsFieldsBut l s u := hfollow.onSelector c _
  exact ite (ite (((hu.onSelector c _).wr hskew 1).raise _) (ite ((hu.wr hskew 0).raise _) hu)) h

end KeepsFieldsBut

/-! ### A release under FORCE_SEL while SINGLE (R247, R248) -/

/-- The fields of a release that are not the selector's choice: what is measured, and the locks of the channel checkers. -/
def measuredFields (c : Nat) : List Field :=
  [HB_PROT.DP_STATUS_DIFF c, HB_PROT.DP_STATUS_DP_SKEW c, HB_SLOT.CHTEST_CHK_LOCK .E, HB_SLOT.CHTEST_CHK_LOCK .W]

theorem chkLock_mem_measuredFields (c : Nat) (q : Port) : HB_SLOT.CHTEST_CHK_LOCK q ∈ measuredFields c := by
  cases q <;> simp [measuredFields]

/-- The fields by which the selector chooses, and its choice. -/
def choiceFields (c : Nat) : List Field :=
  [HB_PROT.DP_STATUS_SEL c, HB_PROT.DP_STATUS_SINGLE c, HB_PROT.DP_CFG_FORCE_SEL c, HB_PROT.DP_CFG_FORCE_COPY c]

theorem choiceFields_quiet {c : Nat} (hc : c < 192) {f : Field} (hf : f ∈ choiceFields c) : f.quiet = true := by
  have hplace : f.off < 4096 ∧ f.lsb < 32 ∧ f.off ≠ 0x010 ∧ f.page ≠ 1 := by
    simp only [choiceFields, List.mem_cons, List.not_mem_nil, or_false] at hf
    rcases hf with rfl | rfl | rfl | rfl <;>
      simp only [HB_PROT.DP_STATUS_SEL, HB_PROT.DP_STATUS_SINGLE, HB_PROT.DP_CFG_FORCE_SEL, HB_PROT.DP_CFG_FORCE_COPY] <;> omega
  obtain ⟨hoff, hlsb, hevt, hpage⟩ := hplace
  exact Field.quiet_of ⟨hoff, hlsb⟩ hevt hpage

theorem choiceFields_key_ne {c : Nat} {f g : Field} (hf : f ∈ choiceFields c) (hg : g ∈ measuredFields c) : f.key ≠ g.key := by
  simp only [choiceFields, measuredFields, List.mem_cons, List.not_mem_nil, or_false] at hf hg
  rcases hf with rfl | rfl | rfl | rfl <;> rcases hg with rfl | rfl | rfl | rfl <;>
    simp only [Field.key, HB_PROT.DP_STATUS_SEL, HB_PROT.DP_STATUS_SINGLE, HB_PROT.DP_CFG_FORCE_SEL, HB_PROT.DP_CFG_FORCE_COPY,
      HB_PROT.DP_STATUS_DIFF, HB_PROT.DP_STATUS_DP_SKEW, HB_SLOT.CHTEST_CHK_LOCK, Port.toNat] <;> omega

theorem KeepsFieldsBut.choice {c : Nat} {s t : State} (h : KeepsFieldsBut (measuredFields c) s t) (hc : c < 192) {f : Field}
    (hf : f ∈ choiceFields c) : t.on f = s.on f :=
  h.on (choiceFields_quiet hc hf) fun _ hg => choiceFields_key_ne hf hg

/-- A flag written where it differs has the value after. -/
theorem State.on_cond_wrB (s : State) {f : Field} (hf : f.width = 1) {b m : Bool} (hm : m = (b != s.on f)) :
    (s.cond m fun s => s.wrB f b).on f = b := by
  by_cases hb : b = s.on f
  · rw [State.cond, if_neg (by rw [hm, hb, bne_self_eq_false]; decide), ← hb]
  · rw [State.cond, if_pos (hm.trans (bne_iff_ne.2 hb))]
    exact s.on_wrB hf b

/-- Under both, `SEL` is written where the forced copy is not the current one (`d`), without a selection change. -/
theorem forced_single_moves {force single d : Bool} (hforce : force = true) (hsingle : single = true) :
    ((!force && !single && d) || (single && d)) = d := by
  rw [hforce, hsingle]
  rfl

/-- `SEL` shows the forced copy after a release. -/
theorem completes_dpUnitRelease_forced_single {ch : Fin 192} {sfc : Nat} {diff : Int} {s : State} (hclk : s.Clocked)
    (hen : s.dpEn ch.val = true) (hforce : s.on (HB_PROT.DP_CFG_FORCE_SEL ch.val) = true)
    (hsingle : s.on (HB_PROT.DP_STATUS_SINGLE ch.val) = true) :
    Completes (.dpUnitRelease ch sfc diff) s fun t =>
      t.on (HB_PROT.DP_STATUS_SEL ch.val) = s.on (HB_PROT.DP_CFG_FORCE_COPY ch.val) := by
  refine ⟨_, by rw [exec, execDpUnitRelease, State.clocked_run hclk], ?_⟩
  rw [if_pos hen]
  extract_lets u1 j0 j1 u2 good single cur force later sel change lost x k unit u3 u4 u5 u6 u7
  have h2 : KeepsFieldsBut (measuredFields ch) s u2 :=
    ((KeepsFieldsBut.refl _ s).selectorDiff (by simp [measuredFields]) (by simp [measuredFields]) diff).raiseN _ _
  have hkeep (f : Field) (hf : f ∈ choiceFields ch) : u2.on f = s.on f := h2.choice ch.isLt hf
  have hsingle2 : single = true := (hkeep (HB_PROT.DP_STATUS_SINGLE ch) (by simp [choiceFields])).trans hsingle
  have hforce2 : force = true := (hkeep (HB_PROT.DP_CFG_FORCE_SEL ch) (by simp [choiceFields])).trans hforce
  have hsel : sel = s.on (HB_PROT.DP_CFG_FORCE_COPY ch) :=
    (if_pos hforce2).trans (hkeep (HB_PROT.DP_CFG_FORCE_COPY ch) (by simp [choiceFields]))
  have hmoves : (change || (single && (sel != cur))) = (sel != cur) := forced_single_moves hforce2 hsingle2
  have h3 : KeepsFieldsBut (measuredFields ch) u2 u3 := (KeepsFieldsBut.refl _ u2).onSelector ch _
  have hcur : cur = u3.on (HB_PROT.DP_STATUS_SEL ch) := (h3.choice ch.isLt (by simp [choiceFields])).symm
  clear_value sel u3
  have h4 : u4.on (HB_PROT.DP_STATUS_SEL ch) = sel := u3.on_cond_wrB rfl (hmoves.trans (congrArg (sel != ·) hcur))
  have h5 : KeepsFieldsBut (measuredFields ch) u4 u5 := (KeepsFieldsBut.refl _ u4).condOf _ fun w hw => (hw.raise _).count _ _ _
  have h6 : KeepsFieldsBut (measuredFields ch) u4 u6 := h5.condOf _ fun w hw => (hw.raise _).count _ _ _
  have h7 : KeepsFieldsBut (measuredFields ch) u4 u7 := h6.openUnit (chkLock_mem_measuredFields ch) _ _
  exact (h7.choice ch.isLt (f := HB_PROT.DP_STATUS_SEL ch) (by simp [choiceFields])).trans (h4.trans hsel)

/-- RCLK runs, and channel 0 is dual-path, SINGLE, and forced to its partner's copy while the primary is the current one. -/
def State.forcedSingle : State :=
  ((((State.reset.wr CK_SYN.SYN_STATUS_RCLK_OK 1).wr (HB_PROT.DP_CFG_DP_EN 0) 1).wr (HB_PROT.DP_CFG_FORCE_SEL 0) 1).wr
    (HB_PROT.DP_CFG_FORCE_COPY 0) 1).wr (HB_PROT.DP_STATUS_SINGLE 0) 1

/-- Refutes O41: while SINGLE a forced release makes the forced copy the current one, where the statement has `SEL` unchanged. -/
theorem not_secondsAndProtectedUnits : ¬ Obligations.SecondsAndProtectedUnits := by
  unfold Obligations.SecondsAndProtectedUnits
  rintro ⟨-, -, -, -, -, -, hforced⟩
  have hclk : State.forcedSingle.Clocked := by decide
  have hen : State.forcedSingle.dpEn 0 = true := by decide
  have hforce : State.forcedSingle.on (HB_PROT.DP_CFG_FORCE_SEL 0) = true := by decide
  have hsingle : State.forcedSingle.on (HB_PROT.DP_STATUS_SINGLE 0) = true := by decide
  obtain ⟨t, ht, hkept, -⟩ := hforced 0 0 0 State.forcedSingle hclk hen hforce
  obtain ⟨u, hu, hshown⟩ := completes_dpUnitRelease_forced_single (ch := 0) (sfc := 0) (diff := 0) hclk hen hforce hsingle
  obtain rfl : t = u := Host.Outcome.next.inj (ht.symm.trans hu)
  have hdiffers : State.forcedSingle.on (HB_PROT.DP_CFG_FORCE_COPY 0) ≠ State.forcedSingle.on (HB_PROT.DP_STATUS_SEL 0) := by decide
  exact hdiffers (hshown.symm.trans hkept)

end Sys2Proof.Machine
end


section
/-! Reads that latch or clear (O17; R184, R357, R358, R443, R445, R477): an answered read puts out the word of its offset, and its
side effect is the one that `readEffect` names for that offset. -/

namespace Sys2Proof.Machine

open F

/-! ### A requester's latches (R477) -/

@[simp] theorem State.getLatch_setLatch_same (s : State) (r : Requester) (n v : Nat) : (s.setLatch r n v).getLatch r n = v :=
  Tab.get_set_same 0 s.latch (latchKey r n) v

theorem State.getLatch_setLatch_ne (s : State) (r : Requester) {n m : Nat} (v : Nat) (h : n % 2 ^ 20 ≠ m % 2 ^ 20) :
    (s.setLatch r n v).getLatch r m = s.getLatch r m :=
  Tab.get_set_ne 0 0 s.latch v fun hkey => h (Nat.add_left_cancel hkey)

@[simp] theorem State.getLatch_emit (s : State) (o : Out) (r : Requester) (n : Nat) : (s.emit o).getLatch r n = s.getLatch r n := rfl

/-- The latches of one time base do not overlap. -/
theorem timeLatch_ne {x j k : Nat} (_ : x < 4) (_ : j < 4) (_ : k < 4) (_ : j ≠ k) :
    timeLatch x j % 2 ^ 20 ≠ timeLatch x k % 2 ^ 20 := by
  simp only [timeLatch]
  omega

theorem State.latchTime_eq (s : State) (r : Requester) (x t : Nat) :
    s.latchTime r x t = { s with latch := (s.latchTime r x t).latch } := rfl

/-- What a latched time leaves in its three latches (R357). -/
theorem State.getLatch_latchTime (s : State) (r : Requester) {x : Nat} (t : Nat) (hx : x < 4) :
    (s.latchTime r x t).getLatch r (timeLatch x 0) = (s.tbAt x t).sub % nsU ∧
      (s.latchTime r x t).getLatch r (timeLatch x 1) = (s.tbAt x t).sec % 2 ^ 32 ∧
      (s.latchTime r x t).getLatch r (timeLatch x 2) = (s.tbAt x t).sec / 2 ^ 32 := by
  refine ⟨?_, ?_, State.getLatch_setLatch_same _ r _ _⟩
  · rw [State.latchTime, State.getLatch_setLatch_ne _ r _ (timeLatch_ne hx (by omega) (by omega) (by omega)),
      State.getLatch_setLatch_ne _ r _ (timeLatch_ne hx (by omega) (by omega) (by omega)), State.getLatch_setLatch_same]
  · rw [State.latchTime, State.getLatch_setLatch_ne _ r _ (timeLatch_ne hx (by omega) (by omega) (by omega)),
      State.getLatch_setLatch_same]

/-! ### An answered read (R469) -/

/-- A read that is answered puts out its value and leaves what `readEffect` leaves. -/
theorem State.pageRead_answered {s u : State} {r : Requester} {page off v : Nat} (ha : s.Answers r page off) (hpage : page < 47)
    (hoff : off < 4096) (hword : off % 4 = 0) (heffect : s.readEffect r page off = (u, v)) :
    s.pageRead r page off = u.emit (.read r v false) := by
  obtain ⟨hclock, hcause⟩ := ha
  have hdiv : (page * 4096 + off) / 4096 = page := by omega
  have hmod : (page * 4096 + off) % 4096 = off := by omega
  have halign : (page * 4096 + off) / 4 * 4 = page * 4096 + off := by omega
  have haligned : off / 4 * 4 = off := by omega
  have hlow : page * 4096 + off < 0x2F000 := by omega
  have hread : s.bar0Read r (page * 4096 + off) = (u, v) := by
    simp only [State.bar0Read, halign, if_pos hlow, hdiv, hmod, heffect]
  simp [State.pageRead, State.busRead, hdiv, hmod, haligned, hlow, hcause, hclock, hread, State.answer]

/-- A word that one field from bit 0 fills. -/
theorem State.pageWord_single (s : State) (r : Requester) {page off : Nat} {f : Field}
    (hplain : isCounter page off = false ∧ off ≠ cntHiOff page ∧ page ≠ 0)
    (hfields : (pageFields page).filter (fun g => g.off = off) = [f]) (hlsb : f.lsb = 0) :
    s.pageWord r page off = s.fieldRead r f := by
  obtain ⟨hcounter, hhi, hpage⟩ := hplain
  simp [State.pageWord, hcounter, hhi, hpage, hfields, hlsb]

/-! ### The low word of a counter (R443) -/

theorem isCounter_page_off {page off : Nat} (h : isCounter page off = true) : page < 47 ∧ off % 4 = 0 := by
  simp only [isCounter, Bool.and_eq_true, decide_eq_true_eq] at h
  exact h.1

theorem State.readEffect_counter (s : State) (r : Requester) {page off : Nat} (h : isCounter page off = true) :
    s.readEffect r page off = (s.setLatch r (cntHiLatch page) (s.counter page off / 2 ^ 32), s.counter page off % 2 ^ 32) := by
  simp [State.readEffect, State.pageWord, h]

/-! ### Flow counters in BAR2 (R445) -/

theorem tableMask_flowCntWin {off : Nat} (h : flowCntWin ≤ off) : tableMask off = none := by
  obtain ⟨hvlan, hchan, htx, hrx, hcrypto, hdesc⟩ := tableWindow_bases
  have hflow : flowCntWin = 0x100000 := rfl
  rw [tableMask, if_neg (by omega), if_neg (by omega), if_neg (by omega), if_neg (by omega), if_neg (by omega), if_neg (by omega),
    if_neg (by omega)]

/-- The first word of a flow counter: the low part is read, the rest latched. -/
theorem State.winRead_flowCnt {s : State} (r : Requester) {i : Nat} (hi : i < 131072) (hclock : s.clock.stopped = false) :
    s.winRead r (flowCntWin + 8 * i) =
      (s.setLatch r flowLatch (Tab.get 0 s.flowCnt i / 2 ^ 32), .ok (Tab.get 0 s.flowCnt i % 2 ^ 32)) := by
  have hcrypto : cryptoWin = 0xA4000 := rfl
  have hflow : flowCntWin = 0x100000 := rfl
  have halign : (flowCntWin + 8 * i) / 4 * 4 = flowCntWin + 8 * i := by omega
  have hidx : (flowCntWin + 8 * i - flowCntWin) / 8 = i := by omega
  have hread : s.bar2Read r (flowCntWin + 8 * i) =
      (s.setLatch r flowLatch (Tab.get 0 s.flowCnt i / 2 ^ 32), some (Tab.get 0 s.flowCnt i % 2 ^ 32)) := by
    simp only [State.bar2Read, halign, tableMask_flowCntWin (Nat.le_add_right _ _), hidx]
    rw [if_neg (by omega), if_pos (by omega), if_pos (by omega)]
  simp [State.winRead, hclock, hread]

/-- A write of 1 to bit 48 of a flow counter. -/
theorem State.tableWrite_wrapped (s : State) (r : Requester) {i : Nat} (hi : i < 131072) :
    s.tableWrite r (flowCntWin + 8 * i + 4) (2 ^ 16) 15 =
      { s with flowCnt := Tab.set 0 s.flowCnt i (Tab.get 0 s.flowCnt i % 2 ^ 48) } := by
  obtain ⟨hvlan, hchan, htx, hrx, hcrypto, hdesc⟩ := tableWindow_bases
  have hflow : flowCntWin = 0x100000 := rfl
  have halign : (flowCntWin + 8 * i + 4) / 4 * 4 = flowCntWin + 8 * i + 4 := by omega
  have hidx : (flowCntWin + 8 * i + 4 - flowCntWin) / 8 = i := by omega
  have hbits : (flowCntWin + 8 * i + 4 - flowCntWin) % 8 = 4 ∧ bitOf 15 2 = true ∧ bitOf (2 ^ 16) 16 = true :=
    ⟨by omega, rfl, rfl⟩
  simp only [State.tableWrite, halign, hidx]
  rw [if_neg (by omega), if_neg (by omega), if_neg (by omega), if_neg (by omega), if_neg (by omega), if_neg (by omega),
    if_neg (by omega), if_pos (by omega), if_pos hbits]

/-! ### Frame counters (R184) -/

theorem State.derived_frame (s : State) (p : Port) (off : Nat) : s.derived (19 + p.toNat) off = s.frameFields p := by
  cases p <;> rfl

/-- The read-only fields of the framer that precede its frame counters (R184). -/
def frameShown (p : Port) : List Field :=
  [HB_FRAME.FRM_STATUS_SWAP_ANN_TX p, HB_FRAME.FRM_DERIVED_SLOTS p, HB_FRAME.FRM_DERIVED_RX_SLOTS p, HB_FRAME.FRAME_LEN_L_F p,
    HB_FRAME.FILL_LEN_FILL p, HB_FRAME.SF_TAIL_TAIL p, HB_FRAME.RX_FRAME_LEN_L_F p, HB_FRAME.RX_FILL_LEN_FILL p,
    HB_FRAME.RX_SF_TAIL_TAIL p]

/-- The value of a field in a derived list that shows other fields before it. -/
theorem findField_of_ne {l m : List (Field × Nat)} {shown : List Field} {f : Field} (v : Nat) (hshown : l.map Prod.fst = shown)
    (h : ∀ g ∈ shown, g.key ≠ f.key) : findField (l ++ (f, v) :: m) f = some (v % 2 ^ f.width) := by
  have hnone : l.find? (fun e => decide (e.1.key = f.key)) = none :=
    List.find?_eq_none.2 fun e he => by simpa using h e.1 (hshown ▸ List.mem_map_of_mem he)
  simp [findField, List.find?_append, hnone]

theorem State.findField_fcTx (s : State) (p : Port) :
    findField (s.frameFields p) (HB_FRAME.FC_TX_LO_FC p) = some ((s.frame.get p).fcTx % 2 ^ 32 % 2 ^ 32) :=
  findField_of_ne (l := (s.frameFields p).take 9) (shown := frameShown p) _ rfl (by cases p <;> decide)

theorem State.findField_fcRx (s : State) (p : Port) :
    findField (s.frameFields p) (HB_FRAME.FC_RX_LO_FC p) = some ((s.frame.get p).fcRx % 2 ^ 32 % 2 ^ 32) :=
  findField_of_ne (l := (s.frameFields p).take 10) (shown := frameShown p ++ [HB_FRAME.FC_TX_LO_FC p]) _ rfl (by cases p <;> decide)

theorem State.pageWord_fcTx {s : State} (r : Requester) (p : Port) (hfreeze : s.on (HDR.CTRL_FREEZE (19 + p.toNat)) = false) :
    s.pageWord r (19 + p.toNat) 0x05C = (s.frame.get p).fcTx % 2 ^ 32 := by
  have hsingle : s.pageWord r (19 + p.toNat) 0x05C = s.fieldRead r (HB_FRAME.FC_TX_LO_FC p) :=
    s.pageWord_single r (by cases p <;> decide) (by cases p <;> rfl) rfl
  have hlive : s.liveField (HB_FRAME.FC_TX_LO_FC p) = (s.frame.get p).fcTx % 2 ^ 32 % 2 ^ 32 :=
    State.liveField_derived rfl (by cases p <;> decide) ((s.derived_frame p 0x05C).symm ▸ s.findField_fcTx p)
  rw [hsingle, State.fieldRead_live (f := HB_FRAME.FC_TX_LO_FC p) r rfl (by cases p <;> rfl) hfreeze, hlive, Nat.mod_mod]

theorem State.pageWord_fcRx {s : State} (r : Requester) (p : Port) (hfreeze : s.on (HDR.CTRL_FREEZE (19 + p.toNat)) = false) :
    s.pageWord r (19 + p.toNat) 0x064 = (s.frame.get p).fcRx % 2 ^ 32 := by
  have hsingle : s.pageWord r (19 + p.toNat) 0x064 = s.fieldRead r (HB_FRAME.FC_RX_LO_FC p) :=
    s.pageWord_single r (by cases p <;> decide) (by cases p <;> rfl) rfl
  have hlive : s.liveField (HB_FRAME.FC_RX_LO_FC p) = (s.frame.get p).fcRx % 2 ^ 32 % 2 ^ 32 :=
    State.liveField_derived rfl (by cases p <;> decide) ((s.derived_frame p 0x064).symm ▸ s.findField_fcRx p)
  rw [hsingle, State.fieldRead_live (f := HB_FRAME.FC_RX_LO_FC p) r rfl (by cases p <;> rfl) hfreeze, hlive, Nat.mod_mod]

theorem State.readEffect_fcTx (s : State) (r : Requester) (p : Port) :
    s.readEffect r (19 + p.toNat) 0x05C =
      (s.setLatch r (fcTxLatch p) ((s.frame.get p).fcTx / 2 ^ 32), s.pageWord r (19 + p.toNat) 0x05C) := by
  cases p <;> rfl

theorem State.readEffect_fcRx (s : State) (r : Requester) (p : Port) :
    s.readEffect r (19 + p.toNat) 0x064 =
      (s.setLatch r (fcRxLatch p) ((s.frame.get p).fcRx / 2 ^ 32), s.pageWord r (19 + p.toNat) 0x064) := by
  cases p <;> rfl

/-! ### Time bases and the PPS stamp (R357, R358) -/

theorem State.readEffect_timeNs {s : State} (r : Requester) {x : Nat} (hx : x < 4) (hfresh : s.getLatch r (timeLatch x 3) < 2 ^ 32) :
    s.readEffect r (11 + x) 0x070 = (s.latchTime r x s.tclk, (s.tbAt x s.tclk).sub / nsU) := by
  have hplain : isCounter (11 + x) 0x070 = false := by
    have hall : ∀ y < 4, isCounter (11 + y) 0x070 = false := by decide
    exact hall x hx
  have hframe : ¬ ((11 + x = 19 ∨ 11 + x = 20) ∧ 0x070 = 0x05C) ∧
      ¬ ((11 + x = 19 ∨ 11 + x = 20) ∧ 0x070 = 0x064) := by omega
  have htime : 11 ≤ 11 + x ∧ 11 + x ≤ 14 ∧ True := ⟨by omega, by omega, trivial⟩
  simp only [State.readEffect, hplain, Nat.add_sub_cancel_left, if_neg Bool.false_ne_true, if_neg hframe.1, if_neg hframe.2,
    if_pos htime, if_neg (Nat.not_le.2 hfresh)]

theorem State.pageWord_ppsInNs {s : State} (r : Requester) (hfreeze : s.on (HDR.CTRL_FREEZE 15) = false) :
    s.pageWord r 15 0x048 = s.rd TS_STAMP.PPS_IN_NS_NS := by
  have hsingle : s.pageWord r 15 0x048 = s.fieldRead r TS_STAMP.PPS_IN_NS_NS :=
    s.pageWord_single r (by decide) rfl rfl
  rw [hsingle, State.fieldRead_live (f := TS_STAMP.PPS_IN_NS_NS) r rfl rfl hfreeze]
  rfl

theorem State.readEffect_ppsInNs (s : State) (r : Requester) :
    s.readEffect r 15 0x048 = (s.setLatch r ppsLatch (s.rd TS_STAMP.PPS_IN_S_S), s.pageWord r 15 0x048) := rfl

/-! ### Fields that a read clears (R477) -/

/-- What a read that clears one field leaves. -/
theorem State.cleared_field (s : State) (f : Field) (o : Out) :
    ((s.wr f 0).emit o).rd f = 0 ∧ KeepsFieldsBut [f] s ((s.wr f 0).emit o) :=
  ⟨(s.rd_wr_same f 0).trans (Nat.zero_mod _), ((KeepsFieldsBut.refl [f] s).wr (List.mem_singleton_self f) 0).same rfl rfl⟩

theorem State.readEffect_storePeak (s : State) (r : Requester) (p : Port) :
    s.readEffect r (38 + 8 * p.toNat) 0x050 = (s.wr (FEC.STORE_PEAK p) 0, s.pageWord r (38 + 8 * p.toNat) 0x050) := by
  cases p <;> rfl

theorem State.readEffect_urgDone (s : State) (r : Requester) :
    s.readEffect r 17 0x054 = (s.wr MON_SEQ.URG_RESULT_DONE 0, s.pageWord r 17 0x054) := rfl

/-! ### The reads as commands -/

/-- A command that reads a page, where the read is answered. -/
theorem completes_pageRead {c : Instr} {s w u : State} {r : Requester} {page off v : Nat} {P : State → Prop}
    (hexec : exec c s = .next (w.pageRead r page off)) (ha : w.Answers r page off) (hpage : page < 47) (hoff : off < 4096)
    (hword : off % 4 = 0) (heffect : w.readEffect r page off = (u, v)) (hP : P (u.emit (.read r v false))) : Completes c s P :=
  ⟨_, hexec, by rwa [State.pageRead_answered ha hpage hoff hword heffect]⟩

/-- The instant of a read is not among what decides whether it is answered (R469). -/
theorem State.answers_toInstant {s : State} {r : Requester} {page off : Nat} (n : Nat) (ha : s.Answers r page off) :
    (s.toInstant n).Answers r page off := ha

/-- Settles O17: each read goes through `completes_pageRead` (or `winRead_flowCnt`) with the effect its offset has. -/
theorem readsThatLatchOrClear : Obligations.ReadsThatLatchOrClear := by
  unfold Obligations.ReadsThatLatchOrClear
  refine ⟨?counter, ?flow, ?wrapped, ?fcTx, ?fcRx, ?time, ?pps, ?storePeak, ?urgDone⟩
  case counter =>
    intro r page off s hc ha
    exact completes_pageRead rfl ha page.isLt off.isLt (isCounter_page_off hc).2 (s.readEffect_counter r hc)
      ⟨rfl, State.getLatch_setLatch_same s r _ _, rfl⟩
  case flow =>
    intro r idx s hr hclock
    refine ⟨State.answer r (s.winRead r (flowCntWin + 8 * idx.val)), congrArg Host.Outcome.next (if_neg hr), ?_⟩
    rw [State.winRead_flowCnt r idx.isLt hclock]
    exact ⟨rfl, State.getLatch_setLatch_same s r _ _, rfl⟩
  case wrapped =>
    intro r idx s hr hclock
    have hrun : ¬ (r = .smbus ∨ s.clock.stopped = true) := by simp [hr, hclock]
    refine ⟨s.tableWrite r (flowCntWin + 8 * idx.val + 4) (2 ^ 16) 15, congrArg Host.Outcome.next (if_neg hrun), ?_⟩
    rw [s.tableWrite_wrapped r idx.isLt]
    exact ⟨Tab.get_set_same 0 s.flowCnt idx.val _, fun j hj => Tab.get_set_ne 0 0 s.flowCnt _ (Ne.symm hj), rfl⟩
  case fcTx =>
    intro r p s ha hfreeze
    refine completes_pageRead rfl ha (by cases p <;> decide) (by decide) rfl (s.readEffect_fcTx r p) ?_
    rw [s.pageWord_fcTx r p hfreeze]
    exact ⟨rfl, State.getLatch_setLatch_same s r _ _, rfl⟩
  case fcRx =>
    intro r p s ha hfreeze
    refine completes_pageRead rfl ha (by cases p <;> decide) (by decide) rfl (s.readEffect_fcRx r p) ?_
    rw [s.pageWord_fcRx r p hfreeze]
    exact ⟨rfl, State.getLatch_setLatch_same s r _ _, rfl⟩
  case time =>
    intro r x n s ha hfresh
    have hlatched := (s.toInstant n).getLatch_latchTime r (max s.tclk n) x.isLt
    have heffect := State.readEffect_timeNs (s := s.toInstant n) r x.isLt hfresh
    rw [State.latchTime_eq] at hlatched heffect
    obtain ⟨hfrac, hlo, hhi⟩ := hlatched
    exact completes_pageRead rfl (State.answers_toInstant n ha) (by omega) (by decide) rfl heffect ⟨rfl, hfrac, hlo, hhi, rfl⟩
  case pps =>
    intro r s ha hfreeze
    refine completes_pageRead rfl ha (by decide) (by decide) rfl (s.readEffect_ppsInNs r) ?_
    rw [s.pageWord_ppsInNs r hfreeze]
    exact ⟨rfl, State.getLatch_setLatch_same s r _ _, rfl⟩
  case storePeak =>
    intro r p s ha
    obtain ⟨hzero, hkeeps⟩ := s.cleared_field (FEC.STORE_PEAK p) (.read r (s.pageWord r (38 + 8 * p.toNat) 0x050) false)
    exact completes_pageRead rfl ha (by cases p <;> decide) (by decide) rfl (s.readEffect_storePeak r p) ⟨rfl, hzero, hkeeps, rfl⟩
  case urgDone =>
    intro r s ha
    obtain ⟨hzero, hkeeps⟩ := s.cleared_field MON_SEQ.URG_RESULT_DONE (.read r (s.pageWord r 17 0x054) false)
    exact completes_pageRead rfl ha (by decide) (by decide) rfl (s.readEffect_urgDone r) ⟨rfl, hzero, hkeeps, rfl⟩

end Sys2Proof.Machine
end


section
/-! What a frame start leaves while it builds a frame (R161 to R175, R210 to R218, R234 to R250): the numbers of the frames sent, what
the cause of an RDI is read from, and all that has been put out. -/

namespace Sys2Proof.Machine

open F

/-! ### What a frame start must not disturb -/

/-- What a framer counts frames sent and injected errors by (R162, R184). -/
def FrameState.numbering (x : FrameState) : Bool × Nat × Nat × Nat := (x.started, x.fcTx, x.injFaw, x.injFcs)

/-- The fields that the cause of a port's RDI is read from and shown in, and with `bank` the transmit bank (R168, R172). -/
def sentFields (p : Port) (bank : Bool) : List Field :=
  (if bank then [HB_FRAME.FRM_STATUS_TX_BANK p] else []) ++
    [RXFE.RX_CTRL_RX_ENABLE p, RXFE.ACQ_STATUS_LOS p, RXFE.ACQ_STATUS_ACQ_STATE p, HB_FRAME.FRM_STATUS_LOF p,
      HB_FRAME.FRM_STATUS_SMC_MISMATCH p, HB_FRAME.FRM_CFG_FORCE_RDI p, HB_FRAME.FRM_STATUS_RDI_CAUSE_TX p]

/-- None of them starts at bit 16 of its word. -/
theorem sentFields_lsb_ne {p : Port} {bank : Bool} {f : Field} (hf : f ∈ sentFields p bank) : f.key % 32 ≠ 16 := by
  cases p <;> cases bank <;> (revert f; decide)

/-- An event leaves them. -/
theorem sentFields_quiet {p : Port} {bank : Bool} {f : Field} (hf : f ∈ sentFields p bank) : f.quiet = true := by
  cases p <;> cases bank <;> (revert f; decide)

/-- A part of a frame start: it leaves the frames' numbers and the fields above, and puts out in front of what was put out. -/
structure State.Framing (p : Port) (bank : Bool) (s t : State) : Prop where
  rd : ∀ f ∈ sentFields p bank, t.rd f = s.rd f
  numbering : ∀ q, (t.frame.get q).numbering = (s.frame.get q).numbering
  out : s.out <:+ t.out

/-- The cause of an RDI is read from these fields (R172). -/
theorem State.rdiCause_congr {p : Port} {s t : State} (h : ∀ f ∈ sentFields p false, t.rd f = s.rd f) :
    t.rdiCause p = s.rdiCause p := by
  have hon : ∀ f ∈ sentFields p false, t.on f = s.on f := fun f hf => by rw [State.on, h f hf, State.on]
  rw [State.rdiCause, State.rdiCause, State.acqSt, State.acqSt, hon (RXFE.RX_CTRL_RX_ENABLE p) (by simp [sentFields]),
    hon (RXFE.ACQ_STATUS_LOS p) (by simp [sentFields]), h (RXFE.ACQ_STATUS_ACQ_STATE p) (by simp [sentFields]),
    hon (HB_FRAME.FRM_STATUS_LOF p) (by simp [sentFields]), hon (HB_FRAME.FRM_STATUS_SMC_MISMATCH p) (by simp [sentFields]),
    hon (HB_FRAME.FRM_CFG_FORCE_RDI p) (by simp [sentFields])]

/-- The cause of an RDI fits its field (R172). -/
theorem State.rdiCause_lt (s : State) (p : Port) : s.rdiCause p < 2 ^ 3 := by
  unfold State.rdiCause
  dsimp only
  split_ifs <;> decide

namespace State.Framing

variable {p : Port} {bank : Bool} {s t u : State}

theorem refl (p : Port) (bank : Bool) (s : State) : Framing p bank s s := ⟨fun _ _ => rfl, fun _ => rfl, List.suffix_rfl⟩

theorem trans (h : Framing p bank s t) (k : Framing p bank t u) : Framing p bank s u where
  rd f hf := (k.rd f hf).trans (h.rd f hf)
  numbering q := (k.numbering q).trans (h.numbering q)
  out := h.out.trans k.out

/-- The cause of an RDI is read as before. -/
theorem rdiCause (h : Framing p bank s t) : t.rdiCause p = s.rdiCause p :=
  State.rdiCause_congr fun f hf => h.rd f (List.mem_append_right _ hf)

/-! ### Primitive updates -/

/-- An update of what neither registers nor framers hold. -/
theorem same (h : Framing p bank s t) (hregs : u.regs = t.regs) (hframe : u.frame = t.frame) (hout : u.out = t.out) :
    Framing p bank s u where
  rd f hf := by rw [← h.rd f hf, State.rd, State.rd, hregs]
  numbering := by rw [hframe]; exact h.numbering
  out := by rw [hout]; exact h.out

theorem emit (h : Framing p bank s t) (o : Out) : Framing p bank s (t.emit o) :=
  ⟨h.rd, h.numbering, h.out.trans (List.suffix_cons o t.out)⟩

theorem wr (h : Framing p bank s t) {g : Field} (hg : ∀ f ∈ sentFields p bank, g.key ≠ f.key) (v : Nat) :
    Framing p bank s (t.wr g v) :=
  ⟨fun f hf => (State.rd_wr_ne t v (hg f hf)).trans (h.rd f hf), h.numbering, h.out⟩

theorem eventFrame (h : Framing p bank s t) (k : t.EventFrame u) (hrd : ∀ f ∈ sentFields p bank, u.rd f = t.rd f) :
    Framing p bank s u :=
  h.trans ⟨hrd, fun q => by rw [k], by rw [k]⟩

theorem raiseN (h : Framing p bank s t) (e : Evt) (n : Nat) : Framing p bank s (t.raiseN e n) :=
  h.eventFrame (t.raiseN_eventFrame e n) fun f hf => State.raiseN_rd t e n f (sentFields_quiet hf)

theorem raise (h : Framing p bank s t) (e : Evt) : Framing p bank s (t.raise e) := h.raiseN e 1

theorem count (h : Framing p bank s t) (page off n : Nat) : Framing p bank s (t.count page off n) :=
  h.eventFrame (t.count_eventFrame page off n) fun f _ => by
    unfold State.count
    split <;> rfl

/-- A change of a framer that leaves its numbers. -/
theorem onFrame (h : Framing p bank s t) (q : Port) {f : FrameState → FrameState} (hf : ∀ x, (f x).numbering = x.numbering) :
    Framing p bank s (t.onFrame q f) :=
  ⟨h.rd, fun r => by
    rw [← h.numbering r, State.onFrame]
    cases q <;> cases r <;> simp [Pair.upd, Pair.get, hf], h.out⟩

/-! ### Control flow -/

theorem ite {c : Prop} [Decidable c] {v : State} (hu : Framing p bank s u) (hv : Framing p bank s v) :
    Framing p bank s (if c then u else v) := by
  split
  · exact hu
  · exact hv

theorem cond (h : Framing p bank s t) (b : Bool) {f : State → State} (hf : ∀ u, Framing p bank s u → Framing p bank s (f u)) :
    Framing p bank s (t.cond b f) := ite (hf t h) h

theorem raiseIf (h : Framing p bank s t) (b : Bool) (e : Evt) : Framing p bank s (t.raiseIf b e) := ite (h.raise e) h

theorem forEach {α : Type} (h : Framing p bank s t) (xs : List α) (f : α → State → State)
    (hstep : ∀ a u, Framing p bank s u → Framing p bank s (f a u)) : Framing p bank s (t.forEach xs f) :=
  State.forEach_invariant (Framing p bank s) xs f hstep h

/-! ### Updates of what hub and pipelines hold -/

theorem onTx (h : Framing p bank s t) (q : Port) (f : TxState → TxState) : Framing p bank s (t.onTx q f) := h.same rfl rfl rfl

theorem onTransit (h : Framing p bank s t) (q : Port) (o : Nat) (f : TransitChan → TransitChan) :
    Framing p bank s (t.onTransit q o f) := h.same rfl rfl rfl

theorem onAdd (h : Framing p bank s t) (ch : Nat) (f : AddChan → AddChan) : Framing p bank s (t.onAdd ch f) := h.same rfl rfl rfl

theorem onChanKey (h : Framing p bank s t) (ch : Nat) (f : ChanKeys → ChanKeys) : Framing p bank s (t.onChanKey ch f) :=
  h.same rfl rfl rfl

theorem onKey (h : Framing p bank s t) (k : Nat) (f : KeySlot → KeySlot) : Framing p bank s (t.onKey k f) := h.same rfl rfl rfl

theorem onLane (h : Framing p bank s t) (k : Nat) (f : LaneState → LaneState) : Framing p bank s (t.onLane k f) := h.same rfl rfl rfl

theorem onClient (h : Framing p bank s t) (k : Nat) (f : ClientState → ClientState) : Framing p bank s (t.onClient k f) :=
  h.same rfl rfl rfl

theorem onTrace (h : Framing p bank s t) (f : TraceState → TraceState) : Framing p bank s (t.onTrace f) := h.same rfl rfl rfl

theorem useFree (h : Framing p bank s t) : Framing p bank s t.useFree := h.same rfl rfl rfl

theorem sideSwapped (h : Framing p bank s t) (k : Nat) : Framing p bank s (t.sideSwapped k) := h.same rfl rfl rfl

theorem onDv (h : Framing p bank s t) (q : Port) (c : Nat) (f : DvClass → DvClass) : Framing p bank s (t.onDv q c f) :=
  h.onFrame q fun _ => rfl

theorem setSwapSt (h : Framing p bank s t) (q : Port) (v : Nat) : Framing p bank s (t.setSwapSt q v) := by
  cases q <;> exact h.wr (by cases p <;> cases bank <;> decide) v

/-! ### The start of a superframe (R168, R218, R255, R459) -/

theorem tag (h : Framing p bank s t) (src : Nat) (i : Instant) (ss index blockNo depth : Nat) :
    Framing p bank s (t.tag src i ss index blockNo depth) := by
  have hlfsr : ∀ c f, Framing p bank s ({ t with tclk := c }.onTrace f) := fun _ _ => h.same rfl rfl rfl
  exact (hlfsr _ _).cond _ fun u hu => (hu.onTrace _).count _ _ _

theorem confirmTick (h : Framing p bank s t) (q : Port) : Framing p bank s (t.confirmTick q) := by
  have hneg : ∀ f, Framing p bank s (t.onNeg q f) := fun _ => h.same rfl rfl rfl
  exact ite h (((((hneg _).onDv q 2 _).raise _).raiseIf _ _).raiseIf _ _)

/-- The transmit bank changes nowhere else. -/
theorem txSuperframe (h : Framing p false s t) (fc : Nat) : Framing p false s (t.txSuperframe p fc) := by
  unfold State.txSuperframe
  extract_lets u v bank w prot y
  have hu : Framing p false s u := h.onFrame p fun _ => rfl
  have hv : Framing p false s v := (hu.onTx p _).confirmTick p
  have hbank : Framing p false s bank := hv.wr (by cases p <;> decide) _
  have hw : Framing p false s w := (hbank.setSwapSt p 0).onFrame p fun _ => rfl
  have hy : Framing p false s y := hw.same rfl rfl rfl
  exact ite ((hy.sideSwapped _).raise _) (ite (hv.setSwapSt p 2) hv)

/-- So the bank stays but for the first frame of a superframe. -/
theorem boundary {fc : Nat} (h : Framing p (decide (fc % 256 ≠ 0)) s t) :
    Framing p (decide (fc % 256 ≠ 0)) s (t.cond (decide (fc % 256 = 0)) fun s => s.txSuperframe p fc) := by
  by_cases hj : fc % 256 = 0
  · simp only [hj] at h ⊢
    exact h.txSuperframe fc
  · simp only [hj, State.cond] at h ⊢
    exact h

theorem recordFrame (h : Framing p bank s t) (q : Port) (j : Nat) : Framing p bank s (t.recordFrame q j) := by
  unfold State.recordFrame
  extract_lets r u
  have hu : Framing p bank s u := h.onTx q _
  exact hu.same rfl rfl rfl

/-! ### The ring vector (R249, R250) -/

theorem ring (h : Framing p bank s t) (x : RingState) : Framing p bank s { t with ring := x } := h.same rfl rfl rfl

theorem bumpSeq (h : Framing p bank s t) : Framing p bank s (t.bump HB_RING.RPT_LOCAL_SEQ) :=
  h.wr (by cases p <;> cases bank <;> decide) _

theorem ringNeighbour (h : Framing p bank s t) (q : Port) : Framing p bank s (t.ringNeighbour q) := by
  unfold State.ringNeighbour
  dsimp only
  split
  · exact (h.ring _).cond _ fun u hu => hu.bumpSeq.raise _
  · exact (h.ring _).cond _ fun u hu => (hu.ring _).bumpSeq.raise _

theorem ringEntry (h : Framing p bank s t) (n : Nat) : Framing p bank s (t.ringEntry n) := by
  unfold State.ringEntry
  dsimp only
  split
  · exact h.ring _
  · exact ite ((h.ring _).raiseIf _ _) (h.ring _)

theorem rememberNbrs (h : Framing p bank s t) (n v : Nat) : Framing p bank s (t.rememberNbrs n v) :=
  (h.cond _ fun _ hu => hu.ring _).cond _ fun _ hu => hu.ring _

theorem buildVector (h : Framing p bank s t) : Framing p bank s t.buildVector := by
  unfold State.buildVector
  extract_lets before own u v w z y
  have hu : Framing p bank s u := (h.ringNeighbour .E).ringNeighbour .W
  have hv : Framing p bank s v := hu.forEach _ _ fun n _ hx => hx.ringEntry n
  have hz : Framing p bank s z := hv.ring _
  have hy : Framing p bank s y := hz.forEach _ _ fun n _ hx => hx.rememberNbrs n _
  exact hy.raiseIf _ _

/-! ### The add side (R200, R210 to R222, R268 to R288) -/

theorem serveKey (h : Framing p bank s t) (n ss : Nat) : Framing p bank s (t.serveKey n ss) := ite h ((h.onKey n _).raiseIf _ _)

/-- `CLIENT_STATUS.XOFF_SENT` of any client starts at bit 16. -/
theorem setXoffSent (h : Framing p bank s t) (k v : Nat) :
    Framing p bank s (t.setClientStatus k (HL_CLIENT.CLIENT_STATUS_XOFF_SENT k) v) := by
  have hkey : (HL_CLIENT.CLIENT_STATUS_XOFF_SENT k).key % 32 = 16 := by
    simp only [Field.key, HL_CLIENT.CLIENT_STATUS_XOFF_SENT]
    omega
  exact ite h ((h.wr (fun f hf heq => sentFields_lsb_ne hf (heq ▸ hkey)) v).raise _)

theorem sendPfc (h : Framing p bank s t) (k c quanta : Nat) : Framing p bank s (t.sendPfc k c quanta) :=
  h.cond _ fun _ hu => (((hu.cond _ fun _ hv => hv.emit _).count _ _ _).setXoffSent k _).raiseIf _ _

theorem notePool (h : Framing p bank s t) : Framing p bank s t.notePool := ite (h.same rfl rfl rfl) (h.same rfl rfl rfl)

theorem grant (h : Framing p bank s t) (k c n era : Nat) : Framing p bank s (t.grant k c n era) := h.cond _ fun _ hu => hu.onLane k _

theorem freeCells (h : Framing p bank s t) (k : Packet) : Framing p bank s (t.freeCells k) := by
  have hused : ∀ a b, Framing p bank s { t with shared := a, headUsed := b } := fun _ _ => h.same rfl rfl rfl
  unfold State.freeCells
  extract_lets u v w
  have hu : Framing p bank s u := (hused _ _).notePool
  have hw : Framing p bank s w := (hu.onClient k.client _).grant _ _ _ _
  exact hw.cond _ fun _ hx => hx.sendPfc _ _ _

theorem plainBytes (h : Framing p bank s t) (ch n : Nat) : Framing p bank s (t.plainBytes ch n).1 := by
  unfold State.plainBytes
  split
  · exact h.same rfl rfl rfl
  · exact (h.onAdd ch _).forEach _ _ fun k _ hu => hu.freeCells k

theorem hashUnits (h : Framing p bank s t) (ch ss : Nat) (units : List (List Nat)) (whole : Bool) :
    Framing p bank s (t.hashUnits ch ss units whole) := h.onAdd ch _

theorem closeTag (h : Framing p bank s t) (ch : Nat) : Framing p bank s (t.closeTag ch) := ite (h.onAdd ch _).useFree (h.onAdd ch _)

theorem aesBad (h : Framing p bank s t) (l : List (Bool × Nat × Nat × Nat)) : Framing p bank s { t with aesBad := l } :=
  h.same rfl rfl rfl

theorem makeOwn (h : Framing p bank s t) (ch f : Nat) : Framing p bank s (t.makeOwn ch f) := by
  unfold State.makeOwn
  extract_lets places k ss bad u byKey squelch v units0 z0 w r y made units z z1 z2 last
  have hv : Framing p bank s v := (h.raiseIf _ _).onChanKey ch _
  have hw : Framing p bank s w := hv.cond _ fun _ hx => hx.serveKey _ _
  have hy : Framing p bank s y := hw.plainBytes ch _
  have hz1 : Framing p bank s z1 := (hy.onAdd ch _).hashUnits ch ss _ _
  have hlast : Framing p bank s last := ite (((hv.onAdd ch _).hashUnits ch ss _ _).raiseN _ _) ((hz1.aesBad _).raiseN _ _)
  exact ite h (hlast.cond _ fun _ hx => hx.closeTag ch)

theorem makeUnits (h : Framing p bank s t) (ch f : Nat) : Framing p bank s (t.makeUnits ch f) := by
  unfold State.makeUnits
  split
  · exact h.makeOwn _ f
  · exact h.makeOwn ch f

/-! ### Transit buffers and the words of a frame (R170, R234 to R242, R274) -/

theorem positionWords (h : Framing p bank s t) (q : Port) (x fc : Nat) : Framing p bank s (t.positionWords q x fc).1 := by
  unfold State.positionWords
  dsimp only
  split
  · split <;> exact h
  · split
    · exact h.onTransit q _ _
    · exact h

theorem wordFields (h : Framing p bank s t) (q : Port) (fc : Nat) : Framing p bank s (t.wordFields q fc).1 := by
  unfold State.wordFields
  dsimp only
  split
  · exact h
  · split
    · exact h
    · split
      · exact h.onFrame q fun _ => rfl
      · exact (h.positionWords q _ fc).onFrame q fun _ => rfl

theorem transitFrame (h : Framing p bank s t) (q : Port) (o : Nat) : Framing p bank s (t.transitFrame q o).1 := by
  have hmap : Framing p bank s ((t.wr HB_RING.TRANSIT_ERR_LCH o).wr HB_RING.TRANSIT_ERR_PORT q.toNat) :=
    (h.wr (by cases p <;> cases bank <;> decide) _).wr (by cases p <;> cases bank <;> decide) _
  unfold State.transitFrame
  dsimp only
  split
  · exact h.raiseN _ _
  · split
    · exact hmap
    · split
      · exact h.raiseN _ _
      · split
        · exact (((h.onTransit q o _).raiseN _ _).raiseN _ _).raiseN _ _
        · exact h

/-- The line channels of a port in turn. -/
theorem transitFrames (q : Port) (l : List Nat) {a : State × List (Nat × List Nat)} (h : Framing p bank s a.1) :
    Framing p bank s (l.foldl (fun a o => let r := a.1.transitFrame q o; (r.1, a.2 ++ r.2)) a).1 := by
  induction l generalizing a with
  | nil => exact h
  | cons o l ih => exact ih (h.transitFrame q o)

theorem transitAll (h : Framing p bank s t) (q : Port) : Framing p bank s (t.transitAll q).1 :=
  transitFrames q (t.transitLchs q) (a := (_, [])) (h.raiseIf _ _)

theorem nextCell (h : Framing p bank s t) (q : Port) : Framing p bank s (t.nextCell q).1 := by
  unfold State.nextCell
  dsimp only
  split
  · exact h
  · exact (h.onDv q _ _).raiseIf _ _

/-! ### The end of a superframe (R46 to R59) -/

theorem emitConverter (h : Framing p bank s t) (q : Port) (segs : List Segment) (zeros : List Nat) (c : Fin 4) :
    Framing p bank s (t.emitConverter q segs zeros c) := (h.emit _).raiseN _ _

theorem endSuperframe (h : Framing p bank s t) (q : Port) : Framing p bank s (t.endSuperframe q) := by
  unfold State.endSuperframe
  extract_lets f x0 x ss last r count cws blocks segs sends u v w
  have hu : Framing p bank s u := h.onFrame q fun _ => rfl
  have hv : Framing p bank s v := hu.cond _ fun _ hy => (hy.emit _).raiseN _ _
  have hw : Framing p bank s w := hv.cond _ fun _ hy => hy.forEach _ _ fun c _ hz => hz.emitConverter q _ _ c
  exact hw.onTx q _

end State.Framing

end Sys2Proof.Machine
end

section
/-! A frame start numbers and sends its frame (O39; R161 to R175, R184), the writes of the error injections, and messages received. -/

namespace Sys2Proof.Machine

open F

/-- What a frame start of a port with the number `fc` shows and counts. -/
structure State.FrameShown (p : Port) (fc : Nat) (s t : State) : Prop where
  numbering : (t.frame.get p).numbering = (true, fc, (s.frame.get p).injFaw - 1, (s.frame.get p).injFcs - 1)
  other : (t.frame.get p.other).numbering = (s.frame.get p.other).numbering
  cause : t.rd (HB_FRAME.FRM_STATUS_RDI_CAUSE_TX p) = s.rdiCause p
  bank : fc % 256 ≠ 0 → t.rd (HB_FRAME.FRM_STATUS_TX_BANK p) = s.rd (HB_FRAME.FRM_STATUS_TX_BANK p)

namespace State.FrameShown

variable {p : Port} {fc : Nat} {s t u : State}

/-- The rest of the frame start leaves it. -/
theorem framing (h : FrameShown p fc s t) (k : Framing p (decide (fc % 256 ≠ 0)) t u) : FrameShown p fc s u where
  numbering := (k.numbering p).trans h.numbering
  other := (k.numbering p.other).trans h.other
  cause := (k.rd _ (by simp [sentFields])).trans h.cause
  bank hfc := (k.rd _ (by simp [sentFields, hfc])).trans (h.bank hfc)

/-- The frame gets its number, is built, and its cause is shown with the injections counted. -/
theorem of_built {number after : FrameState → FrameState}
    (hnumber : (number (s.frame.get p)).numbering = (true, fc, (s.frame.get p).injFaw, (s.frame.get p).injFcs))
    (hbuilt : Framing p (decide (fc % 256 ≠ 0)) (s.onFrame p number) t)
    (hafter : ∀ x, (after x).numbering = (x.started, x.fcTx, x.injFaw - 1, x.injFcs - 1)) :
    FrameShown p fc s ((t.wr (HB_FRAME.FRM_STATUS_RDI_CAUSE_TX p) (t.rdiCause p)).onFrame p after) where
  numbering := by
    have hb : (t.frame.get p).numbering = (true, fc, (s.frame.get p).injFaw, (s.frame.get p).injFcs) := by
      rw [hbuilt.numbering p, State.onFrame, Pair.get_upd_same, hnumber]
    simp only [FrameState.numbering, Prod.mk.injEq] at hb
    obtain ⟨hstarted, hfc, hfaw, hfcs⟩ := hb
    rw [State.onFrame, Pair.get_upd_same, hafter, ← hfaw, ← hfcs, ← hfc, ← hstarted]
    rfl
  other := by
    rw [State.onFrame, Pair.get_upd_other]
    refine (hbuilt.numbering p.other).trans ?_
    rw [State.onFrame, Pair.get_upd_other]
  cause := by
    have hcause : t.rdiCause p = s.rdiCause p := hbuilt.rdiCause.trans (State.rdiCause_congr fun _ _ => rfl)
    rw [hcause]
    exact (State.rd_wr_same t _ _).trans (Nat.mod_eq_of_lt (s.rdiCause_lt p))
  bank hfc := (State.rd_wr_ne t _ (by cases p <;> decide)).trans (hbuilt.rd _ (by simp [sentFields, hfc]))

end State.FrameShown

/-- A frame start shows and counts its frame, and sends it. -/
theorem State.frameStart_sends (s : State) (p : Port) (i : Instant) (part : Nat) :
    FrameShown p (nextFc s p) s (s.frameStart p i part) ∧ ∃ oh, Out.frame p (nextFc s p) oh ∈ (s.frameStart p i part).out := by
  unfold State.frameStart
  extract_lets f fc wrap opened s2 s3 j s4 s5 s6 x n chans s7 s8 w s9 r s10 cols c s11 f' cause shown flags rdei smap smc oh body fcs
    counted body' s14 fcs' s15 sent s17
  have h3 : Framing p (decide (fc % 256 ≠ 0)) opened s3 := ((State.Framing.refl p _ opened).raiseIf _ _).tag _ _ _ _ _ _
  have h6 : Framing p (decide (fc % 256 ≠ 0)) opened s6 := (h3.boundary.recordFrame p j).cond _ fun _ hu => hu.buildVector
  have h7 : Framing p (decide (fc % 256 ≠ 0)) opened s7 := h6.forEach _ _ fun ch _ hu => hu.makeUnits ch fc
  have h8 : Framing p (decide (fc % 256 ≠ 0)) opened s8 := h7.forEach _ _ fun o _ hu => hu.onTransit p o _
  have h9 : Framing p (decide (fc % 256 ≠ 0)) opened s9 := (h8.wordFields p fc).raiseN _ _
  have h11 : Framing p (decide (fc % 256 ≠ 0)) opened s11 := (h9.transitAll p).nextCell p
  have hcounted : FrameShown p fc s counted := State.FrameShown.of_built rfl h11 fun _ => rfl
  have h14 : Framing p (decide (fc % 256 ≠ 0)) counted s14 := .ite (.refl p _ counted) (State.Framing.refl p _ counted).useFree
  have h15 : Framing p (decide (fc % 256 ≠ 0)) counted s15 := .ite h14 h14.useFree
  have h17 : Framing p (decide (fc % 256 ≠ 0)) sent s17 := (State.Framing.refl p _ sent).onFrame p fun _ => rfl
  have hend : Framing p (decide (fc % 256 ≠ 0)) sent (s17.cond (decide (j = 255)) fun s => s.endSuperframe p) :=
    h17.cond _ fun _ hu => hu.endSuperframe p
  exact ⟨(hcounted.framing (h15.emit _)).framing hend, oh, hend.out.subset List.mem_cons_self⟩

/-! ### Messages received (R175) -/

/-- The oldest message of a port leaves the queue. -/
def State.messageTaken (s : State) (p : Port) : State := { s with dvInbox := s.dvInbox.eraseP fun m => m.1 = p }

theorem execDvorrovMessageReceived_found {s : State} {p q : Port} {c : Nat} {body : List Nat} (hclk : s.Clocked)
    (hfound : (s.dvInbox.find? fun m => m.1 = p) = some (q, c, body)) :
    execDvorrovMessageReceived p s = .next (((s.messageTaken p).raise (Ev.HB_FRAME.dvReceived p)).emit (.dvorrov p c body)) := by
  rw [execDvorrovMessageReceived, State.clocked_run hclk, hfound]
  rfl

/-- Settles O39: a frame start goes through `frameStart_sends`, whose parts each keep `State.Framing`. -/
theorem framesSent : Obligations.FramesSent := by
  unfold Obligations.FramesSent
  refine ⟨?starts, ?stopped, ?faw, ?fcs, ?received⟩
  case starts =>
    intro p x part s hclk
    obtain ⟨⟨hnumbering, hother, hcause, hbank⟩, hsent⟩ := s.frameStart_sends p x (min part 3126)
    simp only [FrameState.numbering, Prod.mk.injEq] at hnumbering hother
    obtain ⟨hstarted, hfc, hfaw, hfcs⟩ := hnumbering
    obtain ⟨-, hotherFc, -, -⟩ := hother
    exact ⟨_, congrArg Host.Outcome.next (if_neg (Bool.eq_false_iff.1 hclk)), hstarted, hfc, hsent, hcause, hbank, hotherFc, hfaw,
      hfcs⟩
  case stopped => exact fun p x part s hstop => ⟨s, congrArg Host.Outcome.next (if_pos hstop), rfl⟩
  case faw =>
    intro r p n s ht
    refine ⟨_, congrArg Host.Outcome.next (State.guarded_of_takes ht _), ?_⟩
    simp [State.injectFaw, State.onFrame]
  case fcs =>
    intro r p n s ht
    refine ⟨_, congrArg Host.Outcome.next (State.guarded_of_takes ht _), ?_⟩
    simp [State.injectFcs, State.onFrame]
  case received =>
    intro p q c body s hclk hfound
    have hcounted : Counted (Ev.HB_FRAME.dvReceived p) (s.messageTaken p) ((s.messageTaken p).raise (Ev.HB_FRAME.dvReceived p)) :=
      State.raise_counted hclk (by cases p <;> decide)
    have hkeeps : KeepsFieldsBut [] s (s.messageTaken p) := (KeepsFieldsBut.refl [] s).same rfl rfl
    exact ⟨_, execDvorrovMessageReceived_found hclk hfound, congrArg _ (State.raise_out _ _), hcounted, State.raise_dvInbox _ _,
      (hkeeps.raise _).same rfl rfl⟩

end Sys2Proof.Machine
end


section
/-! What leaves toward a client, and what events leave of the conditions on which it does (R187 to R202, R207, R222 to R224): the
register fields by which a packet may start are none of an event's, and an egress leaves the registers. -/

namespace Sys2Proof.Machine

open F

/-! ### The fields by which a packet may start (R189, R192, R200, R222) -/

/-- The register fields of lane and client `n` by which a packet may start. -/
def egressFields (n : Nat) : List Field :=
  [HL_LANE.LANE_CFG_ENABLE n, HL_LANE.LANE_CFG_MODE n, HL_LANE.LANE_STATUS_FAR_RX_OK n, HL_LANE.PRBS_CFG_GEN_EN n,
    HL_CLIENT.CLIENT_CFG_RATE n, HL_CLIENT.CLIENT_CFG_MAX_FRAME n, HL_CLIENT.FC_CFG_FC_EN n, HL_CLIENT.CLIENT_STATUS_LF n,
    HL_CLIENT.CLIENT_STATUS_RF n, HL_CLIENT.CLIENT_STATUS_PAUSED n]

/-- A flow's client number has 5 bits; for those no field is an event's. -/
theorem egressFields_quiet {n : Nat} (hn : n < 32) {f : Field} (hf : f ∈ egressFields n) : f.quiet = true := by
  have hplace : f.off < 4096 ∧ f.lsb < 32 ∧ f.off ≠ 0x010 ∧ f.page ≠ 1 := by
    simp only [egressFields, List.mem_cons, List.not_mem_nil, or_false] at hf
    rcases hf with rfl | rfl | rfl | rfl | rfl | rfl | rfl | rfl | rfl | rfl <;>
      simp only [HL_LANE.LANE_CFG_ENABLE, HL_LANE.LANE_CFG_MODE, HL_LANE.LANE_STATUS_FAR_RX_OK, HL_LANE.PRBS_CFG_GEN_EN,
        HL_CLIENT.CLIENT_CFG_RATE, HL_CLIENT.CLIENT_CFG_MAX_FRAME, HL_CLIENT.FC_CFG_FC_EN, HL_CLIENT.CLIENT_STATUS_LF,
        HL_CLIENT.CLIENT_STATUS_RF, HL_CLIENT.CLIENT_STATUS_PAUSED] <;> omega
  obtain ⟨hoff, hlsb, hevt, hpage⟩ := hplace
  exact Field.quiet_of ⟨hoff, hlsb⟩ hevt hpage

/-- Those fields of every client read alike. -/
def State.SameEgress (s t : State) : Prop := ∀ n, n < 32 → ∀ f ∈ egressFields n, t.rd f = s.rd f

theorem KeepsFieldsBut.sameEgress {s t : State} (h : KeepsFieldsBut [] s t) : s.SameEgress t :=
  fun _ hn f hf => (h f (egressFields_quiet hn hf) (by simp)).1

namespace State.SameEgress

variable {s t : State} {n k : Nat} (h : s.SameEgress t)

include h

theorem on (hn : n < 32) {f : Field} (hf : f ∈ egressFields n) : t.on f = s.on f := by rw [State.on, h n hn f hf, State.on]

theorem laneMode (hn : n < 32) : t.laneMode n = s.laneMode n := h n hn (HL_LANE.LANE_CFG_MODE n) (by simp [egressFields])

theorem laneOn (hn : n < 32) : t.laneOn n = s.laneOn n := h.on hn (f := HL_LANE.LANE_CFG_ENABLE n) (by simp [egressFields])

theorem clientIanen (hk : k < 32) : t.clientIanen k = s.clientIanen k := by rw [State.clientIanen, h.laneMode hk, State.clientIanen]

theorem wideAt (hk : k < 32) : t.wideAt k = s.wideAt k := by
  rw [State.wideAt, h.laneMode hk, h k hk (HL_CLIENT.CLIENT_CFG_RATE k) (by simp [egressFields]), State.wideAt]

theorem coveredLane (hk : k < 32) : t.coveredLane k = s.coveredLane k := by
  have hwide (n : Nat) : t.wideAt (k - k % n) = s.wideAt (k - k % n) := h.wideAt (by omega)
  simp only [State.coveredLane, hwide]

theorem clientLanes (hk : k < 32) : t.clientLanes k = s.clientLanes k := by
  have hmodes : ((List.range 24).filter fun i => decide (k ≤ i ∧ i < k + s.wideAt k ∧ t.laneMode i = 1)) =
      (List.range 24).filter fun i => decide (k ≤ i ∧ i < k + s.wideAt k ∧ s.laneMode i = 1) :=
    List.filter_congr fun i hi => by rw [h.laneMode ((List.mem_range.1 hi).trans (by decide))]
  simp only [State.clientLanes, h.clientIanen hk, h.wideAt hk, h.coveredLane hk, hmodes]

omit h in
/-- A client's lanes are among the first 24, or the one of an Ianen client. -/
theorem lane_lt (hk : k < 32) {i : Nat} (hi : i ∈ s.clientLanes k) : i < 32 := by
  unfold State.clientLanes at hi
  dsimp only at hi
  split at hi
  · rw [List.mem_singleton.1 hi]
    exact hk
  · split at hi
    · exact (List.mem_range.1 (List.mem_of_mem_filter hi)).trans (by decide)
    · cases hi

theorem clientWhole (hk : k < 32) : t.clientWhole k = s.clientWhole k := by
  rw [State.clientWhole, h.clientIanen hk, h.clientLanes hk, h.wideAt hk, State.clientWhole]

theorem clientReplaced (hk : k < 32) : t.clientReplaced k = s.clientReplaced k := by
  rw [State.clientReplaced, h.clientLanes hk, State.clientReplaced, Bool.eq_iff_iff]
  simp only [List.any_eq_true]
  refine exists_congr fun i => and_congr_right fun hi => ?_
  rw [h.on (lane_lt hk hi) (f := HL_LANE.PRBS_CFG_GEN_EN i) (by simp [egressFields])]

theorem clientSends (hk : k < 32) : t.clientSends k = s.clientSends k := by
  have hon : (s.clientLanes k).all t.laneOn = (s.clientLanes k).all s.laneOn := by
    rw [Bool.eq_iff_iff]
    simp only [List.all_eq_true]
    exact forall_congr' fun i => forall_congr' fun hi => by rw [h.laneOn (lane_lt hk hi)]
  simp only [State.clientSends, h.clientWhole hk, h.clientLanes hk, hon, h.clientIanen hk,
    h.on hk (f := HL_LANE.LANE_STATUS_FAR_RX_OK k) (by simp [egressFields]),
    h.on hk (f := HL_CLIENT.CLIENT_STATUS_LF k) (by simp [egressFields]),
    h.on hk (f := HL_CLIENT.CLIENT_STATUS_RF k) (by simp [egressFields])]

theorem fcOn (hk : k < 32) (c : Nat) : t.fcOn k c = s.fcOn k c := by
  rw [State.fcOn, h k hk (HL_CLIENT.FC_CFG_FC_EN k) (by simp [egressFields]), State.fcOn]

theorem maxFrame (hk : k < 32) : t.maxFrame k = s.maxFrame k := by
  rw [State.maxFrame, h k hk (HL_CLIENT.CLIENT_CFG_MAX_FRAME k) (by simp [egressFields]), State.maxFrame]

theorem creditOk (hlane : t.lane = s.lane) (hk : k < 32) (c : Nat) : t.creditOk k c = s.creditOk k c := by
  have hhost : t.hostLane k = s.hostLane k := by rw [State.hostLane, hlane, State.hostLane]
  rw [State.creditOk, h.fcOn hk, hhost, h.maxFrame hk, State.creditOk]

/-- A packet may start where it could, if no verdict report came to wait. -/
theorem mayStart (hlane : t.lane = s.lane) (hreport : t.reportWaits k = s.reportWaits k) (hk : k < 32) (c : Nat) :
    t.mayStart k c = s.mayStart k c := by
  simp only [State.mayStart, h.clientSends hk, hreport, h.clientIanen hk, State.hostLane, hlane, h.creditOk hlane hk, State.paused,
    h k hk (HL_CLIENT.CLIENT_STATUS_PAUSED k) (by simp [egressFields])]

end State.SameEgress

/-! ### A packet sent, and the egress of a class (R194, R195, R200, R207) -/

/-- States that differ at most in what a packet sent changes: lanes, the output and counters. -/
def State.SendFrame (s t : State) : Prop := t = { s with lane := t.lane, out := t.out, cnt := t.cnt }

theorem State.sendPacket_sendFrame (s : State) (x : Packet) : s.SendFrame (s.sendPacket x) := by
  unfold State.sendPacket
  extract_lets ianen u v
  have hu : s.SendFrame u := by cases hi : ianen <;> simp only [u, hi] <;> rfl
  have hv : s.SendFrame v := by
    unfold State.SendFrame at hu
    cases hr : u.clientReplaced x.client <;> simp only [v, hr] <;> rw [hu] <;> rfl
  cases x.error
  · exact hv
  · unfold State.SendFrame at hv ⊢
    rw [State.cond_true, State.count, hv]
    split <;> rfl

/-- A drop packet gives back its cells, and nothing else but the marks of the pool's level changes (R222, R231). -/
theorem State.freeDrop_poolFrame (s : State) (x : Packet) : s.freeDrop x =
    { s with shared := s.shared - x.shared, dropUsed := s.dropUsed - x.head, poolOver := (s.freeDrop x).poolOver,
             poolUnder := (s.freeDrop x).poolUnder } := by
  have hnote (t : State) : t.notePool = { t with poolOver := t.notePool.poolOver, poolUnder := t.notePool.poolUnder } := by
    unfold State.notePool
    split <;> rfl
  exact hnote _

/-- States that differ at most in what an egress changes: lanes, clients, cells, the output and counters. -/
def State.EgressFrame (s t : State) : Prop :=
  t = { s with lane := t.lane, out := t.out, cnt := t.cnt, client := t.client, shared := t.shared, dropUsed := t.dropUsed,
               poolOver := t.poolOver, poolUnder := t.poolUnder }

namespace State.EgressFrame

variable {s t u : State}

theorem refl (s : State) : s.EgressFrame s := rfl

theorem trans (h : s.EgressFrame t) (k : t.EgressFrame u) : s.EgressFrame u := by
  unfold State.EgressFrame at *
  rw [k, h]

theorem ite {c : Prop} [Decidable c] {v : State} (hu : s.EgressFrame u) (hv : s.EgressFrame v) :
    s.EgressFrame (if c then u else v) := by
  split
  · exact hu
  · exact hv

theorem count (h : s.EgressFrame t) (page off n : Nat) : s.EgressFrame (t.count page off n) := h.trans (ite rfl rfl)

theorem freeDrop (h : s.EgressFrame t) (x : Packet) : s.EgressFrame (t.freeDrop x) :=
  h.trans (by unfold State.EgressFrame; rw [t.freeDrop_poolFrame x])

theorem sendPacket (h : s.EgressFrame t) (x : Packet) : s.EgressFrame (t.sendPacket x) :=
  h.trans (by unfold State.EgressFrame; rw [t.sendPacket_sendFrame x])

theorem noteStall (h : s.EgressFrame t) (k c : Nat) : s.EgressFrame (t.noteStall k c) :=
  ite ((h.trans (u := t.onClient k _) rfl).count _ _ _) h

theorem egressOne (h : s.EgressFrame t) (k c : Nat) : s.EgressFrame (t.egressOne k c) := by
  unfold State.egressOne
  split
  · exact h
  · exact (((h.trans (u := t.onClient k _) rfl).freeDrop _).sendPacket _).noteStall k c

theorem egressAll (m : Nat) (h : s.EgressFrame t) (k c : Nat) : s.EgressFrame (State.egressAll m t k c) := by
  induction m generalizing t with
  | zero => exact h
  | succ m ih => exact ite (ih (h.egressOne k c)) h

theorem flushEgress (h : s.EgressFrame t) (k c : Nat) : s.EgressFrame (t.flushEgress k c) := h.egressAll _ k c

end State.EgressFrame

/-- An egress leaves every register field. -/
theorem KeepsFieldsBut.egress {l : List Field} {s t u : State} (h : KeepsFieldsBut l s t) (k : t.EgressFrame u) : KeepsFieldsBut l s u :=
  h.same (by rw [k]) (by rw [k])

/-- A client's counter that is neither of packets sent in error nor of packets held for credit (R231). -/
def egressLeaves (off : Nat) : Prop := off % 0x20 < 0x18

namespace State

variable (s : State) {off : Nat} (hoff : egressLeaves off)

include hoff

theorem sendPacket_counter (x : Packet) : (s.sendPacket x).counter 28 off = s.counter 28 off := by
  have hne : 28 * 4096 + clientCnt x.client 6 ≠ 28 * 4096 + off := by
    unfold egressLeaves at hoff
    unfold clientCnt
    omega
  unfold State.sendPacket
  extract_lets ianen u v
  have hu : u.counter 28 off = s.counter 28 off := by
    cases hi : ianen <;> simp only [u, hi] <;> rfl
  have hv : v.counter 28 off = u.counter 28 off := by
    cases hr : u.clientReplaced x.client <;> simp only [v, hr] <;> rfl
  cases x.error
  · exact hv.trans hu
  · exact (State.counter_count_ne v _ _ _ _ _ hne).trans (hv.trans hu)

theorem noteStall_counter (k c : Nat) : (s.noteStall k c).counter 28 off = s.counter 28 off := by
  have hne : 28 * 4096 + clientCnt k 7 ≠ 28 * 4096 + off := by
    unfold egressLeaves at hoff
    unfold clientCnt
    omega
  unfold State.noteStall
  split
  · exact State.counter_count_ne _ _ _ _ _ _ hne
  · rfl

omit hoff in
theorem freeDrop_counter (x : Packet) (page off : Nat) : (s.freeDrop x).counter page off = s.counter page off := by
  unfold State.freeDrop State.notePool
  split <;> rfl

theorem egressOne_counter (k c : Nat) : (s.egressOne k c).counter 28 off = s.counter 28 off := by
  unfold State.egressOne
  split
  · rfl
  · exact (State.noteStall_counter _ hoff _ _).trans ((State.sendPacket_counter _ hoff _).trans (State.freeDrop_counter _ _ _ _))

theorem egressAll_counter (m k c : Nat) : (State.egressAll m s k c).counter 28 off = s.counter 28 off := by
  induction m generalizing s with
  | zero => rfl
  | succ m ih =>
    rw [State.egressAll]
    split
    · exact (ih _).trans (s.egressOne_counter hoff k c)
    · rfl

theorem flushEgress_counter (k c : Nat) : (s.flushEgress k c).counter 28 off = s.counter 28 off := s.egressAll_counter hoff _ k c

end State

/-- What the record of the output holds of a packet sent (R194, R195, R202). -/
theorem State.sendPacket_out (s : State) (x : Packet) : (s.sendPacket x).out =
    if s.clientReplaced x.client then s.out
    else if s.clientIanen x.client then .packet x.client 0 x.bytes x.error :: s.out
    else .packet x.client 12 (ethPreamble ++ x.bytes) x.error :: s.out := by
  unfold State.sendPacket
  extract_lets ianen u v
  have hu : u.out = s.out := by
    cases hi : ianen <;> simp only [u, hi] <;> rfl
  have hreplaced : u.clientReplaced x.client = s.clientReplaced x.client := by
    cases hi : ianen <;> simp only [u, hi] <;> rfl
  have hcounted : (v.cond x.error fun s => s.count 28 (clientCnt x.client 6) 1).out = v.out := by
    rw [v.cond_eventFrame x.error _ (v.count_eventFrame _ _ _)]
  rw [hcounted, ← hreplaced, ← hu, show s.clientIanen x.client = ianen from rfl]
  clear_value ianen u
  cases hr : u.clientReplaced x.client <;> cases hi : ianen <;> simp [v, hr, hi, State.emit]

/-- The blocks of a packet sent wait for the lane frames of an Ianen client (R195). -/
theorem State.sendPacket_txq (s : State) (x : Packet) (hianen : s.clientIanen x.client = true) :
    ((s.sendPacket x).hostLane x.client).txq = (s.hostLane x.client).txq ++ s.chargedBlocks x := by
  unfold State.sendPacket
  extract_lets ianen u v
  have hi : ianen = true := hianen
  have hu : (u.hostLane x.client).txq = (s.hostLane x.client).txq ++ s.chargedBlocks x := by
    simp [u, hi, State.hostLane, State.onLane]
  have hv : v.lane = u.lane := by
    cases hr : u.clientReplaced x.client <;> simp only [v, hr] <;> rfl
  have hcounted : (v.cond x.error fun s => s.count 28 (clientCnt x.client 6) 1).lane = v.lane := by
    rw [v.cond_eventFrame x.error _ (v.count_eventFrame _ _ _)]
  rw [← hu, State.hostLane, hcounted, hv, State.hostLane]

/-- The blocks of a packet without their charges (R200, R211). -/
theorem State.chargedBlocks_fst (s : State) (x : Packet) :
    (s.chargedBlocks x).map (·.1) = packetBlocks x.tag x.bytes x.error := by
  have hblocks : packetBlocks x.tag x.bytes x.error ≠ [] := List.cons_ne_nil _ _
  unfold State.chargedBlocks
  generalize packetBlocks x.tag x.bytes x.error = l at hblocks
  simp [List.getLast?_eq_some_getLast hblocks, List.dropLast_append_getLast hblocks, Function.comp_def]

end Sys2Proof.Machine
end


section
/-! Frames that enter the hub (R192, R193, R198, R204 to R210, R222): the checks of a frame, its classification and its queueing, and
what an Ianen client's frame leaves of its lane and of the counters of its block. -/

namespace Sys2Proof.Machine

open F

/-! ### The checks of a frame (R193) -/

/-- A frame of client `k` is in error (R193). -/
def State.frameError (s : State) (k : Nat) (b : List Nat) (broken : Bool) : Bool :=
  broken || decide (b.length < 64) || decide (s.maxFrame k < b.length) ||
    decide (b.drop (b.length - 4) ≠ ethFcs (b.take (b.length - 4)))

/-- The state in which a frame in error has been counted (R231). -/
def State.errorCounted (s : State) (k : Nat) (error : Bool) : State := s.cond error fun s => s.count 28 (clientCnt k 0) 1

/-- Updates of counters alone. -/
def State.CountFrame (s t : State) : Prop := t = { s with cnt := t.cnt }

theorem State.count_countFrame (s : State) (page off n : Nat) : s.CountFrame (s.count page off n) := by
  unfold State.CountFrame State.count
  split <;> rfl

theorem State.CountFrame.trans {s t u : State} (h : s.CountFrame t) (k : t.CountFrame u) : s.CountFrame u := by
  unfold State.CountFrame at *
  rw [k, h]

theorem State.errorCounted_countFrame (s : State) (k : Nat) (error : Bool) : s.CountFrame (s.errorCounted k error) := by
  cases error
  · rfl
  · exact s.count_countFrame _ _ _

/-- A frame that is no MAC control frame is classified while `ADD_EN` is set (R193). -/
theorem State.frameIn_classified {s : State} {k : Nat} {b : List Nat} {broken : Bool} {ns : Nat} {first : Bool} {era : Nat}
    (htype : word16 b 12 ≠ 0x8808) (hen : s.on HB_FLOW.FLOW_CTRL_ADD_EN = true) :
    s.frameIn k b broken ns first era =
      (s.errorCounted k (s.frameError k b broken)).classifyFrame k b (s.frameError k b broken) ns first era := by
  have hadd : (s.errorCounted k (s.frameError k b broken)).on HB_FLOW.FLOW_CTRL_ADD_EN = true := by
    rw [s.errorCounted_countFrame k]
    exact hen
  unfold State.frameIn
  exact (if_neg htype).trans (if_pos hadd)

theorem State.frameError_good {s : State} {k : Nat} {b : List Nat} (hmin : 64 ≤ b.length) (hmax : b.length ≤ s.maxFrame k)
    (hfcs : b.drop (b.length - 4) = ethFcs (b.take (b.length - 4))) : s.frameError k b false = false := by
  simp [State.frameError, Nat.not_lt.2 hmin, Nat.not_lt.2 hmax, hfcs]

/-! ### Classification (R204 to R206) -/

/-- A VLAN entry that is not valid is a miss (R204). -/
theorem State.classifyFrame_miss {s : State} {k : Nat} {b : List Nat} {error : Bool} {ns : Nat} {first : Bool} {era w : Nat}
    (hentry : s.vlanWord (s.vlanIndex k b).1 = some w) (hvalid : bitOf w 0 = false) :
    s.classifyFrame k b error ns first era = s.raise Ev.HB_FLOW.vlanMiss := by
  simp [State.classifyFrame, hentry, hvalid]

/-- The flow that a VLAN entry gives to a frame (R204). -/
def State.vlanFlow (s : State) (k : Nat) (b : List Nat) (w : Nat) : Nat :=
  (bits w 2 14 + (if bitOf w 1 then (s.vlanIndex k b).2 else 0)) % 16384

/-- A frame of a valid flow of its client, within the flow's policer, goes to the queue of the flow's channel and class. -/
theorem State.classifyFrame_queued {s : State} {k : Nat} {b : List Nat} {error : Bool} {ns : Nat} {first : Bool} {era w : Nat}
    (hentry : s.vlanWord (s.vlanIndex k b).1 = some w) (hvalid : bitOf w 0 = true)
    (hwritten : s.flowWritten (s.vlanFlow k b w) = true) (hflow : s.flowValid (s.vlanFlow k b w) = true)
    (hclient : s.flowClient (s.vlanFlow k b w) = k) (hpasses : (s.police (s.vlanFlow k b w) b.length ns first).2 = true) :
    s.classifyFrame k b error ns first era =
      (s.police (s.vlanFlow k b w) b.length ns first).1.queueAdd (s.flowChannel (s.vlanFlow k b w))
        ⟨s.vlanFlow k b w, s.flowTag (s.vlanFlow k b w), b, error, 0, 0, k, s.flowClass (s.vlanFlow k b w), era⟩ := by
  unfold State.vlanFlow at *
  simp [State.classifyFrame, hentry, hvalid, hwritten, hflow, hclient, hpasses]

/-- Updates of policer buckets alone. -/
def State.BucketFrame (s t : State) : Prop := t = { s with bucket := t.bucket }

/-- The policer changes its buckets alone (R206). -/
theorem State.police_bucketFrame (s : State) (flow len ns : Nat) (first : Bool) : s.BucketFrame (s.police flow len ns first).1 := by
  unfold State.police
  extract_lets cir cbs
  split <;> rfl

/-- Whether a packet passes does not rest on counters. -/
theorem State.police_snd_cnt (s : State) (c : Tab Nat) (flow len ns : Nat) (first : Bool) :
    ({ s with cnt := c }.police flow len ns first).2 = (s.police flow len ns first).2 := by
  unfold State.police
  rw [apply_ite Prod.snd, apply_ite Prod.snd]
  rfl

/-! ### Queueing (R210, R222 to R224) -/

/-- States that differ at most in what events, flow counters and PFC frames change. -/
def State.SignalFrame (s t : State) : Prop :=
  t = { s with regs := t.regs, cnt := t.cnt, msixLatch := t.msixLatch, intLow := t.intLow, flowCnt := t.flowCnt, out := t.out }

namespace State.SignalFrame

variable {s t u : State}

theorem refl (s : State) : s.SignalFrame s := rfl

theorem trans (h : s.SignalFrame t) (k : t.SignalFrame u) : s.SignalFrame u := by
  unfold State.SignalFrame at *
  rw [k, h]

theorem ite {c : Prop} [Decidable c] {v : State} (hu : s.SignalFrame u) (hv : s.SignalFrame v) :
    s.SignalFrame (if c then u else v) := by
  split
  · exact hu
  · exact hv

theorem cond (h : s.SignalFrame t) (b : Bool) {f : State → State} (hf : ∀ u, s.SignalFrame u → s.SignalFrame (f u)) :
    s.SignalFrame (t.cond b f) := ite (hf t h) h

theorem eventFrame (h : s.SignalFrame t) (k : t.EventFrame u) : s.SignalFrame u := h.trans (by unfold State.SignalFrame; rw [k])

theorem raise (h : s.SignalFrame t) (e : Evt) : s.SignalFrame (t.raise e) := h.eventFrame (t.raiseN_eventFrame e 1)

theorem raiseIf (h : s.SignalFrame t) (b : Bool) (e : Evt) : s.SignalFrame (t.raiseIf b e) := ite (h.raise e) h

theorem count (h : s.SignalFrame t) (page off n : Nat) : s.SignalFrame (t.count page off n) := h.eventFrame (t.count_eventFrame _ _ _)

theorem flowCount (h : s.SignalFrame t) (f k n : Nat) : s.SignalFrame (t.flowCount f k n) :=
  (h.trans (u := (t.flowAdd (8 * f + k) n).1) rfl).raiseIf _ _

theorem setClientStatus (h : s.SignalFrame t) (k : Nat) (f : Field) (v : Nat) : s.SignalFrame (t.setClientStatus k f v) :=
  ite h ((h.trans (u := t.wr f v) rfl).raise _)

theorem sendPfc (h : s.SignalFrame t) (k c quanta : Nat) : s.SignalFrame (t.sendPfc k c quanta) :=
  h.cond _ fun _ hu => (((hu.cond _ fun v hv => hv.trans (u := v.emit _) rfl).count _ _ _).setClientStatus _ _ _).raiseIf _ _

end State.SignalFrame

/-- Packet `x`, charged to the shared pool, stands last in its class of channel `ch`. -/
structure State.Queued (ch : Nat) (x : Packet) (s t : State) : Prop where
  shared : t.shared = s.shared + cellsOf x.bytes.length
  headUsed : t.headUsed = s.headUsed
  queue : Tab.get [] (t.addOf ch).queues x.tclass =
    Tab.get [] (s.addOf ch).queues x.tclass ++ [{ x with shared := cellsOf x.bytes.length, head := 0 }]

theorem State.Queued.signal {ch : Nat} {x : Packet} {s t u : State} (h : s.Queued ch x t) (k : t.SignalFrame u) :
    s.Queued ch x u where
  shared := by rw [k]; exact h.shared
  headUsed := by rw [k]; exact h.headUsed
  queue := by rw [k]; exact h.queue

theorem State.Queued.from {ch : Nat} {x : Packet} {r s t : State} (h : r.Queued ch x t) (hshared : r.shared = s.shared)
    (hhead : r.headUsed = s.headUsed) (hadd : r.add = s.add) : s.Queued ch x t where
  shared := by rw [← hshared]; exact h.shared
  headUsed := by rw [← hhead]; exact h.headUsed
  queue := by rw [State.addOf, State.addOf, ← hadd]; exact h.queue

/-- A packet planned for the shared pool is charged to it and queued last in its class (R210, R222). -/
theorem State.queueAdd_queued {s : State} {ch : Nat} {x : Packet} (hplaces : (s.addPlaces ch).isEmpty = false)
    (hplan : s.cellPlan x.client x.tclass (cellsOf x.bytes.length) = .shared) : s.Queued ch x (s.queueAdd ch x) := by
  unfold State.queueAdd
  extract_lets n back discard
  rw [if_neg (by rw [hplaces]; decide), hplan]
  dsimp -zeta only
  extract_lets sh hd pooled charged queued counted marked
  have hsh : sh = n := if_pos rfl
  have hhd : hd = 0 := by rw [show hd = n - sh from rfl, hsh, Nat.sub_self]
  have hpooled : pooled.shared = s.shared + sh ∧ pooled.headUsed = s.headUsed + hd ∧ pooled.add = s.add := by
    simp only [pooled, State.notePool]
    split <;> exact ⟨rfl, rfl, rfl⟩
  obtain ⟨hshared, hhead, hadd⟩ := hpooled
  clear_value pooled
  have hqueued : s.Queued ch x queued := by
    refine ⟨hshared.trans (by rw [hsh]), hhead.trans (by rw [hhd, Nat.add_zero]), ?_⟩
    simp only [queued, charged, State.onAdd, State.onClient, State.addOf, hadd, Tab.get_upd_same, hsh, hhd, n]
  have hmarked : queued.SignalFrame marked :=
    (((SignalFrame.refl queued).flowCount _ _ _).flowCount _ _ _).cond _ fun _ hu => hu.flowCount _ _ _
  exact hqueued.signal (hmarked.cond _ fun _ hu => hu.sendPfc _ _ _)

end Sys2Proof.Machine
end


section
/-! What an Ianen client's frame leaves of its lane's packets and of the counters of its block, and PFC frames and pauses (R192, R193,
R198, R200, R222, R231). -/

namespace Sys2Proof.Machine

open F

/-! ### What a frame at the hub leaves (R193, R198) -/

/-- An offset of the counters of page 28 that neither PFC frames, nor control frames, nor changes of status count: of each client
those of bad frames and of corrected symbols (R231). -/
def ingressLeaves (off : Nat) : Prop := off % 16 = 0 ∧ off < 0x700

/-- The packets that the lanes have received, and those counters, stay. -/
structure State.Ingests (s t : State) : Prop where
  due : ∀ m, (t.hostLane m).due = (s.hostLane m).due
  counter : ∀ off, ingressLeaves off → t.counter 28 off = s.counter 28 off

namespace State.Ingests

variable {s t u : State}

theorem refl (s : State) : s.Ingests s := ⟨fun _ => rfl, fun _ _ => rfl⟩

theorem same (h : s.Ingests t) (hlane : u.lane = t.lane) (hcnt : u.cnt = t.cnt) : s.Ingests u where
  due m := by rw [State.hostLane, hlane]; exact h.due m
  counter off ho := by rw [State.counter, hcnt]; exact h.counter off ho

theorem ite {c : Prop} [Decidable c] {v : State} (hu : s.Ingests u) (hv : s.Ingests v) : s.Ingests (if c then u else v) := by
  split
  · exact hu
  · exact hv

theorem cond (h : s.Ingests t) (b : Bool) {f : State → State} (hf : ∀ u, s.Ingests u → s.Ingests (f u)) : s.Ingests (t.cond b f) :=
  ite (hf t h) h

/-- An event of another page than 28 counts there. -/
theorem raise (h : s.Ingests t) {e : Evt} (he : e.page * 4096 + e.off < 28 * 4096) : s.Ingests (t.raise e) where
  due m := by rw [State.hostLane, State.raise_lane]; exact h.due m
  counter off ho := (State.raise_counter_ne t e 28 off (by omega) (by omega)).trans (h.counter off ho)

theorem raiseIf (h : s.Ingests t) (b : Bool) {e : Evt} (he : e.page * 4096 + e.off < 28 * 4096) : s.Ingests (t.raiseIf b e) :=
  ite (h.raise he) h

theorem statusChange (h : s.Ingests t) (k : Nat) : s.Ingests (t.raise (Ev.HL_CLIENT.statusChange k)) where
  due m := by rw [State.hostLane, State.raise_lane]; exact h.due m
  counter off ho := by
    have hlt : off < 0x700 := ho.2
    rw [← h.counter off ho]
    exact State.raise_counter_ne t _ 28 off (by simp only [Ev.HL_CLIENT.statusChange]; omega) (by omega)

theorem count (h : s.Ingests t) {off : Nat} (hoff : off % 16 ≠ 0) (n : Nat) : s.Ingests (t.count 28 off n) where
  due m := by rw [t.count_countFrame 28 off n]; exact h.due m
  counter o ho := by
    have hmod : o % 16 = 0 := ho.1
    rw [← h.counter o ho]
    exact State.counter_count_ne t _ _ _ _ _ (by omega)

theorem onLane (h : s.Ingests t) (k : Nat) {f : LaneState → LaneState} (hf : ∀ x, (f x).due = x.due) : s.Ingests (t.onLane k f) where
  due m := by
    rw [← h.due m]
    by_cases hm : k = m
    · subst hm
      simp [State.hostLane, State.onLane, hf]
    · simp [State.hostLane, State.onLane, Tab.get_upd_ne _ _ _ hm]
  counter off ho := h.counter off ho

theorem onClient (h : s.Ingests t) (k : Nat) (f : ClientState → ClientState) : s.Ingests (t.onClient k f) := h.same rfl rfl

theorem onAdd (h : s.Ingests t) (ch : Nat) (f : AddChan → AddChan) : s.Ingests (t.onAdd ch f) := h.same rfl rfl

theorem flowCount (h : s.Ingests t) (f k n : Nat) : s.Ingests (t.flowCount f k n) :=
  (h.same (u := (t.flowAdd (8 * f + k) n).1) rfl rfl).raiseIf _ (by decide)

theorem checkError (h : s.Ingests t) (table index : Nat) : s.Ingests (t.checkError table index) :=
  (h.same (u := (t.wr HB_FLOW.CHK_ERR_TABLE table).wr HB_FLOW.CHK_ERR_INDEX index) rfl rfl).raise (by decide)

theorem setClientStatus (h : s.Ingests t) (k : Nat) (f : Field) (v : Nat) : s.Ingests (t.setClientStatus k f v) :=
  ite h ((h.same (u := t.wr f v) rfl rfl).statusChange k)

theorem sendPfc (h : s.Ingests t) (k c quanta : Nat) : s.Ingests (t.sendPfc k c quanta) :=
  h.cond _ fun _ hu =>
    (((hu.cond _ fun v hv => hv.same (u := v.emit _) rfl rfl).count (by unfold clientCnt; omega) _).setClientStatus _ _ _).raiseIf _
      (by decide)

theorem grant (h : s.Ingests t) (k c n era : Nat) : s.Ingests (t.grant k c n era) := h.cond _ fun _ hu => hu.onLane k fun _ => rfl

theorem notePool (h : s.Ingests t) : s.Ingests t.notePool := ite (h.same rfl rfl) (h.same rfl rfl)

theorem queueAdd (h : s.Ingests t) (ch : Nat) (x : Packet) : s.Ingests (t.queueAdd ch x) := by
  unfold State.queueAdd
  extract_lets n back discard
  have hdiscard : s.Ingests (discard t) := ((h.flowCount _ _ _).raise (by decide)).grant _ _ _ _
  refine ite hdiscard ?_
  split
  · exact hdiscard
  · exact ((h.flowCount _ _ _).raise (by decide)).grant _ _ _ _
  · extract_lets sh hd pooled charged queued counted marked
    have hpooled : s.Ingests pooled := (h.same (u := { t with shared := t.shared + sh, headUsed := t.headUsed + hd }) rfl rfl).notePool
    have hqueued : s.Ingests queued := (hpooled.onClient _ _).onAdd _ _
    have hmarked : s.Ingests marked := ((hqueued.flowCount _ _ _).flowCount _ _ _).cond _ fun _ hu => hu.flowCount _ _ _
    exact hmarked.cond _ fun _ hu => hu.sendPfc _ _ _

theorem police (h : s.Ingests t) (flow len ns : Nat) (first : Bool) : s.Ingests (t.police flow len ns first).1 :=
  h.same (by rw [t.police_bucketFrame]) (by rw [t.police_bucketFrame])

theorem classifyFrame (h : s.Ingests t) (k : Nat) (b : List Nat) (error : Bool) (ns : Nat) (first : Bool) (era : Nat) :
    s.Ingests (t.classifyFrame k b error ns first era) := by
  unfold State.classifyFrame
  extract_lets v
  split
  · exact h.checkError _ _
  · extract_lets flow r
    have hr : s.Ingests r.1 := h.police _ _ _ _
    exact ite (h.raise (by decide)) (ite (h.checkError _ _) (ite (h.raise (by decide))
      (ite ((hr.flowCount _ _ _).grant _ _ _ _) (hr.queueAdd _ _))))

end State.Ingests

/-- An Ianen client's frame, after the count of one in error, leaves its lane's packets and those counters (R193, R198). -/
theorem State.frameIn_ingests {s : State} {k : Nat} (hianen : s.clientIanen k = true) (b : List Nat) (broken : Bool) (ns : Nat)
    (first : Bool) (era : Nat) : (s.errorCounted k (s.frameError k b broken)).Ingests (s.frameIn k b broken ns first era) := by
  have hstart := State.Ingests.refl (s.errorCounted k (s.frameError k b broken))
  have hctrl : (s.errorCounted k (s.frameError k b broken)).clientIanen k = true := by
    rw [s.errorCounted_countFrame k]
    exact hianen
  unfold State.frameIn
  extract_lets n error u
  have hu : (s.errorCounted k (s.frameError k b broken)).Ingests u := hstart
  have hianenCounted : u.clientIanen k = true := hctrl
  clear_value u
  refine .ite ?_ (.ite (hu.classifyFrame _ _ _ _ _ _) hu)
  rw [if_neg fun h => by simp [hianenCounted] at h]
  exact hu.count (by unfold clientCnt; omega) _

/-! ### Pauses (R222) -/

/-- Bits of a value changed one by one. -/
theorem bitOf_foldl_setBit (p q : Nat → Bool) (l : List Nat) (v d : Nat) :
    bitOf (l.foldl (fun v c => if p c then setBit v c (q c) else v) v) d =
      if d ∈ l ∧ p d = true then q d else bitOf v d := by
  induction l generalizing v with
  | nil => simp
  | cons c l ih =>
    rw [List.foldl_cons, ih]
    by_cases hl : d ∈ l ∧ p d = true
    · simp [hl]
    · rw [if_neg hl]
      by_cases hc : c = d
      · subst hc
        cases p c <;> simp
      · have hd : bitOf (if p c then setBit v c (q c) else v) d = bitOf v d := by
          split
          · exact bitOf_setBit_ne v c d _ hc
          · rfl
        rw [hd, if_neg]
        rintro ⟨hmem, hp⟩
        exact hl ⟨(List.mem_cons.1 hmem).resolve_left (Ne.symm hc), hp⟩

/-- A client's status field after it was given a value. -/
theorem State.setClientStatus_rd (s : State) (k : Nat) {f : Field} (hf : f.quiet = true) (v : Nat) :
    (s.setClientStatus k f v).rd f = v % 2 ^ f.width := by
  unfold State.setClientStatus
  split
  · next h =>
    subst h
    exact (Nat.mod_eq_of_lt (s.rd_lt f)).symm
  · rw [State.raise_rd _ _ _ hf, State.rd_wr_same]

theorem KeepsFieldsBut.setClientStatus {l : List Field} {s t : State} (h : KeepsFieldsBut l s t) (k : Nat) {f : Field} (hf : f ∈ l)
    (v : Nat) : KeepsFieldsBut l s (t.setClientStatus k f v) := ite h ((h.wr hf v).raise _)

/-- The pauses of a client in its status. -/
theorem paused_quiet (k : Fin 24) : (HL_CLIENT.CLIENT_STATUS_PAUSED k).quiet = true :=
  egressFields_quiet (n := k) (by omega) (by simp [egressFields])

theorem State.pfcReceived_keeps (s : State) (k vec : Nat) (times : List Nat) :
    KeepsFieldsBut [HL_CLIENT.CLIENT_STATUS_PAUSED k] s (s.pfcReceived k vec times) :=
  (((KeepsFieldsBut.refl _ s).count _ _ _).setClientStatus k List.mem_cons_self _).forEach _ _ fun c u hu =>
    hu.egress ((State.EgressFrame.refl u).flushEgress k c)

end Sys2Proof.Machine
end


section
/-! Packets that leave the stream of a channel: what is counted and logged of them, and their delivery (O43; R207, R209, R291). -/

namespace Sys2Proof.Machine

open F

/-! ### A delivered packet is counted and logged (R207, R209, R291) -/

/-- A change of a channel that leaves its verdict reports brings none to wait for a client (R290). -/
theorem State.reportWaits_onDrop {s : State} {ch k : Nat} {f : DropChan → DropChan} (hf : ∀ d, (f d).reports = d.reports)
    (h : s.reportWaits k = false) : (s.onDrop ch f).reportWaits k = false := by
  have hnone (t : State) : t.reportWaits k = false ↔ ∀ e ∈ t.drop, ∀ v ∈ e.2.reports, v.client ≠ k := by
    simp [State.reportWaits]
  have hget (t : Tab DropChan) (ht : ∀ e ∈ t, ∀ v ∈ e.2.reports, v.client ≠ k) :
      ∀ v ∈ (Tab.get DropChan.init t ch).reports, v.client ≠ k := by
    induction t with
    | nil => intro v hv; cases hv
    | cons e t ih =>
      obtain ⟨key, d⟩ := e
      obtain ⟨hd, ht⟩ := List.forall_mem_cons.1 ht
      rw [Tab.get]
      split
      · exact hd
      · exact ih ht
  rw [hnone] at h ⊢
  intro e he
  unfold State.onDrop Tab.upd Tab.set at he
  dsimp only at he
  split at he
  · exact h e (Tab.mem_erase he)
  · obtain rfl | hmem := Tab.mem_insert he
    · rw [hf]
      exact hget s.drop h
    · exact h e hmem

/-- What the counts and the log entry of a packet of channel `ch` leave. -/
structure State.Booked (ch : Nat) (s t : State) : Prop where
  frame : t = { s with regs := t.regs, cnt := t.cnt, msixLatch := t.msixLatch, intLow := t.intLow, flowCnt := t.flowCnt,
                       drop := t.drop }
  keeps : KeepsFieldsBut [] s t
  due : (t.dropOf ch).due = (s.dropOf ch).due
  reports : ∀ k, s.reportWaits k = false → t.reportWaits k = false

namespace State.Booked

variable {ch : Nat} {s t u : State}

theorem refl (ch : Nat) (s : State) : s.Booked ch s := ⟨rfl, .refl _ _, rfl, fun _ h => h⟩

theorem ite {c : Prop} [Decidable c] {v : State} (hu : s.Booked ch u) (hv : s.Booked ch v) : s.Booked ch (if c then u else v) := by
  split
  · exact hu
  · exact hv

theorem cond (h : s.Booked ch t) (b : Bool) {f : State → State} (hf : ∀ u, s.Booked ch u → s.Booked ch (f u)) :
    s.Booked ch (t.cond b f) := ite (hf t h) h

theorem raise (h : s.Booked ch t) (e : Evt) : s.Booked ch (t.raise e) where
  frame := by
    rw [State.raise, t.raiseN_eventFrame e 1, h.frame]
  keeps := h.keeps.raise e
  due := by rw [State.dropOf, State.raise_drop]; exact h.due
  reports k hk := by rw [State.reportWaits, State.raise_drop]; exact h.reports k hk

theorem flowAdd (h : s.Booked ch t) (idx n : Nat) : s.Booked ch (t.flowAdd idx n).1 where
  frame := by
    rw [h.frame]
    rfl
  keeps := h.keeps.same rfl rfl
  due := h.due
  reports := h.reports

theorem flowCount (h : s.Booked ch t) (f k n : Nat) : s.Booked ch (t.flowCount f k n) := ite ((h.flowAdd _ _).raise _) (h.flowAdd _ _)

theorem onDrop (h : s.Booked ch t) {f : DropChan → DropChan} (hdue : ∀ d, (f d).due = d.due)
    (hreports : ∀ d, (f d).reports = d.reports) : s.Booked ch (t.onDrop ch f) where
  frame := by
    rw [h.frame]
    rfl
  keeps := h.keeps.onDrop ch f
  due := by
    rw [← h.due, State.dropOf, State.onDrop]
    simp only [Tab.get_upd_same, hdue, State.dropOf]
  reports k hk := State.reportWaits_onDrop hreports (h.reports k hk)

theorem lane (h : s.Booked ch t) : t.lane = s.lane := by rw [h.frame]

theorem out (h : s.Booked ch t) : t.out = s.out := by rw [h.frame]

theorem client (h : s.Booked ch t) : t.client = s.client := by rw [h.frame]

theorem flowClient (h : s.Booked ch t) (f : Nat) : t.flowClient f = s.flowClient f := by
  rw [h.frame]
  rfl

theorem flowClass (h : s.Booked ch t) (f : Nat) : t.flowClass f = s.flowClass f := by
  rw [h.frame]
  rfl

theorem flowTag (h : s.Booked ch t) (f : Nat) : t.flowTag f = s.flowTag f := by
  rw [h.frame]
  rfl

theorem logPacket (h : s.Booked ch t) (tag ss : Nat) : s.Booked ch (t.logPacket ch tag ss) :=
  ite h (ite ((h.flowCount _ _ _).raise _) (h.onDrop (fun _ => rfl) fun _ => rfl))

end State.Booked

/-- A delivered packet of a valid flow is counted, and logged where its channel delivers before the verdict (R209, R291). -/
def State.booked (s : State) (ch tag : Nat) (bytes : List Nat) (error : Bool) (ss : Nat) : State :=
  let s := (s.flowCount tag 2 1).flowCount tag 3 bytes.length
  let s := s.cond error fun s => s.flowCount tag 6 1
  s.cond (s.rxInteg ch && !s.holdRelease ch) fun s => s.logPacket ch tag ss

theorem State.booked_booked (s : State) (ch tag : Nat) (bytes : List Nat) (error : Bool) (ss : Nat) :
    s.Booked ch (s.booked ch tag bytes error ss) :=
  ((((State.Booked.refl ch s).flowCount _ _ _).flowCount _ _ _).cond _ fun _ hu => hu.flowCount _ _ _).cond _ fun _ hu =>
    hu.logPacket _ _

/-! ### Delivery (R207) -/

/-- The oldest packet of a channel's stream leaves the list of those that are due. -/
def State.dueTaken (s : State) (ch : Nat) (rest : List (Nat × List Nat × Bool × Nat)) : State :=
  s.onDrop ch fun d => { d with due := rest }

theorem State.dueTaken_due (s : State) (ch : Nat) (rest : List (Nat × List Nat × Bool × Nat)) :
    ((s.dueTaken ch rest).dropOf ch).due = rest := by
  simp [State.dueTaken, State.dropOf, State.onDrop]

variable {ch : Fin 192} {tag : Nat} {bytes : List Nat} {err : Bool} {ss : Nat} {rest : List (Nat × List Nat × Bool × Nat)} {s : State}

/-- The oldest packet of a channel whose tag names a written context is delivered, where the flow is valid for the channel. -/
theorem execDropPacketDelivery_written (hclk : s.Clocked) (hdue : (s.dropOf ch.val).due = (tag, bytes, err, ss) :: rest)
    (hen : s.on HB_FLOW.FLOW_CTRL_DROP_EN = true) (hwritten : s.flowWritten tag = true) :
    execDropPacketDelivery ch s = .next (
      if !s.flowValid tag || decide (s.flowChannel tag ≠ ch.val) then (s.dueTaken ch rest).raise Ev.HB_FLOW.dropTagMiss
      else
        let u := (s.dueTaken ch rest).booked ch tag bytes err ss
        u.deliver ⟨tag, u.flowTag tag, bytes, err, 0, 0, u.flowClient tag, u.flowClass tag, 0⟩) := by
  have henTaken : (s.dueTaken ch rest).on HB_FLOW.FLOW_CTRL_DROP_EN = true := hen
  have hwrittenTaken : (s.dueTaken ch rest).flowWritten tag = true := hwritten
  rw [execDropPacketDelivery, State.clocked_run hclk, hdue]
  refine congrArg Host.Outcome.next ((if_neg ?_).trans (if_neg ?_))
  · exact fun h => absurd ((congrArg not henTaken).symm.trans h) (by decide)
  · exact fun h => absurd ((congrArg not hwrittenTaken).symm.trans h) (by decide)

/-- A client number of a flow context has 5 bits (R207). -/
theorem State.flowClient_lt (s : State) (f : Nat) : s.flowClient f < 32 := by
  unfold State.flowClient
  split
  · exact Nat.mod_lt _ (by decide)
  · decide

/-- A packet of a class that may start, and in which none waits, is sent at once (R207). -/
theorem State.deliver_sent {x : Packet} (hmay : s.mayStart x.client x.tclass = true)
    (hwaits : s.waits x.client x.tclass = false) : s.deliver x = s.sendPacket x :=
  if_pos (by rw [hmay, hwaits]; rfl)

/-- The packet of a valid flow that may start reaches the flow's client (R194, R195, R207). -/
theorem completes_dropPacketDelivery_sent (hclk : s.Clocked) (hdue : (s.dropOf ch.val).due = (tag, bytes, err, ss) :: rest)
    (hen : s.on HB_FLOW.FLOW_CTRL_DROP_EN = true) (hwritten : s.flowWritten tag = true) (hvalid : s.flowValid tag = true)
    (hchannel : s.flowChannel tag = ch.val) (hmay : s.mayStart (s.flowClient tag) (s.flowClass tag) = true)
    (hwaits : s.waits (s.flowClient tag) (s.flowClass tag) = false) :
    Completes (.dropPacketDelivery ch) s fun t => (t.dropOf ch.val).due = rest ∧
      t.out = (if s.clientReplaced (s.flowClient tag) then s.out
        else if s.clientIanen (s.flowClient tag) then .packet (s.flowClient tag) 0 bytes err :: s.out
        else .packet (s.flowClient tag) 12 (ethPreamble ++ bytes) err :: s.out) ∧
      (s.clientIanen (s.flowClient tag) = true → (t.hostLane (s.flowClient tag)).txq.map (·.1) =
        (s.hostLane (s.flowClient tag)).txq.map (·.1) ++ packetBlocks (s.flowTag tag) bytes err) ∧
      KeepsFieldsBut [] s t := by
  have hfound : (!s.flowValid tag || decide (s.flowChannel tag ≠ ch.val)) = false := by simp [hvalid, hchannel]
  refine ⟨_, (execDropPacketDelivery_written hclk hdue hen hwritten).trans
    (congrArg Host.Outcome.next (if_neg (Bool.eq_false_iff.1 hfound))), ?_⟩
  have hbooked := (s.dueTaken ch rest).booked_booked ch tag bytes err ss
  extract_lets u
  have hu : (s.dueTaken ch rest).Booked ch u := hbooked
  clear_value u
  have hkeeps : KeepsFieldsBut [] s u := ((KeepsFieldsBut.refl [] s).onDrop ch _).trans hu.keeps
  have hsame : s.SameEgress u := hkeeps.sameEgress
  have hlt : s.flowClient tag < 32 := s.flowClient_lt tag
  have hlane : u.lane = s.lane := hu.lane
  rw [show u.flowClient tag = s.flowClient tag from hu.flowClient tag, show u.flowClass tag = s.flowClass tag from hu.flowClass tag,
    show u.flowTag tag = s.flowTag tag from hu.flowTag tag]
  generalize s.flowClient tag = k at *
  generalize s.flowClass tag = c at *
  have hreport : s.reportWaits k = false := by
    cases hr : s.reportWaits k
    · rfl
    · simp [State.mayStart, hr] at hmay
  have hreportU : u.reportWaits k = false := hu.reports k (State.reportWaits_onDrop (fun _ => rfl) hreport)
  have hmayU : u.mayStart k c = true := (hsame.mayStart hlane (hreportU.trans hreport.symm) hlt c).trans hmay
  have hwaitsU : u.waits k c = false := by
    rw [State.waits, State.clientOf, hu.client]
    exact hwaits
  rw [State.deliver_sent (x := ⟨tag, s.flowTag tag, bytes, err, 0, 0, k, c, 0⟩) hmayU hwaitsU]
  refine ⟨?due, ?out, ?txq, ?keeps⟩
  case due =>
    rw [u.sendPacket_sendFrame]
    exact hu.due.trans (s.dueTaken_due ch rest)
  case out =>
    rw [u.sendPacket_out, hsame.clientReplaced hlt, hsame.clientIanen hlt, hu.out]
    rfl
  case txq =>
    intro hianen
    have htxq := u.sendPacket_txq ⟨tag, s.flowTag tag, bytes, err, 0, 0, k, c, 0⟩ ((hsame.clientIanen hlt).trans hianen)
    have hhost : u.hostLane k = s.hostLane k := by rw [State.hostLane, hlane, State.hostLane]
    rw [htxq, List.map_append, State.chargedBlocks_fst, hhost]
  case keeps => exact hkeeps.egress ((State.EgressFrame.refl u).sendPacket _)

/-- A packet whose tag names no valid flow of its channel is a miss (R207). -/
theorem completes_dropPacketDelivery_miss (hclk : s.Clocked) (hdue : (s.dropOf ch.val).due = (tag, bytes, err, ss) :: rest)
    (hen : s.on HB_FLOW.FLOW_CTRL_DROP_EN = true) (hwritten : s.flowWritten tag = true)
    (hmiss : s.flowValid tag = false ∨ s.flowChannel tag ≠ ch.val) :
    Completes (.dropPacketDelivery ch) s fun t => t.out = s.out ∧ (t.dropOf ch.val).due = rest ∧
      Counted Ev.HB_FLOW.dropTagMiss s t ∧ KeepsFieldsBut [] s t := by
  have hfound : (!s.flowValid tag || decide (s.flowChannel tag ≠ ch.val)) = true := by
    rcases hmiss with h | h <;> simp [h]
  have hcounted : Counted Ev.HB_FLOW.dropTagMiss (s.dueTaken ch rest) ((s.dueTaken ch rest).raise Ev.HB_FLOW.dropTagMiss) :=
    State.raise_counted hclk (by decide)
  refine ⟨_, (execDropPacketDelivery_written hclk hdue hen hwritten).trans (congrArg Host.Outcome.next (if_pos hfound)), ?_, ?_,
    hcounted, ((KeepsFieldsBut.refl [] s).onDrop ch _).raise _⟩
  · rw [State.raise_out]
    rfl
  · rw [State.dropOf, State.raise_drop]
    exact s.dueTaken_due ch rest

end Sys2Proof.Machine
end


section
/-! Frames that enter the hub, as commands (O43; R192, R193, R198, R204 to R210). -/

namespace Sys2Proof.Machine

open F

/-! ### Frames that enter (R192, R193, R198, R204 to R210) -/

/-- An Ethernet client's frame comes with what its FEC has counted (R192, R231). -/
def State.fecCounted (s : State) (k corr uncorr : Nat) : State :=
  (s.count 28 (clientCnt k 4) corr).count 28 (clientCnt k 5) uncorr

theorem State.fecCounted_countFrame (s : State) (k corr uncorr : Nat) : s.CountFrame (s.fecCounted k corr uncorr) :=
  (s.count_countFrame _ _ _).trans (State.count_countFrame _ _ _ _)

section

variable {k : Fin 24} {bytes : List Byte} {broken : Bool} {ns : Nat} {first : Bool} {corr uncorr : Nat} {s : State}

theorem execIngressFrame_off (hclk : s.Clocked) (hoff : (s.clientOn k.val && s.clientWhole k.val) = false) :
    execIngressFrame k bytes broken ns first corr uncorr s = .next s := by
  rw [execIngressFrame, State.clocked_run hclk, if_neg (Bool.eq_false_iff.1 hoff)]

/-- An Ianen client has all its lanes (R187). -/
theorem State.on_whole_of_ianen (hon : s.clientOn k.val = true) (hianen : s.clientIanen k.val = true) :
    (s.clientOn k.val && s.clientWhole k.val) = true := by
  rw [hon, State.clientWhole, hianen]
  rfl

theorem execIngressFrame_ianen_none (hclk : s.Clocked) (hon : s.clientOn k.val = true) (hianen : s.clientIanen k.val = true)
    (hdue : (s.hostLane k.val).due = []) : execIngressFrame k bytes broken ns first corr uncorr s = .next s := by
  rw [execIngressFrame, State.clocked_run hclk, if_pos (State.on_whole_of_ianen hon hianen), if_pos hianen, hdue]

/-- The oldest packet that an Ianen lane has received enters the hub. -/
theorem execIngressFrame_ianen {b : List Nat} {e : Bool} {era : Nat} {rest : List (List Nat × Bool × Nat)} (hclk : s.Clocked)
    (hon : s.clientOn k.val = true) (hianen : s.clientIanen k.val = true) (hdue : (s.hostLane k.val).due = (b, e, era) :: rest) :
    execIngressFrame k bytes broken ns first corr uncorr s =
      .next ((s.onLane k.val fun l => { l with due := rest }).frameIn k.val b e ns first era) := by
  rw [execIngressFrame, State.clocked_run hclk, if_pos (State.on_whole_of_ianen hon hianen), if_pos hianen, hdue]

theorem execIngressFrame_ethernet (hclk : s.Clocked) (hon : s.clientOn k.val = true) (hwhole : s.clientWhole k.val = true)
    (heth : s.clientIanen k.val = false) : execIngressFrame k bytes broken ns first corr uncorr s =
      .next ((s.fecCounted k.val corr uncorr).frameIn k.val (bytes.map (·.toNat)) broken ns first 0) := by
  rw [execIngressFrame, State.clocked_run hclk, if_pos (by rw [hon, hwhole]; rfl), if_neg (Bool.eq_false_iff.1 heth)]
  rfl

theorem completes_ingressFrame_ianen {b : List Nat} {e : Bool} {era : Nat} {rest : List (List Nat × Bool × Nat)} (hclk : s.Clocked)
    (hon : s.clientOn k.val = true) (hianen : s.clientIanen k.val = true) (hdue : (s.hostLane k.val).due = (b, e, era) :: rest) :
    Completes (.ingressFrame k bytes broken ns first corr uncorr) s fun t => (t.hostLane k.val).due = rest ∧
      t.counter 28 (clientCnt k.val 4) = s.counter 28 (clientCnt k.val 4) ∧
      ((e = true ∨ b.length < 64) →
        t.counter 28 (clientCnt k.val 0) = (s.counter 28 (clientCnt k.val 0) + 1) % 2 ^ 64) := by
  refine ⟨_, execIngressFrame_ianen hclk hon hianen hdue, ?_⟩
  generalize hu : (s.onLane k.val fun l => { l with due := rest }) = u
  have hueq : u = { s with lane := u.lane } := by rw [← hu]; rfl
  have hudue : (u.hostLane k.val).due = rest := by rw [← hu]; simp [State.hostLane, State.onLane]
  have huclk : u.Clocked := by rw [hueq]; exact hclk
  have hucount (off : Nat) : u.counter 28 off = s.counter 28 off := by rw [hueq]; rfl
  have hin := State.frameIn_ingests (s := u) (by rw [hueq]; exact hianen) b e ns first era
  have hleaves (j : Nat) (hj : j = 0 ∨ j = 4) : ingressLeaves (clientCnt k.val j) := by
    have := k.isLt
    constructor <;> unfold clientCnt <;> omega
  refine ⟨?due, ?corrected, fun hbad => ?error⟩
  case due =>
    rw [hin.due, State.hostLane, u.errorCounted_countFrame]
    exact hudue
  case corrected =>
    rw [hin.counter _ (hleaves 4 (.inr rfl)), ← hucount]
    unfold State.errorCounted
    cases u.frameError k.val b e
    · rfl
    · exact State.counter_count_ne u _ _ _ _ _ (by unfold clientCnt; omega)
  case error =>
    have herror : u.frameError k.val b e = true := by rcases hbad with h | h <;> simp [State.frameError, h]
    rw [hin.counter _ (hleaves 0 (.inl rfl)), herror, ← hucount]
    exact State.counter_count u _ _ _ (by rw [huclk, Bool.and_false])

/-- What is counted of a frame before it is classified leaves the counters of other pages. -/
theorem State.frameCounted_counter (s : State) (k corr uncorr : Nat) (error : Bool) {page off : Nat}
    (hplace : page * 4096 + off < 28 * 4096) :
    ((s.fecCounted k corr uncorr).errorCounted k error).counter page off = s.counter page off := by
  have hfec : (s.fecCounted k corr uncorr).counter page off = s.counter page off :=
    (State.counter_count_ne _ _ _ _ _ _ (by omega)).trans (State.counter_count_ne _ _ _ _ _ _ (by omega))
  cases error
  · exact hfec
  · exact (State.counter_count_ne _ _ _ _ _ _ (by omega)).trans hfec

theorem completes_ingressFrame_miss {w : Nat} (hclk : s.Clocked) (hon : s.clientOn k.val = true) (hwhole : s.clientWhole k.val = true)
    (heth : s.clientIanen k.val = false) (hen : s.on HB_FLOW.FLOW_CTRL_ADD_EN = true)
    (htype : word16 (bytes.map (·.toNat)) 12 ≠ 0x8808)
    (hentry : s.vlanWord (s.vlanIndex k.val (bytes.map (·.toNat))).1 = some w) (hvalid : bitOf w 0 = false) :
    Completes (.ingressFrame k bytes broken ns first corr uncorr) s fun t => Counted Ev.HB_FLOW.vlanMiss s t ∧
      t.add = s.add ∧ t.shared = s.shared ∧ KeepsFieldsBut [] s t := by
  refine ⟨_, execIngressFrame_ethernet hclk hon hwhole heth, ?_⟩
  have hfec := s.fecCounted_countFrame k.val corr uncorr
  rw [State.frameIn_classified htype (by rw [hfec]; exact hen)]
  have hsame (off : Nat) (hoff : 22 * 4096 + off < 28 * 4096) := s.frameCounted_counter k.val corr uncorr
    ((s.fecCounted k.val corr uncorr).frameError k.val (bytes.map (·.toNat)) broken) hoff
  have hframe := hfec.trans (State.errorCounted_countFrame _ k.val
    ((s.fecCounted k.val corr uncorr).frameError k.val (bytes.map (·.toNat)) broken))
  generalize (s.fecCounted k.val corr uncorr).frameError k.val (bytes.map (·.toNat)) broken = error at hsame hframe ⊢
  generalize (s.fecCounted k.val corr uncorr).errorCounted k.val error = u at hsame hframe ⊢
  have huclk : u.Clocked := by rw [hframe]; exact hclk
  rw [State.classifyFrame_miss (by rw [hframe]; exact hentry) hvalid]
  refine ⟨?_, ?_, ?_, ((KeepsFieldsBut.refl [] s).same (u := u) (by rw [hframe]) (by rw [hframe])).raise _⟩
  · have hcounted : Counted Ev.HB_FLOW.vlanMiss u (u.raise Ev.HB_FLOW.vlanMiss) := State.raise_counted huclk (by decide)
    have hbefore : u.counter 22 0x400 = s.counter 22 0x400 := hsame 0x400 (by decide)
    exact hcounted.trans (congrArg (fun n => (n + 1) % 2 ^ 64) hbefore)
  · rw [State.raise_add, hframe]
  · rw [State.raise_shared, hframe]

theorem completes_ingressFrame_queued {w : Nat} {b : List Nat} (hb : b = bytes.map (·.toNat)) (hclk : s.Clocked)
    (hon : s.clientOn k.val = true) (hwhole : s.clientWhole k.val = true) (heth : s.clientIanen k.val = false)
    (hen : s.on HB_FLOW.FLOW_CTRL_ADD_EN = true) (hmin : 64 ≤ b.length) (hmax : b.length ≤ s.maxFrame k.val)
    (hfcs : b.drop (b.length - 4) = ethFcs (b.take (b.length - 4))) (htype : word16 b 12 ≠ 0x8808)
    (hentry : s.vlanWord (s.vlanIndex k.val b).1 = some w) (hvalid : bitOf w 0 = true)
    (hwritten : s.flowWritten (s.vlanFlow k.val b w) = true) (hflow : s.flowValid (s.vlanFlow k.val b w) = true)
    (hclient : s.flowClient (s.vlanFlow k.val b w) = k.val)
    (hpasses : (s.police (s.vlanFlow k.val b w) b.length ns first).2 = true)
    (hplaces : (s.addPlaces (s.flowChannel (s.vlanFlow k.val b w))).isEmpty = false)
    (hplan : s.cellPlan k.val (s.flowClass (s.vlanFlow k.val b w)) (cellsOf b.length) = .shared) :
    Completes (.ingressFrame k bytes false ns first corr uncorr) s
      (s.Queued (s.flowChannel (s.vlanFlow k.val b w))
        ⟨s.vlanFlow k.val b w, s.flowTag (s.vlanFlow k.val b w), b, false, 0, 0, k.val, s.flowClass (s.vlanFlow k.val b w), 0⟩) := by
  subst hb
  refine ⟨_, execIngressFrame_ethernet hclk hon hwhole heth, ?_⟩
  generalize bytes.map (·.toNat) = b at *
  have hfec := s.fecCounted_countFrame k.val corr uncorr
  generalize s.fecCounted k.val corr uncorr = u at hfec ⊢
  have hgood : u.frameError k.val b false = false := State.frameError_good hmin (by rw [hfec]; exact hmax) hfcs
  rw [State.frameIn_classified htype (by rw [hfec]; exact hen), hgood, State.errorCounted, State.cond_false, hfec]
  generalize u.cnt = c
  rw [State.classifyFrame_queued (s := { s with cnt := c }) (w := w) hentry hvalid hwritten hflow hclient
    ((s.police_snd_cnt c _ _ _ _).trans hpasses)]
  have hbucket := State.police_bucketFrame { s with cnt := c } (s.vlanFlow k.val b w) b.length ns first
  generalize hr : (State.police { s with cnt := c } (s.vlanFlow k.val b w) b.length ns first).1 = r at hbucket
  have hqueued := State.queueAdd_queued (s := r) (ch := s.flowChannel (s.vlanFlow k.val b w))
    (x := ⟨s.vlanFlow k.val b w, s.flowTag (s.vlanFlow k.val b w), b, false, 0, 0, k.val, s.flowClass (s.vlanFlow k.val b w), 0⟩)
    (by rw [hbucket]; exact hplaces) (by rw [hbucket]; exact hplan)
  rw [← hr] at hqueued
  exact hqueued.from (by rw [hr, hbucket]) (by rw [hr, hbucket]) (by rw [hr, hbucket])

end

end Sys2Proof.Machine
end


section
/-! Pauses received and sent, packets of Ianen lanes, and the statement on packets and flow control as a whole (O43; R200, R207, R222). -/

namespace Sys2Proof.Machine

open F

/-! ### Pauses received (R222) -/

/-- Packets that leave as pauses end change no register field. -/
theorem State.flushEgress_rd (s : State) (k c : Nat) (f : Field) : (s.flushEgress k c).rd f = s.rd f := by
  rw [(State.EgressFrame.refl s).flushEgress k c, State.rd, State.rd]

/-- A change of status counts behind a client's other counters (R231). -/
theorem State.setClientStatus_counter (s : State) (k : Nat) (f : Field) (v : Nat) {off : Nat} (hoff : off < 0x700) :
    (s.setClientStatus k f v).counter 28 off = s.counter 28 off := by
  unfold State.setClientStatus
  split
  · rfl
  · exact State.raise_counter_ne (s.wr f v) _ 28 off (by simp only [Ev.HL_CLIENT.statusChange]; omega) (by omega)

theorem completes_pfcFrameReceived {k : Fin 24} {vec : Byte} {times : List (BitVec 16)} {s : State} (hclk : s.Clocked) :
    Completes (.pfcFrameReceived k vec times) s fun t =>
      (∀ c, c < 8 → bitOf (t.rd (HL_CLIENT.CLIENT_STATUS_PAUSED k.val)) c =
        if bitOf vec.toNat c then decide ((times.map (·.toNat)).getD c 0 ≠ 0)
        else bitOf (s.rd (HL_CLIENT.CLIENT_STATUS_PAUSED k.val)) c) ∧
      t.counter 28 (clientCnt k.val 3) = (s.counter 28 (clientCnt k.val 3) + 1) % 2 ^ 64 ∧
      KeepsFieldsBut [HL_CLIENT.CLIENT_STATUS_PAUSED k.val] s t := by
  refine ⟨_, State.clocked_run hclk _, ?_, ?_, s.pfcReceived_keeps k.val _ _⟩
  · intro c hc
    unfold State.pfcReceived
    extract_lets u f v w
    rw [State.forEach_keeps (fun s => s.rd f) _ _ (fun d s => s.flushEgress_rd k.val d f) w,
      show w.rd f = v % 2 ^ 8 from u.setClientStatus_rd k.val (paused_quiet k) v, bitOf_mod _ _ _ hc]
    have hbits := bitOf_foldl_setBit (bitOf vec.toNat) (fun c => decide ((times.map (·.toNat)).getD c 0 ≠ 0)) (List.range 8) (u.rd f) c
    rw [show v = _ from rfl, hbits, show u.rd f = s.rd f from State.rd_count _ _ _ _ _]
    simp [hc, f]
  · have hleaves : egressLeaves (clientCnt k.val 3) := by
      unfold egressLeaves clientCnt
      omega
    unfold State.pfcReceived
    extract_lets u f v w
    have hlt : clientCnt k.val 3 < 0x700 := by
      have := k.isLt
      unfold clientCnt
      omega
    have hw : w.counter 28 (clientCnt k.val 3) = u.counter 28 (clientCnt k.val 3) := u.setClientStatus_counter k.val f v hlt
    rw [State.forEach_keeps (fun s => s.counter 28 (clientCnt k.val 3)) _ _ (fun d s => s.flushEgress_counter hleaves k.val d) w, hw]
    exact State.counter_count s _ _ _ (by rw [hclk, Bool.and_false])

theorem completes_pfcPauseExpiry {k : Fin 24} {c : Fin 8} {s : State} (hclk : s.Clocked) :
    Completes (.pfcPauseExpiry k c) s fun t =>
      bitOf (t.rd (HL_CLIENT.CLIENT_STATUS_PAUSED k.val)) c.val = false ∧
      (∀ d, d < 8 → d ≠ c.val → bitOf (t.rd (HL_CLIENT.CLIENT_STATUS_PAUSED k.val)) d =
        bitOf (s.rd (HL_CLIENT.CLIENT_STATUS_PAUSED k.val)) d) ∧ KeepsFieldsBut [HL_CLIENT.CLIENT_STATUS_PAUSED k.val] s t := by
  refine ⟨_, State.clocked_run hclk _, ?_⟩
  extract_lets f
  have hshown : ((s.setClientStatus k.val f (setBit (s.rd f) c.val false)).flushEgress k.val c.val).rd f =
      setBit (s.rd f) c.val false % 2 ^ 8 :=
    (State.flushEgress_rd _ _ _ _).trans (s.setClientStatus_rd k.val (paused_quiet k) _)
  refine ⟨?_, fun d hd hne => ?_, ((KeepsFieldsBut.refl _ s).setClientStatus k.val List.mem_cons_self _).egress
    ((State.EgressFrame.refl _).flushEgress _ _)⟩
  · rw [hshown, bitOf_mod _ _ _ c.isLt, bitOf_setBit_same]
  · rw [hshown, bitOf_mod _ _ _ hd, bitOf_setBit_ne _ _ _ _ (Ne.symm hne)]

/-! ### Pauses sent (R222) -/

/-- A PFC frame is put out where the client's transmitter sends and no generator replaces it. -/
theorem State.sendPfc_out {s : State} {k c quanta : Nat} (hsends : s.clientSends k = true) (hreplaced : s.clientReplaced k = false) :
    (s.sendPfc k c quanta).out = .pfc k (2 ^ c) quanta :: s.out := by
  have hstatus (t : State) (f : Field) (v : Nat) : (t.setClientStatus k f v).out = t.out := by
    unfold State.setClientStatus
    split
    · rfl
    · exact State.raise_out _ _
  have hraise (t : State) (b : Bool) (e : Evt) : (t.raiseIf b e).out = t.out := by
    cases b
    · rfl
    · exact State.raise_out _ _
  rw [State.sendPfc, hsends, State.cond_true, hreplaced]
  refine (hraise _ _ _).trans ((hstatus _ _ _).trans ?_)
  rw [State.count_countFrame]
  rfl

theorem xoffSent_quiet (k : Fin 24) : (HL_CLIENT.CLIENT_STATUS_XOFF_SENT k).quiet = true := by
  have hplace : 0x04C + 0x10 * k.val < 4096 ∧ 16 < 32 := by omega
  exact Field.quiet_of hplace (show 0x04C + 0x10 * k.val ≠ 0x010 by omega) (show 28 ≠ 1 by decide)

/-- `XOFF_SENT` shows whether the frame pauses its class. -/
theorem State.sendPfc_xoffOn {s : State} {k : Fin 24} {c : Fin 8} {quanta : Nat} (hsends : s.clientSends k.val = true) :
    (s.sendPfc k.val c.val quanta).xoffOn k.val c.val = decide (quanta ≠ 0) := by
  unfold State.sendPfc State.xoffOn
  rw [hsends, State.cond_true, State.raiseIf_rd _ _ _ _ (xoffSent_quiet k), State.setClientStatus_rd _ _ (xoffSent_quiet k)]
  exact (bitOf_mod _ 8 _ c.isLt).trans (bitOf_setBit_same _ _ _)

/-- A PFC frame of a client that does not send is none. -/
theorem State.sendPfc_silent {s : State} {k : Nat} (hsends : s.clientSends k = false) (c quanta : Nat) : s.sendPfc k c quanta = s := by
  rw [State.sendPfc, hsends, State.cond_false]

/-- The quanta that a repeat of XOFF carries: none once the shared cells are at XON. -/
def State.repeatQuanta (s : State) (k c : Nat) : Nat :=
  if s.rd HB_BUF.PFC_THR_XON < Tab.get 0 (s.clientOf k).shared c then 0xFFFF else 0

theorem State.repeatQuanta_ne_zero (s : State) (k c : Nat) :
    decide (s.repeatQuanta k c ≠ 0) = decide (s.rd HB_BUF.PFC_THR_XON < Tab.get 0 (s.clientOf k).shared c) := by
  unfold State.repeatQuanta
  split <;> simp [*]

theorem execPfcRepeatTimer_xoff {k : Fin 24} {c : Fin 8} {s : State} (hclk : s.Clocked) (hxoff : s.xoffOn k.val c.val = true) :
    execPfcRepeatTimer k c s = .next (s.sendPfc k.val c.val (s.repeatQuanta k.val c.val)) := by
  rw [execPfcRepeatTimer, State.clocked_run hclk, if_pos hxoff, State.repeatQuanta, apply_ite (s.sendPfc k.val c.val)]

theorem completes_pfcRepeatTimer_quiet {k : Fin 24} {c : Fin 8} {s : State} (hclk : s.Clocked)
    (hquiet : s.xoffOn k.val c.val = false ∨ s.clientSends k.val = false) : Completes (.pfcRepeatTimer k c) s fun t => t = s := by
  cases hxoff : s.xoffOn k.val c.val
  · exact ⟨s, (State.clocked_run hclk _).trans (congrArg Host.Outcome.next (if_neg (Bool.eq_false_iff.1 hxoff))), rfl⟩
  · have hsends : s.clientSends k.val = false := hquiet.resolve_left (by rw [hxoff]; decide)
    exact ⟨_, execPfcRepeatTimer_xoff hclk hxoff, State.sendPfc_silent hsends _ _⟩

/-! ### Packets of Ianen lanes (R200) -/

/-- A note of a packet held for credit leaves all but its client's notes and a counter. -/
theorem State.noteStall_frame (s : State) (k c : Nat) :
    s.noteStall k c = { s with client := (s.noteStall k c).client, cnt := (s.noteStall k c).cnt } := by
  unfold State.noteStall
  split
  · rw [State.count_countFrame]
    rfl
  · rfl

theorem State.noteStall_egress (s : State) (k c n : Nat) : ((s.noteStall k c).clientOf n).egress = (s.clientOf n).egress := by
  unfold State.noteStall
  split
  · rw [State.count_countFrame]
    by_cases hn : k = n
    · subst hn
      simp [State.clientOf, State.onClient]
    · simp [State.clientOf, State.onClient, Tab.get_upd_ne _ _ _ hn]
  · rfl

/-- The first packet queued of a class leaves its queue. -/
def State.dequeued (s : State) (k c : Nat) : State :=
  s.onClient k fun cl =>
    { cl with egress := cl.egress.eraseP fun y => y.tclass == c, stalled := cl.stalled.filter (· != c) }

theorem State.egressOne_found {s : State} {k c : Nat} {x : Packet}
    (hfound : ((s.clientOf k).egress.find? fun y => y.tclass == c) = some x) :
    s.egressOne k c = (((s.dequeued k c).freeDrop x).sendPacket x).noteStall k c := by
  rw [State.egressOne, hfound]
  rfl

theorem State.egressOne_none {s : State} {k c : Nat} (hfound : ((s.clientOf k).egress.find? fun y => y.tclass == c) = none) :
    s.egressOne k c = s := by
  rw [State.egressOne, hfound]

theorem completes_ianenPacketStart {n : Fin 24} {c : Fin 8} {x : Packet} {s : State} (hclk : s.Clocked)
    (hianen : s.clientIanen n.val = true) (hmay : s.mayStart n.val c.val = true)
    (hfound : ((s.clientOf n.val).egress.find? fun y => y.tclass == c.val) = some x) (hclient : x.client = n) :
    Completes (.ianenPacketStart n c) s fun t =>
      t.out = (if s.clientReplaced n.val then s.out else .packet n.val 0 x.bytes x.error :: s.out) ∧
      (t.hostLane n.val).txq = (s.hostLane n.val).txq ++ s.chargedBlocks x ∧
      ((t.clientOf n.val).egress = (s.clientOf n.val).egress.eraseP fun y => y.tclass == c.val) ∧
      t.shared = s.shared - x.shared ∧ t.dropUsed = s.dropUsed - x.head ∧ KeepsFieldsBut [] s t := by
  refine ⟨_, (State.clocked_run hclk _).trans (congrArg Host.Outcome.next (if_pos ⟨hianen, hmay⟩)), ?_⟩
  have hkeeps : KeepsFieldsBut [] s (s.egressOne n c) := (KeepsFieldsBut.refl _ s).egress ((State.EgressFrame.refl s).egressOne n c)
  rw [State.egressOne_found hfound] at hkeeps ⊢
  have hegress : (((s.dequeued n c).freeDrop x).clientOf n).egress = (s.clientOf n).egress.eraseP fun y => y.tclass == c.val := by
    rw [(s.dequeued n c).freeDrop_poolFrame x]
    simp [State.clientOf, State.dequeued, State.onClient]
  have hfreed := (s.dequeued n c).freeDrop_poolFrame x
  generalize (s.dequeued n c).freeDrop x = u at *
  have hianenFreed : u.clientIanen n = true := by
    rw [hfreed]
    exact hianen
  refine ⟨?out, ?txq, ?queue, ?shared, ?used, hkeeps⟩
  case out =>
    rw [State.noteStall_frame, u.sendPacket_out, hclient, if_pos hianenFreed, hfreed]
    rfl
  case txq =>
    have htxq := u.sendPacket_txq x (by rw [hclient]; exact hianenFreed)
    rw [hclient] at htxq
    rw [State.noteStall_frame]
    refine htxq.trans ?_
    rw [hfreed]
    rfl
  case queue =>
    rw [State.noteStall_egress, u.sendPacket_sendFrame]
    exact hegress
  case shared =>
    rw [State.noteStall_frame, u.sendPacket_sendFrame, hfreed]
    rfl
  case used =>
    rw [State.noteStall_frame, u.sendPacket_sendFrame, hfreed]
    rfl

theorem completes_ianenPacketStart_held {n : Fin 24} {c : Fin 8} {s : State} (hclk : s.Clocked)
    (hheld : s.clientIanen n.val = false ∨ s.mayStart n.val c.val = false ∨
      ((s.clientOf n.val).egress.find? fun y => y.tclass == c.val) = none) : Completes (.ianenPacketStart n c) s fun t => t = s := by
  refine ⟨_, State.clocked_run hclk _, ?_⟩
  rcases hheld with h | h | h
  · exact if_neg (by simp [h])
  · exact if_neg (by simp [h])
  · rw [State.egressOne_none h, ite_self]

/-! ### Packets and flow control -/

/-- Settles O43: each clause is a lemma on the command it is about; what a packet queued or sent leaves is a frame of its parts. -/
theorem hostPacketsAndFlowControl : Obligations.HostPacketsAndFlowControl := by
  unfold Obligations.HostPacketsAndFlowControl
  refine ⟨?off, ?none, ?ianen, ?queued, ?miss, ?delivered, ?tagMiss, ?pfc, ?expiry, ?quiet, ?xoff, ?start, ?held⟩
  case off => exact fun k bytes broken ns first corr uncorr s hclk hoff => ⟨s, execIngressFrame_off hclk hoff, rfl⟩
  case none =>
    exact fun k bytes broken ns first corr uncorr s hclk hon hianen hdue => ⟨s, execIngressFrame_ianen_none hclk hon hianen hdue, rfl⟩
  case ianen =>
    exact fun k bytes broken ns first corr uncorr b e era rest s hclk hon hianen hdue =>
      completes_ingressFrame_ianen hclk hon hianen hdue
  case queued =>
    intro k bytes ns first corr uncorr w s hclk hon hwhole heth hen b hmin hmax hfcs htype hentry hvalid flow hwritten hflow hclient
      hpasses hplaces hplan
    obtain ⟨t, ht, hshared, hhead, hqueue⟩ := completes_ingressFrame_queued (b := b) rfl hclk hon hwhole heth hen hmin hmax hfcs htype
      hentry hvalid hwritten hflow hclient hpasses hplaces hplan
    exact ⟨t, ht, hshared, hhead, _, hqueue, rfl, rfl, rfl, rfl, rfl, rfl, rfl⟩
  case miss =>
    exact fun k bytes broken ns first corr uncorr w s hclk hon hwhole heth hen htype hentry hvalid =>
      completes_ingressFrame_miss hclk hon hwhole heth hen htype hentry hvalid
  case delivered =>
    exact fun ch tag bytes err ss rest s hclk hdue hen hwritten hvalid hchannel hmay hwaits =>
      completes_dropPacketDelivery_sent hclk hdue hen hwritten hvalid hchannel hmay hwaits
  case tagMiss =>
    exact fun ch tag bytes err ss rest s hclk hdue hen hwritten hmiss =>
      completes_dropPacketDelivery_miss hclk hdue hen hwritten hmiss
  case pfc => exact fun k vec times s hclk => completes_pfcFrameReceived hclk
  case expiry => exact fun k c s hclk => completes_pfcPauseExpiry hclk
  case quiet => exact fun k c s hclk hquiet => completes_pfcRepeatTimer_quiet hclk hquiet
  case xoff =>
    intro k c s hclk hxoff hsends hreplaced
    exact ⟨_, execPfcRepeatTimer_xoff hclk hxoff, State.sendPfc_out hsends hreplaced,
      (State.sendPfc_xoffOn hsends).trans (s.repeatQuanta_ne_zero k.val c.val)⟩
  case start =>
    exact fun n c x s hclk hianen hmay hfound hclient => completes_ianenPacketStart hclk hianen hmay hfound hclient
  case held => exact fun n c s hclk hheld => completes_ianenPacketStart_held hclk hheld

end Sys2Proof.Machine
end


section
/-! A lane that a SYNCE input rests on (O42; R189, R326): the input fails as the lane is disabled, and the place of its state in the
register file is also that of a field of page 7 past the end of that page, which the statement does not leave aside. -/

namespace Sys2Proof.Machine

open F

/-- RCLK runs, and input 6 is QUALIFIED on lane 0, an enabled Ethernet lane with clock lock. -/
def State.synceLane : State :=
  ((((State.reset.wr CK_SYN.SYN_STATUS_RCLK_OK 1).wr (HL_LANE.LANE_CFG_MODE 0) 1).wr (HL_LANE.LANE_CFG_ENABLE 0) 1).wr
    (HL_LANE.LANE_STATUS_CDR_LOCK 0) 1).wr (CK_REF.REF_STATUS_STATE 6) refQualified

/-- The place of the state of input 6, counted from the start of page 7 in place of page 8 (R336, R465). -/
def pastPage7 : Field := ⟨7, 4096 + 0x04C + 0x10 * 6, 0, 3, .ro, 0⟩

/-- Both name one place of the register file. -/
theorem State.rd_pastPage7 (s : State) : s.rd pastPage7 = s.refSt 6 := rfl

theorem pastPage7_quiet : pastPage7.quiet = true := by decide

/-- By its page number it is no field of the reference inputs. -/
theorem pastPage7_not_refField : ¬ refField pastPage7 := by
  unfold refField
  decide

/-- A write to the lane's enable is taken. -/
theorem State.synceLane_takes : State.synceLane.Takes .pcie 27 (0x040 + 0x20 * 0) := by decide

theorem State.synceLane_refSt : State.synceLane.refSt 6 = refQualified := by decide

/-- An input without its lane is FAILED at once (R326, R327). -/
theorem State.synceLane_laneDisable_refSt : (State.synceLane.laneDisable 0).refSt 6 = refFailed := by decide +kernel

theorem execLaneDisable_taken {r : Requester} {n : Fin 24} {s : State} (htakes : s.Takes r 27 (0x040 + 0x20 * n.val)) :
    exec (.laneDisable r n) s = .next (s.laneDisable n.val) := by
  rw [exec, execLaneDisable, lanePage, State.guarded_of_takes htakes]

/-- Refutes O42: `KeepsFieldsButRefs` leaves the reference inputs aside by their page number, but a field's place is its page and offset
taken together, so the input that fails with its lane changes what a field of page 7 past that page's end reads as. -/
theorem not_hostLanesFollowTheirReceivers : ¬ Obligations.HostLanesFollowTheirReceivers := by
  unfold Obligations.HostLanesFollowTheirReceivers
  rintro ⟨-, -, hdisable, -⟩
  obtain ⟨t, ht, -, -, -, -, hkeeps, -⟩ := hdisable .pcie 0 State.synceLane State.synceLane_takes
  have hrun : exec (.laneDisable .pcie 0) State.synceLane = .next (State.synceLane.laneDisable 0) :=
    execLaneDisable_taken State.synceLane_takes
  have hrun : .next t = Host.Outcome.next (State.synceLane.laneDisable 0) := ht.symm.trans hrun
  have hplace : ∀ g ∈ [HL_LANE.LANE_CFG_ENABLE 0], pastPage7.key ≠ g.key := by decide
  have hkept : t.refSt 6 = State.synceLane.refSt 6 := (hkeeps pastPage7 pastPage7_quiet pastPage7_not_refField hplace).1
  rw [Host.Outcome.next.inj hrun, State.synceLane_laneDisable_refSt, State.synceLane_refSt] at hkept
  exact absurd hkept (by decide)

end Sys2Proof.Machine
end


section
/-! What leaves the pins alone (for O7; R259): of every operation of the model that changes a state, but for those that reach the ramps'
zero or the bypass outputs, one rule that the pins of its result are those of the state it starts from. The rules stand in the order
of the operations in the model, so each rests on those before it. -/

namespace Sys2Proof.Machine

open F

/-! ### Branches, conditions and folds -/

@[simp] theorem State.ite_pins {c : Prop} [Decidable c] (a b : State) : (if c then a else b).pins = if c then a.pins else b.pins :=
  apply_ite State.pins c a b

theorem State.ite_fst_pins {β : Type} {c : Prop} [Decidable c] {s : State} {x y : State × β} (hx : x.1.pins = s.pins)
    (hy : y.1.pins = s.pins) : (if c then x else y).1.pins = s.pins := by
  split
  · exact hx
  · exact hy

@[simp] theorem State.cond_pins {s : State} {b : Bool} {f : State → State} (h : (f s).pins = s.pins) :
    (s.cond b f).pins = s.pins := by
  cases b
  · rfl
  · exact h

@[simp] theorem State.forEach_pins {α : Type} {s : State} {l : List α} {f : α → State → State} (h : ∀ a s, (f a s).pins = s.pins) :
    (s.forEach l f).pins = s.pins :=
  State.forEach_keeps State.pins l f h s

theorem State.foldl_fst_pins {α β : Type} {f : State × β → α → State × β} (h : ∀ x a, (f x a).1.pins = x.1.pins) (l : List α)
    (x : State × β) : (l.foldl f x).1.pins = x.1.pins := by
  induction l generalizing x with
  | nil => rfl
  | cons a l ih => rw [List.foldl_cons, ih, h]

/-! ### The named operations over registers, counters, latches, tables and the output record -/

@[simp] theorem State.wrI_pins (s : State) (f v) : (s.wrI f v).pins = s.pins := by simp [State.wrI]
@[simp] theorem State.wrB_pins (s : State) (f b) : (s.wrB f b).pins = s.pins := by simp [State.wrB]
@[simp] theorem State.bumpSat_pins (s : State) (f n) : (s.bumpSat f n).pins = s.pins := by simp [State.bumpSat]
@[simp] theorem State.bump_pins (s : State) (f) : (s.bump f).pins = s.pins := by simp [State.bump]

@[simp] theorem State.divOpen_pins (s : State) (n d) : (s.divOpen n d).1.pins = s.pins := by
  unfold State.divOpen
  split <;> simp

@[simp] theorem State.count_pins (s : State) (page off n) : (s.count page off n).pins = s.pins := by simp [State.count]
@[simp] theorem State.flowAdd_pins (s : State) (idx n) : (s.flowAdd idx n).1.pins = s.pins := by simp [State.flowAdd]
@[simp] theorem State.setLatch_pins (s : State) (r n v) : (s.setLatch r n v).pins = s.pins := by simp [State.setLatch]

/-! ### The tasks of the calibration service -/

@[simp] theorem State.onTask_pins (s : State) (t f) : (s.onTask t f).pins = s.pins := by simp [State.onTask]
@[simp] theorem State.taskBit_pins (s : State) (f t v) : (s.taskBit f t v).pins = s.pins := by simp [State.taskBit]
@[simp] theorem State.abandonTask_pins (s : State) (t) : (s.abandonTask t).pins = s.pins := by simp [State.abandonTask]
@[simp] theorem State.taskStart_pins (s : State) (t) : (s.taskStart t).pins = s.pins := by simp [State.taskStart]
@[simp] theorem State.taskTrigger_pins (s : State) (t) : (s.taskTrigger t).pins = s.pins := by simp [State.taskTrigger]
@[simp] theorem State.taskHold_pins (s : State) (t) : (s.taskHold t).pins = s.pins := by simp [State.taskHold]

/-! ### Events -/

@[simp] theorem State.edges_pins (before s : State) (page : Nat) : (State.edges before s page).pins = s.pins := by
  rw [State.edges_eventFrame before s page]

@[simp] theorem State.setStatus_pins (s : State) (page bitNo : Nat) : (s.setStatus page bitNo).pins = s.pins := by
  rw [State.setStatus_eventFrame s page bitNo]

@[simp] theorem State.raiseRaw_pins (s : State) (e : Evt) (n : Nat) : (s.raiseRaw e n).pins = s.pins := by
  rw [State.raiseRaw_eventFrame s e n]

@[simp] theorem State.settleInt_pins (s : State) : s.settleInt.pins = s.pins := by
  rw [State.settleInt_eventFrame s]

@[simp] theorem State.raiseIf_pins (s : State) (b e) : (s.raiseIf b e).pins = s.pins := by simp [State.raiseIf]
@[simp] theorem State.fatal_pins (s : State) : (s.fatal).pins = s.pins := by simp [State.fatal]

/-! ### Whether an access reaches its page, and the error response where it does not -/

@[simp] theorem State.errorResponse_pins (s : State) (a cause) : (s.errorResponse a cause).pins = s.pins := by
  simp [State.errorResponse]

@[simp] theorem State.guarded_pins {s : State} (r : Requester) (page off : Nat) {f : State → State} (h : (f s).pins = s.pins) :
    (s.guarded r page off f).pins = s.pins := by
  simp [State.guarded, h]

@[simp] theorem State.lockViol_pins (s : State) (r page cause loc) : (s.lockViol r page cause loc).pins = s.pins := by
  simp [State.lockViol]

/-! ### Commit groups and the raw commit of an eclosion -/

@[simp] theorem State.commitFields_pins (s : State) (groups) : (s.commitFields groups).pins = s.pins := by
  simp -implicitDefEqProofs [State.commitFields]

@[simp] theorem State.dropRequest_pins (s : State) (key) : (s.dropRequest key).pins = s.pins := by simp [State.dropRequest]

@[simp] theorem State.commitRaw_pins (s : State) (key req early) : (s.commitRaw key req early).pins = s.pins := by
  simp [State.commitRaw]

@[simp] theorem State.endRequest_pins (s : State) (key result) : (s.endRequest key result).pins = s.pins := by
  simp [State.endRequest]

@[simp] theorem State.endRequests_pins (s : State) (groups result) : (s.endRequests groups result).pins = s.pins := by
  simp [State.endRequests]

@[simp] theorem State.markLate_pins (s : State) (g test) : (s.markLate g test).pins = s.pins := by simp [State.markLate]
@[simp] theorem State.commitEarly_pins (s : State) (g) : (s.commitEarly g).pins = s.pins := by simp [State.commitEarly]
@[simp] theorem State.judgeAgreed_pins (s : State) (p fcRx) : (s.judgeAgreed p fcRx).pins = s.pins := by simp [State.judgeAgreed]

/-! ### Reference inputs, selection and the DPLLs -/

@[simp] theorem State.onRef_pins (s : State) (i f) : (s.onRef i f).pins = s.pins := by simp [State.onRef]
@[simp] theorem State.toDp_pins (s : State) (st) : (s.toDp st).pins = s.pins := by simp [State.toDp]
@[simp] theorem State.onDpll_pins (s : State) (f) : (s.onDpll f).pins = s.pins := by simp [State.onDpll]
@[simp] theorem State.setResidual_pins (s : State) (r) : (s.setResidual r).pins = s.pins := by simp [State.setResidual]
@[simp] theorem State.buildOut_pins (s : State) : (s.buildOut).pins = s.pins := by simp [State.buildOut]
@[simp] theorem State.startPull_pins (s : State) (residual) : (s.startPull residual).pins = s.pins := by simp [State.startPull]
@[simp] theorem State.startSwitch_pins (s : State) (held) : (s.startSwitch held).pins = s.pins := by simp [State.startSwitch]
@[simp] theorem State.holdover_pins (s : State) : (s.holdover).pins = s.pins := by simp [State.holdover]
@[simp] theorem State.newSelection_pins (s : State) (held) : (s.newSelection held).pins = s.pins := by simp [State.newSelection]
@[simp] theorem State.setStandby_pins (s : State) (i) : (s.setStandby i).pins = s.pins := by simp [State.setStandby]

@[simp] theorem State.peerCheck_pins (s : State) : (s.peerCheck).pins = s.pins := by
  simp only [State.peerCheck]
  split <;> simp

@[simp] theorem State.evaluate_pins (s : State) : (s.evaluate).pins = s.pins := by simp [State.evaluate]
@[simp] theorem State.refMove_pins (s : State) (i st) : (s.refMove i st).pins = s.pins := by simp [State.refMove]
@[simp] theorem State.setRefWtr_pins (s : State) (i ms) : (s.setRefWtr i ms).pins = s.pins := by simp [State.setRefWtr]
@[simp] theorem State.refQualify_pins (s : State) (i) : (s.refQualify i).pins = s.pins := by simp [State.refQualify]
@[simp] theorem State.refStartWtr_pins (s : State) (i secs) : (s.refStartWtr i secs).pins = s.pins := by simp [State.refStartWtr]
@[simp] theorem State.setOffset_pins (s : State) (i m) : (s.setOffset i m).pins = s.pins := by simp [State.setOffset]
@[simp] theorem State.refJudge_pins (s : State) (i) : (s.refJudge i).pins = s.pins := by simp [State.refJudge]
@[simp] theorem State.refPort_pins (s : State) (p) : (s.refPort p).pins = s.pins := by simp [State.refPort]
@[simp] theorem State.refPorts_pins (s : State) : (s.refPorts).pins = s.pins := by simp [State.refPorts]
@[simp] theorem State.refTb_pins (s : State) (x) : (s.refTb x).pins = s.pins := by simp [State.refTb]
@[simp] theorem State.refLane_pins (s : State) (n) : (s.refLane n).pins = s.pins := by simp [State.refLane]
@[simp] theorem State.refSample_pins (s : State) (i sample) : (s.refSample i sample).pins = s.pins := by simp [State.refSample]
@[simp] theorem State.refTick_pins (s : State) (i sample) : (s.refTick i sample).pins = s.pins := by simp [State.refTick]
@[simp] theorem State.forceRef_pins (s : State) (idx) : (s.forceRef idx).pins = s.pins := by simp [State.forceRef]
@[simp] theorem State.lockTick_pins (s : State) (phase) : (s.lockTick phase).pins = s.pins := by simp [State.lockTick]
@[simp] theorem State.roostUpdate_pins (s : State) : (s.roostUpdate).pins = s.pins := by simp [State.roostUpdate]
@[simp] theorem State.roostSample_pins (s : State) (ofs) : (s.roostSample ofs).pins = s.pins := by simp [State.roostSample]

@[simp] theorem State.dpllTick0_pins (s : State) (phase freq) : (s.dpllTick0 phase freq).pins = s.pins := by
  simp [State.dpllTick0]

@[simp] theorem State.dpllTick1_pins (s : State) (phase freq err) : (s.dpllTick1 phase freq err).pins = s.pins := by
  simp [State.dpllTick1]

/-! ### The local report of a port -/

@[simp] theorem State.onReport_pins (s : State) (p f) : (s.onReport p f).pins = s.pins := by simp [State.onReport]
@[simp] theorem State.setReport_pins (s : State) (p r) : (s.setReport p r).pins = s.pins := by simp [State.setReport]
@[simp] theorem State.setWtr_pins (s : State) (p ms) : (s.setWtr p ms).pins = s.pins := by simp [State.setWtr]
@[simp] theorem State.toWtr_pins (s : State) (p) : (s.toWtr p).pins = s.pins := by simp [State.toWtr]
@[simp] theorem State.settleReport_pins (s : State) (p) : (s.settleReport p).pins = s.pins := by simp [State.settleReport]
@[simp] theorem State.reportForce_pins (s : State) (p on) : (s.reportForce p on).pins = s.pins := by simp [State.reportForce]
@[simp] theorem State.reportTick_pins (s : State) (p below) : (s.reportTick p below).pins = s.pins := by simp [State.reportTick]
@[simp] theorem State.restartSd_pins (s : State) : (s.restartSd).pins = s.pins := by simp [State.restartSd]

@[simp] theorem State.rptCfgWritten_pins (s : State) (oldEn oldTicks) : (s.rptCfgWritten oldEn oldTicks).pins = s.pins := by
  simp [State.rptCfgWritten]

/-! ### Check and retry -/

@[simp] theorem State.setBlock_pins (s : State) (b x) : (s.setBlock b x).pins = s.pins := by simp [State.setBlock]
@[simp] theorem State.transient_pins (s : State) (b) : (s.transient b).pins = s.pins := by simp [State.transient]

@[simp] theorem State.raiseOpt_pins (s : State) (e) : (s.raiseOpt e).pins = s.pins := by
  unfold State.raiseOpt
  split <;> simp

@[simp] theorem State.raiseExhausted_pins (s : State) (b) : (s.raiseExhausted b).pins = s.pins := by
  unfold State.raiseExhausted
  split <;> simp

@[simp] theorem State.lastingOnly_pins (s : State) (b u) : (s.lastingOnly b u).pins = s.pins := by simp [State.lastingOnly]
@[simp] theorem State.exhausted_pins (s : State) (b) : (s.exhausted b).pins = s.pins := by simp [State.exhausted]

@[simp] theorem State.lasting_pins (s : State) (b u) : (s.lasting b u).pins = s.pins := by
  simp only [State.lasting]
  (repeat' split) <;> simp

@[simp] theorem State.classify_pins (s : State) (b u pass) : (s.classify b u pass).pins = s.pins := by simp [State.classify]
@[simp] theorem State.rebuildAll_pins (s : State) : (s.rebuildAll).pins = s.pins := by simp [State.rebuildAll]

@[simp] theorem State.openWindow_pins (s : State) (b at_) : (s.openWindow b at_).pins = s.pins := by
  unfold State.openWindow
  split <;> simp

@[simp] theorem State.deferClass_pins (s : State) (b u) : (s.deferClass b u).pins = s.pins := by simp [State.deferClass]
@[simp] theorem State.undefer_pins (s : State) (b u) : (s.undefer b u).pins = s.pins := by simp [State.undefer]
@[simp] theorem State.deferOrLast_pins (s : State) (b u) : (s.deferOrLast b u).pins = s.pins := by simp [State.deferOrLast]
@[simp] theorem State.toTest_pins (s : State) (b u) : (s.toTest b u).pins = s.pins := by simp [State.toTest]
@[simp] theorem State.testPassed_pins (s : State) (b u) : (s.testPassed b u).pins = s.pins := by simp [State.testPassed]

/-! ### What the tables of the hub say -/

@[simp] theorem State.onLine_pins (s : State) (p lch f) : (s.onLine p lch f).pins = s.pins := by simp [State.onLine]
@[simp] theorem State.onDrop_pins (s : State) (ch f) : (s.onDrop ch f).pins = s.pins := by simp [State.onDrop]
@[simp] theorem State.originsLost_pins (s : State) (p) : (s.originsLost p).pins = s.pins := by simp [State.originsLost]

/-! ### Eyespot tracing -/

@[simp] theorem State.onTrace_pins (s : State) (f) : (s.onTrace f).pins = s.pins := by simp [State.onTrace]
@[simp] theorem State.bufferRecord_pins (s : State) (e) : (s.bufferRecord e).pins = s.pins := by simp [State.bufferRecord]

@[simp] theorem State.tag_pins (s : State) (src i ss index blockNo depth) :
    (s.tag src i ss index blockNo depth).pins = s.pins := by
  simp [State.tag]

@[simp] theorem State.onFlight_pins (s : State) (src f) : (s.onFlight src f).pins = s.pins := by
  unfold State.onFlight
  split <;> simp

@[simp] theorem State.endEyespot_pins (s : State) (src) : (s.endEyespot src).pins = s.pins := by
  unfold State.endEyespot
  split <;> simp

@[simp] theorem State.seedTrace_pins (s : State) (v) : (s.seedTrace v).pins = s.pins := by simp [State.seedTrace]

/-! ### The operations on a line port that several families share -/

@[simp] theorem State.onTx_pins (s : State) (p f) : (s.onTx p f).pins = s.pins := by simp [State.onTx]
@[simp] theorem State.onFec_pins (s : State) (p f) : (s.onFec p f).pins = s.pins := by simp [State.onFec]
@[simp] theorem State.onRx_pins (s : State) (p f) : (s.onRx p f).pins = s.pins := by simp [State.onRx]
@[simp] theorem State.onCal_pins (s : State) (p f) : (s.onCal p f).pins = s.pins := by simp [State.onCal]
@[simp] theorem State.skewSuspend_pins (s : State) (p) : (s.skewSuspend p).pins = s.pins := by simp [State.skewSuspend]
@[simp] theorem State.setCarrier_pins (s : State) (p b) : (s.setCarrier p b).pins = s.pins := by simp [State.setCarrier]
@[simp] theorem State.onFrame_pins (s : State) (p f) : (s.onFrame p f).pins = s.pins := by simp [State.onFrame]
@[simp] theorem State.txSend_pins (s : State) (p c) : (s.txSend p c).pins = s.pins := by simp [State.txSend]
@[simp] theorem State.txSendNew_pins (s : State) (p c) : (s.txSendNew p c).pins = s.pins := by simp [State.txSendNew]
@[simp] theorem State.txGoDark_pins (s : State) (p) : (s.txGoDark p).pins = s.pins := by simp [State.txGoDark]
@[simp] theorem State.txToAlign_pins (s : State) (p) : (s.txToAlign p).pins = s.pins := by simp [State.txToAlign]

@[simp] theorem State.txRampFromTop_pins (s : State) (p next) : (s.txRampFromTop p next).pins = s.pins := by
  simp [State.txRampFromTop]

@[simp] theorem State.txEnableClear_pins (s : State) (p) : (s.txEnableClear p).pins = s.pins := by
  simp -implicitDefEqProofs [State.txEnableClear]

@[simp] theorem State.txRateChange_pins (s : State) (p) : (s.txRateChange p).pins = s.pins := by simp [State.txRateChange]

@[simp] theorem State.dropRingEntries_pins (s : State) (p) : (s.dropRingEntries p).pins = s.pins := by
  simp [State.dropRingEntries]

@[simp] theorem State.declareOof_pins (s : State) (p) : (s.declareOof p).pins = s.pins := by simp [State.declareOof]
@[simp] theorem State.loseBoundary_pins (s : State) (p) : (s.loseBoundary p).pins = s.pins := by simp [State.loseBoundary]
@[simp] theorem State.clearTrLock_pins (s : State) (p) : (s.clearTrLock p).pins = s.pins := by simp [State.clearTrLock]
@[simp] theorem State.eqQuiet_pins (s : State) (p) : (s.eqQuiet p).pins = s.pins := by simp [State.eqQuiet]
@[simp] theorem State.eqNoHypothesis_pins (s : State) (p) : (s.eqNoHypothesis p).pins = s.pins := by simp [State.eqNoHypothesis]
@[simp] theorem State.eqReset_pins (s : State) (p run) : (s.eqReset p run).pins = s.pins := by simp [State.eqReset]
@[simp] theorem State.acqMove_pins (s : State) (p next) : (s.acqMove p next).pins = s.pins := by simp [State.acqMove]
@[simp] theorem State.acqLost_pins (s : State) (p) : (s.acqLost p).pins = s.pins := by simp [State.acqLost]
@[simp] theorem State.toCdScan_pins (s : State) (p) : (s.toCdScan p).pins = s.pins := by simp [State.toCdScan]
@[simp] theorem State.toTiming_pins (s : State) (p) : (s.toTiming p).pins = s.pins := by simp [State.toTiming]
@[simp] theorem State.toNoSignal_pins (s : State) (p) : (s.toNoSignal p).pins = s.pins := by simp [State.toNoSignal]

@[simp] theorem State.dropHops_pins (s : State) (p) : (s.dropHops p).pins = s.pins := by
  simp -implicitDefEqProofs [State.dropHops]

@[simp] theorem State.toIdle_pins (s : State) (p) : (s.toIdle p).pins = s.pins := by simp [State.toIdle]
@[simp] theorem State.rxRateChange_pins (s : State) (p) : (s.rxRateChange p).pins = s.pins := by simp [State.rxRateChange]
@[simp] theorem State.toPreHunt_pins (s : State) (p) : (s.toPreHunt p).pins = s.pins := by simp [State.toPreHunt]
@[simp] theorem State.commit_pins (s : State) (key req early) : (s.commit key req early).pins = s.pins := by simp [State.commit]

/-! ### The shaping station and what a transmitter sends over a superframe -/

@[simp] theorem State.recordFrame_pins (s : State) (p j) : (s.recordFrame p j).pins = s.pins := by simp [State.recordFrame]

@[simp] theorem State.emitConverter_pins (s : State) (p segs zeros c) : (s.emitConverter p segs zeros c).pins = s.pins := by
  simp [State.emitConverter]

theorem State.emitConverters_pins (s : State) (p segs zeros) (l : List (Fin 4)) :
    (s.forEach l fun c t => t.emitConverter p segs zeros c).pins = s.pins := by
  induction l generalizing s with
  | nil => rfl
  | cons c l ih => rw [State.forEach_cons, ih, State.emitConverter_pins]

theorem State.cond_emitConverters_pins (s : State) (b : Bool) (p segs zeros) (l : List (Fin 4)) :
    (s.cond b fun t => t.forEach l fun c t => t.emitConverter p segs zeros c).pins = s.pins := by
  cases b
  · rw [State.cond_false]
  · rw [State.cond_true, State.emitConverters_pins]

@[simp] theorem State.endSuperframe_pins (s : State) (p) : (s.endSuperframe p).pins = s.pins := by
  unfold State.endSuperframe
  extract_lets f t x ss last r count cws blocks segs sends framed marked sent
  clear_value sends blocks segs
  have hmarked : marked.pins = framed.pins := State.cond_pins (by simp)
  have hsent : sent.pins = marked.pins := State.cond_emitConverters_pins marked sends p segs blocks _
  simp only [State.onTx_pins, hsent, hmarked, framed, State.onFrame_pins]

/-! ### The sub-converters of a line converter -/

@[simp] theorem State.setConv_pins (s : State) (tx p c x) : (s.setConv tx p c x).pins = s.pins := by simp [State.setConv]
@[simp] theorem State.showFront_pins (s : State) (tx p c) : (s.showFront tx p c).pins = s.pins := by simp [State.showFront]
@[simp] theorem State.convRestore_pins (s : State) (tx p c) : (s.convRestore tx p c).pins = s.pins := by simp [State.convRestore]

/-! ### The boot flash byte by byte -/

@[simp] theorem State.setFlashSlot_pins (s : State) (b x) : (s.setFlashSlot b x).pins = s.pins := by simp [State.setFlashSlot]

/-! ### The mailbox commands in progress, and what ends one from outside -/

@[simp] theorem State.onMbx_pins (s : State) (x f) : (s.onMbx x f).pins = s.pins := by
  unfold State.onMbx
  split <;> simp

@[simp] theorem State.mbxDecide_pins (s : State) (test status detail) : (s.mbxDecide test status detail).pins = s.pins := by
  simp [State.mbxDecide]

@[simp] theorem State.mbxEnableWrite_pins (s : State) (r p) : (s.mbxEnableWrite r p).pins = s.pins := by
  simp [State.mbxEnableWrite]

@[simp] theorem State.mbxGlideWrite_pins (s : State) (r p) : (s.mbxGlideWrite r p).pins = s.pins := by simp [State.mbxGlideWrite]

@[simp] theorem State.mbxStageWrite_pins (s : State) (r page) : (s.mbxStageWrite r page).pins = s.pins := by
  simp [State.mbxStageWrite]

@[simp] theorem State.mbxNoRclk_pins (s : State) : (s.mbxNoRclk).pins = s.pins := by simp [State.mbxNoRclk]
@[simp] theorem State.onDma_pins (s : State) (c f) : (s.onDma c f).pins = s.pins := by simp [State.onDma]
@[simp] theorem State.countBytes_pins (s : State) (c n) : (s.countBytes c n).pins = s.pins := by simp [State.countBytes]

@[simp] theorem State.serviceWrite_pins (s : State) (c addr data) : (s.serviceWrite c addr data).pins = s.pins := by
  simp -implicitDefEqProofs [State.serviceWrite]

@[simp] theorem State.serviceRead_pins (s : State) (c addr n) : (s.serviceRead c addr n).pins = s.pins := by
  simp -implicitDefEqProofs [State.serviceRead]

@[simp] theorem State.armServices_pins (s : State) : (s.armServices).pins = s.pins := by simp [State.armServices]

/-! ### The transmit commands -/

@[simp] theorem State.forcePreamble_pins (s : State) (p) : (s.forcePreamble p).pins = s.pins := by simp [State.forcePreamble]
@[simp] theorem State.calAbandon_pins (s : State) (p) : (s.calAbandon p).pins = s.pins := by simp [State.calAbandon]
@[simp] theorem State.rxRegionReset_pins (s : State) (p) : (s.rxRegionReset p).pins = s.pins := by simp [State.rxRegionReset]
@[simp] theorem State.txRegionReset_pins (s : State) (p) : (s.txRegionReset p).pins = s.pins := by simp [State.txRegionReset]
@[simp] theorem State.regionReset_pins (s : State) (p) : (s.regionReset p).pins = s.pins := by simp [State.regionReset]
@[simp] theorem State.rampBottom_pins (s : State) (p) : (s.rampBottom p).pins = s.pins := by simp [State.rampBottom]
@[simp] theorem State.txZero_pins (s : State) (p shaping n) : (s.txZero p shaping n).pins = s.pins := by simp [State.txZero]

@[simp] theorem State.txSpareShown_pins (s : State) (p) : (s.txSpareShown p).pins = s.pins := by
  simp -implicitDefEqProofs [State.txSpareShown]

@[simp] theorem State.txClusterFail_pins (s : State) (p u i) : (s.txClusterFail p u i).pins = s.pins := by
  simp [State.txClusterFail]

@[simp] theorem State.txClusterClassify_pins (s : State) (p u pass) : (s.txClusterClassify p u pass).pins = s.pins := by
  simp [State.txClusterClassify]

/-! ### Sub-converters -/

@[simp] theorem State.convDouble_pins (s : State) (tx p) : (s.convDouble tx p).pins = s.pins := by simp [State.convDouble]

@[simp] theorem State.toChrysalis_pins (s : State) (tx p c x u classing) : (s.toChrysalis tx p c x u classing).pins = s.pins := by
  simp [State.toChrysalis]

@[simp] theorem State.positionFail_pins (s : State) (tx p c pos cycle) : (s.positionFail tx p c pos cycle).pins = s.pins := by
  simp [State.positionFail]

@[simp] theorem State.frontLoss_pins (s : State) (p c t) : (s.frontLoss p c t).pins = s.pins := by simp [State.frontLoss]
@[simp] theorem State.convFail_pins (s : State) (p c i) : (s.convFail p c i).pins = s.pins := by simp [State.convFail]

@[simp] theorem State.takeover_pins (s : State) (tx p c pos) : (s.takeover tx p c pos).pins = s.pins := by
  simp only [State.takeover]
  (repeat' split) <;> simp

@[simp] theorem State.convSelfTest_pins (s : State) (tx p c u pass) : (s.convSelfTest tx p c u pass).pins = s.pins := by
  simp only [State.convSelfTest]
  (repeat' split) <;> simp

@[simp] theorem State.frontClassify_pins (s : State) (tx p c t counted pass) :
    (s.frontClassify tx p c t counted pass).pins = s.pins := by
  simp [State.frontClassify]

@[simp] theorem State.convClassify_pins (s : State) (tx p c u pass) : (s.convClassify tx p c u pass).pins = s.pins := by
  unfold State.convClassify
  split <;> simp

@[simp] theorem State.calBegin_pins (s : State) (p) : (s.calBegin p).pins = s.pins := by simp [State.calBegin]
@[simp] theorem State.calRequest_pins (s : State) (p) : (s.calRequest p).pins = s.pins := by simp [State.calRequest]
@[simp] theorem State.calStore_pins (s : State) (p) : (s.calStore p).pins = s.pins := by simp [State.calStore]
@[simp] theorem State.calStopped_pins (s : State) (p) : (s.calStopped p).pins = s.pins := by simp [State.calStopped]
@[simp] theorem State.calHold_pins (s : State) (p) : (s.calHold p).pins = s.pins := by simp [State.calHold]
@[simp] theorem State.calMeasure_pins (s : State) (tx p c m) : (s.calMeasure tx p c m).pins = s.pins := by simp [State.calMeasure]

@[simp] theorem State.calReturn_pins (s : State) (tx p c) : (s.calReturn tx p c).pins = s.pins := by
  simp only [State.calReturn]
  split <;> simp

@[simp] theorem State.compareGood_pins (s : State) (tx p c u pos) : (s.compareGood tx p c u pos).pins = s.pins := by
  simp [State.compareGood]

@[simp] theorem State.compareBad_pins (s : State) (tx p c u) : (s.compareBad tx p c u).pins = s.pins := by simp [State.compareBad]

@[simp] theorem State.ownSwitchFails_pins (s : State) (p c u) : (s.ownSwitchFails p c u).pins = s.pins := by
  simp [State.ownSwitchFails]

@[simp] theorem State.skewStep_pins (s : State) (p c sw est) : (s.skewStep p c sw est).pins = s.pins := by simp [State.skewStep]
@[simp] theorem State.skewTick_pins (s : State) (p ests) : (s.skewTick p ests).pins = s.pins := by simp [State.skewTick]

/-! ### The receive front end on a hop -/

@[simp] theorem State.estimate_pins (s : State) (p codes) : (s.estimate p codes).pins = s.pins := by simp [State.estimate]
@[simp] theorem State.frontHop_pins (s : State) (p codes) : (s.frontHop p codes).pins = s.pins := by simp [State.frontHop]

/-! ### The equaliser region -/

@[simp] theorem State.markHop_pins (s : State) (p n f) : (s.markHop p n f).pins = s.pins := by simp [State.markHop]
@[simp] theorem State.eraseHop_pins (s : State) (p n) : (s.eraseHop p n).pins = s.pins := by simp [State.eraseHop]
@[simp] theorem State.lateHop_pins (s : State) (p n) : (s.lateHop p n).pins = s.pins := by simp [State.lateHop]

@[simp] theorem State.eqLasting_pins (s : State) (p u n) : (s.eqLasting p u n).pins = s.pins := by
  unfold State.eqLasting
  split <;> simp

@[simp] theorem State.eqDefer_pins (s : State) (p u n) : (s.eqDefer p u n).pins = s.pins := by simp [State.eqDefer]
@[simp] theorem State.eqDouble_pins (s : State) (p u n) : (s.eqDouble p u n).pins = s.pins := by simp [State.eqDouble]
@[simp] theorem State.eqJudge_pins (s : State) (p u n) : (s.eqJudge p u n).pins = s.pins := by simp [State.eqJudge]
@[simp] theorem State.eqRedoFail_pins (s : State) (p u h) : (s.eqRedoFail p u h).pins = s.pins := by simp [State.eqRedoFail]

@[simp] theorem State.eqRedo_pins (s : State) (p u i acting) : (s.eqRedo p u i acting).pins = s.pins := by
  unfold State.eqRedo
  split <;> simp

@[simp] theorem State.eqFail_pins (s : State) (p u i) : (s.eqFail p u i).pins = s.pins := by
  unfold State.eqFail
  (repeat' split) <;> simp

@[simp] theorem State.eqClassify_pins (s : State) (p u pass i) : (s.eqClassify p u pass i).pins = s.pins := by
  simp [State.eqClassify]

@[simp] theorem State.zeroLane_pins (s : State) (p lane) : (s.zeroLane p lane).pins = s.pins := by simp [State.zeroLane]

@[simp] theorem State.laneFail_pins (s : State) (b p redo u i) : (s.laneFail b p redo u i).pins = s.pins := by
  simp only [State.laneFail]
  (repeat' split) <;> simp

@[simp] theorem State.coefTaken_pins (s : State) (p) : (s.coefTaken p).pins = s.pins := by
  unfold State.coefTaken
  split <;> simp

@[simp] theorem State.coefFail_pins (s : State) (p u i) : (s.coefFail p u i).pins = s.pins := by simp [State.coefFail]
@[simp] theorem State.eqRotate_pins (s : State) (p) : (s.eqRotate p).pins = s.pins := by simp [State.eqRotate]
@[simp] theorem State.eqRotateAt_pins (s : State) (p n) : (s.eqRotateAt p n).pins = s.pins := by simp [State.eqRotateAt]

@[simp] theorem State.freeHop_pins (s : State) (p h) : (s.freeHop p h).pins = s.pins := by
  simp -implicitDefEqProofs [State.freeHop]

@[simp] theorem State.takeHop_pins (s : State) (p n) : (s.takeHop p n).1.pins = s.pins := by
  simp only [State.takeHop]
  (repeat' split) <;> simp

@[simp] theorem State.reacquire_pins (s : State) (p cause) : (s.reacquire p cause).pins = s.pins := by
  unfold State.reacquire
  split <;> simp

/-! ### Hops -/

@[simp] theorem State.timingLoop_pins (s : State) (p n err) : (s.timingLoop p n err).pins = s.pins := by simp [State.timingLoop]
@[simp] theorem State.timingLock_pins (s : State) (p rms) : (s.timingLock p rms).pins = s.pins := by simp [State.timingLock]
@[simp] theorem State.timingHop_pins (s : State) (p h) : (s.timingHop p h).pins = s.pins := by simp [State.timingHop]
@[simp] theorem State.trackFreq_pins (s : State) (p step st) : (s.trackFreq p step st).pins = s.pins := by simp [State.trackFreq]
@[simp] theorem State.takeEnergies_pins (s : State) (p x y) : (s.takeEnergies p x y).pins = s.pins := by simp [State.takeEnergies]
@[simp] theorem State.judgeHop_pins (s : State) (p x y) : (s.judgeHop p x y).pins = s.pins := by simp [State.judgeHop]
@[simp] theorem State.pushLabels_pins (s : State) (p l) : (s.pushLabels p l).pins = s.pins := by simp [State.pushLabels]
@[simp] theorem State.demapHop_pins (s : State) (p h st) : (s.demapHop p h st).pins = s.pins := by simp [State.demapHop]
@[simp] theorem State.swapBanks_pins (s : State) (p) : (s.swapBanks p).pins = s.pins := by simp [State.swapBanks]
@[simp] theorem State.startE2_pins (s : State) (p h) : (s.startE2 p h).pins = s.pins := by simp [State.startE2]
@[simp] theorem State.endE2_pins (s : State) (p h) : (s.endE2 p h).pins = s.pins := by simp [State.endE2]
@[simp] theorem State.startE4_pins (s : State) (p h) : (s.startE4 p h).pins = s.pins := by simp [State.startE4]
@[simp] theorem State.advanceHops_pins (s : State) (p) : (s.advanceHops p).pins = s.pins := by simp [State.advanceHops]
@[simp] theorem State.resolve_pins (s : State) (p) : (s.resolve p).pins = s.pins := by simp [State.resolve]
@[simp] theorem State.retain_pins (s : State) (p symbols) : (s.retain p symbols).pins = s.pins := by simp [State.retain]

@[simp] theorem State.releasePlain_pins (s : State) (p h symbols) : (s.releasePlain p h symbols).pins = s.pins := by
  simp [State.releasePlain]

@[simp] theorem State.releaseTracked_pins (s : State) (p h symbols) : (s.releaseTracked p h symbols).pins = s.pins := by
  simp [State.releaseTracked]

@[simp] theorem State.releaseSymbols_pins (s : State) (p h) : (s.releaseSymbols p h).pins = s.pins := by
  unfold State.releaseSymbols
  split <;> simp

/-! ### Receive acquisition -/

@[simp] theorem State.rxEnableSet_pins (s : State) (p) : (s.rxEnableSet p).pins = s.pins := by simp [State.rxEnableSet]
@[simp] theorem State.rxEnableClear_pins (s : State) (p) : (s.rxEnableClear p).pins = s.pins := by simp [State.rxEnableClear]
@[simp] theorem State.forceReacq_pins (s : State) (p) : (s.forceReacq p).pins = s.pins := by simp [State.forceReacq]
@[simp] theorem State.losDeclare_pins (s : State) (p) : (s.losDeclare p).pins = s.pins := by simp [State.losDeclare]
@[simp] theorem State.losClear_pins (s : State) (p) : (s.losClear p).pins = s.pins := by simp [State.losClear]
@[simp] theorem State.noiseTick_pins (s : State) (p x y) : (s.noiseTick p x y).pins = s.pins := by simp [State.noiseTick]
@[simp] theorem State.takeBoundary_pins (s : State) (p) : (s.takeBoundary p).pins = s.pins := by simp [State.takeBoundary]
@[simp] theorem State.acquired_pins (s : State) (p) : (s.acquired p).pins = s.pins := by simp [State.acquired]
@[simp] theorem State.acqFrameLoss_pins (s : State) (p) : (s.acqFrameLoss p).pins = s.pins := by simp [State.acqFrameLoss]

/-! ### The lottery arbiters -/

@[simp] theorem State.unpark_pins (s : State) (a) : (s.unpark a).pins = s.pins := by simp [State.unpark]
@[simp] theorem State.releaseGrant_pins (s : State) (c) : (s.releaseGrant c).pins = s.pins := by simp [State.releaseGrant]
@[simp] theorem State.park_pins (s : State) (a q alone) : (s.park a q alone).pins = s.pins := by simp [State.park]

@[simp] theorem State.draw_pins (s : State) (a askers len) : (s.draw a askers len).1.pins = s.pins := by
  simp only [State.draw]
  (repeat' split) <;> simp

@[simp] theorem State.ticketsWritten_pins (s : State) (a) : (s.ticketsWritten a).pins = s.pins := by simp [State.ticketsWritten]
@[simp] theorem State.arbSeedWrite_pins (s : State) (a v) : (s.arbSeedWrite a v).pins = s.pins := by simp [State.arbSeedWrite]
@[simp] theorem State.arbModeWrite_pins (s : State) (a m) : (s.arbModeWrite a m).pins = s.pins := by simp [State.arbModeWrite]

@[simp] theorem State.arbFreezeWrite_pins (s : State) (a b) : (s.arbFreezeWrite a b).pins = s.pins := by
  simp [State.arbFreezeWrite]

/-! ### Eclosion requests and commits -/

@[simp] theorem State.requestEclosion_pins (s : State) (page groups b at_) :
    (s.requestEclosion page groups b at_).pins = s.pins := by
  simp [State.requestEclosion]

@[simp] theorem State.cancelEclosion_pins (s : State) (page) : (s.cancelEclosion page).pins = s.pins := by
  simp [State.cancelEclosion]

@[simp] theorem State.stageCtrl_pins (s : State) (page groups b at_ go cancel) :
    (s.stageCtrl page groups b at_ go cancel).pins = s.pins := by
  simp -implicitDefEqProofs [State.stageCtrl]

@[simp] theorem State.commitAt_pins (s : State) (key) : (s.commitAt key).pins = s.pins := by
  unfold State.commitAt
  split <;> simp

/-! ### The tables of the hub -/

@[simp] theorem State.checkError_pins (s : State) (table index) : (s.checkError table index).pins = s.pins := by
  simp [State.checkError]

@[simp] theorem State.sideSwapped_pins (s : State) (k) : (s.sideSwapped k).pins = s.pins := by simp [State.sideSwapped]

@[simp] theorem State.setSwapSt_pins (s : State) (p v) : (s.setSwapSt p v).pins = s.pins := by
  unfold State.setSwapSt
  split <;> simp

@[simp] theorem State.setRefuse_pins (s : State) (p v) : (s.setRefuse p v).pins = s.pins := by
  unfold State.setRefuse
  split <;> simp

@[simp] theorem State.swapRequest_pins (s : State) (p) : (s.swapRequest p).pins = s.pins := by simp [State.swapRequest]

@[simp] theorem State.writeBytes_pins (s : State) (off data be) : (s.writeBytes off data be).pins = s.pins := by
  simp [State.writeBytes]

@[simp] theorem State.tableWrite_pins (s : State) (r off data be) : (s.tableWrite r off data be).pins = s.pins := by
  simp [State.tableWrite]

/-! ### The hub packet buffer -/

@[simp] theorem State.onLane_pins (s : State) (n f) : (s.onLane n f).pins = s.pins := by simp [State.onLane]
@[simp] theorem State.onClient_pins (s : State) (k f) : (s.onClient k f).pins = s.pins := by simp [State.onClient]

@[simp] theorem State.setClientStatus_pins (s : State) (k f v) : (s.setClientStatus k f v).pins = s.pins := by
  simp [State.setClientStatus]

@[simp] theorem State.setBits_pins (s : State) (e l) : (s.setBits e l).pins = s.pins := by
  simp -implicitDefEqProofs [State.setBits]

@[simp] theorem State.setLaneBits_pins (s : State) (n l) : (s.setLaneBits n l).pins = s.pins := by simp [State.setLaneBits]
@[simp] theorem State.setClientBits_pins (s : State) (k l) : (s.setClientBits k l).pins = s.pins := by simp [State.setClientBits]

@[simp] theorem State.setLaneStatus_pins (s : State) (n f v) : (s.setLaneStatus n f v).pins = s.pins := by
  simp [State.setLaneStatus]

@[simp] theorem State.ethNote_pins (s : State) (s0 k) : (State.ethNote s0 s k).pins = s.pins := by
  simp -implicitDefEqProofs [State.ethNote]

@[simp] theorem State.ethNotes_pins (s : State) (s0) : (State.ethNotes s0 s).pins = s.pins := by simp [State.ethNotes]
@[simp] theorem State.notePool_pins (s : State) : (s.notePool).pins = s.pins := by simp [State.notePool]

@[simp] theorem State.sendPfc_pins (s : State) (k c quanta) : (s.sendPfc k c quanta).pins = s.pins := by
  simp -implicitDefEqProofs [State.sendPfc]

@[simp] theorem State.grant_pins (s : State) (k c n era) : (s.grant k c n era).pins = s.pins := by simp [State.grant]
@[simp] theorem State.freeCells_pins (s : State) (k) : (s.freeCells k).pins = s.pins := by simp [State.freeCells]

/-! ### The channel stream -/

@[simp] theorem State.checkBits_pins (s : State) (p bits) : (s.checkBits p bits).pins = s.pins := by simp [State.checkBits]
@[simp] theorem State.onAdd_pins (s : State) (ch f) : (s.onAdd ch f).pins = s.pins := by simp [State.onAdd]

@[simp] theorem State.delineate_pins (s : State) (ch ss bytes cut) : (s.delineate ch ss bytes cut).pins = s.pins := by
  simp [State.delineate]

/-! ### Egress toward the clients -/

@[simp] theorem State.sendPacket_pins (s : State) (k) : (s.sendPacket k).pins = s.pins := by simp [State.sendPacket]
@[simp] theorem State.freeDrop_pins (s : State) (k) : (s.freeDrop k).pins = s.pins := by simp [State.freeDrop]
@[simp] theorem State.noteStall_pins (s : State) (k c) : (s.noteStall k c).pins = s.pins := by simp [State.noteStall]

@[simp] theorem State.egressOne_pins (s : State) (k c) : (s.egressOne k c).pins = s.pins := by
  unfold State.egressOne
  split <;> simp

@[simp] theorem State.egressAll_pins (n : Nat) (s : State) (k c) : (State.egressAll n s k c).pins = s.pins := by
  induction n generalizing s with
  | zero => rfl
  | succ n ih => rw [State.egressAll, State.ite_pins, ih, State.egressOne_pins, ite_self]

@[simp] theorem State.flushEgress_pins (s : State) (k c) : (s.flushEgress k c).pins = s.pins := by simp [State.flushEgress]
@[simp] theorem State.flushClient_pins (s : State) (k) : (s.flushClient k).pins = s.pins := by simp [State.flushClient]
@[simp] theorem State.flowCount_pins (s : State) (f k n) : (s.flowCount f k n).pins = s.pins := by simp [State.flowCount]
@[simp] theorem State.deliver_pins (s : State) (k) : (s.deliver k).pins = s.pins := by simp [State.deliver]

@[simp] theorem State.laneBlocks_pins (n : Nat) (s : State) (k) : (State.laneBlocks n s k).1.pins = s.pins := by
  induction n generalizing s with
  | zero => rfl
  | succ n ih =>
    rw [State.laneBlocks]
    split <;> simp [ih]

/-! ### The cipher stage -/

@[simp] theorem State.onKey_pins (s : State) (n f) : (s.onKey n f).pins = s.pins := by simp [State.onKey]
@[simp] theorem State.onChanKey_pins (s : State) (ch f) : (s.onChanKey ch f).pins = s.pins := by simp [State.onChanKey]
@[simp] theorem State.serveKey_pins (s : State) (n ss) : (s.serveKey n ss).pins = s.pins := by simp [State.serveKey]
@[simp] theorem State.wipeSlot_pins (s : State) (n) : (s.wipeSlot n).pins = s.pins := by simp [State.wipeSlot]

@[simp] theorem State.plainBytes_pins (s : State) (ch n) : (s.plainBytes ch n).1.pins = s.pins := by
  unfold State.plainBytes
  split <;> simp

@[simp] theorem State.hashUnits_pins (s : State) (ch ss units whole) : (s.hashUnits ch ss units whole).pins = s.pins := by
  simp [State.hashUnits]

@[simp] theorem State.closeTag_pins (s : State) (ch) : (s.closeTag ch).pins = s.pins := by simp [State.closeTag]
@[simp] theorem State.makeOwn_pins (s : State) (ch f) : (s.makeOwn ch f).pins = s.pins := by simp [State.makeOwn]

@[simp] theorem State.makeUnits_pins (s : State) (ch f) : (s.makeUnits ch f).pins = s.pins := by
  unfold State.makeUnits
  split <;> simp

@[simp] theorem State.deliverUnit_pins (s : State) (ch u) : (s.deliverUnit ch u).pins = s.pins := by simp [State.deliverUnit]
@[simp] theorem State.verdict_pins (s : State) (ch n code) : (s.verdict ch n code).pins = s.pins := by simp [State.verdict]
@[simp] theorem State.judge_pins (s : State) (ch) : (s.judge ch).pins = s.pins := by simp [State.judge]
@[simp] theorem State.missSources_pins (s : State) (ch n) : (s.missSources ch n).pins = s.pins := by simp [State.missSources]

@[simp] theorem State.closeSource_pins (s : State) (ch) : (s.closeSource ch).pins = s.pins := by
  simp only [State.closeSource]
  split <;> simp

@[simp] theorem State.openUnit_pins (s : State) (ch u) : (s.openUnit ch u).pins = s.pins := by simp [State.openUnit]

@[simp] theorem State.tagArrived_pins (s : State) (ch par n tag) : (s.tagArrived ch par n tag).pins = s.pins := by
  simp [State.tagArrived]

/-! ### From received columns to channels -/

@[simp] theorem State.onTransit_pins (s : State) (p lch f) : (s.onTransit p lch f).pins = s.pins := by simp [State.onTransit]
@[simp] theorem State.originEvent_pins (s : State) (locked) : (s.originEvent locked).pins = s.pins := by simp [State.originEvent]
@[simp] theorem State.pathWordIn_pins (s : State) (p lch w) : (s.pathWordIn p lch w).pins = s.pins := by simp [State.pathWordIn]
@[simp] theorem State.onSelector_pins (s : State) (ch f) : (s.onSelector ch f).pins = s.pins := by simp [State.onSelector]
@[simp] theorem State.onConcat_pins (s : State) (ch f) : (s.onConcat ch f).pins = s.pins := by simp [State.onConcat]

@[simp] theorem State.unitArrived_pins (s : State) (p ch u) : (s.unitArrived p ch u).pins = s.pins := by
  unfold State.unitArrived
  split <;> simp

@[simp] theorem State.lineFrame_pins (s : State) (p rows x n lch frameBad frameZero) :
    (s.lineFrame p rows x n lch frameBad frameZero).pins = s.pins := by
  simp only [State.lineFrame]
  split <;> simp

@[simp] theorem State.selectorStart_pins (s : State) (c) : (s.selectorStart c).pins = s.pins := by simp [State.selectorStart]
@[simp] theorem State.loseDeskew_pins (s : State) (c) : (s.loseDeskew c).pins = s.pins := by simp [State.loseDeskew]

@[simp] theorem State.withdrawHbm_pins (s : State) (page line chs) : (s.withdrawHbm page line chs).pins = s.pins := by
  simp [State.withdrawHbm]

@[simp] theorem State.followDiff_pins (s : State) (c diff) : (s.followDiff c diff).pins = s.pins := by simp [State.followDiff]

@[simp] theorem State.selectorDiff_pins (s : State) (c diff) : (s.selectorDiff c diff).pins = s.pins := by
  simp [State.selectorDiff]

@[simp] theorem State.tagIn_pins (s : State) (p q tag) : (s.tagIn p q tag).pins = s.pins := by
  simp only [State.tagIn]
  (repeat' split) <;> simp

@[simp] theorem State.encWord_pins (s : State) (ch enc integ) : (s.encWord ch enc integ).pins = s.pins := by simp [State.encWord]
@[simp] theorem State.dropSwitch_pins (s : State) (ch b) : (s.dropSwitch ch b).pins = s.pins := by simp [State.dropSwitch]

@[simp] theorem State.keyWordIn_pins (s : State) (p lch w) : (s.keyWordIn p lch w).pins = s.pins := by
  simp only [State.keyWordIn]
  split <;> simp

/-! ### The time bases -/

@[simp] theorem State.onTb_pins (s : State) (x f) : (s.onTb x f).pins = s.pins := by simp [State.onTb]
@[simp] theorem State.toInstant_pins (s : State) (t) : (s.toInstant t).pins = s.pins := by simp [State.toInstant]
@[simp] theorem State.tbSettle_pins (s : State) (x) : (s.tbSettle x).pins = s.pins := by simp [State.tbSettle]
@[simp] theorem State.tbShift_pins (s : State) (x d) : (s.tbShift x d).pins = s.pins := by simp [State.tbShift]
@[simp] theorem State.tbStep_pins (s : State) (x d) : (s.tbStep x d).pins = s.pins := by simp [State.tbStep]
@[simp] theorem State.setAdj_pins (s : State) (x v) : (s.setAdj x v).pins = s.pins := by simp [State.setAdj]
@[simp] theorem State.onPmClock_pins (s : State) (p f) : (s.onPmClock p f).pins = s.pins := by simp [State.onPmClock]
@[simp] theorem State.pmJoin_pins (s : State) (x p) : (s.pmJoin x p).pins = s.pins := by simp [State.pmJoin]
@[simp] theorem State.setFreqLock_pins (s : State) (x b) : (s.setFreqLock x b).pins = s.pins := by simp [State.setFreqLock]
@[simp] theorem State.setTimeLock_pins (s : State) (x b) : (s.setTimeLock x b).pins = s.pins := by simp [State.setTimeLock]
@[simp] theorem State.onServo_pins (s : State) (x sh f) : (s.onServo x sh f).pins = s.pins := by simp [State.onServo]
@[simp] theorem State.tbUnlock_pins (s : State) (x) : (s.tbUnlock x).pins = s.pins := by simp [State.tbUnlock]
@[simp] theorem State.tbStopAll_pins (s : State) : (s.tbStopAll).pins = s.pins := by simp [State.tbStopAll]
@[simp] theorem State.tbResumeAll_pins (s : State) : (s.tbResumeAll).pins = s.pins := by simp [State.tbResumeAll]

/-! ### Errored blocks, seconds, availability, bins and threshold crossings -/

@[simp] theorem State.onPm_pins (s : State) (e f) : (s.onPm e f).pins = s.pins := by simp [State.onPm]
@[simp] theorem State.erroredBlock_pins (s : State) (p) : (s.erroredBlock p).pins = s.pins := by simp [State.erroredBlock]
@[simp] theorem State.chanErrored_pins (s : State) (p ch) : (s.chanErrored p ch).pins = s.pins := by simp [State.chanErrored]

@[simp] theorem State.commitSecond_pins (s : State) (e far x) : (s.commitSecond e far x).pins = s.pins := by
  simp [State.commitSecond]

@[simp] theorem State.enterSecond_pins (s : State) (e far x) : (s.enterSecond e far x).pins = s.pins := by
  simp only [State.enterSecond]
  split <;> simp

@[simp] theorem State.portSecondOver_pins (s : State) (p) : (s.portSecondOver p).pins = s.pins := by simp [State.portSecondOver]

@[simp] theorem State.portSecond_pins (s : State) (p sec t sus) : (s.portSecond p sec t sus).pins = s.pins := by
  simp [State.portSecond]

@[simp] theorem State.suspectBins_pins (s : State) (e) : (s.suspectBins e).pins = s.pins := by simp [State.suspectBins]

@[simp] theorem State.pmCfgWritten_pins (s : State) (p en tb) : (s.pmCfgWritten p en tb).pins = s.pins := by
  simp [State.pmCfgWritten]

/-! ### The framer -/

@[simp] theorem State.transitBegin_pins (s : State) (p part o) : (s.transitBegin p part o).pins = s.pins := by
  simp [State.transitBegin]

@[simp] theorem State.transitFrame_pins (s : State) (p o) : (s.transitFrame p o).1.pins = s.pins := by
  simp only [State.transitFrame]
  (repeat' split) <;> simp

@[simp] theorem State.transitAll_pins (s : State) (p) : (s.transitAll p).1.pins = s.pins := by
  unfold State.transitAll
  rw [State.foldl_fst_pins (by simp)]
  simp

@[simp] theorem State.positionWords_pins (s : State) (p x fc) : (s.positionWords p x fc).1.pins = s.pins := by
  simp only [State.positionWords]
  (repeat' split) <;> simp

@[simp] theorem State.wordFields_pins (s : State) (p fc) : (s.wordFields p fc).1.pins = s.pins := by
  simp only [State.wordFields]
  (repeat' split) <;> simp

@[simp] theorem State.onDv_pins (s : State) (p c f) : (s.onDv p c f).pins = s.pins := by simp [State.onDv]
@[simp] theorem State.dvSend_pins (s : State) (p c body) : (s.dvSend p c body).pins = s.pins := by simp [State.dvSend]

@[simp] theorem State.nextCell_pins (s : State) (p) : (s.nextCell p).1.pins = s.pins := by
  unfold State.nextCell
  split <;> simp

@[simp] theorem State.sendNeg_pins (s : State) (p typ m) : (s.sendNeg p typ m).pins = s.pins := by simp [State.sendNeg]
@[simp] theorem State.onNeg_pins (s : State) (p f) : (s.onNeg p f).pins = s.pins := by simp [State.onNeg]
@[simp] theorem State.confirmTick_pins (s : State) (p) : (s.confirmTick p).pins = s.pins := by simp [State.confirmTick]

@[simp] theorem State.ringNeighbour_pins (s : State) (p) : (s.ringNeighbour p).pins = s.pins := by
  simp only [State.ringNeighbour]
  split <;> simp

@[simp] theorem State.ringEntry_pins (s : State) (n) : (s.ringEntry n).pins = s.pins := by
  unfold State.ringEntry
  split <;> simp

@[simp] theorem State.rememberNbrs_pins (s : State) (n v) : (s.rememberNbrs n v).pins = s.pins := by simp [State.rememberNbrs]
@[simp] theorem State.buildVector_pins (s : State) : (s.buildVector).pins = s.pins := by simp [State.buildVector]
@[simp] theorem State.txSuperframe_pins (s : State) (p fc) : (s.txSuperframe p fc).pins = s.pins := by simp [State.txSuperframe]

@[simp] theorem State.frameStart_pins (s : State) (p i part) : (s.frameStart p i part).pins = s.pins := by
  unfold State.frameStart
  extract_lets f fc wrap numbered wrapped tagged j opened s5 s6 x n chans made begun w outside r moved cols c called f' cause shown
    flags rdei smap smc oh body fcs counted body' faw fcs' fcsed sent closed
  have hopened : opened.pins = s.pins := (State.cond_pins (by simp)).trans (by simp [tagged, wrapped, numbered])
  have hs6 : s6.pins = opened.pins := (State.cond_pins (State.buildVector_pins _)).trans (opened.recordFrame_pins p j)
  have hbegun : begun.pins = s6.pins := (State.forEach_pins (by simp)).trans (State.forEach_pins (by simp))
  have houtside : outside.pins = begun.pins := (State.raiseN_pins _ _ _).trans (begun.wordFields_pins _ _)
  have hmoved : moved.pins = outside.pins := outside.transitAll_pins p
  have hcalled : called.pins = moved.pins := moved.nextCell_pins p
  have hshown : shown.pins = called.pins := State.wr_pins _ _ _
  have hfaw : faw.pins = shown.pins := by
    simp only [faw, State.ite_pins, State.useFree_pins, counted, State.onFrame_pins, ite_self]
  have hfcsed : fcsed.pins = faw.pins := by
    simp only [fcsed, State.ite_pins, State.useFree_pins, ite_self]
  have hclosed : closed.pins = fcsed.pins := State.onFrame_pins _ _ _
  clear_value closed
  rw [State.cond_pins (State.endSuperframe_pins _ _), hclosed, hfcsed, hfaw, hshown, hcalled, hmoved, houtside, hbegun, hs6, hopened]

@[simp] theorem State.injectFaw_pins (s : State) (p n) : (s.injectFaw p n).pins = s.pins := by simp [State.injectFaw]
@[simp] theorem State.injectFcs_pins (s : State) (p n) : (s.injectFcs p n).pins = s.pins := by simp [State.injectFcs]

/-! ### The ring commands -/

@[simp] theorem State.loadStandby_pins (s : State) (pl) : (s.loadStandby pl).pins = s.pins := by
  simp -implicitDefEqProofs [State.loadStandby]

@[simp] theorem State.onProt_pins (s : State) (f) : (s.onProt f).pins = s.pins := by simp [State.onProt]
@[simp] theorem State.restoreSwap_pins (s : State) (p) : (s.restoreSwap p).pins = s.pins := by simp [State.restoreSwap]
@[simp] theorem State.planSwaps_pins (s : State) : (s.planSwaps).pins = s.pins := by simp [State.planSwaps]

@[simp] theorem State.applyPlan_pins (s : State) (n) : (s.applyPlan n).pins = s.pins := by
  simp -implicitDefEqProofs [State.applyPlan]

@[simp] theorem State.setNeg_pins (s : State) (p v) : (s.setNeg p v).pins = s.pins := by simp [State.setNeg]

@[simp] theorem State.stageTx_pins (s : State) (p mod rate roll) : (s.stageTx p mod rate roll).pins = s.pins := by
  simp [State.stageTx]

@[simp] theorem State.stageRx_pins (s : State) (p mod rate roll) : (s.stageRx p mod rate roll).pins = s.pins := by
  simp [State.stageRx]

@[simp] theorem State.glideTx_pins (s : State) (p mod rate roll fc) : (s.glideTx p mod rate roll fc).pins = s.pins := by
  simp [State.glideTx]

@[simp] theorem State.glideRx_pins (s : State) (p mod rate roll fc) : (s.glideRx p mod rate roll fc).pins = s.pins := by
  simp [State.glideRx]

@[simp] theorem State.keepNeg_pins (s : State) (p m) : (s.keepNeg p m).pins = s.pins := by simp [State.keepNeg]
@[simp] theorem State.propose_pins (s : State) (p m lead) : (s.propose p m lead).pins = s.pins := by simp [State.propose]
@[simp] theorem State.endNeg_pins (s : State) (p how) : (s.endNeg p how).pins = s.pins := by simp [State.endNeg]

/-! ### The clock tree's health -/

@[simp] theorem State.onClock_pins (s : State) (f) : (s.onClock f).pins = s.pins := by simp [State.onClock]

@[simp] theorem State.switchClk_pins (s : State) (c) : (s.switchClk c).pins = s.pins := by
  unfold State.switchClk
  split <;> simp

@[simp] theorem State.stopControl_pins (s : State) : (s.stopControl).pins = s.pins := by simp [State.stopControl]
@[simp] theorem State.loseHub_pins (s : State) : (s.loseHub).pins = s.pins := by simp [State.loseHub]
@[simp] theorem State.commitLate_pins (s : State) : (s.commitLate).pins = s.pins := by simp [State.commitLate]
@[simp] theorem State.armMonitor_pins (s : State) : (s.armMonitor).pins = s.pins := by simp [State.armMonitor]
@[simp] theorem State.loseXref_pins (s : State) : (s.loseXref).pins = s.pins := by simp [State.loseXref]
@[simp] theorem State.judgeXref_pins (s : State) (n) : (s.judgeXref n).pins = s.pins := by simp [State.judgeXref]

@[simp] theorem State.judgeRestore_pins (s : State) (elapsed) : (s.judgeRestore elapsed).pins = s.pins := by
  simp [State.judgeRestore]

@[simp] theorem State.returnNow_pins (s : State) : (s.returnNow).pins = s.pins := by simp [State.returnNow]

@[simp] theorem State.gateRequest_pins (s : State) (d close) : (s.gateRequest d close).pins = s.pins := by
  simp [State.gateRequest]

@[simp] theorem State.gateEnd_pins (s : State) (d closed result) : (s.gateEnd d closed result).pins = s.pins := by
  simp -implicitDefEqProofs [State.gateEnd]

@[simp] theorem State.probeWrite_pins (s : State) (v) : (s.probeWrite v).pins = s.pins := by simp [State.probeWrite]

/-! ### Host lanes bit by bit -/

@[simp] theorem State.generated_pins (s : State) (n k) : (s.generated n k).1.pins = s.pins := by
  simp -implicitDefEqProofs [State.generated]

@[simp] theorem State.laneSend_pins (s : State) (n l) : (s.laneSend n l).pins = s.pins := by
  unfold State.laneSend
  (repeat' split) <;> simp

@[simp] theorem State.laneCheck_pins (s : State) (n l) : (s.laneCheck n l).pins = s.pins := by simp [State.laneCheck]

@[simp] theorem State.prbsWritten_pins (s : State) (s0 n gen chk pat inject) :
    (State.prbsWritten s0 s n gen chk pat inject).pins = s.pins := by
  simp [State.prbsWritten]

@[simp] theorem State.sendLaneFrame_pins (s : State) (n) : (s.sendLaneFrame n).pins = s.pins := by simp [State.sendLaneFrame]
@[simp] theorem State.setFrameLock_pins (s : State) (n on) : (s.setFrameLock n on).pins = s.pins := by simp [State.setFrameLock]

@[simp] theorem State.laneControl_pins (s : State) (n control) : (s.laneControl n control).pins = s.pins := by
  simp [State.laneControl]

@[simp] theorem State.laneFrameIn_pins (s : State) (n blocks) : (s.laneFrameIn n blocks).pins = s.pins := by
  simp only [State.laneFrameIn]
  (repeat' split) <;> simp

@[simp] theorem State.laneBlock_pins (s : State) (n b) : (s.laneBlock n b).pins = s.pins := by simp [State.laneBlock]
@[simp] theorem State.loseBlocks_pins (s : State) (n) : (s.loseBlocks n).pins = s.pins := by simp [State.loseBlocks]

@[simp] theorem State.laneIn_pins (n : Nat) (s : State) (k) : (State.laneIn n s k).pins = s.pins := by
  induction n generalizing s with
  | zero => rfl
  | succ n ih => simp [State.laneIn, ih]

@[simp] theorem State.ianenBits_pins (s : State) (n l) : (s.ianenBits n l).pins = s.pins := by simp [State.ianenBits]

/-! ### The host side -/

@[simp] theorem State.logPacket_pins (s : State) (ch tag ss) : (s.logPacket ch tag ss).pins = s.pins := by simp [State.logPacket]

@[simp] theorem State.pfcReceived_pins (s : State) (k vec times) : (s.pfcReceived k vec times).pins = s.pins := by
  simp [State.pfcReceived]

@[simp] theorem State.queueAdd_pins (s : State) (ch k) : (s.queueAdd ch k).pins = s.pins := by
  simp only [State.queueAdd]
  (repeat' split) <;> simp

@[simp] theorem State.police_pins (s : State) (flow len ns first) : (s.police flow len ns first).1.pins = s.pins := by
  simp only [State.police]
  (repeat' split) <;> simp

@[simp] theorem State.classifyFrame_pins (s : State) (k b error ns first era) :
    (s.classifyFrame k b error ns first era).pins = s.pins := by
  simp only [State.classifyFrame]
  split <;> simp

@[simp] theorem State.frameIn_pins (s : State) (k b broken ns first era) : (s.frameIn k b broken ns first era).pins = s.pins := by
  simp [State.frameIn]

@[simp] theorem State.laneEnable_pins (s : State) (n) : (s.laneEnable n).pins = s.pins := by
  unfold State.laneEnable
  (repeat' split) <;> simp

@[simp] theorem State.laneDisable_pins (s : State) (n) : (s.laneDisable n).pins = s.pins := by simp [State.laneDisable]
@[simp] theorem State.setReceiver_pins (s : State) (n l) : (s.setReceiver n l).pins = s.pins := by simp [State.setReceiver]

@[simp] theorem State.linkStatus_pins (s : State) (k up lf rf) : (s.linkStatus k up lf rf).pins = s.pins := by
  simp [State.linkStatus]

@[simp] theorem State.laneCut_pins (s : State) (n part ns first) : (s.laneCut n part ns first).pins = s.pins := by
  unfold State.laneCut
  split <;> simp

@[simp] theorem State.laneRemode_pins (s : State) (s0 n) : (State.laneRemode s0 s n).pins = s.pins := by
  unfold State.laneRemode
  (repeat' split) <;> simp

/-! ### The decoder pools -/

@[simp] theorem State.setCap_pins (s : State) (p v) : (s.setCap p v).pins = s.pins := by simp [State.setCap]

@[simp] theorem State.decoderRotate_pins (s : State) (p slot) : (s.decoderRotate p slot).pins = s.pins := by
  unfold State.decoderRotate
  split <;> simp

@[simp] theorem State.advanceBlock_pins (s : State) (p x) : (s.advanceBlock p x).pins = s.pins := by simp [State.advanceBlock]
@[simp] theorem State.onCodeword_pins (s : State) (p n f) : (s.onCodeword p n f).pins = s.pins := by simp [State.onCodeword]

@[simp] theorem State.startWaiting_pins (s : State) (p) : (s.startWaiting p).pins = s.pins := by
  refine State.forEach_pins fun c t => ?_
  split <;> simp

@[simp] theorem State.slipReport_pins (s : State) (p bad tail) : (s.slipReport p bad tail).pins = s.pins := by
  simp [State.slipReport]

@[simp] theorem State.countCodeword_pins (s : State) (p c) : (s.countCodeword p c).pins = s.pins := by
  unfold State.countCodeword
  split <;> simp

@[simp] theorem State.measureCodeword_pins (s : State) (p c) : (s.measureCodeword p c).pins = s.pins := by
  simp [State.measureCodeword]

@[simp] theorem State.takeData_pins (s : State) (p x first l) : (s.takeData p x first l).pins = s.pins := by simp [State.takeData]
@[simp] theorem State.gatherWord_pins (s : State) (p c bits) : (s.gatherWord p c bits).pins = s.pins := by simp [State.gatherWord]
@[simp] theorem State.takeLine_pins (s : State) (p info bad) : (s.takeLine p info bad).pins = s.pins := by simp [State.takeLine]
@[simp] theorem State.undecode_pins (s : State) (p n double) : (s.undecode p n double).pins = s.pins := by simp [State.undecode]

@[simp] theorem State.decoderRedo_pins (s : State) (p u v n) : (s.decoderRedo p u v n).pins = s.pins := by
  simp [State.decoderRedo]

@[simp] theorem State.decoderFail_pins (s : State) (p u i) : (s.decoderFail p u i).pins = s.pins := by
  simp only [State.decoderFail]
  (repeat' split) <;> simp

@[simp] theorem State.decoderClassify_pins (s : State) (p u pass) : (s.decoderClassify p u pass).pins = s.pins := by
  simp [State.decoderClassify]

@[simp] theorem State.outerLost_pins (s : State) (b p) : (s.outerLost b p).pins = s.pins := by simp [State.outerLost]

@[simp] theorem State.outerFail_pins (s : State) (b p redo u i) : (s.outerFail b p redo u i).pins = s.pins := by
  simp [State.outerFail]

@[simp] theorem State.fecTick_pins (s : State) (p) : (s.fecTick p).pins = s.pins := by simp -implicitDefEqProofs [State.fecTick]

/-! ### Key delivery, the key engine, switches, rotation, verdict deadlines and reports -/

@[simp] theorem State.keyCommand_pins (s : State) (r op a) : (s.keyCommand r op a).pins = s.pins := by simp [State.keyCommand]
@[simp] theorem State.keyWrite_pins (s : State) (r op a) : (s.keyWrite r op a).pins = s.pins := by simp [State.keyWrite]
@[simp] theorem State.setKek_pins (s : State) (k key) : (s.setKek k key).pins = s.pins := by simp [State.setKek]

@[simp] theorem State.loadSet_pins (s : State) (n ch drop derived epoch set) :
    (s.loadSet n ch drop derived epoch set).1.pins = s.pins := by
  simp only [State.loadSet]
  split <;> simp

@[simp] theorem State.slotBusy_pins (s : State) (r n) : (s.slotBusy r n).pins = s.pins := by simp [State.slotBusy]

@[simp] theorem State.requestSwitch_pins (s : State) (ch at_) : (s.requestSwitch ch at_).1.pins = s.pins := by
  simp only [State.requestSwitch]
  (repeat' split) <;> simp

@[simp] theorem State.eraseSlot_pins (s : State) (n) : (s.eraseSlot n).pins = s.pins := by simp [State.eraseSlot]

@[simp] theorem State.setAct_pins (s : State) (n ch drop) : (s.setAct n ch drop).1.pins = s.pins := by
  simp only [State.setAct]
  (repeat' split) <;> simp

@[simp] theorem State.setNxt_pins (s : State) (n ch drop) : (s.setNxt n ch drop).1.pins = s.pins := by
  simp only [State.setNxt]
  (repeat' split) <;> simp

@[simp] theorem State.keyEffect_pins (s : State) (c) : (s.keyEffect c).1.pins = s.pins := by
  have hfail : ((s.raise Ev.CY_KEY.checkFailed, 2) : State × Nat).1.pins = s.pins := s.raise_pins _
  unfold State.keyEffect
  extract_lets random target master r
  have hr : r.1.pins = s.pins := s.loadSet_pins ..
  clear_value r
  refine State.ite_fst_pins rfl (State.ite_fst_pins rfl (State.ite_fst_pins ?set (State.ite_fst_pins ?master
    (State.ite_fst_pins ?kek (State.ite_fst_pins ?plain (State.ite_fst_pins ?derive
      (State.ite_fst_pins (s.setAct_pins ..) (State.ite_fst_pins (s.setNxt_pins ..)
        (State.ite_fst_pins (State.ite_fst_pins rfl (s.requestSwitch_pins ..)) (State.ite_fst_pins (s.eraseSlot_pins _)
          (State.ite_fst_pins rfl (s.setKek_pins ..))))))))))))
  case set =>
    refine State.ite_fst_pins rfl (State.ite_fst_pins (s.slotBusy_pins ..) (State.ite_fst_pins rfl ?_))
    split
    · exact s.loadSet_pins ..
    · exact hfail
  case master =>
    refine State.ite_fst_pins rfl ?_
    split
    · rfl
    · exact hfail
  case kek =>
    refine State.ite_fst_pins rfl (State.ite_fst_pins rfl ?_)
    split
    · exact s.setKek_pins ..
    · exact hfail
  case plain => exact State.ite_fst_pins rfl (s.setKek_pins ..)
  case derive => exact State.ite_fst_pins rfl (State.ite_fst_pins (s.slotBusy_pins ..) ((r.1.raiseIf_pins ..).trans hr))

@[simp] theorem State.sendVerdict_pins (s : State) (ch v) : (s.sendVerdict ch v).pins = s.pins := by simp [State.sendVerdict]
@[simp] theorem State.resume_pins (s : State) (ch) : (s.resume ch).pins = s.pins := by simp [State.resume]

@[simp] theorem State.ensureNext_pins (s : State) (ch drop) : (s.ensureNext ch drop).pins = s.pins := by
  unfold State.ensureNext
  split <;> simp

@[simp] theorem State.rotate_pins (s : State) (ch) : (s.rotate ch).pins = s.pins := by simp [State.rotate]

/-! ### Stamps, the PTP servos and messages, 1PPS and time of day -/

@[simp] theorem State.lineStamp_pins (s : State) (p f rx) : (s.lineStamp p f rx).1.pins = s.pins := by simp [State.lineStamp]

@[simp] theorem State.stampAt_pins (s : State) (c rx) : (s.stampAt c rx).1.pins = s.pins := by
  unfold State.stampAt
  split <;> simp

@[simp] theorem State.takeSwitch_pins (s : State) (x) : (s.takeSwitch x).pins = s.pins := by simp [State.takeSwitch]

@[simp] theorem State.servoUpdate_pins (s : State) (x sh t1 t2 delay) : (s.servoUpdate x sh t1 t2 delay).pins = s.pins := by
  simp [State.servoUpdate]

@[simp] theorem State.setSlewRate_pins (s : State) (x r) : (s.setSlewRate x r).pins = s.pins := by simp [State.setSlewRate]
@[simp] theorem State.masterLost_pins (s : State) (x sh) : (s.masterLost x sh).pins = s.pins := by simp [State.masterLost]
@[simp] theorem State.switchGm_pins (s : State) (x) : (s.switchGm x).pins = s.pins := by simp [State.switchGm]
@[simp] theorem State.stepTb_pins (s : State) (x) : (s.stepTb x).pins = s.pins := by simp [State.stepTb]
@[simp] theorem State.tbSecond_pins (s : State) (x) : (s.tbSecond x).pins = s.pins := by simp [State.tbSecond]
@[simp] theorem State.tbTick_pins (s : State) (x) : (s.tbTick x).pins = s.pins := by simp [State.tbTick]
@[simp] theorem State.ptpLine_pins (s : State) (p bytes) : (s.ptpLine p bytes).pins = s.pins := by simp [State.ptpLine]

@[simp] theorem State.ptpEmit_pins (s : State) (x sh k port time content) :
    (s.ptpEmit x sh k port time content).pins = s.pins := by
  simp [State.ptpEmit]

@[simp] theorem State.ptpSend_pins (s : State) (x sh k c u) : (s.ptpSend x sh k c u).pins = s.pins := by
  unfold State.ptpSend
  split <;> simp

@[simp] theorem State.ptpAnswer_pins (s : State) (x sh c m u) : (s.ptpAnswer x sh c m u).pins = s.pins := by
  unfold State.ptpAnswer
  split <;> simp

@[simp] theorem State.ptpTake_pins (s : State) (c m corr e) : (s.ptpTake c m corr e).pins = s.pins := by
  simp only [State.ptpTake]
  (repeat' split) <;> simp

@[simp] theorem State.announceLine_pins (s : State) (x p l) : (s.announceLine x p l).pins = s.pins := by simp [State.announceLine]

@[simp] theorem State.todTake_pins (s : State) (l x) : (s.todTake l x).pins = s.pins := by
  unfold State.todTake
  split <;> simp

@[simp] theorem State.latchTime_pins (s : State) (r x t) : (s.latchTime r x t).pins = s.pins := by simp [State.latchTime]
@[simp] theorem State.latchAll_pins (s : State) (r t) : (s.latchAll r t).pins = s.pins := by simp [State.latchAll]

/-! ### What a register or table read returns and what it changes -/

@[simp] theorem State.readEffect_pins (s : State) (r page off) : (s.readEffect r page off).1.pins = s.pins := by
  simp only [State.readEffect]
  (repeat' split) <;> simp -implicitDefEqProofs

@[simp] theorem State.bar0Read_pins (s : State) (r off) : (s.bar0Read r off).1.pins = s.pins := by
  simp only [State.bar0Read]
  (repeat' split) <;> simp

@[simp] theorem State.bar2Read_pins (s : State) (r off) : (s.bar2Read r off).1.pins = s.pins := by
  simp only [State.bar2Read]
  (repeat' split) <;> simp

@[simp] theorem State.uncorrectable_pins (s : State) (store index) : (s.uncorrectable store index).pins = s.pins := by
  simp [State.uncorrectable]

@[simp] theorem State.unwrittenRead_pins (s : State) (addr) : (s.unwrittenRead addr).pins = s.pins := by
  simp [State.unwrittenRead]

@[simp] theorem State.busRead_pins (s : State) (r off) : (s.busRead r off).1.pins = s.pins := by
  simp only [State.busRead]
  (repeat' split) <;> simp

@[simp] theorem State.winRead_pins (s : State) (r off) : (s.winRead r off).1.pins = s.pins := by
  have hread := s.bar2Read_pins r off
  unfold State.winRead
  split
  · rfl
  · split <;> simp_all

theorem State.answer_pins (r : Requester) (x : State × Except Nat Nat) : (State.answer r x).pins = x.1.pins := by
  unfold State.answer
  split <;> rfl

/-! ### The mailboxes -/

@[simp] theorem State.setCoreSt_pins (s : State) (c v) : (s.setCoreSt c v).pins = s.pins := by simp [State.setCoreSt]
@[simp] theorem State.loadCore_pins (s : State) (c i slot) : (s.loadCore c i slot).pins = s.pins := by simp [State.loadCore]

@[simp] theorem State.runCore_pins (s : State) (c) : (s.runCore c).pins = s.pins := by
  simp only [State.runCore]
  split <;> simp

@[simp] theorem State.startCores_pins (s : State) (i slot) : (s.startCores i slot).pins = s.pins := by
  simp only [State.startCores]
  split <;> simp

@[simp] theorem State.calRunStart_pins (s : State) (x c) : (s.calRunStart x c).pins = s.pins := by simp [State.calRunStart]
@[simp] theorem State.glideStart_pins (s : State) (c) : (s.glideStart c).pins = s.pins := by simp [State.glideStart]
@[simp] theorem State.moultStart_pins (s : State) (x c) : (s.moultStart x c).pins = s.pins := by simp [State.moultStart]

@[simp] theorem State.mbxFinish_pins (s : State) (x status detail rsp) : (s.mbxFinish x status detail rsp).pins = s.pins := by
  unfold State.mbxFinish
  split <;> simp -implicitDefEqProofs

@[simp] theorem State.moultFailed_pins (s : State) : (s.moultFailed).pins = s.pins := by simp [State.moultFailed]
@[simp] theorem State.pmBulk_pins (s : State) (c n) : (s.pmBulk c n).pins = s.pins := by simp [State.pmBulk]

@[simp] theorem State.hostData_pins (s : State) (c n w) : (s.hostData c n w).1.pins = s.pins := by
  unfold State.hostData
  split <;> simp

@[simp] theorem State.pmRestart_pins (s : State) (e) : (s.pmRestart e).pins = s.pins := by simp [State.pmRestart]
@[simp] theorem State.cfgSave_pins (s : State) (policy) : (s.cfgSave policy).1.pins = s.pins := by simp [State.cfgSave]
@[simp] theorem State.ptpPortCfg_pins (s : State) (w) : (s.ptpPortCfg w).pins = s.pins := by simp [State.ptpPortCfg]
@[simp] theorem State.ptpDataset_pins (s : State) (w) : (s.ptpDataset w).1.pins = s.pins := by simp [State.ptpDataset]
@[simp] theorem State.planList_pins (s : State) : (s.planList).1.pins = s.pins := by simp [State.planList]
theorem State.krStatus_eq (s : State) (ch) : ∃ n d l, s.krStatus ch = ((s.divOpen n d).1, l) := ⟨_, _, _, rfl⟩

@[simp] theorem State.krStatus_pins (s : State) (ch) : (s.krStatus ch).1.pins = s.pins := by
  obtain ⟨n, d, l, h⟩ := s.krStatus_eq ch
  rw [h, State.divOpen_pins]

@[simp] theorem State.mbxResult_pins (s : State) (c) : (s.mbxResult c).1.pins = s.pins := by
  unfold State.mbxResult
  extract_lets w0 ok ver t image written mem flash svn saved p spans rows list dataset rotation swap
  have hok : ∀ t rsp, (ok t rsp).1.pins = t.pins := fun _ _ => rfl
  have hwritten : written.pins = s.pins :=
    (State.setFlashSlot_pins _ _ _).trans ((State.serviceRead_pins _ _ _ _).trans (s.hostData_pins c _ _))
  have hsaved : saved.1.pins = s.pins := s.cfgSave_pins w0
  have hrows : rows.1.pins = s.pins := s.hostData_pins c _ _
  have hlist : list.1.pins = s.pins := s.planList_pins
  have hdataset : dataset.1.pins = s.pins := s.ptpDataset_pins w0
  have hrotation : rotation.1.pins = s.pins := s.krStatus_pins w0
  have hswap : swap.1.pins = s.pins := s.requestSwitch_pins w0 _
  clear_value ok written saved rows list dataset rotation swap
  split
  all_goals
    (repeat' split) <;> simp -implicitDefEqProofs [hok, hwritten, hsaved, hrows, hlist, hdataset, hrotation, hswap]

/-! ### The control cores -/

@[simp] theorem State.onCore_pins (s : State) (f) : (s.onCore f).pins = s.pins := by simp [State.onCore]

@[simp] theorem State.boot_pins (s : State) : (s.boot).pins = s.pins := by
  simp only [State.boot]
  (repeat' split) <;> simp

@[simp] theorem State.writeMirror_pins (s : State) : (s.writeMirror).pins = s.pins := by simp [State.writeMirror]
@[simp] theorem State.emergencyMoult_pins (s : State) : (s.emergencyMoult).pins = s.pins := by simp [State.emergencyMoult]

@[simp] theorem State.coreSelfTest_pins (s : State) (pass) : (s.coreSelfTest pass).pins = s.pins := by
  unfold State.coreSelfTest
  split <;> simp

@[simp] theorem State.nmiClear_pins (s : State) (b) : (s.nmiClear b).pins = s.pins := by
  simp -implicitDefEqProofs [State.nmiClear]

@[simp] theorem State.telError_pins (s : State) : (s.telError).pins = s.pins := by simp [State.telError]

/-! ### The DMA engine's channels and rings -/

@[simp] theorem State.dmaState_pins (s : State) (c) : (s.dmaState c).pins = s.pins := by simp [State.dmaState]

@[simp] theorem State.dmaWriteBack_pins (s : State) (c i status) : (s.dmaWriteBack c i status).pins = s.pins := by
  simp [State.dmaWriteBack]

@[simp] theorem State.dmaServiceHalt_pins (s : State) (c err) : (s.dmaServiceHalt c err).pins = s.pins := by
  simp [State.dmaServiceHalt]

@[simp] theorem State.dmaFailed_pins (s : State) (c err) : (s.dmaFailed c err).pins = s.pins := by simp [State.dmaFailed]

@[simp] theorem State.engineHalt_pins (s : State) (cause addr final) : (s.engineHalt cause addr final).pins = s.pins := by
  simp [State.engineHalt]

@[simp] theorem State.channelHalt_pins (s : State) (c err) : (s.channelHalt c err).pins = s.pins := by simp [State.channelHalt]
@[simp] theorem State.dmaStart_pins (s : State) (c d) : (s.dmaStart c d).pins = s.pins := by simp [State.dmaStart]

@[simp] theorem State.dmaFetch_pins (s : State) (c n) : (s.dmaFetch c n).pins = s.pins := by
  induction n generalizing s with
  | zero => rfl
  | succ n ih => simp [State.dmaFetch, ih]

@[simp] theorem State.dmaLocal_pins (s : State) (c) : (s.dmaLocal c).pins = s.pins := by
  simp only [State.dmaLocal]
  (repeat' split) <;> simp

@[simp] theorem State.dmaNext_pins (s : State) (c) : (s.dmaNext c).pins = s.pins := by
  simp only [State.dmaNext]
  split <;> simp

@[simp] theorem State.dmaKick_pins (s : State) (c) : (s.dmaKick c).pins = s.pins := by simp [State.dmaKick]
@[simp] theorem State.dmaTail_pins (s : State) (r c tail) : (s.dmaTail r c tail).pins = s.pins := by simp [State.dmaTail]
@[simp] theorem State.dmaRun_pins (s : State) (c b) : (s.dmaRun c b).pins = s.pins := by simp [State.dmaRun]
@[simp] theorem State.dmaReset_pins (s : State) (c) : (s.dmaReset c).pins = s.pins := by simp [State.dmaReset]
@[simp] theorem State.dmaHaltClr_pins (s : State) : (s.dmaHaltClr).pins = s.pins := by simp [State.dmaHaltClr]
@[simp] theorem State.dmaEnable_pins (s : State) (b) : (s.dmaEnable b).pins = s.pins := by simp [State.dmaEnable]

@[simp] theorem State.dmaChannelWrite_pins {s : State} (r c) {f : State → State} (h : (f s).pins = s.pins) :
    (s.dmaChannelWrite r c f).pins = s.pins :=
  State.guarded_pins r _ _ (by simp [h])

/-! ### The monitor converters, the sequencer, the filter chains, urgent conversions -/

@[simp] theorem State.onMon_pins (s : State) (f) : (s.onMon f).pins = s.pins := by simp [State.onMon]
@[simp] theorem State.setMonEntry_pins (s : State) (e x) : (s.setMonEntry e x).pins = s.pins := by simp [State.setMonEntry]
@[simp] theorem State.setResValid_pins (s : State) (e v) : (s.setResValid e v).pins = s.pins := by simp [State.setResValid]
@[simp] theorem State.filterSwap_pins (s : State) (e bank) : (s.filterSwap e bank).pins = s.pins := by simp [State.filterSwap]
@[simp] theorem State.fadeRound_pins (s : State) (e) : (s.fadeRound e).pins = s.pins := by simp [State.fadeRound]
@[simp] theorem State.takeEntry_pins (s : State) (e) : (s.takeEntry e).pins = s.pins := by simp [State.takeEntry]

@[simp] theorem State.chainStep_pins (s : State) (c cfg idx ch x) : (s.chainStep c cfg idx ch x).1.pins = s.pins := by
  simp only [State.chainStep]
  (repeat' split) <;> simp

@[simp] theorem State.halfStep_pins (s : State) (e half ch x) : (s.halfStep e half ch x).1.pins = s.pins := by
  simp only [State.halfStep]
  split <;> simp

@[simp] theorem State.judgeAlarm_pins (s : State) (e ch v) : (s.judgeAlarm e ch v).pins = s.pins := by simp [State.judgeAlarm]

@[simp] theorem State.takeResult_pins (s : State) (e a b) : (s.takeResult e a b).pins = s.pins := by
  unfold State.takeResult
  split <;> simp

@[simp] theorem State.monLasting_pins (s : State) (u) : (s.monLasting u).pins = s.pins := by simp [State.monLasting]
@[simp] theorem State.checkEntry_pins (s : State) (e ch x) : (s.checkEntry e ch x).pins = s.pins := by simp [State.checkEntry]

@[simp] theorem State.urgentRequest_pins (s : State) (ch b) : (s.urgentRequest ch b).pins = s.pins := by
  simp [State.urgentRequest]

@[simp] theorem State.urgentDone_pins (s : State) (code) : (s.urgentDone code).pins = s.pins := by simp [State.urgentDone]

/-! ### Event registers, MSI-X messages, latching reads, snapshots, trace delivery, page soft reset and freeze -/

@[simp] theorem State.evtClear_pins (s : State) (page b) : (s.evtClear page b).pins = s.pins := by
  simp -implicitDefEqProofs [State.evtClear]

@[simp] theorem State.evtForceWrite_pins (s : State) (page b) : (s.evtForceWrite page b).pins = s.pins := by
  simp [State.evtForceWrite]

@[simp] theorem State.pageRead_pins (s : State) (r page off) : (s.pageRead r page off).pins = s.pins := by
  rw [State.pageRead, State.answer_pins, State.busRead_pins]

@[simp] theorem State.snapGo_pins (s : State) (r atTick flows) : (s.snapGo r atTick flows).pins = s.pins := by simp [State.snapGo]
@[simp] theorem State.snapTick_pins (s : State) : (s.snapTick).pins = s.pins := by simp [State.snapTick]
@[simp] theorem State.unfreeze_pins (s : State) (page) : (s.unfreeze page).pins = s.pins := by simp [State.unfreeze]

@[simp] theorem State.softResetNow_pins (s : State) (page) : (s.softResetNow page).pins = s.pins := by
  simp -implicitDefEqProofs [State.softResetNow]

@[simp] theorem State.softReset_pins (s : State) (r page) : (s.softReset r page).pins = s.pins := by simp [State.softReset]
@[simp] theorem State.freeze_pins (s : State) (page) : (s.freeze page).pins = s.pins := by simp [State.freeze]

/-! ### The calibration service's runs, the PMBus rails, adaptive voltage, the power cap and the thermal checks -/

@[simp] theorem State.onPower_pins (s : State) (f) : (s.onPower f).pins = s.pins := by simp [State.onPower]
@[simp] theorem State.detectorFail_pins (s : State) (t) : (s.detectorFail t).pins = s.pins := by simp [State.detectorFail]
@[simp] theorem State.taskTick_pins (s : State) (t) : (s.taskTick t).pins = s.pins := by simp [State.taskTick]
@[simp] theorem State.railEnabled_pins (s : State) (r) : (s.railEnabled r).pins = s.pins := by simp [State.railEnabled]

@[simp] theorem State.codeMicroVolts_pins (s : State) (ch c) : (s.codeMicroVolts ch c).1.pins = s.pins := by
  unfold State.codeMicroVolts
  split <;> simp

@[simp] theorem State.railRead_pins (s : State) (r x) : (s.railRead r x).pins = s.pins := by
  simp only [State.railRead]
  (repeat' split) <;> simp

@[simp] theorem State.railTick_pins (s : State) (reads) : (s.railTick reads).pins = s.pins := by simp [State.railTick]

@[simp] theorem State.linear16_pins (s : State) (r v) : (s.linear16 r v).1.pins = s.pins := by
  simp only [State.linear16]
  (repeat' split) <;> simp

@[simp] theorem State.setVout_pins (s : State) (v) : (s.setVout v).pins = s.pins := by
  unfold State.setVout
  split <;> simp

@[simp] theorem State.avsTick_pins (s : State) (slack) : (s.avsTick slack).pins = s.pins := by simp [State.avsTick]

@[simp] theorem State.ngmiMargin_pins (s : State) (p) : (s.ngmiMargin p).1.pins = s.pins := by
  unfold State.ngmiMargin
  split <;> simp

@[simp] theorem State.marginPort_pins (s : State) (larger) : (s.marginPort larger).1.pins = s.pins := by simp [State.marginPort]
@[simp] theorem State.startDeferred_pins (s : State) : (s.startDeferred).pins = s.pins := by simp [State.startDeferred]
@[simp] theorem State.capMeasure_pins (s : State) : (s.capMeasure).pins = s.pins := by simp [State.capMeasure]
@[simp] theorem State.capUndo_pins (s : State) : (s.capUndo).pins = s.pins := by simp [State.capUndo]
@[simp] theorem State.capTick_pins (s : State) : (s.capTick).pins = s.pins := by simp -implicitDefEqProofs [State.capTick]

@[simp] theorem State.takeTemp_pins (s : State) (ch code) : (s.takeTemp ch code).pins = s.pins := by
  unfold State.takeTemp
  split <;> simp

@[simp] theorem State.frontTempTick_pins (s : State) (p) : (s.frontTempTick p).pins = s.pins := by simp [State.frontTempTick]

/-! ### Register writes -/

@[simp] theorem State.storeField_pins (s : State) (s0 r f data) : (State.storeField s0 s r f data).pins = s.pins := by
  unfold State.storeField
  split <;> simp

@[simp] theorem State.storeWord_pins (s : State) (s0 r page off data) : (State.storeWord s0 s r page off data).pins = s.pins := by
  simp [State.storeWord]

@[simp] theorem State.headerEffect_pins (s : State) (s0 r page off d) : (State.headerEffect s0 s r page off d).pins = s.pins := by
  simp -implicitDefEqProofs [State.headerEffect]

@[simp] theorem State.enableEdge_pins {s : State} (old : State) (r p f d) {set clear : State → State} (hset : ∀ t, (set t).pins = t.pins)
    (hclear : ∀ t, (clear t).pins = t.pins) : (State.enableEdge old s r p f d set clear).pins = s.pins := by
  simp [State.enableEdge, hset, hclear]

@[simp] theorem State.dmaEffect_pins (s : State) (s0 r off d) : (State.dmaEffect s0 s r off d).pins = s.pins := by
  simp [State.dmaEffect]

@[simp] theorem State.chtestEdge_pins (s : State) (s0 p) : (State.chtestEdge s0 s p).pins = s.pins := by simp [State.chtestEdge]

@[simp] theorem State.reservedWrite_pins (s : State) (r off d) : (s.reservedWrite r off d).pins = s.pins := by
  simp [State.reservedWrite]

@[simp] theorem State.msixWrite_pins (s : State) (i d) : (s.msixWrite i d).pins = s.pins := by simp [State.msixWrite]

/-! ### The deframer -/

@[simp] theorem State.declareInFrame_pins (s : State) (p) : (s.declareInFrame p).pins = s.pins := by simp [State.declareInFrame]
@[simp] theorem State.takeStream_pins (s : State) (p n) : (s.takeStream p n).pins = s.pins := by simp [State.takeStream]

@[simp] theorem State.hunt_pins (s : State) (p n) : (s.hunt p n).pins = s.pins := by
  simp only [State.hunt]
  split <;> simp

@[simp] theorem State.rxFlags_pins (s : State) (p flags) : (s.rxFlags p flags).pins = s.pins := by simp [State.rxFlags]
@[simp] theorem State.rxRdei_pins (s : State) (p v) : (s.rxRdei p v).pins = s.pins := by simp [State.rxRdei]
@[simp] theorem State.rxSmap_pins (s : State) (p v) : (s.rxSmap p v).pins = s.pins := by simp [State.rxSmap]
@[simp] theorem State.rxSmc_pins (s : State) (p v expected) : (s.rxSmc p v expected).pins = s.pins := by simp [State.rxSmc]
@[simp] theorem State.rxRingEntry_pins (s : State) (p n v) : (s.rxRingEntry p n v).pins = s.pins := by simp [State.rxRingEntry]

@[simp] theorem State.rxWords_pins (s : State) (p j prot key itag) : (s.rxWords p j prot key itag).pins = s.pins := by
  simp only [State.rxWords]
  (repeat' split) <;> simp

@[simp] theorem State.rxWordsLost_pins (s : State) (p j) : (s.rxWordsLost p j).pins = s.pins := by
  simp only [State.rxWordsLost]
  split <;> simp

@[simp] theorem State.dvComplete_pins (s : State) (p c m) : (s.dvComplete p c m).pins = s.pins := by simp [State.dvComplete]

@[simp] theorem State.rxCell_pins (s : State) (p cell) : (s.rxCell p cell).pins = s.pins := by
  simp only [State.rxCell]
  (repeat' split) <;> simp

@[simp] theorem State.concatDelay_pins (s : State) (ch skew) : (s.concatDelay ch skew).pins = s.pins := by
  simp [State.concatDelay]

@[simp] theorem State.concatArrive_pins (s : State) (p fc t ch) : (s.concatArrive p fc t ch).pins = s.pins := by
  simp only [State.concatArrive]
  split <;> simp

@[simp] theorem State.rxSuperframe_pins (s : State) (p atBoundary) : (s.rxSuperframe p atBoundary).pins = s.pins := by
  simp [State.rxSuperframe]

@[simp] theorem State.validateFc_pins (s : State) (p fc good) : (s.validateFc p fc good).pins = s.pins := by
  simp [State.validateFc]

@[simp] theorem State.countJust_pins (s : State) (p jcRow) : (s.countJust p jcRow).pins = s.pins := by simp [State.countJust]

@[simp] theorem State.rxFields_pins (s : State) (p bits expected) : (s.rxFields p bits expected).pins = s.pins := by
  simp [State.rxFields]

@[simp] theorem State.rxFrame_pins (s : State) (p x miss) : (s.rxFrame p x miss).pins = s.pins := by
  simp only [State.rxFrame]
  (repeat' split) <;> simp

@[simp] theorem State.relength_pins (s : State) (p) : (s.relength p).pins = s.pins := by simp [State.relength]

/-! ### DMA bursts -/

@[simp] theorem State.devRead_pins (s : State) (dev) : (s.devRead dev).1.pins = s.pins := by
  have hbus := s.busRead_pins .dma dev
  have hwin := s.winRead_pins .dma (dev - 0x10000000)
  unfold State.devRead
  (repeat' split) <;> simp_all

@[simp] theorem State.devReads_pins (s : State) (dev n) : (s.devReads dev n).1.pins = s.pins := by
  induction n generalizing s dev with
  | zero => rfl
  | succ n ih =>
    have hread := s.devRead_pins dev
    rw [State.devReads]
    split
    · simp_all
    · next t v ht =>
      have hrest := ih t (dev + 4)
      split <;> simp_all

@[simp] theorem State.dmaBytes_pins (s : State) (c n) : (s.dmaBytes c n).pins = s.pins := by simp [State.dmaBytes]

@[simp] theorem State.dmaToHost_pins (s : State) (c d n) : (s.dmaToHost c d n).pins = s.pins := by
  have hread := fun dev n => s.devReads_pins dev n
  unfold State.dmaToHost
  dsimp only
  split
  · next t e ht => rw [State.channelHalt_pins, ← hread, ht]
  · next t ws ht =>
    have ht : t.pins = s.pins := by rw [← hread, ht]
    (repeat' split) <;> simp [ht]

@[simp] theorem State.dmaRequestFails_pins (s : State) (c desc cause) : (s.dmaRequestFails c desc cause).pins = s.pins := by
  simp only [State.dmaRequestFails]
  (repeat' split) <;> simp

@[simp] theorem State.dmaDescrData_pins (s : State) (c bytes) : (s.dmaDescrData c bytes).pins = s.pins := by
  unfold State.dmaDescrData
  split <;> simp

/-! ### Memory protection -/

@[simp] theorem State.lineExhausted_pins (s : State) (page) : (s.lineExhausted page).pins = s.pins := by
  unfold State.lineExhausted
  split <;> simp

@[simp] theorem State.lineLasting_pins (s : State) (f) : (s.lineLasting f).pins = s.pins := by
  unfold State.lineLasting
  (repeat' split) <;> simp

@[simp] theorem State.lineTransient_pins (s : State) (page) : (s.lineTransient page).pins = s.pins := by
  simp [State.lineTransient]

@[simp] theorem State.uncorrectableRead_pins (s : State) (f who) : (s.uncorrectableRead f who).pins = s.pins := by
  unfold State.uncorrectableRead
  split <;> simp

/-! ### Check and retry by block -/

@[simp] theorem State.aesNote_pins (s : State) (d cycle) : (s.aesNote d cycle).pins = s.pins := by simp [State.aesNote]
@[simp] theorem State.aesSpoil_pins (s : State) (d i) : (s.aesSpoil d i).pins = s.pins := by simp [State.aesSpoil]
@[simp] theorem State.aesFail_pins (s : State) (d u i) : (s.aesFail d u i).pins = s.pins := by simp [State.aesFail]

@[simp] theorem State.bridgeClassify_pins (s : State) (b u pass) : (s.bridgeClassify b u pass).pins = s.pins := by
  simp [State.bridgeClassify]

@[simp] theorem State.checkFail_pins (s : State) (b u i) : (s.checkFail b u i).pins = s.pins := by
  unfold State.checkFail
  split <;> simp

@[simp] theorem State.attemptDone_pins (s : State) (b u pass i) : (s.attemptDone b u pass i).pins = s.pins := by
  unfold State.attemptDone
  split <;> simp

@[simp] theorem State.spareFails_pins (s : State) (b u) : (s.spareFails b u).pins = s.pins := by
  unfold State.spareFails
  split <;> simp

@[simp] theorem State.spareTest_pins (s : State) (b u pass) : (s.spareTest b u pass).pins = s.pins := by
  unfold State.spareTest
  (repeat' split) <;> simp

/-! ### Resets, their release, the power-on retest, and the resets of the host side -/

@[simp] theorem State.spareFields_pins (s : State) : (s.spareFields).pins = s.pins := by simp [State.spareFields]

@[simp] theorem State.restoreConverters_pins (s : State) : (s.restoreConverters).pins = s.pins := by
  simp [State.restoreConverters]

@[simp] theorem State.keepHbm_pins (s : State) (old) : (s.keepHbm old).pins = s.pins := by
  simp -implicitDefEqProofs [State.keepHbm]

@[simp] theorem State.keepFused_pins (s : State) (old) : (s.keepFused old).pins = s.pins := by simp [State.keepFused]

@[simp] theorem State.retestPassed_pins (s : State) (passed) : (s.retestPassed passed).pins = s.pins := by
  refine State.forEach_pins fun e t => ?_
  dsimp only
  split <;> simp

@[simp] theorem State.rowsPassed_pins (s : State) (rows) : (s.rowsPassed rows).pins = s.pins := by simp [State.rowsPassed]
@[simp] theorem State.dmaHostReset_pins (s : State) (c) : (s.dmaHostReset c).pins = s.pins := by simp [State.dmaHostReset]

@[simp] theorem State.dmaLinkDown_pins (s : State) : (s.dmaLinkDown).pins = s.pins := by
  unfold State.dmaLinkDown
  (repeat' split) <;> simp

/-! ### The configuration restore at boot -/

@[simp] theorem State.restoreServices_pins (s : State) (tb tel) : (s.restoreServices tb tel).pins = s.pins := by
  simp [State.restoreServices]

@[simp] theorem State.commitNow_pins (s : State) (page g) : (s.commitNow page g).pins = s.pins := by
  simp only [State.commitNow]
  split <;> simp

@[simp] theorem State.stage_pins (s : State) (l) : (s.stage l).pins = s.pins := by simp -implicitDefEqProofs [State.stage]
@[simp] theorem State.restoreLoop_pins (s : State) (c p) : (s.restoreLoop c p).pins = s.pins := by simp [State.restoreLoop]
@[simp] theorem State.requestSpan_pins (s : State) (p) : (s.requestSpan p).pins = s.pins := by simp [State.requestSpan]

/-! ### The management tick -/

@[simp] theorem State.figure_pins (s : State) (f : Field) {x : State × Option Int} (h : x.1.pins = s.pins) :
    (s.figure f x).pins = s.pins := by
  unfold State.figure
  split
  · split <;> simp [h]
  · simp

@[simp] theorem State.figureI_pins (s : State) (f : Field) {x : State × Option Int} (h : x.1.pins = s.pins) :
    (s.figureI f x).pins = s.pins := by
  unfold State.figureI
  split
  · split <;> simp [h]
  · simp

@[simp] theorem State.quotient_pins (s : State) (n d) : (s.quotient n d).1.pins = s.pins := by simp [State.quotient]

@[simp] theorem State.osnr_pins (s : State) (p power) : (s.osnr p power).1.pins = s.pins := by
  simp only [State.osnr]
  split <;> simp

@[simp] theorem State.esnr_pins (s : State) (t) : (s.esnr t).1.pins = s.pins := by
  unfold State.esnr
  split <;> simp

@[simp] theorem State.ngmi_pins (s : State) (t) : (s.ngmi t).1.pins = s.pins := by
  unfold State.ngmi
  split <;> simp

@[simp] theorem State.hopMean_pins (s : State) (sum hops) : (s.hopMean sum hops).1.pins = s.pins := by
  unfold State.hopMean
  split <;> simp

@[simp] theorem State.dispersionFigure_pins (s : State) (p t) : (s.dispersionFigure p t).1.pins = s.pins := by
  simp [State.dispersionFigure]

@[simp] theorem State.spanFigures_pins (s : State) (p power) : (s.spanFigures p power).pins = s.pins := by
  simp [State.spanFigures]

@[simp] theorem State.spanTick_pins (s : State) (p power) : (s.spanTick p power).pins = s.pins := by
  simp -implicitDefEqProofs [State.spanTick]

@[simp] theorem State.noiseAge_pins (s : State) (p) : (s.noiseAge p).pins = s.pins := by simp [State.noiseAge]
@[simp] theorem State.portTick_pins (s : State) (p x) : (s.portTick p x).pins = s.pins := by simp [State.portTick]

@[simp] theorem State.occupancyTick_pins (s : State) (t above) : (s.occupancyTick t above).pins = s.pins := by
  simp [State.occupancyTick]

@[simp] theorem State.clockTick_pins (s : State) : (s.clockTick).pins = s.pins := by simp [State.clockTick]
@[simp] theorem State.refsTick_pins (s : State) (x) : (s.refsTick x).pins = s.pins := by simp [State.refsTick]
@[simp] theorem State.timingTick_pins (s : State) : (s.timingTick).pins = s.pins := by simp [State.timingTick]
@[simp] theorem State.serviceTick_pins (s : State) : (s.serviceTick).pins = s.pins := by simp [State.serviceTick]

end Sys2Proof.Machine
end


section
/-! What leaves the bypass outputs alone (for O7; R259): the operations that take a ramp to zero, and every command that neither
resets the device nor reaches the bypass. -/

namespace Sys2Proof.Machine

open F

/-! ### Branches, conditions and results -/

@[simp] theorem Pins.ite_bypassHold {c : Prop} [Decidable c] (a b : Pins) :
    (if c then a else b).bypassHold = if c then a.bypassHold else b.bypassHold :=
  apply_ite Pins.bypassHold c a b

@[simp] theorem State.cond_bypassHold {s : State} {b : Bool} {f : State → State} (h : (f s).pins.bypassHold = s.pins.bypassHold) :
    (s.cond b f).pins.bypassHold = s.pins.bypassHold := by
  cases b
  · rfl
  · exact h

/-- The levels of the bypass outputs in the state that a command answers, where it answers one. -/
def bypassOf : Result → Option (Pair Bool)
  | .next t => some t.pins.bypassHold
  | _ => none

@[simp] theorem bypassOf_next (t : State) : bypassOf (.next t) = some t.pins.bypassHold := rfl

@[simp] theorem bypassOf_clocked {s : State} {r : Result} (h : bypassOf r = some s.pins.bypassHold) :
    bypassOf (s.clocked r) = some s.pins.bypassHold := by
  unfold State.clocked
  split
  · rfl
  · exact h

@[simp] theorem bypassOf_served {s : State} {r : Result} (h : bypassOf r = some s.pins.bypassHold) :
    bypassOf (s.served r) = some s.pins.bypassHold := by
  unfold State.served
  split
  · exact h
  · rfl

/-! ### The named operations over registers, counters, latches, tables and the output record -/

/-! ### Whether an access reaches its page, and the error response where it does not -/

@[simp] theorem State.guarded_bypassHold {s : State} (r : Requester) (page off : Nat) {f : State → State}
    (h : (f s).pins.bypassHold = s.pins.bypassHold) : (s.guarded r page off f).pins.bypassHold = s.pins.bypassHold := by
  simp [State.guarded, h]

/-! ### Reference inputs, selection and the DPLLs -/

@[simp] theorem execReferencePresenceChange_bypassHold (s : State) (i edges) :
    bypassOf (execReferencePresenceChange i edges s) = some s.pins.bypassHold := by
  simp [execReferencePresenceChange]

@[simp] theorem execRefMeasureComplete_bypassHold (s : State) (i) :
    bypassOf (execRefMeasureComplete i s) = some s.pins.bypassHold := by
  simp [execRefMeasureComplete]

@[simp] theorem execRefWtrExpiry_bypassHold (s : State) (i) : bypassOf (execRefWtrExpiry i s) = some s.pins.bypassHold := by
  simp [execRefWtrExpiry]

@[simp] theorem execForceEnSet_bypassHold (s : State) (r idx) : bypassOf (execForceEnSet r idx s) = some s.pins.bypassHold := by
  simp [execForceEnSet]

@[simp] theorem execDpllLockAchieved_bypassHold (s : State) : bypassOf (execDpllLockAchieved s) = some s.pins.bypassHold := by
  simp [execDpllLockAchieved]

@[simp] theorem execDpllLockLoss_bypassHold (s : State) (phase) :
    bypassOf (execDpllLockLoss phase s) = some s.pins.bypassHold := by
  simp [execDpllLockLoss]

@[simp] theorem execDpllMeasureDone_bypassHold (s : State) (dphi) :
    bypassOf (execDpllMeasureDone dphi s) = some s.pins.bypassHold := by
  simp [execDpllMeasureDone]

@[simp] theorem execDpllSwitchComplete_bypassHold (s : State) : bypassOf (execDpllSwitchComplete s) = some s.pins.bypassHold := by
  simp [execDpllSwitchComplete]

/-! ### The local report of a port -/

@[simp] theorem execHoldoffExpiry_bypassHold (s : State) (p) : bypassOf (execHoldoffExpiry p s) = some s.pins.bypassHold := by
  simp [execHoldoffExpiry]

@[simp] theorem execReportWtrExpiry_bypassHold (s : State) (p) : bypassOf (execReportWtrExpiry p s) = some s.pins.bypassHold := by
  simp [execReportWtrExpiry]

/-! ### The operations on a line port that several families share -/

@[simp] theorem State.forceRampLow_bypassHold (s : State) (p low) :
    (s.forceRampLow p low).pins.bypassHold = s.pins.bypassHold := by
  simp [State.forceRampLow]

@[simp] theorem State.txStart_bypassHold (s : State) (p) : (s.txStart p).pins.bypassHold = s.pins.bypassHold := by
  simp [State.txStart]

@[simp] theorem State.txEnableSet_bypassHold (s : State) (p) : (s.txEnableSet p).pins.bypassHold = s.pins.bypassHold := by
  simp [State.txEnableSet]

@[simp] theorem State.txCut_bypassHold (s : State) (p) : (s.txCut p).pins.bypassHold = s.pins.bypassHold := by simp [State.txCut]

/-! ### The transmit commands -/

@[simp] theorem execTxEnableSet_bypassHold (s : State) (r p) : bypassOf (execTxEnableSet r p s) = some s.pins.bypassHold := by
  simp [execTxEnableSet]

@[simp] theorem execTxEnableClear_bypassHold (s : State) (r p) : bypassOf (execTxEnableClear r p s) = some s.pins.bypassHold := by
  simp [execTxEnableClear]

@[simp] theorem execForcePreamble_bypassHold (s : State) (r p) : bypassOf (execForcePreamble r p s) = some s.pins.bypassHold := by
  simp [execForcePreamble]

@[simp] theorem execRegionResetRequest_bypassHold (s : State) (r p) :
    bypassOf (execRegionResetRequest r p s) = some s.pins.bypassHold := by
  simp [execRegionResetRequest]

@[simp] theorem execRegionResetDone_bypassHold (s : State) (p) : bypassOf (execRegionResetDone p s) = some s.pins.bypassHold := by
  simp [execRegionResetDone]

@[simp] theorem execRampStep_bypassHold (s : State) (p) : bypassOf (execRampStep p s) = some s.pins.bypassHold := by
  simp [execRampStep]

@[simp] theorem execPreambleEndMarkerDone_bypassHold (s : State) (p) :
    bypassOf (execPreambleEndMarkerDone p s) = some s.pins.bypassHold := by
  simp [execPreambleEndMarkerDone]

@[simp] theorem execPreambleScheduled_bypassHold (s : State) (p) :
    bypassOf (execPreambleScheduled p s) = some s.pins.bypassHold := by
  simp [execPreambleScheduled]

@[simp] theorem execTxClusterRotation_bypassHold (s : State) (p) :
    bypassOf (execTxClusterRotation p s) = some s.pins.bypassHold := by
  simp only [execTxClusterRotation]
  (repeat' split) <;> simp -implicitDefEqProofs

/-! ### Sub-converters -/

@[simp] theorem execSubconverterTakeover_bypassHold (s : State) (tx p c pos) :
    bypassOf (execSubconverterTakeover tx p c pos s) = some s.pins.bypassHold := by
  simp [execSubconverterTakeover]

@[simp] theorem execTxSubconverterSenseFail_bypassHold (s : State) (p c pos cycle) :
    bypassOf (execTxSubconverterSenseFail p c pos cycle s) = some s.pins.bypassHold := by
  simp [execTxSubconverterSenseFail]

@[simp] theorem execCalNow_bypassHold (s : State) (r p) : bypassOf (execCalNow r p s) = some s.pins.bypassHold := by
  simp [execCalNow]

@[simp] theorem execCalHoldSet_bypassHold (s : State) (r p) : bypassOf (execCalHoldSet r p s) = some s.pins.bypassHold := by
  simp [execCalHoldSet]

@[simp] theorem execSkewPhaseTimeout_bypassHold (s : State) (p) :
    bypassOf (execSkewPhaseTimeout p s) = some s.pins.bypassHold := by
  simp [execSkewPhaseTimeout]

@[simp] theorem execCalRunEnd_bypassHold (s : State) (p) : bypassOf (execCalRunEnd p s) = some s.pins.bypassHold := by
  simp [execCalRunEnd]

@[simp] theorem execCalStep_bypassHold (s : State) (tx p c m) : bypassOf (execCalStep tx p c m s) = some s.pins.bypassHold := by
  simp only [execCalStep]
  (repeat' split) <;> simp -implicitDefEqProofs

@[simp] theorem execCalEclosionCompareDone_bypassHold (s : State) (tx p c diff) :
    bypassOf (execCalEclosionCompareDone tx p c diff s) = some s.pins.bypassHold := by
  unfold execCalEclosionCompareDone
  split <;> simp -implicitDefEqProofs

/-! ### The equaliser region -/

@[simp] theorem execEqClusterRotation_bypassHold (s : State) (p) :
    bypassOf (execEqClusterRotation p s) = some s.pins.bypassHold := by
  simp [execEqClusterRotation]

/-! ### Hops -/

@[simp] theorem execHopHandoff_bypassHold (s : State) (p codes) :
    bypassOf (execHopHandoff p codes s) = some s.pins.bypassHold := by
  simp [execHopHandoff]

@[simp] theorem execCoefUpdateDone_bypassHold (s : State) (p) : bypassOf (execCoefUpdateDone p s) = some s.pins.bypassHold := by
  simp only [execCoefUpdateDone]
  (repeat' split) <;> simp -implicitDefEqProofs

@[simp] theorem execHopRelease_bypassHold (s : State) (p) : bypassOf (execHopRelease p s) = some s.pins.bypassHold := by
  unfold execHopRelease
  split <;> simp -implicitDefEqProofs

/-! ### Receive acquisition -/

@[simp] theorem execRxEnableSet_bypassHold (s : State) (r p) : bypassOf (execRxEnableSet r p s) = some s.pins.bypassHold := by
  simp [execRxEnableSet]

@[simp] theorem execRxEnableClear_bypassHold (s : State) (r p) : bypassOf (execRxEnableClear r p s) = some s.pins.bypassHold := by
  simp [execRxEnableClear]

@[simp] theorem execSignalPowerInterval_bypassHold (s : State) (p powX powY metric) :
    bypassOf (execSignalPowerInterval p powX powY metric s) = some s.pins.bypassHold := by
  simp [execSignalPowerInterval]

@[simp] theorem execForceReacq_bypassHold (s : State) (r p) : bypassOf (execForceReacq r p s) = some s.pins.bypassHold := by
  simp [execForceReacq]

@[simp] theorem execCdScanDone_bypassHold (s : State) (p coarse fine) :
    bypassOf (execCdScanDone p coarse fine s) = some s.pins.bypassHold := by
  simp [execCdScanDone]

@[simp] theorem execNoCarrierRetry_bypassHold (s : State) (p noiseX noiseY) :
    bypassOf (execNoCarrierRetry p noiseX noiseY s) = some s.pins.bypassHold := by
  simp [execNoCarrierRetry]

@[simp] theorem execPreamblePeakDetected_bypassHold (s : State) (p quality) :
    bypassOf (execPreamblePeakDetected p quality s) = some s.pins.bypassHold := by
  simp [execPreamblePeakDetected]

@[simp] theorem execEndMarkerDetected_bypassHold (s : State) (p fHat quality before) :
    bypassOf (execEndMarkerDetected p fHat quality before s) = some s.pins.bypassHold := by
  simp [execEndMarkerDetected]

@[simp] theorem execAcqStateTimeout_bypassHold (s : State) (p) : bypassOf (execAcqStateTimeout p s) = some s.pins.bypassHold := by
  simp [execAcqStateTimeout]

/-! ### The lottery arbiters -/

@[simp] theorem execArbSeed_bypassHold (s : State) (r a value) : bypassOf (execArbSeed r a value s) = some s.pins.bypassHold := by
  simp [execArbSeed]

@[simp] theorem execArbMode_bypassHold (s : State) (r a mode) : bypassOf (execArbMode r a mode s) = some s.pins.bypassHold := by
  simp [execArbMode]

@[simp] theorem execArbFreeze_bypassHold (s : State) (r a) : bypassOf (execArbFreeze r a s) = some s.pins.bypassHold := by
  simp [execArbFreeze]

@[simp] theorem execArbFreezeExpiry_bypassHold (s : State) (a) : bypassOf (execArbFreezeExpiry a s) = some s.pins.bypassHold := by
  simp [execArbFreezeExpiry]

/-! ### Eclosion requests and commits -/

@[simp] theorem execEclosionRequest_bypassHold (s : State) (r page groups b at_ cancel) :
    bypassOf (execEclosionRequest r page groups b at_ cancel s) = some s.pins.bypassHold := by
  simp [execEclosionRequest]

@[simp] theorem execEclosionCancel_bypassHold (s : State) (r page) :
    bypassOf (execEclosionCancel r page s) = some s.pins.bypassHold := by
  simp [execEclosionCancel]

@[simp] theorem execEclosionCommit_bypassHold (s : State) (page) :
    bypassOf (execEclosionCommit page s) = some s.pins.bypassHold := by
  simp [execEclosionCommit]

/-! ### The tables of the hub -/

@[simp] theorem execSwapRequest_bypassHold (s : State) (r reqE reqW) :
    bypassOf (execSwapRequest r reqE reqW s) = some s.pins.bypassHold := by
  simp [execSwapRequest]

@[simp] theorem execTableEntryWrite_bypassHold (s : State) (r off data be) :
    bypassOf (execTableEntryWrite r off data be s) = some s.pins.bypassHold := by
  simp [execTableEntryWrite]

/-! ### From received columns to channels -/

@[simp] theorem execDpUnitRelease_bypassHold (s : State) (ch sfc diff) :
    bypassOf (execDpUnitRelease ch sfc diff s) = some s.pins.bypassHold := by
  simp [execDpUnitRelease]

/-! ### Errored blocks, seconds, availability, bins and threshold crossings -/

@[simp] theorem execPmSecond_bypassHold (s : State) (p t) : bypassOf (execPmSecond p t s) = some s.pins.bypassHold := by
  simp [execPmSecond]

/-! ### The framer -/

@[simp] theorem execFrameStart_bypassHold (s : State) (p t part) :
    bypassOf (execFrameStart p t part s) = some s.pins.bypassHold := by
  simp [execFrameStart]

@[simp] theorem execFawErrorInject_bypassHold (s : State) (r p n) :
    bypassOf (execFawErrorInject r p n s) = some s.pins.bypassHold := by
  simp [execFawErrorInject]

@[simp] theorem execFcsErrorInject_bypassHold (s : State) (r p n) :
    bypassOf (execFcsErrorInject r p n s) = some s.pins.bypassHold := by
  simp [execFcsErrorInject]

/-! ### The ring commands -/

@[simp] theorem execReportForce_bypassHold (s : State) (r p on) :
    bypassOf (execReportForce r p on s) = some s.pins.bypassHold := by
  simp [execReportForce]

@[simp] theorem execRestorationPlanApply_bypassHold (s : State) :
    bypassOf (execRestorationPlanApply s) = some s.pins.bypassHold := by
  simp only [execRestorationPlanApply]
  (repeat' split) <;> simp -implicitDefEqProofs

@[simp] theorem execPlanSwapTimeout_bypassHold (s : State) (p) : bypassOf (execPlanSwapTimeout p s) = some s.pins.bypassHold := by
  simp [execPlanSwapTimeout]

theorem State.stageGlide_pins {s t : State} {p tx rx} (h : s.stageGlide p tx rx = some t) : t.pins = s.pins := by
  unfold State.stageGlide at h
  split at h
  · cases h
  · extract_lets sent staged at h
    have hsent : sent.pins = s.pins := by
      simp only [sent]
      split
      · exact State.glideTx_pins ..
      · rfl
    have hstaged : staged.pins = sent.pins := by
      simp only [staged]
      split
      · exact State.glideRx_pins ..
      · rfl
    rw [Option.ite_none_left_eq_some] at h
    rw [← Option.some.inj h.2, hstaged, hsent]

@[simp] theorem execProposeReceived_bypassHold (s : State) (p m n) :
    bypassOf (execProposeReceived p m n s) = some s.pins.bypassHold := by
  refine bypassOf_served (bypassOf_clocked ?_)
  dsimp only
  split <;> simp

@[simp] theorem execAcceptReceived_bypassHold (s : State) (p m) :
    bypassOf (execAcceptReceived p m s) = some s.pins.bypassHold := by
  refine bypassOf_served (bypassOf_clocked ?_)
  dsimp only
  split
  · split
    · next t ht => simp [State.stageGlide_pins ht]
    · rfl
  · rfl

@[simp] theorem execRejectReceived_bypassHold (s : State) (p m) :
    bypassOf (execRejectReceived p m s) = some s.pins.bypassHold := by
  simp [execRejectReceived]

@[simp] theorem execConfirmReceived_bypassHold (s : State) (p m) :
    bypassOf (execConfirmReceived p m s) = some s.pins.bypassHold := by
  refine bypassOf_served (bypassOf_clocked ?_)
  dsimp only
  split
  · split
    · next t ht => simp [State.stageGlide_pins ht]
    · rfl
  · rfl

@[simp] theorem execAbortReceived_bypassHold (s : State) (p m) : bypassOf (execAbortReceived p m s) = some s.pins.bypassHold := by
  refine bypassOf_served (bypassOf_clocked ?_)
  dsimp only
  split
  · simp -implicitDefEqProofs
  · simp

@[simp] theorem execProposerTimeout_bypassHold (s : State) (p) : bypassOf (execProposerTimeout p s) = some s.pins.bypassHold := by
  simp [execProposerTimeout]

@[simp] theorem execResponderConfirmTimeout_bypassHold (s : State) (p) :
    bypassOf (execResponderConfirmTimeout p s) = some s.pins.bypassHold := by
  simp [execResponderConfirmTimeout]

@[simp] theorem execGlideBoundariesPassed_bypassHold (s : State) (p) :
    bypassOf (execGlideBoundariesPassed p s) = some s.pins.bypassHold := by
  simp [execGlideBoundariesPassed]

@[simp] theorem execProposeRetryTimer_bypassHold (s : State) (p) :
    bypassOf (execProposeRetryTimer p s) = some s.pins.bypassHold := by
  simp [execProposeRetryTimer]

/-! ### The clock tree's health -/

@[simp] theorem State.qualifyRclk_bypassHold (s : State) : (s.qualifyRclk).pins.bypassHold = s.pins.bypassHold := by
  simp [State.qualifyRclk]

@[simp] theorem execFoscQualWindow_bypassHold (s : State) (count gap) :
    bypassOf (execFoscQualWindow count gap s) = some s.pins.bypassHold := by
  simp [execFoscQualWindow]

@[simp] theorem execApllLock_bypassHold (s : State) : bypassOf (execApllLock s) = some s.pins.bypassHold := by simp [execApllLock]
@[simp] theorem execXrefGap_bypassHold (s : State) : bypassOf (execXrefGap s) = some s.pins.bypassHold := by simp [execXrefGap]

@[simp] theorem execControlClockSwitchDone_bypassHold (s : State) :
    bypassOf (execControlClockSwitchDone s) = some s.pins.bypassHold := by
  unfold execControlClockSwitchDone
  split <;> simp

@[simp] theorem execRestoreTimer_bypassHold (s : State) : bypassOf (execRestoreTimer s) = some s.pins.bypassHold := by
  simp [execRestoreTimer]

@[simp] theorem execReturnNow_bypassHold (s : State) (r) : bypassOf (execReturnNow r s) = some s.pins.bypassHold := by
  simp [execReturnNow]

@[simp] theorem execGateClose_bypassHold (s : State) (r domain) :
    bypassOf (execGateClose r domain s) = some s.pins.bypassHold := by
  simp [execGateClose]

@[simp] theorem execGateOpen_bypassHold (s : State) (r domain) : bypassOf (execGateOpen r domain s) = some s.pins.bypassHold := by
  simp [execGateOpen]

@[simp] theorem execGateCloseComplete_bypassHold (s : State) (idle stalled) :
    bypassOf (execGateCloseComplete idle stalled s) = some s.pins.bypassHold := by
  unfold execGateCloseComplete
  split <;> simp

@[simp] theorem execGateOpenComplete_bypassHold (s : State) : bypassOf (execGateOpenComplete s) = some s.pins.bypassHold := by
  unfold execGateOpenComplete
  split <;> simp

@[simp] theorem execProbeCfgWrite_bypassHold (s : State) (r value) :
    bypassOf (execProbeCfgWrite r value s) = some s.pins.bypassHold := by
  simp [execProbeCfgWrite]

/-! ### Host lanes bit by bit -/

@[simp] theorem execIanenLaneFrame_bypassHold (s : State) (n levels) :
    bypassOf (execIanenLaneFrame n levels s) = some s.pins.bypassHold := by
  simp [execIanenLaneFrame]

@[simp] theorem execLanePrbsLockChange_bypassHold (s : State) (n l) :
    bypassOf (execLanePrbsLockChange n l s) = some s.pins.bypassHold := by
  refine bypassOf_clocked ?_
  extract_lets u v
  have hv : v.pins = s.pins := State.cond_pins (State.laneSend_pins _ _ _)
  rw [bypassOf_next, State.cond_pins, hv]
  rw [State.cond_pins]
  · exact State.laneCheck_pins _ _ _
  · exact State.ianenBits_pins _ _ _

@[simp] theorem execLanePrbsErrorInject_bypassHold (s : State) (r n words) :
    bypassOf (execLanePrbsErrorInject r n words s) = some s.pins.bypassHold := by
  simp [execLanePrbsErrorInject]

/-! ### The host side -/

@[simp] theorem execDropPacketDelivery_bypassHold (s : State) (ch) :
    bypassOf (execDropPacketDelivery ch s) = some s.pins.bypassHold := by
  unfold execDropPacketDelivery
  split <;> simp -implicitDefEqProofs

@[simp] theorem execPfcFrameReceived_bypassHold (s : State) (k vec times) :
    bypassOf (execPfcFrameReceived k vec times s) = some s.pins.bypassHold := by
  simp [execPfcFrameReceived]

@[simp] theorem execPfcPauseExpiry_bypassHold (s : State) (k c) :
    bypassOf (execPfcPauseExpiry k c s) = some s.pins.bypassHold := by
  simp [execPfcPauseExpiry]

@[simp] theorem execPfcRepeatTimer_bypassHold (s : State) (k c) :
    bypassOf (execPfcRepeatTimer k c s) = some s.pins.bypassHold := by
  simp [execPfcRepeatTimer]

@[simp] theorem execIngressFrame_bypassHold (s : State) (k bytes broken ns first corr uncorr) :
    bypassOf (execIngressFrame k bytes broken ns first corr uncorr s) = some s.pins.bypassHold := by
  simp only [execIngressFrame]
  (repeat' split) <;> simp -implicitDefEqProofs

@[simp] theorem execLaneEnable_bypassHold (s : State) (r n) : bypassOf (execLaneEnable r n s) = some s.pins.bypassHold := by
  simp [execLaneEnable]

@[simp] theorem execLaneDisable_bypassHold (s : State) (r n) : bypassOf (execLaneDisable r n s) = some s.pins.bypassHold := by
  simp [execLaneDisable]

@[simp] theorem execCdrLockAcquired_bypassHold (s : State) (n) : bypassOf (execCdrLockAcquired n s) = some s.pins.bypassHold := by
  simp [execCdrLockAcquired]

@[simp] theorem execPeakingSweepDone_bypassHold (s : State) (n code) :
    bypassOf (execPeakingSweepDone n code s) = some s.pins.bypassHold := by
  simp [execPeakingSweepDone]

@[simp] theorem execCdrLockLost_bypassHold (s : State) (n sig part ns first) :
    bypassOf (execCdrLockLost n sig part ns first s) = some s.pins.bypassHold := by
  simp [execCdrLockLost]

@[simp] theorem execPcsAlignmentChange_bypassHold (s : State) (k aligned lf rf) :
    bypassOf (execPcsAlignmentChange k aligned lf rf s) = some s.pins.bypassHold := by
  simp [execPcsAlignmentChange]

@[simp] theorem execIanenPacketStart_bypassHold (s : State) (n c) :
    bypassOf (execIanenPacketStart n c s) = some s.pins.bypassHold := by
  simp [execIanenPacketStart]

/-! ### The decoder pools -/

@[simp] theorem execCodewordDispatch_bypassHold (s : State) (p t) :
    bypassOf (execCodewordDispatch p t s) = some s.pins.bypassHold := by
  simp [execCodewordDispatch]

@[simp] theorem execDecodeDone_bypassHold (s : State) (p num) : bypassOf (execDecodeDone p num s) = some s.pins.bypassHold := by
  simp [execDecodeDone]

@[simp] theorem execCodewordRelease_bypassHold (s : State) (p iters) :
    bypassOf (execCodewordRelease p iters s) = some s.pins.bypassHold := by
  unfold execCodewordRelease
  split <;> simp -implicitDefEqProofs

@[simp] theorem execBchDecodeDone_bypassHold (s : State) (p) : bypassOf (execBchDecodeDone p s) = some s.pins.bypassHold := by
  simp only [execBchDecodeDone]
  (repeat' split) <;> simp -implicitDefEqProofs

@[simp] theorem execDecoderSpareRotation_bypassHold (s : State) (p) :
    bypassOf (execDecoderSpareRotation p s) = some s.pins.bypassHold := by
  simp [execDecoderSpareRotation]

@[simp] theorem execEyespotComplete_bypassHold (s : State) (src stamps flags work) :
    bypassOf (execEyespotComplete src stamps flags work s) = some s.pins.bypassHold := by
  unfold execEyespotComplete
  split <;> simp -implicitDefEqProofs

@[simp] theorem execTraceSeed_bypassHold (s : State) (r value) : bypassOf (execTraceSeed r value s) = some s.pins.bypassHold := by
  simp [execTraceSeed]

/-! ### Key delivery, the key engine, switches, rotation, verdict deadlines and reports -/

@[simp] theorem execUnwrapSet_bypassHold (s : State) (r a) : bypassOf (execUnwrapSet r a s) = some s.pins.bypassHold := by
  simp [execUnwrapSet]

@[simp] theorem execUnwrapMaster_bypassHold (s : State) (r a) : bypassOf (execUnwrapMaster r a s) = some s.pins.bypassHold := by
  simp [execUnwrapMaster]

@[simp] theorem execUnwrapKek_bypassHold (s : State) (r a) : bypassOf (execUnwrapKek r a s) = some s.pins.bypassHold := by
  simp [execUnwrapKek]

@[simp] theorem execPlainKek_bypassHold (s : State) (r a) : bypassOf (execPlainKek r a s) = some s.pins.bypassHold := by
  simp [execPlainKek]

@[simp] theorem execDerive_bypassHold (s : State) (r a) : bypassOf (execDerive r a s) = some s.pins.bypassHold := by
  simp [execDerive]

@[simp] theorem execSetAct_bypassHold (s : State) (r a) : bypassOf (execSetAct r a s) = some s.pins.bypassHold := by
  simp [execSetAct]

@[simp] theorem execSetNxt_bypassHold (s : State) (r a) : bypassOf (execSetNxt r a s) = some s.pins.bypassHold := by
  simp [execSetNxt]

@[simp] theorem execSwitchKey_bypassHold (s : State) (r a) : bypassOf (execSwitchKey r a s) = some s.pins.bypassHold := by
  simp [execSwitchKey]

@[simp] theorem execEraseSlot_bypassHold (s : State) (r a) : bypassOf (execEraseSlot r a s) = some s.pins.bypassHold := by
  simp [execEraseSlot]

@[simp] theorem execEraseMaster_bypassHold (s : State) (r a) : bypassOf (execEraseMaster r a s) = some s.pins.bypassHold := by
  simp [execEraseMaster]

@[simp] theorem execEraseKek_bypassHold (s : State) (r a) : bypassOf (execEraseKek r a s) = some s.pins.bypassHold := by
  simp [execEraseKek]

@[simp] theorem execSealSet_bypassHold (s : State) (r) : bypassOf (execSealSet r s) = some s.pins.bypassHold := by
  simp -implicitDefEqProofs [execSealSet]

@[simp] theorem execKeyCommandDone_bypassHold (s : State) : bypassOf (execKeyCommandDone s) = some s.pins.bypassHold := by
  unfold execKeyCommandDone
  split <;> simp -implicitDefEqProofs

@[simp] theorem execAddSwitchBoundary_bypassHold (s : State) (ch) :
    bypassOf (execAddSwitchBoundary ch s) = some s.pins.bypassHold := by
  simp only [execAddSwitchBoundary]
  (repeat' split) <;> simp -implicitDefEqProofs

@[simp] theorem execDropSwitchBoundary_bypassHold (s : State) (ch) :
    bypassOf (execDropSwitchBoundary ch s) = some s.pins.bypassHold := by
  unfold execDropSwitchBoundary
  split <;> simp -implicitDefEqProofs

@[simp] theorem execRetiringKeyExpiry_bypassHold (s : State) (ch) :
    bypassOf (execRetiringKeyExpiry ch s) = some s.pins.bypassHold := by
  simp [execRetiringKeyExpiry]

@[simp] theorem execVerdictDeadline_bypassHold (s : State) (ch n) :
    bypassOf (execVerdictDeadline ch n s) = some s.pins.bypassHold := by
  simp only [execVerdictDeadline]
  (repeat' split) <;> simp -implicitDefEqProofs

@[simp] theorem execVerdictReportSend_bypassHold (s : State) (ch) :
    bypassOf (execVerdictReportSend ch s) = some s.pins.bypassHold := by
  unfold execVerdictReportSend
  split <;> simp -implicitDefEqProofs

@[simp] theorem execResume_bypassHold (s : State) (r ch) : bypassOf (execResume r ch s) = some s.pins.bypassHold := by
  simp [execResume]

@[simp] theorem execHeldUnitRelease_bypassHold (s : State) (ch) :
    bypassOf (execHeldUnitRelease ch s) = some s.pins.bypassHold := by
  simp only [execHeldUnitRelease]
  (repeat' split) <;> simp -implicitDefEqProofs

@[simp] theorem execKeyRotationTimer_bypassHold (s : State) (ch) :
    bypassOf (execKeyRotationTimer ch s) = some s.pins.bypassHold := by
  simp [execKeyRotationTimer]

@[simp] theorem execDrbgReseed_bypassHold (s : State) (healthy) :
    bypassOf (execDrbgReseed healthy s) = some s.pins.bypassHold := by
  simp [execDrbgReseed]

/-! ### Stamps, the PTP servos and messages, 1PPS and time of day -/

@[simp] theorem execAnnounceTimeout_bypassHold (s : State) (x shadow) :
    bypassOf (execAnnounceTimeout x shadow s) = some s.pins.bypassHold := by
  simp [execAnnounceTimeout]

@[simp] theorem execServoUpdateTimeout_bypassHold (s : State) (x) :
    bypassOf (execServoUpdateTimeout x s) = some s.pins.bypassHold := by
  simp [execServoUpdateTimeout]

@[simp] theorem execGrandmasterSwitch_bypassHold (s : State) (r x) :
    bypassOf (execGrandmasterSwitch r x s) = some s.pins.bypassHold := by
  simp [execGrandmasterSwitch]

@[simp] theorem execStepTime_bypassHold (s : State) (r x) : bypassOf (execStepTime r x s) = some s.pins.bypassHold := by
  simp [execStepTime]

@[simp] theorem execPtpMessageReceived_bypassHold (s : State) (p m) :
    bypassOf (execPtpMessageReceived p m s) = some s.pins.bypassHold := by
  refine bypassOf_clocked (bypassOf_served ?_)
  dsimp only
  split
  · split <;> simp -implicitDefEqProofs
  · simp

@[simp] theorem execPtpSyncSend_bypassHold (s : State) (x shadow c) :
    bypassOf (execPtpSyncSend x shadow c s) = some s.pins.bypassHold := by
  simp only [execPtpSyncSend]
  (repeat' split) <;> simp -implicitDefEqProofs

@[simp] theorem execDelayReqSend_bypassHold (s : State) (x shadow c) :
    bypassOf (execDelayReqSend x shadow c s) = some s.pins.bypassHold := by
  simp [execDelayReqSend]

@[simp] theorem execAnnounceSend_bypassHold (s : State) (x shadow port) :
    bypassOf (execAnnounceSend x shadow port s) = some s.pins.bypassHold := by
  refine bypassOf_clocked (bypassOf_served ?_)
  simp -implicitDefEqProofs

@[simp] theorem execPpsOutEdge_bypassHold (s : State) (t) : bypassOf (execPpsOutEdge t s) = some s.pins.bypassHold := by
  simp [execPpsOutEdge]

@[simp] theorem execPpsInEdge_bypassHold (s : State) (t part f) :
    bypassOf (execPpsInEdge t part f s) = some s.pins.bypassHold := by
  refine bypassOf_clocked ?_
  extract_lets u frac comp v n w x y
  have hy : y.pins = s.pins := by simp [y, x, w, u]
  rw [bypassOf_next]
  split
  · rw [State.forEach_pins fun _ _ => State.cond_pins (State.onTb_pins _ _ _), hy]
  · rw [State.toInstant_pins]

@[simp] theorem execTodOutSend_bypassHold (s : State) : bypassOf (execTodOutSend s) = some s.pins.bypassHold := by
  unfold execTodOutSend
  split <;> simp -implicitDefEqProofs

@[simp] theorem execTodInReceived_bypassHold (s : State) (bytes t) :
    bypassOf (execTodInReceived bytes t s) = some s.pins.bypassHold := by
  simp [execTodInReceived]

@[simp] theorem execLatchTime_bypassHold (s : State) (r t) : bypassOf (execLatchTime r t s) = some s.pins.bypassHold := by
  simp [execLatchTime]

/-! ### The mailboxes -/

@[simp] theorem State.mbxBegin_bypassHold (s : State) (x c) : (s.mbxBegin x c).pins.bypassHold = s.pins.bypassHold := by
  simp only [State.mbxBegin]
  split <;> simp

@[simp] theorem State.mbxStart_bypassHold (s : State) (x) : (s.mbxStart x).pins.bypassHold = s.pins.bypassHold := by
  unfold State.mbxStart
  split <;> simp

@[simp] theorem State.doorbell_bypassHold (s : State) (x op tag n data) :
    (s.doorbell x op tag n data).pins.bypassHold = s.pins.bypassHold := by
  simp [State.doorbell]

@[simp] theorem State.mbxWrite_bypassHold (s : State) (r x op tag words data) :
    (s.mbxWrite r x op tag words data).pins.bypassHold = s.pins.bypassHold := by
  simp [State.mbxWrite]

@[simp] theorem State.mbxEnd_bypassHold (s : State) (x status detail rsp) :
    (s.mbxEnd x status detail rsp).pins.bypassHold = s.pins.bypassHold := by
  simp [State.mbxEnd]

theorem State.pins_of_mbxResult {s t : State} {c r} (h : s.mbxResult c = (t, r)) : t.pins = s.pins := by
  rw [← s.mbxResult_pins c, h]

@[simp] theorem execMailboxCommandDone_bypassHold (s : State) (x o) :
    bypassOf (execMailboxCommandDone x o s) = some s.pins.bypassHold := by
  unfold execMailboxCommandDone
  rw [bypassOf_next]
  split
  · rfl
  split
  · rfl
  split
  · simp
  split
  · simp
  split
  · split <;> simp
  · split <;> simp
  split
  · simp
  split
  · rfl
  split
  · next ht => simp [State.pins_of_mbxResult ht]
  · next ht => simp [State.pins_of_mbxResult ht]

@[simp] theorem State.mbxAbort_bypassHold (s : State) (x) : (s.mbxAbort x).pins.bypassHold = s.pins.bypassHold := by
  unfold State.mbxAbort
  split <;> simp

@[simp] theorem execMbxAbort_bypassHold (s : State) (r x) : bypassOf (execMbxAbort r x s) = some s.pins.bypassHold := by
  simp [execMbxAbort]

@[simp] theorem execPing_bypassHold (s : State) (r x tag words) :
    bypassOf (execPing r x tag words s) = some s.pins.bypassHold := by
  simp [execPing]

@[simp] theorem execGetInfo_bypassHold (s : State) (r x tag words) :
    bypassOf (execGetInfo r x tag words s) = some s.pins.bypassHold := by
  simp [execGetInfo]

@[simp] theorem execFwWrite_bypassHold (s : State) (r x tag words image) :
    bypassOf (execFwWrite r x tag words image s) = some s.pins.bypassHold := by
  simp [execFwWrite]

@[simp] theorem execFwVerify_bypassHold (s : State) (r x tag words) :
    bypassOf (execFwVerify r x tag words s) = some s.pins.bypassHold := by
  simp [execFwVerify]

@[simp] theorem execFwMoult_bypassHold (s : State) (r x tag words) :
    bypassOf (execFwMoult r x tag words s) = some s.pins.bypassHold := by
  simp [execFwMoult]

@[simp] theorem execFwSetBoot_bypassHold (s : State) (r x tag words) :
    bypassOf (execFwSetBoot r x tag words s) = some s.pins.bypassHold := by
  simp [execFwSetBoot]

@[simp] theorem execFwCommitSvn_bypassHold (s : State) (r x tag words) :
    bypassOf (execFwCommitSvn r x tag words s) = some s.pins.bypassHold := by
  simp [execFwCommitSvn]

@[simp] theorem execFwBoot_bypassHold (s : State) (r x tag words) :
    bypassOf (execFwBoot r x tag words s) = some s.pins.bypassHold := by
  simp [execFwBoot]

@[simp] theorem execCfgSave_bypassHold (s : State) (r x tag words) :
    bypassOf (execCfgSave r x tag words s) = some s.pins.bypassHold := by
  simp [execCfgSave]

@[simp] theorem execCfgClear_bypassHold (s : State) (r x tag words) :
    bypassOf (execCfgClear r x tag words s) = some s.pins.bypassHold := by
  simp [execCfgClear]

@[simp] theorem execLinkUp_bypassHold (s : State) (r x tag words) :
    bypassOf (execLinkUp r x tag words s) = some s.pins.bypassHold := by
  simp [execLinkUp]

@[simp] theorem execLinkDown_bypassHold (s : State) (r x tag words) :
    bypassOf (execLinkDown r x tag words s) = some s.pins.bypassHold := by
  simp [execLinkDown]

@[simp] theorem execGlide_bypassHold (s : State) (r x tag words) :
    bypassOf (execGlide r x tag words s) = some s.pins.bypassHold := by
  simp [execGlide]

@[simp] theorem execPlanLoad_bypassHold (s : State) (r x tag words data) :
    bypassOf (execPlanLoad r x tag words data s) = some s.pins.bypassHold := by
  simp [execPlanLoad]

@[simp] theorem execPlanDelete_bypassHold (s : State) (r x tag words) :
    bypassOf (execPlanDelete r x tag words s) = some s.pins.bypassHold := by
  simp [execPlanDelete]

@[simp] theorem execPlanList_bypassHold (s : State) (r x tag words) :
    bypassOf (execPlanList r x tag words s) = some s.pins.bypassHold := by
  simp [execPlanList]

@[simp] theorem execProtStatus_bypassHold (s : State) (r x tag words) :
    bypassOf (execProtStatus r x tag words s) = some s.pins.bypassHold := by
  simp [execProtStatus]

@[simp] theorem execProtHold_bypassHold (s : State) (r x tag words) :
    bypassOf (execProtHold r x tag words s) = some s.pins.bypassHold := by
  simp [execProtHold]

@[simp] theorem execPtpPortCfg_bypassHold (s : State) (r x tag words) :
    bypassOf (execPtpPortCfg r x tag words s) = some s.pins.bypassHold := by
  simp [execPtpPortCfg]

@[simp] theorem execPtpClockCfg_bypassHold (s : State) (r x tag words) :
    bypassOf (execPtpClockCfg r x tag words s) = some s.pins.bypassHold := by
  simp [execPtpClockCfg]

@[simp] theorem execPtpDataset_bypassHold (s : State) (r x tag words) :
    bypassOf (execPtpDataset r x tag words s) = some s.pins.bypassHold := by
  simp [execPtpDataset]

@[simp] theorem execPmRead_bypassHold (s : State) (r x tag words) :
    bypassOf (execPmRead r x tag words s) = some s.pins.bypassHold := by
  simp [execPmRead]

@[simp] theorem execPmReadBulk_bypassHold (s : State) (r x tag words) :
    bypassOf (execPmReadBulk r x tag words s) = some s.pins.bypassHold := by
  simp [execPmReadBulk]

@[simp] theorem execPmRestart_bypassHold (s : State) (r x tag words) :
    bypassOf (execPmRestart r x tag words s) = some s.pins.bypassHold := by
  simp [execPmRestart]

@[simp] theorem execKrStatus_bypassHold (s : State) (r x tag words) :
    bypassOf (execKrStatus r x tag words s) = some s.pins.bypassHold := by
  simp [execKrStatus]

@[simp] theorem execKrRotateNow_bypassHold (s : State) (r x tag words) :
    bypassOf (execKrRotateNow r x tag words s) = some s.pins.bypassHold := by
  simp [execKrRotateNow]

@[simp] theorem execCalRun_bypassHold (s : State) (r x tag words) :
    bypassOf (execCalRun r x tag words s) = some s.pins.bypassHold := by
  simp [execCalRun]

@[simp] theorem execCalStatus_bypassHold (s : State) (r x tag words) :
    bypassOf (execCalStatus r x tag words s) = some s.pins.bypassHold := by
  simp [execCalStatus]

@[simp] theorem execPwrCap_bypassHold (s : State) (r x tag words) :
    bypassOf (execPwrCap r x tag words s) = some s.pins.bypassHold := by
  simp [execPwrCap]

@[simp] theorem execPwrReport_bypassHold (s : State) (r x tag words) :
    bypassOf (execPwrReport r x tag words s) = some s.pins.bypassHold := by
  simp [execPwrReport]

@[simp] theorem execTelStart_bypassHold (s : State) (r x tag words) :
    bypassOf (execTelStart r x tag words s) = some s.pins.bypassHold := by
  simp [execTelStart]

@[simp] theorem execTelStop_bypassHold (s : State) (r x tag words) :
    bypassOf (execTelStop r x tag words s) = some s.pins.bypassHold := by
  simp [execTelStop]

@[simp] theorem execUnknownOp_bypassHold (s : State) (r x op tag words) :
    bypassOf (execUnknownOp r x op tag words s) = some s.pins.bypassHold := by
  simp [execUnknownOp]

/-! ### The control cores -/

@[simp] theorem execBootRomStart_bypassHold (s : State) : bypassOf (execBootRomStart s) = some s.pins.bypassHold := by
  simp [execBootRomStart]

@[simp] theorem execWatchdogExpiry_bypassHold (s : State) : bypassOf (execWatchdogExpiry s) = some s.pins.bypassHold := by
  simp [execWatchdogExpiry]

@[simp] theorem execMoultReq_bypassHold (s : State) (r) : bypassOf (execMoultReq r s) = some s.pins.bypassHold := by
  simp [execMoultReq]

@[simp] theorem execCoreSelfTestDone_bypassHold (s : State) (pass) :
    bypassOf (execCoreSelfTestDone pass s) = some s.pins.bypassHold := by
  simp [execCoreSelfTestDone]

@[simp] theorem execMoultHandover_bypassHold (s : State) : bypassOf (execMoultHandover s) = some s.pins.bypassHold := by
  simp only [execMoultHandover]
  (repeat' split) <;> simp -implicitDefEqProofs

@[simp] theorem execMoultStandbyReady_bypassHold (s : State) : bypassOf (execMoultStandbyReady s) = some s.pins.bypassHold := by
  unfold execMoultStandbyReady
  split <;> simp

@[simp] theorem execNmiCauseClear_bypassHold (s : State) (r b) : bypassOf (execNmiCauseClear r b s) = some s.pins.bypassHold := by
  simp [execNmiCauseClear]

@[simp] theorem execTelemetryRecord_bypassHold (s : State) (ok) :
    bypassOf (execTelemetryRecord ok s) = some s.pins.bypassHold := by
  unfold execTelemetryRecord
  split <;> simp -implicitDefEqProofs

/-! ### The DMA engine's channels and rings -/

@[simp] theorem execDmaChannelRun_bypassHold (s : State) (r c) : bypassOf (execDmaChannelRun r c s) = some s.pins.bypassHold := by
  simp [execDmaChannelRun]

@[simp] theorem execDmaDoorbell_bypassHold (s : State) (r c tail) :
    bypassOf (execDmaDoorbell r c tail s) = some s.pins.bypassHold := by
  simp [execDmaDoorbell]

@[simp] theorem execHaltClr_bypassHold (s : State) (r) : bypassOf (execHaltClr r s) = some s.pins.bypassHold := by
  simp [execHaltClr]

@[simp] theorem execChReset_bypassHold (s : State) (r c) : bypassOf (execChReset r c s) = some s.pins.bypassHold := by
  simp [execChReset]

/-! ### The monitor converters, the sequencer, the filter chains, urgent conversions -/

@[simp] theorem execSeqRoundStart_bypassHold (s : State) (late) :
    bypassOf (execSeqRoundStart late s) = some s.pins.bypassHold := by
  simp [execSeqRoundStart]

@[simp] theorem execConversionDone_bypassHold (s : State) (e x) :
    bypassOf (execConversionDone e x s) = some s.pins.bypassHold := by
  simp only [execConversionDone]
  (repeat' split) <;> simp

@[simp] theorem execUrgentConversionRequest_bypassHold (s : State) (r ch b) :
    bypassOf (execUrgentConversionRequest r ch b s) = some s.pins.bypassHold := by
  simp [execUrgentConversionRequest]

@[simp] theorem execUrgentConversionDone_bypassHold (s : State) (code) :
    bypassOf (execUrgentConversionDone code s) = some s.pins.bypassHold := by
  simp [execUrgentConversionDone]

@[simp] theorem execFilterBankSwapRequest_bypassHold (s : State) (r e bank) :
    bypassOf (execFilterBankSwapRequest r e bank s) = some s.pins.bypassHold := by
  simp [execFilterBankSwapRequest]

/-! ### Event registers, MSI-X messages, latching reads, snapshots, trace delivery, page soft reset and freeze -/

@[simp] theorem execEvtStatusClear_bypassHold (s : State) (r page b) :
    bypassOf (execEvtStatusClear r page b s) = some s.pins.bypassHold := by
  simp [execEvtStatusClear]

@[simp] theorem execEvtForce_bypassHold (s : State) (r page b) : bypassOf (execEvtForce r page b s) = some s.pins.bypassHold := by
  simp [execEvtForce]

@[simp] theorem execMsixMessageSend_bypassHold (s : State) (v) : bypassOf (execMsixMessageSend v s) = some s.pins.bypassHold := by
  simp [execMsixMessageSend]

@[simp] theorem execCounterLowRead_bypassHold (s : State) (r page off) :
    bypassOf (execCounterLowRead r page off s) = some s.pins.bypassHold := by
  simp [execCounterLowRead]

@[simp] theorem execFlowCounterRead_bypassHold (s : State) (r idx) :
    bypassOf (execFlowCounterRead r idx s) = some s.pins.bypassHold := by
  rw [execFlowCounterRead, bypassOf_next, State.ite_pins, State.answer_pins, State.winRead_pins, ite_self]

@[simp] theorem execFlowWrappedClear_bypassHold (s : State) (r idx) :
    bypassOf (execFlowWrappedClear r idx s) = some s.pins.bypassHold := by
  simp [execFlowWrappedClear]

@[simp] theorem execFcTxLoRead_bypassHold (s : State) (r p) : bypassOf (execFcTxLoRead r p s) = some s.pins.bypassHold := by
  simp [execFcTxLoRead]

@[simp] theorem execFcRxLoRead_bypassHold (s : State) (r p) : bypassOf (execFcRxLoRead r p s) = some s.pins.bypassHold := by
  simp [execFcRxLoRead]

@[simp] theorem execTimeNsRead_bypassHold (s : State) (r x t) : bypassOf (execTimeNsRead r x t s) = some s.pins.bypassHold := by
  simp [execTimeNsRead]

@[simp] theorem execPpsInNsRead_bypassHold (s : State) (r) : bypassOf (execPpsInNsRead r s) = some s.pins.bypassHold := by
  simp [execPpsInNsRead]

@[simp] theorem execRcFieldRead_bypassHold (s : State) (r f) : bypassOf (execRcFieldRead r f s) = some s.pins.bypassHold := by
  unfold execRcFieldRead
  split <;> simp

@[simp] theorem execSnapshotRequest_bypassHold (s : State) (r atTick flows) :
    bypassOf (execSnapshotRequest r atTick flows s) = some s.pins.bypassHold := by
  simp [execSnapshotRequest]

@[simp] theorem execSnapshotCapture_bypassHold (s : State) (t) : bypassOf (execSnapshotCapture t s) = some s.pins.bypassHold := by
  simp [execSnapshotCapture]

@[simp] theorem execSnapshotDrainDone_bypassHold (s : State) : bypassOf (execSnapshotDrainDone s) = some s.pins.bypassHold := by
  simp [execSnapshotDrainDone]

@[simp] theorem execTraceRecordDeliver_bypassHold (s : State) : bypassOf (execTraceRecordDeliver s) = some s.pins.bypassHold := by
  unfold execTraceRecordDeliver
  split <;> simp

@[simp] theorem execPageSoftReset_bypassHold (s : State) (r page) :
    bypassOf (execPageSoftReset r page s) = some s.pins.bypassHold := by
  simp [execPageSoftReset]

@[simp] theorem execSoftResetSettleDone_bypassHold (s : State) (page) :
    bypassOf (execSoftResetSettleDone page s) = some s.pins.bypassHold := by
  simp [execSoftResetSettleDone]

@[simp] theorem execPageFreeze_bypassHold (s : State) (r page) : bypassOf (execPageFreeze r page s) = some s.pins.bypassHold := by
  simp [execPageFreeze]

@[simp] theorem execPageFreezeExpiry_bypassHold (s : State) (page) :
    bypassOf (execPageFreezeExpiry page s) = some s.pins.bypassHold := by
  simp [execPageFreezeExpiry]

/-! ### The calibration service's runs, the PMBus rails, adaptive voltage, the power cap and the thermal checks -/

@[simp] theorem execCalTaskRunEnd_bypassHold (s : State) (t first second) :
    bypassOf (execCalTaskRunEnd t first second s) = some s.pins.bypassHold := by
  simp [execCalTaskRunEnd]

@[simp] theorem execPmbusAlert_bypassHold (s : State) : bypassOf (execPmbusAlert s) = some s.pins.bypassHold := by
  simp -implicitDefEqProofs [execPmbusAlert]

@[simp] theorem execAvsNegativeSlack_bypassHold (s : State) : bypassOf (execAvsNegativeSlack s) = some s.pins.bypassHold := by
  simp [execAvsNegativeSlack]

@[simp] theorem execAnalogReady_bypassHold (s : State) (d) : bypassOf (execAnalogReady d s) = some s.pins.bypassHold := by
  simp [execAnalogReady]

/-! ### Register writes -/

@[simp] theorem State.enableEdge_bypassHold {s : State} (old : State) (r p f d) {set clear : State → State}
    (hset : ∀ t, (set t).pins.bypassHold = t.pins.bypassHold) (hclear : ∀ t, (clear t).pins.bypassHold = t.pins.bypassHold) :
    (State.enableEdge old s r p f d set clear).pins.bypassHold = s.pins.bypassHold := by
  simp [State.enableEdge, hset, hclear]

@[simp] theorem State.lineEffect_bypassHold (s : State) (old r page off d) :
    (State.lineEffect old s r page off d).pins.bypassHold = s.pins.bypassHold := by
  unfold State.lineEffect
  split
  case h_1 => (repeat' split) <;> simp -implicitDefEqProofs
  case h_2 => split <;> simp -implicitDefEqProofs
  case h_3 => (repeat' split) <;> simp
  all_goals simp

@[simp] theorem State.controlEffect_bypassHold (s : State) (s0 r page off d) :
    (State.controlEffect s0 s r page off d).pins.bypassHold = s.pins.bypassHold := by
  simp only [State.controlEffect]
  (repeat' split) <;> simp -implicitDefEqProofs

@[simp] theorem execPartialBar0Write_bypassHold (s : State) (r off) :
    bypassOf (execPartialBar0Write r off s) = some s.pins.bypassHold := by
  simp [execPartialBar0Write]

@[simp] theorem execErrorResponseAccess_bypassHold (s : State) (a uncorrectable) :
    bypassOf (execErrorResponseAccess a uncorrectable s) = some s.pins.bypassHold := by
  simp [execErrorResponseAccess]

@[simp] theorem execSmbusRead_bypassHold (s : State) (off t) : bypassOf (execSmbusRead off t s) = some s.pins.bypassHold := by
  simp only [execSmbusRead]
  split <;> simp

@[simp] theorem execSmbusStatus_bypassHold (s : State) : bypassOf (execSmbusStatus s) = some s.pins.bypassHold := by
  simp [execSmbusStatus]

/-! ### The deframer -/

@[simp] theorem execDvorrovMessageReceived_bypassHold (s : State) (p) :
    bypassOf (execDvorrovMessageReceived p s) = some s.pins.bypassHold := by
  unfold execDvorrovMessageReceived
  split <;> simp -implicitDefEqProofs

@[simp] theorem execReceivedFrame_bypassHold (s : State) (p x) : bypassOf (execReceivedFrame p x s) = some s.pins.bypassHold := by
  simp [execReceivedFrame]

@[simp] theorem execOofMicrosecond_bypassHold (s : State) (p) : bypassOf (execOofMicrosecond p s) = some s.pins.bypassHold := by
  simp [execOofMicrosecond]

@[simp] theorem execLofTimer_bypassHold (s : State) (p) : bypassOf (execLofTimer p s) = some s.pins.bypassHold := by
  simp [execLofTimer]

@[simp] theorem execLofClearTimer_bypassHold (s : State) (p) : bypassOf (execLofClearTimer p s) = some s.pins.bypassHold := by
  simp [execLofClearTimer]

/-! ### DMA bursts -/

@[simp] theorem execDmaCompletionTimeout_bypassHold (s : State) (c desc) :
    bypassOf (execDmaCompletionTimeout c desc s) = some s.pins.bypassHold := by
  simp [execDmaCompletionTimeout]

@[simp] theorem execDmaDescriptorDone_bypassHold (s : State) (c) :
    bypassOf (execDmaDescriptorDone c s) = some s.pins.bypassHold := by
  unfold execDmaDescriptorDone
  split <;> simp

/-! ### Memory protection -/

@[simp] theorem execMemoryLineCrcFail_bypassHold (s : State) (f who) :
    bypassOf (execMemoryLineCrcFail f who s) = some s.pins.bypassHold := by
  simp only [execMemoryLineCrcFail]
  (repeat' split) <;> simp

@[simp] theorem execScrubPass_bypassHold (s : State) (corrected) :
    bypassOf (execScrubPass corrected s) = some s.pins.bypassHold := by
  simp [execScrubPass]

/-! ### Check and retry by block -/

@[simp] theorem execUnitCheckFail_bypassHold (s : State) (b u i) :
    bypassOf (execUnitCheckFail b u i s) = some s.pins.bypassHold := by
  simp [execUnitCheckFail]

@[simp] theorem execClassifyingAttemptDone_bypassHold (s : State) (b u pass i) :
    bypassOf (execClassifyingAttemptDone b u pass i s) = some s.pins.bypassHold := by
  simp [execClassifyingAttemptDone]

@[simp] theorem execSpareSelfTestDone_bypassHold (s : State) (b u pass) :
    bypassOf (execSpareSelfTestDone b u pass s) = some s.pins.bypassHold := by
  unfold execSpareSelfTestDone
  (repeat' split) <;> simp

/-! ### Resets, their release, the power-on retest, and the resets of the host side -/

@[simp] theorem execResetRelease_bypassHold (s : State) : bypassOf (execResetRelease s) = some s.pins.bypassHold := by
  simp [execResetRelease]

@[simp] theorem execPowerOnRetestDone_bypassHold (s : State) (passed rows) :
    bypassOf (execPowerOnRetestDone passed rows s) = some s.pins.bypassHold := by
  simp [execPowerOnRetestDone]

@[simp] theorem execPcieHotReset_bypassHold (s : State) (k) : bypassOf (execPcieHotReset k s) = some s.pins.bypassHold := by
  simp [execPcieHotReset]

@[simp] theorem execSmbusBusReset_bypassHold (s : State) : bypassOf (execSmbusBusReset s) = some s.pins.bypassHold := by
  simp [execSmbusBusReset]

@[simp] theorem execPciePerstNRelease_bypassHold (s : State) : bypassOf (execPciePerstNRelease s) = some s.pins.bypassHold := by
  simp [execPciePerstNRelease]

@[simp] theorem execConfigurationRequestRetryEnd_bypassHold (s : State) (x) :
    bypassOf (execConfigurationRequestRetryEnd x s) = some s.pins.bypassHold := by
  simp [execConfigurationRequestRetryEnd]

/-! ### The configuration restore at boot -/

@[simp] theorem State.restoreUnused_bypassHold (s : State) (c p) : (s.restoreUnused c p).pins.bypassHold = s.pins.bypassHold := by
  simp [State.restoreUnused]

@[simp] theorem State.restoreEnables_bypassHold (s : State) (c) : (s.restoreEnables c).pins.bypassHold = s.pins.bypassHold := by
  simp [State.restoreEnables]

end Sys2Proof.Machine
end


section
/-! The two bypass outputs have one level (O7; R259): the operations that reach the bypass move both outputs together or not at all,
a reset takes both low, and what is done around them leaves the pins alone. -/

namespace Sys2Proof.Machine

open F

/-- Both bypass outputs are at one level (R259). -/
def State.BypassAgrees (s : State) : Prop := s.pins.bypassHold.e = s.pins.bypassHold.w

namespace State.BypassAgrees

variable {s t : State}

theorem of_eq (h : s.BypassAgrees) (k : t.pins.bypassHold = s.pins.bypassHold) : t.BypassAgrees := by
  unfold State.BypassAgrees at *
  rw [k, h]

theorem of_pins (h : s.BypassAgrees) (k : t.pins = s.pins) : t.BypassAgrees := h.of_eq (by rw [k])

theorem ite {c : Prop} [Decidable c] (hs : s.BypassAgrees) (ht : t.BypassAgrees) : (if c then s else t).BypassAgrees := by
  split
  · exact hs
  · exact ht

theorem cond (h : s.BypassAgrees) (b : Bool) {f : State → State} (hf : (f s).BypassAgrees) : (s.cond b f).BypassAgrees := ite hf h

theorem forEach {α : Type} (h : s.BypassAgrees) (l : List α) {f : α → State → State}
    (hf : ∀ a t, t.BypassAgrees → (f a t).BypassAgrees) : (s.forEach l f).BypassAgrees :=
  State.forEach_invariant State.BypassAgrees l f hf h

/-! ### The ring, and what makes the package leave it (R260, R312, R316) -/

theorem setBypass (s : State) (high : Bool) : (s.setBypass high).BypassAgrees := rfl

theorem leaveRing (h : s.BypassAgrees) (cause : Nat) : (s.leaveRing cause).BypassAgrees :=
  ite ((setBypass s false).of_pins (by simp)) h

theorem emerge (h : s.BypassAgrees) : s.emerge.BypassAgrees := by
  have hup := setBypass (s.wr HB_RING.RING_STATUS_EMERGE_REFUSE s.emergeRefuse) true
  exact ite h (ite (hup.of_pins (by simp)) (h.of_pins (by simp)))

theorem failRclk (h : s.BypassAgrees) : s.failRclk.BypassAgrees := by
  unfold State.failRclk
  extract_lets lost stop failed raised stopped left cut tasks
  have hstopped : stopped.BypassAgrees := h.of_pins (by simp [stopped, raised, failed, lost])
  have hleft : left.BypassAgrees := (hstopped.leaveRing 2).of_pins (by simp [left])
  have hcut : cut.BypassAgrees := hleft.forEach _ fun p u hu => hu.of_eq (by simp)
  exact hcut.of_pins (by simp -implicitDefEqProofs [tasks])

theorem declareRclk (h : s.BypassAgrees) : s.declareRclk.BypassAgrees := ite h.failRclk (h.of_pins (by simp))

theorem judgeRclk (h : s.BypassAgrees) (good : Bool) : (s.judgeRclk good).BypassAgrees := by
  unfold State.judgeRclk
  extract_lets judged
  have hjudged : judged.BypassAgrees := h.of_pins (s.onClock_pins _)
  exact ite hjudged.declareRclk (hjudged.cond _ (hjudged.of_eq (by simp)))

theorem thermalTick (h : s.BypassAgrees) (codes : List Int) : (s.thermalTick codes).BypassAgrees := by
  unfold State.thermalTick
  extract_lets read temps hot shown run counted high crit newCrit raised flagged
  have hread : read.BypassAgrees := h.forEach _ fun _ _ hu => hu.of_pins (by simp)
  have hflagged : flagged.BypassAgrees := hread.of_pins (by simp [flagged, raised, counted, shown])
  refine ite hread (ite (hread.of_pins (by simp)) (hflagged.cond _ ?_))
  exact (hflagged.leaveRing 1).of_eq (by simp)

/-! ### Register writes, by a requester or by the DMA engine -/

/-- Of page 25 only RING_CTRL moves the bypass outputs (R260). -/
theorem hubEffect (h : s.BypassAgrees) (old : State) (r : Requester) (page off d : Nat) :
    (State.hubEffect old s r page off d).BypassAgrees := by
  unfold State.hubEffect
  split
  case h_5 =>
    split
    · exact ite (h.leaveRing 1) (h.cond _ h.emerge)
    refine h.of_pins ?_
    (repeat' split) <;> simp
  case h_7 =>
    refine h.of_pins ?_
    (repeat' split) <;> simp -implicitDefEqProofs
  all_goals
    refine h.of_pins ?_
    simp -implicitDefEqProofs

theorem pageWrite (h : s.BypassAgrees) (r : Requester) (page off d : Nat) : (s.pageWrite r page off d).BypassAgrees := by
  unfold State.pageWrite
  extract_lets stored
  have hstored : stored.BypassAgrees := h.of_pins (State.storeWord_pins ..)
  exact ite (h.of_pins (State.reservedWrite_pins ..)) (ite (hstored.of_pins (State.headerEffect_pins ..))
    (ite (hstored.of_eq (State.lineEffect_bypassHold ..)) (ite (hstored.hubEffect s r page off d)
      (hstored.of_eq (State.controlEffect_bypassHold ..)))))

theorem busWrite (h : s.BypassAgrees) (r : Requester) (off d : Nat) : (s.busWrite r off d).1.BypassAgrees := by
  unfold State.busWrite
  extract_lets word cause
  split
  · exact h
  split
  · exact h.of_pins (State.errorResponse_pins ..)
  split
  · exact h.pageWrite r _ _ d
  split
  · exact h.of_pins (State.msixWrite_pins ..)
  · exact h

theorem devWrites (h : s.BypassAgrees) (dev : Nat) (l : List Nat) : (s.devWrites dev l).1.BypassAgrees := by
  induction l generalizing s dev with
  | nil => exact h
  | cons v l ih =>
    rw [State.devWrites]
    split
    · have hbus := h.busWrite .dma dev v
      split
      · next hw => exact ih (by rwa [hw] at hbus) _
      · next hw => rwa [hw] at hbus
    split
    · exact ih (h.of_pins (State.tableWrite_pins ..)) _
    · have hsram : { s with sram := Memory.writeN s.sram (dev - 0x20000000) 4 v }.BypassAgrees := h
      exact ih hsram _

theorem dmaDeliver (h : s.BypassAgrees) (c : Nat) (d : Descr) (data : List Nat) : (s.dmaDeliver c d data).BypassAgrees := by
  have hwrites := h.devWrites (d.dev + (s.dmaOf c).moved) (swapWords d.swap data)
  unfold State.dmaDeliver
  split
  all_goals
    next hw =>
      rw [hw] at hwrites
      exact hwrites.of_pins (by simp)

theorem dmaData (h : s.BypassAgrees) (c : Nat) (bytes : List Nat) : (s.dmaData c bytes).BypassAgrees := by
  unfold State.dmaData
  extract_lets x n data taken cut
  have htaken : taken.BypassAgrees := h.of_pins (s.onDma_pins _ _)
  split
  · exact htaken
  · refine ite htaken (ite (htaken.of_pins ?_) ((htaken.dmaDeliver c _ data).of_pins (State.dmaState_pins ..)))
    simp [cut]

theorem dmaBurst (h : s.BypassAgrees) (c beats : Nat) : (s.dmaBurst c beats).BypassAgrees := by
  unfold State.dmaBurst
  extract_lets x left
  split
  · exact h
  · refine ite (h.of_pins (State.dmaToHost_pins ..)) (ite ?_ ?_)
    · exact ((h.of_pins (s.onDma_pins _ _)).dmaDeliver c _ _).of_pins (State.dmaState_pins ..)
    · exact ite (h.of_pins (by simp)) (h.of_pins (by simp))

/-! ### The configuration restore -/

theorem applyRecord (h : s.BypassAgrees) (e : CfgRecord) : (s.applyRecord e).BypassAgrees := by
  cases e with
  | register page off d => exact h.busWrite .core0 _ _
  | table off l => exact h.forEach _ fun _ _ hu => hu.of_pins (State.tableWrite_pins ..)
  | eclosion page g => exact h.of_pins (State.commitNow_pins ..)
  | plan n p => exact ite h (h.of_pins rfl)
  | service tb tel => exact h.of_pins (State.restoreServices_pins ..)

theorem applyCopy (h : s.BypassAgrees) (c : CfgCopy) : (s.applyCopy c).BypassAgrees :=
  (h.forEach c.records fun e _ hu => hu.applyRecord e).of_eq (by simp [State.applyCopy])

/-! ### Guarded accesses and resets -/

theorem guarded (h : s.BypassAgrees) (r : Requester) (page off : Nat) {f : State → State} (hf : (f s).BypassAgrees) :
    (s.guarded r page off f).BypassAgrees :=
  ite h (ite hf (h.of_pins (State.errorResponse_pins ..)))

/-- A reset has its own levels: both outputs low (R259). -/
theorem deviceReset (s : State) (power : Bool) : (s.deviceReset power).BypassAgrees := by
  have hreset : (s.deviceReset power).pins = (s.afterReset power).pins := by
    unfold State.deviceReset
    simp -implicitDefEqProofs
  unfold State.BypassAgrees
  rw [hreset]
  rfl

end State.BypassAgrees

/-! ### Commands -/

/-- Every state a result answers has both bypass outputs at one level. -/
def AgreesAfter (r : Result) : Prop := ∀ t, r = .next t → t.BypassAgrees

namespace AgreesAfter

variable {s t : State} {r : Result}

theorem next (h : t.BypassAgrees) : AgreesAfter (.next t) := by
  rintro _ ⟨⟩
  exact h

theorem served (hs : s.BypassAgrees) (h : AgreesAfter r) : AgreesAfter (s.served r) := by
  unfold State.served
  split
  · exact h
  · exact next hs

theorem of_bypassOf (h : s.BypassAgrees) (k : bypassOf r = some s.pins.bypassHold) : AgreesAfter r := by
  rintro t rfl
  exact h.of_eq (Option.some.inj k)

theorem emerge (h : s.BypassAgrees) (r : Requester) : AgreesAfter (execEmerge r s) :=
  next (h.guarded r ringPage 0x044 h.emerge)

theorem enterRing (h : s.BypassAgrees) (r : Requester) : AgreesAfter (execEnterRing r s) :=
  next (h.guarded r ringPage 0x044 (h.leaveRing 1))

theorem managementTick (h : s.BypassAgrees) (x : TickInputs) : AgreesAfter (execManagementTick x s) := by
  refine next (.ite h ?_)
  extract_lets counted instant ported timed railed warmed aged
  have hinstant : instant.pins = s.pins := by simp [instant, counted]
  have htimed : timed.pins = s.pins := by simp [timed, ported, hinstant, counted]
  have hrailed : railed.pins = s.pins := by simp [railed, htimed]
  have hcapped : railed.capTick.BypassAgrees := h.of_pins (by rw [State.capTick_pins, hrailed])
  have hwarmed : warmed.BypassAgrees := hcapped.thermalTick x.temps
  have haged : aged.BypassAgrees := hwarmed.of_pins (by simp [aged])
  exact haged.of_pins aged.serviceTick_pins

theorem smbusWrite (h : s.BypassAgrees) (off data) : AgreesAfter (execSmbusWrite off data s) :=
  next (.ite h ((h.busWrite _ _ _).of_pins rfl))

theorem registerWrite (h : s.BypassAgrees) (r off data) : AgreesAfter (execRegisterWrite r off data s) :=
  next (h.busWrite r _ _)

theorem rclkStartupTimeout (h : s.BypassAgrees) : AgreesAfter (execRclkStartupTimeout s) := by
  have hjudged := h.of_pins (s.onClock_pins fun k => { k with startupJudged := true })
  exact next (.ite h (.ite hjudged (hjudged.declareRclk.of_pins (State.onClock_pins _ _))))

theorem restoreEmergeWaitEnd (h : s.BypassAgrees) : AgreesAfter (execRestoreEmergeWaitEnd s) := by
  refine served h (next (.ite h ?_))
  extract_lets waited on cancel emerged reacq
  have hwaited : waited.BypassAgrees := h.of_pins (s.onCore_pins _)
  have hcancel (t : State) (ht : t.BypassAgrees) : (cancel t).BypassAgrees := ht.of_pins (by simp [cancel])
  have hemerged : emerged.BypassAgrees := (hwaited.forEach on fun p t ht => ht.of_pins (t.requestSpan_pins p)).emerge
  have hreacq : reacq.BypassAgrees := hemerged.forEach on fun p t ht => ht.of_pins (t.forceReacq_pins p)
  refine .ite (hcancel _ hwaited) (.ite (hcancel _ hemerged) ?_)
  cases on with
  | nil => exact hreacq
  | cons p l =>
    cases l with
    | nil => exact hreacq.of_pins (State.txEnableClear_pins ..)
    | cons => exact hreacq

theorem clockMonitorWindow (h : s.BypassAgrees) (rclk xref : Nat) (dieBad : Bool) :
    AgreesAfter (execClockMonitorWindow rclk xref dieBad s) := by
  refine next (.ite ?_ h)
  extract_lets counted judged
  have hjudged : judged.BypassAgrees := h.of_pins (by simp -implicitDefEqProofs [judged, counted])
  exact hjudged.judgeRclk _

theorem dmaReadCompletion (h : s.BypassAgrees) (c desc x) : AgreesAfter (execDmaReadCompletion c desc x s) := by
  refine next (.ite h ?_)
  split
  · exact h.of_pins (State.dmaRequestFails_pins ..)
  · exact .ite (h.of_pins (State.dmaDescrData_pins ..)) (h.dmaData _ _)

theorem configRestore (h : s.BypassAgrees) : AgreesAfter (execConfigRestore s) := by
  refine served h (next (.ite h ?_))
  extract_lets restored
  have hrestored : restored.BypassAgrees := h.of_pins (s.onCore_pins _)
  split
  · exact hrestored.of_pins (State.wr_pins ..)
  · next c hcopy =>
    have hshown : (restored.wr MG_CTL.RESTORE_STATUS_POLICY c.policy).BypassAgrees := hrestored.of_pins (State.wr_pins ..)
    exact .ite ((hshown.applyCopy _).of_pins (State.onCore_pins ..)) hshown

theorem arbiterDraw (h : s.BypassAgrees) (a askers len) : AgreesAfter (execArbiterDraw a askers len s) := by
  refine next (.ite h (.ite (h.of_pins (State.draw_pins ..)) ?_))
  extract_lets high l
  have hdrawn := s.draw_pins a.val l fun c => s.grantBeats c len
  split
  · next t c hdraw =>
    rw [hdraw] at hdrawn
    have ht : t.BypassAgrees := h.of_pins hdrawn
    exact (ht.cond _ (ht.of_pins (State.count_pins ..))).dmaBurst _ _
  · next t hdraw =>
    rw [hdraw] at hdrawn
    exact h.of_pins hdrawn

theorem apllLockLost (h : s.BypassAgrees) : AgreesAfter (execApllLockLost s) := by
  refine next ?_
  extract_lets raised lost
  have hlost : lost.BypassAgrees := h.of_pins (by simp [lost, raised])
  exact hlost.cond _ hlost.declareRclk

theorem resetN (h : s.BypassAgrees) (lowNs : Nat) : AgreesAfter (execResetN lowNs s) :=
  next (.ite (.deviceReset s false) (.ite h (.ite (.deviceReset _ false) (h.of_pins rfl))))

theorem supplyOutOfTolerance (s : State) : AgreesAfter (execSupplyOutOfTolerance s) := next rfl

theorem holdRefreshTimeout (h : s.BypassAgrees) : AgreesAfter (execHoldRefreshTimeout s) := by
  refine next ?_
  extract_lets refreshed
  have hrefreshed : refreshed.BypassAgrees := h.cond _ rfl
  exact hrefreshed.cond _ hrefreshed

end AgreesAfter

/-- Every command leaves both bypass outputs at one level (R259): those named reset the device or may reach the bypass, the others leave
its level. -/
theorem exec_bypassAgrees {s : State} (h : s.BypassAgrees) (c : Instr) : AgreesAfter (exec c s) := by
  cases c
  case powerOnReset => exact .next (.deviceReset s true)
  case resetN lowNs => exact .resetN h lowNs
  case internalPowerOnReset => exact .next (.deviceReset s false)
  case lossOfPower => exact .next (.deviceReset s true)
  case supplyOutOfTolerance => exact .supplyOutOfTolerance s
  case holdRefreshTimeout => exact .holdRefreshTimeout h
  case emerge r => exact .emerge h r
  case enterRing r => exact .enterRing h r
  case managementTick x => exact .managementTick h x
  case smbusWrite off d => exact .smbusWrite h off d
  case registerWrite r off d => exact .registerWrite h r off d
  case rclkStartupTimeout => exact .rclkStartupTimeout h
  case restoreEmergeWaitEnd => exact .restoreEmergeWaitEnd h
  case clockMonitorWindow rclk xref dieBad => exact .clockMonitorWindow h rclk xref dieBad
  case dmaReadCompletion c desc x => exact .dmaReadCompletion h c desc x
  case configRestore => exact .configRestore h
  case arbiterDraw a askers len => exact .arbiterDraw h a askers len
  case apllLockLost => exact .apllLockLost h
  all_goals
    refine .of_bypassOf h ?_
    unfold exec
    simp

/-- Settles O7: only commands that write both bypass outputs together, or reset the device, touch them. -/
theorem bypassOutputsAgree : Obligations.BypassOutputsAgree := by
  intro s t hs hstep
  unfold step at hstep
  split at hstep
  · cases hstep
    exact hs
  · next c rest _ =>
    have hqueued : { s with pending := rest }.BypassAgrees := hs
    exact exec_bypassAgrees hqueued c t hstep

end Sys2Proof.Machine
end


section
/-! The time-out of a proposal while RCLK is stopped (O57; R256, R440): the state ends, and its event does not occur. -/

namespace Sys2Proof.Machine

open F

/-- A core runs, RCLK is not qualified, and the proposer of port E waits for an ACCEPT whose time has come (R256). -/
def State.overdueProposal : State :=
  ({ State.reset with core := { State.reset.core with retested := true }, clock := { State.reset.clock with stopped := false } }.wr
    MG_CTL.CORE_STATUS_CORE0 1).wr (HB_RING.NEG_STATUS_STATE .E) negWaitAccept

theorem State.overdueProposal_coreUp : State.overdueProposal.coreUp = true := by decide

theorem State.overdueProposal_negSt : State.overdueProposal.negSt .E = negWaitAccept := by decide

theorem State.overdueProposal_due :
    fcReached ((State.overdueProposal.frame.get .E).fcTx + 2048) (State.overdueProposal.neg.get .E).atF = true := by decide

theorem State.overdueProposal_rclkStopped : State.overdueProposal.rclkStopped = true := by decide

/-- An event outside the control die does not occur while RCLK is stopped (R440). -/
theorem State.raise_of_rclkStopped {s : State} {e : Evt} (hdie : otherDie e.page = true) (hstopped : s.rclkStopped = true) :
    s.raise e = s.settleInt := by
  have hraw : s.raiseRaw e 1 = s := if_pos (.inr (by rw [hdie, hstopped]; rfl))
  rw [State.raise, State.raiseN, hraw]

/-- The time-out of a proposal in its state and time (R256). -/
theorem execProposerTimeout_due {p : Port} {s : State} (hup : s.coreUp = true) (hwait : s.negSt p = negWaitAccept)
    (hdue : fcReached ((s.frame.get p).fcTx + 2048) (s.neg.get p).atF = true) :
    exec (.proposerTimeout p) s = .next ((s.raise Ev.HB_RING.proposerTimeout).endNeg p 3) := by
  rw [exec, execProposerTimeout, State.served, if_pos hup, if_pos ⟨hwait, hdue⟩]

theorem State.endNeg_counter (s : State) (p : Port) (how page off : Nat) :
    (s.endNeg p how).counter page off = s.counter page off := rfl

/-- Refutes O57: the clause of PROPOSER_TIMEOUT asks for no running RCLK, and the events of page 25 do not count without one. -/
theorem not_rateGlideNegotiation : ¬ Obligations.RateGlideNegotiation := by
  unfold Obligations.RateGlideNegotiation
  rintro ⟨-, -, -, -, -, -, -, -, -, -, -, -, htimeout, -⟩
  obtain ⟨t, ht, -, -, hcounted, -⟩ := htimeout .E State.overdueProposal State.overdueProposal_coreUp
    State.overdueProposal_negSt State.overdueProposal_due
  have hrun := execProposerTimeout_due State.overdueProposal_coreUp State.overdueProposal_negSt State.overdueProposal_due
  have hnext : t = (State.overdueProposal.settleInt).endNeg .E 3 := by
    rw [State.raise_of_rclkStopped rfl State.overdueProposal_rclkStopped] at hrun
    exact Host.Outcome.next.inj (ht.symm.trans hrun)
  have hafter : State.overdueProposal.settleInt.counter Ev.HB_RING.proposerTimeout.page Ev.HB_RING.proposerTimeout.off = 0 := by decide
  have hbefore : State.overdueProposal.counter Ev.HB_RING.proposerTimeout.page Ev.HB_RING.proposerTimeout.off = 0 := by decide
  rw [Counted, hnext, State.endNeg_counter, hafter, hbefore] at hcounted
  exact absurd hcounted (by decide)

end Sys2Proof.Machine
end


section
/-! A recovered clock that a reference input rests on (O56; R260, R326): the input fails as the package leaves the ring, and the
place of its state in the register file is also that of a field past the end of page 7, which the statement does not leave aside. -/

namespace Sys2Proof.Machine

open F

/-- In the ring with RCLK running, and input 4 QUALIFIED on the recovered clock of port E. -/
def State.recoveredClock : State :=
  ((((State.reset.wr CK_SYN.SYN_STATUS_RCLK_OK 1).wr (RXFE.ACQ_STATUS_ACQ_STATE .E) acqAcquired).wr
    (RXEQ.EQ_STATUS_TR_LOCK .E) 1).wr HB_RING.RING_STATUS_IN_RING 1).wr (CK_REF.REF_STATUS_STATE 4) refQualified

/-- The place of the state of input 4, counted from the start of page 7 in place of page 8 (R336, R465). -/
def portInputPastPage7 : Field := ⟨7, 4096 + 0x04C + 0x10 * 4, 0, 3, .ro, 0⟩

/-- Both name one place of the register file. -/
theorem State.rd_portInputPastPage7 (s : State) : s.rd portInputPastPage7 = s.refSt 4 := rfl

theorem portInputPastPage7_quiet : portInputPastPage7.quiet = true := by decide

/-- By its page number it is no field of the reference inputs. -/
theorem portInputPastPage7_not_refField : ¬ refField portInputPastPage7 := by
  unfold refField
  decide

/-- A write to the ring's control register is taken. -/
theorem State.recoveredClock_takes : State.recoveredClock.Takes .pcie 25 0x044 := by decide

theorem State.recoveredClock_inRing : State.recoveredClock.inRing = true := by decide

theorem State.recoveredClock_refSt : State.recoveredClock.refSt 4 = refQualified := by decide

/-- Outside the ring the input is FAILED at once (R326, R327). -/
theorem State.recoveredClock_leaveRing_refSt : (State.recoveredClock.leaveRing 1).refSt 4 = refFailed := by decide +kernel

theorem execEnterRing_taken {r : Requester} {s : State} (htakes : s.Takes r 25 0x044) :
    exec (.enterRing r) s = .next (s.leaveRing 1) := by
  rw [exec, execEnterRing, ringPage, State.guarded_of_takes htakes]

/-- Refutes O56: `KeepsFieldsButRefs` leaves the reference inputs aside by their page number, but a field's place is its page and offset
taken together, so the input that fails as ENTER ends IN_RING changes what a field past the end of page 7 reads as. -/
theorem not_ringEntryReportsAndPlans : ¬ Obligations.RingEntryReportsAndPlans := by
  unfold Obligations.RingEntryReportsAndPlans
  rintro ⟨-, -, -, henter, -⟩
  obtain ⟨t, ht, -, -, -, -, -, -, hkeeps⟩ := henter .pcie State.recoveredClock State.recoveredClock_takes State.recoveredClock_inRing
  have hnext : t = State.recoveredClock.leaveRing 1 :=
    Host.Outcome.next.inj (ht.symm.trans (execEnterRing_taken State.recoveredClock_takes))
  have hplace : ∀ g ∈ [HB_RING.RING_STATUS_IN_RING, HB_RING.RING_STATUS_BYPASS_HOLD, HB_RING.RING_STATUS_ENTRY_CAUSE],
      portInputPastPage7.key ≠ g.key := by decide
  have hkept := (hkeeps portInputPastPage7 portInputPastPage7_quiet portInputPastPage7_not_refField hplace).1
  rw [hnext, State.rd_portInputPastPage7, State.rd_portInputPastPage7, State.recoveredClock_leaveRing_refSt,
    State.recoveredClock_refSt] at hkept
  exact absurd hkept (by decide)

end Sys2Proof.Machine
end


section
/-! The control cores and what they do of themselves (O55; R251, R364, R368, R369, R376 to R378): the boot, moults and self-tests, the
non-maskable causes, telemetry, and the timers of the local report. -/

namespace Sys2Proof.Machine

open F

/-! ### The states of the cores -/

theorem State.coreSt_setCoreSt_same (s : State) (c v : Nat) : (s.setCoreSt c v).coreSt c = v % 4 := by
  unfold State.setCoreSt State.coreSt
  rw [State.rd_wr_same]
  split <;> rfl

theorem State.coreSt_wr (s : State) {f : Field} (h0 : f.key ≠ MG_CTL.CORE_STATUS_CORE0.key) (h1 : f.key ≠ MG_CTL.CORE_STATUS_CORE1.key)
    (v c : Nat) : (s.wr f v).coreSt c = s.coreSt c := by
  unfold State.coreSt
  split
  · exact State.rd_wr_ne _ _ h0
  · exact State.rd_wr_ne _ _ h1

theorem KeepsFieldsBut.setCoreSt {l : List Field} {s t : State} (h : KeepsFieldsBut l s t) (h0 : MG_CTL.CORE_STATUS_CORE0 ∈ l)
    (h1 : MG_CTL.CORE_STATUS_CORE1 ∈ l) (c v : Nat) : KeepsFieldsBut l s (t.setCoreSt c v) := by
  refine h.wr ?_ v
  split
  · exact h0
  · exact h1

theorem State.coreImage_loadCore_same (s : State) (c : Nat) (i : Option FwImage) (slot : Nat) :
    (s.loadCore c i slot).coreImage c = i := by
  unfold State.loadCore State.coreImage
  split <;> rfl

theorem State.coreImage_of_core {s t : State} (h : t.core = s.core) (c : Nat) : t.coreImage c = s.coreImage c := by
  rw [State.coreImage, h, State.coreImage]

theorem State.runCore_core (s : State) (c : Nat) : (s.runCore c).core = s.core := by
  unfold State.runCore
  dsimp only
  split <;> rfl

theorem State.activeCore_lt (s : State) : s.activeCore < 2 := s.rd_lt MG_CTL.CORE_STATUS_ACTIVE

/-! ### The commands in progress (R370) -/

theorem Tab.find?_erase_same {α : Type} (t : Tab α) (k : Nat) : (Tab.erase t k).find? (fun e => decide (e.1 = k)) = none := by
  induction t with
  | nil => rfl
  | cons e t ih =>
    obtain ⟨j, v⟩ := e
    rw [Tab.erase]
    split
    · exact ih
    · next hj => rw [List.find?_cons_of_neg (by simpa using hj), ih]

theorem Tab.find?_erase_none {α : Type} {t : Tab α} {k : Nat} (j : Nat) (h : t.find? (fun e => decide (e.1 = k)) = none) :
    (Tab.erase t j).find? (fun e => decide (e.1 = k)) = none := by
  rw [List.find?_eq_none] at h ⊢
  exact fun e he => h e (Tab.mem_erase he)

theorem State.mbxOf_eq_none {s : State} {x : Nat} : s.mbxOf x = none ↔ s.mbx.find? (fun e => decide (e.1 = x)) = none :=
  Option.map_eq_none_iff

theorem State.mbxFinish_none {s : State} {x : Nat} (h : s.mbxOf x = none) (status detail : Nat) (rsp : List Nat) :
    s.mbxFinish x status detail rsp = s := by
  unfold State.mbxFinish
  rw [h]

/-- Besides the command itself, its end touches what an event touches (R372). -/
theorem State.mbxFinish_eventFrame {s : State} {x : Nat} {c : MbxCmd} (h : s.mbxOf x = some c) (status detail : Nat) (rsp : List Nat) :
    State.EventFrame { s with mbx := Tab.erase s.mbx x } (s.mbxFinish x status detail rsp) := by
  have hraiseIf (t : State) (b : Bool) (e : Evt) : t.EventFrame (t.raiseIf b e) :=
    State.cond_eventFrame t b (fun u => u.raise e) (t.raiseN_eventFrame e 1)
  unfold State.mbxFinish
  rw [h]
  dsimp -zeta only
  extract_lets erased worded told tagged ended shown raised
  have hworded : erased.EventFrame worded := State.forEach_eventFrame _ _ (fun e t => t.wr_eventFrame _ _) _
  have htold : erased.EventFrame told := (hworded.trans (worded.wr_eventFrame _ _)).trans (State.wr_eventFrame _ _ _)
  have htagged : erased.EventFrame tagged := (htold.trans (told.wr_eventFrame _ _)).trans (State.wr_eventFrame _ _ _)
  have hended : erased.EventFrame ended := (htagged.trans (tagged.wr_eventFrame _ _)).trans (State.wr_eventFrame _ _ _)
  have hshown : erased.EventFrame shown := hended.trans (State.cond_eventFrame _ _ _ (ended.wr_eventFrame _ _))
  have hraised : erased.EventFrame raised := (hshown.trans (shown.raiseN_eventFrame _ 1)).trans (hraiseIf _ _ _)
  exact (hraised.trans (hraiseIf _ _ _)).trans (hraiseIf _ _ _)

theorem State.mbxFinish_core (s : State) (x status detail : Nat) (rsp : List Nat) : (s.mbxFinish x status detail rsp).core = s.core := by
  cases h : s.mbxOf x with
  | none => rw [State.mbxFinish_none h]
  | some c => rw [State.mbxFinish_eventFrame h]

theorem State.mbxFinish_mbxOf_same (s : State) (x status detail : Nat) (rsp : List Nat) :
    (s.mbxFinish x status detail rsp).mbxOf x = none := by
  cases h : s.mbxOf x with
  | none => rw [State.mbxFinish_none h, h]
  | some c =>
    rw [State.mbxFinish_eventFrame h]
    exact State.mbxOf_eq_none.2 (Tab.find?_erase_same s.mbx x)

theorem State.mbxFinish_mbxOf_none {s : State} {x : Nat} (h : s.mbxOf x = none) (y status detail : Nat) (rsp : List Nat) :
    (s.mbxFinish y status detail rsp).mbxOf x = none := by
  cases hy : s.mbxOf y with
  | none => rw [State.mbxFinish_none hy, h]
  | some c =>
    rw [State.mbxFinish_eventFrame hy]
    exact State.mbxOf_eq_none.2 (Tab.find?_erase_none y (State.mbxOf_eq_none.1 h))

/-- A command that ends with one response word. -/
theorem KeepsFieldsBut.mbxFinish_word {l : List Field} {s t : State} (h : KeepsFieldsBut l s t) {x : Nat}
    (hl : ∀ g ∈ MG_MBX.RSP_WORD x 0 :: mbxFields x, g ∈ l) (status detail v : Nat) :
    KeepsFieldsBut l s (t.mbxFinish x status detail [v]) := by
  simp only [mbxFields, List.forall_mem_cons] at hl
  obtain ⟨hword, hwords, hstatus, hdetail, htag, hbusy, hdone, hpercent, -⟩ := hl
  unfold State.mbxFinish
  split
  case h_1 => exact h
  case h_2 c _ =>
    have hend := (((((((h.same (u := { t with mbx := Tab.erase t.mbx x }) rfl rfl).wr hword v).wr hwords 1).wr hstatus status).wr
      hdetail detail).wr htag c.tag).wr hbusy 0).wr hdone 1
    exact ((((hend.cond fun _ => hend.wr hpercent 100).raise _).raiseIf _ _).raiseIf _ _).raiseIf _ _

theorem State.mbxFinish_word_counter (s : State) {x : Nat} (status detail v : Nat) {q o : Nat} (h : q * 4096 + o ∉ mbxPlaces x) :
    (s.mbxFinish x status detail [v]).counter q o = s.counter q o := by
  simp only [mbxPlaces, List.mem_cons, List.not_mem_nil, or_false, not_or] at h
  obtain ⟨hdone, hfailed, hmoult, haborted, hint⟩ := h
  unfold State.mbxFinish
  split
  case h_1 => rfl
  case h_2 c _ =>
    rw [State.raiseIf_counter_ne _ _ _ haborted hint, State.raiseIf_counter_ne _ _ _ hmoult hint,
      State.raiseIf_counter_ne _ _ _ hfailed hint, State.raise_counter_ne _ _ _ _ hdone hint]
    refine State.cond_cases (fun t => t.counter q o = s.counter q o) ?_ ?_
    · simp only [State.counter_wr]
      rfl
    · simp only [State.counter_wr]
      rfl

/-! ### The boot ROM (R364, R488) -/

/-- The slot that the boot ROM tries first. -/
def State.firstSlot (s : State) : Nat := if s.flash.dirOk then s.flash.pref % 2 else 0

theorem State.firstSlot_lt (s : State) : s.firstSlot < 2 := by
  unfold State.firstSlot
  split
  · exact Nat.mod_lt _ (by decide)
  · decide

theorem execBootRomStart_boots {s : State} (hrun : s.clock.ctrlRun = true) (hstop : s.clock.stopped = false) (h0 : s.coreSt 0 ≠ 1)
    (h1 : s.coreSt 1 ≠ 1) (hslot : s.rd MG_CTL.CORE_STATUS_RUN_SLOT ≠ 2) (hfatal : s.on MG_CTL.CORE_STATUS_FATAL = false) :
    exec .bootRomStart s = .next s.boot := by
  rw [exec, execBootRomStart, if_pos ⟨hrun, by rw [hstop]; decide, h0, h1, hslot, by rw [hfatal]; decide⟩]

theorem execBootRomStart_stays {s : State} (h : s.clock.ctrlRun = false ∨ s.clock.stopped = true ∨ s.coreSt 0 = 1 ∨ s.coreSt 1 = 1) :
    exec .bootRomStart s = .next s := by
  rw [exec, execBootRomStart, if_neg]
  rintro ⟨hrun, hstop, h0, h1, -⟩
  rcases h with h | h | h | h
  · exact Bool.false_ne_true (h.symm.trans hrun)
  · exact hstop h
  · exact h0 h
  · exact h1 h

/-- The boot ROM forgets what a moult or a restore had begun. -/
def State.bootFresh (s : State) : State :=
  s.onCore fun c => { c with restored := false, emergeWait := false, moult := none, selfTest := none, reload := false }

theorem State.boot_of_first {s : State} {i : FwImage} (h : s.validSlot s.firstSlot = some i) :
    s.boot = (s.bootFresh.startCores i s.firstSlot).wr MG_CTL.CORE_STATUS_LAST_FALLBACK 0 := by
  unfold State.boot
  extract_lets first fresh
  have hfirst : fresh.validSlot first = some i := h
  rw [hfirst]
  rfl

theorem State.boot_of_none {s : State} (h0 : s.validSlot 0 = none) (h1 : s.validSlot 1 = none) :
    s.boot = s.bootFresh.wr MG_CTL.CORE_STATUS_RUN_SLOT 2 := by
  have hnone (b : Nat) (hb : b < 2) : s.validSlot b = none := by
    obtain rfl | rfl : b = 0 ∨ b = 1 := by omega
    · exact h0
    · exact h1
  unfold State.boot
  extract_lets first fresh
  have hfirst : fresh.validSlot first = none := hnone _ s.firstSlot_lt
  have hother : fresh.validSlot (1 - first) = none := hnone _ (by omega)
  rw [hfirst, hother]
  rfl

/-- Both cores hold the image, the services' channels are armed, and no core runs yet. -/
def State.loaded (s : State) (i : FwImage) (slot : Nat) : State :=
  (((((s.loadCore 0 (some i) slot).loadCore 1 (some i) slot).armServices).setCoreSt 0 0).setCoreSt 1 0)

theorem State.coreQuarantined_of_spared {s t : State} (h : t.spared = s.spared) (c : Nat) :
    t.coreQuarantined c = s.coreQuarantined c := by
  rw [State.coreQuarantined, State.block_of_spared h, State.coreQuarantined]

/-- Two sound cores: the lower-numbered one runs, the other stands by. -/
theorem State.startCores_both {s : State} (h0 : s.coreQuarantined 0 = false) (h1 : s.coreQuarantined 1 = false) (i : FwImage)
    (slot : Nat) : s.startCores i slot = ((s.loaded i slot).runCore 0).setCoreSt 1 2 := by
  unfold State.startCores
  extract_lets held armed up off
  have hq (c : Nat) : armed.coreQuarantined c = s.coreQuarantined c :=
    State.coreQuarantined_of_spared (by simp [armed, held, State.armServices, State.loadCore]) c
  have hup : up = [0, 1] := by simp [up, hq, h0, h1]
  have hoff : off = s.loaded i slot := by
    have hset (v : Nat) : (armed.setCoreSt 0 v).coreQuarantined 1 = armed.coreQuarantined 1 :=
      State.coreQuarantined_of_spared (State.wr_spared ..) 1
    simp only [off, State.forEach_cons, State.forEach_nil, hset, hq, h0, h1]
    rfl
  rw [hup, hoff]

/-- Started cores run the image in both places. -/
theorem State.started_rd (s : State) (i : FwImage) (slot : Nat) : (s.loaded i slot).runCore 0 =
    (((((s.loaded i slot).wr MG_CTL.CORE_STATUS_ACTIVE 0).setCoreSt 0 1).wr MG_CTL.CORE_STATUS_RUN_SLOT slot).wr
      MG_CTL.FW_VERSION_VERSION i.version.toNat).wr MG_CTL.FW_SVN_SVN i.svn.toNat := rfl

theorem State.armServices_run (s : State) : s.armServices.on (DMA_ENG.CH_CTRL_RUN 14) = true ∧
    s.armServices.on (DMA_ENG.CH_CTRL_RUN 15) = true := by
  constructor
  · simp (disch := decide) only [State.armServices, State.forEach_cons, State.forEach_nil, State.on_wr_ne, State.on_wr_one]
  · simp (disch := decide) only [State.armServices, State.forEach_cons, State.forEach_nil, State.on_wr_ne, State.on_wr_one]

/-- What a valid image in the preferred slot starts (R364). -/
theorem State.booted {s : State} {i : FwImage} (h0 : s.coreQuarantined 0 = false) (h1 : s.coreQuarantined 1 = false)
    (h : s.validSlot s.firstSlot = some i) : s.boot.coreSt 0 = 1 ∧ s.boot.coreSt 1 = 2 ∧ s.boot.activeCore = 0 ∧
      s.boot.rd MG_CTL.CORE_STATUS_RUN_SLOT = s.firstSlot ∧ s.boot.on MG_CTL.CORE_STATUS_LAST_FALLBACK = false ∧
      s.boot.coreImage 0 = some i ∧ s.boot.coreImage 1 = some i ∧ s.boot.on (DMA_ENG.CH_CTRL_RUN 14) = true ∧
      s.boot.on (DMA_ENG.CH_CTRL_RUN 15) = true ∧
      s.boot.rd MG_CTL.FW_VERSION_VERSION = i.version.toNat % 2 ^ MG_CTL.FW_VERSION_VERSION.width := by
  have hslot : s.firstSlot % 2 ^ MG_CTL.CORE_STATUS_RUN_SLOT.width = s.firstSlot :=
    Nat.mod_eq_of_lt (Nat.lt_trans s.firstSlot_lt (by decide))
  obtain ⟨h14, h15⟩ := State.armServices_run ((s.bootFresh.loadCore 0 (some i) s.firstSlot).loadCore 1 (some i) s.firstSlot)
  have hset (t : State) (v : Nat) : t.setCoreSt 0 v = t.wr MG_CTL.CORE_STATUS_CORE0 v := rfl
  have hset' (t : State) (v : Nat) : t.setCoreSt 1 v = t.wr MG_CTL.CORE_STATUS_CORE1 v := rfl
  have hboot := (State.boot_of_first h).trans (congrArg (fun t : State => t.wr MG_CTL.CORE_STATUS_LAST_FALLBACK 0)
    (State.startCores_both (s := s.bootFresh) h0 h1 i s.firstSlot))
  rw [State.started_rd, State.loaded] at hboot
  simp only [hset, hset'] at hboot
  rw [hboot]
  have hcore0 (t : State) : t.coreSt 0 = t.rd MG_CTL.CORE_STATUS_CORE0 := rfl
  have hcore1 (t : State) : t.coreSt 1 = t.rd MG_CTL.CORE_STATUS_CORE1 := rfl
  refine ⟨?core0, ?core1, ?active, ?runSlot, ?fallback, ?image0, ?image1, ?trace, ?service, ?version⟩
  case core0 =>
    simp (disch := decide) only [hcore0, State.rd_wr_ne, State.rd_wr_same]
    rfl
  case core1 =>
    simp (disch := decide) only [hcore1, State.rd_wr_ne, State.rd_wr_same]
    rfl
  case active =>
    simp (disch := decide) only [State.activeCore, State.rd_wr_ne, State.rd_wr_same]
    rfl
  case runSlot => simp (disch := decide) only [State.rd_wr_ne, State.rd_wr_same, hslot]
  case fallback => exact State.on_wr_zero _ _
  case image0 => simp [State.coreImage, State.armServices, State.loadCore]
  case image1 => simp [State.coreImage, State.armServices, State.loadCore]
  case trace => simp (disch := decide) only [State.on_wr_ne, h14]
  case service => simp (disch := decide) only [State.on_wr_ne, h15]
  case version => simp (disch := decide) only [State.rd_wr_ne, State.rd_wr_same]

/-- With no image to start, the boot ROM enters recovery and writes nothing else (R364). -/
theorem State.boot_recovery {s : State} (h0 : s.validSlot 0 = none) (h1 : s.validSlot 1 = none) :
    s.boot.rd MG_CTL.CORE_STATUS_RUN_SLOT = 2 ∧ KeepsFieldsBut [MG_CTL.CORE_STATUS_RUN_SLOT] s s.boot := by
  rw [State.boot_of_none h0 h1]
  have hfresh : KeepsFieldsBut [MG_CTL.CORE_STATUS_RUN_SLOT] s s.bootFresh := (KeepsFieldsBut.refl _ s).same rfl rfl
  exact ⟨State.rd_wr_same _ _ _, hfresh.wr (by simp) 2⟩

/-! ### Moults (R368, R369) -/

theorem State.moultSwitch_core (s : State) (a : Nat) :
    (s.moultSwitch a).core = { s.core with selfTest := some a, reload := false, moult := none } :=
  congrArg (fun c : CoreState => { c with selfTest := some a, reload := false, moult := none }) (State.runCore_core (s.setCoreSt a 0) _)

theorem State.moultSwitch_busy (s : State) (a : Nat) : (s.moultSwitch a).on MG_CTL.CORE_STATUS_MOULT_BUSY = false :=
  State.on_wr_zero _ _

theorem State.moultEnds_core (s : State) : s.moultEnds.core = s.core := by
  rw [State.moultEnds, State.mbxFinish_core, State.mbxFinish_core, State.raise_core]

theorem State.moultEnds_mbxOf (s : State) : s.moultEnds.mbxOf 0 = none ∧ s.moultEnds.mbxOf 1 = none :=
  ⟨State.mbxFinish_mbxOf_none (State.mbxFinish_mbxOf_same ..) 1 9 0 [], State.mbxFinish_mbxOf_same ..⟩

/-- A STANDBY core takes over. -/
theorem State.emergencyMoult_moulted {s : State} (hrun : s.coreSt s.activeCore = 1) (hstandby : s.coreSt (1 - s.activeCore) = 2) :
    EmergencyMoulted s s.emergencyMoult := by
  have heq : s.emergencyMoult = (s.moultSwitch s.activeCore).moultEnds := State.emergencyMoult_standby hrun hstandby
  obtain ⟨hactive, hcores⟩ := (s.moultSwitch s.activeCore).moultEnds_cores
  obtain ⟨hnew, hold, hruns⟩ := s.moultSwitch_cores s.activeCore_lt
  obtain ⟨hmbx0, hmbx1⟩ := (s.moultSwitch s.activeCore).moultEnds_mbxOf
  rw [EmergencyMoulted, heq]
  refine ⟨hactive.trans hnew, (hcores _).trans hold, (hcores _).trans hruns, ?test, ?busy, ?counted, hmbx0, hmbx1⟩
  case test => rw [State.moultEnds_core, State.moultSwitch_core]
  case busy => exact ((s.moultSwitch s.activeCore).moultEnds_keeps.on (by decide) (by decide)).trans (s.moultSwitch_busy _)
  case counted =>
    rw [Counted, State.moultEnds_counter _ (by decide), State.raise_counts _ _ rfl (by decide), State.moultSwitch_counter]

theorem State.emergencyMoult_watchdog_counter {s : State} (hrun : s.coreSt s.activeCore = 1)
    (hstandby : s.coreSt (1 - s.activeCore) = 2) : s.emergencyMoult.counter 1 Ev.MG_CTL.watchdog.off = s.counter 1 Ev.MG_CTL.watchdog.off := by
  rw [show s.emergencyMoult = (s.moultSwitch s.activeCore).moultEnds from State.emergencyMoult_standby hrun hstandby,
    State.moultEnds_counter _ (by decide), State.raise_counter_ne _ _ _ _ (by decide) (by decide), State.moultSwitch_counter]

/-- A moult that follows an event is one of the state before it. -/
theorem emergencyMoulted_of_raise {s t : State} {e : Evt} (he : e.place ≠ Ev.MG_CTL.emergency.place)
    (h : EmergencyMoulted (s.raise e) t) : EmergencyMoulted s t := by
  obtain ⟨hactive, hcores⟩ := s.raise_cores e
  have hcount : (s.raise e).counter Ev.MG_CTL.emergency.page Ev.MG_CTL.emergency.off =
      s.counter Ev.MG_CTL.emergency.page Ev.MG_CTL.emergency.off :=
    State.raise_counter_ne s e _ _ (Ne.symm he) (by decide)
  rw [EmergencyMoulted, Counted, hactive, hcount] at h
  exact h

theorem execWatchdogExpiry_bites {s : State} (hclk : s.clock.stopped = false) (hrun : s.coreSt s.activeCore = 1) :
    exec .watchdogExpiry s = .next (s.raise Ev.MG_CTL.watchdog).emergencyMoult := by
  rw [exec, execWatchdogExpiry, if_pos ⟨hrun, by rw [hclk]; decide⟩]

theorem completes_watchdogExpiry_standby {s : State} (hclk : s.clock.stopped = false) (hrun : s.coreSt s.activeCore = 1)
    (hstandby : s.coreSt (1 - s.activeCore) = 2) :
    Completes .watchdogExpiry s fun t => EmergencyMoulted s t ∧ Counted Ev.MG_CTL.watchdog s t := by
  obtain ⟨hactive, hcores⟩ := s.raise_cores Ev.MG_CTL.watchdog
  have hrun' : (s.raise Ev.MG_CTL.watchdog).coreSt (s.raise Ev.MG_CTL.watchdog).activeCore = 1 := by rw [hactive, hcores, hrun]
  have hstandby' : (s.raise Ev.MG_CTL.watchdog).coreSt (1 - (s.raise Ev.MG_CTL.watchdog).activeCore) = 2 := by
    rw [hactive, hcores, hstandby]
  refine ⟨_, execWatchdogExpiry_bites hclk hrun, emergencyMoulted_of_raise (by decide) (State.emergencyMoult_moulted hrun' hstandby'), ?_⟩
  exact (State.emergencyMoult_watchdog_counter hrun' hstandby').trans (State.raise_counts s _ rfl (by decide))

/-- Without a STANDBY core the failed core is quarantined, EXHAUSTED, and the complex is FATAL (R369). -/
def State.lastCoreFails (s : State) (a : Nat) : State := (((s.lastingOnly .core a).exhausted .core).setCoreSt a 3).fatal

theorem State.emergencyMoult_fatal {s : State} (hrun : s.coreSt s.activeCore = 1) (hnone : s.coreSt (1 - s.activeCore) ≠ 2) :
    s.emergencyMoult = s.lastCoreFails s.activeCore := by
  unfold State.emergencyMoult
  dsimp only
  rw [if_neg (not_not_intro hrun), if_neg hnone]
  rfl

theorem State.lastCoreFails_coreSt (s : State) (a : Nat) : (s.lastCoreFails a).coreSt a = 3 := by
  have hfatal (t : State) : t.fatal.coreSt a = t.coreSt a :=
    (State.coreSt_wr _ (f := MG_CTL.NMI_CAUSE_FATAL) (by decide) (by decide) 1 a).trans
      (State.coreSt_wr t (f := MG_CTL.CORE_STATUS_FATAL) (by decide) (by decide) 1 a)
  rw [State.lastCoreFails, hfatal, State.coreSt_setCoreSt_same]

theorem State.fatal_shown (s : State) : s.fatal.on MG_CTL.CORE_STATUS_FATAL = true ∧ s.fatal.on MG_CTL.NMI_CAUSE_FATAL = true ∧
    s.fatal.msixLatch.contains 0 = true :=
  ⟨(State.on_wr_ne _ 1 (f := MG_CTL.NMI_CAUSE_FATAL) (by decide)).trans (State.on_wr_one s rfl), State.on_wr_one _ rfl,
    contains_addSorted_same _ 0⟩

theorem State.lastCoreFails_counter (s : State) (a : Nat) {q o : Nat} (h : q * 4096 + o ∉ Block.core.lastingPlaces) :
    (s.lastCoreFails a).counter q o = s.counter q o := by
  have hexhausted : q * 4096 + o ∉ Block.core.exhaustedPlaces := fun hmem =>
    h (List.mem_cons_of_mem _ (List.mem_append_right _ hmem))
  rw [State.lastCoreFails, State.fatal, State.counter_latchVec, State.counter_wr, State.counter_wr, State.setCoreSt,
    State.counter_wr, State.exhausted_counter _ hexhausted, ← State.lasting_counter_eq s a hexhausted, State.lasting_counter s a h]

theorem completes_watchdogExpiry_alone {s : State} (hclk : s.clock.stopped = false) (hrun : s.coreSt s.activeCore = 1)
    (hnone : s.coreSt (1 - s.activeCore) ≠ 2) :
    Completes .watchdogExpiry s fun t => t.coreSt s.activeCore = 3 ∧ t.on MG_CTL.CORE_STATUS_FATAL = true ∧
      t.on MG_CTL.NMI_CAUSE_FATAL = true ∧ t.msixLatch.contains 0 = true ∧ Counted Ev.MG_CTL.watchdog s t := by
  obtain ⟨hactive, hcores⟩ := s.raise_cores Ev.MG_CTL.watchdog
  have heq := State.emergencyMoult_fatal (s := s.raise Ev.MG_CTL.watchdog) (by rw [hactive, hcores, hrun])
    (by rwa [hactive, hcores])
  rw [hactive] at heq
  refine ⟨_, (execWatchdogExpiry_bites hclk hrun).trans (congrArg _ heq), State.lastCoreFails_coreSt _ _, ?_⟩
  obtain ⟨hfatal, hcause, hlatch⟩ := State.fatal_shown
    ((((s.raise Ev.MG_CTL.watchdog).lastingOnly .core s.activeCore).exhausted .core).setCoreSt s.activeCore 3)
  refine ⟨hfatal, hcause, hlatch, ?_⟩
  exact (State.lastCoreFails_counter _ _ (by decide)).trans (State.raise_counts s _ rfl (by decide))

theorem completes_moultReq {r : Requester} {s : State} (htakes : s.Takes r 1 0x050) (hrun : s.coreSt s.activeCore = 1)
    (hstandby : s.coreSt (1 - s.activeCore) = 2) : Completes (.moultReq r) s fun t => EmergencyMoulted s t :=
  ⟨_, by rw [exec, execMoultReq, State.guarded_of_takes htakes], State.emergencyMoult_moulted hrun hstandby⟩

/-! ### Self-tests (R368, R369) -/

/-- A core that holds the running image stands by. -/
def State.standsBy (s : State) (c : Nat) : State := s.loadCore c (s.coreImage s.activeCore) (s.coreSlot s.activeCore)

theorem State.transient_core (s : State) (b : Block) : (s.transient b).core = s.core := by rw [s.transient_eventFrame b]

theorem State.onCore_spared (s : State) (f : CoreState → CoreState) : (s.onCore f).spared = s.spared := rfl

theorem State.rd_onCore (s : State) (f : CoreState → CoreState) (g : Field) : (s.onCore f).rd g = s.rd g := rfl

theorem State.counter_onCore (s : State) (f : CoreState → CoreState) (page off : Nat) :
    (s.onCore f).counter page off = s.counter page off := rfl

theorem State.onCore_cores (s : State) (f : CoreState → CoreState) :
    (s.onCore f).activeCore = s.activeCore ∧ ∀ c, (s.onCore f).coreSt c = s.coreSt c := ⟨rfl, fun _ => rfl⟩

theorem execCoreSelfTestDone_passed {c : Nat} {s : State} (htest : s.core.selfTest = some c) (hreload : s.core.reload = false) :
    exec (.coreSelfTestDone true) s =
      .next ((((s.standsBy c).transient .core).setCoreSt c 2).onCore fun k => { k with selfTest := none }) := by
  rw [exec, execCoreSelfTestDone, State.coreSelfTest, htest]
  dsimp only
  rw [if_pos rfl, if_neg (Bool.eq_false_iff.1 hreload)]
  rfl

theorem completes_coreSelfTestDone_passed {c : Nat} {s : State} (htest : s.core.selfTest = some c) (hreload : s.core.reload = false) :
    Completes (.coreSelfTestDone true) s fun t => t.coreSt c = 2 ∧ t.core.selfTest = none ∧
      t.coreImage c = s.coreImage s.activeCore := by
  refine ⟨_, execCoreSelfTestDone_passed htest hreload, State.coreSt_setCoreSt_same _ c 2, rfl, ?_⟩
  have hcore : ((s.standsBy c).transient .core).core = (s.standsBy c).core := State.transient_core _ _
  exact (State.coreImage_of_core hcore c).trans (State.coreImage_loadCore_same s c _ _)

theorem execCoreSelfTestDone_failed {c : Nat} {s : State} (htest : s.core.selfTest = some c) :
    exec (.coreSelfTestDone false) s =
      .next (((s.lastingOnly .core c).setCoreSt c 3).onCore fun k => { k with selfTest := none, reload := false }) := by
  rw [exec, execCoreSelfTestDone, State.coreSelfTest, htest]
  rfl

theorem completes_coreSelfTestDone_failed {c : Nat} {s : State} (htest : s.core.selfTest = some c) :
    Completes (.coreSelfTestDone false) s fun t => t.coreSt c = 3 ∧ t.core.selfTest = none ∧ t.coreQuarantined c = true := by
  refine ⟨_, execCoreSelfTestDone_failed htest, State.coreSt_setCoreSt_same _ c 3, rfl, ?_⟩
  rw [State.coreQuarantined_of_spared (State.onCore_spared _ _), State.setCoreSt, State.coreQuarantined_of_spared (State.wr_spared ..)]
  exact s.lastingOnly_quarantines .core c

theorem execCoreSelfTestDone_none {b : Bool} {s : State} (htest : s.core.selfTest = none) :
    exec (.coreSelfTestDone b) s = .next s := by
  rw [exec, execCoreSelfTestDone, State.coreSelfTest, htest]

theorem execMoultStandbyReady_reloaded {c : Nat} {s : State} (htest : s.core.selfTest = some c) (hreload : s.core.reload = true) :
    exec .moultStandbyReady s =
      .next (((s.standsBy c).setCoreSt c 2).onCore fun k => { k with selfTest := none, reload := false }) := by
  rw [exec, execMoultStandbyReady, htest]
  dsimp only
  rw [if_pos hreload]
  rfl

theorem completes_moultStandbyReady {c : Nat} {s : State} (htest : s.core.selfTest = some c) (hreload : s.core.reload = true) :
    Completes .moultStandbyReady s fun t => t.coreSt c = 2 ∧ t.core.selfTest = none ∧ t.core.reload = false ∧
      t.coreImage c = s.coreImage s.activeCore ∧ KeepsFieldsBut [MG_CTL.CORE_STATUS_CORE0, MG_CTL.CORE_STATUS_CORE1] s t := by
  refine ⟨_, execMoultStandbyReady_reloaded htest hreload, State.coreSt_setCoreSt_same _ c 2, rfl, rfl, ?_, ?_⟩
  · exact State.coreImage_loadCore_same s c _ _
  · have hheld : KeepsFieldsBut [MG_CTL.CORE_STATUS_CORE0, MG_CTL.CORE_STATUS_CORE1] s (s.standsBy c) :=
      (KeepsFieldsBut.refl _ s).same rfl rfl
    exact (hheld.setCoreSt (by simp) (by simp) c 2).same rfl rfl

/-! ### The handover of FW_MOULT (R368, R377) -/

/-- The STANDBY core runs the new image; the old one is to be tested and reloaded. -/
def State.handedOver (s : State) (i : FwImage) (slot : Nat) : State :=
  ((s.writeMirror.loadCore (1 - s.activeCore) (some i) slot).moultSwitch s.activeCore).onCore fun c => { c with reload := true }

/-- The end of a handover: its event, FW_MOULT, and the other mailbox's command (R377). -/
def State.handoverEnds (s : State) (i : FwImage) (x : Nat) : State :=
  ((s.raise Ev.MG_CTL.moult).mbxFinish x 0 0 [i.version.toNat]).mbxFinish (1 - x) 9 0 []

theorem State.loadCore_setCoreSt (s : State) (c v b : Nat) (i : Option FwImage) (slot : Nat) :
    (s.setCoreSt c v).loadCore b i slot = (s.loadCore b i slot).setCoreSt c v := rfl

theorem State.onCore_onCore (s : State) (f g : CoreState → CoreState) : (s.onCore f).onCore g = s.onCore fun c => g (f c) := rfl

theorem State.handedOver_eq (s : State) (i : FwImage) (slot : Nat) : s.handedOver i slot =
    (((((s.writeMirror.setCoreSt s.activeCore 0).loadCore (1 - s.activeCore) (some i) slot).runCore (1 - s.activeCore)).wr
      MG_CTL.CORE_STATUS_MOULT_BUSY 0).onCore fun c => { c with moult := none, selfTest := some s.activeCore, reload := true }) := by
  rw [State.loadCore_setCoreSt, State.handedOver, State.moultSwitch, State.onCore_onCore]

theorem execMoultHandover_moult {slot x : Nat} {i : FwImage} {s : State} (hup : s.coreUp = true)
    (hmoult : s.core.moult = some (slot, x)) (hcheck : s.moultCheck slot = none) (hvalid : s.validSlot slot = some i) :
    exec .moultHandover s = .next ((s.handedOver i slot).handoverEnds i x) := by
  rw [State.handedOver_eq, State.handoverEnds, exec, execMoultHandover, State.served, if_pos hup, hmoult]
  dsimp only
  rw [hcheck, hvalid]

theorem execMoultHandover_none {s : State} (hup : s.coreUp = true) (hmoult : s.core.moult = none) :
    exec .moultHandover s = .next s := by
  rw [exec, execMoultHandover, State.served, if_pos hup, hmoult]

theorem State.handoverEnds_keeps (s : State) (i : FwImage) {x : Nat} (hx : x < 2) :
    KeepsFieldsBut (MG_MBX.RSP_WORD x 0 :: (mbxFields 0 ++ mbxFields 1)) s (s.handoverEnds i x) := by
  have hraised : KeepsFieldsBut (MG_MBX.RSP_WORD x 0 :: (mbxFields 0 ++ mbxFields 1)) s (s.raise Ev.MG_CTL.moult) :=
    (KeepsFieldsBut.refl _ s).raise _
  have hboth : ∀ y < 2, ∀ g ∈ mbxFields y, g ∈ MG_MBX.RSP_WORD x 0 :: (mbxFields 0 ++ mbxFields 1) := by
    intro y hy g hg
    obtain rfl | rfl : y = 0 ∨ y = 1 := by omega
    · exact List.mem_cons_of_mem _ (List.mem_append_left _ hg)
    · exact List.mem_cons_of_mem _ (List.mem_append_right _ hg)
  have hword : ∀ g ∈ MG_MBX.RSP_WORD x 0 :: mbxFields x, g ∈ MG_MBX.RSP_WORD x 0 :: (mbxFields 0 ++ mbxFields 1) :=
    List.forall_mem_cons.2 ⟨List.mem_cons_self, hboth x hx⟩
  exact (hraised.mbxFinish_word hword 0 0 _).mbxFinish (hboth (1 - x) (by omega)) 9 0

theorem State.handoverEnds_rd (s : State) (i : FwImage) {x : Nat} (hx : x < 2) {f : Field}
    (hf : f ∈ [MG_CTL.CORE_STATUS_ACTIVE, MG_CTL.CORE_STATUS_CORE0, MG_CTL.CORE_STATUS_CORE1, MG_CTL.CORE_STATUS_MOULT_BUSY]) :
    (s.handoverEnds i x).rd f = s.rd f := by
  have hoff : ∀ y < 2, ∀ f ∈ [MG_CTL.CORE_STATUS_ACTIVE, MG_CTL.CORE_STATUS_CORE0, MG_CTL.CORE_STATUS_CORE1,
      MG_CTL.CORE_STATUS_MOULT_BUSY],
      f.quiet = true ∧ ∀ g ∈ MG_MBX.RSP_WORD y 0 :: (mbxFields 0 ++ mbxFields 1), f.key ≠ g.key := by decide
  exact (s.handoverEnds_keeps i hx f (hoff x hx f hf).1 (hoff x hx f hf).2).1

theorem State.handoverEnds_cores (s : State) (i : FwImage) {x : Nat} (hx : x < 2) :
    (s.handoverEnds i x).activeCore = s.activeCore ∧ ∀ c, (s.handoverEnds i x).coreSt c = s.coreSt c := by
  refine ⟨s.handoverEnds_rd i hx (by simp), fun c => ?_⟩
  unfold State.coreSt
  split
  · exact s.handoverEnds_rd i hx (by simp)
  · exact s.handoverEnds_rd i hx (by simp)

theorem State.handoverEnds_core (s : State) (i : FwImage) (x : Nat) : (s.handoverEnds i x).core = s.core := by
  rw [State.handoverEnds, State.mbxFinish_core, State.mbxFinish_core, State.raise_core]

theorem State.handoverEnds_counter (s : State) (i : FwImage) {x : Nat} (hx : x < 2) {q o : Nat}
    (h : q * 4096 + o ∉ mbxPlaces 0 ++ mbxPlaces 1) :
    (s.handoverEnds i x).counter q o = (s.raise Ev.MG_CTL.moult).counter q o := by
  simp only [List.mem_append, not_or] at h
  obtain ⟨h0, h1⟩ := h
  obtain rfl | rfl : x = 0 ∨ x = 1 := by omega
  · exact (State.mbxFinish_counter _ 9 0 h1).trans (State.mbxFinish_word_counter _ 0 0 _ h0)
  · exact (State.mbxFinish_counter _ 9 0 h0).trans (State.mbxFinish_word_counter _ 0 0 _ h1)

/-- What a handover leaves (R368). -/
theorem State.handedOver_cores (s : State) (i : FwImage) (slot : Nat) : (s.handedOver i slot).activeCore = 1 - s.activeCore ∧
    (s.handedOver i slot).coreSt s.activeCore = 0 ∧ (s.handedOver i slot).coreSt (1 - s.activeCore) = 1 := by
  obtain ⟨hactive, hcores⟩ := State.onCore_cores
    ((s.writeMirror.loadCore (1 - s.activeCore) (some i) slot).moultSwitch s.activeCore) fun c => { c with reload := true }
  rw [State.handedOver, hactive, hcores, hcores]
  exact State.moultSwitch_cores _ s.activeCore_lt

theorem State.handedOver_busy (s : State) (i : FwImage) (slot : Nat) : (s.handedOver i slot).on MG_CTL.CORE_STATUS_MOULT_BUSY = false := by
  rw [State.on, State.handedOver, State.rd_onCore]
  exact State.moultSwitch_busy _ _

theorem State.handedOver_counter (s : State) (i : FwImage) (slot page off : Nat) :
    (s.handedOver i slot).counter page off = s.counter page off := by
  rw [State.handedOver, State.counter_onCore, State.moultSwitch_counter]
  rfl

theorem State.handedOver_core (s : State) (i : FwImage) (slot : Nat) : (s.handedOver i slot).core =
    { (s.writeMirror.loadCore (1 - s.activeCore) (some i) slot).core with
      selfTest := some s.activeCore, reload := true, moult := none } :=
  congrArg (fun c : CoreState => { c with reload := true }) (State.moultSwitch_core _ _)

theorem State.handedOver_image (s : State) (i : FwImage) (slot : Nat) :
    (s.handedOver i slot).coreImage (1 - s.activeCore) = some i := by
  refine Eq.trans ?_ (State.coreImage_loadCore_same s.writeMirror (1 - s.activeCore) (some i) slot)
  unfold State.coreImage
  rw [State.handedOver_core]

theorem State.handedOver_mirror (s : State) (i : FwImage) (slot : Nat) : (s.handedOver i slot).core.mirror.isSome = true := by
  rw [State.handedOver_core]
  unfold State.loadCore
  split
  · rfl
  · rfl

theorem completes_moultHandover {slot x : Nat} {i : FwImage} {s : State} (hup : s.coreUp = true)
    (hmoult : s.core.moult = some (slot, x)) (hx : x < 2) (hcheck : s.moultCheck slot = none) (hvalid : s.validSlot slot = some i) :
    Completes .moultHandover s fun t => t.activeCore = 1 - s.activeCore ∧ t.coreSt s.activeCore = 0 ∧
      t.coreSt (1 - s.activeCore) = 1 ∧ t.coreImage (1 - s.activeCore) = some i ∧
      t.on MG_CTL.CORE_STATUS_MOULT_BUSY = false ∧ t.core.moult = none ∧ t.core.selfTest = some s.activeCore ∧
      t.core.mirror.isSome = true ∧ Counted Ev.MG_CTL.moult s t ∧ t.mbxOf x = none := by
  obtain ⟨hactive, hcores⟩ := (s.handedOver i slot).handoverEnds_cores i hx
  have hcore := (s.handedOver i slot).handoverEnds_core i x
  obtain ⟨hnew, hold, hruns⟩ := s.handedOver_cores i slot
  refine ⟨_, execMoultHandover_moult hup hmoult hcheck hvalid, hactive.trans hnew, (hcores _).trans hold, (hcores _).trans hruns,
    (State.coreImage_of_core hcore _).trans (s.handedOver_image i slot), ?busy, ?moult, ?test, ?mirror, ?counted, ?ended⟩
  case busy =>
    rw [State.on, State.handoverEnds_rd _ i hx (by simp)]
    exact s.handedOver_busy i slot
  case moult => rw [hcore, State.handedOver_core]
  case test => rw [hcore, State.handedOver_core]
  case mirror => rw [hcore, State.handedOver_mirror]
  case counted =>
    rw [Counted, State.handoverEnds_counter _ i hx (by decide), State.raise_counts _ _ rfl (by decide), State.handedOver_counter]
  case ended => exact State.mbxFinish_mbxOf_none (State.mbxFinish_mbxOf_same ..) _ 9 0 []

/-! ### The non-maskable causes (R378) -/

/-- Whether a field is quiet is a matter of its place. -/
theorem Field.quiet_of_key {f g : Field} (h : f.key = g.key) : f.quiet = g.quiet := by
  unfold Field.quiet
  rw [h]

/-- A write of a field that is not quiet keeps all that are. -/
theorem KeepsFieldsBut.wr_unquiet {l : List Field} {s t : State} {g : Field} (h : KeepsFieldsBut l s t) (hg : g.quiet = false)
    (v : Nat) : KeepsFieldsBut l s (t.wr g v) := by
  intro f hq hl
  obtain ⟨hrd, hrdA⟩ := h f hq hl
  have hkey : g.key ≠ f.key := fun hk => Bool.false_ne_true (hg.symm.trans ((Field.quiet_of_key hk).trans hq))
  exact ⟨(State.rd_wr_ne _ _ hkey).trans hrd, hrdA⟩

/-- A 1 clears a bit, a 0 leaves it. -/
theorem State.on_cond_clear (s : State) (b : Bool) (f : Field) : (s.cond b fun s => s.wr f 0).on f = (s.on f && !b) := by
  cases b
  · rw [State.cond_false, Bool.not_false, Bool.and_true]
  · rw [State.cond_true, State.on_wr_zero, Bool.not_true, Bool.and_false]

theorem State.on_cond_wr_ne (s : State) (b : Bool) {f g : Field} (h : f.key ≠ g.key) : (s.cond b fun s => s.wr f 0).on g = s.on g := by
  cases b
  · rfl
  · exact State.on_wr_ne s 0 h

theorem completes_nmiCauseClear {r : Requester} {b : BitVec 3} {s : State} (htakes : s.Takes r 1 0x054) :
    Completes (.nmiCauseClear r b) s fun t =>
      t.on MG_CTL.NMI_CAUSE_EXHAUSTED = (s.on MG_CTL.NMI_CAUSE_EXHAUSTED && !bitOf b.toNat 0) ∧
      t.on MG_CTL.NMI_CAUSE_RCLK_FAIL = (s.on MG_CTL.NMI_CAUSE_RCLK_FAIL && !bitOf b.toNat 1) ∧
      t.on MG_CTL.NMI_CAUSE_FATAL = (s.on MG_CTL.NMI_CAUSE_FATAL && !bitOf b.toNat 2) ∧
      KeepsFieldsBut [MG_CTL.NMI_CAUSE_FATAL] s t ∧ t = { s with regs := t.regs } := by
  refine ⟨s.nmiClear b.toNat, by rw [exec, execNmiCauseClear, State.guarded_of_takes htakes], ?_, ?_, ?_, ?_, ?_⟩
  · rw [State.nmiClear, State.on_cond_wr_ne _ _ (by decide), State.on_cond_wr_ne _ _ (by decide), State.on_cond_clear]
  · rw [State.nmiClear, State.on_cond_wr_ne _ _ (by decide), State.on_cond_clear, State.on_cond_wr_ne _ _ (by decide)]
  · rw [State.nmiClear, State.on_cond_clear, State.on_cond_wr_ne _ _ (by decide), State.on_cond_wr_ne _ _ (by decide)]
  · have hexhausted : KeepsFieldsBut [MG_CTL.NMI_CAUSE_FATAL] s (s.cond (bitOf b.toNat 0) fun s => s.wr MG_CTL.NMI_CAUSE_EXHAUSTED 0) :=
      (KeepsFieldsBut.refl _ s).cond fun _ => (KeepsFieldsBut.refl _ s).wr_unquiet (by decide) 0
    have hrclk := hexhausted.condOf (bitOf b.toNat 1) (f := fun s => s.wr MG_CTL.NMI_CAUSE_RCLK_FAIL 0)
      fun _ h => h.wr_unquiet (by decide) 0
    exact hrclk.cond fun _ => hrclk.wr (by simp) 0
  · unfold State.nmiClear
    cases bitOf b.toNat 0 <;> cases bitOf b.toNat 1 <;> cases bitOf b.toNat 2 <;> rfl

/-! ### Telemetry (R376) -/

theorem State.forEach_emit {α : Type} (s : State) (l : List α) (g : α → Out) :
    s.forEach l (fun a s => s.emit (g a)) = { s with out := (l.map g).reverse ++ s.out } := by
  induction l generalizing s with
  | nil => rfl
  | cons a l ih => rw [State.forEach_cons, ih, List.map_cons, List.reverse_cons, List.append_assoc]; rfl

theorem State.count_out (s : State) (page off n : Nat) : (s.count page off n).out = s.out := by
  unfold State.count
  split <;> rfl

theorem State.serviceWrite_out (s : State) (c addr : Nat) (data : List Nat) : (s.serviceWrite c addr data).out =
    ((requestCuts s.payload data.length addr data.length).map fun e =>
      Out.host e.1 ((data.drop (e.1 - addr)).take e.2)).reverse ++ s.out := by
  unfold State.serviceWrite
  extract_lets cuts sent
  rw [State.count_out, State.countBytes, State.count_out]
  show sent.out = _
  simp only [sent]
  rw [State.forEach_emit]

theorem KeepsFieldsBut.serviceWrite {l : List Field} {s t : State} (h : KeepsFieldsBut l s t) (c addr : Nat) (data : List Nat) :
    KeepsFieldsBut l s (t.serviceWrite c addr data) := by
  unfold State.serviceWrite
  extract_lets cuts sent
  have hsent : KeepsFieldsBut l s sent := by
    simp only [sent]
    rw [State.forEach_emit]
    exact h.same rfl rfl
  exact (KeepsFieldsBut.count (hsent.same (u := sent.onDma c _) rfl rfl) _ _ _).count _ _ _

/-- A service's write counts on the page of the DMA engine. -/
theorem State.serviceWrite_counter (s : State) (c addr : Nat) (data : List Nat) {q o : Nat} (h : q * 4096 + o < 6 * 4096) :
    (s.serviceWrite c addr data).counter q o = s.counter q o := by
  unfold State.serviceWrite
  extract_lets cuts sent
  have hsent : sent.counter q o = s.counter q o := by
    simp only [sent]
    rw [State.forEach_emit]
    rfl
  rw [State.counter_count_ne _ _ _ _ _ _ (by omega), State.countBytes, State.counter_count_ne _ _ _ _ _ _ (by omega), ← hsent]
  rfl

/-- The state in which a record has been written. -/
def State.published (s : State) (x : Telemetry) : State :=
  let seq := (x.seq + 1) % 2 ^ 32
  { s.serviceWrite 15 (x.addr + 512 * (seq % x.len)) ((s.telRecord x.mask seq).flatMap (le 4)) with
    tel := some { x with seq := seq, left := x.period } }

theorem execTelemetryRecord_published {x : Telemetry} {s : State} (hup : s.coreUp = true) (htel : s.tel = some x) (hleft : x.left = 0)
    (herr : s.serviceError 15 = none) (hruns : s.serviceRuns 15 = true) :
    exec (.telemetryRecord true) s = .next ((s.published x).raise Ev.MG_CTL.telPublished) := by
  rw [exec, execTelemetryRecord, State.served, if_pos hup, htel]
  dsimp only
  rw [if_neg (not_not_intro hleft), herr, hruns]
  rfl

theorem execTelemetryRecord_waits {x : Telemetry} {s : State} (hup : s.coreUp = true) (htel : s.tel = some x) (hleft : x.left = 0)
    (herr : s.serviceError 15 = none) (hruns : s.serviceRuns 15 = false) : exec (.telemetryRecord true) s = .next s := by
  rw [exec, execTelemetryRecord, State.served, if_pos hup, htel]
  dsimp only
  rw [if_neg (not_not_intro hleft), herr, hruns]
  rfl

theorem execTelemetryRecord_stopped {x : Telemetry} {ok : Bool} {s : State} (hup : s.coreUp = true) (htel : s.tel = some x)
    (hleft : x.left = 0) (herr : ok = false ∨ s.serviceError 15 ≠ none) :
    exec (.telemetryRecord ok) s = .next ({ s with tel := none }.raise Ev.MG_CTL.telStopped) := by
  have hdata : (ok && (s.serviceError 15).isNone) = false := by
    rcases herr with rfl | h
    · rfl
    · rw [Option.isNone_eq_false_iff.2 (Option.isSome_iff_ne_none.2 h), Bool.and_false]
  rw [exec, execTelemetryRecord, State.served, if_pos hup, htel]
  dsimp only
  rw [if_neg (not_not_intro hleft), hdata, State.telError, htel]
  rfl

theorem State.published_out (s : State) (x : Telemetry) : (s.published x).out =
    ((requestCuts s.payload ((s.telRecord x.mask ((x.seq + 1) % 2 ^ 32)).flatMap (le 4)).length
      (x.addr + 512 * ((x.seq + 1) % 2 ^ 32 % x.len)) ((s.telRecord x.mask ((x.seq + 1) % 2 ^ 32)).flatMap (le 4)).length).map
      fun e => Out.host e.1 ((((s.telRecord x.mask ((x.seq + 1) % 2 ^ 32)).flatMap (le 4)).drop
        (e.1 - (x.addr + 512 * ((x.seq + 1) % 2 ^ 32 % x.len)))).take e.2)).reverse ++ s.out := by
  simp only [State.published, State.serviceWrite_out]

theorem State.published_counter (s : State) (x : Telemetry) {q o : Nat} (h : q * 4096 + o < 6 * 4096) :
    (s.published x).counter q o = s.counter q o := by
  rw [← s.serviceWrite_counter 15 (x.addr + 512 * ((x.seq + 1) % 2 ^ 32 % x.len))
    ((s.telRecord x.mask ((x.seq + 1) % 2 ^ 32)).flatMap (le 4)) h]
  simp only [State.published, State.counter]

theorem State.published_counted (s : State) (x : Telemetry) :
    Counted Ev.MG_CTL.telPublished s ((s.published x).raise Ev.MG_CTL.telPublished) := by
  rw [Counted, State.raise_counts _ _ rfl (by decide), State.published_counter s x (by decide)]

theorem State.published_keeps (s : State) (x : Telemetry) : KeepsFieldsBut [] s (s.published x) := by
  have hwrite := (KeepsFieldsBut.refl [] s).serviceWrite 15 (x.addr + 512 * ((x.seq + 1) % 2 ^ 32 % x.len))
    ((s.telRecord x.mask ((x.seq + 1) % 2 ^ 32)).flatMap (le 4))
  refine hwrite.same ?_ ?_
  · simp only [State.published]
  · simp only [State.published]

/-! ### The local report (R251) -/

theorem State.setReport_of_ne {s : State} {p : Port} {r : Nat} (h : s.report? p ≠ r) :
    s.setReport p r = ((s.wr (reqField p) r).bump HB_RING.RPT_LOCAL_SEQ).raise (reqEvt p) := if_neg h

theorem State.setWtr_rd (s : State) (p : Port) (ms : Nat) {f : Field} (h : (wtrLeftField p).key ≠ f.key) :
    (s.setWtr p ms).rd f = s.rd f := State.rd_wr_ne _ _ h

/-- Beyond a timer's end the report is a new one, its WTR timer shows nothing, and SEQ has advanced (R249, R251). -/
theorem State.reportMoved {p : Port} {r : Nat} {s : State} (hclk : s.Clocked) (hr : r < 8) (hne : s.report? p ≠ r) :
    ((s.setWtr p 0).setReport p r).report? p = r ∧ ((s.setWtr p 0).setReport p r).rd (wtrLeftField p) = 0 ∧
      ((s.setWtr p 0).setReport p r).rd HB_RING.RPT_LOCAL_SEQ =
        (s.rd HB_RING.RPT_LOCAL_SEQ + 1) % 2 ^ HB_RING.RPT_LOCAL_SEQ.width ∧
      Counted (reqEvt p) s ((s.setWtr p 0).setReport p r) ∧
      KeepsFieldsBut [reqField p, wtrLeftField p, HB_RING.RPT_LOCAL_SEQ] s ((s.setWtr p 0).setReport p r) := by
  have hwtr : (s.setWtr p 0).report? p = s.report? p := s.setWtr_rd p 0 (by cases p <;> decide)
  have hseq : (s.setWtr p 0).rd HB_RING.RPT_LOCAL_SEQ = s.rd HB_RING.RPT_LOCAL_SEQ := s.setWtr_rd p 0 (by cases p <;> decide)
  have hkeep : KeepsFieldsBut [reqField p, wtrLeftField p, HB_RING.RPT_LOCAL_SEQ] s (s.setWtr p 0) :=
    (KeepsFieldsBut.same (u := s.onReport p _) (.refl _ s) rfl rfl).wr (by simp) _
  rw [State.setReport_of_ne (hwtr ▸ hne)]
  have hquiet : (reqField p).quiet = true ∧ (wtrLeftField p).quiet = true ∧ HB_RING.RPT_LOCAL_SEQ.quiet = true := by
    cases p <;> decide
  obtain ⟨hreq, hleft, hseqq⟩ := hquiet
  refine ⟨?report, ?left, ?seq, ?counted, ?keeps⟩
  case report =>
    rw [State.report?, State.raise_rd _ _ _ hreq, State.bump, State.rd_wr_ne _ _ (by cases p <;> decide), State.rd_wr_same]
    cases p <;> exact Nat.mod_eq_of_lt hr
  case left =>
    rw [State.raise_rd _ _ _ hleft, State.bump, State.rd_wr_ne _ _ (by cases p <;> decide),
      State.rd_wr_ne _ _ (by cases p <;> decide), State.setWtr, State.rd_wr_same]
    exact Nat.zero_mod _
  case seq =>
    rw [State.raise_rd _ _ _ hseqq, State.bump, State.rd_wr_same, State.rd_wr_ne _ _ (by cases p <;> decide), hseq]
  case counted =>
    have hrclk : (((s.setWtr p 0).wr (reqField p) r).bump HB_RING.RPT_LOCAL_SEQ).Clocked := by
      refine (State.rclkStopped_of_rd ?_).trans hclk
      rw [State.bump, State.rd_wr_ne _ _ (by decide), State.rd_wr_ne _ _ (by cases p <;> decide),
        s.setWtr_rd p 0 (by cases p <;> decide)]
    exact State.raise_counted hrclk (by cases p <;> decide)
  case keeps => exact ((hkeep.wr (by simp) r).wr (by simp) _).raise _

theorem execHoldoffExpiry_sf {p : Port} {s : State} (hclk : s.Clocked) (hsf : s.sfCause p = true)
    (hr : s.report? p = rptOk ∨ s.report? p = rptSd ∨ s.report? p = rptWtr) :
    exec (.holdoffExpiry p) s = .next ((s.setWtr p 0).setReport p rptSf) :=
  (State.clocked_run hclk _).trans (congrArg _ (if_pos ⟨hsf, hr⟩))

theorem rpt_ne_sf {r : Nat} (hr : r = rptOk ∨ r = rptSd ∨ r = rptWtr) : r ≠ rptSf := by
  rcases hr with rfl | rfl | rfl <;> decide

theorem execHoldoffExpiry_quiet {p : Port} {s : State} (hclk : s.Clocked) (h : s.sfCause p = false ∨ s.report? p = rptForced) :
    exec (.holdoffExpiry p) s = .next s := by
  refine (State.clocked_run hclk _).trans (congrArg _ (if_neg ?_))
  rintro ⟨hsf, hr⟩
  rcases h with h | h
  · exact Bool.false_ne_true (h.symm.trans hsf)
  · rw [h] at hr
    revert hr
    decide

theorem execReportWtrExpiry_wtr {p : Port} {s : State} (hclk : s.Clocked) (hwtr : s.report? p = rptWtr) :
    exec (.reportWtrExpiry p) s = .next ((s.setWtr p 0).setReport p rptOk) :=
  (State.clocked_run hclk _).trans (congrArg _ (if_pos hwtr))

theorem execReportWtrExpiry_other {p : Port} {s : State} (hclk : s.Clocked) (hwtr : s.report? p ≠ rptWtr) :
    exec (.reportWtrExpiry p) s = .next s :=
  (State.clocked_run hclk _).trans (congrArg _ (if_neg hwtr))

/-! ### The statement -/

theorem completes_telemetryRecord_published {x : Telemetry} {s : State} (hup : s.coreUp = true) (htel : s.tel = some x)
    (hleft : x.left = 0) (herr : s.serviceError 15 = none) (hruns : s.serviceRuns 15 = true) :
    Completes (.telemetryRecord true) s fun t =>
      let seq := (x.seq + 1) % 2 ^ 32
      let addr := x.addr + 512 * (seq % x.len)
      let data := (s.telRecord x.mask seq).flatMap (le 4)
      t.out = ((requestCuts s.payload data.length addr data.length).map fun e =>
        Out.host e.1 ((data.drop (e.1 - addr)).take e.2)).reverse ++ s.out ∧
      t.tel = some { x with seq := seq, left := x.period } ∧ Counted Ev.MG_CTL.telPublished s t ∧ KeepsFieldsBut [] s t := by
  refine ⟨_, execTelemetryRecord_published hup htel hleft herr hruns, ?out, ?tel, s.published_counted x, (s.published_keeps x).raise _⟩
  case out => rw [State.raise_out, State.published_out]
  case tel => rw [State.raise_tel, State.published]

theorem completes_telemetryRecord_stopped {x : Telemetry} {ok : Bool} {s : State} (hup : s.coreUp = true) (htel : s.tel = some x)
    (hleft : x.left = 0) (herr : ok = false ∨ s.serviceError 15 ≠ none) :
    Completes (.telemetryRecord ok) s fun t => t.tel = none ∧ Counted Ev.MG_CTL.telStopped s t ∧ t.out = s.out ∧
      KeepsFieldsBut [] s t := by
  refine ⟨_, execTelemetryRecord_stopped hup htel hleft herr, ?tel, ?counted, ?out, ?keeps⟩
  case tel => rw [State.raise_tel]
  case counted => exact State.raise_counts { s with tel := none } _ rfl (by decide)
  case out => rw [State.raise_out]
  case keeps => exact (KeepsFieldsBut.same (u := { s with tel := none }) (.refl [] s) rfl rfl).raise _

/-- Settles O55: each clause is a lemma on the command it is about. -/
theorem controlCoresBootMoultAndReport : Obligations.ControlCoresBootMoultAndReport := by
  unfold Obligations.ControlCoresBootMoultAndReport
  refine ⟨?boot, ?recovery, ?noBoot, ?watchdog, ?lastCore, ?moultReq, ?passed, ?failed, ?noTest, ?handover, ?noHandover, ?ready, ?nmi,
    ?published, ?waits, ?stopped, ?holdoff, ?noHoldoff, ?wtr, ?noWtr⟩
  case boot =>
    exact fun i s hrun hstop h0 h1 hslot hfatal hq0 hq1 hvalid =>
      ⟨_, execBootRomStart_boots hrun hstop h0 h1 hslot hfatal, State.booted hq0 hq1 hvalid⟩
  case recovery =>
    exact fun s hrun hstop h0 h1 hslot hfatal hnone0 hnone1 =>
      ⟨_, execBootRomStart_boots hrun hstop h0 h1 hslot hfatal, State.boot_recovery hnone0 hnone1⟩
  case noBoot => exact fun s h => ⟨s, execBootRomStart_stays h, rfl⟩
  case watchdog => exact fun s hclk hrun hstandby => completes_watchdogExpiry_standby hclk hrun hstandby
  case lastCore => exact fun s hclk hrun hnone => completes_watchdogExpiry_alone hclk hrun hnone
  case moultReq => exact fun r s htakes hrun hstandby => completes_moultReq htakes hrun hstandby
  case passed => exact fun c s htest hreload => completes_coreSelfTestDone_passed htest hreload
  case failed => exact fun c s htest => completes_coreSelfTestDone_failed htest
  case noTest => exact fun b s htest => ⟨s, execCoreSelfTestDone_none htest, rfl⟩
  case handover => exact fun slot x i s hup hmoult hx hcheck hvalid => completes_moultHandover hup hmoult hx hcheck hvalid
  case noHandover => exact fun s hup hmoult => ⟨s, execMoultHandover_none hup hmoult, rfl⟩
  case ready => exact fun c s htest hreload => completes_moultStandbyReady htest hreload
  case nmi => exact fun r b s htakes => completes_nmiCauseClear htakes
  case published => exact fun x s hup htel hleft herr hruns => completes_telemetryRecord_published hup htel hleft herr hruns
  case waits => exact fun x s hup htel hleft herr hruns => ⟨s, execTelemetryRecord_waits hup htel hleft herr hruns, rfl⟩
  case stopped => exact fun x ok s hup htel hleft herr => completes_telemetryRecord_stopped hup htel hleft herr
  case holdoff =>
    exact fun p s hclk hsf hr => ⟨_, execHoldoffExpiry_sf hclk hsf hr, State.reportMoved hclk (by decide) (rpt_ne_sf hr)⟩
  case noHoldoff => exact fun p s hclk h => ⟨s, execHoldoffExpiry_quiet hclk h, rfl⟩
  case wtr =>
    exact fun p s hclk hwtr => ⟨_, execReportWtrExpiry_wtr hclk hwtr, State.reportMoved hclk (by decide) (by rw [hwtr]; decide)⟩
  case noWtr => exact fun p s hclk hwtr => ⟨s, execReportWtrExpiry_other hclk hwtr, rfl⟩

end Sys2Proof.Machine
end
